-- ==== Sys2Proof/Word.lean ====
section
/-! DEFINITION. Word sizes of the Daxeri register pages and structures (spec/00_scope.md, Notation). -/

namespace Sys2Proof

/-- One byte of memory, or of a message. -/
abbrev Byte := BitVec 8
/-- A 16-bit field. -/
abbrev W16 := BitVec 16
/-- A 32-bit register (R24). -/
abbrev W32 := BitVec 32
/-- A 64-bit register, address or counter. -/
abbrev W64 := BitVec 64

/-- A sparse table: what an unlisted key stands for is fixed by whoever reads it. -/
abbrev Tab (α : Type) := List (Nat × α)

end Sys2Proof
end

