-- ==== Sys2Proof/Syntax.lean ====
section
/-! DEFINITION. The commands the block takes (spec/opcode_table.json): one constructor per row, with the operands
the rule of the row names. Operand records that a command carries whole stand before it. -/

namespace Sys2Proof

/-- The allocation classes of R622. -/
inductive MemClass where
  | ctl | metadata | data | stream
deriving DecidableEq, Repr

/-- The error an access meets in the SC or in DRAM (R623, R638, R639). -/
inductive MemErr where
  | none | corrected | uncorrectable | tag | dramCorrected | dramUncorrectable
deriving DecidableEq, Repr

/-- A master's access to memory: the class, the address, the bytes written or the number read, the way a missing
line is allocated in, and the error met. -/
structure MemAcc where
  master : Nat
  cls : MemClass
  addr : Nat
  len : Nat
  wdata : Option (List Byte)
  way : Nat
  err : MemErr
deriving DecidableEq, Repr

/-- The bytes that an access moves. -/
def MemAcc.size (x : MemAcc) : Nat := match x.wdata with | some bs => bs.length | none => x.len

/-- A RoCEv2 packet, field by field (R501, R526): BTH, then whichever of RETH, AtomicETH, AETH, IETH and the scatter
header its opcode carries; `icrcOk` is the verdict of row 1 of R521, `ce` the ECN mark CE. Of a packet that the device sends, `ect` is the
codepoint ECT(0) (R499) and `prio` the priority it is sent at (R495). -/
structure RPkt where
  qpn : Nat := 0
  opcode : Nat := 0
  psn : Nat := 0
  pkey : Nat := 0xFFFF
  ackReq : Bool := false
  ce : Bool := false
  icrcOk : Bool := true
  va : Nat := 0
  rkey : Nat := 0
  len : Nat := 0
  swap : W64 := 0
  cmp : W64 := 0
  syndrome : Nat := 0
  msgId : Nat := 0
  path : Nat := 0
  idx : Nat := 0
  cnt : Nat := 0
  payload : List Byte := []
  ect : Bool := false
  prio : Nat := 0
deriving DecidableEq, Repr

/-- What a received frame is (R492, R493): the exception classes, a RoCEv2 packet, or anything else. -/
inductive FrameKind where
  | arp | nd | echo | lldp | roce (p : RPkt) | other
deriving DecidableEq, Repr

/-- The addresses and tags of a received frame (R491, R492, R495): destination MAC, VLAN tag (VID and PCP), the IP
destination and its version, DSCP, the frame's bytes, and whether it arrived whole with a good FCS. `snm` marks an IPv6
solicited-node multicast of one of the port's addresses. -/
structure Frame where
  dmac : BitVec 48
  bcast : Bool
  snm : Bool
  vlan : Option (Nat × Nat)
  ip : Option (Bool × BitVec 128)
  dscp : Nat
  kind : FrameKind
  bytes : List Byte
  fcsOk : Bool
deriving DecidableEq, Repr

/-- What a module's Identify data and Report Zones say when its port has trained (R408, R410): limits of 0
are unlimited. -/
structure ModId where
  nvmZns : Bool
  lba4k : Bool
  appendLimit : Nat
  zoneCap : Nat
  maxActive : Nat
  maxOpen : Nat
  reservations : Bool
  twoPorts : Bool
  nguid : Nat
  zones : Nat
deriving DecidableEq, Repr

/-- Copies of one thing, each read or unreadable. -/
abbrev Copies := List (Option (List Byte))


/-- The commands of the block: one constructor per row of spec/opcode_table.json, in the table's order. -/
inductive Instr where
  /-- CSR_REGISTER_WRITE (R30): A write to a register that has no row of its own takes effect whole, in arrival order among masters, subject to locks and reserved-bit rules. -/
  | csrRegisterWrite (master page off : Nat) (value : W32)
  /-- CSR_NARROW_ACCESS (R24): A narrow or misaligned CSR access completes with a bus error and records BAD_ACCESS. -/
  | csrNarrowAccess (master page off size : Nat) (write : Bool)
  /-- CSR_UNDEFINED_OFFSET_ACCESS (R29): An aligned access to an undefined offset of an existing page reads 0, ignores writes and records BAD_ACCESS. -/
  | csrUndefinedOffsetAccess (master page off : Nat) (write : Bool)
  /-- CSR_ABSENT_PAGE_ACCESS (R23): An access to a page number that names no page reads 0 and ignores writes without a fault. -/
  | csrAbsentPageAccess (master page off : Nat) (write : Bool)
  /-- LOW_WORD_READ (R25): A read of the low word of a 64-bit register latches its high word for the reading master. -/
  | lowWordRead (master page off : Nat)
  /-- LOW_WORD_WRITE (R26): A write of the low word of a 64-bit register is held per master and register until the high-word write. -/
  | lowWordWrite (master page off : Nat) (value : W32)
  /-- HIGH_WORD_WRITE (R26): A write of the high word commits both halves of the 64-bit register, or the high half alone when no low word is held. -/
  | highWordWrite (master page off : Nat) (value : W32)
  /-- READ_CLEAR_COUNTER_READ (R36): A read of an RC register returns its value and clears it. -/
  | readClearCounterRead (master page off : Nat)
  /-- CLK_STOPPED_TIMEOUT (R31): A CSR access to a page whose clock domain is stopped times out after 4,096 CORE cycles with a bus error and CLK_STOPPED. -/
  | clkStoppedTimeout (master page off : Nat)
  /-- PG_ENABLE (R38): A PG_CTRL write carrying ENABLE = 1 moves a page in OFF to START. -/
  | pgEnable (page : Nat) (value : W32)
  /-- PG_DISABLE (R43): A PG_CTRL write of ENABLE = 0 moves START to OFF or starts the drain towards OFF within the disable bound. -/
  | pgDisable (page : Nat) (value : W32)
  /-- RUN_REQ (R40): Writing RUN_REQ in START checks FEAT_ASK against FEAT_AVAIL and enters RUN, or records FEAT_REFUSED, or waits for READY. -/
  | runReq (page : Nat) (value : W32)
  /-- PAGE_READY (R39): The page's READY rises and a pending run request is evaluated at that instant. -/
  | pageReady (page : Nat)
  /-- QUIESCE_SET (R42): Writing QUIESCE = 1 moves a page in RUN to DRAIN, or arms it to drain on entry to RUN. -/
  | quiesceSet (page : Nat) (value : W32)
  /-- QUIESCE_CLEAR (R38): Writing QUIESCE = 0 returns a page in DRAIN or HALT to RUN. -/
  | quiesceClear (page : Nat) (value : W32)
  /-- PAGE_DRAIN_COMPLETE (R38): When no work remains in flight, a draining page moves to HALT or, when disabled, to OFF. -/
  | pageDrainComplete (page : Nat)
  /-- DISABLE_BOUND_EXPIRY (R43): At the end of the disable bound the page force-completes remaining items with ABORTED_DISABLE and enters OFF. -/
  | disableBoundExpiry (page : Nat)
  /-- SOFT_RESET (R45): Writing SOFT_RESET aborts all work of the page with ABORTED_RESET and resets both clock domains of the block. -/
  | softReset (page : Nat) (value : W32)
  /-- SOFT_RESET_COMPLETE (R45): The soft reset completes and the page ends in OFF with its registers at reset values except the kept header registers. -/
  | softResetComplete (page : Nat)
  /-- FAULT_CLR (R46): Writing FAULT_CLR clears PG_FAULT and moves a page in FAULT to OFF, and on to START when the write carries ENABLE = 1. -/
  | faultClr (page : Nat) (value : W32)
  /-- FEAT_ASK_WRITE (R41): A write to FEAT_ASK takes effect in OFF or START, and is otherwise ignored with FEAT_LATE. -/
  | featAskWrite (page idx : Nat) (value : W32)
  /-- PG_EVROUTE_WRITE (R48): A write to PG_EVROUTE moves later shared events of the page to the new target core. -/
  | pgEvrouteWrite (page : Nat) (value : W32)
  /-- PG_LOCK_WRITE (R34): Writing 1s to PG_LOCK sets lock bits that only a chip reset clears. -/
  | pgLockWrite (page : Nat) (value : W32)
  /-- QUEUE_ENTRY_ARRIVE (R51): An entry arrives on an inter-block credit queue and is taken, or records CREDIT_ERROR when no free entry exists. -/
  | queueEntryArrive (queue inst : Nat) (entry : List W32)
  /-- CREDIT_RETURN (R51): A consumer returns a credit to a producer; a return beyond the depth records CREDIT_ERROR and a fault. -/
  | creditReturn (queue inst : Nat)
  /-- FAR_SIDE_RESET (R52): A reset of one side of a crossing queue is signalled to the other, which sets XRESET, discards its half and restores credits. -/
  | farSideReset (queue inst : Nat) (consumerSide stuck : Bool)
  /-- CROSSING_FLUSH_TIMEOUT (R52): A crossing flush not completed within 4,096 cycles of the slower domain records CROSSING_BROKEN. -/
  | crossingFlushTimeout (queue inst : Nat) (consumerSide : Bool)
  /-- ENGINE_DOORBELL (R53): A write of a ring's SQ_TAIL makes posted descriptors visible to the engine, which reads each one once. -/
  | engineDoorbell (page ring : Nat) (value : W32)
  /-- ENGINE_COMPLETION_WRITE (R56): An engine writes a completion record, VALID last, once its completion ring has a free slot. -/
  | engineCompletionWrite (page ring : Nat)
  /-- EPOCH_TIMER_EXPIRY (R75): The leader's epoch timer expires and the leader closes the epoch when its drain, the follower's EP_DRAINED and the lag limit allow. -/
  | epochTimerExpiry
  /-- CLOSE_NOW (R73): Writing EPOCH_CMD.CLOSE_NOW requests an early close, acted on once the open epoch is 500 µs old. -/
  | closeNow (value : W32)
  /-- EP_CLOSE (R80): The follower receives EP_CLOSE(E), stamps E+1, discards it if E is closed, or records EPOCH_SKEW if E is later than its open epoch. -/
  | epClose (epoch : Nat)
  /-- EP_ASK (R76): The leader receives a follower's request for an early close, discarded if the close was already sent. -/
  | epAsk (epoch : Nat)
  /-- EPOCH_DRAIN_START (R67): When every forge has its last grain of E, the drain of E begins and forges end unbounded waits. -/
  | epochDrainStart
  /-- EPOCH_DRAIN_END (R68): When no forge, caster or ledger queue holds work of E, the drain ends, LAST_DRAIN latches, open ingots of E are cast and EP_DRAINED is sent. -/
  | epochDrainEnd (ns : Nat)
  /-- EP_DRAINED (R75): A head receives the partner's EP_DRAINED(E), one of the conditions for the leader's next close. -/
  | epDrained (epoch : Nat)
  /-- EPOCH_COMMIT_RECORD (R70): When E is drained, its ingots retired, its journal acknowledged and E−1 committed, the head writes its commit record and sends EP_COMMIT. -/
  | epochCommitRecord
  /-- EP_COMMIT (R589): A head receives the partner's commit record, stores it in its mirror tail and answers EP_COMMIT_ACK. -/
  | epCommit (epoch : Nat) (record : List Byte)
  /-- EP_COMMIT_ACK (R17): The partner's acknowledgement of the mirrored commit record commits E, and WC frees the dirty grains of E in both heads. -/
  | epCommitAck (epoch : Nat)
  /-- LDG_ITEM_ACCEPT (R786): The ledger accepts a journal item and places it in its epoch, writing journal records to the tail and the partner's mirror. -/
  | ldgItemAccept
  /-- DEALLOCATE_APPLY (R88): The ledger applies a deallocate hint in the epoch it processes it, setting MAPPED = 0 under the snapshot rules. -/
  | deallocateApply
  /-- CHECKPOINT_COMPLETE (R446): The checkpoint writer finishes the root node, LDG writes the CKPT record and releases older tail records. -/
  | checkpointComplete
  /-- TWIN_MISMATCH (R100): The compare buffer finds the twin cores' outputs differ; both stop, outputs are held and the judge runs its self-check. -/
  | twinMismatch (beat : Nat)
  /-- JUDGE_SELF_CHECK_DONE (R100): The judge's self-check ends and the outcome table decides retry, simplex or TWIN_BOTH_FAIL. -/
  | judgeSelfCheckDone (aPass bPass : Bool) (us : Nat)
  /-- REPAIR_A (R103): Writing TWIN_CMD.REPAIR_A resets core A and runs its self-check. -/
  | repairA (value : W32)
  /-- REPAIR_B (R103): Writing TWIN_CMD.REPAIR_B resets core B and runs its self-check. -/
  | repairB (value : W32)
  /-- REPAIR_SELF_CHECK_DONE (R103): The repaired core's self-check ends; it stays OUT or enters RESYNC. -/
  | repairSelfCheckDone (pass : Bool)
  /-- SNAP_ARM (R113): SNAP_CMD ARM adds a namespace and snapshot ID to the armed set. -/
  | snapArm (value : W32)
  /-- SNAP_TAKE (R106): SNAP_CMD TAKE pins the armed set at the epoch closed at the next close. -/
  | snapTake (value : W32)
  /-- SNAP_DELETE (R109): SNAP_CMD DELETE refiles or releases the snapshot's retained entries at the commit of the requesting epoch. -/
  | snapDelete (value : W32)
  /-- SNAP_CLONE (R110): SNAP_CMD CLONE creates a namespace whose directory entries inherit from a parent snapshot. -/
  | snapClone (value : W32)
  /-- SNAP_DISARM_ALL (R113): SNAP_CMD DISARM_ALL empties the armed set. -/
  | snapDisarmAll (value : W32)
  /-- SLAG_ENTRY_READ (R119): A read of SLAG_ENTRY_0 latches all four words of the selected slag-list entry for the master. -/
  | slagEntryRead (master : Nat)
  /-- LDG_REPLAY (R92): At start or takeover the ledger replays the tail after the checkpoint, counting only verifying epochs as committed. -/
  | ldgReplay (other : Bool)
  /-- REPLAY_DONE (R341): Replay ends with Hallmark 0x1605, and WC frees restored slots whose epoch is committed or whose namespace is not owned. -/
  | replayDone
  /-- CAPSULE_ARRIVAL (R122): XPT passes a command capsule to HQ, which parses it and, in P1 or P2, raises WAKE. -/
  | capsuleArrival (qp : Nat) (sqe icd : List Byte)
  /-- NVME_FLUSH (R126): Flush completes when every write completed before its acceptance is in a committed epoch. -/
  | nvmeFlush (qp cid : Nat)
  /-- NVME_WRITE (R135): Write allocates slots, pulls data by RDMA READ, and completes when every grain is acknowledged-ready. -/
  | nvmeWrite (qp cid : Nat)
  /-- NVME_READ (R463): Read resolves each grain from a bound slot, an own slot or the map and dispatches it to a drawplate. -/
  | nvmeRead (qp cid : Nat)
  /-- NVME_COMPARE (R126): Compare reads the range and compares it with host data, completing with Compare Failure on a mismatch. -/
  | nvmeCompare (qp cid : Nat)
  /-- NVME_WRITE_ZEROES (R126): Write Zeroes sets ZERO for whole grains and writes zeros into covered half grains. -/
  | nvmeWriteZeroes (qp cid : Nat)
  /-- NVME_DATASET_MANAGEMENT (R145): Dataset Management hands deallocate ranges to LDG and completes with Success. -/
  | nvmeDatasetManagement (qp cid : Nat)
  /-- NVME_VERIFY (R126): Verify reads and checks the range without moving data to the host. -/
  | nvmeVerify (qp cid : Nat)
  /-- INVALID_OPCODE (R126): An I/O or admin opcode that HQ does not support completes with Invalid Command Opcode. -/
  | invalidOpcode (qp cid : Nat)
  /-- FABRICS_CONNECT (R122): Connect creates a controller or I/O queue, or completes with Controller Busy when a limit would be passed. -/
  | fabricsConnect (qp cid : Nat)
  /-- PROPERTY_GET (R127): Property Get returns a controller property. -/
  | propertyGet (qp cid : Nat)
  /-- PROPERTY_SET (R132): Property Set sets a property; CC.EN = 0 deletes every queue of the controller. -/
  | propertySet (qp cid : Nat)
  /-- FABRICS_DISCONNECT (R132): Disconnect deletes the queue it arrives on and aborts its outstanding commands. -/
  | fabricsDisconnect (qp cid : Nat)
  /-- GET_LOG_PAGE (R127): Get Log Page is handed to firmware through the admin hand-off ring. -/
  | getLogPage (qp cid : Nat)
  /-- IDENTIFY (R128): Identify is handed to firmware, which must answer with the required fields. -/
  | identify (qp cid : Nat)
  /-- NVME_ABORT (R127): Abort completes with Success and the not-aborted bit set. -/
  | nvmeAbort (qp cid : Nat)
  /-- SET_FEATURES (R127): Set Features is handed to firmware through the admin hand-off ring. -/
  | setFeatures (qp cid : Nat)
  /-- GET_FEATURES (R127): Get Features is handed to firmware through the admin hand-off ring. -/
  | getFeatures (qp cid : Nat)
  /-- ASYNCHRONOUS_EVENT_REQUEST (R127): An Asynchronous Event Request is held, or refused beyond 16 outstanding per controller. -/
  | asynchronousEventRequest (qp cid : Nat)
  /-- KEEP_ALIVE (R127): Keep Alive is answered at once, even during a hold. -/
  | keepAlive (qp cid : Nat)
  /-- ADMIN_REPLY (R160): A write to ADMIN_REPLY_3 posts firmware's reply: data is RDMA-written and the completion sent. -/
  | adminReply (value : W32)
  /-- WRITE_DATA_LANDED (R131): The last byte of a write lands and WC may mark its grains acknowledged-ready in grain order. -/
  | writeDataLanded (qp cid : Nat)
  /-- KATO_EXPIRY (R125): A controller's keep-alive timeout passes with no command; HQ deletes its queues and removes it. -/
  | katoExpiry (ctrl : Nat)
  /-- HQ_HOLD_WRITE (R150): A write of HQ_HOLD.HOLD starts or ends a hold; at the end held completions are posted and dispatch resumes. -/
  | hqHoldWrite (value : W32)
  /-- HOLD_EXPIRY (R150): A hold still set after 150 ms is cleared by HQ, which sets HOLD_EXPIRED. -/
  | holdExpiry
  /-- QOS_BUCKET_REFILL (R152): Every 10 µs the namespace token buckets refill and held commands may dispatch. -/
  | qosBucketRefill
  /-- QOS_WINDOW_END (R155): At each 100 ms window HQ counts reservation misses in QOS_MISS. -/
  | qosWindowEnd
  /-- QOS_MIN_WRITE (R153): A write to QOS_MIN is refused and counted when it would take the sum of reservations above QOS_CAP. -/
  | qosMinWrite (value : W32)
  /-- NS_CFG_WRITE (R159): A write to NS_CFG changing DOMAIN or PI while ACTIVE is ignored with CTRL_CONFLICT. -/
  | nsCfgWrite (value : W32)
  /-- POWER_EXIT_COMPLETE (R149): The exit from P1 or P2 completes and parked commands are dispatched. -/
  | powerExitComplete
  /-- FORGE_HANDLE (R165): A forge takes a grain handle from WC, or records HANDLE_INVALID on a wrong epoch or reserved bit. -/
  | forgeHandle (forge : Nat) (handle : List Byte)
  /-- GRAIN_INTAKE_DONE (R167): Intake ends with the CRC check, zero test, fingerprint and compressed length; a lookup or refetch follows. -/
  | grainIntakeDone (forge seq : Nat) (uncorr : Bool)
  /-- GRAIN_REFETCH_DATA (R167): The other copy of a grain arrives after a CRC failure and the forge continues with it or slags the grain. -/
  | grainRefetchData (forge seq : Nat)
  /-- REFETCH_TIMEOUT (R167): The other copy has not arrived within 4 µs and the grain is handed in as SLAG. -/
  | refetchTimeout (forge seq : Nat)
  /-- LOOKUP_ANSWER (R175): Assay answers an index lookup as a confirmed hit, a miss with a PENDING entry, or CANDIDATE under VERIFY. -/
  | lookupAnswer (forge seq : Nat)
  /-- PENDING_TIMEOUT (R179): A lookup waiting on a PENDING entry for 4 µs answers a miss and removes a stale PENDING entry. -/
  | pendingTimeout (forge seq : Nat)
  /-- INDEX_PAGE_FETCH_DONE (R182): A non-resident index page arrives and waiting lookups are evaluated. -/
  | indexPageFetchDone (page : Nat)
  /-- LOOKUP_BUDGET_EXPIRY (R182): A lookup not answered within LOOKUP_BUDGET answers MISS_LATE. -/
  | lookupBudgetExpiry (forge seq : Nat)
  /-- SEAL_DONE (R190): The forge's Tinning unit finishes sealing a body and the grain may be handed in. -/
  | sealDone (forge seq : Nat)
  /-- KEY_WAIT_RETRY (R188): Every 100 µs, or on a new key generation, the forge retries a held seal. -/
  | keyWaitRetry (forge : Nat)
  /-- BILLET_GRANT (R184): ING grants a forge or Anneal a 256 KiB billet of an open ingot. -/
  | billetGrant (holder : Nat)
  /-- VERIFY_PLAINTEXT (R194): The stored grain's plaintext arrives for verify-on-hit; equal bytes take a reference, else the grain is stored as a miss. -/
  | verifyPlaintext (forge seq : Nat)
  /-- VERIFY_TIMEOUT (R194): The verify plaintext has not arrived within VERIFY_BUDGET and the grain is stored as a miss. -/
  | verifyTimeout (forge seq : Nat)
  /-- HAND_IN_BODY (R371): ING receives a BODY hand-in and places it in the casting buffer; its map change passes at retire. -/
  | handInBody (forge : Nat)
  /-- HAND_IN_REF (R371): ING receives a REF hand-in and passes the map change to LDG. -/
  | handInRef (forge : Nat)
  /-- HAND_IN_ZERO (R371): ING receives a ZERO hand-in and passes the map change to LDG. -/
  | handInZero (forge : Nat)
  /-- HAND_IN_SLAG (R371): ING receives a SLAG hand-in; LDG maps it as lost and adds a slag-list entry. -/
  | handInSlag (forge : Nat)
  /-- HAND_IN_CULL (R186): ING receives a CULL, fills it with zeros and counts it dead at the commit. -/
  | handInCull (forge : Nat)
  /-- FLT_CLEAR (R202): Writing FLT_CTRL.CLEAR invalidates every filter entry within 16,384 cycles. -/
  | fltClear (value : W32)
  /-- DOM_CFG_WRITE (R193): A write to DOM_CFG sets a domain's dedup settings for the next epoch forged. -/
  | domCfgWrite (value : W32)
  /-- ASY_HASH (R208): HASH absorbs message bytes and writes the digest at LAST. -/
  | asyHash (ring lane bytes : Nat) (ok : Bool)
  /-- ASY_HMAC (R217): HMAC computes a keyed digest with a key slot's key. -/
  | asyHmac (ring lane bytes : Nat) (ok : Bool)
  /-- ASY_HASH_CMP (R221): HASH_CMP computes a digest and compares it with AUX through two comparators. -/
  | asyHashCmp (ring lane bytes : Nat) (ok : Bool) (odd : Option (Nat × Nat))
  /-- ASY_HMAC_CMP (R221): HMAC_CMP computes a keyed digest and compares it with AUX. -/
  | asyHmacCmp (ring lane bytes : Nat) (ok : Bool) (odd : Option (Nat × Nat))
  /-- ASY_CTX_EXPORT (R225): CTX_EXPORT writes a context image, wrapped when keyed. -/
  | asyCtxExport (ring lane : Nat) (ok : Bool)
  /-- ASY_CTX_IMPORT (R226): CTX_IMPORT fills an empty context from an image, failing with CHECK_FAIL on a bad unwrap. -/
  | asyCtxImport (ring lane : Nat) (ok : Bool)
  /-- ASY_CTX_CLEAR (R223): CTX_CLEAR zeroises an Assay context and marks it EMPTY. -/
  | asyCtxClear (ring lane : Nat) (ok : Bool)
  /-- ASY_PREEMPT_SAVE (R228): A preempted lane stops at a block boundary, saves into CTX_ID and writes an interim BUSY_PREEMPTED completion. -/
  | asyPreemptSave (ring : Nat)
  /-- GLANE_RESTORE (R232): Writing GEN_CMD.GLANE_RESTORE runs a self-check on an out lane and returns it to service on a pass. -/
  | glaneRestore (value : W32) (pass : Nat)
  /-- RES_SEQ_READ (R216): A read of an Assay lane's RES_SEQ latches its result block for the reading master. -/
  | resSeqRead (master lane : Nat)
  /-- RING_DISABLE (R238): Writing RING_CFG.EN = 0 completes the ring's unstarted descriptors with ABORTED_DISABLE after the running one. -/
  | ringDisable (page ring : Nat) (value : W32)
  /-- CRU_COMPRESS (R253): COMPRESS compresses SRC into DST within LIMIT, with raw fallback under RAW_OK. -/
  | cruCompress (ring unit : Nat) (checkOk : Bool) (badAt : Nat)
  /-- CRU_DECOMPRESS (R254): DECOMPRESS decompresses SRC into DST, stopping with PARTIAL or LIMIT_EXCEEDED as space and limit dictate. -/
  | cruDecompress (ring unit : Nat)
  /-- CRU_CTX_CLEAR (R259): CTX_CLEAR zeroises a Crucible context and its history and marks it EMPTY. -/
  | cruCtxClear (ring unit : Nat)
  /-- GUNIT_RESTORE (R262): Writing GEN_CMD.GUNIT_RESTORE runs a general unit's self-check and returns it on a pass. -/
  | gunitRestore (value : W32) (pass : Nat)
  /-- GCM_SEAL (R297): GCM_SEAL encrypts under a LINK key with nonce SALT and a granted use number. -/
  | gcmSeal (ring unit : Nat) (ok : Bool)
  /-- GCM_OPEN (R295): GCM_OPEN decrypts and verifies the tag, marking output untrusted on TAG_FAIL. -/
  | gcmOpen (ring unit : Nat) (ok : Bool)
  /-- XTS_ENC (R284): XTS_ENC encrypts data units under an XTS key from the starting tweak. -/
  | xtsEnc (ring unit : Nat) (ok : Bool)
  /-- XTS_DEC (R284): XTS_DEC decrypts data units under an XTS key from the starting tweak. -/
  | xtsDec (ring unit : Nat) (ok : Bool)
  /-- KEY_LOAD (R286): KEY_LOAD unwraps a key blob into an empty slot and binds generation entries of its KEY_ID. -/
  | keyLoad (ring unit : Nat) (ok : Bool)
  /-- KEY_ERASE (R288): KEY_ERASE zeroises a slot, optionally forgetting its count-table entry. -/
  | keyErase (ring unit : Nat) (ok : Bool)
  /-- KEYGEN_INSTALL (R277): KEYGEN_CMD INSTALL fixes a new generation entry, holds the domain's seals and writes and mirrors the entry. -/
  | keygenInstall (value : W32)
  /-- KEYGEN_RETIRE (R280): KEYGEN_CMD RETIRE invalidates the oldest valid generation of a domain and sends the change to the partner. -/
  | keygenRetire (value : W32)
  /-- KEYGEN_EFFECT (R277): Once the quench-store write and the partner's J_ACK complete, the new generation takes effect and held seals resume. -/
  | keygenEffect
  /-- KEYGEN (R281): A KEYGEN message writes a partner generation entry into the PARTNER half; END invalidates unwritten entries. -/
  | keygen (dom gen : Nat) (retire last straddle : Bool) (keyId : W64) (first : Nat)
  /-- USE_GRANT (R293): Tinning grants a seal a use number, refusing with KEY_EXHAUSTED at the limit and warning at 90 %. -/
  | useGrant (slot unit uses : Nat)
  /-- CEILING_WRITE_DONE (R294): The count-table ceiling write to the quench store completes and waiting use grants proceed. -/
  | ceilingWriteDone (slot : Nat)
  /-- TIN_UNIT_RESTORE (R301): Writing a GEN_CMD restore bit runs a port or general unit's self-check and returns it on a pass. -/
  | tinUnitRestore (value : W32) (pass : Nat)
  /-- SLOT_LANDING_DONE (R314): A slot finishes landing, R313 fills from an older copy, MIR_GRAIN is sent and the slot becomes HELD. -/
  | slotLandingDone (slot : Nat)
  /-- MIR_GRAIN (R314): The partner writes a mirrored grain and header into its mirror slot and answers MIR_ACK or MIR_NAK. -/
  | mirGrain (slot : Nat) (header data : List Byte) (uncorrectable : Bool)
  /-- MIR_ACK (R314): The owner receives MIR_ACK and sets MIRRORED on the slot. -/
  | mirAck (slot : Nat)
  /-- MIR_NAK (R318): The owner receives MIR_NAK and enters DEGRADED, writing not-ready grains through. -/
  | mirNak (slot cause : Nat)
  /-- MIRROR_TIMEOUT (R318): No MIR_ACK within MIRROR_TMO_US; WC resends, and enters DEGRADED after the last retry. -/
  | mirrorTimeout (slot : Nat)
  /-- SLOT_READY (R315): A slot meeting the landed, mirrored and ordering conditions becomes READY, is stamped and MIR_STAMP is sent. -/
  | slotReady (slot : Nat)
  /-- MIR_STAMP (R77): The partner records the owner's stamp on mirrored slots without restamping. -/
  | mirStamp (epoch : Nat) (slots : List Nat)
  /-- MIR_RELEASE (R316): The partner frees the named mirror slots of a failed write. -/
  | mirRelease (slots : List Nat)
  /-- MIR_FREE (R321): The partner frees every mirror slot stamped at or before the named committed epoch. -/
  | mirFree (epoch : Nat)
  /-- MIR_HOLD (R324): A head receives the partner's H and SHARE_PCT and recomputes its budget. -/
  | mirHold (h share : Nat)
  /-- MIR_QUENCH (R337): A head learns its partner began a quench, stops mirroring and enters DEGRADED. -/
  | mirQuench
  /-- WRITE_THROUGH_DONE (R317): A single or degraded head's write-through of a grain to the quench image completes and INQ is set. -/
  | writeThroughDone (slot : Nat)
  /-- MIRROR_RESUME (R318): Writing WC_CMD.MIRROR_RESUME leaves DEGRADED or single mode for pair mode. -/
  | mirrorResume (value : W32)
  /-- OVER_BUDGET_CLOSE_TICK (R326): Every 500 µs while OVER_BUDGET holds, WC asks LDG for an early close. -/
  | overBudgetCloseTick
  /-- HOLD_SENSE_SAMPLE (R327): Every 100 µs AON samples HOLD_SENSE. -/
  | holdSenseSample (code : Nat)
  /-- HOLD_ENERGY_RECOMPUTE (R327): Every 1 ms WC recomputes HOLD_ENERGY, H, the budget, NEED_MJ and COVERS. -/
  | holdEnergyRecompute
  /-- HOLD_TEST_START (R328): Every HOLD_TEST_S seconds AON drives HOLD_LOAD_N low to draw the test load. -/
  | holdTestStart
  /-- TEST_NOW (R328): Writing HOLD_CMD.TEST_NOW starts a capacitance test at once. -/
  | testNow (value : W32)
  /-- HOLD_TEST_END (R328): After 20 ms AON measures the droop, writes HOLD_CAP and Hallmark 0x1A06. -/
  | holdTestEnd (droopUv : Nat)
  /-- HOLD_TRIP (R329): HOLD_SENSE below HOLD_TRIP_MV for 2 µs starts a quench. -/
  | holdTrip (uv : Nat)
  /-- ADOPTION_COMPLETE (R330): The survivor finishes copying adopted grains, renumbers and stamps them, and writes Hallmark 0x1A07. -/
  | adoptionComplete
  /-- CATCHUP_DONE (R332): A newly single head finishes copying READY slots without INQ into the quench image. -/
  | catchupDone
  /-- PWRFAIL_N_LOW (R770): PWRFAIL_N low for 2 µs starts a quench. -/
  | pwrfailNLow
  /-- QUENCH_START (R333): PWR enters Q, HQ and the engines stop, LDG abandons its commit and the sequencer writes the control record. -/
  | quenchStart (trigger : Nat)
  /-- QUENCH_DIR_DONE (R334): The sequencer finishes the directory pass and sets DIR_DONE. -/
  | quenchDirDone
  /-- QUENCH_DATA_DONE (R334): The sequencer finishes the data pass, sets COMPLETE and writes Hallmark 0x0802. -/
  | quenchDataDone (lost : List Nat)
  /-- QUENCH_RAIL_RELEASE (R336): PWR releases the rails other than VIN_AON, or applies a chip reset 1 ms later when VIN holds. -/
  | quenchRailRelease (vinHolds : Bool)
  /-- RESTORE_LOAD (R341): At start WC reads the control record and loads valid directory entries with their data into own slots. -/
  | restoreLoad
  /-- RESTORE_DONE (R343): WC restamps remaining slots, rewrites the control record with QGEN + 1 and writes RESTORE_DONE. -/
  | restoreDone
  /-- CAST_START (R369): An ingot is full or its epoch drained; k′ is fixed, PLN grants zones, parity is final and the CAST entry is journalled. -/
  | castStart (ingot : Nat)
  /-- SJ_ENTRY (R589): The partner stores a stripe-journal entry in its mirror ring and answers J_ACK. -/
  | sjEntry (slot : Nat) (entry : List Byte)
  /-- SJ_MARK (R589): The partner stores a MARK in its mirror ring and answers J_ACK. -/
  | sjMark (slot : Nat) (mark : W64)
  /-- LJ_RECORD (R589): The partner stores a ledger-journal record in its mirror tail and answers J_ACK. -/
  | ljRecord (jseq : Nat) (record : List Byte)
  /-- J_ACK (R589): A head receives the partner's acknowledgement that a journal copy is written, unblocking the waiting step. -/
  | jAck (kind arg : Nat)
  /-- JOURNAL_ACK_TIMEOUT (R374): A missing journal acknowledgement is resent, and WC enters DEGRADED after the last retry. -/
  | journalAckTimeout (jseq : Nat)
  /-- MEMBER_APPEND_DONE (R370): A member's Zone Append completes; a mismatched LBA counts as failure; the last one retires the ingot. -/
  | memberAppendDone (ingot member lba : Nat)
  /-- APPEND_FAIL (R373): A member's append fails; ING takes a new zone, writes an AMEND entry and appends again. -/
  | appendFail (ingot member : Nat)
  /-- AMEND_RETRY_TICK (R373): Every 1 ms with no eligible module, ING retries the amend with CAST_STALL set. -/
  | amendRetryTick
  /-- JOURNAL_RESOLVE (R376): At start ING resolves every open stripe-journal entry against the committed epoch and write pointers. -/
  | journalResolve (mirror : Bool) (wps : List (Nat × Nat))
  /-- DETOUR_EXPIRY (R379): A member read outstanding for the detour threshold is served by reconstruction. -/
  | detourExpiry (drp a b grain : Nat)
  /-- EJECT_TIMEOUT (R381): A command outstanding for EJECT_MS ejects its module with cause TIMEOUT, unless deferred. -/
  | ejectTimeout (module : Nat)
  /-- MOD_EJECT (R381): Writing ING.MOD_CMD.EJECT ejects the selected module with cause FIRMWARE. -/
  | modEject (value : W32)
  /-- DEFERRED_EJECT (R383): The deferred eject takes place once no margin-0 or SEAL ingot with a member on the module remains. -/
  | deferredEject (module : Nat)
  /-- REBUILD_SCAN (R385): At each eject or start ING scans the ingot table and files degraded ingots by margin. -/
  | rebuildScan
  /-- REBUILD_START (R389): Rebuild claims the next queued ingot, takes pool chunks and reads the surviving members. -/
  | rebuildStart
  /-- REBUILD_DECODE_DONE (R390): Every row is decoded or marked slag; replacement zones are taken and a REBUILD entry written. -/
  | rebuildDecodeDone (ingot : Nat) (answers : List (Nat × List Byte × List Nat))
  /-- REBUILD_APPENDS_DONE (R389): All replacement appends complete; REPLACE items and extents go to LDG and the entry is retired. -/
  | rebuildAppendsDone (ingot : Nat)
  /-- REBUILD_BUCKET_REFILL (R387): Every 10 µs the rebuild read bucket refills at REBUILD_GBPS or URGENT_GBPS. -/
  | rebuildBucketRefill
  /-- SWEEP_PASS_START (R397): With an EXTENT pending, LDG starts a pass over every map leaf and retention table. -/
  | sweepPassStart
  /-- SWEEP_PASS_END (R397): A sweep pass ends; pending extents are removed and Hallmark 0x1708 written. -/
  | sweepPassEnd
  /-- MODULE_LINK_UP (R410): A module's port trains and PLN checks its Identify data to admit or refuse it. -/
  | moduleLinkUp (port rate width ltssm : Nat) (ident : ModId)
  /-- MODULE_ADMIT (R412): PLN.MOD_CMD.ADMIT admits a NEW or EJECTED module and resets its own-half zones. -/
  | moduleAdmit (value : W32)
  /-- MODULE_RETIRE (R423): PLN.MOD_CMD.RETIRE makes a module READ_ONLY for evacuation. -/
  | moduleRetire (value : W32)
  /-- PRESENCE_LOST (R409): A module's presence falls and FLX drops the link. -/
  | presenceLost (port : Nat)
  /-- RETRAIN_TIMEOUT (R409): A link not back within RETRAIN_MS records LINK_LOST and the port enters FAULT. -/
  | retrainTimeout (port : Nat)
  /-- SIDEBAND_POLL (R409): Every 1 s FLX reads each module's presence, power and temperature over I3C. -/
  | sidebandPoll (port : Nat) (present power : Bool) (temp : Byte)
  /-- HEALTH_POLL (R422): Every HEALTH_S PLN reads Report Zones and SMART, marking zones OFFLINE or WORN and modules READ_ONLY. -/
  | healthPoll (module : Nat) (offline worn : List Nat) (smart : Bool)
  /-- CHUNK_GRANT (R420): ING asks PLN for n chunks on distinct eligible modules, granted from the class cursor. -/
  | chunkGrant (ingot : Nat)
  /-- ZONE_RESET_DONE (R415): A Zone Reset completes; RESETS rises and the zone is EMPTY, or OFFLINE on failure. -/
  | zoneResetDone (module zone : Nat) (ok : Bool)
  /-- ZONE_RETURN (R418): A head receives back a zone of its parity from the survivor and may open it. -/
  | zoneReturn (zone : Nat)
  /-- ANL_WORK_SELECT (R430): Anneal runs when free space falls below START_PCT or work waits, and takes work in priority order. -/
  | anlWorkSelect
  /-- RELOCATION_CLAIM (R433): Anneal claims an ingot RELOCATING and marks its bodies' index entries MOVING. -/
  | relocationClaim (ingot : Nat)
  /-- RELOCATION_COPY (R433): After the claim commits, Anneal reads, opens and reseals each live body into its own ingot. -/
  | relocationCopy (drp ingot : Nat) (gloc : W64) (body : List Byte)
  /-- MEMBER_MOVE (R436): Anneal copies one member chunk to a new zone under a REBUILD entry and passes a REPLACE item. -/
  | memberMove (ingot member : Nat) (data : List Byte)
  /-- ANL_BUCKET_REFILL (R437): Every 10 µs Anneal's read bucket refills. -/
  | anlBucketRefill
  /-- REKEY_START (R439): Writing REKEY_CMD.START makes Anneal relocate every ingot cast in the REKEY range. -/
  | rekeyStart (value : W32)
  /-- REKEY_DONE (R439): No ingot of the range remains; DONE is set and REKEY_DONE raised. -/
  | rekeyDone
  /-- SPINE_READ (R449): A spine page is read from its three copies; all failing records SPINE_LOST. -/
  | spineRead (dst pid : Nat) (copies : Copies)
  /-- STARTUP_RECONCILE (R451): At start PLN reconciles open zones' write pointers against the ingot table and journal. -/
  | startupReconcile (mirror : Bool) (wps : List (Nat × Nat))
  /-- NVME_COMMAND_COMPLETION (R408): FLX polls a module's completion of a Read, Zone Append or management command and passes it on. -/
  | nvmeCommandCompletion (module op zone : Nat) (ok : Bool)
  /-- RESERVATION_REGISTER (R759): At FLX READY the port registers its reservation key and acquires the reservation if none is held. -/
  | reservationRegister (port : Nat) (held peer : Bool)
  /-- HOST_READ (R469): A drawplate reads, opens, decompresses and checks a grain for a host read. -/
  | hostRead (drp qp cid grain : Nat)
  /-- HOST_VERIFY (R477): A drawplate checks a grain without handing data to XPT. -/
  | hostVerify (drp qp cid grain : Nat)
  /-- HOST_COMPARE (R477): A drawplate compares a grain's plaintext and PI with the landed compare data. -/
  | hostCompare (drp qp cid grain : Nat)
  /-- FILL (R320): A drawplate reads a missing block from the committed map into a slot before forging. -/
  | fill (slot : Nat) (data pi : List Byte)
  /-- VERIFY_HIT (R477): A drawplate delivers a stored grain's plaintext to the requesting forge. -/
  | verifyHit (forge seq : Nat)
  /-- PAGE (R464): A drawplate reads and decrypts a metadata page body and checks its trailer. -/
  | page (drp dst pid : Nat) (loc : W64) (body again : Option (List Byte))
  /-- RESEAL (R546): A drawplate opens a body and hands its payload to Tinning for resealing or to RPL. -/
  | reseal (drp group : Nat) (body : Option (List Byte))
  /-- MEMBER_READ_DONE (R468): A member read returns its rows and the drawplate opens and checks the body. -/
  | memberReadDone (drp a b grain : Nat) (rows : Option (List Byte))
  /-- RECONSTRUCT_READS_DONE (R472): The reconstruction reads arrive, the row is decoded and the grain passes or fails. -/
  | reconstructReadsDone (drp a b grain : Nat) (answers : List (Nat × List Byte))
  /-- READ_LIMIT_EXPIRY (R475): A grain not delivered within READ_LIMIT_MS completes with Unrecovered Read Error. -/
  | readLimitExpiry (qp cid grain : Nat)
  /-- RC_FILTER_CLEAR (R479): Every 1 s the second-miss filter of the read cache is cleared. -/
  | rcFilterClear
  /-- RC_CLEAR (R481): Writing RC_CTRL.CLEAR drops every read-cache entry within 10 ms. -/
  | rcClear (value : W32)
  /-- NET_MODE_WRITE (R490): A write of NET_MODE selects the port mode, ignored unless every NET page is OFF and octets suffice. -/
  | netModeWrite (value : W32)
  /-- FRAME_RECEIVE (R492): A port receives a frame and filters, classifies and routes it to XPT, the exception ring or a drop. -/
  | frameReceive (port : Nat) (f : Frame)
  /-- EXC_TX_SEND (R494): A write of EXC_TX_IDX.PROD makes XPT send firmware's frames from the transmit exception ring. -/
  | excTxSend (value : W32)
  /-- PFC_XOFF_REFRESH (R496): At half the quanta time the port refreshes its XOFF. -/
  | pfcXoffRefresh (port prio : Nat)
  /-- PAUSE_RECEIVE (R497): A received XOFF or XON stops or resumes a priority and freezes or resumes retransmission timers. -/
  | pauseReceive (port prio quanta : Nat)
  /-- PAUSE_EXPIRY (R497): Pause quanta expire and the priority resumes sending. -/
  | pauseExpiry (port prio : Nat)
  /-- PFC_STORM_ENTRY (R498): A priority paused for WDOG_MS enters storm and ignores pause frames. -/
  | pfcStormEntry (port prio : Nat)
  /-- PFC_STORM_EXIT (R498): No pause frame for WDOG_MS ends storm for the priority. -/
  | pfcStormExit (port prio : Nat)
  /-- TEMPER_RISE (R500): Every RISE_US without a cut a queue pair's rate and target rise. -/
  | temperRise (qp : Nat)
  /-- CNP (R500): A received CNP cuts the queue pair's rate. -/
  | cnp (port : Nat) (p : RPkt)
  /-- ROCE_SEND (R501): A SEND packet is received into a receive buffer, with invalidate where present. -/
  | roceSend (port : Nat) (p : RPkt)
  /-- RDMA_WRITE (R514): An RDMA WRITE packet is checked against its window and placed. -/
  | rdmaWrite (port : Nat) (p : RPkt)
  /-- RDMA_READ_REQUEST (R514): An RDMA READ request is checked against its window and answered with responses. -/
  | rdmaReadRequest (port : Nat) (p : RPkt)
  /-- RDMA_READ_RESPONSE (R520): An RDMA READ response delivers data to its requester, with length excess or shortfall handled. -/
  | rdmaReadResponse (port : Nat) (p : RPkt)
  /-- ROCE_ACK (R506): An ACK or NAK acknowledges or rejects sent packets; a sequence NAK triggers resend. -/
  | roceAck (port : Nat) (p : RPkt)
  /-- RNR_NAK (R508): An RNR NAK is honoured with its timer, and exceeding the RNR retry moves the queue pair to ERROR. -/
  | rnrNak (port : Nat) (p : RPkt)
  /-- COMPARE_AND_SWAP (R518): A Compare and Swap executes atomically on 8 DDR-5 bytes. -/
  | compareAndSwap (port : Nat) (p : RPkt)
  /-- FETCH_AND_ADD (R518): A Fetch and Add executes atomically on 8 DDR-5 bytes. -/
  | fetchAndAdd (port : Nat) (p : RPkt)
  /-- SP_WRITE (R527): A scatter-placement write packet is checked, placed and its bitmap bit set. -/
  | spWrite (port : Nat) (p : RPkt)
  /-- SP_SEND (R527): A scatter-placement send packet is placed and its bitmap bit set. -/
  | spSend (port : Nat) (p : RPkt)
  /-- SP_READ_RESP (R527): A scatter-placement read response packet is placed and its bitmap bit set. -/
  | spReadResp (port : Nat) (p : RPkt)
  /-- SP_NAK (R530): A received SP_NAK makes the sender resend the missing packets it names. -/
  | spNak (port : Nat) (p : RPkt)
  /-- SP_GAP_EXPIRY (R530): GAP_US with no arrival for an incomplete message sends an SP_NAK. -/
  | spGapExpiry (qp msgId : Nat)
  /-- RETRANSMIT_TIMEOUT (R506): A queue pair's retransmission timer expires; it resends, or enters ERROR after RETRIES. -/
  | retransmitTimeout (qp : Nat)
  /-- CTX_FETCH_DONE (R510): A queue pair context fetch completes and parked packets are processed in order. -/
  | ctxFetchDone (qp : Nat) (uncorrectable : Bool)
  /-- QP_INIT (R503): QP_CMD INIT moves a queue pair from RESET to INIT. -/
  | qpInit (value : W32)
  /-- QP_RTR (R525): QP_CMD RTR loads the attribute block and moves INIT to RTR. -/
  | qpRtr (value : W32)
  /-- QP_RTS (R507): QP_CMD RTS moves RTR to RTS in cautious mode. -/
  | qpRts (value : W32)
  /-- QP_ERROR (R504): A queue pair enters ERROR, flushing its operations with FLUSHED. -/
  | qpError (qp cause : Nat)
  /-- QP_RESET (R503): QP_CMD RESET returns a queue pair to RESET. -/
  | qpReset (value : W32)
  /-- QP_QUERY (R505): QP_CMD QUERY loads the attribute block from the context. -/
  | qpQuery (value : W32)
  /-- QP_TEST (R507): QP_CMD TEST puts the queue pair into cautious mode. -/
  | qpTest (value : W32)
  /-- WIN_OPEN (R515): WIN_CMD OPEN opens a window within 200 ns. -/
  | winOpen (value : W32)
  /-- WIN_REVOKE (R515): WIN_CMD REVOKE raises the window GEN and keeps BUSY until old accesses finish. -/
  | winRevoke (value : W32)
  /-- REVOKE_DRAINED (R515): Accesses checked before a revoke have finished and WIN_RESULT.BUSY falls. -/
  | revokeDrained (win : Nat)
  /-- GRP_START (R541): GRP_CMD START starts a replication group, refused unless its queue pair is in RTS with USER RPL. -/
  | grpStart (value : W32)
  /-- GRP_SHIP_NOW (R556): GRP_CMD SHIP_NOW starts the next delta at once. -/
  | grpShipNow (value : W32)
  /-- GRP_RESUME (R559): GRP_CMD RESUME reads the control block, retakes the lease and continues or restarts the delta. -/
  | grpResume (value : W32)
  /-- GRP_STOP (R565): GRP_CMD STOP stops a replication group. -/
  | grpStop (value : W32)
  /-- GRP_FULL (R565): GRP_CMD FULL makes the next delta FULL. -/
  | grpFull (value : W32)
  /-- GRP_NS_ADD (R540): GRP_NSCMD ADD adds a member namespace pair to a group. -/
  | grpNsAdd (value : W32)
  /-- GRP_NS_REMOVE (R540): GRP_NSCMD REMOVE removes a member namespace from a group. -/
  | grpNsRemove (value : W32)
  /-- DELTA_START (R547): Once the delta's snapshot pin takes effect, RPL starts reading and shipping changed grains. -/
  | deltaStart (group : Nat)
  /-- SHIP_TIMER (R556): SHIP_MS after the start of a delta, the next delta may start. -/
  | shipTimer (group : Nat)
  /-- SEGMENT_SEALED (R551): A segment's seal completes and it is RDMA-written into its slot. -/
  | segmentSealed (group : Nat)
  /-- SEGMENT_WRITE_ACK (R552): The segment write is acknowledged and the source issues Compare and Swap on PUBLISHED. -/
  | segmentWriteAck (group : Nat)
  /-- PUBLISH_RESULT (R552): The publish atomic returns; a wrong value puts the group in RESYNC. -/
  | publishResult (group : Nat)
  /-- CONTROL_POLL (R553): Every POLL_US the source reads the target control block and acts on STATUS and APPLIED_DELTA. -/
  | controlPoll (group : Nat)
  /-- SEGMENT_APPLY (R554): The target finds PUBLISHED = CONSUMED + 1, opens and checks the segment and applies or refuses it. -/
  | segmentApply (group : Nat)
  /-- SEGMENT_APPLIED (R555): Every record of the segment is acknowledged-ready; LAST_U, STATUS and CONSUMED are written. -/
  | segmentApplied (group : Nat)
  /-- LEASE_RENEW (R557): Every LEASE_MS the source renews or retries its lease by Compare and Swap. -/
  | leaseRenew (group : Nat)
  /-- LEASE_CHECK (R558): Every LEASE_MS the target checks LEASE and clears it after LEASE_MISS unchanged checks. -/
  | leaseCheck (group : Nat)
  /-- FLIT_RECEIVE (R576): A MSG flit is accepted in order after FEC and CRC, or the first failure sends a NAK. -/
  | flitReceive (flit : List Byte) (corrected : Nat) (fecFailed : Bool)
  /-- ALIGN_FLIT (R569): An alignment flit deskews the lanes of the active set. -/
  | alignFlit
  /-- NAK (R577): A received NAK record makes the sender resend every MSG flit from the named FSEQ. -/
  | nak (fseq : Nat)
  /-- ACK_TIMER (R576): Every 64 ns with an unsent acknowledgement the receiver sends an ACK_VALID header. -/
  | ackTimer
  /-- RETRY_TIMEOUT (R577): RETRY_TMO_US without progress resends unacknowledged flits; RETRY_MAX takes the link down. -/
  | retryTimeout
  /-- LANE_LOCK (R582): Equalisation and lock complete on the lanes and alignment flits follow. -/
  | laneLock (lanes : W32)
  /-- HELLO_TIMER (R579): Every 1 µs during link-up each head sends HELLO. -/
  | helloTimer
  /-- HELLO (R580): A received HELLO is checked; mismatches refuse link-up, and mutual SEEN brings the link UP. -/
  | hello (record : List Byte)
  /-- RETRAIN (R580): Writing LINK_CMD.RETRAIN trains the link again after a refusal or DOWN. -/
  | retrain (value : W32)
  /-- LANE_FAIL (R583): A lane losing lock or exceeding the error rate is failed and the heads narrow the link. -/
  | laneFail (lanes : W32)
  /-- NARROW (R583): A received NARROW record agrees the new width and failed-lane map. -/
  | narrow (width : Nat) (lanes : W32)
  /-- LINK_WIDEN (R584): Lanes of a wider width clean for 1 s widen the link in place. -/
  | linkWiden (lanes : W32)
  /-- DROP (R585): A received DROP record takes the link down. -/
  | dropMsg (cause : Nat)
  /-- NO_FLIT_TIMEOUT (R585): 2 µs without a good flit takes the link down. -/
  | noFlitTimeout
  /-- FETCH_SLOT (R590): The partner answers a request for a mirror slot with SLOT_DATA or FETCH_NAK within 2 µs. -/
  | fetchSlot (slot : Nat) (readable : Bool)
  /-- SLOT_DATA (R590): A fetched slot copy arrives for a refetch. -/
  | slotData (slot : Nat) (header data : List Byte)
  /-- FETCH_LJ (R590): The partner answers a request for ledger-journal records with LJ_DATA or FETCH_NAK. -/
  | fetchLj (jseq count : Nat)
  /-- LJ_DATA (R93): Fetched ledger-journal records arrive and are verified in place of a failing own span. -/
  | ljData (jseq : Nat) (data : List Byte)
  /-- FETCH_SJ (R590): The partner answers a request for a stripe-journal entry with SJ_DATA or FETCH_NAK. -/
  | fetchSj (slot : Nat)
  /-- SJ_DATA (R377): A fetched stripe-journal entry arrives for resolution. -/
  | sjData (slot : Nat) (entry : List Byte)
  /-- FETCH_NAK (R590): The partner reports a fetched copy absent or unreadable. -/
  | fetchNak (mtype arg : Nat)
  /-- HANDOVER_OFFER (R591): HANDOVER_CMD OFFER on the giving head sends HANDOVER for a namespace. -/
  | handoverOffer (value : W32)
  /-- HANDOVER_ACCEPT (R591): HANDOVER_CMD ACCEPT on the gaining head records acceptance of a namespace. -/
  | handoverAccept (value : W32)
  /-- HANDOVER (R591): The gaining head answers HANDOVER with HANDOVER_ACK naming the transfer epoch, or HANDOVER_NAK. -/
  | handover (ns : Nat)
  /-- HANDOVER_ACK (R591): The giving head learns the epoch whose close transfers ownership. -/
  | handoverAck (ns epoch : Nat)
  /-- HANDOVER_NAK (R591): The giving head learns the handover was refused. -/
  | handoverNak (ns : Nat)
  /-- STEP_DOWN_MESSAGE (R594): A received STEP_DOWN starts a takeover with cause STEP_DOWN. -/
  | stepDownMessage
  /-- HEARTBEAT_TIMER (R593): Every 10 µs a head sends HEARTBEAT, advancing ALIVE only while fit. -/
  | heartbeatTimer
  /-- HEARTBEAT (R594): A received heartbeat resets HB_AGE on a new ALIVE, or counts a repeat toward HB_FROZEN. -/
  | heartbeat (alive : Nat)
  /-- HB_MISSED (R594): HB_AGE reaching 30 µs starts a takeover with cause HB_MISSED. -/
  | hbMissed
  /-- HB_KICK (R593): Writing HB_KICK keeps the head fit for KICK_MS. -/
  | hbKick (value : W32)
  /-- HB_KICK_TIMEOUT (R593): KICK_MS without a kick makes the head unfit and freezes ALIVE. -/
  | hbKickTimeout
  /-- FENCE_DELAY_EXPIRY (R596): FENCE_DELAY_MS ends on HEAD_ID 1 and it issues its preempt on the arbiter module. -/
  | fenceDelayExpiry
  /-- ARBITER_PREEMPT_DONE (R596): The arbiter preempt completes: success preempts every module, Reservation Conflict makes the head FENCED. -/
  | arbiterPreemptDone (ok : Bool)
  /-- FENCE_PREEMPTS_DONE (R596): All preempts complete; the head is SURVIVOR and adopts the partner's state. -/
  | fencePreemptsDone
  /-- TAKE (R594): TAKE_CMD TAKE starts a pending takeover. -/
  | take (value : W32)
  /-- FORCE (R598): TAKE_CMD FORCE starts a takeover with cause FORCE without FENCE_DELAY_MS. -/
  | force (value : W32)
  /-- TAKE_CMD_STEP_DOWN (R597): TAKE_CMD STEP_DOWN sends STEP_DOWN and makes the head FENCED. -/
  | takeCmdStepDown (value : W32)
  /-- CVU_MESSAGE (R608): A unit covers a message at its tap, computing, gating, checking and following the alive counter. -/
  | cvuMessage (unit : Nat) (bytes : List Byte)
  /-- CVU_ARM (R611): Writing ARM = 1 clears the unit's results and starts coverage at the next message boundary. -/
  | cvuArm (unit : Nat) (value : W32)
  /-- CVU_DISARM (R611): Writing ARM = 0 stops coverage at once. -/
  | cvuDisarm (unit : Nat) (value : W32)
  /-- CVU_RES_SEQ_READ (R613): A read of RES_SEQ latches RESULT for the reading master. -/
  | cvuResSeqRead (master unit : Nat)
  /-- MEMORY_ACCESS (R623): A master's DDR-5 or HBM access passes the SC, allocating by class and correcting or poisoning on errors. -/
  | memoryAccess (x : MemAcc)
  /-- SC_RETIRE (R633): SC_CMD RETIRE retires a CACHE way on command, refused below RET_FLOOR. -/
  | scRetire (way : Nat)
  /-- SP_REMAP (R626): SC_CMD SP_REMAP copies a failing scratchpad way into the highest CACHE way. -/
  | spRemap (way : Nat)
  /-- SC_COMMAND_DONE (R633): A retirement or remap finishes and the way becomes RETIRED. -/
  | scCommandDone
  /-- MAINT_CLEAN (R627): MAINT_CMD CLEAN writes covered dirty lines to memory. -/
  | maintClean (chan : Nat)
  /-- MAINT_INVAL (R627): MAINT_CMD INVAL discards covered lines. -/
  | maintInval (chan : Nat)
  /-- MAINT_CLEAN_INVAL (R627): MAINT_CMD CLEAN_INVAL cleans and discards covered lines. -/
  | maintCleanInval (chan : Nat)
  /-- MAINT_CLEAN_ALL (R627): MAINT_CMD CLEAN_ALL cleans every CACHE way. -/
  | maintCleanAll (chan : Nat)
  /-- MAINT_DONE (R627): Every covered dirty line is accepted by memory and MAINT_STAT.BUSY falls. -/
  | maintDone (chan : Nat)
  /-- PATROL_SCRUB (R638): Patrol scrub reads each channel address once per SCRUB_H hours and corrects or poisons. -/
  | patrolScrub (page corrected : Nat) (uncorrectable : List Nat)
  /-- DIMM_THERMAL (R640): A DIMM sensor above 85 °C doubles refresh, above 95 °C throttles and raises DDR_HOT. -/
  | dimmThermal (page temp : Nat)
  /-- MEMORY_TRAINING_DONE (R637): A channel or stack finishes training and zeroing and sets READY, or records TRAINING_FAIL. -/
  | memoryTrainingDone (page : Nat) (ok : Bool) (gib dimms rate lanes : Nat)
  /-- DIMM_LOST (R643): A DIMM or stack stops answering; its controller records a fatal cause and accesses return poison. -/
  | dimmLost (page : Nat)
  /-- EVENT_OCCURRENCE (R651): An event occurs at a source and forms, merges, is held or is latched per its state. -/
  | eventOccurrence (page line : Nat) (info : W32)
  /-- EVENT_RING_WRITE (R652): A PENDING record enters its ring when room exists and the source becomes ACTIVE. -/
  | eventRingWrite (core : Nat)
  /-- SIGNAL (R648): A control core's write of EQC.SIGNAL raises a private signal of a core. -/
  | signal (master : Nat) (value : W32)
  /-- EVQ_DONE (R653): A write of EVQ_DONE completes an ACTIVE source's record, forming a new record from held occurrences. -/
  | evqDone (value : W32)
  /-- SRC_MASK_WRITE (R659): A write of SRC_CFG.MASK or PRIV_MASK masks or unmasks a source, withdrawing or releasing latched records. -/
  | srcMaskWrite (core : Option Nat) (value : W32)
  /-- RING_CONS_WRITE (R657): A write of RING_IDX.CONS frees ring entries and may drop the core's interrupt line. -/
  | ringConsWrite (core : Nat) (value : W32)
  /-- EVENT_RING_ENABLE (R658): A write of RING_CFG.EN enables or disables a core's event ring. -/
  | eventRingEnable (core : Nat) (value : W32)
  /-- HALLMARK_OCCURRENCE (R673): A block raises a hallmark, accepted under the rate limit into the buffer or suppressed or dropped. -/
  | hallmarkOccurrence (code inst : Nat) (payload : List W32)
  /-- HALLMARK_WRITE (R668): HLM writes the next buffered hallmark to its slot in three steps. -/
  | hallmarkWrite
  /-- RATE_WINDOW_TICK (R673): The 1 s AON tick opens a new rate-limit window for every code. -/
  | rateWindowTick
  /-- HLM_SCAN (R669): At start HLM scans all slots, sets NEXT_SEQ and writes hallmark 0x0902. -/
  | hlmScan
  /-- EXPORT_CMD (R671): A write of EXPORT_CMD copies consecutive hallmark slots to DDR-5. -/
  | exportCmd (value : W32)
  /-- EXPORT_DONE (R671): The hallmark export finishes and EXPORT_STAT.BUSY falls. -/
  | exportDone
  /-- FW_POST (R678): A write of FW_POST submits firmware's own hallmark. -/
  | fwPost (value : W32)
  /-- TMK_LOAD (R682): TMK_CMD LOAD copies the current bank's payload to TMK_ADDR. -/
  | tmkLoad (value : W32)
  /-- TMK_COMMIT (R681): TMK_CMD COMMIT writes the payload into the non-current bank and verifies it. -/
  | tmkCommit (value : W32)
  /-- TMK_COMMIT_DONE (R681): The commit's read-back check ends, making the bank current or VERIFY_FAIL. -/
  | tmkCommitDone (flips : List (Nat × Byte))
  /-- TMK_CONFIRM (R683): TMK_CMD CONFIRM clears MIGRATING. -/
  | tmkConfirm (value : W32)
  /-- TMK_REVERT (R683): TMK_CMD REVERT invalidates the current bank and clears MIGRATING. -/
  | tmkRevert (value : W32)
  /-- PLL_LOCK_LOSS (R702): A PLL loses lock; CLK stops the domain and relocks, or records PLL_LOST. -/
  | pllLockLoss (domain : Nat)
  /-- PLL_RELOCK_DONE (R702): A PLL relocks and its domain's clock runs again. -/
  | pllRelockDone (domain us : Nat)
  /-- PLL_RELOCK_TIMEOUT (R702): A PLL not relocked within 50 µs records PLL_LOST and CLK enters FAULT. -/
  | pllRelockTimeout (domain : Nat)
  /-- REF_MEASURE (R702): Every 1 ms CLK measures each reference input and judges it lost beyond 1,000 ppm. -/
  | refMeasure (xtal ref100 ref156 : Option Nat) (khz : Nat)
  /-- CORE_CLOCK_LOSS (R703): Loss of the CORE or QST PLL or of REFCLK_100 makes AON hold the chip in reset. -/
  | coreClockLoss (domain : Nat)
  /-- XTAL_LOST (R703): Loss of REF_XTAL moves AON to the on-die oscillator. -/
  | xtalLost
  /-- CTL_FREQ_SWITCH (R704): A write of CTL_CFG.FREQ_100M switches the CTL clock glitch-free. -/
  | ctlFreqSwitch (value : W32)
  /-- DEBUG_ACCESS_RESUME (R699): A debug access waiting on a stopped domain completes when its clock runs again. -/
  | debugAccessResume
  /-- LC_ARM (R709): A write of LC_ARM arms a lifecycle target for 1 ms. -/
  | lcArm (value : W32)
  /-- LC_MINT (R709): LC_CMD MINT burns DEVICE_ROOT and DEVICE_ID and moves BLANK to MINTED. -/
  | lcMint (value : W32) (healthy : Bool) (cut : Option Nat)
  /-- LC_OWN (R711): LC_CMD OWN burns OWNER_SECRET and moves MINTED to OWNED. -/
  | lcOwn (value : W32) (cut : Option Nat)
  /-- LC_RETIRE (R709): LC_CMD RETIRE burns remaining secret bits, zeroises keys and regions and moves to RETIRED. -/
  | lcRetire (value : W32) (cut : Option Nat)
  /-- OWNER_LOCK_SET (R713): Setting OWNER_LOCK.LOCK refuses updates, D1 and all lifecycle commands but RETIRE. -/
  | ownerLockSet (value : W32)
  /-- D1_GRANT (R714): DBG_CMD D1_GRANT grants debug level D1. -/
  | d1Grant (value : W32)
  /-- D0_RETURN (R714): DBG_CMD D0_RETURN returns the debug level to D0. -/
  | d0Return (value : W32)
  /-- DBG_CHALLENGE (R715): The DBG_CHALLENGE instruction captures a fresh nonce and DEVICE_ID. -/
  | dbgChallenge
  /-- DBG_RESPONSE (R715): The DBG_RESPONSE instruction verifies a signature and grants D2 or counts a failure. -/
  | dbgResponse (sig : BitVec 768)
  /-- DBG_ACCESS_READ (R717): DBG_ACCESS OP read reads a 32-bit location within the debug level's scope. -/
  | dbgAccessRead (addr : Nat)
  /-- DBG_ACCESS_WRITE (R717): DBG_ACCESS OP write writes a 32-bit location within the debug level's scope. -/
  | dbgAccessWrite (addr : Nat) (data : W32)
  /-- EXTEST (R716): EXTEST drives boundary scan while RESET_N is held low, and acts as BYPASS otherwise. -/
  | extest
  /-- SAMPLE_PRELOAD (R716): SAMPLE/PRELOAD captures and loads the boundary scan register. -/
  | samplePreload (sample load : List Bool)
  /-- IDCODE (R716): IDCODE shifts out the 32-bit device identity. -/
  | idcode
  /-- CLAMP (R716): CLAMP holds outputs from boundary scan while RESET_N is held low. -/
  | clamp
  /-- HIGHZ (R716): HIGHZ floats outputs while RESET_N is held low. -/
  | highz
  /-- BYPASS (R716): BYPASS selects the 1-bit bypass register. -/
  | bypass
  /-- TRST_N_ASSERT (R762): TRST_N or Test-Logic-Reset resets the TAP and abandons a waiting debug access. -/
  | trstNAssert
  /-- PWR_P0 (R718): PWR_CMD P0 starts the exit from P1 or P2. -/
  | pwrP0 (value : W32)
  /-- PWR_P1 (R719): PWR_CMD P1 checks entry conditions and starts P1 entry. -/
  | pwrP1 (value : W32)
  /-- PWR_P2 (R721): PWR_CMD P2 checks entry conditions and starts P2 entry. -/
  | pwrP2 (value : W32)
  /-- PWR_QUENCH (R724): PWR_CMD QUENCH enters Q on command. -/
  | pwrQuench (value : W32)
  /-- POWER_ENTRY_DONE (R721): The P1 or P2 entry sequence completes and STATE reads the new state. -/
  | powerEntryDone
  /-- AVS_UPDATE (R726): Every 1 ms PWR sets VDD_CORE from the CTL frequency and aging shift, and updates the cap. -/
  | avsUpdate (shift : Nat) (answered : Bool)
  /-- POH_TICK (R728): Every 14.0625 s AON advances POH and adds the wear weight to WEAR_HOURS. -/
  | pohTick
  /-- THERMAL_SAMPLE (R730): Every 100 µs PWR reads the junction sensors, throttling at THROTTLE_C and quenching at 110 °C. -/
  | thermalSample (tj : Nat)
  /-- THROTTLE_STEP (R730): Each 1 ms while hot or over cap PWR lowers or restores the CTL clock or gates a forge. -/
  | throttleStep
  /-- POWER_SAMPLE (R731): Every 1 ms PWR measures POWER_W against POWER_CAP. -/
  | powerSample (watts : Nat)
  /-- FWU_STAGE (R738): FWU_CMD STAGE writes an image into the slot that is neither ACTIVE nor TRIAL. -/
  | fwuStage (value : W32)
  /-- FWU_VERIFY (R739): FWU_CMD VERIFY checks the staged image and its Touchmark format and sets STAGED. -/
  | fwuVerify (value : W32)
  /-- FWU_ACTIVATE (R741): FWU_CMD ACTIVATE holds HQ, checks the body, switches PREF and restarts the control cores on the new image. -/
  | fwuActivate (value : W32)
  /-- FWU_CONFIRM (R745): FWU_CMD CONFIRM makes the trial slot ACTIVE, raises SVN_FUSE and burns revocations. -/
  | fwuConfirm (value : W32)
  /-- FWU_COMMAND_DONE (R741): A STAGE, VERIFY or activation step finishes and FWU_STAT reports the outcome. -/
  | fwuCommandDone (ok : Bool)
  /-- CONFIRM_TIMEOUT (R746): No CONFIRM within CONFIRM_S; FWU reverts to the fallback slot and resets the chip. -/
  | confirmTimeout
  /-- POWER_ON_RESET (R751): VIN_AON rising past 1.55 V applies a power-on reset, starts the crystal and raises CYCLES. -/
  | powerOnReset
  /-- AON_PLL_LOCK (R751): The AON PLL locks and other domains may leave reset. -/
  | aonPllLock
  /-- RESET_N_ASSERT (R763): RESET_N low for 2 µs starts a quench when dirty, else applies a chip reset. -/
  | resetNAssert
  /-- CHIP_RESET (R762): A chip reset returns every page to OFF and clears the chip-level state. -/
  | chipReset (cause : Nat)
  /-- BOOT_ROM_RUN (R753): On release of chip reset the ROM checks fuses, brings up memory, boots a valid slot and writes the boot record. -/
  | bootRomRun (fuses : Bool) (corrected : Nat) (found bad : List Nat) (gib dimms rate us : Nat)
  /-- BOOT_RETRY (R754): With no valid image the ROM retries both slots every 10 s. -/
  | bootRetry (us : Nat)
  /-- PORT_TRAIN_TIMEOUT (R759): A known module's port not trained within RETRAIN_MS of ENABLE is ejected with cause PORT_DOWN. -/
  | portTrainTimeout (port : Nat)
  /-- EARLY_CLOSE_DUE (R73): A pending early-close request becomes due when the open epoch has been open for 500 µs, and the leader closes it. -/
  | earlyCloseDue
  /-- PORT_LINK_UP (R535): An Ethernet port's link comes up, LINK_STAT.UP sets and Hallmark 0x2002 is written. -/
  | portLinkUp (port : Nat)
  /-- PORT_LINK_DOWN (R533): An Ethernet port's link goes down, Hallmark 0x2001 is written and XPT's queue pairs on the port recover or fail. -/
  | portLinkDown (port cause : Nat)
  /-- FLASH_LINK_DROP (R462): A flash port's PCIe link leaves L0 without loss of presence, is retrained and writes Hallmark 0x2301. -/
  | flashLinkDrop (port : Nat)
  /-- COMPLETION_TIMEOUT (R461): A PCIe completion outstanding for CPL_TMO_MS on a flash port times out and counts in CPL_TIMEOUT. -/
  | completionTimeout (port : Nat)
  /-- FATAL_AER (R460): The endpoint reports an uncorrectable fatal error; the FLX port records FATAL_AER, enters FAULT and ING ejects the module as PORT_DOWN. -/
  | fatalAer (port : Nat)
  /-- DPC_CONTAINMENT (R460): A Downstream Port Containment event on a flash port records CONTAINED and the port enters FAULT. -/
  | dpcContainment (port : Nat)
  /-- CONTROLLER_FATAL_STATUS (R381): A module's controller reports Controller Fatal Status and ING ejects it with cause FATAL_STATUS. -/
  | controllerFatalStatus (module : Nat)
  /-- MRAM_STACK_LOST (R349): The quench-store MRAM stack stops answering and QST records the fatal cause STACK_LOST. -/
  | mramStackLost
  /-- NOR_LOST (R747): The boot NOR stops answering, FWU records NOR_LOST and enters FAULT while the running image continues. -/
  | norLost
  /-- SERDES_LANE_LOCK_LOSS (R780): A lane of a flash or network octet loses clock lock, counts in LOCK_LOSS and writes Hallmark 0x2401. -/
  | serdesLaneLockLoss (octet lane : Nat)
  /-- SERDES_LANE_PLL_LOST (R779): An octet's lane PLL loses lock, the SRD page records LANE_PLL_LOST and the port or link on it goes down. -/
  | serdesLanePllLost (octet : Nat)
  /-- VIN_AON_LOW (R782): AON finds VIN_MV below 1,600 mV and writes Hallmark 0x0203. -/
  | vinAonLow (mv : Nat)
  /-- VIN_AON_LOSS (R729): VIN_AON falls away: the counter cells lose at most the unit under way and HOLD_LOAD_N releases. -/
  | vinAonLoss
deriving DecidableEq, Repr

end Sys2Proof
end

