-- ==== Sys2Proof/Machine/StateLedger.lean ====
section
/-! DEFINITION. Internal state of the ledger (spec/03_epochs_and_ledger.md): the map, snapshots, ingot table and slag
list, epochs, the journal, the twin cores. -/

namespace Sys2Proof.Machine

/-! The map (R81 to R85). -/

/-- A map entry (R83); `gloc` is a grain locator (R84). -/
structure MapEntry where
  gloc : W64 := 0
  birth : Nat := 0
  len16 : Nat := 0
  mapped : Bool := false
  zero : Bool := false
  shared : Bool := false
deriving DecidableEq, Repr

/-- A member locator (R362). -/
structure Loc where
  module : Nat := 0
  lost : Bool := false
  rebuilt : Bool := false
  chunk : Nat := 0
  zone : Nat := 0
deriving DecidableEq, Repr

/-- The states of an ingot-table entry (R361), in the order of their values. -/
inductive IngotSt where
  | free | opened | casting | live | degraded | rebuilding | relocating | dead
deriving DecidableEq, Repr

/-- An ingot-table entry (R361). -/
structure Ingot where
  st : IngotSt := .free
  k : Nat := 0
  m : Nat := 0
  cast : Nat := 0
  reloc : Bool := false
  narrow : Bool := false
  padded : Bool := false
  dead16 : Nat := 0
  slagRows : Nat := 0
  members : List Loc := []
deriving DecidableEq, Repr

/-- A snapshot of a namespace and the epoch it pins (R106). -/
structure Snap where
  ns : Nat
  id : Nat
  epoch : Nat
deriving DecidableEq, Repr

/-- A clone: the namespace, its parent snapshot, its depth in the chain of clones (R110, R112). -/
structure Clone where
  ns : Nat
  parent : Nat
  snap : Nat
  depth : Nat
deriving DecidableEq, Repr

/-- A slag-list entry (R395). -/
structure SlagEntry where
  extent : Bool
  snap : Bool
  cause : Nat
  ns : Nat
  snapId : Nat
  grain : Nat
  gloc : W64
  len16 : Nat
deriving DecidableEq, Repr

/-- A roster record (R427): a body, as the namespace it was stored for, its length and offset (COUNT is its reference count, DOMAIN that of
the namespace); a grain that refers to a body; a page body, by its PID (R443). -/
inductive RosterRec where
  | body (ns len16 offset : Nat)
  | referer (ns grain offset : Nat)
  | page (pid offset : Nat)
deriving DecidableEq, Repr

/-- The roster of an ingot, in order of addition, and its FULL mark (R427 to R429). -/
structure Roster where
  recs : List RosterRec := []
  full : Bool := false
deriving DecidableEq, Repr

/-- What the ledger's commits change, and a checkpoint saves: map, retention tables, committed reference counts,
snapshots, clones and the ranges that no longer inherit, ingot table, rosters, slag list, ejected modules. Keys of `map`: see `mapKey`;
of `ret`: see `retKey`; of `refs`: the GLOC with SLAG 0. -/
structure Image where
  map : Tab MapEntry
  ret : Tab MapEntry
  refs : Tab Nat
  snaps : List Snap
  clones : List Clone
  cleared : List Nat
  ingots : Tab Ingot
  rosters : Tab Roster
  slag : List SlagEntry
  ejected : List (Nat × Nat)
deriving DecidableEq, Repr, Inhabited

/-- A journal item (R90, R364, R785). -/
inductive JItem where
  | mapChange (ns grain : Nat) (new : MapEntry) (old : W64)
  | take (id ns epoch : Nat)
  | delete (id ns epoch : Nat)
  | clone (id parent child : Nat)
  | retain (id ns grain : Nat) (entry : MapEntry)
  | cast (k m flags ingot epoch dead16 : Nat)
  | members (first ingot : Nat) (locs : List Loc)
  | replace (idx ingot : Nat) (loc : Loc) (slagRows : Nat)
  | setState (st : IngotSt) (ingot : Nat)
  | eject (module cause : Nat)
deriving DecidableEq, Repr

/-- What an accepted item is for the commit record's counts (R91) and the reference counts: a stored body, a
reference, a deallocated grain, or none of these. -/
inductive ItemUse where
  | stored | dedup | discard | other
deriving DecidableEq, Repr

/-- An epoch that is open, or closed and not committed. -/
structure Ep where
  items : List JItem := []
  unwritten : List JItem := []
  recs : Nat := 0
  jfirst : Nat := 0
  jlast : Nat := 0
  crcRaw : W64 := 0xFFFFFFFFFFFFFFFF#64
  closed : Bool := false
  early : Bool := false
  drainStarted : Bool := false
  drained : Bool := false
  /-- its last items are placed; its commit record is written -/
  complete : Bool := false
  written : Bool := false
  /-- the partner has acknowledged its commit record (R17) -/
  acked : Bool := false
  stored : Nat := 0
  dedup : Nat := 0
  discard : Nat := 0
  ingotFirst : Nat := 0
  ingots : Nat := 0
  pins : Bool := false
  ckpt : Bool := false
  /-- it commits without the partner: closed before the pair was formed (R79) -/
  alone : Bool := false
  /-- the CRC of its commit record -/
  crc : W64 := 0
  /-- bodies whose uncommitted references this epoch commits (R175) -/
  held : List Nat := []
  /-- bodies relocated in this epoch: old locator, new locator (R433) -/
  relocs : List (W64 × W64) := []
  /-- the metadata pages that its checkpoint ingots hold: locator, PID (R428, R446) -/
  pages : List (W64 × Nat) := []
deriving DecidableEq, Repr

/-- An item on its way to the ledger: its epoch (none: the epoch open when it is accepted, R786), its use, the body whose
uncommitted reference it commits. -/
structure LItem where
  epoch : Option Nat
  item : JItem
  use : ItemUse := .other
  body : Nat := 0
deriving DecidableEq, Repr

/-- A snapshot command that waits for a commit (R106, R109, R110, R118). -/
inductive SnapOp where
  | take (ns id epoch : Nat)
  | delete (ns id pinned : Nat)
  | clone (parent id child : Nat)
deriving DecidableEq, Repr

/-- What a running checkpoint covers (R95, R96): the image and epoch at its start, the first JSEQ of the later epochs, and the
CRC of the commit record it follows. -/
structure CkptRun where
  img : Image
  epoch : Nat
  jfrom : Nat
  prevCrc : W64
deriving DecidableEq, Repr, Inhabited

/-- LDG's internal state. -/
structure Ldg where
  img : Image
  /-- the last complete checkpoint, on flash, and the generation it has -/
  ckpt : CkptRun
  ckptGen : Nat
  /-- what a running checkpoint covers (R95) -/
  running : Option CkptRun
  commitsSince : Nat
  /-- references taken and not yet committed, by body: the working count of R175 is the committed count and these -/
  working : Tab Nat
  /-- items passed to the ledger and not yet accepted, oldest first -/
  inbox : List LItem
  eps : Tab Ep
  /-- the leader's timer has expired (R75) -/
  timerDue : Bool
  /-- an early close is asked for the open epoch (R73) -/
  earlyReq : Bool
  /-- and its 500 µs have passed -/
  earlyDue : Bool
  stalled : Bool
  peerCommitted : Nat
  /-- the newest epoch whose drain the partner has ended (R75), and the open epoch when the pair was formed (R79) -/
  peerDrainedTo : Nat
  pairedAt : Nat
  ackedJseq : Nat
  tailJseq : Nat
  prevCrc : W64
  mirrorJseq : Nat
  mirrorTail : Nat
  /-- JSEQs below `mirrorJseq` that hold no mirrored record yet, and the first and last mirrored record of each epoch -/
  mirrorHoles : List Nat
  mirrorSpan : Tab (Nat × Nat)
  /-- the mirrored commit records of the partner (R17, R18): epoch and CRC -/
  peerRecords : List Nat
  armed : List (Nat × Nat)
  takes : List (Nat × Nat)
  snapOps : List (Nat × SnapOp)
  /-- the command for which SNAP_RESULT.BUSY is 1 (R118): whether it is a TAKE, and the epoch at whose commit it takes effect (none: not
  closed yet) -/
  snapWait : Option (Bool × Option Nat)
  /-- twin cores (R99 to R105) -/
  retried : Bool
  repairing : Option Nat
  /-- the core in RESYNC entered it during a drain: it copies at the next one (R103) -/
  resyncNext : Bool
  /-- the slag entry latched for each master (R119) -/
  slagLatch : List (Nat × List W32)
  /-- the extents pending at the start of the running sweep, and the GRAIN entries it has added (R397) -/
  sweep : Option (List SlagEntry × Nat)
  throttled : Bool
  replayed : Bool
  /-- replay: the JSEQ last asked of the partner (R93), whether its answer is awaited, and the partner's verifying records of the failing
  span, by JSEQ -/
  ljAsked : Option Nat
  ljWait : Bool
  ljPeer : Tab (List Byte)
  /-- the failed head's tail has been replayed (R98) -/
  peerTaken : Bool
  /-- the namespaces whose transfer waits for a close, the head that gains each and the epoch whose close
  does it (R138, R591) -/
  transfers : List (Nat × Nat × Nat)
  /-- the namespaces this ledger records as this head's own, and those it records as the partner's (R8, R581) -/
  owned : List Nat
  given : List Nat
  /-- deallocate hints handed over by HQ: namespace, first block, blocks, the WSEQ reached and the epoch open when it was accepted (R88, R140) -/
  hints : List (Nat × Nat × Nat × Nat × Nat)
deriving DecidableEq, Repr

end Sys2Proof.Machine
end

