-- ==== Sys2Proof/Machine/StateRpl.lean ====
section
/-! DEFINITION. Internal state of the replication block (spec/14_replication.md). -/

namespace Sys2Proof.Machine

/-- GRP_STAT.STATE (R565), in the order of its values. -/
inductive GrpSt where
  | idle | shipping | waitApply | linkDown | leaseWait | resync | keyWait | applying | halted
deriving DecidableEq, Repr

/-- A record of a delta still to be shipped (R545): RKIND, source and target namespace, first grain, grains, and the entry of
a DATA grain in N. -/
structure DRec where
  kind : Nat
  src : Nat
  tgt : Nat
  grain : Nat
  count : Nat
  entry : MapEntry
deriving DecidableEq, Repr

/-- How far a segment has come at the source: sealed and its write posted; the write acknowledged; the publish posted. -/
inductive SegAt where
  | writing | written | publishing
deriving DecidableEq, Repr

/-- A segment at the source (R549): its record area in clear, so that it can be sealed again. -/
structure Seg where
  seq : Nat
  delta : Nat
  base : Nat
  top : Nat
  flags : Nat
  nrec : Nat
  area : List Byte
  /-- KEY_ID of the key it was last sealed under -/
  keyId : Nat := 0
  rewrites : Nat := 0
  stage : SegAt := .writing
deriving DecidableEq, Repr

/-- A record that the target has still to apply (R555): RKIND, namespace, grain, grains, data and PI of a DATA grain. -/
structure TRec where
  kind : Nat
  ns : Nat
  grain : Nat
  count : Nat
  data : List Byte
  pi : List Byte
deriving DecidableEq, Repr

/-- The segment a target is applying: SEQ, DELTA, SFLAGS, KEY_ID, U, the records left, the writes it has made (WSEQ). -/
structure Applying where
  seq : Nat
  delta : Nat
  flags : Nat
  keyId : Nat
  u : Nat
  todo : List TRec
  wseqs : List Nat
deriving DecidableEq, Repr

/-- A replication group (R540), but for its registers. -/
structure Grp where
  st : GrpSt := .idle
  members : List (Nat × Nat) := []
  /-- last STATUS code (R553) -/
  code : Nat := 0
  delta : Nat := 0
  seq : Nat := 0
  bytes : Nat := 0
  /-- source: epochs P and N of the delta; the next delta is FULL; its pin is asked for; its records are laid out -/
  base : Nat := 0
  top : Nat := 0
  full : Bool := true
  /-- firmware wants the delta after this one FULL -/
  fullNext : Bool := false
  /-- the next delta may start: its time has come and the last one is applied -/
  due : Bool := false
  timer : Bool := false
  pinning : Bool := false
  running : Bool := false
  work : List DRec := []
  area : List Byte := []
  nrec : Nat := 0
  first : Bool := true
  restart : Bool := false
  cur : Option Seg := none
  /-- published and not yet consumed -/
  out : List Seg := []
  consumed : Nat := 0
  /-- records and bytes of the delta, for hallmark 0x1B01 -/
  dRecs : Nat := 0
  dBytes : Nat := 0
  /-- the value of LEASE this head wrote last; an atomic on it is out; the answers of the lease atomic, of the publish and of
  the last poll -/
  lease : Option W64 := none
  leaseOut : Bool := false
  leaseGot : Option W64 := none
  pubGot : Option W64 := none
  polling : Bool := false
  block : Option (List Byte) := none
  /-- a resumption waits for the control block: 0 goes on where it can, 1 restarts the delta, 2 begins after a reset -/
  resume : Option Nat := none
  /-- target: LAST_U by KEY_ID; the segment being applied; the delta whose snapshot is to be taken, and whether it has been
  asked for; LEASE as last checked and the checks it has not changed -/
  lastU : Tab Nat := []
  applying : Option Applying := none
  snapAt : Option (Nat × Bool) := none
  seen : W64 := 0
  same : Nat := 0
deriving DecidableEq, Repr, Inhabited

/-- RPL's internal state: the registers behind GRP_SEL by group × 0x1000 + offset, and the groups. -/
structure Rpl where
  bank : Tab W32
  groups : Tab Grp
deriving DecidableEq, Repr, Inhabited

end Sys2Proof.Machine
end

