-- ==== Sys2Proof/Config.lean ====
section
/-! DEFINITION. What the manual leaves open: uninterpreted constants, none of which any proof can evaluate. -/

open Sys2Proof.Machine (CkptRun Image Rpl)

namespace Sys2Proof.Config

/-- The n-th free 32-bit value: a value the spec calls undefined, or does not state. -/
opaque free32 : Nat → W32
/-- The n-th free 64-bit value. -/
opaque free64 : Nat → W64
/-- The n-th free byte string of a given length (output that R59 calls undefined). -/
opaque freeBytes : Nat → Nat → List Byte
/-- The n-th 256-bit draw of the on-die TRNG (R709, R712, R281). -/
opaque trng256 : Nat → BitVec 256
/-- The n-th 384-bit nonce (R715). -/
opaque nonce384 : Nat → BitVec 384
/-- The ECDSA P-384 verification of a signature (r, s) over a digest under a public key (R715, R736). -/
opaque ecdsaP384 : BitVec 768 → BitVec 384 → BitVec 768 → Bool
/-- The digest of vendor image key k in boot ROM (R736). -/
opaque romKeyDigest : Nat → BitVec 384
/-- The vendor debug public key whose digest is in boot ROM (R715). -/
opaque vendorDebugKey : BitVec 768
/-- The low 28 bits of the IDCODE, which R1 does not give. -/
opaque idcodeLow : W32
/-- The KDF of R712: key, label bytes, context bytes, to 256 bits. -/
opaque kdf : BitVec 256 → List Byte → List Byte → BitVec 256
/-- The context-wrapping key that a chip reset derives from the device root and the n-th draw of the TRNG, label "DXCTX" (R225, R712). -/
def wrapKey (root : BitVec 256) (n : Nat) : BitVec 256 :=
  kdf root [0x44#8, 0x58#8, 0x43#8, 0x54#8, 0x58#8] ((List.range 32).map fun i => (trng256 n).extractLsb' (8 * (31 - i)) 8)
/-- VMIN_FUSE in mV and SLOPE_FUSE in mV for each 100 MHz (R726). -/
opaque vminFuse : Nat
opaque slopeFuse : Nat
/-- The bank of the DRAM map: the channel a DDR-5 address lies in (R620), fixed but not stated. -/
opaque ddrChannel : Nat → Nat
/-- The stack an HBM address lies in (R620). -/
opaque hbmStack : Nat → Nat

/-- The failed head's checkpoint of an epoch, as the survivor reads it from the shelf at takeover (R98): what the partner wrote to flash is
not in this head's state. -/
opaque peerCkpt : Nat → CkptRun
/-- What the partner's ledger holds of a namespace at the close of an epoch, as the gaining head of a handover reads it (R8, R14): no message
carries it. -/
opaque peerNs : Nat → Nat → Image
/-- What the failed head's RPL held, which no message carries (R561). -/
opaque peerRpl : Rpl

/-- The layout of a retention-table or snapshot-catalogue page (R443), by its PID and what it holds: no rule states it. -/
opaque pageLayout : Nat → List Byte → List Byte

/-- The levels of the GPIO pins that are not driven, by time in µs (R781). -/
opaque gpioIn : W64 → W32
/-- What a lane's receiver finds, by octet × 8 + lane and time in µs: EYE_MV, POL_INV, SIGNAL (R780). -/
opaque laneStat : Nat → W64 → W32
/-- The coefficients a lane has negotiated, by octet × 8 + lane and time in µs (R780). -/
opaque txNegotiated : Nat → W64 → W32
/-- Pattern bit errors counted over one run of a test pattern (R780): the n-th draw. -/
opaque prbsErrors : Nat → Nat

/-- The depth of a QoS token bucket, in refills of 10 µs (R152 gives none). -/
opaque qosDepth : Nat
/-- A controller property other than CC and CSTS, by offset (R127 gives no values). -/
opaque property : Nat → W64

/-- What a codec is asked to do with one descriptor's bytes, or one grain's (R241 to R247): direction, format (1 DEFLATE,
2 Zstandard), level, window log, checksum and content-size flags, whether the stream begins and ends here, the saved CODER bytes and
the history (empty at its start), the input, and the space it may fill. -/
structure CodecIn where
  decode : Bool
  codec : Nat
  level : Nat
  wlog : Nat
  zcheck : Bool
  fcs : Bool
  first : Bool
  last : Bool
  coder : List Byte
  hist : List Byte
  src : List Byte
  cap : Nat
deriving DecidableEq, Repr

/-- What it answers: input bytes consumed whole, output, whether output is still to come, whether the stream ended, the input offset
(from the stream's start) of the block or sequence it stopped in, an error code of R251 (0x10 to 0x16) or of a failed
Content_Checksum (0x18) with its offset, and the state to save: SFLAGS bits 1 and 2, held bits, CODER. -/
structure CodecOut where
  consumed : Nat
  output : List Byte
  more : Bool
  ended : Bool
  blockAt : Nat
  error : Option (Nat × Nat)
  frameOpen : Bool
  nbits : Nat
  bitbuf : Nat
  coder : List Byte
deriving DecidableEq, Repr, Inhabited

/-- The DEFLATE and Zstandard codecs, which RFC 1951 and RFC 8878 define (R241, R242); a compressor's choices are its own. -/
opaque codecRaw : CodecIn → CodecOut

/-- The codec within its bounds: it consumes no more than the input and fills no more than the space (R255, R256). -/
def codec (i : CodecIn) : CodecOut :=
  let o := codecRaw i
  { o with consumed := Nat.min o.consumed i.src.length, output := o.output.take i.cap, nbits := o.nbits % 64
           coder := o.coder.take 4040 }

end Sys2Proof.Config
end

