-- ==== Sys2Proof/Machine/RegTypes.lean ====
section
/-! DEFINITION. The shape of a register table: fields, access types, reset values and ranges
(spec/00_scope.md, Register tables), and when a register may be written. -/

namespace Sys2Proof.Machine

/-- The access types of spec/00_scope.md. -/
inductive Access where
  | ro | rw | w1c | w1s | wo | rc
deriving DecidableEq, Repr

/-- One field of a register: bits `hi` down to `lo`, its access type, its reset value, and the stated range a
written value is clamped to. -/
structure Field where
  hi : Nat
  lo : Nat
  acc : Access
  reset : Nat
  min : Nat
  max : Nat
deriving DecidableEq, Repr

/-- Which half of a 64-bit register a 32-bit word is (R25, R26). -/
inductive Half where
  | word | low | high
deriving DecidableEq, Repr

/-- The page states in which a register takes a write, where its chapter limits them; elsewhere the write is
ignored and records CTRL_CONFLICT. -/
inductive Writable where
  | always | offStart
deriving DecidableEq, Repr

/-- One 32-bit register word of a page. -/
structure RegDef where
  off : Nat
  half : Half
  lockable : Bool
  writable : Writable
  fields : List Field
deriving DecidableEq, Repr

namespace F
/-- A field with no stated range. -/
def any (a : Access) (hi lo reset : Nat) : Field := ⟨hi, lo, a, reset, 0, 2 ^ (hi - lo + 1) - 1⟩
def ro (hi lo : Nat) (reset : Nat := 0) : Field := any .ro hi lo reset
def rw (hi lo : Nat) (reset : Nat := 0) : Field := any .rw hi lo reset
def rc (hi lo : Nat) : Field := any .rc hi lo 0
def wo (hi lo : Nat) : Field := any .wo hi lo 0
def w1s (hi lo : Nat) (reset : Nat := 0) : Field := any .w1s hi lo reset
def w1c (hi lo : Nat) (reset : Nat := 0) : Field := any .w1c hi lo reset
/-- An RW field with a stated range. -/
def rng (hi lo reset mn mx : Nat) : Field := ⟨hi, lo, .rw, reset, mn, mx⟩
end F

namespace R
/-- A 32-bit register. -/
def w (off : Nat) (fs : List Field) : List RegDef := [⟨off, .word, false, .always, fs⟩]
/-- A lockable 32-bit register. -/
def wL (off : Nat) (fs : List Field) : List RegDef := [⟨off, .word, true, .always, fs⟩]
/-- A 64-bit register: two words. -/
def d (off : Nat) (lo hi : List Field) : List RegDef :=
  [⟨off, .low, false, .always, lo⟩, ⟨off + 4, .high, false, .always, hi⟩]
/-- A lockable 64-bit register. -/
def dL (off : Nat) (lo hi : List Field) : List RegDef :=
  [⟨off, .low, true, .always, lo⟩, ⟨off + 4, .high, true, .always, hi⟩]
/-- The same registers, writable only in OFF and START. -/
def offStart (rs : List RegDef) : List RegDef := rs.map fun r => { r with writable := .offStart }
/-- A read-only 64-bit register, all bits defined. -/
def dRO (off : Nat) : List RegDef := d off [F.ro 31 0] [F.ro 31 0]
/-- A read-write 64-bit register, all bits defined. -/
def dRW (off : Nat) : List RegDef := d off [F.rw 31 0] [F.rw 31 0]
/-- A lockable read-write 64-bit register, all bits defined. -/
def dRWL (off : Nat) : List RegDef := dL off [F.rw 31 0] [F.rw 31 0]
/-- 32-bit read-clear counters at the given offsets. -/
def rc (offs : List Nat) : List RegDef := offs.map fun o => ⟨o, .word, false, .always, [F.rc 31 0]⟩
/-- 32-bit read-only words at the given offsets. -/
def ro (offs : List Nat) : List RegDef := offs.map fun o => ⟨o, .word, false, .always, [F.ro 31 0]⟩
/-- 32-bit read-write words at the given offsets. -/
def rw (offs : List Nat) : List RegDef := offs.map fun o => ⟨o, .word, false, .always, [F.rw 31 0]⟩
end R

end Sys2Proof.Machine
end

