-- ==== Sys2Proof/Machine/RegMapEngine.lean ====
section
/-! DEFINITION. Register tables of ASY (R237), CRU (R267) and TIN (R306). -/

namespace Sys2Proof.Machine

/-- The registers of `n` rings (R237, R261, R300). -/
def ringRegs (n : Nat) : List RegDef :=
  (List.range n).flatMap fun i =>
    let o := 0x400 + i * 0x40
    R.dRW o ++ R.dRW (o + 0x08) ++
    R.w (o + 0x10) [F.rng 19 16 4 4 16, F.rw 10 8, F.rw 0 0] ++
    R.w (o + 0x14) [F.rw 15 0] ++ R.w (o + 0x18) [F.ro 15 0] ++ R.w (o + 0x1C) [F.rw 15 0] ++
    R.w (o + 0x20) [F.ro 15 0] ++ R.w (o + 0x24) [F.ro 19 16, F.ro 13 8, F.ro 2 0]

/-- ASY (R237). -/
def asyRegs : List RegDef :=
  R.w 0x100 [F.ro 31 16, F.ro 11 8, F.ro 3 0] ++
  R.w 0x104 [F.w1s 3 0] ++
  R.dRO 0x108 ++
  R.rc [0x110, 0x114, 0x118, 0x11C, 0x120, 0x124, 0x128] ++
  ((List.range 4).flatMap fun g =>
    let o := 0x200 + g * 0x80
    R.w o [F.ro 31 24, F.ro 19 16, F.ro 15 0] ++ R.w (o + 0x08) [F.ro 7 0] ++ R.w (o + 0x0C) [F.ro 7 0] ++
    R.ro ((List.range 16).map fun i => o + 0x40 + 4 * i)) ++
  ringRegs 16

/-- CRU (R267). -/
def cruRegs : List RegDef :=
  R.offStart (R.wL 0x100 [F.rng 4 0 0x11 15 23]) ++
  R.w 0x104 [F.ro 31 16, F.ro 15 0] ++
  R.w 0x108 [F.ro 9 8, F.ro 1 0] ++
  R.w 0x10C [F.w1s 1 0] ++
  R.offStart (R.dRWL 0x110) ++
  R.dRO 0x118 ++
  R.rc [0x120, 0x124, 0x128, 0x12C, 0x130, 0x134, 0x138, 0x13C] ++
  ringRegs 8

/-- TIN (R306). -/
def tinRegs : List RegDef :=
  R.w 0x100 [F.ro 31 16, F.ro 15 0] ++
  R.w 0x104 [F.ro 11 8, F.ro 5 4, F.ro 1 0] ++
  R.w 0x108 [F.w1s 9 8, F.w1s 3 0] ++
  R.w 0x110 [F.rw 11 0] ++
  R.w 0x114 [F.ro 31 31, F.ro 30 30, F.ro 29 29, F.ro 28 28, F.ro 23 16, F.ro 11 8] ++
  R.dRO 0x118 ++ R.dRO 0x120 ++ R.dRO 0x128 ++ R.ro [0x130] ++
  R.wL 0x140 [F.rw 12 12, F.rw 9 4, F.rw 3 0] ++
  R.w 0x144 [F.ro 31 31, F.ro 30 30, F.ro 29 29, F.ro 11 0 0xFFF] ++
  R.d 0x148 [F.ro 31 0] [F.ro 15 0] ++
  R.dRO 0x150 ++
  R.w 0x158 [F.wo 31 28, F.wo 21 16, F.wo 11 0] ++
  R.w 0x15C [F.ro 8 8, F.ro 7 0] ++
  R.w 0x160 [F.ro 14 0] ++ R.w 0x164 [F.ro 0 0] ++
  R.rc [0x170, 0x174, 0x178, 0x17C, 0x180, 0x184] ++
  ringRegs 8

end Sys2Proof.Machine
end

