-- ==== Sys2Proof/Machine/RegMapFlash.lean ====
section
/-! DEFINITION. Register tables of FRG (R201, R202), DRP (R486, R487), PLN (R454), ANL (R458) and FLX (R461). -/

namespace Sys2Proof.Machine

/-- FRG_n (R201). -/
def frgRegs : List RegDef :=
  R.wL 0x100 [F.rng 31 24 0x32 1 255, F.rng 23 16 0x14 2 255, F.rng 6 0 8 0 64] ++
  R.w 0x104 [F.ro 22 16, F.ro 14 8, F.ro 5 5, F.ro 4 4, F.ro 3 3, F.ro 2 2, F.ro 1 1, F.ro 0 0] ++
  R.d 0x108 [F.ro 31 0] [F.ro 15 0] ++
  ([0x110, 0x118, 0x120, 0x128, 0x130, 0x138].flatMap fun o => R.dRO o) ++
  R.rc [0x140, 0x144, 0x148, 0x14C, 0x150, 0x154, 0x158, 0x15C]

/-- FRG_0's registers that govern every forge (R202). -/
def frg0Regs : List RegDef :=
  R.wL 0x200 [F.rng 13 8 0x18 16 32, F.rng 4 0 8 1 24] ++ R.dRWL 0x208 ++
  R.w 0x210 [F.wo 0 0] ++ R.w 0x214 [F.ro 18 0] ++
  R.w 0x220 [F.rw 5 0] ++
  R.wL 0x224 [F.rng 24 16 0x1E0 256 511, F.rw 7 6 1, F.rw 5 4 2, F.rw 2 2 1, F.rw 1 1, F.rw 0 0 1] ++
  R.dRO 0x230 ++ R.rc [0x238, 0x23C, 0x240, 0x244, 0x248]

/-- DRP_n (R486). -/
def drpRegs : List RegDef :=
  R.w 0x104 [F.ro 22 16, F.ro 14 8, F.ro 1 1, F.ro 0 0] ++
  ([0x110, 0x118, 0x120, 0x128].flatMap fun o => R.dRO o) ++
  R.rc [0x140, 0x144, 0x148, 0x14C, 0x150, 0x154, 0x158, 0x15C]

/-- DRP_0's registers that govern every drawplate (R487). -/
def drp0Regs : List RegDef :=
  R.wL 0x200 [F.rng 15 0 0x03E8 100 10000] ++ R.dRWL 0x208 ++
  R.wL 0x210 [F.rng 24 16 0 0 384, F.rw 1 0 1] ++
  R.w 0x214 [F.wo 0 0] ++ R.ro [0x218] ++ R.rc [0x220, 0x224, 0x228]

/-- PLN (R454). -/
def plnRegs : List RegDef :=
  R.wL 0x100 [F.rw 31 29, F.rng 28 23 0x0A 1 63, F.rng 22 16 0x5A 50 99, F.rng 15 8 0x20 1 255, F.rng 2 0 2 1 4] ++
  R.wL 0x104 [F.rw 31 0 0x00010000] ++ R.wL 0x108 [F.rw 31 0 0x00004000] ++
  R.w 0x110 [F.rw 6 0] ++
  R.w 0x114 [F.rw 10 8, F.ro 2 0] ++ R.ro [0x118, 0x11C, 0x120, 0x124] ++
  R.w 0x128 [F.wo 1 1, F.wo 0 0] ++
  R.dRO 0x140 ++ R.dRO 0x148 ++
  R.w 0x150 [F.ro 2 2, F.ro 1 1, F.ro 0 0] ++
  R.wL 0x160 [F.rw 11 0] ++
  R.w 0x164 [F.ro 31 31, F.ro 26 24, F.ro 6 0] ++ R.dRO 0x168 ++
  R.rc [0x180, 0x184, 0x188, 0x18C]

/-- ANL (R458). -/
def anlRegs : List RegDef :=
  R.wL 0x100 [F.rng 31 27 8 1 31, F.rng 26 16 0x0C8 10 2047, F.rng 13 7 0x61 50 100, F.rng 6 0 0x0A 1 50] ++
  R.wL 0x104 [F.rng 31 16 0x80 1 1023, F.rng 15 0 0x20 1 1023] ++
  R.wL 0x108 [F.rng 6 0 0x0F 2 60] ++
  R.w 0x110 [F.ro 31 31, F.ro 18 16, F.ro 4 0] ++
  R.d 0x118 [F.rw 31 0] [F.rw 15 0] ++ R.d 0x120 [F.rw 31 0] [F.rw 15 0] ++
  R.w 0x128 [F.wo 0 0] ++ R.w 0x12C [F.w1c 1 1, F.ro 0 0] ++
  R.dRO 0x130 ++ R.dRO 0x138 ++ R.rc [0x140, 0x144, 0x148, 0x14C]

/-- LANE_CFG, on FLX_0 only (R461). -/
def flxLaneReg : List RegDef := R.wL 0x100 [F.rw 8 8, F.rng 4 0 0x18 20 24]

/-- FLX_n (R461). -/
def flxRegs : List RegDef :=
  R.wL 0x104 [F.rng 31 16 0x0064 10 1000, F.rng 15 0 0x0032 1 1000] ++
  R.w 0x108 [F.ro 18 16, F.ro 10 8, F.ro 5 0] ++
  R.w 0x10C [F.ro 31 24, F.ro 1 1, F.ro 0 0] ++
  R.w 0x110 [F.rw 0 0 1] ++
  R.rc [0x120, 0x124, 0x128, 0x12C]

end Sys2Proof.Machine
end

