-- ==== Sys2Proof/Machine/RegMapHost.lean ====
section
/-! DEFINITION. Register tables of NET (R535), XPT (R538), HQ (R158 to R160), WC (R347) and QST (R350). -/

namespace Sys2Proof.Machine

/-- NET_MODE, on NET_0 only (R535). -/
def netModeReg : List RegDef := R.wL 0x100 [F.rw 2 0]

/-- NET_n (R535). -/
def netRegs : List RegDef :=
  R.wL 0x104 [F.rw 16 16, F.rng 13 0 0x2400 1518 9216] ++
  ([0x108, 0x110, 0x118, 0x120].flatMap fun o => R.dL o [F.rw 31 0] [F.rw 31 31, F.rw 15 0]) ++
  R.wL 0x128 [F.rw 0 0 1] ++
  ((List.range 8).flatMap fun i => R.wL (0x130 + 4 * i) [F.rw 15 15, F.rw 11 0]) ++
  R.w 0x150 [F.rw 2 0] ++
  R.wL 0x154 [F.rw 31 31, F.rw 30 30] ++
  ([0x160, 0x164, 0x168, 0x16C].flatMap fun o => R.wL o [F.rw 31 0]) ++
  R.wL 0x170 [F.rng 31 16 0x0064 10 10000, F.rw 15 8 0x08, F.rw 6 4 0x6, F.rw 2 0 0x3] ++
  R.wL 0x174 [F.rng 31 16 0x0C00 256 4096, F.rng 15 0 0x0A00 128 3968] ++
  R.w 0x178 [F.ro 23 16, F.ro 15 8, F.ro 1 1, F.ro 0 0] ++
  R.wL 0x17C [F.rng 31 0 0x000186A0 1000 1000000] ++
  R.dRO 0x180 ++ R.dRO 0x188 ++
  R.rc [0x190, 0x194, 0x198, 0x19C, 0x1A0, 0x1A4, 0x1A8, 0x1AC]

/-- XPT (R538). -/
def xptRegs : List RegDef :=
  R.offStart (R.dRWL 0x108) ++
  R.wL 0x110 [F.rng 31 24 0x40 1 255, F.rng 23 16 0x10 1 128, F.rng 6 0 0x04 1 64] ++
  R.wL 0x114 [F.rng 18 16 0x7 1 7, F.rng 15 0 0x03E8 64 10000] ++
  R.wL 0x118 [F.rng 31 24 0x40 8 128, F.rng 23 16 0x28 5 255, F.rng 15 8 0x04 1 255, F.rng 7 0 0x01 1 50] ++
  R.wL 0x11C [F.rng 7 0 0x0A 1 255] ++
  R.wL 0x120 [F.rng 7 0 0x08 2 255] ++
  R.offStart (R.dRWL 0x128) ++ R.offStart (R.dRWL 0x130) ++
  R.w 0x138 [F.rng 15 0 0x0040 16 4096] ++
  R.w 0x13C [F.ro 31 16, F.rw 15 0] ++
  R.w 0x140 [F.rw 31 16, F.ro 15 0] ++
  R.w 0x144 [F.rw 16 0] ++
  R.w 0x148 [F.wo 3 0] ++
  R.w 0x14C [F.ro 8 8, F.ro 7 0] ++
  R.w 0x150 [F.ro 31 16, F.ro 15 8, F.ro 6 6, F.ro 5 5, F.ro 4 4, F.ro 2 0] ++
  R.rw ((List.range 16).map fun i => 0x180 + 4 * i) ++
  R.w 0x1C0 [F.rw 15 0] ++
  R.dRW 0x1C8 ++
  R.d 0x1D0 [F.rw 31 0] [F.rw 8 0] ++
  R.w 0x1D8 [F.rw 27 16, F.rw 3 0] ++
  R.w 0x1DC [F.wo 1 0] ++
  R.w 0x1E0 [F.ro 31 31, F.ro 30 30, F.ro 15 0] ++
  R.w 0x1F0 [F.ro 21 0] ++
  R.w 0x1F4 [F.ro 30 16, F.ro 14 0] ++
  R.w 0x1F8 [F.ro 31 0 0x00000707] ++
  R.w 0x1FC [F.ro 10 0] ++
  R.rc ((List.range 17).map fun i => 0x200 + 4 * i)

/-- HQ (R158 to R160). -/
def hqRegs : List RegDef :=
  R.wL 0x100 [F.rng 19 16 0x8 0 8, F.rng 15 8 0x01 1 255, F.rng 3 0 0x9 1 9] ++
  R.w 0x104 [F.ro 31 16, F.w1c 1 1, F.rw 0 0] ++
  R.w 0x108 [F.ro 5 5, F.ro 4 4, F.ro 3 3, F.ro 2 2, F.ro 1 1, F.ro 0 0] ++
  R.w 0x110 [F.rw 13 0] ++
  R.w 0x114 [F.ro 31 31, F.ro 30 30, F.ro 29 29, F.rw 21 16, F.rw 5 4, F.rw 3 2, F.rw 0 0] ++
  R.d 0x118 [F.rw 31 0] [F.rw 3 0] ++
  R.w 0x120 [F.rw 31 16, F.rw 15 0] ++
  R.w 0x124 [F.rw 31 16, F.rw 15 0] ++
  R.w 0x128 [F.rw 15 0] ++
  R.wL 0x12C [F.rw 31 16 0x278D, F.rw 15 0 0xA8C0] ++
  R.w 0x130 [F.ro 31 16, F.ro 15 0] ++
  R.rc [0x134] ++
  R.dRO 0x140 ++
  R.rc [0x148, 0x14C, 0x150, 0x154, 0x158, 0x15C, 0x160, 0x164] ++
  R.w 0x170 [F.ro 12 0] ++ R.w 0x174 [F.ro 16 0] ++ R.w 0x178 [F.ro 21 0] ++ R.w 0x17C [F.ro 21 0] ++
  R.dRWL 0x180 ++
  R.w 0x188 [F.ro 31 16, F.rw 15 0] ++
  R.w 0x18C [F.rng 15 0 0x0040 16 4096] ++
  R.dRW 0x190 ++ R.rw [0x198] ++ R.rw [0x1A0, 0x1A4] ++
  R.w 0x1AC [F.wo 31 17, F.wo 15 0]

/-- WC (R347). -/
def wcRegs : List RegDef :=
  R.wL 0x100 [F.rng 31 24 0x20 1 64, F.rng 19 16 0x3 0 15, F.rng 7 0 0x14 2 255] ++
  R.offStart (R.dRWL 0x108) ++ R.offStart (R.dRWL 0x110) ++
  R.w 0x118 [F.wo 0 0] ++
  R.w 0x11C [F.ro 8 8, F.ro 7 7, F.ro 6 6, F.ro 2 0 4] ++
  R.w 0x120 [F.ro 19 0] ++
  R.wL 0x130 [F.rng 22 16 0x32 0 100, F.rng 6 0 0x40 1 64] ++
  R.w 0x134 [F.ro 22 16, F.ro 2 0] ++
  R.w 0x138 [F.ro 22 16, F.ro 6 0] ++
  R.wL 0x140 [F.rw 15 0 0x3200] ++ R.wL 0x144 [F.rw 15 0 0x8CA0] ++
  R.wL 0x148 [F.rng 6 0 0x5A 50 100] ++ R.wL 0x14C [F.rw 10 0 0x2EE] ++
  R.wL 0x150 [F.rng 9 0 0x140 100 1000] ++ R.wL 0x154 [F.rng 15 0 0x6590 20000 40000] ++
  R.rw [0x158] ++ R.wL 0x15C [F.rw 31 16 0x07D0, F.rng 15 0 0x0E10 60 65535] ++
  R.ro [0x160, 0x164] ++
  R.w 0x168 [F.ro 1 1, F.ro 0 0] ++
  R.w 0x16C [F.wo 0 0] ++
  R.rc [0x180, 0x184, 0x188, 0x18C, 0x190, 0x194]

/-- QST (R350). -/
def qstRegs : List RegDef :=
  R.w 0x100 [F.ro 9 8, F.ro 2 0] ++
  R.ro [0x104] ++
  R.w 0x108 [F.ro 19 0] ++ R.w 0x10C [F.ro 15 0] ++ R.w 0x110 [F.ro 19 0] ++ R.w 0x114 [F.ro 19 0] ++
  R.w 0x118 [F.ro 19 0] ++
  R.rc [0x120, 0x124]

end Sys2Proof.Machine
end

