-- ==== Sys2Proof/Machine/RegMapInfra.lean ====
section
/-! DEFINITION. Register tables of the infrastructure pages: EQC (R663), HLM and TMK (R686), CLK (R706), TOP, PWR
and DBG (R733), FWU (R748), SRD (R780), AON (R781), SC (R645), MEMD and MEMH (R646), CVU (R618). -/

namespace Sys2Proof.Machine

/-- One ring's registers of EQC, at 0x200 + c × 0x20 (R663). -/
def eqcRing (c : Nat) : List RegDef :=
  let b := 0x200 + c * 0x20
  R.dRWL b ++
  R.wL (b + 0x08) [F.rng 19 16 8 6 15, F.rw 14 12, F.rw 8 8, F.rw 0 0] ++
  R.w (b + 0x0C) [F.ro 31 16, F.rw 15 0] ++
  R.w (b + 0x10) [F.ro 31 16, F.ro 0 0] ++
  R.w (b + 0x18) [F.rw 31 0] ++
  R.w (b + 0x1C) [F.ro 31 0]

/-- EQC (R663). LOG2_SIZE is a 4-bit field whose stated range is 6 to 16: it holds at most 15. -/
def eqcRegs : List RegDef :=
  R.dRO 0x100 ++ (List.range 32).flatMap eqcRing ++
  R.w 0x600 [F.wo 20 16, F.wo 4 0] ++
  R.w 0x604 [F.wo 31 31, F.wo 28 24, F.wo 23 8, F.wo 4 0] ++
  R.w 0x610 [F.rw 23 8, F.rw 3 0] ++
  R.w 0x614 [F.rw 0 0] ++
  R.w 0x618 [F.ro 31 16, F.ro 2 2, F.ro 1 0] ++
  R.rc [0x640, 0x644, 0x648, 0x64C, 0x650]

/-- HLM (R686). -/
def hlmRegs : List RegDef :=
  R.wL 0x100 [F.rng 7 0 8 1 255] ++
  ((List.range 8).flatMap fun i => R.wL (0x110 + 4 * i) [F.rw 31 16, F.rw 15 15, F.rw 7 0]) ++
  R.dRO 0x140 ++ R.dRO 0x148 ++
  R.w 0x150 [F.ro 16 8, F.ro 0 0] ++
  R.w 0x160 [F.rw 15 0] ++
  R.dRW 0x170 ++
  R.w 0x178 [F.rw 15 0] ++
  R.w 0x17C [F.wo 16 0] ++
  R.w 0x180 [F.ro 31 31] ++
  R.w 0x190 [F.rw 23 16, F.rw 15 0] ++
  R.rw [0x194, 0x198, 0x19C, 0x1A0, 0x1A4, 0x1A8, 0x1AC] ++
  R.w 0x1B0 [F.wo 0 0] ++
  R.rc [0x1C0, 0x1C4, 0x1C8] ++
  R.ro ((List.range 16).map fun n => 0x200 + 4 * n)

/-- TMK (R686, rows from TMK_ADDR). -/
def tmkRegs : List RegDef :=
  R.dRW 0x100 ++
  R.w 0x108 [F.rw 17 0] ++
  R.w 0x10C [F.rw 15 0] ++
  R.w 0x110 [F.wo 2 0] ++
  R.w 0x114 [F.ro 31 31, F.ro 30 30, F.ro 23 16, F.ro 9 8, F.ro 1 0] ++
  R.dRO 0x118 ++
  R.w 0x120 [F.ro 31 14] ++
  R.w 0x124 [F.ro 15 0] ++
  R.dRO 0x128

/-- CLK (R706). -/
def clkRegs : List RegDef :=
  R.w 0x100 [F.ro 8 0 0x0A1] ++
  R.w 0x104 [F.ro 7 0] ++
  R.d 0x108 [F.ro 31 0] [F.ro 3 0] ++
  R.wL 0x110 [F.rng 4 0 0x0A 6 30] ++
  R.w 0x118 [F.rw 3 0] ++
  R.w 0x11C [F.ro 31 0] ++
  R.w 0x120 [F.ro 3 3, F.ro 2 0] ++
  R.w 0x128 [F.w1c 31 31, F.ro 3 0] ++
  R.rc [0x140, 0x144, 0x148, 0x14C, 0x150]

/-- TOP (R733). DEVICE_ID, LC_STAT.STATE, OWNER_LOCK and the operating-time counters are read from the fuses and
the counter cells. -/
def topRegs : List RegDef :=
  R.w 0x100 [F.ro 31 16 0x0D09, F.ro 7 0 0xB1] ++
  R.dRO 0x108 ++
  R.w 0x110 [F.ro 31 31, F.ro 23 16, F.ro 8 8, F.ro 2 0] ++
  R.w 0x114 [F.wo 2 0] ++
  R.w 0x118 [F.wo 1 0] ++
  ((List.range 8).flatMap fun i => R.w (0x120 + 4 * i) [F.wo 31 0]) ++
  R.w 0x140 [F.ro 1 1, F.w1s 0 0] ++
  R.ro [0x150, 0x154] ++
  R.rc [0x158]

/-- PWR (R733). -/
def pwrRegs : List RegDef :=
  R.w 0x100 [F.wo 1 0] ++
  R.w 0x104 [F.ro 31 31, F.ro 27 24, F.ro 23 16, F.ro 10 8, F.ro 2 0] ++
  R.wL 0x108 [F.rw 0 0] ++
  R.w 0x110 [F.ro 23 16, F.ro 9 0 0x320] ++
  R.w 0x114 [F.ro 8 8, F.ro 4 0 0x1E] ++
  R.w 0x118 [F.ro 9 0] ++
  R.wL 0x11C [F.rng 9 0 0x17C 150 380] ++
  R.w 0x120 [F.ro 7 0] ++
  R.wL 0x124 [F.rng 7 0 0x64 85 105] ++
  R.ro [0x128] ++
  R.dRO 0x130 ++
  R.rc [0x140, 0x144, 0x148]

/-- DBG (R733), and the RISC-V debug-module registers mapped at 0x400 to 0x5FC (R714). -/
def dbgRegs : List RegDef :=
  R.w 0x100 [F.ro 8 8, F.ro 4 4, F.ro 1 0] ++
  R.w 0x104 [F.wo 1 1, F.w1s 0 0] ++
  ((List.range 8).flatMap fun n =>
    R.dL (0x110 + n * 0x10) [F.rw 31 0] [F.rw 15 0] ++ R.dL (0x118 + n * 0x10) [F.rw 31 0] [F.rw 15 0]) ++
  R.rc [0x1A0, 0x1A4, 0x1A8] ++
  R.rw ((List.range 128).map fun n => 0x400 + 4 * n)

/-- FWU (R748). -/
def fwuRegs : List RegDef :=
  R.wL 0x100 [F.rng 15 0 0x258 60 65535] ++
  R.dRW 0x108 ++
  R.w 0x110 [F.rng 27 0 0 0 0x8000000] ++
  R.dRWL 0x118 ++
  R.dRW 0x120 ++
  R.w 0x128 [F.wo 2 0] ++
  R.w 0x12C [F.ro 31 31, F.ro 23 16, F.ro 14 8, F.ro 4 4, F.ro 3 3, F.ro 2 2, F.ro 1 1, F.ro 0 0] ++
  R.w 0x130 [F.ro 31 30, F.ro 25 24, F.ro 23 16, F.ro 15 0] ++
  R.w 0x134 [F.ro 31 30, F.ro 25 24, F.ro 23 16, F.ro 15 0] ++
  R.dRO 0x138 ++ R.dRO 0x140 ++
  R.w 0x148 [F.ro 5 0] ++
  R.w 0x14C [F.ro 3 0] ++
  R.w 0x150 [F.ro 15 0] ++
  R.rc [0x160, 0x164, 0x168]

/-- SRD_n (R780). -/
def srdRegs : List RegDef :=
  R.w 0x100 [F.ro 23 16, F.ro 1 0 3] ++
  R.w 0x104 [F.rw 2 0] ++
  R.w 0x108 [F.ro 31 16, F.ro 2 2, F.ro 1 1, F.ro 0 0] ++
  R.wL 0x10C [F.rw 31 31, F.rw 23 18, F.rw 17 12, F.rw 11 6 0x30, F.rw 5 0] ++
  R.w 0x110 [F.rw 4 4, F.rw 1 0] ++
  R.rc [0x120, 0x124]

/-- AON (R781). -/
def aonRegs : List RegDef :=
  R.w 0x100 [F.ro 20 0] ++
  R.w 0x104 [F.ro 12 0] ++
  R.w 0x110 [F.rw 15 0] ++
  R.w 0x114 [F.rw 15 0] ++
  R.w 0x118 [F.ro 15 0] ++
  R.w 0x11C [F.rw 15 0 0xFFFF]

/-- SC (R645). -/
def scRegs : List RegDef :=
  R.wL 0x100 [F.rng 19 16 8 0 12, F.rng 11 8 4 2 8, F.rng 3 0 8 0 8] ++
  R.ro [] ++
  R.w 0x104 [F.ro 31 0 0x55550000] ++
  R.w 0x108 [F.wo 6 4, F.wo 3 0] ++
  R.w 0x10C [F.ro 31 31, F.ro 23 16, F.ro 8 8, F.ro 4 0 8] ++
  R.offStart (R.wL 0x110 [F.rw 15 0]) ++
  R.wL 0x114 [F.rng 7 0 0x10 1 255] ++
  R.dL 0x118 [F.rw 31 16 0xFFFF, F.rw 15 0 0xFFFF] [F.rw 31 16, F.rw 15 0 0xFFFF] ++
  R.rc [0x140, 0x144, 0x148, 0x14C, 0x150, 0x154, 0x158] ++
  ((List.range 4).flatMap fun c =>
    let b := 0x200 + c * 0x20
    R.d b [F.rw 31 0] [F.rw 15 0] ++ R.d (b + 8) [F.rw 31 0] [F.rw 15 0] ++
    R.w (b + 0x10) [F.wo 2 0] ++ R.w (b + 0x14) [F.ro 31 31, F.ro 7 0])

/-- MEM_CFG, on MEMD_0 only (R646). -/
def memCfgReg : List RegDef := R.wL 0x100 [F.rw 3 0 0xC]

/-- MEMD_n and MEMH_n (R646). -/
def memRegs : List RegDef :=
  R.wL 0x104 [F.rng 7 0 0x18 1 255] ++
  R.w 0x108 [F.ro 31 24, F.ro 23 8, F.ro 5 4, F.ro 2 0] ++
  R.d 0x110 [F.ro 31 0] [F.ro 15 0] ++
  R.rc [0x120, 0x124, 0x128, 0x12C]

/-- CVU_n (R618). -/
def cvuRegs : List RegDef :=
  R.wL 0x100 [F.rw 23 16, F.rw 7 0] ++
  R.wL 0x104 [F.rw 25 24 3, F.rw 21 20, F.rw 16 16, F.rw 13 12, F.rw 8 8, F.rw 4 4, F.rng 3 0 3 1 15] ++
  R.w 0x108 [F.rw 15 0] ++
  R.rw [0x10C, 0x110] ++
  R.w 0x114 [F.rw 15 0] ++
  R.w 0x118 [F.rw 15 0] ++
  R.ro [0x120] ++ R.dRO 0x128 ++ R.ro [0x130] ++
  R.w 0x134 [F.ro 31 31, F.ro 3 0] ++
  R.ro [0x138] ++ R.dRO 0x140 ++
  R.rc [0x150, 0x154, 0x158, 0x15C, 0x160]

end Sys2Proof.Machine
end

