-- ==== Sys2Proof/Machine/RegMapLedger.lean ====
section
/-! DEFINITION. Register tables of LDG (R117, R118) and ING (R404). -/

namespace Sys2Proof.Machine

/-- LDG (R117, R118). -/
def ldgRegs : List RegDef :=
  R.wL 0x100 [F.rng 27 24 4 1 15, F.rng 22 16 0x10 4 64, F.rng 15 0 0x07D0 500 50000] ++
  R.wL 0x104 [F.rng 22 16 0x32 10 80, F.rng 15 0 0x100 1 65535] ++
  R.w 0x108 [F.ro 9 9, F.ro 8 8, F.rw 1 1, F.rw 0 0] ++
  R.d 0x110 [F.ro 31 0] [F.ro 15 0] ++ R.d 0x118 [F.ro 31 0] [F.ro 15 0] ++
  R.w 0x120 [F.ro 31 16, F.ro 11 8, F.ro 2 0 4] ++
  R.w 0x124 [F.wo 0 0] ++
  R.w 0x128 [F.ro 15 8, F.ro 7 0] ++
  R.dRO 0x130 ++ R.dRO 0x138 ++
  R.w 0x140 [F.rw 13 0] ++ R.w 0x144 [F.rw 15 0] ++ R.w 0x148 [F.rw 13 0] ++
  R.w 0x14C [F.wo 3 0] ++
  R.w 0x150 [F.ro 31 16, F.ro 8 8, F.ro 7 0] ++
  R.d 0x158 [F.ro 31 0] [F.ro 15 0] ++
  R.w 0x160 [F.ro 7 7, F.ro 6 6, F.ro 5 4 1, F.ro 3 2, F.ro 0 0] ++
  R.w 0x164 [F.w1s 1 1, F.w1s 0 0] ++
  R.rc [0x168] ++
  R.w 0x16C [F.ro 18 18, F.ro 17 17, F.ro 16 16, F.ro 15 0] ++
  R.ro [0x180] ++ R.rw [0x184] ++ R.ro [0x188, 0x18C, 0x190, 0x194] ++
  R.dRO 0x1A0 ++ R.rc [0x1A8]

/-- ING (R404). -/
def ingRegs : List RegDef :=
  R.wL 0x100 [F.rng 21 16 0x14 4 32, F.rng 2 0 4 1 4] ++
  R.wL 0x104 [F.rng 6 0 0 0 64] ++
  R.offStart (R.dRWL 0x108) ++
  R.offStart (R.wL 0x110 [F.rng 5 0 0x1E 20 39]) ++
  R.wL 0x114 [F.rng 31 16 0x190 50 5000, F.rng 15 12 8 2 15, F.rng 8 0 0x1E 5 500] ++
  R.wL 0x118 [F.rng 31 22 0x100 1 1023, F.rng 21 12 0x40 1 1023, F.rng 11 5 0x19 0 100, F.rng 4 0 8 1 31] ++
  R.w 0x120 [F.ro 31 31, F.ro 30 30, F.ro 29 29, F.ro 23 16, F.ro 15 9, F.ro 8 0] ++
  R.d 0x128 [F.ro 31 0] [F.ro 7 0] ++ R.dRO 0x130 ++
  R.w 0x140 [F.ro 19 19, F.ro 18 18, F.ro 17 17, F.ro 16 16, F.ro 12 8, F.ro 2 0 4] ++
  ([0x144, 0x148, 0x14C, 0x150, 0x154].flatMap fun o => R.w o [F.ro 16 0]) ++
  R.dRO 0x158 ++
  R.w 0x160 [F.rw 6 0] ++
  R.w 0x164 [F.ro 31 16, F.ro 15 8, F.ro 6 4, F.ro 2 0] ++
  R.w 0x168 [F.wo 0 0] ++
  R.rc [0x16C, 0x170, 0x174] ++
  R.ro [0x180] ++
  R.w 0x184 [F.ro 31 31, F.ro 30 24, F.ro 23 0] ++
  R.rc [0x190, 0x194, 0x198, 0x19C, 0x1A0, 0x1A4, 0x1A8, 0x1AC, 0x1B0]

end Sys2Proof.Machine
end

