-- ==== Sys2Proof/Machine/RegMapWadun.lean ====
section
/-! DEFINITION. The register tables of WDL (R601) and RPL (R565). -/

namespace Sys2Proof.Machine

/-- WDL (R601). -/
def wdlRegs : List RegDef :=
  R.wL 0x100 [F.rng 21 16 5 1 40, F.rng 11 8 4 1 15, F.rng 7 0 2 1 255] ++
  R.w 0x104 [F.wo 0 0] ++
  R.w 0x108 [F.ro 23 16, F.ro 10 8, F.ro 2 0] ++
  R.ro [0x10C] ++
  R.w 0x110 [F.ro 31 31, F.ro 15 8, F.ro 4 4, F.ro 0 0] ++
  R.ro [0x120, 0x124, 0x128, 0x12C] ++
  R.wL 0x140 [F.rng 15 0 100 1 10000] ++
  R.w 0x144 [F.wo 0 0] ++
  R.w 0x148 [F.ro 31 16, F.ro 15 0] ++
  R.w 0x14C [F.ro 15 0] ++
  R.w 0x150 [F.wo 2 0] ++
  R.w 0x154 [F.ro 31 31, F.ro 30 30, F.ro 22 16, F.ro 10 8, F.ro 2 0 4] ++
  R.w 0x158 [F.wo 31 30, F.wo 13 0] ++
  R.w 0x15C [F.ro 8 8, F.ro 7 0] ++
  R.dRO 0x160 ++ R.dRO 0x168 ++
  R.rc [0x180, 0x184, 0x188, 0x18C, 0x190, 0x194, 0x198, 0x19C]

/-- RPL (R565). -/
def rplRegs : List RegDef :=
  R.wL 0x100 [F.rng 31 24 3 2 15, F.rng 23 8 100 10 10000, F.rng 7 0 20 2 255] ++
  R.wL 0x104 [F.rng 9 0 20 1 1023] ++
  R.wL 0x108 [F.rw 15 0] ++
  R.w 0x110 [F.rw 5 0] ++
  R.w 0x114 [F.rng 31 30 0 0 2, F.rng 19 16 4 1 10, F.rng 12 0 1024 64 4096] ++
  R.w 0x118 [F.rw 16 0] ++
  R.w 0x11C [F.rw 27 16, F.rw 11 0] ++
  R.w 0x120 [F.rw 31 16, F.rw 15 0] ++
  R.w 0x124 [F.rng 15 0 1000 10 65535] ++
  R.w 0x128 [F.rw 31 8, F.rw 5 0] ++
  R.dRW 0x130 ++ R.dRW 0x138 ++
  R.w 0x140 [F.rw 31 16, F.rw 15 0] ++
  R.w 0x144 [F.wo 31 30, F.wo 29 16, F.wo 13 0] ++
  R.w 0x148 [F.wo 2 0] ++
  R.w 0x14C [F.ro 27 24, F.ro 23 16, F.ro 8 0] ++
  R.dRO 0x150 ++ R.dRO 0x158 ++
  R.d 0x160 [F.ro 31 0] [F.ro 15 0] ++
  R.dRO 0x168 ++
  R.rc [0x180, 0x184, 0x188, 0x18C, 0x190, 0x194, 0x198]

end Sys2Proof.Machine
end

