-- ==== Sys2Proof/Machine/RegMap.lean ====
section
/-! DEFINITION. The page map (R13, R21 to R23, R32, R33) and the reset value of every register word. -/

namespace Sys2Proof.Machine

/-- What the block table of R13 and the header say of a class: its instances, its PAGE_TYPE (R32), FEAT_AVAIL_0 on
B1, and FEAT_AVAIL_0 on A0 (R4). -/
structure ClassInfo where
  cls : Nat
  instances : Nat
  pageType : Nat
  feat : Nat
  featA0 : Nat
deriving DecidableEq, Repr

/-- The classes of R13 and R22, with the feature words their chapters give. -/
def classes : List ClassInfo :=
  [⟨0x01, 1, 1, 0x00, 0x00⟩, ⟨0x02, 1, 1, 0x01, 0x01⟩, ⟨0x03, 1, 1, 0x03, 0x03⟩, ⟨0x04, 1, 1, 0x03, 0x03⟩,
   ⟨0x05, 1, 4, 0x0F, 0x0D⟩, ⟨0x06, 12, 4, 0x03, 0x03⟩, ⟨0x07, 2, 4, 0x03, 0x03⟩, ⟨0x08, 1, 4, 0x00, 0x00⟩,
   ⟨0x09, 1, 4, 0x07, 0x07⟩, ⟨0x0A, 1, 4, 0x01, 0x01⟩, ⟨0x10, 1, 1, 0x3F, 0x3F⟩, ⟨0x11, 16, 1, 0x3F, 0x3F⟩,
   ⟨0x12, 16, 1, 0x03, 0x03⟩, ⟨0x13, 1, 2, 0x3F, 0x3F⟩, ⟨0x14, 1, 2, 0x1F, 0x1F⟩, ⟨0x15, 1, 2, 0x07, 0x07⟩,
   ⟨0x16, 1, 1, 0x0F, 0x0F⟩, ⟨0x17, 1, 1, 0x3F, 0x3F⟩, ⟨0x18, 1, 1, 0x07, 0x07⟩, ⟨0x19, 1, 1, 0x0F, 0x0F⟩] ++
  [⟨0x1A, 1, 1, 0x0F, 0x0F⟩, ⟨0x1B, 1, 1, 0x07, 0x07⟩, ⟨0x20, 16, 3, 0x03, 0x03⟩, ⟨0x21, 1, 1, 0x3F, 0x3F⟩,
   ⟨0x22, 1, 3, 0x0F, 0x0F⟩, ⟨0x23, 96, 3, 0x03, 0x03⟩, ⟨0x24, 36, 3, 0x03, 0x03⟩, ⟨0x28, 64, 1, 0x07, 0x07⟩,
   ⟨0x30, 1, 1, 0x01, 0x01⟩, ⟨0x31, 1, 1, 0x01, 0x01⟩, ⟨0x32, 1, 1, 0x1F, 0x1F⟩]

/-- The class of a page number (R22). -/
def clsOf (p : Nat) : Nat := p / 256
/-- The instance of a page number (R22). -/
def instOf (p : Nat) : Nat := p % 256

/-- The class entry of a page number, `none` where the number names no page (R23). -/
def pageInfo (p : Nat) : Option ClassInfo :=
  (classes.find? fun c => c.cls == clsOf p).bind fun c => if instOf p < c.instances then some c else none

/-- The page number names a page (R23). -/
def pageExists (p : Nat) : Bool := (pageInfo p).isSome

/-- The block registers of a page, from 0x100 up; some stand on one instance only (R202, R454, R646). -/
def pageRegs (p : Nat) : List RegDef :=
  match clsOf p with
  | 0x01 => topRegs
  | 0x02 => aonRegs
  | 0x03 => clkRegs
  | 0x04 => eqcRegs
  | 0x05 => scRegs
  | 0x06 => if instOf p = 0 then memCfgReg ++ memRegs else memRegs
  | 0x07 => memRegs
  | 0x08 => qstRegs
  | 0x09 => hlmRegs
  | 0x0A => tmkRegs
  | 0x10 => hqRegs
  | 0x11 => if instOf p = 0 then frgRegs ++ frg0Regs else frgRegs
  | 0x12 => if instOf p = 0 then drpRegs ++ drp0Regs else drpRegs
  | 0x13 => asyRegs
  | 0x14 => cruRegs
  | 0x15 => tinRegs
  | 0x16 => ldgRegs
  | 0x17 => ingRegs
  | 0x18 => plnRegs
  | 0x19 => anlRegs
  | 0x1A => wcRegs
  | 0x1B => rplRegs
  | 0x20 => if instOf p = 0 then netModeReg ++ netRegs else netRegs
  | 0x21 => xptRegs
  | 0x22 => wdlRegs
  | 0x23 => if instOf p = 0 then flxLaneReg ++ flxRegs else flxRegs
  | 0x24 => srdRegs
  | 0x28 => cvuRegs
  | 0x30 => dbgRegs
  | 0x31 => fwuRegs
  | 0x32 => pwrRegs
  | _ => []

/-- The header registers at 0x000 to 0x0FF (R32), with their fields. -/
def headerRegs : List RegDef :=
  R.w 0x000 [F.ro 31 24, F.ro 23 16, F.ro 15 8] ++
  R.w 0x004 [F.ro 15 8 1, F.ro 7 0] ++
  R.ro [0x008, 0x00C, 0x010, 0x014] ++
  R.rw [0x018, 0x01C, 0x020, 0x024] ++
  R.ro [0x028, 0x02C, 0x030, 0x034] ++
  R.w 0x040 [F.wo 4 4, F.w1s 3 3, F.rw 2 2, F.w1s 1 1, F.rw 0 0] ++
  R.w 0x044 [F.ro 7 7, F.ro 6 6, F.ro 5 5, F.ro 4 4, F.ro 2 0] ++
  R.w 0x048 [F.ro 31 31, F.ro 19 8, F.ro 7 0] ++
  R.rc [0x04C] ++
  R.w 0x050 [F.rw 16 16, F.rw 10 8, F.rw 4 0] ++
  R.w 0x054 [F.w1s 3 3, F.w1s 2 2, F.w1s 1 1, F.w1s 0 0] ++
  R.rw [0x0FC]

/-- The register at an offset of a page, if one is defined there (R29, R32). -/
def regAt (p off : Nat) : Option RegDef :=
  if off < 0x100 then headerRegs.find? fun r => r.off == off
  else (pageRegs p).find? fun r => r.off == off

/-- A register word with every field at its reset value. -/
def RegDef.resetWord (r : RegDef) : W32 := BitVec.ofNat 32 (r.fields.foldl (fun a f => a + f.reset * 2 ^ f.lo) 0)

/-- The reset value of the word at an offset of a page (R32, R33, and the register tables). -/
def regReset (a0 : Bool) (p off : Nat) : W32 :=
  match pageInfo p with
  | none => 0
  | some c =>
    if off = 0x000 then BitVec.ofNat 32 (p * 0x10000 + c.pageType * 0x100)
    else if off = 0x008 then BitVec.ofNat 32 (if a0 then c.featA0 else c.feat)
    else if p = 0x0100 ∧ off = 0x100 ∧ a0 then 0x0D0900A0#32
    else if p = 0x2100 ∧ off = 0x1F8 ∧ a0 then 0x00000107#32
    else match regAt p off with
      | some r => r.resetWord
      | none => 0

end Sys2Proof.Machine
end

