-- ==== Sys2Proof/Machine/StateEngine.lean ====
section
/-! DEFINITION. Internal state of the engines: common rings (spec/02_register_pages.md), Assay
(spec/06_assay.md) and Tinning (spec/08_tinning.md). Crucible's contexts lie in DDR-5 and its marks in CTX_FULL. -/

namespace Sys2Proof.Machine

/-! Rings (R53 to R59). -/

/-- A descriptor as its engine read it (R54). -/
structure Dsc where
  opcode : Nat := 0
  flags : Nat := 0
  ctx : Nat := 0
  keySlot : Nat := 0
  rsvd : Nat := 0
  tag : Nat := 0
  src : Nat := 0
  srcLen : Nat := 0
  dstLen : Nat := 0
  dst : Nat := 0
  aux : Nat := 0
  auxLen : Nat := 0
  limit : Nat := 0
  param : Nat := 0
deriving DecidableEq, Repr

/-- A completion that its lane has still to write (R56). -/
structure Rec where
  tag : Nat
  status : Nat
  cflags : Nat := 0
  idx : Nat
  consumed : Nat := 0
  produced : Nat := 0
  detail : Nat := 0
  info : Nat := 0
  seq : Nat := 0
  lane : Nat := 0
  event : Bool := false
deriving DecidableEq, Repr

/-- A ring beside its registers: the pass has PHASE 0, the tail that was accepted when the page left RUN (R42), the
completions not yet written, the lane that waits to write them; whether the ring stands in the lane queue, and its place there
(R227, R229). -/
structure Ring where
  phase0 : Bool := false
  seen : Option Nat := none
  done : List Rec := []
  lane : Option Nat := none
  queued : Bool := false
  place : Int := 0
  /-- the descriptor that was read and is under way on `lane`, with its index (R53): a Tinning one that waits for uses -/
  cur : Option (Dsc × Nat) := none
  /-- EN was cleared while a descriptor ran: the rest completes behind it (R238) -/
  closing : Bool := false
deriving DecidableEq, Repr

/-- The rings of all engines, keyed by page and ring; completions counted by lane (SEQ); a counter that orders arrivals, and one
that orders those that go ahead of them. -/
structure Eng where
  rings : Tab Ring
  seqs : Tab Nat
  tick : Nat
  /-- rings that went ahead of the queue so far (R229) -/
  front : Nat
deriving DecidableEq, Repr

/-! Assay (R207 to R224). -/

/-- The state of a message, in a lane or in a context (R224). -/
structure AMsg where
  alg : Nat := 0
  keyed : Bool := false
  compare : Bool := false
  keySlot : Nat := 0
  loads : Nat := 0
  count : Nat := 0
  inner : List Byte := []
  outer : List Byte := []
  buf : List Byte := []
deriving DecidableEq, Repr

/-- The open message of a ring (R211, R228 to R230): the lane that holds it, or the context it was preempted into; the
descriptor under way, its index and the bytes of it absorbed; when it took its lane. -/
structure AOpen where
  lane : Option Nat
  ctx : Nat
  yield : Bool
  part : Option (Dsc × Nat × Nat) := none
  msg : AMsg := {}
  since : Nat := 0
deriving DecidableEq, Repr

/-- ASY's internal state: open messages by ring, contexts that are FULL, and the result blocks latched by master and
lane (R216). -/
structure Asy where
  opened : Tab AOpen
  ctxs : Tab AMsg
  latch : Tab (List W32)
deriving DecidableEq, Repr

/-! Tinning. -/

/-- A key slot (R271, R285, R290 to R292). `loads` outlives the key. -/
structure KSlot where
  loaded : Bool := false
  cls : Nat := 0
  key : List Byte := []
  salt : List Byte := []
  limit : Nat := 0
  keyId : Nat := 0
  uses : Nat := 0
  warned : Bool := false
  exhausted : Bool := false
  loads : Nat := 0
deriving DecidableEq, Repr

/-- A key generation of a domain (R276). -/
structure KGen where
  valid : Bool := false
  straddle : Bool := false
  keyId : Nat := 0
  first : Nat := 0
deriving DecidableEq, Repr

/-- A KEYGEN_CMD under way (R277, R280, R791): INSTALL or RETIRE, the domain, the GEN index, the entry as it will be,
and whether the partner has acknowledged it. -/
structure KCmd where
  install : Bool
  dom : Nat
  gen : Nat
  entry : KGen
  acked : Bool
deriving DecidableEq, Repr

/-- The answer to a request for uses of a slot (R293): the first use number granted, or the refusal. -/
inductive Grant where
  | granted (n : Nat)
  | exhausted
  | empty
deriving DecidableEq, Repr

/-- TIN's internal state: slots; the two halves of the generation table; ceilings of the count table by KEY_ID; the
requests that wait for a slot, in order (slot, unit, uses); answers not yet taken, by unit; the command under way; the last epoch in
which each domain was sealed; PARTNER entries written since link-up; refused updates. -/
structure Tin where
  slots : Tab KSlot
  gens : Tab KGen
  counts : Tab Nat
  reqs : List (Nat × Nat × Nat)
  grants : Tab Grant
  cmd : Option KCmd
  sealedIn : Tab Nat
  fresh : List Nat
deriving DecidableEq, Repr

end Sys2Proof.Machine
end

