-- ==== Sys2Proof/Machine/StateFlash.lean ====
section
/-! DEFINITION. Internal state of the forges (spec/05_forges.md), the ingot caster (spec/10_ingots_erasure.md), Planish,
Anneal and FLX (spec/11_flash_translation.md) and the drawplates (spec/12_read_path.md). -/

namespace Sys2Proof.Machine

/-! Forges. -/

/-- A grain handle (R162), its reserved bits apart. -/
structure Handle where
  slot : Nat
  epoch : Nat
  ns : Nat
  grain : Nat
  crc : Nat
  pif : Nat
  domain : Nat
  reissue : Bool
  single : Bool
  seq : Nat
deriving DecidableEq, Repr

/-- Where a grain's lookup stands: not wanted; not yet posted; at Assay; waiting for an index page; waiting on a PENDING
entry, and that entry removed (R179); a CANDIDATE being verified; answered as a miss (R173: or in a way that settles nothing). -/
inductive Look where
  | off | queued | asked | page | pend | gone | cand (gloc : W64) (len16 : Nat) | miss | late
deriving DecidableEq, Repr

/-- Where a grain's seal stands: not wanted yet; waiting for a billet; for the Tinning unit; sealing under a slot; sealed;
held by KEY_WAIT (R183, R188). -/
inductive Seal where
  | off | billet | asked | running (slot : Nat) | done (body : List Byte) | keyWait
deriving DecidableEq, Repr

/-- A grain in a forge's window. -/
structure FGrain where
  h : Handle
  /-- INTAKE has ended with good data -/
  read : Bool := false
  refetch : Bool := false
  /-- what INTAKE and a refetch found: data and PI image -/
  data : List Byte := []
  pi : List Byte := []
  fp : List Byte := []
  /-- the payload, padded, and its codec -/
  payload : List Byte := []
  codec : Nat := 0
  look : Look := .off
  /-- the filter's prediction -/
  pred : Bool := false
  /-- a PENDING entry of this grain is in the index -/
  inserted : Bool := false
  /-- the entry that its own replaces at hand-in (R177, R194) -/
  replaces : Option W64 := none
  /-- the stored grain it did not match, until the record of R203 can name the new body -/
  differs : Option W64 := none
  sealing : Seal := .off
  gloc : Option W64 := none
deriving DecidableEq, Repr

/-- A hand-in (R191): the entry's header, the body of a BODY, what the index keeps of it (fingerprint, domain, PI size code,
the entry it replaces), for Anneal the old GLOC, and for a metadata page its PID (R442). -/
structure HandIn where
  kind : Nat
  forge : Nat
  ns : Nat := 0
  len16 : Nat := 0
  grain : Nat := 0
  epoch : Nat
  gloc : W64 := 0
  body : List Byte := []
  fp : Option (List Byte × Nat × Nat) := none
  replaces : Option W64 := none
  old : W64 := 0
  page : Option Nat := none
deriving DecidableEq, Repr

/-- An index entry (R174), all of them VALID, with its CHK; `owner` is the window place (forge × 256 + SEQ) of a PENDING entry. -/
structure IdxEnt where
  fp : List Byte
  gloc : W64
  cast : Nat
  domain : Nat
  pisz : Nat
  pending : Bool
  moving : Bool
  len16 : Nat
  owner : Nat
  chk : W64 := 0
deriving DecidableEq, Repr

/-- A valid filter entry (R172). -/
structure FltEnt where
  tag : Nat
  domain : Nat
  pisz : Nat
  age : Nat
deriving DecidableEq, Repr

/-- The forges, with Assay's index and filter: windows and hand-in queues by forge (16: Anneal and the checkpoint writer);
index pages, as they stand since chip reset and as the last checkpoint wrote them, with the generation at which each was last written; the
pages resident in HBM, latest first; the filter by set × 16 + way; DOM_CFG as written and as in force, and the epoch it is in force for
(R193); the partner's copies of slots that have arrived for a refetch, none where it
answered FETCH_NAK (R590). -/
structure Frg where
  win : Tab (List FGrain)
  outs : Tab (List HandIn)
  idx : Tab (List IdxEnt)
  idxCkpt : Tab (List IdxEnt)
  idxGen : Tab Nat
  resident : List Nat
  flt : Tab FltEnt
  dom : Tab W32
  domLive : Tab W32
  domAt : Option Nat
  copies : Tab (Option (List Byte))
deriving DecidableEq, Repr

/-! The caster. -/

/-- A billet of an open ingot: the forge that holds it (16 for Anneal), its cursor in units, whether it is closed (R184,
R357). -/
structure Billet where
  owner : Nat
  cursor : Nat
  closed : Bool
deriving DecidableEq, Repr

/-- An ingot from its opening to its retire (R356 to R359, R369). `got` are the bodies and culls it has received; `locs` the
locators granted, by member; `ended` the members whose append has completed; `failed` those that wait for an amend; `jent` the JSEQ
of the entry that stands for it. -/
structure Casting where
  ingot : Nat
  epoch : Nat
  reloc : Bool
  /-- a checkpoint ingot (R442) -/
  ckpt : Bool := false
  cls : Nat
  k : Nat
  m : Nat
  kk : Nat
  billets : List Billet := []
  got : List HandIn := []
  casting : Bool := false
  locs : List (Option Loc) := []
  ended : List Nat := []
  failed : List Nat := []
  jent : Option Nat := none
deriving DecidableEq, Repr

/-- A module as ING keeps it (R379 to R383). -/
inductive ModSt where
  | absent | active | slowHeld | ejected
deriving DecidableEq, Repr

/-- MOD_STAT and counters of a module; `times` are the detours of the last second in µs, `asked` the issue time of its oldest
outstanding command. -/
structure Mod where
  st : ModSt := .absent
  cause : Nat := 0
  times : List Nat := []
  asked : Option W64 := none
  deferred : Nat := 0
  detours : Nat := 0
  appendFail : Nat := 0
  readErr : Nat := 0
deriving DecidableEq, Repr

/-- An attempt to rebuild members of an ingot, or Anneal's move of one (R389, R436): the members, the rows read as unreadable by
member, the replacement locators, the JSEQ of its REBUILD entry, the epoch that holds its REPLACE items. -/
structure Attempt where
  ingot : Nat
  move : Bool
  set : List Nat
  locs : List Loc := []
  /-- the locators it replaces -/
  old : List Loc := []
  data : List (List Byte) := []
  slagRows : Nat := 0
  /-- the extents its slag rows lose (R390) -/
  ext : List SlagEntry := []
  jent : Option Nat := none
  passed : Option Nat := none
deriving DecidableEq, Repr

/-- A member append asked of FLX and not completed (R370): its entry's JSEQ, the ingot and member, its place, and whether it
has been issued. -/
structure App where
  jseq : Nat
  ingot : Nat
  member : Nat
  loc : Loc
  issued : Bool
deriving DecidableEq, Repr

/-- An open stripe-journal entry (R367, R374): its JSEQ, ingot, JTYPE, whether a copy that counts is written, and its bytes. -/
structure SjEntry where
  jseq : Nat
  ingot : Nat
  kind : Nat
  written : Bool
  resends : Nat
  bytes : List Byte := []
deriving DecidableEq, Repr

/-- ING's internal state: ingots not yet retired; retired ones whose epoch is not committed; STATEs claimed and not yet
committed; modules; the five rebuild queues, SEAL first; attempts; open journal entries; appends, in JSEQ order; the next JSEQ; the read bucket; geometry that waits
for the next close; whether the journal is resolved; the members reported with unreadable units (ingot, member, row); entries fetched
from the partner for resolution; the last resolution could read no copy of any entry (R377). -/
structure Ing where
  cast : List Casting
  retired : Tab Ingot
  claims : Tab IngotSt
  mods : Tab Mod
  queues : List (List Nat)
  attempts : List Attempt
  sj : List SjEntry
  appends : List App
  jseq : Nat
  bucket : Nat
  geom : W32
  resolved : Bool
  badRows : List (Nat × Nat × Nat)
  fetched : Tab (List Byte)
  unread : Bool
deriving DecidableEq, Repr

/-! Planish. -/

/-- A module's PLN state (R411), in the order of MOD_INFO.STATE. -/
inductive PmSt where
  | absent | new | member | readOnly | evacuated | ejected | refused
deriving DecidableEq, Repr

/-- A module as PLN keeps it: state, class, NGUID, zones it has, chunks to a zone, blocks of a zone past its last chunk, zones at
admission; Identify data that wait for PLN. -/
structure PMod where
  st : PmSt := .absent
  cls : Nat := 0
  nguid : Nat := 0
  zones : Nat := 0
  cap : Nat := 0
  rest : Nat := 0
  total : Nat := 0
  /-- Identify data of a port that trained while PLN was OFF or in FAULT -/
  seen : Option ModId := none
deriving DecidableEq, Repr

/-- ZSTATE (R414); PARTNER and LOST follow from the zone's half and its module. -/
inductive ZSt where
  | empty | opened | closing | full | reclaim | resetting | offline
deriving DecidableEq, Repr

/-- A zone-table entry (R414); LIVE16 and AREA16 are sums over the ingot table. In a SPINE zone `done` and `free` count pages (R444). -/
structure Zone where
  st : ZSt := .empty
  spine : Bool := false
  adopted : Bool := false
  worn : Bool := false
  resets : Nat := 0
  next : Nat := 0
  done : Nat := 0
  free : Nat := 0
deriving DecidableEq, Repr

/-- A page-map entry (R445): three PLOCs, or a GLOC in the first; the CRC-32C of the page's plaintext; the CKPT_GEN that wrote it. -/
structure PageEnt where
  loc0 : W64 := 0
  loc1 : W64 := 0
  loc2 : W64 := 0
  crc : W32 := 0
  gen : Nat := 0
deriving DecidableEq, Repr

/-- Where pages lie (R82, R445): by PID, all pages but nodes and leaves; the nodes of the page map by level × 2^64 + number; the leaves by
range key, each with its PAGE_BIRTH. -/
structure PageTree where
  pages : Tab PageEnt
  nodes : Tab PageEnt
  leaves : Tab (W64 × Nat)
deriving DecidableEq, Repr

/-- A running checkpoint's writer (R446): the ingot-borne pages still to be written, each with its plaintext as of the epoch it covers (a
directory page is formed when its leaves are placed); the ingot-table pages that are marked; the tree as it will be; the PIDs written, the bodies they
supersede, and the ingots that hold the new ones. -/
structure CkptWriter where
  left : List (Nat × List Byte)
  table : List Nat
  zones : Tab Zone
  idx : Tab (List IdxEnt)
  tree : PageTree
  wrote : List Nat := []
  dead : List W64 := []
  ingots : List Nat := []
deriving DecidableEq, Repr

/-- PLN's internal state: modules; zones by module × 2^32 + zone; the cursor of each class; chunks released and not yet past
their read fence (zone, ingot, commit count); the open epoch when F fell to the floor; the partner was rejoined and owns no zone
but those returned (R418); ports whose link is down; ports that did not train within RETRAIN_MS of their ENABLE (R759); the pages on flash, the
running checkpoint's writer, the zone table as the last checkpoint wrote it; what checkpoints have superseded, by the epoch that
holds the CKPT record: page bodies, and the spine zone of each page (R446); PIDs that the next checkpoint writes elsewhere (R448, R449). -/
structure Pln where
  mods : Tab PMod
  zones : Tab Zone
  cursor : Tab Nat
  released : List (Nat × Nat × Nat)
  floorAt : Option Nat
  lacking : Bool
  returned : List Nat
  down : List Nat
  late : List Nat
  tree : PageTree
  writer : Option CkptWriter
  zoneCkpt : Tab Zone
  supers : List (Nat × List W64 × List Nat)
  remark : List Nat
deriving DecidableEq, Repr

/-! Anneal. -/

/-- A relocation (R433): the ingot, the epoch that was open at the claim, the bodies still to be copied, the epoch of the relocation ingot, whether the roster was FULL. -/
structure Job where
  ingot : Nat
  claim : Nat
  copying : Bool := false
  left : List W64 := []
  epoch : Option Nat := none
deriving DecidableEq, Repr

/-- ANL's internal state: relocations; ingots handed over by ING; the read bucket; ingots moved by the rekey sweep; it runs for free
space. -/
structure Anl where
  jobs : List Job
  handed : List Nat
  bucket : Nat
  rekeyed : Nat
  free : Bool
  victim : Option (Nat × Nat)
deriving DecidableEq, Repr

/-! Drawplates. -/

/-- A read request held by a drawplate (R467): the drawplate, KIND, the command (queue pair and CID), or the forge and SEQ of
a VERIFY_HIT; namespace and grain; the entry; the commit count at which its locator was resolved (R415); the cause of its
reconstruction, the members asked for it and those that have answered (R472); whether another copy of its slot was asked for (R470). -/
structure RReq where
  drp : Nat
  kind : Nat
  a : Nat
  b : Nat
  ns : Nat
  grain : Nat
  entry : MapEntry
  at_ : Nat
  recon : Option Nat := none
  asked : List Nat := []
  got : List (Nat × List Byte) := []
  fetch : Bool := false
deriving DecidableEq, Repr

/-- The tag of a valid read-cache entry, whose bytes lie in DDR-5 (R478); `used` is the clock's reference mark. -/
structure RcEnt where
  gloc : W64
  used : Bool
deriving DecidableEq, Repr

/-- The drawplates' internal state: requests; the cache by set × 16 + way; the clock hand of each set; the second-miss filter;
plaintexts delivered to forges, by forge × 256 + SEQ: data and PI image, none where the read failed. -/
structure Drp where
  reqs : List RReq
  cache : Tab RcEnt
  hand : Tab Nat
  missed : List Nat
  answers : Tab (Option (List Byte × List Byte))
deriving DecidableEq, Repr

end Sys2Proof.Machine
end

