-- ==== Sys2Proof/Machine/StateInfra.lean ====
section
/-! DEFINITION. Internal state of the infrastructure blocks: event queues, Hallmark, Touchmark, clocks, lifecycle,
counter cells, debug, power, firmware update, memory system, check-value units, credit queues. Registers have
their one home in the register file of `State`; these structures hold what no register holds. -/

namespace Sys2Proof.Machine

/-! Event queue controller (spec/18_event_queues.md). -/

/-- The states of an event source (R650). -/
inductive SrcState where
  | idle | pending | active
deriving DecidableEq, Repr

/-- One event source: the record it holds, the held occurrences of R651 and the latched ones of R659. -/
structure Src where
  st : SrcState := .idle
  count : Nat := 0
  info : W32 := 0
  time : W32 := 0
  order : Nat := 0
  full : Bool := false
  held : Nat := 0
  heldInfo : W32 := 0
  heldTime : W32 := 0
  latched : Bool := false
  latCount : Nat := 0
  latInfo : W32 := 0
  latTime : W32 := 0
  mask : Bool := false
deriving DecidableEq, Repr

/-- EQC's internal state: the source table, the order of first occurrences, the rings whose pass has PHASE 0
(R656), and the quench stop of R661. -/
structure Eqc where
  src : Tab Src
  order : Nat
  phase0 : List Nat
deriving DecidableEq, Repr

/-! Hallmark (spec/19_hallmark_touchmark.md). -/

/-- An accepted hallmark in the buffer of R672, before it has a SEQ. -/
structure HlmRec where
  code : Nat
  inst : Nat
  poh : W32
  cycles : W32
  usec : W32
  suppressed : Nat
  payload : List W32
deriving DecidableEq, Repr

/-- HLM's internal state: the buffer, the per-code counts of the window (R673), the suppressed counts (R674), the
drops not yet reported (R672), the LOSS to be carried, and the export under way (R671). -/
structure Hlm where
  buf : List HlmRec
  win : Tab Nat
  supp : Tab Nat
  dropped : Nat
  loss : Bool
  scanned : Bool
deriving DecidableEq, Repr

/-- TMK's internal state: the bank a COMMIT is writing (0 for A, 1 for B), and the version it replaces. -/
structure Tmk where
  target : Option Nat
  oldVersion : Nat
  fromCurrent : Bool
deriving DecidableEq, Repr

/-! Clocks, fuses, counter cells (chapters 20, 21, 22). -/

/-- CLK's internal state: domains whose PLL is relocking (R702), whether AON holds the chip in reset for a clock
loss (R703), and whether AON runs on the on-die oscillator (R703). -/
structure Clk where
  relocking : List Nat
  resetHeld : Bool
  onDieOsc : Bool
  /-- domains stopped because the power state stops them (P2, Q) -/
  parked : List Nat
deriving DecidableEq, Repr

/-- The lifecycle states of R708. -/
inductive Lc where
  | blank | minted | owned | retired
deriving DecidableEq, Repr

/-- The fuses (R708 to R713, R736, R745). -/
structure Fuses where
  lc : Lc
  /-- the pending mark of R710 -/
  pending : Option Lc
  deviceRoot : BitVec 256
  deviceId : W64
  ownerSecret : BitVec 256
  ownerCrc : W32
  ownerLockPerm : Bool
  svn : Nat
  keyRevoked : Nat
deriving DecidableEq, Repr

/-- TOP's internal state: the armed target and when it was armed (R709), the words of LC_DATA (WO), the secret
mismatch of R711, and the context-wrapping key of R712, derived afresh at each chip reset. -/
structure Top where
  armed : Option Nat
  armedAt : W64
  lcData : List W32
  mismatch : Bool
  ctxKey : BitVec 256
deriving DecidableEq, Repr

/-- The slot states of R737. -/
inductive SlotSt where
  | empty | fallback | active | trial
deriving DecidableEq, Repr

/-- The AON counter cells (R729, R737), which power-on reset keeps. -/
structure Cells where
  poh : W32
  cycles : W32
  wear : W64
  slot0 : SlotSt
  slot1 : SlotSt
  boots0 : Nat
  boots1 : Nat
  pref : Nat
deriving DecidableEq, Repr

/-- AON's internal state: its PLL; whether VIN_AON is present; whether the main rails are up; RESET_N as the board drives it;
HOLD_LOAD_N driven low (R328). -/
structure Aon where
  pllLocked : Bool
  vinPresent : Bool
  rails : Bool
  resetN : Bool
  holdLoad : Bool
deriving DecidableEq, Repr

/-- The start under way (R751 to R756, R764): the cause of the chip reset that CORE_0 has not yet left (R756; 0 once the ROM has
run), the CAUSE, STATUS and SLOT of the boot record, whether the ROM waits to try both slots again (R754), and whether HLM has
still to write the cause (R764). -/
structure Boot where
  due : Nat
  cause : Nat
  status : Nat
  slot : Nat
  waiting : Bool
  untold : Bool
deriving DecidableEq, Repr

/-! Debug (R714 to R717). -/

/-- The TAP instructions of R716. -/
inductive TapIr where
  | extest | samplePreload | idcode | clamp | highz | dbgChallenge | dbgResponse | dbgAccess | bypass
deriving DecidableEq, Repr

/-- How the pins are driven: by the device, from the boundary-scan register, held by CLAMP, or floating (R716). -/
inductive Pins where
  | normal | extest | clamp | highz
deriving DecidableEq, Repr

/-- A debug access: its operation, address and write data (R717). -/
structure DbgAcc where
  write : Bool
  addr : Nat
  data : W32
deriving DecidableEq, Repr

/-- DBG's internal state: the open nonce (R715), when challenges are taken again, the waiting accesses in order
(R699), the STATUS and DATA of the last access (R717), and the TAP. -/
structure Dbg where
  nonce : Option (BitVec 384)
  refuseUntil : W64
  waiting : List DbgAcc
  status : Nat
  data : W32
  ir : TapIr
  pins : Pins
  bsr : List Bool
  halted : List Nat
deriving DecidableEq, Repr

/-! Power (R718 to R731). -/

/-- PWR's internal state: the CTL frequency in force in units of 100 MHz, the throttling of R730 and R731 (milliseconds above and
5 % below the cap), the forges gated by the power cap, the state the entry under way began in, and the pages of the idle forges and
drawplates that P1 gated (R198, R482). -/
structure Pwr where
  freq : Nat
  hot : Bool
  overMs : Nat
  underMs : Nat
  capped : Bool
  gated : List Nat
  fromState : Nat
  asleep : List Nat
deriving DecidableEq, Repr

/-- The FWU commands of R748. -/
inductive FwuOp where
  | stage | verify | activate | confirm
deriving DecidableEq, Repr

/-- FWU's internal state: the command under way, its slot and that slot's state before a STAGE, the activation step reached
(R741), and when the trial began (R746). -/
structure Fwu where
  op : Option FwuOp
  slot : Nat
  prev : SlotSt
  step : Nat
  trialAt : W64
deriving DecidableEq, Repr

/-! Memory system (spec/17_cache_memory.md). -/

/-- A maintenance operation under way on one channel (R627). -/
structure Maint where
  op : Nat
  addr : Nat
  len : Nat
deriving DecidableEq, Repr

/-- The SC command under way (R626, R633). -/
inductive ScOp where
  | retire (way : Nat) (cause : Nat)
  | remap (way : Nat) (into : Nat)
deriving DecidableEq, Repr

/-- The memory system behind the registers: lines present in the SC and the way each lies in, the bytes that
DRAM holds where they may differ from the SC's copy, the corrected errors of the ways with their times in µs, the poisoned bursts, what is trained,
what is lost, and the operations under way. -/
structure MemSys where
  lines : Tab Nat
  /-- lines of which the SC holds a dirty copy -/
  dirtyLines : List Nat
  stale : List Host.Cell
  ceLog : List (Nat × Nat)
  poison : List Nat
  /-- CH_STAT as training left it, of the controllers trained since chip reset -/
  trained : Tab W32
  lost : List Nat
  hot : List Nat
  spWay : List Nat
  maint : Tab Maint
  scOp : Option ScOp
deriving DecidableEq, Repr

/-! Check-value units (spec/16_check_values.md). -/

/-- One unit's running CRC register in STREAM mode, bytes not yet counted as a beat, and the RESULT latched for
each master (R613). -/
structure Cvu where
  raw : W64 := 0
  bytes : Nat := 0
  latch : List (Nat × W64) := []
deriving DecidableEq, Repr

/-! SerDes octets (R780). -/

/-- The registers behind LANE_SEL, by octet × 8 + lane: TX_EQ, and the lanes whose clock is lost. -/
structure Srd where
  txeq : Tab W32
  lost : List Nat
deriving DecidableEq, Repr

/-! Credit queues (R49 to R52). -/

/-- One queue: the producer's credits, the entries the consumer holds, oldest first, and the page that has still to flush its half
after a reset of the far side (R52, R700). -/
structure Queue where
  credits : Nat
  entries : List (List W32)
  flush : Option Nat := none
deriving DecidableEq, Repr

end Sys2Proof.Machine
end

