-- ==== Sys2Proof/Machine/StateHost.lean ====
section
/-! DEFINITION. Internal state of the host side: the Ethernet ports and the RDMA transport
(spec/13_network_transport.md), the host command queues (spec/04_host_queues.md), and the write cache and quench
(spec/09_write_cache_mirror.md). -/

namespace Sys2Proof.Machine

/-! NET and XPT (spec/13_network_transport.md). -/

/-- The states of a queue pair (R503). -/
inductive QpSt where
  | reset | init | rtr | rts | error
deriving DecidableEq, Repr

/-- What a requester sends (R501, R526). -/
inductive XKind where
  | send | sendInv | write | read | cas | faa | spWrite | spSend
deriving DecidableEq, Repr

/-- An operation that a user of a queue pair posts. `tag` is the user's own. -/
structure XMsg where
  kind : XKind
  va : Nat := 0
  rkey : Nat := 0
  len : Nat := 0
  swap : W64 := 0
  cmp : W64 := 0
  payload : List Byte := []
  /-- where the data of a READ is placed -/
  place : Nat := 0
  tag : Nat := 0
deriving DecidableEq, Repr

/-- An operation sent and not yet acknowledged: its PSNs, its scatter message number, the bytes a READ has delivered,
whether any of it was resent. -/
structure XTx where
  msg : XMsg
  psn : Nat
  /-- PSNs it occupies, packets it sends, packets sent so far, packets acknowledged -/
  psns : Nat
  pkts : Nat
  sent : Nat := 0
  acked : Nat := 0
  msgId : Nat := 0
  got : Nat := 0
  /-- response packets taken of a READ -/
  taken : Nat := 0
  resent : Bool := false
deriving DecidableEq, Repr

/-- A multi-packet request being received (R516, R520). -/
structure XRx where
  write : Bool
  va : Nat
  rkey : Nat
  len : Nat
  got : Nat
  data : List Byte
deriving DecidableEq, Repr

/-- A scatter message in assembly (R527 to R530). -/
structure SpRx where
  msgId : Nat
  opcode : Nat
  cnt : Nat
  len : Nat
  va : Nat
  psn : Nat
  rkey : Nat
  got : List Nat
  data : Tab (List Byte)
  naks : Nat
deriving DecidableEq, Repr

/-- A queue pair's context (R503 to R512, R524 to R531). `rate` and `target` are R and T of R500 in kb/s. -/
structure Qp where
  st : QpSt := .reset
  attr : List W32 := List.replicate 16 0
  scatter : W32 := 0
  cautious : Bool := false
  sqPsn : Nat := 0
  rqPsn : Nat := 0
  waiting : List XMsg := []
  unacked : List XTx := []
  timeouts : Nat := 0
  rtoUs : Nat := 0
  rnrTries : Nat := 0
  proved : Nat := 0
  rate : Nat := 0
  target : Nat := 0
  stage : Nat := 0
  cutAt : Option W64 := none
  cnpAt : Option W64 := none
  errCause : Nat := 0
  parked : List (Nat × RPkt) := []
  rxBufs : Nat := 0
  rx : Option XRx := none
  gapNaked : Bool := false
  atomics : List (Nat × W64) := []
  /-- answers to READ requests and atomics that wait for a paused priority, oldest first -/
  respQ : List (List RPkt) := []
  msgId : Nat := 0
  sp : List SpRx := []
deriving DecidableEq, Repr

/-- A window (R513, R515). -/
structure Win where
  base : W64 := 0
  len : W64 := 0
  pd : Nat := 0
  access : Nat := 0
  gen : Nat := 0
  opened : Bool := false
  busy : Bool := false
deriving DecidableEq, Repr

/-- A packet in a port's ingress buffer: port, priority, frame bytes, packet. -/
structure Arrival where
  port : Nat
  prio : Nat
  bytes : Nat
  pkt : RPkt
deriving DecidableEq, Repr

/-- The Ethernet side: the bank of sub-port 1 (R489), the IP entries behind IP_SEL (port × 8 + index: control word,
address), arrivals not yet processed, priorities this port has paused and the time each was paused by its peer
(port × 8 + priority), the exception frames of the current second. -/
structure Net where
  sub : Tab W32
  ips : Tab (W32 × BitVec 128)
  inbox : List Arrival
  xoff : List Nat
  pausedAt : Tab W64
  /-- when the last pause frame of a priority arrived (R498) -/
  pauseAt : Tab W64
  excSec : Tab (Nat × Nat)
deriving DecidableEq, Repr

/-- XPT's internal state. -/
structure Xpt where
  qps : Tab Qp
  wins : Tab Win
  /-- resident contexts, least recently used first (R509) -/
  lru : List Nat
  /-- capsules received and not yet taken by HQ: queue pair, bytes (R122) -/
  capsules : List (Nat × List Byte)
deriving DecidableEq, Repr

/-! HQ (spec/04_host_queues.md). -/

/-- A controller: CC, its keep-alive timeout in ms, its outstanding Asynchronous Event Requests (queue pair, CID), the events its host has
enabled and those that wait for a request (R10). -/
structure Ctrl where
  cc : W32 := 0
  katoMs : Nat := 0
  aer : List (Nat × Nat) := []
  aeCfg : W32 := 0
  aePend : List W32 := []
deriving DecidableEq, Repr

/-- A submission queue, keyed by its queue pair (R121). -/
structure Sq where
  ctrl : Nat
  qid : Nat
  depth : Nat
  head : Nat := 0
deriving DecidableEq, Repr

/-- Where a command stands: parked by a power state, hold, ceiling or the order of R140; executing; handed to firmware;
finished with its completion held. -/
inductive CmdSt where
  | queued | executing | firmware | held
deriving DecidableEq, Repr

/-- Where a grain of a read is served from (R463): a slot, the map entry it found and the commit count then (R415), or zeros. -/
inductive Src3 where
  | slot (i : Nat) | map (e : MapEntry) (cnt : Nat) | zero
deriving DecidableEq, Repr

/-- An entry of the command table. -/
structure Cmd where
  qp : Nat
  cid : Nat
  sqe : List Byte
  icd : List Byte
  seq : Nat
  at_ : W64
  st : CmdSt := .queued
  /-- what the checks at its acceptance found: SCT × 256 + SC, 0 where it may run (R138, R147) -/
  verdict : Nat := 0
  wseq : Nat := 0
  slots : List Nat := []
  landed : Bool := false
  /-- host data has been asked for, and its bytes arrived -/
  got : Nat := 0
  /-- grains of a read not yet served, and where each is served from -/
  binds : List (Nat × Src3) := []
  bound : Bool := false
  /-- the epoch whose commit the completion waits for (FUA; Flush, from its acceptance) -/
  epoch : Option Nat := none
  /-- the status field of a finished command whose completion is held -/
  status : Nat := 0
  dw0 : W32 := 0
  dw1 : W32 := 0
  order : Nat := 0
deriving DecidableEq, Repr

/-- A namespace: NS_CFG (RW fields), size, QoS registers, the newest epoch among its posted writes, the token buckets of its ceilings
and of its reservations in commands and bytes, what it offered and received in the window (commands, bytes). -/
structure Ns where
  cfg : W32 := 0
  grains : W64 := 0
  qmin : W32 := 0
  qmax : W32 := 0
  qlat : W32 := 0
  posted : Nat := 0
  tokOps : Nat := 0
  tokBytes : Nat := 0
  resOps : Nat := 0
  resBytes : Nat := 0
  offOps : Nat := 0
  offBytes : Nat := 0
  gotOps : Nat := 0
  gotBytes : Nat := 0
deriving DecidableEq, Repr

/-- HQ's internal state. -/
structure Hq where
  ctrls : Tab Ctrl
  sqs : Tab Sq
  cmds : List Cmd
  ns : Tab Ns
  seq : Nat
  order : Nat
  holdAt : W64
  /-- admin commands that found the hand-off ring full, oldest first -/
  ringWait : List (Nat × Nat)
  /-- namespaces of TARGET replication groups (R542) -/
  targets : List Nat
  /-- the namespace served last in the last tier (R152) -/
  rr : Nat
  /-- critical warnings of the SMART log (R147) -/
  critWarn : Nat
deriving DecidableEq, Repr

/-! WC and QST (spec/09_write_cache_mirror.md). -/

/-- The states of a slot (R310), in the order of their values. -/
inductive SlotSt2 where
  | free | landing | held | ready | forging | superseded
deriving DecidableEq, Repr

/-- A slot of the own or the mirror area as WC's state table keeps it (R310), and what the header does not carry: the
bytes have landed; every byte of its write has; resends of MIR_GRAIN; bound reads; a directory entry left behind by
INQ that must be rewritten (R321); set aside by a restore (R342); to be mirrored or written through. -/
structure Slot where
  st : SlotSt2 := .free
  lo : Bool := false
  hi : Bool := false
  inq : Bool := false
  mirrored : Bool := false
  adopted : Bool := false
  lost : Bool := false
  ns : Nat := 0
  pif : Nat := 0
  domain : Nat := 0
  ngrains : Nat := 0
  grain : Nat := 0
  epoch : Nat := 0
  gidx : Nat := 0
  wseq : Nat := 0
  dcrc0 : W32 := 0
  dcrc1 : W32 := 0
  pcrc : W32 := 0
  crc : W32 := 0
  asrc : Nat := 0
  whole : Bool := false
  resends : Nat := 0
  binds : Nat := 0
  oldEntry : Bool := false
  aside : Bool := false
  returned : Bool := false
  /-- a whole grain of a Write Zeroes (R126) -/
  zeroed : Bool := false
  /-- the LAND unit that takes the grain (R615) -/
  cvu : Nat := 0
deriving DecidableEq, Repr

/-- The steps of the quench sequencer (R334). -/
inductive Qstep where
  | idle | dir | data | done
deriving DecidableEq, Repr

/-- WC's internal state, with the quench sequencer's. -/
structure Wc where
  slots : Tab Slot
  mirror : Tab Slot
  wseq : Nat
  /-- HOLD_ENERGY has been computed since WC entered RUN (R758) -/
  budgetKnown : Bool
  single : Bool
  degraded : Bool
  /-- the partner has begun a quench (R337) -/
  peerQuench : Bool
  adopting : Bool
  peerH : Nat
  peerShare : Nat
  catchup : List Nat
  /-- the partner's reserved slots still to be adopted, in WSEQ order -/
  adoptees : List Nat
  freedAtTakeover : Nat
  step : Qstep
  trigger : Nat
  startAt : W64
  saved : List Nat
  entries : Nat
  /-- what RESTORE_LOAD found: QGEN, and the epoch a cut directory pass names -/
  restoring : Bool
  qgen : Nat
deriving DecidableEq, Repr

end Sys2Proof.Machine
end

