-- ==== Sys2Proof/Machine/StateWadun.lean ====
section
/-! DEFINITION. Internal state of the Wadun link (spec/15_wadun_link.md): retry, credits, messages, heartbeat,
takeover and handover. -/

namespace Sys2Proof.Machine

/-- A message of the link (R586, R588): MTYPE, ARG and the body after the 16-byte header. -/
structure WMsg where
  mtype : Nat
  arg : Nat
  body : List Byte
deriving DecidableEq, Repr

/-- A MSG flit kept in the replay buffer (R575). -/
structure WFlit where
  fseq : Nat
  cls : Nat
  som : Bool
  eom : Bool
  payload : List Byte
deriving DecidableEq, Repr

/-- A message that has arrived whole and waits for its consumer, with the flits it holds (R587). -/
structure WRx where
  cls : Nat
  msg : WMsg
  flits : Nat
deriving DecidableEq, Repr

/-- The phases of fencing (R596). -/
inductive Fence where
  | none | delay | arbiter | others
deriving DecidableEq, Repr

/-- WDL's internal state. -/
structure Wdl where
  txFseq : Nat
  replay : List WFlit
  txCredits : Tab Nat
  txq : List (Nat × WMsg)
  rxExp : Nat
  nakSent : Bool
  ackOwed : Bool
  rxPart : Tab (List Byte × Nat)
  rx : List WRx
  resends : Nat
  /-- link-up (R579) -/
  deskewed : Bool
  gotHello : Bool
  gotSeen : Bool
  sentSeen : Bool
  /-- the partner's OPEN_EPOCH in its last HELLO -/
  peerEpoch : Nat
  /-- lanes the partner reports failed, and the width before a narrowing (R583) -/
  peerLanes : W32
  /-- heartbeat (R593, R594) -/
  kicked : Bool
  repeats : Nat
  gotAlive : Bool
  /-- when HB_AGE was last reset -/
  aliveAt : W64
  /-- takeover (R594 to R598) -/
  fence : Fence
  startAt : W64
  /-- a takeover has started, or the head stepped down, and the page has not been through START since (R585) -/
  barred : Bool
  /-- handover (R591) -/
  accepts : List Nat
  offer : Option Nat
deriving DecidableEq, Repr

end Sys2Proof.Machine
end

