-- ==== Sys2Proof/Machine/StateOut.lean ====
section
/-! DEFINITION. What the block sends out: answers to its masters, and messages to hosts, the partner and modules. -/

namespace Sys2Proof.Machine

/-- One thing the device puts out, in order. -/
inductive Msg where
  /-- read data returned to a master -/
  | csrData (master : Nat) (data : W32)
  /-- a bus error returned to a master (R24, R31, R619) -/
  | busError (master : Nat)
  /-- bytes returned to a master's memory read -/
  | memData (master : Nat) (data : List Byte)
  /-- poison returned to a master's memory read (R639) -/
  | memPoison (master : Nat)
  /-- a value shifted out of the TAP: width in bits and value (R716) -/
  | tap (width : Nat) (value : Nat)
  /-- the control cores are released at an address (R741, R753) -/
  | coresStart (addr : Nat)
  /-- an AVSBus request for VDD_CORE in mV (R726) -/
  | avs (mv : Nat)
  /-- an NVMe Reservation command to a module's port (R12, R759): module, action -/
  | reservation (module : Nat) (action : Nat) (key : W64)
  /-- a Zone Append of a member chunk to a module (R353): module, zone, first logical block, bytes -/
  | append (module zone lba : Nat) (data : List Byte)
  /-- a Read of logical blocks of a module (R468): module, zone, first block, blocks -/
  | flashRead (module zone lba blocks : Nat)
  /-- a Zone Management Send to a module (R408): module, zone, 0 Reset, 1 Finish -/
  | zoneSend (module zone op : Nat)
  /-- a message sent to the partner (R586): class, message -/
  | wadun (cls : Nat) (m : WMsg)
  /-- a MSG flit resent to the partner (R577) -/
  | resend (fseq : Nat)
  /-- a control record sent to the partner (Control records): its bytes -/
  | ctl (record : List Byte)
  /-- a NULL or ALIGN flit sent to the partner: its header (R569, R572) -/
  | wadunIdle (header : W64)
  /-- credits returned to the partner (R587): class, flits -/
  | wadunCredit (cls flits : Nat)
  /-- a RoCEv2 packet sent on a queue pair: the packet names the peer's QP (R501) -/
  | roce (qp : Nat) (p : RPkt)
  /-- a frame of firmware sent on a port (R494) -/
  | frame (port : Nat) (bytes : List Byte)
  /-- a priority flow control frame (R496): port, priority, quanta -/
  | pfc (port prio quanta : Nat)
  /-- an asynchronous event sent to a controller (R10, R147): controller, type of event -/
  | aen (ctrl kind : Nat)
deriving DecidableEq, Repr

end Sys2Proof.Machine
end

