-- ==== Sys2Proof/Machine/State.lean ====
section
/-! DEFINITION. The state of one head's Daxeri, the machine after reset, and the reasons a step can stop. -/

namespace Sys2Proof.Machine

/-- What the device holds. -/
structure State where
  /-- silicon revision A0 (R4); B1 otherwise -/
  a0 : Bool
  /-- EQC.TIME: µs since chip reset (R663) -/
  time : W64
  /-- the register file: CSR offset (page × 0x1000 + offset) to word; an unlisted word is at its reset value -/
  regs : Tab W32
  /-- the high words latched for each master (R25) -/
  latch : Tab W32
  /-- the low words held for each master (R26) -/
  held : Tab W32
  /-- DDR-5, HBM, scratchpad and on-die SRAM, as every master of the SC reads them -/
  mem : List Host.Cell
  /-- the quench store (R338) -/
  qst : List Host.Cell
  /-- the boot NOR (R735) -/
  nor : List Host.Cell
  /-- the credit queues of R49, by row × 4096 + instance; an unlisted queue is full of credits and empty -/
  queues : Tab Queue
  eqc : Eqc
  hlm : Hlm
  tmk : Tmk
  clk : Clk
  fuses : Fuses
  top : Top
  cells : Cells
  aon : Aon
  boot : Boot
  dbg : Dbg
  pwr : Pwr
  fwu : Fwu
  msys : MemSys
  cvu : Tab Cvu
  srd : Srd
  ldg : Ldg
  ing : Ing
  wdl : Wdl
  net : Net
  xpt : Xpt
  hq : Hq
  wc : Wc
  eng : Eng
  asy : Asy
  tin : Tin
  frg : Frg
  drp : Drp
  pln : Pln
  anl : Anl
  rpl : Rpl
  /-- the modules on which this head, and the partner, hold a reservation registration (R12, R596, R759) -/
  resOwn : List Nat
  resPeer : List Nat
  /-- everything sent out so far, oldest first -/
  out : List Msg
  /-- how many free values have been drawn (the model's own field) -/
  free : Nat
  /-- the commands that wait, first in, first out -/
  pending : List Instr
deriving DecidableEq, Repr

/-- The reasons a machine can stop with a fault: none, since the spec turns every misuse into a recorded cause or a
bus error. -/
inductive Fault where
deriving DecidableEq, Repr

/-- The reasons a command has no meaning. -/
inductive Refusal where
  /-- the command has no meaning yet (raised by the dispatcher alone; safe) -/
  | notModelled (mnemonic : String)
deriving DecidableEq, Repr

/-- The ledger with nothing stored. -/
def Image.empty : Image := ⟨[], [], [], [], [], [], [], [], [], []⟩

/-- LDG before replay. -/
def Ldg.reset : Ldg where
  img := .empty
  ckpt := ⟨.empty, 0, 0, 0⟩
  ckptGen := 0
  running := none
  commitsSince := 0
  working := []
  inbox := []
  eps := []
  timerDue := false
  earlyReq := false
  earlyDue := false
  stalled := false
  peerCommitted := 0
  peerDrainedTo := 0
  pairedAt := 0
  ackedJseq := 0
  tailJseq := 0
  prevCrc := 0
  mirrorJseq := 0
  mirrorTail := 0
  mirrorHoles := []
  mirrorSpan := []
  peerRecords := []
  armed := []
  takes := []
  snapOps := []
  snapWait := none
  retried := false
  repairing := none
  resyncNext := false
  slagLatch := []
  sweep := none
  throttled := false
  replayed := false
  ljAsked := none
  ljWait := false
  ljPeer := []
  peerTaken := false
  transfers := []
  owned := []
  given := []
  hints := []

/-- ING with no ingot open and no module seen. -/
def Ing.reset : Ing := ⟨[], [], [], [], [[], [], [], [], []], [], [], [], 1, 0, 0x00140004#32, false, [], [], false⟩

/-- The receive buffers of R587, in flits. -/
def wdlBuffers : Tab Nat := [(0, 512), (1, 128), (2, 32), (3, 16), (4, 128)]

/-- WDL with no link. -/
def Wdl.reset : Wdl where
  txFseq := 0
  replay := []
  txCredits := wdlBuffers
  txq := []
  rxExp := 0
  nakSent := false
  ackOwed := false
  rxPart := []
  rx := []
  resends := 0
  deskewed := false
  gotHello := false
  gotSeen := false
  sentSeen := false
  peerEpoch := 0
  peerLanes := 0
  kicked := false
  repeats := 0
  gotAlive := false
  aliveAt := 0
  fence := .none
  startAt := 0
  barred := false
  accepts := []
  offer := none

/-- WC with every slot FREE. -/
def Wc.reset : Wc where
  slots := []
  mirror := []
  wseq := 0
  budgetKnown := false
  single := true
  degraded := false
  peerQuench := false
  adopting := false
  peerH := 0
  peerShare := 0
  catchup := []
  adoptees := []
  freedAtTakeover := 0
  step := .idle
  trigger := 0
  startAt := 0
  saved := []
  entries := 0
  restoring := true
  qgen := 0

/-- The machine right after its first power-on reset (R751, R762): registers at their reset values, memories with nothing
listed, fuses unburned, CYCLES 1; VIN_AON is present, the AON PLL has not locked, and the board still holds RESET_N low. -/
def State.reset : State where
  a0 := false
  time := 0
  regs := []
  latch := []
  held := []
  mem := []
  qst := []
  nor := []
  queues := []
  eqc := ⟨[], 0, []⟩
  hlm := ⟨[], [], [], 0, false, false⟩
  tmk := ⟨none, 0, false⟩
  clk := ⟨[], false, false, []⟩
  fuses := ⟨.blank, none, 0, 0, 0, 0, false, 0, 0⟩
  top := ⟨none, 0, List.replicate 8 0, false, Config.wrapKey 0 0⟩
  cells := ⟨0, 1, 0, .empty, .empty, 0, 0, 0⟩
  aon := ⟨false, true, false, false, false⟩
  boot := ⟨1, 1, 0, 0, false, true⟩
  dbg := ⟨none, 0, [], 0, 0, .idcode, .normal, [], []⟩
  pwr := ⟨10, false, 0, 0, false, [], 0, []⟩
  fwu := ⟨none, 0, .empty, 0, 0⟩
  msys := ⟨[], [], [], [], [], [], [], [], [], [], none⟩
  cvu := []
  srd := ⟨[], []⟩
  ldg := Ldg.reset
  ing := Ing.reset
  wdl := Wdl.reset
  net := ⟨[], [], [], [], [], [], []⟩
  xpt := ⟨[], [], [], []⟩
  hq := ⟨[], [], [], [], 0, 0, 0, [], [], 0, 0⟩
  wc := Wc.reset
  eng := ⟨[], [], 0, 0⟩
  asy := ⟨[], [], []⟩
  tin := ⟨[], [], [], [], [], none, [], []⟩
  frg := ⟨[], [], [], [], [], [], [], [], [], none, []⟩
  drp := ⟨[], [], [], [], []⟩
  pln := ⟨[], [], [], [], none, false, [], [], [], ⟨[], [], []⟩, none, [], [], []⟩
  rpl := ⟨[], []⟩
  anl := ⟨[], [], 0, 0, false, none⟩
  resOwn := []
  resPeer := []
  out := []
  free := 1
  pending := []

end Sys2Proof.Machine
end

