-- ==== Sys2Proof/Machine/Tab.lean ====
section
/-! DEFINITION. Sparse tables in one canonical form: keys strictly rising, one entry a key. -/

namespace Sys2Proof.Tab

variable {α : Type}

/-- The entry at key `k`, if one is listed. -/
def find? : Tab α → Nat → Option α
  | [], _ => none
  | (k', v) :: t, k => if k' = k then some v else find? t k

/-- The entry at `k`, or `d` where none is listed. -/
def getD (t : Tab α) (d : α) (k : Nat) : α := (find? t k).getD d

/-- Drop every entry at key `k`. -/
def erase : Tab α → Nat → Tab α
  | [], _ => []
  | (k', v) :: t, k => if k' = k then erase t k else (k', v) :: erase t k

/-- Insert `(k, v)` before the first larger key. -/
def ins : Tab α → Nat → α → Tab α
  | [], k, v => [(k, v)]
  | (k', v') :: t, k, v => if k < k' then (k, v) :: (k', v') :: t else (k', v') :: ins t k v

/-- Set the entry at `k`. -/
def put (t : Tab α) (k : Nat) (v : α) : Tab α := ins (erase t k) k v

/-- Set the entry at `k`; the value an unlisted key stands for is not listed. -/
def setD [DecidableEq α] (t : Tab α) (d : α) (k : Nat) (v : α) : Tab α :=
  if v = d then erase t k else put t k v

/-- Every key of `t` is above `k`. -/
def above (k : Nat) (t : Tab α) : Bool := t.all fun e => decide (k < e.1)

/-- The canonical form: keys strictly rising. -/
def wf : Tab α → Bool
  | [] => true
  | (k, _) :: t => above k t && wf t

end Sys2Proof.Tab
end

