-- ==== Sys2Proof/Machine/Ops.lean ====
section
/-! DEFINITION. The named operations every family is built on: bit fields, the register file, byte order, memory,
free values and what is sent out. -/

namespace Sys2Proof.Machine

/-- How a meaning ends. -/
abbrev Outcome := Host.Outcome State Fault Refusal

/-! Bit fields. -/

/-- Bits `hi` down to `lo` of a word, as a number. -/
def bits (v : W32) (hi lo : Nat) : Nat := v.toNat / 2 ^ lo % 2 ^ (hi - lo + 1)

/-- The word with bits `hi` down to `lo` replaced by `x`. -/
def putBits (v : W32) (hi lo x : Nat) : W32 :=
  BitVec.ofNat 32
    (v.toNat / 2 ^ (hi + 1) * 2 ^ (hi + 1) + x % 2 ^ (hi - lo + 1) * 2 ^ lo + v.toNat % 2 ^ lo)

/-- Bit `n` of a word. -/
def bit (v : W32) (n : Nat) : Bool := v.toNat.testBit n

/-- A truth value as a bit. -/
def b2n (b : Bool) : Nat := if b then 1 else 0

/-! Page numbers of the blocks with one instance (R22). -/

abbrev pgTOP : Nat := 0x0100
abbrev pgAON : Nat := 0x0200
abbrev pgCLK : Nat := 0x0300
abbrev pgEQC : Nat := 0x0400
abbrev pgSC : Nat := 0x0500
abbrev pgMEMD : Nat := 0x0600
abbrev pgMEMH : Nat := 0x0700
abbrev pgQST : Nat := 0x0800
abbrev pgHLM : Nat := 0x0900
abbrev pgTMK : Nat := 0x0A00
abbrev pgHQ : Nat := 0x1000
abbrev pgFRG : Nat := 0x1100
abbrev pgDRP : Nat := 0x1200
abbrev pgASY : Nat := 0x1300
abbrev pgCRU : Nat := 0x1400
abbrev pgTIN : Nat := 0x1500
abbrev pgLDG : Nat := 0x1600
abbrev pgING : Nat := 0x1700
abbrev pgPLN : Nat := 0x1800
abbrev pgANL : Nat := 0x1900
abbrev pgWC : Nat := 0x1A00
abbrev pgRPL : Nat := 0x1B00
abbrev pgNET : Nat := 0x2000
abbrev pgXPT : Nat := 0x2100
abbrev pgWDL : Nat := 0x2200
abbrev pgFLX : Nat := 0x2300
abbrev pgSRD : Nat := 0x2400
abbrev pgCVU : Nat := 0x2800
abbrev pgDBG : Nat := 0x3000
abbrev pgFWU : Nat := 0x3100
abbrev pgPWR : Nat := 0x3200

/-! The register file. -/

/-- A register word's place in the CSR window, from its base (R21). -/
def rk (p off : Nat) : Nat := p * 0x1000 + off

/-- The word at an offset of a page. -/
def rd (s : State) (p off : Nat) : W32 := Tab.getD s.regs (regReset s.a0 p off) (rk p off)

/-- The state with the word at an offset of a page replaced. -/
def wr (p off : Nat) (v : W32) (s : State) : State :=
  { s with regs := Tab.setD s.regs (regReset s.a0 p off) (rk p off) v }

/-- A field of a register, as a number. -/
def rdF (s : State) (p off hi lo : Nat) : Nat := bits (rd s p off) hi lo

/-- The state with one field of a register replaced. -/
def wrF (p off hi lo x : Nat) (s : State) : State := wr p off (putBits (rd s p off) hi lo x) s

/-- A 64-bit register: low word at `off`, high word at `off + 4` (R25). -/
def rd64 (s : State) (p off : Nat) : W64 :=
  BitVec.ofNat 64 ((rd s p (off + 4)).toNat * 2 ^ 32 + (rd s p off).toNat)

/-- The state with a 64-bit register replaced. -/
def wr64 (p off : Nat) (v : W64) (s : State) : State :=
  wr p (off + 4) (BitVec.ofNat 32 (v.toNat / 2 ^ 32)) (wr p off (BitVec.ofNat 32 v.toNat) s)

/-- Add to a counter that saturates at 0xFFFF_FFFF (the RC registers). -/
def bump (p off n : Nat) (s : State) : State :=
  wr p off (BitVec.ofNat 32 (min ((rd s p off).toNat + n) 0xFFFFFFFF)) s

/-- Add to a 64-bit counter. -/
def bump64 (p off n : Nat) (s : State) : State := wr64 p off (rd64 s p off + BitVec.ofNat 64 n) s

/-! The page header (R32). -/

/-- PG_STAT.STATE values (R32). -/
abbrev stOFF : Nat := 0
abbrev stSTART : Nat := 1
abbrev stRUN : Nat := 2
abbrev stDRAIN : Nat := 3
abbrev stHALT : Nat := 4
abbrev stFAULT : Nat := 5

/-- PG_STAT.STATE of a page. -/
def pgState (s : State) (p : Nat) : Nat := rdF s p 0x044 2 0

/-- The page is in RUN. -/
def running (s : State) (p : Nat) : Bool := pgState s p == stRUN

/-- The page serves its work: RUN, DRAIN or HALT. -/
def alive (s : State) (p : Nat) : Bool := pgState s p == stRUN || pgState s p == stDRAIN || pgState s p == stHALT

/-- Feature bit `n` (0 to 31) of a page is in force (FEAT_LIVE_0). -/
def live (s : State) (p n : Nat) : Bool := bit (rd s p 0x028) n

/-- PWR is in Q: a quench has begun (R718, R724). -/
def inQ (s : State) : Bool := rdF s pgPWR 0x104 2 0 == 3

/-! Byte order: structures are little-endian (spec/00_scope.md, Byte order). -/

/-- The `n` low bytes of a number, least significant first. -/
def le (n v : Nat) : List Byte := (List.range n).map fun i => BitVec.ofNat 8 (v / 2 ^ (8 * i))

/-- The number little-endian bytes spell. -/
def ofLe : List Byte → Nat
  | [] => 0
  | b :: bs => b.toNat + 256 * ofLe bs

/-- The `n` low bytes of a number, most significant first. -/
def be (n v : Nat) : List Byte := (le n v).reverse

/-- `n` bytes of a byte list from `off`, zero past its end. -/
def slice (bs : List Byte) (off n : Nat) : List Byte := (List.range n).map fun i => bs.getD (off + i) 0

/-- The little-endian field of `n` bytes at `off`. -/
def field (bs : List Byte) (off n : Nat) : Nat := ofLe (slice bs off n)

/-! Check values (R605). -/

/-- One byte of a reflected CRC of width `w`: `poly` is the reflected polynomial. -/
def crcByteR {w : Nat} (poly : BitVec w) (c : BitVec w) (b : Byte) : BitVec w :=
  let step := fun (x : BitVec w) => if x.getLsbD 0 then (x >>> 1) ^^^ poly else x >>> 1
  step (step (step (step (step (step (step (step (c ^^^ b.setWidth w))))))))

/-- One byte of the T10 guard CRC, not reflected. -/
def crcByteT10 (c : W16) (b : Byte) : W16 :=
  let step := fun (x : W16) => if x.getLsbD 15 then (x <<< 1) ^^^ 0x8BB7#16 else x <<< 1
  step (step (step (step (step (step (step (step (c ^^^ (b.setWidth 16 <<< 8)))))))))

/-- The reflection of 0x1EDC_6F41. -/
def poly32c : W32 := 0x82F63B78#32
/-- The reflection of 0xAD93_D235_94C9_3659. -/
def poly64n : W64 := 0x9A6C9329AC4BC9B5#64

/-- CRC-32C (R605). -/
def crc32c (bs : List Byte) : W32 := bs.foldl (crcByteR poly32c) 0xFFFFFFFF#32 ^^^ 0xFFFFFFFF#32
/-- CRC-64, NVMe polynomial (R605). -/
def crc64 (bs : List Byte) : W64 :=
  bs.foldl (crcByteR poly64n) 0xFFFFFFFFFFFFFFFF#64 ^^^ 0xFFFFFFFFFFFFFFFF#64
/-- The T10 guard (R605). -/
def crcT10 (bs : List Byte) : W16 := bs.foldl crcByteT10 0#16

/-! Memories: sparse bytes, an unlisted byte reads 0 (the NOR: 0xFF). -/

/-- `n` bytes of a sparse memory from `a`. -/
def cells (m : List Host.Cell) (d : Byte) (a n : Nat) : List Byte :=
  (List.range n).map fun i => Tab.getD m d (a + i)

/-- A sparse memory with bytes stored from `a` up. -/
def putCells (m : List Host.Cell) (d : Byte) (a : Nat) : List Byte → List Host.Cell
  | [] => m
  | b :: bs => putCells (Tab.setD m d a b) d (a + 1) bs

/-- One byte of memory as every master of the SC reads it (R637: zeroed at ENABLE). -/
def memByte (s : State) (a : Nat) : Byte := Tab.getD s.mem 0 a
/-- `n` bytes of memory. -/
def memRead (s : State) (a n : Nat) : List Byte := cells s.mem 0 a n
/-- Store bytes to memory. -/
def memWrite (a : Nat) (bs : List Byte) (s : State) : State := { s with mem := putCells s.mem 0 a bs }
/-- `n` bytes of the quench store. -/
def qstRead (s : State) (a n : Nat) : List Byte := cells s.qst 0 a n
/-- Store bytes to the quench store. -/
def qstWrite (a : Nat) (bs : List Byte) (s : State) : State := { s with qst := putCells s.qst 0 a bs }
/-- `n` bytes of the boot NOR. -/
def norRead (s : State) (a n : Nat) : List Byte := cells s.nor 0xFF a n
/-- Store bytes to the boot NOR. -/
def norWrite (a : Nat) (bs : List Byte) (s : State) : State := { s with nor := putCells s.nor 0xFF a bs }

/-! The physical map (R619). -/

/-- What a physical address decodes to. -/
inductive Region where
  | boot | hbm | scratch | csr | ddr
deriving DecidableEq, Repr

/-- The per-channel capacity in GiB: trained capacity of the first channel (R636: all are alike). A soft reset keeps what was trained. -/
def channelGib (s : State) : Nat := bits (Tab.getD s.msys.trained 0 pgMEMD) 23 8

/-- The DDR-5 capacity in bytes: CHANNELS × the per-channel capacity (R636). -/
def ddrBytes (s : State) : Nat := rdF s pgMEMD 0x100 3 0 * channelGib s * 2 ^ 30

/-- The row of R619 that an address lies in. -/
def region (s : State) (a : Nat) : Option Region :=
  if a ≤ 0x007FFFFFFFFF then some .boot
  else if 0x008000000000 ≤ a ∧ a ≤ 0x008BFFFFFFFF then some .hbm
  else if 0x00E000000000 ≤ a ∧ a ≤ 0x00E003FFFFFF then some .scratch
  else if 0x00F000000000 ≤ a ∧ a ≤ 0x00F00FFFFFFF then some .csr
  else if 0x010000000000 ≤ a ∧ a < 0x010000000000 + ddrBytes s then some .ddr
  else none

/-! Sending, free values. -/

/-- Send something out. -/
def emit (m : Msg) (s : State) : State := { s with out := s.out ++ [m] }

/-- Draw a free value: the number of the draw, and the state with it drawn. -/
def draw (s : State) : Nat × State := (s.free, { s with free := s.free + 1 })

/-- The `n` SerDes lanes from octet × 8 + lane `a` have recovered their clock (R780). -/
def lanesLocked (a n : Nat) (s : State) : State :=
  { s with srd := { s.srd with lost := s.srd.lost.filter fun l => !decide (a ≤ l ∧ l < a + n) } }

/-- Microseconds since chip reset, modulo 2^32, as hallmarks and event records carry them. -/
def usec (s : State) : W32 := BitVec.ofNat 32 s.time.toNat

end Sys2Proof.Machine
end

