-- ==== Sys2Proof/Machine/Crypto.lean ====
section
/-! DEFINITION. The published functions the chapters name: SHA-2 (FIPS 180-4), HMAC (RFC 2104), AES-256 (FIPS 197), GCM
(NIST SP 800-38D), XTS (IEEE 1619), key wrapping (RFC 3394 and RFC 5649). Bytes are in the standards' own order. -/

namespace Sys2Proof.Machine

/-! Byte strings. -/

/-- The number big-endian bytes spell. -/
def beNat (bs : List Byte) : Nat := bs.foldl (fun a b => a * 256 + b.toNat) 0
/-- Bytewise exclusive or, as long as the shorter. -/
def xorBytes (a b : List Byte) : List Byte := List.zipWith (· ^^^ ·) a b

/-! SHA-2: one definition over the word width, 32 or 64. -/

/-- What distinguishes SHA-256 from SHA-384 and SHA-512: rounds, constants, rotation counts. -/
structure ShaKind (w : Nat) where
  ks : List (BitVec w)
  s0 : Nat × Nat × Nat
  s1 : Nat × Nat × Nat
  m0 : Nat × Nat × Nat
  m1 : Nat × Nat × Nat

/-- K of FIPS 180-4, 4.2.2. -/
def sha256K : List (BitVec 32) :=
  [0x428A2F98, 0x71374491, 0xB5C0FBCF, 0xE9B5DBA5, 0x3956C25B, 0x59F111F1, 0x923F82A4, 0xAB1C5ED5] ++
  [0xD807AA98, 0x12835B01, 0x243185BE, 0x550C7DC3, 0x72BE5D74, 0x80DEB1FE, 0x9BDC06A7, 0xC19BF174] ++
  [0xE49B69C1, 0xEFBE4786, 0x0FC19DC6, 0x240CA1CC, 0x2DE92C6F, 0x4A7484AA, 0x5CB0A9DC, 0x76F988DA] ++
  [0x983E5152, 0xA831C66D, 0xB00327C8, 0xBF597FC7, 0xC6E00BF3, 0xD5A79147, 0x06CA6351, 0x14292967] ++
  [0x27B70A85, 0x2E1B2138, 0x4D2C6DFC, 0x53380D13, 0x650A7354, 0x766A0ABB, 0x81C2C92E, 0x92722C85] ++
  [0xA2BFE8A1, 0xA81A664B, 0xC24B8B70, 0xC76C51A3, 0xD192E819, 0xD6990624, 0xF40E3585, 0x106AA070] ++
  [0x19A4C116, 0x1E376C08, 0x2748774C, 0x34B0BCB5, 0x391C0CB3, 0x4ED8AA4A, 0x5B9CCA4F, 0x682E6FF3] ++
  [0x748F82EE, 0x78A5636F, 0x84C87814, 0x8CC70208, 0x90BEFFFA, 0xA4506CEB, 0xBEF9A3F7, 0xC67178F2]

/-- K of FIPS 180-4, 4.2.3. -/
def sha512K : List (BitVec 64) :=
  [0x428A2F98D728AE22, 0x7137449123EF65CD, 0xB5C0FBCFEC4D3B2F, 0xE9B5DBA58189DBBC] ++
  [0x3956C25BF348B538, 0x59F111F1B605D019, 0x923F82A4AF194F9B, 0xAB1C5ED5DA6D8118] ++
  [0xD807AA98A3030242, 0x12835B0145706FBE, 0x243185BE4EE4B28C, 0x550C7DC3D5FFB4E2] ++
  [0x72BE5D74F27B896F, 0x80DEB1FE3B1696B1, 0x9BDC06A725C71235, 0xC19BF174CF692694] ++
  [0xE49B69C19EF14AD2, 0xEFBE4786384F25E3, 0x0FC19DC68B8CD5B5, 0x240CA1CC77AC9C65] ++
  [0x2DE92C6F592B0275, 0x4A7484AA6EA6E483, 0x5CB0A9DCBD41FBD4, 0x76F988DA831153B5] ++
  [0x983E5152EE66DFAB, 0xA831C66D2DB43210, 0xB00327C898FB213F, 0xBF597FC7BEEF0EE4] ++
  [0xC6E00BF33DA88FC2, 0xD5A79147930AA725, 0x06CA6351E003826F, 0x142929670A0E6E70] ++
  [0x27B70A8546D22FFC, 0x2E1B21385C26C926, 0x4D2C6DFC5AC42AED, 0x53380D139D95B3DF] ++
  [0x650A73548BAF63DE, 0x766A0ABB3C77B2A8, 0x81C2C92E47EDAEE6, 0x92722C851482353B] ++
  [0xA2BFE8A14CF10364, 0xA81A664BBC423001, 0xC24B8B70D0F89791, 0xC76C51A30654BE30] ++
  [0xD192E819D6EF5218, 0xD69906245565A910, 0xF40E35855771202A, 0x106AA07032BBD1B8] ++
  [0x19A4C116B8D2D0C8, 0x1E376C085141AB53, 0x2748774CDF8EEB99, 0x34B0BCB5E19B48A8] ++
  [0x391C0CB3C5C95A63, 0x4ED8AA4AE3418ACB, 0x5B9CCA4F7763E373, 0x682E6FF3D6B2B8A3] ++
  [0x748F82EE5DEFB2FC, 0x78A5636F43172F60, 0x84C87814A1F0AB72, 0x8CC702081A6439EC] ++
  [0x90BEFFFA23631E28, 0xA4506CEBDE82BDE9, 0xBEF9A3F7B2C67915, 0xC67178F2E372532B] ++
  [0xCA273ECEEA26619C, 0xD186B8C721C0C207, 0xEADA7DD6CDE0EB1E, 0xF57D4F7FEE6ED178] ++
  [0x06F067AA72176FBA, 0x0A637DC5A2C898A6, 0x113F9804BEF90DAE, 0x1B710B35131C471B] ++
  [0x28DB77F523047D84, 0x32CAAB7B40C72493, 0x3C9EBE0A15C9BEBC, 0x431D67C49C100D4C] ++
  [0x4CC5D4BECB3E42B6, 0x597F299CFC657E2A, 0x5FCB6FAB3AD6FAEC, 0x6C44198C4A475817]

/-- The initial value of SHA-256. -/
def sha256H : List (BitVec 32) :=
  [0x6A09E667, 0xBB67AE85, 0x3C6EF372, 0xA54FF53A, 0x510E527F, 0x9B05688C, 0x1F83D9AB, 0x5BE0CD19]

/-- The initial value of SHA-384. -/
def sha384H : List (BitVec 64) :=
  [0xCBBB9D5DC1059ED8, 0x629A292A367CD507, 0x9159015A3070DD17, 0x152FECD8F70E5939] ++
  [0x67332667FFC00B31, 0x8EB44A8768581511, 0xDB0C2E0D64F98FA7, 0x47B5481DBEFA4FA4]

/-- The initial value of SHA-512. -/
def sha512H : List (BitVec 64) :=
  [0x6A09E667F3BCC908, 0xBB67AE8584CAA73B, 0x3C6EF372FE94F82B, 0xA54FF53A5F1D36F1] ++
  [0x510E527FADE682D1, 0x9B05688C2B3E6C1F, 0x1F83D9ABFB41BD6B, 0x5BE0CD19137E2179]

/-- SHA-256's functions. -/
def shaKind32 : ShaKind 32 := ⟨sha256K, (2, 13, 22), (6, 11, 25), (7, 18, 3), (17, 19, 10)⟩
/-- SHA-384's and SHA-512's functions. -/
def shaKind64 : ShaKind 64 := ⟨sha512K, (28, 34, 39), (14, 18, 41), (1, 8, 7), (19, 61, 6)⟩

section Sha
variable {w : Nat} (k : ShaKind w)

/-- Three rotations. -/
def shaBig (r : Nat × Nat × Nat) (x : BitVec w) : BitVec w :=
  x.rotateRight r.1 ^^^ x.rotateRight r.2.1 ^^^ x.rotateRight r.2.2
/-- Two rotations and a shift. -/
def shaSmall (r : Nat × Nat × Nat) (x : BitVec w) : BitVec w :=
  x.rotateRight r.1 ^^^ x.rotateRight r.2.1 ^^^ x >>> r.2.2

/-- One round: the 8 working variables, and the last 16 words of the message schedule, oldest first. -/
def shaRound (x : List (BitVec w) × List (BitVec w)) (c : BitVec w) : List (BitVec w) × List (BitVec w) :=
  match x.1, x.2 with
  | [a, b, c', d, e, f, g, h], m =>
    let wt := m.getD 0 0
    let t1 := h + shaBig k.s1 e + ((e &&& f) ^^^ (~~~e &&& g)) + c + wt
    let t2 := shaBig k.s0 a + ((a &&& b) ^^^ (a &&& c') ^^^ (b &&& c'))
    let next := shaSmall k.m1 (m.getD 14 0) + m.getD 9 0 + shaSmall k.m0 (m.getD 1 0) + wt
    ([t1 + t2, a, b, c', d + t1, e, f, g], m.drop 1 ++ [next])
  | _, _ => x

/-- The words of a block, each big-endian. -/
def shaWords (bs : List Byte) : List (BitVec w) :=
  (List.range 16).map fun i => BitVec.ofNat w (beNat (slice bs (i * (w / 8)) (w / 8)))

/-- One block of 16 words. -/
def shaBlock (h : List (BitVec w)) (bs : List Byte) : List (BitVec w) :=
  List.zipWith (· + ·) h (k.ks.foldl (shaRound k) (h, shaWords bs)).1

/-- Every whole block of a byte string; `n` bounds the blocks. -/
def shaBlocks : Nat → List (BitVec w) → List Byte → List (BitVec w)
  | 0, h, _ => h
  | n + 1, h, bs =>
    if bs.length < 2 * w then h else shaBlocks n (shaBlock k h (bs.take (2 * w))) (bs.drop (2 * w))

/-- A state as big-endian bytes. -/
def shaOut (h : List (BitVec w)) : List Byte := h.flatMap fun x => be (w / 8) x.toNat
end Sha

/-- The algorithms of R207. -/
inductive Alg where
  | sha256 | sha384 | sha512
deriving DecidableEq, Repr

/-- Block size in bytes. -/
def Alg.block : Alg → Nat
  | .sha256 => 64
  | _ => 128
/-- Digest size in bytes. -/
def Alg.digest : Alg → Nat
  | .sha256 => 32
  | .sha384 => 48
  | .sha512 => 64

/-- A chaining state, as its bytes. -/
def Alg.init : Alg → List Byte
  | .sha256 => shaOut sha256H
  | .sha384 => shaOut sha384H
  | .sha512 => shaOut sha512H

/-- The words of a chaining state's bytes. -/
def chainWords (w : Nat) (bs : List Byte) : List (BitVec w) :=
  (List.range 8).map fun i => BitVec.ofNat w (beNat (slice bs (i * (w / 8)) (w / 8)))

/-- Absorb the whole blocks of a byte string into a chaining state. -/
def Alg.absorb (a : Alg) (h : List Byte) (bs : List Byte) : List Byte :=
  match a with
  | .sha256 => shaOut (shaBlocks shaKind32 (bs.length / 64) (chainWords 32 h) bs)
  | _ => shaOut (shaBlocks shaKind64 (bs.length / 128) (chainWords 64 h) bs)

/-- The padding of FIPS 180-4 after `n` bytes of message: 0x80, zeros, the bit length. -/
def Alg.padding (a : Alg) (n : Nat) : List Byte :=
  let f := match a with | .sha256 => 8 | _ => 16
  let z := (2 * a.block - 1 - f - n % a.block) % a.block
  0x80#8 :: List.replicate z 0#8 ++ be f (8 * n)

/-- The digest of a message whose chaining state after whole blocks is `h`, with `buf` left and `n` bytes in all. -/
def Alg.finish (a : Alg) (h buf : List Byte) (n : Nat) : List Byte :=
  (a.absorb h (buf ++ a.padding n)).take a.digest

/-- The digest of a byte string. -/
def Alg.hash (a : Alg) (bs : List Byte) : List Byte :=
  let n := bs.length / a.block * a.block
  a.finish (a.absorb a.init (bs.take n)) (bs.drop n) bs.length

/-- The HMAC key block: longer keys are digested first, shorter ones padded with zeros (RFC 2104). -/
def Alg.keyBlock (a : Alg) (key : List Byte) : List Byte :=
  let k := if a.block < key.length then a.hash key else key
  k ++ List.replicate (a.block - k.length) 0#8
/-- The states after the inner and the outer pad. -/
def Alg.hmacInner (a : Alg) (key : List Byte) : List Byte := a.absorb a.init ((a.keyBlock key).map (· ^^^ 0x36#8))
def Alg.hmacOuter (a : Alg) (key : List Byte) : List Byte := a.absorb a.init ((a.keyBlock key).map (· ^^^ 0x5C#8))

/-- SHA-384 of a byte string, as a number whose most significant byte is the first of the digest. -/
def sha384 (bs : List Byte) : BitVec 384 := BitVec.ofNat 384 (beNat (Alg.sha384.hash bs))

/-! AES-256. -/

/-- The S-box of FIPS 197. -/
def aesSbox : List Byte :=
  [0x63, 0x7C, 0x77, 0x7B, 0xF2, 0x6B, 0x6F, 0xC5, 0x30, 0x01, 0x67, 0x2B, 0xFE, 0xD7, 0xAB, 0x76] ++
  [0xCA, 0x82, 0xC9, 0x7D, 0xFA, 0x59, 0x47, 0xF0, 0xAD, 0xD4, 0xA2, 0xAF, 0x9C, 0xA4, 0x72, 0xC0] ++
  [0xB7, 0xFD, 0x93, 0x26, 0x36, 0x3F, 0xF7, 0xCC, 0x34, 0xA5, 0xE5, 0xF1, 0x71, 0xD8, 0x31, 0x15] ++
  [0x04, 0xC7, 0x23, 0xC3, 0x18, 0x96, 0x05, 0x9A, 0x07, 0x12, 0x80, 0xE2, 0xEB, 0x27, 0xB2, 0x75] ++
  [0x09, 0x83, 0x2C, 0x1A, 0x1B, 0x6E, 0x5A, 0xA0, 0x52, 0x3B, 0xD6, 0xB3, 0x29, 0xE3, 0x2F, 0x84] ++
  [0x53, 0xD1, 0x00, 0xED, 0x20, 0xFC, 0xB1, 0x5B, 0x6A, 0xCB, 0xBE, 0x39, 0x4A, 0x4C, 0x58, 0xCF] ++
  [0xD0, 0xEF, 0xAA, 0xFB, 0x43, 0x4D, 0x33, 0x85, 0x45, 0xF9, 0x02, 0x7F, 0x50, 0x3C, 0x9F, 0xA8] ++
  [0x51, 0xA3, 0x40, 0x8F, 0x92, 0x9D, 0x38, 0xF5, 0xBC, 0xB6, 0xDA, 0x21, 0x10, 0xFF, 0xF3, 0xD2] ++
  [0xCD, 0x0C, 0x13, 0xEC, 0x5F, 0x97, 0x44, 0x17, 0xC4, 0xA7, 0x7E, 0x3D, 0x64, 0x5D, 0x19, 0x73] ++
  [0x60, 0x81, 0x4F, 0xDC, 0x22, 0x2A, 0x90, 0x88, 0x46, 0xEE, 0xB8, 0x14, 0xDE, 0x5E, 0x0B, 0xDB] ++
  [0xE0, 0x32, 0x3A, 0x0A, 0x49, 0x06, 0x24, 0x5C, 0xC2, 0xD3, 0xAC, 0x62, 0x91, 0x95, 0xE4, 0x79] ++
  [0xE7, 0xC8, 0x37, 0x6D, 0x8D, 0xD5, 0x4E, 0xA9, 0x6C, 0x56, 0xF4, 0xEA, 0x65, 0x7A, 0xAE, 0x08] ++
  [0xBA, 0x78, 0x25, 0x2E, 0x1C, 0xA6, 0xB4, 0xC6, 0xE8, 0xDD, 0x74, 0x1F, 0x4B, 0xBD, 0x8B, 0x8A] ++
  [0x70, 0x3E, 0xB5, 0x66, 0x48, 0x03, 0xF6, 0x0E, 0x61, 0x35, 0x57, 0xB9, 0x86, 0xC1, 0x1D, 0x9E] ++
  [0xE1, 0xF8, 0x98, 0x11, 0x69, 0xD9, 0x8E, 0x94, 0x9B, 0x1E, 0x87, 0xE9, 0xCE, 0x55, 0x28, 0xDF] ++
  [0x8C, 0xA1, 0x89, 0x0D, 0xBF, 0xE6, 0x42, 0x68, 0x41, 0x99, 0x2D, 0x0F, 0xB0, 0x54, 0xBB, 0x16]

/-- SubBytes of one byte. -/
def subByte (b : Byte) : Byte := aesSbox.getD b.toNat 0
/-- The inverse of SubBytes of one byte. -/
def invSubByte (b : Byte) : Byte := BitVec.ofNat 8 (aesSbox.findIdx (· == b))
/-- Multiplication by x in GF(2^8). -/
def xtime (b : Byte) : Byte := if b.getLsbD 7 then (b <<< 1) ^^^ 0x1B#8 else b <<< 1
/-- Multiplication in GF(2^8) by a constant below 16. -/
def gmul (c : Nat) (b : Byte) : Byte :=
  (if c.testBit 0 then b else 0) ^^^ (if c.testBit 1 then xtime b else 0) ^^^
  (if c.testBit 2 then xtime (xtime b) else 0) ^^^ (if c.testBit 3 then xtime (xtime (xtime b)) else 0)

/-- One more word of the key schedule of AES-256: the words so far, newest last. -/
def aesExpandStep (ws : List (List Byte)) (i : Nat) : List (List Byte) :=
  let t := ws.getLastD []
  let t := if i % 8 = 0 then xorBytes (((t.drop 1) ++ t.take 1).map subByte) [BitVec.ofNat 8 (2 ^ (i / 8 - 1)), 0, 0, 0]
    else if i % 8 = 4 then t.map subByte else t
  ws ++ [xorBytes (ws.getD (i - 8) []) t]

/-- The 15 round keys of a 32-byte key. -/
def aesKeys (key : List Byte) : List (List Byte) :=
  let ws := ((List.range 52).map (· + 8)).foldl aesExpandStep ((List.range 8).map fun i => slice key (4 * i) 4)
  (List.range 15).map fun r => ((ws.drop (4 * r)).take 4).flatMap id

/-- ShiftRows of the 16 bytes of a column-major state, and its inverse. -/
def shiftRows (s : List Byte) : List Byte := (List.range 16).map fun i => s.getD ((i + 4 * (i % 4)) % 16) 0
def invShiftRows (s : List Byte) : List Byte := (List.range 16).map fun i => s.getD ((i + 12 * (i % 4)) % 16) 0

/-- MixColumns with the coefficients of one row, rotated for the others. -/
def mixWith (cs : List Nat) (s : List Byte) : List Byte :=
  (List.range 16).map fun i =>
    ((List.range 4).map fun j => gmul (cs.getD ((j + 4 - i % 4) % 4) 0) (s.getD (i / 4 * 4 + j) 0)).foldl (· ^^^ ·) 0
def mixColumns (s : List Byte) : List Byte := mixWith [2, 3, 1, 1] s
def invMixColumns (s : List Byte) : List Byte := mixWith [14, 11, 13, 9] s

/-- AES-256 encryption of a block under expanded keys. -/
def aesEnc (rk : List (List Byte)) (b : List Byte) : List Byte :=
  let s := ((rk.drop 1).take 13).foldl (fun s k => xorBytes (mixColumns (shiftRows (s.map subByte))) k)
    (xorBytes b (rk.getD 0 []))
  xorBytes (shiftRows (s.map subByte)) (rk.getD 14 [])

/-- AES-256 decryption of a block under expanded keys. -/
def aesDec (rk : List (List Byte)) (b : List Byte) : List Byte :=
  let s := ((rk.drop 1).take 13).reverse.foldl (fun s k => invMixColumns (xorBytes ((invShiftRows s).map invSubByte) k))
    (xorBytes b (rk.getD 14 []))
  xorBytes ((invShiftRows s).map invSubByte) (rk.getD 0 [])

/-! GCM. -/

/-- One bit of the product in GF(2^128) of GCM: the accumulator and the running multiple. -/
def ghashBit (x : BitVec 128) (zv : BitVec 128 × BitVec 128) (i : Nat) : BitVec 128 × BitVec 128 :=
  (if x.getMsbD i then zv.1 ^^^ zv.2 else zv.1,
   if zv.2.getLsbD 0 then (zv.2 >>> 1) ^^^ (0xE1#128 <<< 120) else zv.2 >>> 1)
/-- The product. -/
def ghashMul (x y : BitVec 128) : BitVec 128 := ((List.range 128).foldl (ghashBit x) (0, y)).1
/-- A byte string padded with zeros to whole blocks. -/
def pad16 (bs : List Byte) : List Byte := bs ++ List.replicate ((16 - bs.length % 16) % 16) 0#8
/-- GHASH of whole blocks. -/
def ghash (h : BitVec 128) (bs : List Byte) : BitVec 128 :=
  (List.range (bs.length / 16)).foldl (fun a i => ghashMul (a ^^^ BitVec.ofNat 128 (beNat (slice bs (16 * i) 16))) h) 0

/-- Counter block `n` of a 96-bit nonce; the tag's is number 1, data starts at 2. -/
def gcmCounter (nonce : List Byte) (n : Nat) : List Byte := nonce ++ be 4 n
/-- The stream that encrypts `n` bytes. -/
def gcmStream (rk : List (List Byte)) (nonce : List Byte) (n : Nat) : List Byte :=
  (List.range ((n + 15) / 16)).flatMap fun i => aesEnc rk (gcmCounter nonce (i + 2))
/-- The tag over AAD and ciphertext. -/
def gcmTag (rk : List (List Byte)) (nonce aad ct : List Byte) : List Byte :=
  let h := BitVec.ofNat 128 (beNat (aesEnc rk (List.replicate 16 0#8)))
  let g := ghash h (pad16 aad ++ pad16 ct ++ be 8 (8 * aad.length) ++ be 8 (8 * ct.length))
  xorBytes (be 16 g.toNat) (aesEnc rk (gcmCounter nonce 1))
/-- Encryption and decryption alike. -/
def gcmCrypt (key nonce bs : List Byte) : List Byte := xorBytes bs (gcmStream (aesKeys key) nonce bs.length)
/-- Ciphertext, then tag. -/
def gcmSeal (key nonce aad pt : List Byte) : List Byte :=
  let ct := gcmCrypt key nonce pt
  ct ++ gcmTag (aesKeys key) nonce aad ct

/-! XTS. -/

/-- The tweak times x: little-endian bytes. -/
def xtsNext (t : List Byte) : List Byte :=
  let n := ofLe t * 2
  le 16 (if n < 2 ^ 128 then n else (n - 2 ^ 128) ^^^ 0x87)
/-- The blocks of one data unit, from the encrypted tweak. -/
def xtsBlocks (f : List Byte → List Byte) : Nat → List Byte → List Byte → List Byte
  | 0, _, _ => []
  | n + 1, t, bs => xorBytes (f (xorBytes (bs.take 16) t)) t ++ xtsBlocks f n (xtsNext t) (bs.drop 16)
/-- One data unit under a 64-byte key and a data-unit number. -/
def xtsUnit (enc : Bool) (key : List Byte) (unit : Nat) (bs : List Byte) : List Byte :=
  let k1 := aesKeys (key.take 32)
  xtsBlocks (if enc then aesEnc k1 else aesDec k1) (bs.length / 16) (aesEnc (aesKeys (key.drop 32)) (le 16 unit)) bs

/-! Key wrapping (RFC 5649 over RFC 3394). -/

/-- One step of the unwrapping: A, the halves, and the step's number `t`. -/
def unwrapStep (rk : List (List Byte)) (n : Nat) (x : List Byte × List (List Byte)) (t : Nat) :
    List Byte × List (List Byte) :=
  let i := (t - 1) % n
  let b := aesDec rk (xorBytes x.1 (be 8 t) ++ x.2.getD i [])
  (b.take 8, x.2.set i (b.drop 8))
/-- One step of the wrapping. -/
def wrapStep (rk : List (List Byte)) (n : Nat) (x : List Byte × List (List Byte)) (t : Nat) :
    List Byte × List (List Byte) :=
  let i := (t - 1) % n
  let b := aesEnc rk (x.1 ++ x.2.getD i [])
  (xorBytes (b.take 8) (be 8 t), x.2.set i (b.drop 8))

/-- The initial value of RFC 5649 for `n` bytes. -/
def kwIv (n : Nat) : List Byte := [0xA6#8, 0x59#8, 0x59#8, 0xA6#8] ++ be 4 n

/-- Wrap a byte string of at most 2^31 bytes under a 32-byte key. -/
def kwWrap (key bs : List Byte) : List Byte :=
  let rk := aesKeys key
  let p := bs ++ List.replicate ((8 - bs.length % 8) % 8) 0#8
  let n := p.length / 8
  if n ≤ 1 then aesEnc rk (kwIv bs.length ++ p)
  else
    let x := ((List.range (6 * n)).map (· + 1)).foldl (wrapStep rk n)
      (kwIv bs.length, (List.range n).map fun i => slice p (8 * i) 8)
    x.1 ++ x.2.flatMap id

/-- Unwrap; `none` where the integrity check fails. -/
def kwUnwrap (key bs : List Byte) : Option (List Byte) :=
  let rk := aesKeys key
  let n := bs.length / 8 - 1
  if bs.length % 8 ≠ 0 ∨ bs.length < 16 then none
  else
    let x : List Byte × List (List Byte) :=
      if n = 1 then ((aesDec rk bs).take 8, [(aesDec rk bs).drop 8])
      else ((List.range (6 * n)).map (· + 1)).reverse.foldl (unwrapStep rk n)
        (bs.take 8, (List.range n).map fun i => slice bs (8 * (i + 1)) 8)
    let p := x.2.flatMap id
    let len := beNat (x.1.drop 4)
    if x.1.take 4 = [0xA6#8, 0x59#8, 0x59#8, 0xA6#8] ∧ 8 * (n - 1) < len ∧ len ≤ 8 * n ∧
        (p.drop len).all (· == 0#8) then some (p.take len) else none

end Sys2Proof.Machine
end

