-- ==== Sys2Proof/Machine/LedgerCore.lean ====
section
/-! DEFINITION. The ledger's data: locators and map entries (R82 to R85), snapshots and retention (R107 to R110,
R788), reference counts and dead units (R85, R787), journal items and records (R89 to R92, R364, R785). All of it is
plain functions of an `Image`; nothing here reads the machine's state. -/

namespace Sys2Proof.Machine

/-! Grain locators (R84). -/

def glocIngot (g : W64) : Nat := g.toNat / 2 ^ 24
def glocOffset (g : W64) : Nat := g.toNat / 16 % 2 ^ 20
def glocSlag (g : W64) : Bool := g.toNat.testBit 3
def glocCodec (g : W64) : Nat := g.toNat % 4
/-- A locator of an ingot, an offset in units, and a codec. -/
def gloc (ingot offset codec : Nat) : W64 := BitVec.ofNat 64 (ingot * 2 ^ 24 + offset % 2 ^ 20 * 16 + codec % 4)
/-- The locator with SLAG taken as 0: what counts, rosters and dead totals use (R83). -/
def glocBody (g : W64) : W64 := BitVec.ofNat 64 (g.toNat - b2n (glocSlag g) * 8)
/-- The locator with SLAG 1. -/
def glocMark (g : W64) : W64 := BitVec.ofNat 64 ((glocBody g).toNat + 8)
/-- The locator of a SLAG hand-in (R371). -/
def glocSlagOnly : W64 := 8
/-- The entry names a stored body: its locator, SLAG apart, is not 0. -/
def MapEntry.hasBody (e : MapEntry) : Bool := e.mapped && glocBody e.gloc != 0

/-- The entry of a SLAG hand-in (R371). -/
def slagEntry (birth : Nat) : MapEntry := { gloc := glocSlagOnly, birth := birth, mapped := true }
/-- The entry of a ZERO hand-in (R83). -/
def zeroEntry (birth : Nat) : MapEntry := { birth := birth, mapped := true, zero := true }

/-- The 16 bytes of a map entry (R83). -/
def MapEntry.bytes (e : MapEntry) : List Byte :=
  le 8 e.gloc.toNat ++ le 6 e.birth ++
  le 2 (e.len16 % 1024 + b2n e.mapped * 1024 + b2n e.zero * 2048 + b2n e.shared * 4096)

/-- The map entry that 16 bytes spell. -/
def MapEntry.ofBytes (bs : List Byte) : MapEntry :=
  let f := field bs 14 2
  { gloc := BitVec.ofNat 64 (field bs 0 8), birth := field bs 8 6, len16 := f % 1024
    mapped := f.testBit 10, zero := f.testBit 11, shared := f.testBit 12 }

/-! Keys. -/

/-- The key of a grain in the map: namespace, grain index (R90). -/
def mapKey (ns g : Nat) : Nat := ns * 2 ^ 35 + g
/-- The key of a grain in a snapshot's retention table. -/
def retKey (ns id g : Nat) : Nat := (ns * 2 ^ 16 + id) * 2 ^ 35 + g
/-- The key of a 2 MiB range: 256 grains (the directory of R82). -/
def rangeKey (ns g : Nat) : Nat := ns * 2 ^ 27 + g / 256

/-! Snapshots. -/

/-- `a` stands before `b` in the order of R788. -/
def Snap.before (a b : Snap) : Bool := decide (a.epoch < b.epoch) || (a.epoch == b.epoch && decide (a.id < b.id))

/-- Insert a snapshot in the order of R788. -/
def snapInsert (x : Snap) : List Snap → List Snap
  | [] => [x]
  | y :: t => if x.before y then x :: y :: t else y :: snapInsert x t

/-- The snapshots of a namespace, in order. -/
def snapsOf (i : Image) (ns : Nat) : List Snap := i.snaps.filter fun s => s.ns == ns

/-- A snapshot by namespace and ID (R112). -/
def snapFind (i : Image) (ns id : Nat) : Option Snap := i.snaps.find? fun s => s.ns == ns && s.id == id

/-- The first retained entry for a grain along a list of snapshots, born at or before `e` (R108). -/
def firstRetained (i : Image) (ns g e : Nat) : List Snap → Option MapEntry
  | [] => none
  | s :: t => match Tab.find? i.ret (retKey ns s.id g) with
    | some x => if x.birth ≤ e then some x else firstRetained i ns g e t
    | none => firstRetained i ns g e t

/-- The clone record of a namespace. -/
def cloneOf (i : Image) (ns : Nat) : Option Clone := i.clones.find? fun c => c.ns == ns

/-- What a namespace, or one of its snapshots, holds for a grain: a live read resolves an inherited range through the
parent snapshot (R110), a snapshot read searches the retention tables onward (R108). `fuel` bounds the chain of
clones (R112: at most 8). -/
def view (i : Image) : Nat → Nat → Option Nat → Nat → MapEntry
  | 0, _, _, _ => {}
  | f + 1, ns, none, g =>
    match Tab.find? i.map (mapKey ns g) with
    | some e => e
    | none =>
      match cloneOf i ns with
      | some c => if i.cleared.contains (rangeKey ns g) then {} else view i f c.parent (some c.snap) g
      | none => {}
  | f + 1, ns, some id, g =>
    match snapFind i ns id with
    | none => {}
    | some s =>
      match firstRetained i ns g s.epoch ((snapsOf i ns).filter fun t => !t.before s) with
      | some e => e
      | none => let e := view i f ns none g; if e.birth ≤ s.epoch then e else {}

/-- Enough fuel for 8 clones: two calls each, and the last read. -/
def viewFuel : Nat := 20

/-- The live entry of a grain. -/
def liveEntry (i : Image) (ns g : Nat) : MapEntry := view i viewFuel ns none g
/-- The entry of a grain in a snapshot. -/
def snapEntry (i : Image) (ns id g : Nat) : MapEntry := view i viewFuel ns (some id) g

/-! Reference counts and dead units. -/

/-- Add to (or take from) an ingot's dead total. -/
def addDead (n : Nat) (ingot : Nat) (i : Image) : Image :=
  let x := Tab.getD i.ingots {} ingot
  { i with ingots := Tab.put i.ingots ingot { x with dead16 := x.dead16 + n } }
def subDead (n : Nat) (ingot : Nat) (i : Image) : Image :=
  let x := Tab.getD i.ingots {} ingot
  { i with ingots := Tab.put i.ingots ingot { x with dead16 := x.dead16 - n } }

/-- The largest reference count (R86). -/
abbrev refMax : Nat := 0xFFFF0000

/-- A committed count rises, to at most the limit of R86: a count at 0 after a fall brings its units back from dead (R787). -/
def refUp (e : MapEntry) (i : Image) : Image :=
  if !e.hasBody then i else
  let k := (glocBody e.gloc).toNat
  let j := { i with refs := Tab.put i.refs k (Nat.min refMax (Tab.getD i.refs 0 k + 1)) }
  if Tab.find? i.refs k = some 0 then subDead e.len16 (glocIngot e.gloc) j else j

/-- A committed count falls; at 0 its units are dead (R85, R787). `false` when it was 0 already (R87). -/
def refDown (e : MapEntry) (i : Image) : Image × Bool :=
  if !e.hasBody then (i, true) else
  let k := (glocBody e.gloc).toNat
  match Tab.getD i.refs 0 k with
  | 0 => (i, false)
  | 1 => (addDead e.len16 (glocIngot e.gloc) { i with refs := Tab.put i.refs k 0 }, true)
  | n + 2 => ({ i with refs := Tab.put i.refs k (n + 1) }, true)

/-! Rosters (R427 to R429). -/

/-- Records that a roster's 65,536 pages of 255 hold (R429). -/
abbrev rosterMax : Nat := 16711680

/-- An entry's locator lies in an ingot at an offset. -/
def MapEntry.isAt (e : MapEntry) (n off : Nat) : Bool := e.hasBody && glocIngot e.gloc == n && glocOffset e.gloc == off

/-- A REFERER is live while the live map entry of its grain, or an entry of a retention table of the namespace, names the body
(R428). -/
def refererLive (i : Image) (n ns g off : Nat) : Bool :=
  (Tab.getD i.map {} (mapKey ns g)).isAt n off || i.ret.any fun e => e.1 / 2 ^ 51 == ns && e.1 % 2 ^ 35 == g && e.2.isAt n off

def RosterRec.isReferer : RosterRec → Bool
  | .referer .. => true
  | _ => false
/-- The record is not a stale REFERER of ingot `n`. -/
def RosterRec.keeps (i : Image) (n : Nat) : RosterRec → Bool
  | .referer ns g off => refererLive i n ns g off
  | _ => true

/-- Add a record: a roster at its limit is first rid of its stale records; one still at it is FULL. A FULL roster takes no REFERER
(R429). -/
def rosterPush (n : Nat) (r : RosterRec) (i : Image) : Image :=
  let x := Tab.getD i.rosters {} n
  let recs := if rosterMax ≤ x.recs.length ∧ !x.full then x.recs.filter (·.keeps i n) else x.recs
  let full := x.full || decide (rosterMax ≤ recs.length)
  let y : Roster := { recs := if rosterMax ≤ recs.length ∨ (full ∧ r.isReferer) then recs else recs ++ [r], full := full }
  { i with rosters := Tab.put i.rosters n y }

/-- A body has its record in its ingot's roster. -/
def bodyListed (i : Image) (n off : Nat) : Bool :=
  (Tab.getD i.rosters {} n).recs.any fun r => match r with | .body _ _ o => o == off | _ => false

/-- The records of an entry that the ledger maps (R428): a BODY record with the body, and a REFERER. -/
def rosterMap (ns g : Nat) (e : MapEntry) (i : Image) : Image :=
  if !e.hasBody then i else
  let n := glocIngot e.gloc
  let off := glocOffset e.gloc
  let i := if e.shared || bodyListed i n off then i else rosterPush n (.body ns e.len16 off) i
  rosterPush n (.referer ns g off) i

/-- The records of an entry whose body has moved: of the new body, where it is another (R397, R433). -/
def rosterMove (ns g : Nat) (old : W64) (e : MapEntry) (i : Image) : Image :=
  if glocBody e.gloc = glocBody old then i else rosterMap ns g { e with shared := false } i

/-- The records of a checkpoint page (R428). -/
def rosterPage (p : W64 × Nat) (i : Image) : Image :=
  let n := glocIngot p.1
  rosterPush n (.page p.2 (glocOffset p.1)) (rosterPush n (.body 0 257 (glocOffset p.1)) i)

/-! Slag-list entries of grains (R398). -/

/-- Remove the slag entries that satisfy `p`: each removal moves the last entry into the freed index (R396). -/
def slagRemove (p : SlagEntry → Bool) : List SlagEntry → List SlagEntry
  | [] => []
  | x :: t =>
    if p x then
      match (slagRemove p t).getLast? with
      | none => []
      | some l => l :: (slagRemove p t).dropLast
    else x :: slagRemove p t

/-- Remove the first slag entry that satisfies `p`. -/
def slagDropFirst (p : SlagEntry → Bool) : List SlagEntry → List SlagEntry
  | [] => []
  | x :: t =>
    if p x then
      match t.getLast? with
      | none => []
      | some l => l :: t.dropLast
    else x :: slagDropFirst p t
/-- Remove all but one of the slag entries that satisfy `p`. -/
def slagKeepOne (p : SlagEntry → Bool) (l : List SlagEntry) : List SlagEntry :=
  (List.range ((l.filter p).length - 1)).foldl (fun l _ => slagDropFirst p l) l

def isLiveGrain (ns g : Nat) (x : SlagEntry) : Bool := !x.extent && !x.snap && x.ns == ns && x.grain == g
def isSnapGrain (ns id g : Nat) (x : SlagEntry) : Bool :=
  !x.extent && x.snap && x.ns == ns && x.snapId == id && x.grain == g

/-! Applying changes (R107, R109, R110). The flag falls at a REF_UNDERFLOW. -/

/-- The image, and whether every decrement so far found a count above 0. -/
abbrev Applied := Image × Bool

/-- File an old entry under the newest snapshot that needs it, or release it (R107). -/
def fileOld (ns g epoch : Nat) (old : MapEntry) (a : Applied) : Applied :=
  if !old.mapped then a else
  match ((snapsOf a.1 ns).filter fun s => decide (old.birth ≤ s.epoch ∧ s.epoch < epoch)).getLast? with
  | some s => ({ a.1 with ret := Tab.put a.1.ret (retKey ns s.id g) old }, a.2)
  | none => let r := refDown old a.1; (r.1, a.2 && r.2)

/-- The first write into an inherited range copies the parent's view of its 256 entries (R110). -/
def copyRange (ns g : Nat) (a : Applied) : Applied :=
  match cloneOf a.1 ns with
  | none => a
  | some _ =>
    if a.1.cleared.contains (rangeKey ns g) then a
    else
      let base := g / 256 * 256
      let j := (List.range 256).foldl (fun (j : Image) n =>
        let e := liveEntry a.1 ns (base + n)
        if e.mapped then rosterMap ns (base + n) { e with shared := true } (refUp e { j with map := Tab.put j.map (mapKey ns (base + n)) e })
        else j) a.1
      ({ j with cleared := rangeKey ns g :: j.cleared }, a.2)

/-- A change that keeps the entry's BIRTH: a relocation, or a sweep mark (R397, R433). It replaces the entry where it
stands. -/
def inPlace (epoch : Nat) (new : MapEntry) : Bool := new.mapped && new.birth != epoch

/-- A map change at the commit of `epoch`: the old entry is filed or released, the new one takes its place (R88,
R107). A change in place applies only while the entry names the locator it was made for (R434). A SLAG hand-in's own slag entry stays
(R398). -/
def applyMap (epoch ns g : Nat) (new : MapEntry) (was : W64) (a : Applied) : Applied :=
  if inPlace epoch new then
    if (Tab.getD a.1.map {} (mapKey ns g)).gloc ≠ was then a
    else
      let j := rosterMove ns g was new (refUp new { a.1 with map := Tab.put a.1.map (mapKey ns g) new })
      let r := refDown (Tab.getD a.1.map {} (mapKey ns g)) j
      (r.1, a.2 && r.2)
  else
  let a := copyRange ns g a
  let old := Tab.getD a.1.map {} (mapKey ns g)
  let b := fileOld ns g epoch old a
  let keep := new.mapped && glocSlag new.gloc
  let j := { b.1 with slag := (if keep then slagKeepOne else slagRemove) (isLiveGrain ns g) b.1.slag }
  if new.mapped then (rosterMap ns g new (refUp new { j with map := Tab.put j.map (mapKey ns g) new }), b.2)
  else ({ j with map := Tab.erase j.map (mapKey ns g) }, b.2)

/-- The retained entries of a snapshot: (grain, entry). -/
def retainedOf (i : Image) (ns id : Nat) : List (Nat × MapEntry) :=
  (i.ret.filter fun e => e.1 / 2 ^ 35 == ns * 2 ^ 16 + id).map fun e => (e.1 % 2 ^ 35, e.2)

/-- One retained entry of a deleted snapshot: filed under the next older one where it was born in time, else
released; its slag entry follows it (R109, R398). -/
def refile (ns id : Nat) (older : Option Snap) (a : Applied) (x : Nat × MapEntry) : Applied :=
  let j := { a.1 with ret := Tab.erase a.1.ret (retKey ns id x.1) }
  match older with
  | some p =>
    if x.2.birth ≤ p.epoch then
      ({ j with
          ret := Tab.put j.ret (retKey ns p.id x.1) x.2
          slag := j.slag.map fun e => if isSnapGrain ns id x.1 e then { e with snapId := p.id } else e }, a.2)
    else let r := refDown x.2 { j with slag := slagRemove (isSnapGrain ns id x.1) j.slag }; (r.1, a.2 && r.2)
  | none => let r := refDown x.2 { j with slag := slagRemove (isSnapGrain ns id x.1) j.slag }; (r.1, a.2 && r.2)

/-- A deletion takes effect (R109). -/
def applyDelete (ns id : Nat) (a : Applied) : Applied :=
  match snapFind a.1 ns id with
  | none => a
  | some s =>
    let older := ((snapsOf a.1 ns).filter fun t => t.before s).getLast?
    let b := (retainedOf a.1 ns id).foldl (refile ns id older) a
    ({ b.1 with snaps := b.1.snaps.filter fun t => !(t.ns == ns && t.id == id) }, b.2)

/-- The flags of a CAST item and of IFLAGS (R361, R364). -/
def Ingot.flags (x : Ingot) : Nat :=
  b2n x.reloc + 2 * b2n x.narrow + 4 * b2n x.padded + 8 * b2n (decide (x.slagRows ≠ 0))

/-- Members of an ingot with LOST set (R361). -/
def Ingot.lostN (x : Ingot) : Nat := (x.members.filter (·.lost)).length

/-- Replace one member locator. -/
def setMember (n : Nat) (l : Loc) (x : Ingot) : Ingot := { x with members := x.members.set n l }

/-- Mark the members on a module lost; a LIVE ingot becomes DEGRADED (R382). -/
def loseModule (m : Nat) (x : Ingot) : Ingot :=
  if x.members.any fun l => l.module == m && !l.lost then
    { x with
      members := x.members.map fun l => if l.module = m then { l with lost := true } else l
      st := if x.st = .live then .degraded else x.st }
  else x

/-- Every locator of one entry, padded to its member count. -/
def withMembers (first : Nat) (ls : List Loc) (x : Ingot) : Ingot :=
  let ms := x.members ++ List.replicate (first + ls.length - x.members.length) ({} : Loc)
  { x with members := ms.take first ++ ls ++ ms.drop (first + ls.length) }

/-- What a journal item does to the image at the commit of its epoch, at replay and live alike. -/
def applyItem (epoch : Nat) (a : Applied) : JItem → Applied
  | .mapChange ns g new old => applyMap epoch ns g new old a
  | .take id ns e => ({ a.1 with snaps := snapInsert ⟨ns, id, e⟩ a.1.snaps }, a.2)
  | .delete id ns _ => applyDelete ns id a
  | .clone id parent child =>
    let d := match cloneOf a.1 parent with | some c => c.depth + 1 | none => 1
    ({ a.1 with clones := a.1.clones ++ [⟨child, parent, id, d⟩] }, a.2)
  | .retain id ns g e =>
    if ((Tab.find? a.1.ret (retKey ns id g)).map fun x => x.birth == e.birth).getD false = false then a
    else
    let j := rosterMove ns g (Tab.getD a.1.ret {} (retKey ns id g)).gloc e (refUp e { a.1 with ret := Tab.put a.1.ret (retKey ns id g) e })
    let r := refDown (Tab.getD a.1.ret {} (retKey ns id g)) j
    (r.1, a.2 && r.2)
  | .cast k m flags ingot e dead =>
    let x := Tab.getD a.1.ingots {} ingot
    ({ a.1 with ingots := Tab.put a.1.ingots ingot { x with
        st := if x.st = .degraded then .degraded else .live
        k := k
        m := m
        cast := e
        reloc := flags.testBit 0
        narrow := flags.testBit 1
        padded := flags.testBit 2
        dead16 := x.dead16 + dead } }, a.2)
  | .members first ingot ls =>
    let x := Tab.getD a.1.ingots {} ingot
    let y := withMembers first ls x
    ({ a.1 with ingots := Tab.put a.1.ingots ingot { y with st := if y.st = .live ∧ ls.any (·.lost) then .degraded else y.st } }, a.2)
  | .replace n ingot l rows =>
    let x := Tab.getD a.1.ingots {} ingot
    let y := setMember n { l with lost := false } { x with slagRows := rows }
    ({ a.1 with ingots := Tab.put a.1.ingots ingot { y with st := if y.lostN = 0 then .live else .degraded } }, a.2)
  | .setState st ingot =>
    let x := Tab.getD a.1.ingots {} ingot
    ({ a.1 with ingots := Tab.put a.1.ingots ingot { x with st := st } }, a.2)
  | .eject m c =>
    ({ a.1 with
        ingots := a.1.ingots.map fun e => (e.1, loseModule m e.2)
        ejected := (m, c) :: a.1.ejected.filter fun e => e.1 != m }, a.2)

/-- An ingot all of whose data area is dead, with no working count on any of its bodies, becomes DEAD (R363,
R787). -/
def markDead (working : Tab Nat) (i : Image) : Image :=
  { i with ingots := i.ingots.map fun e =>
      if (e.2.st = .live ∨ e.2.st = .degraded ∨ e.2.st = .relocating) ∧ e.2.dead16 = e.2.k * 16384 ∧ 0 < e.2.k ∧
          !(working.any fun w => w.1 / 2 ^ 24 == e.1 && w.2 != 0)
      then (e.1, { e.2 with st := .dead }) else e }

/-! Journal items as bytes. -/

/-- MFLAGS of a locator (R362). -/
def Loc.word (l : Loc) : Nat :=
  l.module % 256 * 2 ^ 56 + (b2n l.lost + 2 * b2n l.rebuilt) * 2 ^ 48 + l.chunk % 2 ^ 16 * 2 ^ 32 + l.zone % 2 ^ 32

/-- The locator that a 64-bit word spells (R362). -/
def Loc.ofWord (w : Nat) : Loc :=
  { module := w / 2 ^ 56 % 256, lost := w.testBit 48, rebuilt := w.testBit 49, chunk := w / 2 ^ 32 % 2 ^ 16
    zone := w % 2 ^ 32 }

/-- The value of an ingot state (R361). -/
def IngotSt.code : IngotSt → Nat
  | .free => 0 | .opened => 1 | .casting => 2 | .live => 3 | .degraded => 4 | .rebuilding => 5 | .relocating => 6
  | .dead => 7

/-- The ingot state of a value (R361). -/
def IngotSt.ofCode (n : Nat) : IngotSt :=
  match n with
  | 1 => .opened | 2 => .casting | 3 => .live | 4 => .degraded | 5 => .rebuilding | 6 => .relocating | 7 => .dead
  | _ => .free

/-- Zero bytes. -/
def zeros (n : Nat) : List Byte := List.replicate n 0#8

/-- The 16 bytes of a slag-list entry (R395). -/
def SlagEntry.bytes (x : SlagEntry) : List Byte :=
  le 1 ((if x.extent then 2 else 1) + 16 * b2n x.snap) ++ le 1 x.cause ++ le 2 (if x.extent then x.len16 else x.ns) ++
  le 2 (if x.snap then x.snapId else 0) ++ zeros 2 ++ le 8 (if x.extent then x.gloc.toNat else x.grain)

/-- The record type that carries an item (R89). -/
def JItem.rtype : JItem → Nat
  | .mapChange .. => 1
  | .take .. | .delete .. | .clone .. | .retain .. => 3
  | _ => 2

/-- The 32 bytes of an item (R90, R364, R785). -/
def JItem.bytes : JItem → List Byte
  | .mapChange ns g new old => le 8 (ns * 2 ^ 50 + g) ++ new.bytes ++ le 8 old.toNat
  | .take id ns e => le 1 1 ++ zeros 1 ++ le 2 id ++ le 2 ns ++ zeros 2 ++ le 6 e ++ zeros 18
  | .delete id ns e => le 1 2 ++ zeros 1 ++ le 2 id ++ le 2 ns ++ zeros 2 ++ le 6 e ++ zeros 18
  | .clone id p c => le 1 3 ++ zeros 1 ++ le 2 id ++ le 2 p ++ le 2 c ++ zeros 24
  | .retain id ns g e => le 1 4 ++ zeros 1 ++ le 2 id ++ le 2 ns ++ zeros 2 ++ le 8 g ++ e.bytes
  | .cast k m f n e d => le 1 1 ++ le 1 k ++ le 1 m ++ le 1 f ++ le 5 n ++ zeros 1 ++ le 6 e ++ le 4 d ++ zeros 12
  | .members f n ls =>
    le 1 2 ++ le 1 f ++ le 1 ls.length ++ le 5 n ++ ((List.range 3).flatMap fun i => le 8 ((ls.map Loc.word).getD i 0))
  | .replace i n l rows => le 1 3 ++ le 1 i ++ zeros 1 ++ le 5 n ++ le 8 l.word ++ le 8 rows ++ zeros 8
  | .setState st n => le 1 4 ++ le 1 st.code ++ zeros 1 ++ le 5 n ++ zeros 24
  | .eject m c => le 1 5 ++ le 1 m ++ le 1 c ++ zeros 29

/-- The item that 32 bytes of a record of a type spell. -/
def JItem.ofBytes (rtype : Nat) (b : List Byte) : Option JItem :=
  match rtype, field b 0 1 with
  | 1, _ => some (.mapChange (field b 0 8 / 2 ^ 50) (field b 0 8 % 2 ^ 35) (MapEntry.ofBytes (slice b 8 16))
      (BitVec.ofNat 64 (field b 24 8)))
  | 2, 1 => some (.cast (field b 1 1) (field b 2 1) (field b 3 1) (field b 4 5) (field b 10 6) (field b 16 4))
  | 2, 2 => some (.members (field b 1 1) (field b 3 5)
      ((List.range (field b 2 1)).map fun i => Loc.ofWord (field b (8 + 8 * i) 8)))
  | 2, 3 => some (.replace (field b 1 1) (field b 3 5) (Loc.ofWord (field b 8 8)) (field b 16 8))
  | 2, 4 => some (.setState (IngotSt.ofCode (field b 1 1)) (field b 3 5))
  | 2, 5 => some (.eject (field b 1 1) (field b 2 1))
  | 3, 1 => some (.take (field b 2 2) (field b 4 2) (field b 8 6))
  | 3, 2 => some (.delete (field b 2 2) (field b 4 2) (field b 8 6))
  | 3, 3 => some (.clone (field b 2 2) (field b 4 2) (field b 6 2))
  | 3, 4 => some (.retain (field b 2 2) (field b 4 2) (field b 8 8) (MapEntry.ofBytes (slice b 16 16)))
  | _, _ => none

/-- A record's 256 bytes, closed by their CRC (R89, R91). -/
def sealRecord (body : List Byte) : List Byte := body ++ le 8 (crc64 body).toNat

/-- A journal record of items of one type (R89). -/
def jRecord (rtype head rseq epoch jseq : Nat) (items : List JItem) : List Byte :=
  sealRecord (le 1 rtype ++ le 1 head ++ le 1 items.length ++ zeros 1 ++ le 4 rseq ++ le 6 epoch ++ zeros 2 ++
    le 8 jseq ++ (items.flatMap JItem.bytes) ++ zeros (224 - 32 * items.length))

/-- What a commit record says (R91). -/
structure CommitRec where
  head : Nat
  nrec : Nat
  epoch : Nat
  flags : Nat
  jfirst : Nat
  epochCrc : W64
  prevCrc : W64
  ingotFirst : Nat
  ingots : Nat
  stored : Nat
  dedup : Nat
  discard : Nat
  freed : Nat
  ckptGen : Nat
deriving DecidableEq, Repr

/-- The 256 bytes of a commit record (R91). -/
def CommitRec.bytes (c : CommitRec) : List Byte :=
  sealRecord (le 1 0x10 ++ le 1 c.head ++ zeros 2 ++ le 4 c.nrec ++ le 6 c.epoch ++ le 2 c.flags ++ le 8 c.jfirst ++
    le 8 c.epochCrc.toNat ++ le 8 c.prevCrc.toNat ++ le 8 c.ingotFirst ++ le 4 c.ingots ++ le 4 c.stored ++
    le 4 c.dedup ++ le 4 c.discard ++ le 8 c.freed ++ le 8 c.ckptGen ++ zeros 168)

/-- A 256-byte record whose CRC field is right (R89, R92). -/
def recordOk (b : List Byte) : Bool := field b 0xF8 8 == (crc64 (slice b 0 0xF8)).toNat

/-- The items of a record. -/
def recordItems (b : List Byte) : List JItem :=
  (List.range (field b 2 1)).filterMap fun i => JItem.ofBytes (field b 0 1) (slice b (0x18 + 32 * i) 32)

/-! Replay (R92). -/

/-- What replay has established so far. -/
structure Replay where
  img : Image
  /-- the epoch of the checkpoint it starts from: records of epochs at or before it are skipped -/
  base : Nat
  /-- records of epochs not yet committed, oldest first: epoch and bytes -/
  open_ : List (Nat × List Byte)
  committed : Nat
  prevCrc : W64
  records : Nat
  /-- the JSEQ at which the tail stops verifying -/
  stop : Nat
  refsOk : Bool
deriving DecidableEq, Repr

/-- The commit record verifies against the records seen: NREC, EPOCH_CRC and PREV_CRC (R91, R92). -/
def commitOk (r : Replay) (b : List Byte) : Bool :=
  let mine := (r.open_.filter fun e => e.1 == field b 8 6).map (·.2)
  field b 4 4 == mine.length && field b 0x18 8 == (crc64 (mine.flatMap id)).toNat &&
  field b 0x20 8 == r.prevCrc.toNat

/-- Count one more epoch as committed: its items apply in order. -/
def replayCommit (r : Replay) (b : List Byte) : Replay :=
  let e := field b 8 6
  let items := (r.open_.filter fun x => x.1 == e).flatMap fun x => recordItems x.2
  let a := items.foldl (applyItem e) (r.img, r.refsOk)
  { r with
    img := a.1
    refsOk := a.2
    open_ := r.open_.filter fun x => x.1 != e
    committed := e
    prevCrc := BitVec.ofNat 64 (field b 0xF8 8)
    records := r.records + 1 }

/-- Replay records from JSEQ `j` up, each read by `get`, until one fails (R92). A commit record takes a place of its own; one of an epoch
that the checkpoint covers gives the CRC that the next one names. -/
def replayFrom (get : Nat → List Byte) : Nat → Nat → Replay → Replay
  | 0, j, r => { r with stop := j }
  | f + 1, j, r =>
    let b := get j
    if !recordOk b || field b 0 1 == 0 then { r with stop := j }
    else if field b 0 1 == 0x10 then
      if field b 8 6 ≤ r.base then replayFrom get f (j + 1) { r with prevCrc := BitVec.ofNat 64 (field b 0xF8 8) }
      else if commitOk r b then replayFrom get f (j + 1) (replayCommit r b)
      else { r with stop := j }
    else if field b 0x10 8 != j then { r with stop := j }
    else if field b 8 6 ≤ r.base then replayFrom get f (j + 1) r
    else replayFrom get f (j + 1) { r with open_ := r.open_ ++ [(field b 8 6, b)], records := r.records + 1 }

end Sys2Proof.Machine
end

