-- ==== Sys2Proof/Machine/Report.lean ====
section
/-! DEFINITION. How a block reports: hallmarks (spec/19_hallmark_touchmark.md), events (spec/18_event_queues.md)
and page faults (spec/02_register_pages.md). -/

namespace Sys2Proof.Machine

/-! Hallmarks. -/

/-- The limit per window for a code: the lowest-numbered valid RATE_OVR entry that names it, else RATE_PER_S; 0 is
no limit (R673). -/
def hlmRate (s : State) (code : Nat) : Nat :=
  match (List.range 8).find? fun i =>
      bit (rd s pgHLM (0x110 + 4 * i)) 15 && rdF s pgHLM (0x110 + 4 * i) 31 16 == code with
  | some i => rdF s pgHLM (0x110 + 4 * i) 7 0
  | none => rdF s pgHLM 0x100 7 0

/-- The record an accepted occurrence becomes (R664, R665). -/
def hlmRec (code inst : Nat) (payload : List W32) (s : State) : HlmRec :=
  { code := code, inst := inst, poh := s.cells.poh, cycles := s.cells.cycles, usec := usec s
    suppressed := Tab.getD s.hlm.supp 0 code, payload := payload }

/-- Put an accepted occurrence into the buffer of 256 entries; a full buffer drops it (R672). -/
def hlmAccept (code inst : Nat) (payload : List W32) (s : State) : State :=
  if s.hlm.buf.length < 256 then
    { s with hlm := { s.hlm with
        buf := s.hlm.buf ++ [hlmRec code inst payload s]
        supp := Tab.erase s.hlm.supp code } }
  else
    bump pgHLM 0x1C0 1 { s with hlm := { s.hlm with dropped := s.hlm.dropped + 1, loss := true } }

/-- A hallmark occurs: accepted within its code's limit for the window, else suppressed and counted (R672 to
R674). -/
def hallmark (code inst : Nat) (payload : List W32) (s : State) : State :=
  let n := Tab.getD s.hlm.win 0 code
  if live s pgHLM 0 && hlmRate s code != 0 && decide (hlmRate s code ≤ n) then
    bump pgHLM 0x1C4 1 { s with hlm := { s.hlm with
      supp := Tab.put s.hlm.supp code (min (Tab.getD s.hlm.supp 0 code + 1) 0xFFFF) } }
  else
    hlmAccept code inst payload { s with hlm := { s.hlm with win := Tab.put s.hlm.win code (n + 1) } }

/-- A number as one payload word (R784). -/
def pw (n : Nat) : W32 := BitVec.ofNat 32 n
/-- A number of 33 to 64 bits as two payload words, low word first (R784). -/
def pw2 (n : Nat) : List W32 := [pw n, pw (n / 2 ^ 32)]

/-! Event sources. -/

/-- The key of line `l` of page `p` (R649). -/
def srcShared (p l : Nat) : Nat := p * 16 + l
/-- The key of SIGNAL_n of core `c` (R648). -/
def srcPrivate (c n : Nat) : Nat := 0x100000 + c * 32 + n
/-- The key is a private source's. -/
def srcIsPrivate (k : Nat) : Bool := decide (0x100000 ≤ k)

/-- The state of a source. -/
def srcOf (s : State) (k : Nat) : Src := Tab.getD s.eqc.src {} k
/-- The state with a source replaced. -/
def srcPut (k : Nat) (x : Src) (s : State) : State :=
  { s with eqc := { s.eqc with src := Tab.setD s.eqc.src {} k x } }

/-- The core a source's records go to: the page's PG_EVROUTE.TARGET, or the source's own core (R648, R649, R660). -/
def srcCore (s : State) (k : Nat) : Nat :=
  if srcIsPrivate k then (k - 0x100000) / 32 else rdF s (k / 16) 0x050 4 0

/-- A ring's register word: +0x00 base, +0x08 RING_CFG, +0x0C RING_IDX (R663). -/
def ringReg (c off : Nat) : Nat := 0x200 + c * 0x20 + off

/-- The priority of a source's records (R649, R663). -/
def srcPrio (s : State) (k : Nat) : Nat :=
  if srcIsPrivate k then rdF s pgEQC (ringReg (srcCore s k) 0x08) 14 12 else rdF s (k / 16) 0x050 10 8

/-- The source is masked (R659). -/
def srcMasked (s : State) (k : Nat) : Bool :=
  if srcIsPrivate k then bit (rd s pgEQC (ringReg ((k - 0x100000) / 32) 0x18)) ((k - 0x100000) % 32)
  else (srcOf s k).mask

/-- INFO merges by OR for private sources and CQ_EVENT, else the latest stands (R649). -/
def srcOr (k : Nat) : Bool :=
  srcIsPrivate k || (k % 16 == 2 && (k / 4096 == 0x13 || k / 4096 == 0x14 || k / 4096 == 0x15))

/-- The merged INFO. -/
def mergeInfo (k : Nat) (old new : W32) : W32 := if srcOr k then old ||| new else new

/-- Entries of a ring: 2^LOG2_SIZE (R654). -/
def ringSize (s : State) (c : Nat) : Nat := 2 ^ rdF s pgEQC (ringReg c 0x08) 19 16
/-- The ring is enabled. -/
def ringEn (s : State) (c : Nat) : Bool := bit (rd s pgEQC (ringReg c 0x08)) 0
/-- RING_IDX.PROD and CONS. -/
def ringProd (s : State) (c : Nat) : Nat := rdF s pgEQC (ringReg c 0x0C) 31 16
def ringCons (s : State) (c : Nat) : Nat := rdF s pgEQC (ringReg c 0x0C) 15 0
/-- The ring holds at most 2^LOG2_SIZE − 1 records (R654). -/
def ringFull (s : State) (c : Nat) : Bool := (ringProd s c + 1) % ringSize s c == ringCons s c % ringSize s c

/-- The sources that wait PENDING for core `c`'s ring. -/
def ringWaiting (s : State) (c : Nat) : List Nat :=
  (s.eqc.src.filter fun e => decide (e.2.st = .pending) && srcCore s e.1 == c).map (·.1)

/-- A pending record that finds its ring full counts once in RING_FULL and writes 0x0402 (R658, R663). -/
def noteFull (k : Nat) (s : State) : State :=
  let x := srcOf s k
  let c := srcCore s k
  if x.st = .pending ∧ x.full = false ∧ ringEn s c ∧ ringFull s c then
    hallmark 0x0402 0 [pw c, pw (ringWaiting s c).length] (bump pgEQC 0x644 1 (srcPut k { x with full := true } s))
  else s

/-- A source forms a record: it becomes PENDING, in the order of first occurrence (R651, R652). -/
def srcForm (k : Nat) (x : Src) (s : State) : State :=
  noteFull k { srcPut k { x with st := .pending, order := s.eqc.order, full := false } s with
    eqc := { (srcPut k { x with st := .pending, order := s.eqc.order, full := false } s).eqc with
      order := s.eqc.order + 1 } }

/-- An occurrence at a source: discarded, latched, formed, merged or held (R649, R651, R659, R793). -/
def occur (k : Nat) (info : W32) (s : State) : State :=
  let x := srcOf s k
  if !alive s pgEQC then bump pgEQC 0x650 1 s
  else if !srcIsPrivate k && !bit (rd s (k / 16) 0x050) 16 then bump pgEQC 0x650 1 s
  else if srcMasked s k then
    if live s pgEQC 1 then
      bump pgEQC 0x648 1 (srcPut k { x with
        latched := true
        latCount := min (x.latCount + 1) 0xFFFF
        latInfo := if x.latched then mergeInfo k x.latInfo info else info
        latTime := if x.latched then x.latTime else usec s } s)
    else bump pgEQC 0x648 1 s
  else match x.st with
  | .idle => srcForm k { x with count := 1, info := info, time := usec s } s
  | .pending =>
    bump pgEQC 0x64C 1 (srcPut k { x with count := min (x.count + 1) 0xFFFF, info := mergeInfo k x.info info } s)
  | .active =>
    bump pgEQC 0x64C 1 (srcPut k { x with
      held := min (x.held + 1) 0xFFFF
      heldInfo := if x.held = 0 then info else mergeInfo k x.heldInfo info
      heldTime := if x.held = 0 then usec s else x.heldTime } s)

/-- A block raises the event on line `l` of its page (R649). -/
def event (p l : Nat) (info : W32) (s : State) : State := occur (srcShared p l) info s

end Sys2Proof.Machine
end

