-- ==== Sys2Proof/Machine/Rings.lean ====
section
/-! DEFINITION. What the rings of ASY, CRU and TIN share (R53 to R61, R783, R231, R238, R261): descriptors, buffers,
scheduling, completions. -/

namespace Sys2Proof.Machine

/-! Registers of ring `n` (R237). -/

def ringOff (n off : Nat) : Nat := 0x400 + n * 0x40 + off
/-- The page has rings; how many, and its first general lane. -/
def ringCount (p : Nat) : Nat := if p = pgASY then 16 else if p = pgCRU ∨ p = pgTIN then 8 else 0
def firstLane (p : Nat) : Nat := if p = pgASY then 16 else if p = pgCRU then 32 else 36
def laneCount (p : Nat) : Nat := if p = pgASY then 4 else 2
def rgEn (s : State) (p n : Nat) : Bool := bit (rd s p (ringOff n 0x10)) 0
def rgPrio (s : State) (p n : Nat) : Nat := rdF s p (ringOff n 0x10) 10 8
def rgSize (s : State) (p n : Nat) : Nat := 2 ^ rdF s p (ringOff n 0x10) 19 16
def rgTail (s : State) (p n : Nat) : Nat := rdF s p (ringOff n 0x14) 15 0
def rgHead (s : State) (p n : Nat) : Nat := rdF s p (ringOff n 0x18) 15 0
def rgCqHead (s : State) (p n : Nat) : Nat := rdF s p (ringOff n 0x1C) 15 0
def rgCqTail (s : State) (p n : Nat) : Nat := rdF s p (ringOff n 0x20) 15 0

/-- The key of a ring. -/
def rgKey (p n : Nat) : Nat := p * 256 + n
def rgOf (s : State) (p n : Nat) : Ring := Tab.getD s.eng.rings {} (rgKey p n)
def rgPut (p n : Nat) (r : Ring) (s : State) : State :=
  { s with eng := { s.eng with rings := Tab.setD s.eng.rings {} (rgKey p n) r } }

/-- The next number of the order of arrivals. -/
def engTick (s : State) : State := { s with eng := { s.eng with tick := s.eng.tick + 1 } }

/-- The tail the engine may read up to: while QUIESCE holds the page, what was posted before (R42). -/
def rgLimit (s : State) (p n : Nat) : Nat := (rgOf s p n).seen.getD (rgTail s p n) % rgSize s p n
/-- The engine may start a descriptor of the ring. -/
def posted (s : State) (p n : Nat) : Bool := rgEn s p n && rgHead s p n % rgSize s p n != rgLimit s p n
/-- The page starts work: in RUN, and in DRAIN what it had accepted; not once a quench has begun (R42, R234, R264). -/
def serving (s : State) (p : Nat) : Bool := (pgState s p == stRUN || pgState s p == stDRAIN) && !inQ s

/-! Descriptors (R54). -/

/-- The descriptor that 64 bytes spell. -/
def Dsc.ofBytes (b : List Byte) : Dsc where
  opcode := field b 0 1
  flags := field b 1 1
  ctx := field b 2 2
  keySlot := field b 4 2
  rsvd := field b 6 2
  tag := field b 8 8
  src := field b 0x10 8
  srcLen := field b 0x18 4
  dstLen := field b 0x1C 4
  dst := field b 0x20 8
  aux := field b 0x28 8
  auxLen := field b 0x30 4
  limit := field b 0x34 4
  param := field b 0x38 8

/-- The descriptor at an index of a submission ring. -/
def readDsc (s : State) (p n i : Nat) : Dsc :=
  Dsc.ofBytes (memRead s ((rd64 s p (ringOff n 0)).toNat + i * 64) 64)
/-- The next descriptor to start. -/
def headDsc (s : State) (p n : Nat) : Dsc := readDsc s p n (rgHead s p n % rgSize s p n)

def Dsc.first (d : Dsc) : Bool := d.flags.testBit 0
def Dsc.last (d : Dsc) : Bool := d.flags.testBit 1
def Dsc.event (d : Dsc) : Bool := d.flags.testBit 3
def Dsc.save (d : Dsc) : Bool := d.flags.testBit 4
def Dsc.load (d : Dsc) : Bool := d.flags.testBit 5
def Dsc.srcList (d : Dsc) : Bool := d.flags.testBit 6
def Dsc.dstList (d : Dsc) : Bool := d.flags.testBit 7
/-- A reserved field is not zero (R54, R55). -/
def Dsc.rsvdSet (d : Dsc) : Bool := d.rsvd != 0 || decide (4096 ≤ d.keySlot)

/-! Status bytes (R59). -/

abbrev stsOK : Nat := 0x00
abbrev stsOK_RAW : Nat := 0x01
abbrev stsPARTIAL : Nat := 0x02
abbrev stsBAD_INPUT : Nat := 0x10
abbrev stsLIMIT_EXCEEDED : Nat := 0x11
abbrev stsTAG_FAIL : Nat := 0x12
abbrev stsKEY_EXHAUSTED : Nat := 0x13
abbrev stsKEY_SLOT_EMPTY : Nat := 0x14
abbrev stsBUSY_PREEMPTED : Nat := 0x15
abbrev stsABORTED_DISABLE : Nat := 0x20
abbrev stsABORTED_RESET : Nat := 0x21
abbrev stsMEMORY_ERROR : Nat := 0x30
abbrev stsCHECK_FAIL : Nat := 0x31
abbrev stsINTERNAL : Nat := 0x3F

/-- CFLAGS (R56). -/
abbrev cfUNTRUSTED : Nat := 1
abbrev cfRAW : Nat := 2
abbrev cfCTX_SAVED : Nat := 4

/-! Buffers (R783). -/

/-- The populated DDR-5 channels: DDR_CH_0 up (R636). -/
def channels (s : State) : List Nat := (List.range (rdF s pgMEMD 0x100 3 0)).map (pgMEMD + ·)

/-- The pages that must serve for a region (R637, R641). -/
def regionPages (s : State) : Region → List Nat
  | .ddr => channels s
  | .hbm => [pgMEMH, pgMEMH + 1]
  | _ => []

/-- The controller page behind an address of DDR-5 or HBM (R620). -/
def memPage (s : State) (r : Region) (a : Nat) : Nat :=
  match r with
  | .hbm => pgMEMH + Config.hbmStack a % 2
  | _ => pgMEMD + Config.ddrChannel a % Nat.max 1 (channels s).length

/-- A controller serves: it is trained since chip reset and not in FAULT. While a trained one is out of RUN the SC holds accesses, which
then find the contents kept. -/
def ctrlServes (s : State) (p : Nat) : Bool := pgState s p != stFAULT && (alive s p || (Tab.find? s.msys.trained p).isSome)

/-- The region answers: the SC is not in FAULT, every controller of DDR-5 or of HBM serves (R623, R637). -/
def regionServes (s : State) (r : Region) : Bool := pgState s pgSC != stFAULT && (regionPages s r).all (ctrlServes s)

/-- Part of the span lies behind a channel or a stack that is lost: it returns poison (R643). -/
def spanLost (s : State) (r : Region) (a n : Nat) : Bool :=
  !s.msys.lost.isEmpty && (List.range ((a + n - 1) / 256 + 1 - a / 256)).any fun i => s.msys.lost.contains (memPage s r (a + 256 * i))

/-- The scratchpad serves an address: it lies below SP_WAYS × 8 MiB (R625). -/
def inScratch (s : State) (a : Nat) : Bool := decide ((a - 0x00E000000000) / 0x800000 < s.msys.spWay.length)

/-- Every byte of a span lies in memory that answers. -/
def inMemory (s : State) (a n : Nat) : Bool :=
  n == 0 ||
  match region s a, region s (a + n - 1) with
  | some .hbm, some .hbm => regionServes s .hbm
  | some .scratch, some .scratch => pgState s pgSC != stFAULT && inScratch s (a + n - 1)
  | some .ddr, some .ddr => regionServes s .ddr
  | _, _ => false

/-- Every byte of a span lies in memory, and none is poisoned or lost. -/
def bufOk (s : State) (a n : Nat) : Bool :=
  inMemory s a n && (n == 0 || !(s.msys.poison.any fun b => decide (a / 64 ≤ b ∧ b ≤ (a + n - 1) / 64)) &&
    !(region s a == some .hbm && spanLost s .hbm a n) && !(region s a == some .ddr && spanLost s .ddr a n))

/-- A buffer as its descriptor gives it: the spans, a list that breaks R783, or a list entry that cannot be read. -/
inductive Buf where
  | ok (spans : List (Nat × Nat))
  | bad
  | unreadable (entry : Nat)
deriving DecidableEq, Repr

/-- The entries of a list from `a` are read in order, until their lengths sum to `len`; 16 at most (R783). -/
def walkList (s : State) : Nat → Nat → Nat → Buf
  | _, _, 0 => .ok []
  | 0, _, _ + 1 => .bad
  | f + 1, a, len =>
    if !bufOk s a 16 then .unreadable a
    else
      let b := memRead s a 16
      let n := Nat.min (field b 8 4) len
      if field b 12 4 ≠ 0 then .bad
      else match walkList s f (a + 16) (len - n) with
        | .ok ps => .ok (if n = 0 then ps else (field b 0 8, n) :: ps)
        | x => x

/-- The buffer of `len` bytes at an address, or at the spans of the list there. -/
def bufAt (s : State) (isList : Bool) (addr len : Nat) : Buf :=
  if !isList then .ok (if len = 0 then [] else [(addr, len)])
  else if addr % 16 ≠ 0 then .bad
  else walkList s 16 addr len

def Buf.isBad (b : Buf) : Bool := b == .bad
/-- The spans; none where the buffer is not known. -/
def Buf.get : Buf → List (Nat × Nat)
  | .ok ps => ps
  | _ => []

/-- Every span can be read or written. -/
def spansOk (s : State) (ps : List (Nat × Nat)) : Bool := ps.all fun p => bufOk s p.1 p.2
/-- The list and every span of the buffer can be read or written. -/
def Buf.usable (s : State) : Buf → Bool
  | .ok ps => spansOk s ps
  | _ => false

/-- An access that finds nothing there completes with a bus error: outside the map it counts in MAP_MISS, past the scratchpad in SP_OOR with
hallmark 0x0503 (R619, R625), whose master the spec does not number. -/
def missAt (a n : Nat) (s : State) : State :=
  if n = 0 then s
  else if region s a = none ∨ region s (a + n - 1) = none then bump pgSC 0x154 1 s
  else if region s a = some .scratch ∧ !inScratch s (a + n - 1) then
    let s := (draw s).2
    hallmark 0x0503 0 ([Config.free32 (s.free - 1)] ++ pw2 a) (bump pgSC 0x150 1 s)
  else s

/-- The access of an engine that ends its descriptor with MEMORY_ERROR: the first of its buffers that cannot be reached. -/
def busFault (bs : List Buf) (s : State) : State :=
  match bs.find? fun b => !b.usable s with
  | some (.unreadable a) => missAt a 16 s
  | some (.ok ps) => match ps.find? fun p => !bufOk s p.1 p.2 with
    | some p => missAt p.1 p.2 s
    | none => s
  | _ => s

/-- The bytes of the spans. -/
def spansRead (s : State) (ps : List (Nat × Nat)) : List Byte := ps.flatMap fun p => memRead s p.1 p.2
/-- Store bytes over the spans, as far as the bytes reach. -/
def spansWrite : List (Nat × Nat) → List Byte → State → State
  | [], _, s => s
  | p :: ps, bs, s => spansWrite ps (bs.drop p.2) (memWrite p.1 (bs.take p.2) s)

/-- The source and the destination of a descriptor. -/
def Dsc.srcBuf (d : Dsc) (s : State) : Buf := bufAt s d.srcList d.src d.srcLen
def Dsc.dstBuf (d : Dsc) (s : State) : Buf := bufAt s d.dstList d.dst d.dstLen

/-- Output that R59 calls undefined (R60): the job may have written any bytes to its own destination, and to nothing else. -/
def undefOut (ps : List (Nat × Nat)) (s : State) : State :=
  spansWrite (ps.filter fun p => inMemory s p.1 p.2) (Config.freeBytes s.free (ps.map (·.2)).sum) (draw s).2

/-! Scheduling (R227, R261). -/

/-- The GEN_STAT bit that shows a lane out. -/
def laneOut (s : State) (p lane : Nat) : Bool :=
  if p = pgASY then bit (rd s p 0x100) (8 + (lane - 16))
  else if p = pgCRU then bit (rd s p 0x108) (8 + (lane - 32))
  else bit (rd s p 0x104) (4 + (lane - 36))

/-- The lane holds no work: no ring waits on it to write, no message holds it. -/
def laneIdle (s : State) (p lane : Nat) : Bool :=
  !(List.range (ringCount p)).any (fun n => (rgOf s p n).lane == some lane) &&
  !(p == pgASY && s.asy.opened.any fun e => e.2.lane == some lane)

def lanesOf (p : Nat) : List Nat := (List.range (laneCount p)).map (firstLane p + ·)
/-- Lanes that may take work. -/
def freeLanes (s : State) (p : Nat) : List Nat := (lanesOf p).filter fun l => laneIdle s p l && !laneOut s p l
/-- Every general lane is out. -/
def allOut (s : State) (p : Nat) : Bool := (lanesOf p).all fun l => laneOut s p l

/-- The ring waits for a lane: it has work, none of it finished and unwritten, and no lane. -/
def waiting (s : State) (p n : Nat) : Bool :=
  ((posted s p n || (p == pgASY && ((Tab.find? s.asy.opened n).bind (·.part)).isSome)) && (rgOf s p n).done.isEmpty &&
    (rgOf s p n).lane.isNone && !(p == pgASY && ((Tab.find? s.asy.opened n).bind (·.lane)).isSome))

/-- `a` goes before `b`: the higher priority, then the earlier place; of equal places the lower number (log entry 27). -/
def ringBefore (s : State) (p a b : Nat) : Bool :=
  decide (rgPrio s p b < rgPrio s p a) ||
  (rgPrio s p a == rgPrio s p b && decide ((rgOf s p a).place ≤ (rgOf s p b).place))

/-- A ring that waits for a lane joins the lane queue behind all others (R227). -/
def joinQueue (p : Nat) (s : State) (n : Nat) : State :=
  let x := rgOf s p n
  if waiting s p n && !x.queued then engTick (rgPut p n { x with queued := true, place := s.eng.tick } s) else s
/-- Every ring of an engine that has come to wait for a lane joins the queue, in ring order. -/
def joinQueues (p : Nat) (s : State) : State := (List.range (ringCount p)).foldl (joinQueue p) s
/-- A ring joins ahead of every other of its priority (R229). -/
def joinFront (p n : Nat) (s : State) : State :=
  let s := rgPut p n { rgOf s p n with queued := true, place := -(Int.ofNat s.eng.front) - 1 } s
  { s with eng := { s.eng with front := s.eng.front + 1 } }
/-- A ring that gets its lane leaves the queue. -/
def leaveQueue (p n : Nat) (s : State) : State := rgPut p n { rgOf s p n with queued := false } s

/-- The head of the lane queue (R227). -/
def nextRing (s : State) (p : Nat) : Option Nat :=
  ((List.range (ringCount p)).filter (waiting s p)).foldl (fun b n => match b with
    | none => some n
    | some m => if ringBefore s p m n then some m else some n) none

/-- The ring is at the head of the queue and the lane is free to take it. -/
def mayTake (s : State) (p n lane : Nat) : Bool := nextRing s p == some n && (freeLanes s p).contains lane

/-! Completions (R56 to R58, R231). -/

/-- The lane counts one more completion: its SEQ. The first completion carries 0 (DESIGN CHOICE, log entry 162). -/
def nextSeq (p lane : Nat) (s : State) : Nat × State :=
  let k := rgKey p lane
  let n := Tab.getD s.eng.seqs 0 k
  (n, { s with eng := { s.eng with seqs := Tab.put s.eng.seqs k ((n + 1) % 65536) } })

/-- SQ_HEAD moves past the descriptor that starts, which has been read for good (R53); its ring has its lane. -/
def advanceSq (p n : Nat) (s : State) : State :=
  leaveQueue p n (wrF p (ringOff n 0x18) 15 0 ((rgHead s p n + 1) % rgSize s p n) s)

/-- A descriptor has finished on a lane: its completion waits to be written. `r` lacks SEQ and LANE. -/
def finishDsc (p n lane : Nat) (r : Rec) (s : State) : State :=
  let q := nextSeq p lane s
  let x := rgOf q.2 p n
  rgPut p n { x with done := x.done ++ [{ r with seq := q.1, lane := lane }], lane := some lane, cur := none } q.2

/-- The 32 bytes of a record (R56). -/
def Rec.bytes (r : Rec) (phase : Nat) : List Byte :=
  le 8 r.tag ++ le 1 r.status ++ le 1 r.cflags ++ le 2 r.idx ++ le 4 r.consumed ++ le 4 r.produced ++ le 4 r.detail ++
  le 4 r.info ++ le 2 r.seq ++ le 1 r.lane ++ le 1 phase

/-- The completion ring has a free slot (R231). -/
def cqFree (s : State) (p n : Nat) : Bool := (rgCqTail s p n + 1) % rgSize s p n != rgCqHead s p n % rgSize s p n

/-- Write one record: VALID carries the phase of the pass (R57); FLAGS.EVENT raises CQ_EVENT. -/
def writeRec (p n : Nat) (r : Rec) (s : State) : State :=
  let x := rgOf s p n
  let t := rgCqTail s p n
  let s := memWrite ((rd64 s p (ringOff n 0x08)).toNat + t * 32) (r.bytes (b2n !x.phase0)) s
  let t' := (t + 1) % rgSize s p n
  let s := wrF p (ringOff n 0x20) 15 0 t' s
  let s := if t' = 0 then rgPut p n { x with phase0 := !x.phase0 } s else s
  if r.event then event p 2 (pw (2 ^ n)) s else s

/-- Write the waiting records while slots are free, and no quench has begun (R234, R264, R303); the lane is free when none is left. -/
def flushRecs (p n : Nat) : Nat → State → State
  | 0, s => s
  | f + 1, s => match (rgOf s p n).done with
    | [] => s
    | r :: rs =>
      if cqFree s p n && !inQ s then
        let s := writeRec p n r s
        flushRecs p n f (rgPut p n { rgOf s p n with done := rs, lane := if rs.isEmpty then none else (rgOf s p n).lane } s)
      else s

/-- The record of a descriptor that completes without running: which lane and SEQ it carries the manual does not say. -/
def abortRec (s : State) (status idx : Nat) (d : Dsc) (consumed : Nat) : Rec :=
  { tag := d.tag, status := status, idx := idx, consumed := consumed, seq := bits (Config.free32 s.free) 15 0
    lane := bits (Config.free32 s.free) 23 16, event := d.event }

/-- Complete the posted descriptors of a ring with a status, oldest first (R43, R45, R238); `f` bounds them. -/
def abortPosted (p n status : Nat) : Nat → State → State
  | 0, s => s
  | f + 1, s =>
    let i := rgHead s p n % rgSize s p n
    if i = rgTail s p n % rgSize s p n then s
    else
      let r := abortRec s status i (readDsc s p n i) 0
      let s := advanceSq p n (draw s).2
      abortPosted p n status f (rgPut p n { rgOf s p n with done := (rgOf s p n).done ++ [r] } s)

/-- A job that runs on a lane is cut short: its output is undefined, and its record carries that lane and its count (R56, R60). -/
def abortJob (p n lane status idx consumed detail : Nat) (out : List (Nat × Nat)) (d : Dsc) (s : State) : State :=
  finishDsc p n lane { tag := d.tag, status := status, idx := idx, consumed := consumed, detail := detail, event := d.event }
    (undefOut out s)

/-- The destination that an Assay descriptor writes before it completes: none but a digest at LAST (R212). -/
def asyOut (d : Dsc) : List (Nat × Nat) :=
  if (d.opcode == 1 || d.opcode == 2) && d.last && d.dstLen != 0 then [(d.dst, d.dstLen)] else []

/-- The descriptor under way on an open message completes with a status (R46): on its lane; where it was preempted, which lane and SEQ
its record carries the manual does not say. -/
def abortPart (n status : Nat) (s : State) : State :=
  match Tab.find? s.asy.opened n with
  | none => s
  | some o =>
    match o.part with
    | none => s
    | some (d, i, c) =>
      match o.lane with
      | some l => abortJob pgASY n l status i c (o.msg.count % 2 ^ 32) (asyOut d) d s
      | none =>
        let r := abortRec s status i d c
        rgPut pgASY n { rgOf s pgASY n with done := (rgOf s pgASY n).done ++ [r] } (draw s).2

/-- The descriptor that waits on a unit completes with a status. -/
def abortCur (p n status : Nat) (s : State) : State :=
  match (rgOf s p n).cur, (rgOf s p n).lane with
  | some (d, i), some l => abortJob p n l status i 0 0 (d.dstBuf s).get d s
  | _, _ => s

/-- A ring whose EN was cleared completes its unstarted descriptors once nothing of it runs (R238). -/
def settleOff (p n : Nat) (s : State) : State :=
  let x := rgOf s p n
  if x.closing && x.lane.isNone && !(p == pgASY && ((Tab.find? s.asy.opened n).bind (·.part)).isSome) then
    let s := abortPosted p n stsABORTED_DISABLE (rgSize s p n) (rgPut p n { x with closing := false } s)
    flushRecs p n (rgOf s p n).done.length s
  else s

/-- Everything a ring holds completes with a status, a ring that was closing behind a running descriptor included; its message is gone
(R43, R45, R46). -/
def abortRing (p status : Nat) (s : State) (n : Nat) : State :=
  let s := abortCur p n status (if p = pgASY then abortPart n status s else s)
  let s := if p = pgASY then { s with asy := { s.asy with opened := Tab.erase s.asy.opened n } } else s
  let s := if rgEn s p n || (rgOf s p n).closing then abortPosted p n status (rgSize s p n) s else s
  flushRecs p n (rgOf s p n).done.length
    (rgPut p n { rgOf s p n with lane := none, seen := none, closing := false, queued := false } s)

/-- Every ring of an engine page. -/
def abortRings (p status : Nat) (s : State) : State := (List.range (ringCount p)).foldl (abortRing p status) s

end Sys2Proof.Machine
end

