-- ==== Sys2Proof/Machine/Slots.lean ====
section
/-! DEFINITION. The slots of the write cache (R308 to R312): where they lie, their headers, their states. -/

namespace Sys2Proof.Machine

/-! Slots (R308 to R310). -/

/-- Slots of an area: the grains of a quench image (R308). -/
def imageSlots (s : State) : Nat := if s.a0 then 393216 else 524288
/-- Own slot and mirror slot addresses (R308). -/
def ownAddr (s : State) (i : Nat) : Nat := (rd64 s pgWC 0x108).toNat + i * 0x2080
def mirAddr (s : State) (i : Nat) : Nat := (rd64 s pgWC 0x110).toNat + i * 0x2080

/-- The value of a slot state (R310). -/
def SlotSt2.code : SlotSt2 → Nat
  | .free => 0 | .landing => 1 | .held => 2 | .ready => 3 | .forging => 4 | .superseded => 5
/-- The slot state of a value. -/
def SlotSt2.ofCode (n : Nat) : SlotSt2 :=
  match n with | 1 => .landing | 2 => .held | 3 => .ready | 4 => .forging | 5 => .superseded | _ => .free

/-- SFLAGS (R310). -/
def Slot.flags (x : Slot) : Nat :=
  b2n x.lo + 2 * b2n x.hi + 4 * b2n x.inq + 8 * b2n x.mirrored + 16 * b2n x.adopted + 32 * b2n x.lost

/-- The header's bytes 0x00 to 0x3B (R310). -/
def Slot.headerBody (x : Slot) : List Byte :=
  le 1 x.st.code ++ le 1 x.flags ++ le 2 x.ns ++ le 1 x.pif ++ le 1 x.domain ++ le 2 x.ngrains ++ le 8 x.grain ++
  le 6 x.epoch ++ le 2 x.gidx ++ le 8 x.wseq ++ le 4 x.dcrc0.toNat ++ le 4 x.dcrc1.toNat ++ le 4 x.pcrc.toNat ++
  le 4 x.crc.toNat ++ le 4 x.asrc ++ List.replicate 8 0#8

/-- The 64 bytes of a slot header, HCHK last (R310). -/
def Slot.header (x : Slot) : List Byte := x.headerBody ++ le 4 (crc32c x.headerBody).toNat

/-- The header's HCHK is right (R312). -/
def headerOk (h : List Byte) : Bool := field h 0x3C 4 == (crc32c (slice h 0 0x3C)).toNat

/-- The slot a header spells. -/
def Slot.ofHeader (h : List Byte) : Slot :=
  let f := field h 1 1
  { st := SlotSt2.ofCode (field h 0 1), lo := f.testBit 0, hi := f.testBit 1, inq := f.testBit 2
    mirrored := f.testBit 3, adopted := f.testBit 4, lost := f.testBit 5, ns := field h 2 2 % 2 ^ 14, pif := field h 4 1
    domain := field h 5 1 % 64, ngrains := field h 6 2, grain := field h 8 8 % 2 ^ 35, epoch := field h 0x10 6
    gidx := field h 0x16 2, wseq := field h 0x18 8, dcrc0 := BitVec.ofNat 32 (field h 0x20 4)
    dcrc1 := BitVec.ofNat 32 (field h 0x24 4), pcrc := BitVec.ofNat 32 (field h 0x28 4)
    crc := BitVec.ofNat 32 (field h 0x2C 4), asrc := field h 0x30 4, whole := true }

/-- An own slot and a mirror slot. -/
def slotOf (s : State) (i : Nat) : Slot := Tab.getD s.wc.slots {} i
def mirOf (s : State) (i : Nat) : Slot := Tab.getD s.wc.mirror {} i
/-- Change an own slot: the state table, then the header in DDR-5 (R310). -/
def slotPut (i : Nat) (x : Slot) (s : State) : State :=
  memWrite (ownAddr s i + 0x2040) x.header { s with wc := { s.wc with slots := Tab.setD s.wc.slots {} i x } }
/-- Change a mirror slot. -/
def mirPut (i : Nat) (x : Slot) (s : State) : State :=
  memWrite (mirAddr s i + 0x2040) x.header { s with wc := { s.wc with mirror := Tab.setD s.wc.mirror {} i x } }

/-- The data and the PI area of the slot at an address. -/
def slotData (s : State) (a : Nat) : List Byte := memRead s a 8192
def slotPiArea (s : State) (a : Nat) : List Byte := memRead s (a + 0x2000) 32
/-- Bytes of PI of a block, from PIF. -/
def pifBytes (pif : Nat) : Nat := match pif % 4 with | 1 => 8 | 2 => 16 | _ => 0
/-- The PI bytes of a grain as landed: of both blocks. -/
def slotPi (s : State) (a pif : Nat) : List Byte := memRead s (a + 0x2000) (2 * pifBytes pif)

/-- The slot is dirty: not FREE (R322). -/
def Slot.dirty (x : Slot) : Bool := decide (x.st ≠ .free)
/-- DIRTY (R322). -/
def dirty (s : State) : Nat := (s.wc.slots.filter fun e => e.2.dirty).length
/-- The own slots of a grain, with their indices. -/
def slotsOf (s : State) (ns g : Nat) : List (Nat × Slot) :=
  s.wc.slots.filter fun e => e.2.dirty && e.2.ns == ns && e.2.grain == g
/-- The own slots of a write. -/
def writeSlots (s : State) (wseq : Nat) : List (Nat × Slot) :=
  s.wc.slots.filter fun e => e.2.dirty && e.2.wseq == wseq

/-- No grain of a write is still LANDING or HELD: WC has marked them all (R131, R133). -/
def writeSettled (s : State) (wseq : Nat) : Bool :=
  (writeSlots s wseq).all fun e => decide (e.2.st ≠ .landing ∧ e.2.st ≠ .held)
/-- A READY copy of a later write stands over a slot, and that write may still leave no trace (R133). -/
def coverOpen (s : State) (x : Slot) : Bool :=
  (slotsOf s x.ns x.grain).any fun e => decide (e.2.st = .ready ∧ x.wseq < e.2.wseq) && !writeSettled s e.2.wseq

/-- The entry of the greatest WSEQ. -/
def newest (xs : List (Nat × Slot)) : Option (Nat × Slot) :=
  xs.foldl (fun b e => match b with
    | none => some e
    | some d => if d.2.wseq < e.2.wseq then some e else some d) none

end Sys2Proof.Machine
end

