-- ==== Sys2Proof/Machine/Window.lean ====
section
/-! DEFINITION. The forges' windows, Assay's filter and index, and the return of grains to WC
(spec/05_forges.md): what a forge's fault or disable needs. -/

namespace Sys2Proof.Machine

/-! Windows. -/

def fwinOf (s : State) (f : Nat) : List FGrain := Tab.getD s.frg.win [] f
def fwinPut (f : Nat) (w : List FGrain) (s : State) : State :=
  { s with frg := { s.frg with win := Tab.setD s.frg.win [] f w } }
/-- A grain of a window, by SEQ. -/
def grainFind (s : State) (f seq : Nat) : Option FGrain := (fwinOf s f).find? fun g => g.h.seq == seq
/-- Replace a grain of a window. -/
def grainPut (f : Nat) (g : FGrain) (s : State) : State :=
  fwinPut f ((fwinOf s f).map fun x => if x.h.seq = g.h.seq then g else x) s
/-- A grain leaves its window. -/
def grainDrop (f seq : Nat) (s : State) : State := fwinPut f ((fwinOf s f).filter fun x => x.h.seq != seq) s

/-- Speculating: sealing or sealed without an index answer (R183). -/
def FGrain.spec (g : FGrain) : Bool :=
  g.sealing != .off && (match g.look with | .off | .miss | .late => false | _ => true)

/-- The header of a hand-in: the first 256-byte entry of the FRG_n to ING queue (R191). -/
def HandIn.header (h : HandIn) : List Byte :=
  le 1 h.kind ++ le 1 h.forge ++ le 2 h.ns ++ le 2 h.len16 ++ zeros 2 ++ le 8 h.grain ++ le 6 h.epoch ++ zeros 2 ++ le 8 h.gloc.toNat ++
  zeros 224
/-- The entries of a body, 256 bytes each, the last padded with zeros. -/
def bodyEntries : Nat → List Byte → List (List Byte)
  | 0, _ => []
  | n + 1, b => (b.take 256 ++ zeros (256 - (b.take 256).length)) :: bodyEntries n (b.drop 256)
/-- What a hand-in puts on the queue (R191). -/
def HandIn.entries (h : HandIn) : List (List Byte) :=
  h.header :: (if h.kind = 1 then bodyEntries ((h.len16 * 16 + 255) / 256) h.body else [])
/-- Entries a forge has to hand in: those past the queue's depth of 32 wait for a credit (R49, R201). -/
def handEntries (s : State) (f : Nat) : Nat := ((Tab.getD s.frg.outs [] f).map fun h => h.entries.length).foldl (· + ·) 0

/-- FRG_STAT's counts and waits follow the window and the hand-ins (R201). -/
def frgStat (f : Nat) (s : State) : State :=
  let w := fwinOf s f
  let p := pgFRG + f
  let v := rd s p 0x104
  let v := putBits v 22 16 w.length
  let v := putBits v 14 8 (w.filter (·.spec)).length
  let v := putBits v 3 3 (b2n (w.any fun g => g.sealing == .keyWait))
  let v := putBits v 2 2 (b2n (w.any (·.refetch)))
  wr p 0x104 (putBits v 1 1 (b2n ((w.any fun g => g.sealing == .billet) || decide (32 < handEntries s f)))) s

/-! The filter (R172, R173). -/

def fltSets (s : State) : Nat := if s.a0 then 8192 else 16384
/-- A byte of a fingerprint. -/
def fpByte (fp : List Byte) (i : Nat) : Nat := (fp.getD i 0).toNat
/-- The set of a fingerprint. -/
def fltSet (s : State) (fp : List Byte) : Nat := (fpByte fp 0 + 256 * fpByte fp 1) % fltSets s
/-- FP_TAG. -/
def fltTag (fp : List Byte) : Nat := field fp 8 8
/-- The valid ways of a set: (way, entry). -/
def fltWays (s : State) (set : Nat) : List (Nat × FltEnt) :=
  (List.range 16).filterMap fun w => (Tab.find? s.frg.flt (set * 16 + w)).map fun e => (w, e)
/-- The way that matches a grain. -/
def fltFind (s : State) (fp : List Byte) (dom pisz : Nat) : Option (Nat × FltEnt) :=
  (fltWays s (fltSet s fp)).find? fun e => e.2.tag == fltTag fp && e.2.domain == dom && e.2.pisz == pisz
/-- Replace the filter; FLT_STAT.VALID follows. -/
def fltPut (t : Tab FltEnt) (s : State) : State :=
  wrF pgFRG 0x214 18 0 t.length { s with frg := { s.frg with flt := t } }
/-- Drop the entry that matches a grain. -/
def fltDrop (fp : List Byte) (dom pisz : Nat) (s : State) : State :=
  match fltFind s fp dom pisz with
  | none => s
  | some (w, _) => fltPut (Tab.erase s.frg.flt (fltSet s fp * 16 + w)) s
/-- A way takes an entry with AGE 0; the other valid ways of the set age. -/
def fltWrite (set way : Nat) (e : FltEnt) (s : State) : State :=
  let t := (fltWays s set).foldl (fun (t : Tab FltEnt) x =>
    if x.1 ≠ way ∧ x.2.age < 3 then Tab.put t (set * 16 + x.1) { x.2 with age := x.2.age + 1 } else t) s.frg.flt
  fltPut (Tab.put t (set * 16 + way) { e with age := 0 }) s
/-- Fill an entry, or refresh the one that matches: an invalid way first, else the greatest AGE, the lowest way on a tie. -/
def fltFill (fp : List Byte) (dom pisz : Nat) (s : State) : State :=
  let set := fltSet s fp
  let e : FltEnt := ⟨fltTag fp, dom, pisz, 0⟩
  match fltFind s fp dom pisz with
  | some (w, _) => fltWrite set w e s
  | none =>
    match (List.range 16).find? fun w => (Tab.find? s.frg.flt (set * 16 + w)).isNone with
    | some w => fltWrite set w e s
    | none =>
      let w := (fltWays s set).foldl (fun (b : Nat × Nat) x => if b.2 < x.2.age then (x.1, x.2.age) else b) (0, 0)
      fltWrite set (if w.2 = 0 then 0 else w.1) e s

/-! The index (R174 to R181). -/

/-- The two candidate pages of a fingerprint (R174). -/
def idxPages (s : State) (fp : List Byte) : Nat × Nat :=
  let n := 2 ^ rdF s pgFRG 0x200 13 8
  let a := field fp 2 4 % n
  let b := field fp 6 4 % n
  (a, if a = b then a ^^^ 1 else b)

/-- Bytes 0x00 to 0x37 of an index entry (R174). -/
def IdxEnt.body (e : IdxEnt) : List Byte :=
  (e.fp.take 32 ++ zeros (32 - e.fp.length)) ++ le 8 (glocBody e.gloc).toNat ++ le 6 e.cast ++ le 1 (e.domain % 64) ++
  le 1 (1 + 2 * b2n e.pending + 4 * b2n e.moving + 8 * (e.pisz % 4)) ++ le 2 e.len16 ++ zeros 6
/-- The 64 bytes of an entry, closed by CHK. -/
def IdxEnt.bytes (e : IdxEnt) : List Byte := e.body ++ le 8 e.chk.toNat
/-- An entry with its CHK formed. -/
def IdxEnt.sealed (e : IdxEnt) : IdxEnt := { e with chk := crc64 e.body }
/-- The entry's CHK verifies (R175). -/
def IdxEnt.chkOk (e : IdxEnt) : Bool := e.chk == crc64 e.body

/-- A page as its checkpointed copy gives it after a reset (R789): no PENDING entry, no MOVING mark (R438). -/
def idxLoaded (s : State) (p : Nat) : List IdxEnt :=
  ((Tab.getD s.frg.idxCkpt [] p).filter fun e => !e.pending).map fun e => if e.moving then { e with moving := false }.sealed else e
/-- The entries of a page: since chip reset, else of its checkpointed copy (R789). -/
def idxPage (s : State) (p : Nat) : List IdxEnt := (Tab.find? s.frg.idx p).getD (idxLoaded s p)
/-- Replace a page; IDX_ENTRIES follows. -/
def idxPut (p : Nat) (es : List IdxEnt) (s : State) : State :=
  wr64 pgFRG 0x230 (rd64 s pgFRG 0x230 + BitVec.ofNat 64 es.length - BitVec.ofNat 64 ((Tab.find? s.frg.idx p).getD []).length)
    { s with frg := { s.frg with idx := Tab.put s.frg.idx p es } }
/-- A page is read from its checkpointed copy when it is first needed (R789). -/
def idxLoad (p : Nat) (s : State) : State :=
  if (Tab.find? s.frg.idx p).isSome || (Tab.find? s.frg.idxCkpt p).isNone then s else idxPut p (idxLoaded s p) s

/-- The 4 KiB of a page: the header, 63 entries, those in use first (R174). The CRC-64 is taken with its own field as 0. -/
def idxPageBytes (es : List IdxEnt) (gen p : Nat) : List Byte :=
  let page := fun (crc : W64) =>
    le 4 p ++ le 1 es.length ++ zeros 3 ++ le 8 gen ++ zeros 40 ++ le 8 crc.toNat ++
    es.flatMap IdxEnt.bytes ++ zeros (64 * (63 - es.length))
  page (crc64 (page 0))
/-- The entries of a fingerprint's pages that satisfy a test: (page, entry). -/
def idxFind (s : State) (fp : List Byte) (q : IdxEnt → Bool) : Option (Nat × IdxEnt) :=
  let (a, b) := idxPages s fp
  match (idxPage s a).find? q with
  | some e => some (a, e)
  | none => ((idxPage s b).find? q).map fun e => (b, e)
/-- Remove an entry, and its filter entry with it (R173). -/
def idxDrop (p : Nat) (e : IdxEnt) (s : State) : State := fltDrop e.fp e.domain e.pisz (idxPut p ((idxPage s p).erase e) s)
/-- Change an entry. -/
def idxSet (p : Nat) (old new : IdxEnt) (s : State) : State :=
  idxPut p ((idxPage s p).map fun e => if e = old then new.sealed else e) s

/-- The entry of a window grain is its own PENDING one. -/
def ownsEnt (f : Nat) (g : FGrain) (e : IdxEnt) : Bool := e.pending && e.owner == f * 256 + g.h.seq && e.fp == g.fp
/-- A PENDING entry has been removed: the lookups that wait on it are to answer a miss (R179). -/
def pendingGone (e : IdxEnt) (s : State) : State :=
  (List.range 16).foldl (fun s f =>
    fwinPut f ((fwinOf s f).map fun g =>
      if g.look = .pend ∧ g.fp = e.fp ∧ g.h.domain = e.domain ∧ g.h.pif % 4 = e.pisz then { g with look := .gone } else g) s) s
/-- Remove the PENDING entry of a grain; Assay in FAULT cannot (R178, R179). -/
def dropPending (f : Nat) (g : FGrain) (s : State) : State :=
  if !g.inserted || pgState s pgASY = stFAULT then s
  else match idxFind s g.fp (ownsEnt f g) with
    | none => s
    | some (p, e) => pendingGone e (idxDrop p e s)

/-- DRP_STAT's counts and GATED follow the requests (R482, R486). -/
def drpStat (n : Nat) (s : State) : State :=
  let rs := s.drp.reqs.filter fun r => r.drp == n
  let v := putBits (rd s (pgDRP + n) 0x104) 22 16 rs.length
  let v := putBits v 1 1 (b2n (s.pwr.asleep.contains (pgDRP + n)))
  wr (pgDRP + n) 0x104 (putBits v 14 8 (rs.filter (·.recon.isSome)).length) s

/-- The verify read of a window place is given up: its request and what has arrived for it (R194). -/
def dropVerify (f seq : Nat) (s : State) : State :=
  drpStat f { s with drp := { s.drp with
    reqs := s.drp.reqs.filter fun r => !(r.drp == f && r.kind == 5 && r.a == f && r.b == seq)
    answers := Tab.erase s.drp.answers (f * 256 + seq) } }

/-! Returning grains (R197). -/

/-- The index of the own slot at an address. -/
def slotAt (s : State) (a : Nat) : Nat := (a - (rd64 s pgWC 0x108).toNat) / 0x2080

/-- A reservation is abandoned: its units are dead, and ING waits for no hand-in of them. -/
def abandonUnits (f epoch : Nat) (loc : W64) (len16 : Nat) (s : State) : State :=
  let h : HandIn := { kind := 5, forge := f, epoch := epoch, gloc := loc, len16 := len16 }
  let cs := s.ing.cast.map fun c => if c.ingot = glocIngot loc then { c with got := c.got ++ [h] } else c
  { s with ing := { s.ing with cast := cs } }

/-- The length of a grain's stored body (R190). -/
def FGrain.len16 (g : FGrain) : Nat := (g.payload.length + 15) / 16 + (g.pi.length + 15) / 16 + 1

/-- One grain goes back to WC: its slot is READY again, its reservation and its PENDING entry are gone. -/
def returnGrain (f : Nat) (g : FGrain) (s : State) : State :=
  let s := dropVerify f g.h.seq (dropPending f g s)
  let s := match g.gloc with | some a => abandonUnits f g.h.epoch a g.len16 s | none => s
  let i := slotAt s g.h.slot
  if (slotOf s i).st = .forging then slotPut i { slotOf s i with st := .ready, returned := true } s else s

/-- Causes of 0x1105, by the status the grains are returned with. -/
def returnCause (status : Nat) : Nat :=
  if status = stsABORTED_DISABLE then 1 else if status = stsABORTED_RESET then 2
  else if status = stsMEMORY_ERROR then 4 else 3

/-- The window of a forge goes back to WC (R197): its unit gives up its requests, RETURNED, hallmark 0x1105. -/
def returnWindow (f status : Nat) (s : State) : State :=
  let w := fwinOf s f
  let s := { s with tin := { s.tin with
      reqs := s.tin.reqs.filter fun r => r.2.1 != f
      grants := Tab.erase s.tin.grants f } }
  let s := frgStat f (fwinPut f [] (w.foldl (fun s g => returnGrain f g s) s))
  if w.isEmpty then s
  else hallmark 0x1105 f [pw (returnCause status), pw w.length] (bump (pgFRG + f) 0x15C w.length s)

/-! Returning read requests (R483). -/

/-- The requests a drawplate holds go back to their requesters: RETURNED. -/
def returnReads (n : Nat) (s : State) : State :=
  let k := (s.drp.reqs.filter fun r => r.drp == n).length
  let s := { ({ s with drp := { s.drp with reqs := s.drp.reqs.filter fun r => r.drp != n } } : State) with tin := { s.tin with
      reqs := s.tin.reqs.filter fun r => r.2.1 != 16 + n
      grants := Tab.erase s.tin.grants (16 + n) } }
  wrF (pgDRP + n) 0x104 22 16 0 (wrF (pgDRP + n) 0x104 14 8 0 (if k = 0 then s else bump (pgDRP + n) 0x15C k s))

end Sys2Proof.Machine
end

