-- ==== Sys2Proof/Machine/Abort.lean ====
section
/-! DEFINITION. What becomes of a page's work when the page is disabled, reset or faulted (R43, R45, R46): each
block's own items, completed with the given status. -/

namespace Sys2Proof.Machine

/-- The requests of TIN's general units are gone with their descriptors. -/
def dropGeneral (s : State) : State :=
  { s with tin := { s.tin with
      reqs := s.tin.reqs.filter fun r => decide (r.2.1 < 36)
      grants := s.tin.grants.filter fun g => decide (g.1 < 36) } }

/-- Complete every item in flight on a page with a status byte. -/
def abortPage (p status : Nat) (s : State) : State :=
  match clsOf p with
  | 0x11 => returnWindow (instOf p) status s
  | 0x12 => returnReads (instOf p) s
  | 0x13 | 0x14 => abortRings p status s
  | 0x15 => dropGeneral (abortRings p status s)
  | _ => s

end Sys2Proof.Machine
end

