-- ==== Sys2Proof/Machine/Fault.lean ====
section
/-! DEFINITION. Recording a fault cause on a page, and entering FAULT (R36, R37, R46, R47). -/

namespace Sys2Proof.Machine

/-- Causes common to every page (R37). -/
abbrev cFEAT_REFUSED : Nat := 0x01
abbrev cFEAT_LATE : Nat := 0x02
abbrev cLOCKED_WRITE : Nat := 0x03
abbrev cRSVD_WRITE : Nat := 0x04
abbrev cBAD_ACCESS : Nat := 0x05
abbrev cCLK_STOPPED : Nat := 0x06
abbrev cCTRL_CONFLICT : Nat := 0x07
abbrev cINTERNAL_PARITY : Nat := 0x40
abbrev cMEMORY_UNCORR : Nat := 0x41
abbrev cCREDIT_ERROR : Nat := 0x42
abbrev cCROSSING_BROKEN : Nat := 0x43

/-- Codes 0x40 and above are fatal (R37). -/
def isFatal (cause : Nat) : Bool := decide (0x40 ≤ cause)

/-- PG_FAULT after a further cause (R36): the first cause stands; a fatal one replaces a non-fatal one; any other
sets MORE. -/
def faultWord (old : W32) (cause off : Nat) : W32 :=
  if bits old 7 0 = 0 then BitVec.ofNat 32 (off * 256 + cause)
  else if isFatal cause && !isFatal (bits old 7 0) then BitVec.ofNat 32 (2 ^ 31 + off * 256 + cause)
  else putBits old 31 31 1

/-- The page moves to STATE `st`. FEAT_LIVE reads 0 in OFF and START, and READY falls in OFF (R38, R40). -/
def setState (p st : Nat) (s : State) : State :=
  let s := wrF p 0x044 2 0 st s
  let s := if st = stOFF ∨ st = stSTART then
      wr p 0x034 0 (wr p 0x030 0 (wr p 0x02C 0 (wr p 0x028 0 s))) else s
  if st = stOFF then wrF p 0x044 5 5 0 s else s

/-- Entry of one page into FAULT: the state changes, work in flight completes with INTERNAL, or MEMORY_ERROR for
MEMORY_UNCORR (R46); the FAULT event is raised and the class's 0xF0 hallmark written (R47); EQC's own fault raises no record
and writes 0x0401 (R661). -/
def faultPage (p cause : Nat) (s : State) : State :=
  if pgState s p = stFAULT then s else
  let s := abortPage p (if cause = cMEMORY_UNCORR then stsMEMORY_ERROR else stsINTERNAL) (setState p stFAULT s)
  let s := if p = pgEQC then hallmark 0x0401 0 [pw cause] s else event p 0 (rd s p 0x048) s
  hallmark (clsOf p * 256 + 0xF0) (instOf p) [rd s p 0x048, rd s p 0x044] s

/-- The cause is recorded in PG_FAULT and counted (R36). -/
def noteFault (p cause off : Nat) (s : State) : State :=
  bump p 0x04C 1 (wr p 0x048 (faultWord (rd s p 0x048) cause off) s)

/-- The pages that record UNIT_FAULT when an engine page enters FAULT, with the code (R236, R266, R305). -/
def unitFaults (p : Nat) : List (Nat × Nat) :=
  let forges := (List.range 16).map fun n => (pgFRG + n, 0x82)
  let draws := (List.range 16).map fun n => (pgDRP + n, 0x81)
  if p = pgASY then forges else if p = pgCRU ∨ p = pgTIN then forges ++ draws else []

/-- Entry into FAULT, with the UNIT_FAULTs that follow from it. -/
def enterFault (p cause : Nat) (s : State) : State :=
  if pgState s p = stFAULT then s
  else (unitFaults p).foldl (fun s q => faultPage q.1 q.2 (noteFault q.1 q.2 0 s)) (faultPage p cause s)

/-- Record a fault cause on a page, with the offset of the access that caused it (R36). -/
def recordFault (p cause off : Nat) (s : State) : State :=
  let s := noteFault p cause off s
  if isFatal cause then enterFault p cause s else s

/-- Record CTRL_CONFLICT for an ignored write. -/
def conflict (p off : Nat) (s : State) : State := recordFault p cCTRL_CONFLICT off s

end Sys2Proof.Machine
end

