-- ==== Sys2Proof/Machine/CsrCore.lean ====
section
/-! DEFINITION. What stands between a master and a register: the clock behind it (R31, R690, R698), and how a written word meets the
register's fields: access types, ranges, reserved bits, locks (R28, R34, R35 and spec/00_scope.md). -/

namespace Sys2Proof.Machine

/-! Clock domains (R688). -/

abbrev dmCORE : Nat := 0
abbrev dmFORGE : Nat := 1
abbrev dmCTL : Nat := 2
abbrev dmDDR : Nat := 3
abbrev dmHBM : Nat := 4
abbrev dmQST : Nat := 5
abbrev dmWDL : Nat := 6
abbrev dmAON : Nat := 7
abbrev dmDBG : Nat := 8

/-! Pages by class. -/

/-- Every page. -/
def allPages : List Nat := classes.flatMap fun c => (List.range c.instances).map (c.cls * 256 + ·)
/-- The pages of a class. -/
def pagesOf (cls : Nat) : List Nat := allPages.filter fun p => clsOf p == cls

/-! Their clocks. -/

/-- The LANE clock of an octet runs (CLK.LANE_STAT). -/
def laneRuns (s : State) (n : Nat) : Bool := (rd64 s pgCLK 0x108).toNat.testBit n

/-- An octet sends its test pattern, and carries no traffic (R779, R780). -/
def patterned (s : State) (n : Nat) : Bool := live s (pgSRD + n) 1 && bit (rd s (pgSRD + n) 0x110) 4

/-- The LANE domain of an octet, numbered after those of DOM_STAT. -/
def dmLANE (n : Nat) : Nat := 16 + n
/-- The domain's clock runs (CLK.DOM_STAT, LANE_STAT). -/
def domRuns (s : State) (d : Nat) : Bool := if 16 ≤ d then laneRuns s (d - 16) else bit (rd s pgCLK 0x100) d

/-- The domain of a page's block registers; an SRD page lies in the LANE domain of its octet (R690). -/
def pageDomain (p : Nat) : Nat :=
  match clsOf p with
  | 0x11 | 0x12 | 0x13 | 0x14 | 0x15 | 0x17 => dmFORGE
  | 0x06 => dmDDR
  | 0x07 => dmHBM
  | 0x08 => dmQST
  | 0x22 => dmWDL
  | 0x02 => dmAON
  | 0x24 => dmLANE (instOf p)
  | _ => dmCORE

/-- The clock behind an offset of a page is stopped: the header lies in CORE, except on SRD pages (R690, R698). The header of an SRD
page that is OFF or in START answers although its octet's PLL has not locked (DEDUCED: the write that enables the octet must reach
it). -/
def clockStopped (s : State) (p off : Nat) : Bool :=
  if clsOf p = 0x24 then
    !laneRuns s (instOf p) && !(decide (off < 0x100) && (pgState s p == stOFF || pgState s p == stSTART))
  else decide (0x100 ≤ off) && !domRuns s (pageDomain p)

/-- An access into a stopped domain times out (R31, R698): CLK_STOPPED on the page, or on CLK where the header cannot be reached;
STOP_TIMEOUTS, hallmark 0x0304, and the bus error. -/
def stopTimeout (master p off : Nat) (s : State) : State :=
  let s := recordFault (if clsOf p = 0x24 then pgCLK else p) cCLK_STOPPED off s
  emit (.busError master) (hallmark 0x0304 0 [pw p, pw off, pw master] (bump pgCLK 0x14C 1 s))

/-- A row that is a master's write of one register acts where the page is there and the clock behind the register runs (R23, R31,
R698). -/
def atRegister (m p off : Nat) (act : State → State) (s : State) : State :=
  if !pageExists p then s else if clockStopped s p off then stopTimeout m p off s else act s

/-! The fields of a written word. -/

/-- A written field value, clamped to the field's stated range. -/
def Field.clamp (f : Field) (x : Nat) : Nat := Nat.max f.min (Nat.min f.max x)

/-- What a field becomes when `new` is written over `old`. -/
def Field.apply (f : Field) (old new : W32) : W32 :=
  let o := bits old f.hi f.lo
  let n := bits new f.hi f.lo
  match f.acc with
  | .ro | .rc | .wo => old
  | .rw => putBits old f.hi f.lo (f.clamp n)
  | .w1s => putBits old f.hi f.lo (o ||| n)
  | .w1c => putBits old f.hi f.lo (o - (o &&& n))

/-- The word a register holds after `new` is written over `old`. -/
def RegDef.apply (r : RegDef) (old new : W32) : W32 := r.fields.foldl (fun w f => f.apply w new) old

/-- The mask of a register's defined bits. -/
def RegDef.mask (r : RegDef) : Nat :=
  r.fields.foldl (fun m f => m ||| ((2 ^ (f.hi - f.lo + 1) - 1) * 2 ^ f.lo)) 0

/-- The written word carries a 1 in a reserved bit (R28). -/
def RegDef.rsvd (r : RegDef) (new : W32) : Bool := (new.toNat ||| r.mask) != r.mask

/-- PG_LOCK bits (R32). -/
def locked (s : State) (p n : Nat) : Bool := bit (rd s p 0x054) n

/-- Record RSVD_WRITE where the written word carries a 1 in a reserved bit (R28). -/
def noteRsvd (p off : Nat) (r : RegDef) (v : W32) (s : State) : State :=
  if r.rsvd v then recordFault p cRSVD_WRITE off s else s

/-- A write to a block register that is closed where `shut` says so: an undefined offset records BAD_ACCESS (R29), a locked register
LOCKED_WRITE (R35), a register closed in this state CTRL_CONFLICT; else the fields take the word. A write ignored as a whole records
that cause alone, whatever its reserved bits (DESIGN CHOICE, log entry 166). -/
def gatedWrite (p off : Nat) (shut : Bool) (v : W32) (s : State) : State :=
  match regAt p off with
  | none => recordFault p cBAD_ACCESS off s
  | some r =>
    if r.lockable && locked s p 3 then recordFault p cLOCKED_WRITE off s
    else if shut ∨ r.writable = .offStart ∧ pgState s p ≠ stOFF ∧ pgState s p ≠ stSTART then conflict p off s
    else noteRsvd p off r v (wr p off (r.apply (rd s p off) v) s)

/-- A write to a block register as its table alone gives it. -/
def blockWrite (p off : Nat) (v : W32) (s : State) : State := gatedWrite p off false v s

/-- The word written to a WO register, with RSVD_WRITE recorded for reserved bits. -/
def commandWrite (p off : Nat) (v : W32) (s : State) : State :=
  match regAt p off with
  | none => s
  | some r => noteRsvd p off r v s

end Sys2Proof.Machine
end

