-- ==== Sys2Proof/Machine/PowerCore.lean ====
section
/-! DEFINITION. The power state as other blocks meet it: waking (R149, R720, R722). -/

namespace Sys2Proof.Machine

/-- PWR_STAT.STATE (R733). -/
abbrev psP0 : Nat := 0
abbrev psP1 : Nat := 1
abbrev psP2 : Nat := 2
abbrev psQ : Nat := 3
abbrev psENTERING : Nat := 4
def pwrState (s : State) : Nat := rdF s pgPWR 0x104 2 0

/-- Wake causes (R722). -/
abbrev wkCAPSULE : Nat := 1
abbrev wkWADUN : Nat := 2
abbrev wkCOMMAND : Nat := 3
abbrev wkCHECKPOINT : Nat := 4
abbrev wkTHERMAL : Nat := 5

/-- The exit of R149 is under way. -/
def exiting (s : State) : Bool := bit (rd s pgPWR 0x104) 31 && rdF s pgPWR 0x104 10 8 == psP0
/-- A wake cause in P1, in P2 or during an entry latches in WAKE, counts, abandons an entry under way and starts the
exit of R149 (R722); an exit already under way takes no second one (R697). -/
def wake (cause : Nat) (s : State) : State :=
  if exiting s then s
  else if pwrState s = psP1 ∨ pwrState s = psP2 ∨ pwrState s = psENTERING then
    bump pgPWR 0x144 1 (wrF pgPWR 0x104 27 24 cause (wrF pgPWR 0x104 31 31 1 (wrF pgPWR 0x104 10 8 psP0 s)))
  else s

/-- A forge or drawplate that P1 gated is ungated by the work it receives (R198, R482, R720). -/
def ungate (p : Nat) (s : State) : State := { s with pwr := { s.pwr with asleep := s.pwr.asleep.filter (· != p) } }

end Sys2Proof.Machine
end

