-- ==== Sys2Proof/Machine/Pair.lean ====
section
/-! DEFINITION. The link to the partner as every block uses it: sending a message, the link going down, and the start
of a takeover (spec/15_wadun_link.md). -/

namespace Sys2Proof.Machine

/-! Classes and messages (R587, R588). -/

abbrev clsMIRROR : Nat := 0
abbrev clsJOURNAL : Nat := 1
abbrev clsEPOCH : Nat := 2
abbrev clsTAKEOVER : Nat := 3
abbrev clsFETCH : Nat := 4

/-- The class an MTYPE belongs to (R588). -/
def mtypeClass (t : Nat) : Option Nat :=
  if 0x01 ≤ t ∧ t ≤ 0x08 then some clsMIRROR
  else if 0x11 ≤ t ∧ t ≤ 0x16 then some clsJOURNAL
  else if 0x21 ≤ t ∧ t ≤ 0x25 then some clsEPOCH
  else if 0x31 ≤ t ∧ t ≤ 0x34 then some clsTAKEOVER
  else if 0x41 ≤ t ∧ t ≤ 0x47 then some clsFETCH
  else none

/-- The body sizes of R588: an MTYPE with a body of `n` bytes. -/
def bodyOk (t arg n : Nat) : Bool :=
  match t with
  | 0x01 | 0x42 => n == 64 + 8224
  | 0x04 | 0x05 => n % 4 == 0 && decide (4 ≤ n ∧ n ≤ 128)
  | 0x11 | 0x46 => n == 512
  | 0x12 => n == 8
  | 0x13 | 0x24 => n == 256
  | 0x16 => n == (if arg.testBit 17 then 0 else 32)
  | 0x43 => n == 4
  | 0x44 => n % 256 == 0 && decide (256 ≤ n ∧ n ≤ 65536)
  | _ => n == 0

/-- LINK_STAT.LSTATE (R601). -/
abbrev lsDOWN : Nat := 0
abbrev lsTRAIN : Nat := 1
abbrev lsHELLO : Nat := 2
abbrev lsUP : Nat := 3
abbrev lsNARROWING : Nat := 4
abbrev lsREFUSED : Nat := 5
def lstate (s : State) : Nat := rdF s pgWDL 0x108 2 0
/-- The link carries messages: UP, or narrowing without going down (R583). -/
def linkUp (s : State) : Bool := lstate s == lsUP || lstate s == lsNARROWING

/-- TAKE_STAT.TSTATE (R601). -/
abbrev tsPAIRED : Nat := 0
abbrev tsFENCING : Nat := 1
abbrev tsSURVIVOR : Nat := 2
abbrev tsFENCED : Nat := 3
abbrev tsUNOWNED : Nat := 4
def tstate (s : State) : Nat := rdF s pgWDL 0x154 2 0

/-- LDG.PAIR_CFG.HEAD_ID. -/
def headId (s : State) : Nat := rdF s pgLDG 0x108 0 0
/-- The head runs with a partner: PAIR_CFG.SINGLE is 0. -/
def paired (s : State) : Bool := !bit (rd s pgLDG 0x108) 9

/-! Sending. -/

/-- A message's bytes: the 16-byte header, then the body (R586). -/
def WMsg.bytes (m : WMsg) : List Byte := le 1 m.mtype ++ zeros 3 ++ le 4 m.body.length ++ le 8 m.arg ++ m.body

/-- The payloads of a message's flits, 232 bytes each (R570, R586). -/
def chunks (n : Nat) : Nat → List Byte → List (List Byte)
  | 0, _ => []
  | f + 1, bs => if bs.isEmpty then [] else bs.take n :: chunks n f (bs.drop n)
def WMsg.payloads (m : WMsg) : List (List Byte) := chunks 232 (m.bytes.length + 1) m.bytes

/-- Put one message on the link: its flits take the next FSEQs and wait in the replay buffer (R575). -/
def transmit (cls : Nat) (m : WMsg) (s : State) : State :=
  let ps := m.payloads
  let n := ps.length
  let fl := (List.range n).map fun i =>
    (⟨(s.wdl.txFseq + i) % 4096, cls, i == 0, i + 1 == n, ps.getD i []⟩ : WFlit)
  emit (.wadun cls m) (bump64 pgWDL 0x160 n { s with wdl := { s.wdl with
    txFseq := (s.wdl.txFseq + n) % 4096
    replay := s.wdl.replay ++ fl
    txCredits := Tab.put s.wdl.txCredits cls (Tab.getD s.wdl.txCredits 0 cls - n) } })

/-- The first queued message of a class may go: credits for every flit, and room in the replay buffer of 1,024. -/
def sendable (s : State) (e : Nat × WMsg) : Bool :=
  decide (e.2.payloads.length ≤ Tab.getD s.wdl.txCredits 0 e.1 ∧
    s.wdl.replay.length + e.2.payloads.length ≤ 1024)

/-- The queued message sent next: the first of the first class, in the order TAKEOVER, EPOCH, JOURNAL, FETCH, MIRROR,
that may go (R587). -/
def nextToSend (s : State) : Option (Nat × WMsg) :=
  ([clsTAKEOVER, clsEPOCH, clsJOURNAL, clsFETCH, clsMIRROR].filterMap fun c =>
    (s.wdl.txq.find? fun e => e.1 == c).bind fun e => if sendable s e then some e else none).head?

/-- Send queued messages while credits and the replay buffer allow. -/
def pump : Nat → State → State
  | 0, s => s
  | f + 1, s => match nextToSend s with
    | none => s
    | some e => pump f (transmit e.1 e.2 { s with wdl := { s.wdl with txq := s.wdl.txq.erase e } })

/-- Send a message to the partner; without a link nothing is sent. -/
def sendW (cls mtype arg : Nat) (body : List Byte) (s : State) : State :=
  if linkUp s then
    let s := { s with wdl := { s.wdl with txq := s.wdl.txq ++ [(cls, ⟨mtype, arg, body⟩)] } }
    pump s.wdl.txq.length s
  else s

/-- The consumer takes the first waiting message of a kind: its flits' credits go back to the partner (R587). -/
def takeRx (mtype : Nat) (s : State) : State :=
  match s.wdl.rx.find? fun r => r.msg.mtype == mtype with
  | none => s
  | some r => emit (.wadunCredit r.cls r.flits) { s with wdl := { s.wdl with rx := s.wdl.rx.erase r } }

/-! Fitness, link down, takeover. -/

/-- The head is fit: none of HQ, WC, LDG and QST in FAULT, and firmware has kicked where HB_KICK is live; while FWU
holds, the kick counts (R593, R743). -/
def fit (s : State) : Bool :=
  pgState s pgHQ != stFAULT && pgState s pgWC != stFAULT && pgState s pgLDG != stFAULT &&
  pgState s pgQST != stFAULT && (!live s pgWDL 1 || s.wdl.kicked || bit (rd s pgFWU 0x12C) 3)

/-- Takeover causes (R601). -/
abbrev tcHB_MISSED : Nat := 1
abbrev tcHB_FROZEN : Nat := 2
abbrev tcLINK_DOWN : Nat := 3
abbrev tcEPOCH_SKEW : Nat := 4
abbrev tcSTEP_DOWN : Nat := 5
abbrev tcFORCE : Nat := 6

/-- Causes of a link going down in hallmark 0x2202 (R602). -/
abbrev ldNO_FLIT : Nat := 1
abbrev ldRETRY : Nat := 2
abbrev ldDROP : Nat := 3
abbrev ldPAGE : Nat := 4
abbrev ldLANE : Nat := 5

/-- The link goes down: LSTATE, the LINK_DOWN event, hallmark 0x2202; a handover whose answer never came reads
NO_LINK (R585, R591). -/
def linkDrop (cause : Nat) (s : State) : State :=
  if !linkUp s then wrF pgWDL 0x108 2 0 lsDOWN s
  else
    let s := wrF pgWDL 0x108 2 0 lsDOWN s
    let s := if bit (rd s pgWDL 0x15C) 8 then wr pgWDL 0x15C 0x11#32 s else s
    let s := { s with wdl := { s.wdl with
      replay := []
      txq := []
      rx := []
      rxPart := []
      txFseq := 0
      rxExp := 0
      nakSent := false
      ackOwed := false
      resends := 0
      gotHello := false
      gotSeen := false
      sentSeen := false
      deskewed := false
      txCredits := wdlBuffers
      gotAlive := false
      offer := none } }
    hallmark 0x2202 0 [pw cause] (event pgWDL 3 (rd s pgWDL 0x108) s)

/-- The modules on which the head holds a registration and sees the partner's (R596): the arbiter is the lowest. -/
def arbiter (s : State) : Option Nat := (List.range 96).find? fun m => s.resOwn.contains m && s.resPeer.contains m

/-- Ask the arbiter: Reservation Acquire, Preempt and Abort, against the partner's key (R596). -/
def preemptArbiter (s : State) : State :=
  match arbiter s with
  | none => { s with wdl := { s.wdl with fence := .arbiter } }
  | some m => emit (.reservation m 2 s.fuses.deviceId)
      { wrF pgWDL 0x154 22 16 m s with wdl := { (wrF pgWDL 0x154 22 16 m s).wdl with fence := .arbiter } }

/-- A takeover starts: PARTNER_LOST and FAULT, TSTATE FENCING, the TAKEOVER event, hallmark 0x2206; HEAD_ID 1 waits
FENCE_DELAY_MS unless the cause is STEP_DOWN or FORCE (R595, R596, R598). -/
def startTakeover (cause : Nat) (s : State) : State :=
  let rx := rdF s pgWDL 0x148 31 16
  let s := wrF pgWDL 0x154 30 30 0 (wrF pgWDL 0x154 31 31 1
    (wrF pgWDL 0x154 10 8 cause (wrF pgWDL 0x154 2 0 tsFENCING s)))
  let s := linkDrop ldPAGE (recordFault pgWDL 0x80 0 s)
  let s := hallmark 0x2206 0 [pw cause, pw rx] (event pgWDL 4 (rd s pgWDL 0x154) s)
  let s := { ({ s with wdl := { s.wdl with startAt := s.time, barred := true, accepts := [], offer := none } } : State) with ldg := { s.ldg with transfers := [] } }
  if headId s = 1 ∧ cause ≠ tcSTEP_DOWN ∧ cause ≠ tcFORCE then { s with wdl := { s.wdl with fence := .delay } }
  else preemptArbiter s

/-- A cause of R594 is met: the takeover starts where AUTO_TAKEOVER is live, else it is left PENDING with the TAKEOVER
event. A head not fit starts none; EPOCH_SKEW, which itself puts LDG in FAULT, is named by R80 as a start and is not
held to its own fault. -/
def takeoverCause (cause : Nat) (s : State) : State :=
  if tstate s ≠ tsPAIRED ∨ (!fit s ∧ cause ≠ tcEPOCH_SKEW) then s
  else if live s pgWDL 2 then startTakeover cause s
  else
    let s := wrF pgWDL 0x154 30 30 1 (wrF pgWDL 0x154 10 8 cause s)
    event pgWDL 4 (rd s pgWDL 0x154) s

/-- The link goes down, which is itself a cause of takeover while PAIRED (R585, R594). -/
def linkDown (cause : Nat) (s : State) : State :=
  if linkUp s then takeoverCause tcLINK_DOWN (linkDrop cause s) else linkDrop cause s

end Sys2Proof.Machine
end

