-- ==== Sys2Proof/Machine/TinCore.lean ====
section
/-! DEFINITION. The key store of Tinning (spec/08_tinning.md): slots, generations, uses. -/

namespace Sys2Proof.Machine

/-! Classes (R271). -/
abbrev kcAT_REST : Nat := 1
abbrev kcLINK : Nat := 2
abbrev kcXTS : Nat := 3
abbrev kcDIGEST : Nat := 4

def slotK (s : State) (n : Nat) : KSlot := Tab.getD s.tin.slots {} n
def slotKPut (n : Nat) (x : KSlot) (s : State) : State :=
  { s with tin := { s.tin with slots := Tab.setD s.tin.slots {} n x } }

/-- The key-encryption key (R712). -/
def kek (s : State) : List Byte :=
  be 32 (Config.kdf s.fuses.ownerSecret ([0x44#8, 0x58#8, 0x4B#8, 0x45#8, 0x4B#8]) (be 8 s.fuses.deviceId.toNat)).toNat

/-! Generations (R276). `half` is 0 for OWN, 1 for PARTNER. -/

def genKey (half dom gen : Nat) : Nat := half * 1024 + dom * 16 + gen
def genOf (s : State) (half dom gen : Nat) : KGen := Tab.getD s.tin.gens {} (genKey half dom gen)
def genPut (half dom gen : Nat) (x : KGen) (s : State) : State :=
  { s with tin := { s.tin with gens := Tab.setD s.tin.gens {} (genKey half dom gen) x } }

/-- The slot that holds a KEY_ID (R282). -/
def slotOfKey (s : State) (id : Nat) : Option Nat :=
  (List.find? (fun e : Nat × KSlot => e.2.loaded && e.2.keyId == id) s.tin.slots).map (·.1)

/-- The valid generations of a domain: (GEN, entry). -/
def gensOf (s : State) (half dom : Nat) : List (Nat × KGen) :=
  ((List.range 16).map fun g => (g, genOf s half dom g)).filter fun e => e.2.valid

/-- The newest of some generations: the greatest FIRST_EPOCH. -/
def newestGen (xs : List (Nat × KGen)) : Option (Nat × KGen) :=
  xs.foldl (fun b e => match b with
    | none => some e
    | some d => if d.2.first < e.2.first then some e else some d) none
/-- The oldest of some generations. -/
def oldestGen (xs : List (Nat × KGen)) : Option (Nat × KGen) :=
  xs.foldl (fun b e => match b with
    | none => some e
    | some d => if e.2.first < d.2.first then some e else some d) none

/-- The generation under which a domain seals: the newest valid one in OWN (R276). -/
def currentGen (s : State) (dom : Nat) : Option (Nat × KGen) := newestGen (gensOf s 0 dom)

/-- A valid generation in either half names the slot (R288, R306). -/
def slotBound (s : State) (n : Nat) : Bool :=
  (slotK s n).loaded && s.tin.gens.any fun e => e.2.valid && e.2.keyId == (slotK s n).keyId

/-- The epoch being forged, as Tinning takes it: FRG_0.FORGE_EPOCH (R277). -/
def forgeEpoch (s : State) (n : Nat) : Nat := (rd64 s (pgFRG + n) 0x108).toNat

/-! Usage (R290 to R294). -/

/-- The threshold of R291. -/
def warnAt (limit : Nat) : Nat := limit - limit / 10

/-- A warning, once for each load (R291). -/
def keyWarn (n what : Nat) (s : State) : State :=
  let x := slotK s n
  if x.warned then s
  else hallmark 0x1501 0 ([pw n] ++ pw2 x.keyId ++ pw2 what)
    (event pgTIN 3 (pw n) (bump pgTIN 0x178 1 (slotKPut n { x with warned := true } s)))

/-- A seal is refused: counted, and reported the first time for this load (R292). -/
def keyExhausted (n unit : Nat) (s : State) : State :=
  let x := slotK s n
  let s := bump pgTIN 0x174 1 s
  if x.exhausted then s
  else hallmark 0x1502 0 ([pw n] ++ pw2 x.keyId ++ [pw unit])
    (event pgTIN 4 (pw n) (slotKPut n { x with exhausted := true } s))

/-- The ceiling of a slot's key (R294). -/
def ceiling (s : State) (n : Nat) : Nat := Tab.getD s.tin.counts 0 (slotK s n).keyId

/-- Answer the request of a unit for `k` uses of a slot: granted where the limit and the ceiling allow; `none` while a
ceiling write is awaited (R292 to R294). -/
def grantUses (n k unit : Nat) (s : State) : Option (Grant × State) :=
  let x := slotK s n
  if !x.loaded then some (.empty, s)
  else if x.limit < x.uses + k then some (.exhausted, keyExhausted n unit s)
  else if ceiling s n < x.uses + k then none
  else
    let s := slotKPut n { x with uses := x.uses + k } s
    some (.granted x.uses, if warnAt x.limit ≤ x.uses + k then keyWarn n (x.uses + k) s else s)

/-- The first request that waits for a slot. -/
def headReq (s : State) (n : Nat) : Option (Nat × Nat × Nat) := s.tin.reqs.find? fun r => r.1 == n

/-- Serve the requests of a slot in their order while each can be answered (R293); `f` bounds them. -/
def serveUses (n : Nat) : Nat → State → State
  | 0, s => s
  | f + 1, s => match headReq s n with
    | none => s
    | some r => match grantUses n r.2.2 r.2.1 s with
      | none => s
      | some (g, t) => serveUses n f { t with tin := { t.tin with
          reqs := t.tin.reqs.erase r, grants := Tab.put t.tin.grants r.2.1 g } }

/-- A unit asks for `k` uses of a slot, behind every earlier request; a request already made keeps its place. -/
def askUses (n k unit : Nat) (s : State) : State :=
  let s := if (Tab.find? s.tin.grants unit).isSome || s.tin.reqs.any (fun r => r.2.1 == unit) then s
    else { s with tin := { s.tin with reqs := s.tin.reqs ++ [(n, unit, k)] } }
  serveUses n s.tin.reqs.length s

/-- Take the answer to a unit's request, once there is one. -/
def takeGrant (unit : Nat) (s : State) : Option (Grant × State) :=
  (Tab.find? s.tin.grants unit).map fun g =>
    (g, { s with tin := { s.tin with grants := Tab.erase s.tin.grants unit } })

/-- A unit gives its request up. -/
def dropReq (unit : Nat) (s : State) : State :=
  { s with tin := { s.tin with
      reqs := s.tin.reqs.filter fun r => r.2.1 != unit
      grants := Tab.erase s.tin.grants unit } }

/-! At-rest bodies (R190, R273 to R279). -/

/-- The nonce of a grain body: INGOT, OFFSET, the low 36 bits of CAST, most significant byte first (R273). -/
def bodyNonce (ingot offset cast : Nat) : List Byte :=
  be 12 (ingot * 2 ^ 56 + offset * 2 ^ 36 + cast % 2 ^ 36)
/-- The additional data of a grain body: GLOC with SLAG 0, LEN16, the domain, five zero bytes (R190). -/
def bodyAad (g : W64) (len16 dom : Nat) : List Byte :=
  le 8 (glocBody g).toNat ++ le 2 len16 ++ le 1 dom ++ List.replicate 5 0#8

/-- A slot's GCM key opens ciphertext ‖ tag; `none` where the tag fails. -/
def gcmOpen (key nonce aad ct tag : List Byte) : Option (List Byte) :=
  if gcmTag (aesKeys key) nonce aad ct = tag then some (gcmCrypt key nonce ct) else none

/-- What opening a body yields (R279). -/
inductive Opened where
  | ok (pt : List Byte)
  | tagFail
  | noKey
deriving DecidableEq, Repr

/-- Open a body under the slot of one generation. -/
def openUnder (s : State) (g : KGen) (nonce aad body : List Byte) : Opened :=
  match slotOfKey s g.keyId with
  | none => .noKey
  | some n =>
    let ct := body.take (body.length - 16)
    match gcmOpen (slotK s n).key nonce aad ct (body.drop (body.length - 16)) with
    | some pt => .ok pt
    | none => .tagFail

/-- Open a body cast in epoch `cast` (R279): the half is that of the head whose HEAD_ID is bit 39 of INGOT. The flag
says that the older key of a straddling generation passed. -/
def openBody (s : State) (dom : Nat) (g : W64) (len16 cast : Nat) (body : List Byte) : Opened × Bool :=
  let half := if b2n ((glocIngot g).testBit 39) = headId s then 0 else 1
  let gs := (gensOf s half dom).filter fun e => decide (e.2.first ≤ cast)
  let nonce := bodyNonce (glocIngot g) (glocOffset g) cast
  let aad := bodyAad g len16 dom
  match newestGen gs with
  | none => (.noKey, false)
  | some x =>
    match openUnder s x.2 nonce aad body with
    | .tagFail =>
      if x.2.straddle ∧ cast = x.2.first then
        match newestGen (gs.filter fun e => e.1 != x.1) with
        | none => (.tagFail, false)
        | some y => match openUnder s y.2 nonce aad body with
          | .ok pt => (.ok pt, true)
          | .tagFail => (.tagFail, false)
          | .noKey => (.tagFail, false)
      else (.tagFail, false)
    | r => (r, false)

/-- The span of a generation at a cast epoch is used up (R275), or nine tenths of it are (R291). -/
def spanOver (g : KGen) (cast : Nat) : Bool := decide (2 ^ 36 ≤ cast - g.first)
def spanWarn (g : KGen) (cast : Nat) : Bool := decide (9 * 2 ^ 36 ≤ 10 * (cast - g.first))

/-- A unit asks to seal a body of a domain cast in an epoch: the slot of the current generation, after the checks of R275;
while an INSTALL of the domain waits, so does the seal (R277). `none` is no answer yet. -/
def sealUse (dom cast unit : Nat) (s : State) : Option (Grant × Nat) × State :=
  if (s.tin.cmd.map fun c => c.install && c.dom == dom).getD false then (none, s)
  else match currentGen s dom with
  | none => (some (.empty, 0), s)
  | some (_, g) => match slotOfKey s g.keyId with
    | none => (some (.empty, 0), s)
    | some n =>
      if spanOver g cast then (some (.exhausted, n), keyExhausted n unit s)
      else
        let s := if spanWarn g cast then keyWarn n (cast - g.first) s else s
        let s := askUses n 1 unit s
        match takeGrant unit s with
        | none => (none, s)
        | some (a, t) =>
          (some (a, n), match a with
            | .granted _ => { t with tin := { t.tin with sealedIn := Tab.put t.tin.sealedIn dom (forgeEpoch t 0) } }
            | _ => t)

/-- Seal a body's plaintext under a slot (R190, R273). -/
def sealBody (s : State) (n dom : Nat) (g : W64) (len16 cast : Nat) (pt : List Byte) : List Byte :=
  gcmSeal (slotK s n).key (bodyNonce (glocIngot g) (glocOffset g) cast) (bodyAad g len16 dom) pt

end Sys2Proof.Machine
end

