-- ==== Sys2Proof/Machine/Assay.lean ====
section
/-! DEFINITION. Commands of Assay's general lanes (spec/06_assay.md), and RING_DISABLE for every engine. A command runs
the descriptor at the head of a ring, or a part of it that ends at a block boundary; its record waits in the ring until
ENGINE_COMPLETION_WRITE. -/

namespace Sys2Proof.Machine

/-! Descriptor fields. -/

/-- The algorithm of a value (R207); 3 is reserved and refused before it is used. -/
def algOf (n : Nat) : Alg := match n with | 0 => .sha256 | 1 => .sha384 | _ => .sha512
def Dsc.alg (d : Dsc) : Nat := d.param % 4
def Dsc.yields (d : Dsc) : Bool := d.param.testBit 8

abbrev aoHASH : Nat := 1
abbrev aoHMAC : Nat := 2
abbrev aoHASH_CMP : Nat := 3
abbrev aoHMAC_CMP : Nat := 4
abbrev aoEXPORT : Nat := 8
abbrev aoIMPORT : Nat := 9
abbrev aoCLEAR : Nat := 10

/-- The opcode is one of R209. -/
def asyKnown (op : Nat) : Bool := [1, 2, 3, 4, 8, 9, 10].contains op
def opKeyed (op : Nat) : Bool := op == aoHMAC || op == aoHMAC_CMP
def opCompare (op : Nat) : Bool := op == aoHASH_CMP || op == aoHMAC_CMP
/-- Opcodes of a message. -/
def opMessage (op : Nat) : Bool := decide (1 ≤ op ∧ op ≤ 4)

/-- The feature an opcode needs is live (R235). -/
def asyLive (s : State) (d : Dsc) : Bool :=
  live s pgASY 0 && (!opKeyed d.opcode || live s pgASY 1) && (!opCompare d.opcode || live s pgASY 3) &&
  (!(d.opcode == aoEXPORT || d.opcode == aoIMPORT) || live s pgASY 4) &&
  (!(opMessage d.opcode && d.alg != 0) || live s pgASY 2)

/-! Contexts (R223, R224). -/

def ctxFull (s : State) (c : Nat) : Bool := (Tab.find? s.asy.ctxs c).isSome
/-- Fill or empty a context; CTX_FULL follows. -/
def ctxPut (c : Nat) (m : Option AMsg) (s : State) : State :=
  let w := (rd64 s pgASY 0x108).toNat
  match m with
  | some x => wr64 pgASY 0x108 (BitVec.ofNat 64 (w ||| 2 ^ c)) { s with asy := { s.asy with ctxs := Tab.put s.asy.ctxs c x } }
  | none => wr64 pgASY 0x108 (BitVec.ofNat 64 (w - (w &&& 2 ^ c))) { s with asy := { s.asy with ctxs := Tab.erase s.asy.ctxs c } }

/-- Chaining words between the order of FIPS 180-4 and the little-endian one of an image (R224, log entry 164). -/
def swapWords (alg : Nat) (b : List Byte) : List Byte :=
  let w := if alg = 0 then 4 else 8
  (List.range (b.length / w)).flatMap fun i => (slice b (i * w) w).reverse

/-- The 320-byte image of a context (R224). -/
def AMsg.image (m : AMsg) : List Byte :=
  let b := le 1 1 ++ le 1 m.alg ++ le 1 (b2n m.keyed + 2 * b2n m.compare) ++ le 1 m.buf.length ++ le 2 m.keySlot ++
    le 2 0 ++ le 4 m.loads ++ le 4 0 ++ le 8 m.count ++ le 8 0 ++ slice (swapWords m.alg m.inner) 0 64 ++ slice (swapWords m.alg m.outer) 0 64 ++
    slice m.buf 0 128 ++ zeros 24
  b ++ le 8 (crc64 b).toNat

/-- The state an image spells. -/
def AMsg.ofImage (b : List Byte) : AMsg where
  alg := field b 1 1 % 4
  keyed := (field b 2 1).testBit 0
  compare := (field b 2 1).testBit 1
  keySlot := field b 4 2
  loads := field b 8 4
  count := field b 0x10 8
  inner := swapWords (field b 1 1 % 4) (slice b 0x20 (if field b 1 1 % 4 = 0 then 32 else 64))
  outer := swapWords (field b 1 1 % 4)
    (slice b 0x60 (if (field b 2 1).testBit 0 then (if field b 1 1 % 4 = 0 then 32 else 64) else 0))
  buf := slice b 0xA0 (Nat.min (field b 3 1) 127)

/-- VERSION and CRC-64 of an image are right. -/
def imageOk (b : List Byte) : Bool := field b 0 1 == 1 && field b 0x138 8 == (crc64 (slice b 0 0x138)).toNat

/-! Messages (R208, R211, R217). -/

/-- A fresh message of a descriptor with FIRST. -/
def startMsg (s : State) (d : Dsc) : AMsg :=
  let a := algOf d.alg
  let key := (slotK s (d.keySlot % 4096)).key
  { alg := d.alg
    keyed := opKeyed d.opcode
    compare := opCompare d.opcode
    keySlot := if opKeyed d.opcode then d.keySlot % 4096 else 0
    loads := if opKeyed d.opcode then (slotK s (d.keySlot % 4096)).loads else 0
    inner := if opKeyed d.opcode then a.hmacInner key else a.init
    outer := if opKeyed d.opcode then a.hmacOuter key else [] }

/-- Absorb bytes: whole blocks into the chaining state, the rest into the buffer. -/
def AMsg.feed (m : AMsg) (bs : List Byte) : AMsg :=
  let a := algOf m.alg
  let all := m.buf ++ bs
  let n := all.length / a.block * a.block
  { m with count := m.count + bs.length, inner := a.absorb m.inner (all.take n), buf := all.drop n }

/-- The digest at LAST: the inner one counts the key block, and is itself digested under the outer pad (RFC 2104). -/
def AMsg.digest (m : AMsg) : List Byte :=
  let a := algOf m.alg
  if m.keyed then
    let i := a.finish m.inner m.buf (m.count + a.block)
    a.finish m.outer i (a.block + a.digest)
  else a.finish m.inner m.buf m.count

/-- The opcode of a saved message. -/
def AMsg.opcode (m : AMsg) : Nat := 1 + b2n m.keyed + 2 * b2n m.compare

def openOf (s : State) (n : Nat) : Option AOpen := Tab.find? s.asy.opened n
def openPut (n : Nat) (o : AOpen) (s : State) : State := { s with asy := { s.asy with opened := Tab.put s.asy.opened n o } }
def openDrop (n : Nat) (s : State) : State := { s with asy := { s.asy with opened := Tab.erase s.asy.opened n } }

/-- The state of an open message: in its lane, or in the context it was preempted into (R230). -/
def openMsg (s : State) (o : AOpen) : Option AMsg :=
  if o.lane.isSome then some o.msg else Tab.find? s.asy.ctxs o.ctx

/-- The key slot of a keyed message was loaded or erased since FIRST (R218). -/
def keyChanged (s : State) (m : AMsg) : Bool := m.keyed && (slotK s m.keySlot).loads != m.loads

/-! The tests of R213, in the order of their codes. -/

/-- The message that the descriptor would continue: none for FIRST; its context for LOAD_CTX; else the ring's open one. -/
def continued (s : State) (n : Nat) (d : Dsc) : Option AMsg :=
  if d.first then none
  else if d.load then Tab.find? s.asy.ctxs d.ctx
  else (openOf s n).bind (openMsg s)

/-- Bytes of an export of a context. -/
def exportLen (s : State) (c : Nat) : Nat :=
  match Tab.find? s.asy.ctxs c with
  | some m => if m.keyed then 328 else 320
  | none => 0

/-- Whether the descriptor's keyed-digest slot is unfit: no DIGEST key, or one shorter than 16 bytes (R213, R217). -/
def keyUnfit (s : State) (d : Dsc) : Bool :=
  let k := slotK s (d.keySlot % 4096)
  opKeyed d.opcode && d.first && k.loaded && (k.cls != kcDIGEST || decide (k.key.length < 16))

/-- The code of R213 that a descriptor fails with; 0 for none. -/
def asyCode (s : State) (n : Nat) (d : Dsc) : Nat :=
  let msg := opMessage d.opcode
  let c := continued s n d
  if !asyKnown d.opcode || d.rsvdSet || d.limit != 0 || d.dstList || decide (512 ≤ d.param) || d.param / 4 % 64 != 0 ||
      (msg && d.alg == 3) || !asyLive s d || (d.srcBuf s).isBad then 1
  else if (d.first && d.load) || (d.last && d.save) ||
      (msg && !d.first && !d.load && (openOf s n).isNone) then 2
  else if msg && (match c with | some m => m.opcode != d.opcode || m.alg != d.alg | none => false) then 3
  else if (msg && d.dstLen != 0 && decide (d.dstLen < (algOf d.alg).digest)) ||
      (d.opcode == aoEXPORT && ctxFull s d.ctx && decide (d.dstLen < exportLen s d.ctx)) then 4
  else if opCompare d.opcode && d.last && !decide (16 ≤ d.auxLen ∧ d.auxLen ≤ (algOf d.alg).digest) then 5
  else if (msg && d.load && !ctxFull s d.ctx) || decide (63 < d.ctx) ||
      (d.opcode == aoEXPORT && !ctxFull s d.ctx) || (d.opcode == aoIMPORT && ctxFull s d.ctx) ||
      (msg && !d.first && !d.load && c.isNone) then 6
  else if keyUnfit s d then 7
  else if d.opcode == aoIMPORT && d.srcLen != 320 && d.srcLen != 328 then 8
  else 0

/-! Results. -/

/-- The record of a descriptor with the fields R214 gives it. -/
def asyRec (d : Dsc) (idx status consumed produced count : Nat) (info : Nat) : Rec :=
  { tag := d.tag, status := status, idx := idx, consumed := consumed, produced := produced, detail := count % 2 ^ 32
    info := info, event := d.event }

/-- INFO: the two flags and the digest length (R214). -/
def asyInfo (f0 f1 len : Nat) : Nat := f0 + 256 * f1 + 65536 * len

/-- Offset of lane `lane`'s result block. -/
def resOff (lane off : Nat) : Nat := 0x200 + (lane - 16) * 0x80 + off

/-- Write a lane's result block (R215, R220): SEQ is that of the completion about to be counted. -/
def putResult (lane ring : Nat) (digest : List Byte) (f0 f1 : Nat) (s : State) : State :=
  let s := (List.range 16).foldl (fun s i => wr pgASY (resOff lane (0x40 + 4 * i)) (pw (field digest (4 * i) 4)) s) s
  let s := wr pgASY (resOff lane 0x0C) (pw f1) (wr pgASY (resOff lane 0x08) (pw f0) s)
  wr pgASY (resOff lane 0) (pw (digest.length * 2 ^ 24 + ring * 2 ^ 16 + Tab.getD s.eng.seqs 0 (rgKey pgASY lane))) s

/-- A message leaves its ring and lane: state zeroised (R219). Counted when a FIRST or a LOAD_CTX displaces it (R211). -/
def abandonOpen (n : Nat) (counted : Bool) (s : State) : State :=
  match openOf s n with
  | none => s
  | some o =>
    let s := openDrop n s
    let s := if o.lane.isNone then ctxPut o.ctx none s else s
    if counted then bump pgASY 0x114 1 s else s

/-- The descriptor ends with no effect on its message: its record waits to be written. -/
def endDsc (n lane : Nat) (r : Rec) (s : State) : State := finishDsc pgASY n lane r s

/-- A general lane is taken out: GLANE_OUT, hallmark 0x1301 (R232). Cause 0 is its own check, 1 its comparators. -/
def laneDown (lane cause : Nat) (s : State) : State :=
  hallmark 0x1301 0 [pw lane, pw cause] (wrF pgASY 0x100 11 8 (rdF s pgASY 0x100 11 8 ||| 2 ^ (lane - 16)) s)

/-- A lane fails its check or its comparators disagree: the descriptor ends with INTERNAL, `consumed` of its bytes and `count` of the
message's absorbed; its message is abandoned, and the lane is taken out (R214, R232). -/
def laneFail (n lane cause : Nat) (d : Dsc) (idx consumed count info : Nat) (s : State) : State :=
  laneDown lane cause
    (abandonOpen n false (endDsc n lane (asyRec d idx stsINTERNAL consumed 0 count info) (undefOut (asyOut d) s)))

/-- The end of a compare at LAST (R220 to R222, R232): `odd` is a pair of flags that faulty comparators write. -/
def compareEnd (n lane : Nat) (d : Dsc) (idx consumed : Nat) (m : AMsg) (odd : Option (Nat × Nat)) (s : State) : State :=
  let a := algOf m.alg
  let same := m.digest.take d.auxLen == memRead s d.aux d.auxLen
  let f := odd.getD (if same then (0x5A, 0x5A) else (0xA5, 0xA5))
  let s := putResult lane n [] f.1 f.2 s
  let info := asyInfo f.1 f.2 a.digest
  if f = (0x5A, 0x5A) then openDrop n (endDsc n lane (asyRec d idx stsOK consumed 0 m.count info) s)
  else if f = (0xA5, 0xA5) then
    openDrop n (endDsc n lane (asyRec d idx stsCHECK_FAIL consumed 0 m.count info) (bump pgASY 0x11C 1 s))
  else
    laneFail n lane 1 d idx consumed m.count info (hallmark 0x1303 0 [pw lane, pw f.1, pw f.2] (bump pgASY 0x120 1 s))

/-- The end of a digest at LAST (R212, R215): the result block is written whether or not DST can be. -/
def digestEnd (n lane : Nat) (d : Dsc) (idx consumed : Nat) (m : AMsg) (s : State) : State :=
  let g := m.digest
  let wants := d.dstLen != 0
  let s := putResult lane n g 0 0 s
  if wants && !bufOk s d.dst g.length then
    openDrop n (endDsc n lane (asyRec d idx stsMEMORY_ERROR consumed 0 m.count (asyInfo 0 0 g.length))
      (busFault [.ok [(d.dst, g.length)]] (undefOut [(d.dst, g.length)] s)))
  else
    openDrop n (endDsc n lane
      (asyRec d idx stsOK consumed (if wants then g.length else 0) m.count (asyInfo 0 0 g.length))
      (if wants then memWrite d.dst g s else s))

/-- The bytes of a descriptor have all been absorbed: LAST, SAVE_CTX, or the message stays in its lane (R211, R223). -/
def asyEnd (n lane : Nat) (d : Dsc) (idx : Nat) (m : AMsg) (odd : Option (Nat × Nat)) (s : State) : State :=
  let info := asyInfo 0 0 (algOf m.alg).digest
  if d.last then
    if m.compare then
      if bufOk s d.aux d.auxLen then compareEnd n lane d idx d.srcLen m odd s
      else openDrop n (endDsc n lane (asyRec d idx stsMEMORY_ERROR d.srcLen 0 m.count info)
        (putResult lane n [] 0 0 (busFault [.ok [(d.aux, d.auxLen)]] s)))
    else digestEnd n lane d idx d.srcLen m s
  else if d.save then
    let s := if ctxFull s d.ctx then bump pgASY 0x118 1 s else s
    openDrop n (endDsc n lane { asyRec d idx stsOK d.srcLen 0 m.count info with cflags := cfCTX_SAVED }
      (ctxPut d.ctx (some m) s))
  else
    let o := (openOf s n).getD ⟨some lane, d.ctx, false, none, m, s.eng.tick⟩
    endDsc n lane (asyRec d idx stsOK d.srcLen 0 m.count info)
      (openPut n { o with lane := some lane, msg := m, part := none, ctx := d.ctx, yield := d.yields } s)

/-- Absorb up to `bytes` more of a descriptor of which `c` bytes are absorbed: to its end, or to a block boundary, where
it stays under way. -/
def asyAbsorb (n lane : Nat) (d : Dsc) (idx c bytes : Nat) (m : AMsg) (odd : Option (Nat × Nat)) (s : State) : State :=
  if !(d.srcBuf s).usable s then
    openDrop n (endDsc n lane (asyRec d idx stsMEMORY_ERROR c 0 m.count (asyInfo 0 0 (algOf m.alg).digest))
      (undefOut (asyOut d) (busFault [d.srcBuf s] s)))
  else
    let data := spansRead s (d.srcBuf s).get
    if d.srcLen ≤ c + bytes then asyEnd n lane d idx (m.feed (data.drop c)) odd s
    else
      let b := (algOf m.alg).block
      let k := (m.count + bytes) / b * b - m.count
      let o := (openOf s n).getD ⟨some lane, d.ctx, false, none, m, s.eng.tick⟩
      openPut n { o with
        lane := some lane
        msg := m.feed ((data.drop c).take k)
        part := some (d, idx, c + k)
        ctx := d.ctx
        yield := d.yields } s

/-- From the acceptance of a compare's LAST until its result both flags of its lane read 0 (R220). -/
def clearFlags (lane : Nat) (d : Dsc) (s : State) : State :=
  if opCompare d.opcode && d.last then wr pgASY (resOff lane 0x0C) 0 (wr pgASY (resOff lane 0x08) 0 s) else s

/-- The context that an open message was preempted into is EMPTY again when the lane reloads it (R229, R230). -/
def reload (n : Nat) (s : State) : State :=
  match openOf s n with
  | some o => if o.lane.isNone then ctxPut o.ctx none s else s
  | none => s

/-- Start a descriptor that passed the tests of R213: key and length tests, then the bytes. -/
def asyBegin (n lane : Nat) (d : Dsc) (idx bytes : Nat) (odd : Option (Nat × Nat)) (s : State) : State :=
  let prev := continued s n d
  let bad := fun (st count : Nat) (s : State) =>
    abandonOpen n false (endDsc n lane (asyRec d idx st 0 0 count (asyInfo 0 0 (algOf d.alg).digest)) s)
  -- a FIRST or a LOAD_CTX displaces the open message (R211)
  let s := if d.first || d.load then abandonOpen n true s else s
  if opKeyed d.opcode && d.first && !(slotK s (d.keySlot % 4096)).loaded then bad stsKEY_SLOT_EMPTY 0 s
  else
    let m := prev.getD (startMsg s d)
    let s := if d.load then ctxPut d.ctx none s else reload n s
    if keyChanged s m then bad stsKEY_SLOT_EMPTY m.count (bump pgASY 0x128 1 s)
    else if 2 ^ 61 - 1 < m.count + d.srcLen then bad stsLIMIT_EXCEEDED m.count (undefOut (asyOut d) s)
    else
      let since := match openOf s n with | some o => if o.lane.isSome then o.since else s.eng.tick | none => s.eng.tick
      asyAbsorb n lane d idx 0 bytes m odd
        (openPut n ⟨some lane, d.ctx, d.yields, none, m, since⟩ (engTick (clearFlags lane d s)))

/-- A descriptor that fails a test of R213; code 6 on a LOAD_CTX also abandons the open message. -/
def asyBadInput (n lane : Nat) (d : Dsc) (idx code : Nat) (s : State) : State :=
  let s := if code = 6 && d.load then abandonOpen n true s else s
  let len := if opMessage d.opcode && d.alg != 3 then (algOf d.alg).digest else 0
  endDsc n lane { asyRec d idx stsBAD_INPUT 0 0 0 (asyInfo 0 0 len) with detail := code } s

/-- The lane a ring's descriptor runs on: that of its open message, else the one named, where the ring is next and the lane is
free. -/
def laneFor (s : State) (n lane : Nat) : Option Nat :=
  match (openOf s n).bind (·.lane) with
  | some l => if (rgOf s pgASY n).done.isEmpty then some l else none
  | none => if mayTake s pgASY n lane then some lane else none

/-- While every general lane is out, a descriptor that would start completes with INTERNAL at once (R232, R262). -/
def startOut (p n : Nat) (d : Dsc) (idx : Nat) (s : State) : State :=
  let r := abortRec s stsINTERNAL idx d 0
  rgPut p n { rgOf s p n with done := (rgOf s p n).done ++ [r] } (advanceSq p n (draw s).2)

/-- A descriptor of opcode `op` at the head of a ring runs on a lane; one already under way goes on, a preempted one with its context
reloaded. -/
def asyRun (op n lane bytes : Nat) (ok : Bool) (odd : Option (Nat × Nat)) (s : State) : State :=
  if !serving s pgASY then s
  else match (openOf s n).bind (·.part) with
  | some (d, idx, c) =>
    if d.opcode ≠ op then s
    else match laneFor s n lane, openOf s n, (openOf s n).bind (openMsg s) with
    | some l, some o, some m =>
      let s := leaveQueue pgASY n (reload n s)
      let s := if o.lane.isSome then s else engTick (openPut n { o with lane := some l, msg := m, since := s.eng.tick } s)
      if !ok then laneFail n l 0 d idx c m.count (asyInfo 0 0 (algOf m.alg).digest) s
      else asyAbsorb n l d idx c bytes m odd s
    | _, _, _ => s
  | none =>
    let d := headDsc s pgASY n
    let idx := rgHead s pgASY n % rgSize s pgASY n
    if !posted s pgASY n || d.opcode ≠ op || !(rgOf s pgASY n).done.isEmpty then s
    else if allOut s pgASY then startOut pgASY n d idx s
    else match laneFor s n lane with
    | none => s
    | some l =>
      let code := asyCode s n d
      let count := ((continued s n d).map (·.count)).getD 0
      let s := advanceSq pgASY n s
      if code ≠ 0 then asyBadInput n l d idx code s
      else if !ok then laneFail n l 0 d idx 0 count (asyInfo 0 0 (algOf d.alg).digest) s
      else asyBegin n l d idx bytes odd s

/-- ASY_HASH (R208, R209, R211, R212). -/
def execAsyHash (ring lane bytes : Nat) (ok : Bool) (s : State) : Outcome := .next (asyRun aoHASH ring lane bytes ok none s)
/-- ASY_HMAC (R217 to R219). -/
def execAsyHmac (ring lane bytes : Nat) (ok : Bool) (s : State) : Outcome := .next (asyRun aoHMAC ring lane bytes ok none s)
/-- ASY_HASH_CMP (R220, R221). -/
def execAsyHashCmp (ring lane bytes : Nat) (ok : Bool) (odd : Option (Nat × Nat)) (s : State) : Outcome :=
  .next (asyRun aoHASH_CMP ring lane bytes ok odd s)
/-- ASY_HMAC_CMP (R217 to R221). -/
def execAsyHmacCmp (ring lane bytes : Nat) (ok : Bool) (odd : Option (Nat × Nat)) (s : State) : Outcome :=
  .next (asyRun aoHMAC_CMP ring lane bytes ok odd s)

/-! Context opcodes. -/

/-- A context descriptor at the head of a ring starts on a lane, passes the tests of R213, and runs `f`; `ok` is the lane's internal
check (R232). -/
def asyCtxRun (op n lane : Nat) (ok : Bool) (f : Nat → Dsc → Nat → State → State) (s : State) : State :=
  let d := headDsc s pgASY n
  let idx := rgHead s pgASY n % rgSize s pgASY n
  if !serving s pgASY || !posted s pgASY n || d.opcode ≠ op || !(rgOf s pgASY n).done.isEmpty ||
      ((openOf s n).bind (·.part)).isSome then s
  else if allOut s pgASY then startOut pgASY n d idx s
  else match laneFor s n lane with
  | none => s
  | some l =>
    let code := asyCode s n d
    let s := advanceSq pgASY n s
    if code ≠ 0 then asyBadInput n l d idx code s
    else if !ok then laneFail n l 0 d idx 0 0 0 (if op = aoEXPORT then undefOut [(d.dst, d.dstLen)] s else s)
    else f l d idx s

/-- The context-wrapping key (R225, R712). -/
def ctxKey (s : State) : List Byte := be 32 s.top.ctxKey.toNat

/-- Export: the image in clear, or wrapped where the context is keyed (R225). -/
def ctxExport (n lane : Nat) (d : Dsc) (idx : Nat) (s : State) : State :=
  let m := Tab.getD s.asy.ctxs {} d.ctx
  let b := if m.keyed then kwWrap (ctxKey s) m.image else m.image
  if bufOk s d.dst b.length then
    endDsc n lane (asyRec d idx stsOK 0 b.length m.count 0) (memWrite d.dst b s)
  else endDsc n lane (asyRec d idx stsMEMORY_ERROR 0 0 m.count 0) (undefOut [(d.dst, b.length)] (busFault [.ok [(d.dst, b.length)]] s))

/-- Import: a clear image of 320 bytes, or a wrapped one of 328 (R225, R226). -/
def ctxImport (n lane : Nat) (d : Dsc) (idx : Nat) (s : State) : State :=
  if !(d.srcBuf s).usable s then
    endDsc n lane (asyRec d idx stsMEMORY_ERROR 0 0 0 0) (busFault [d.srcBuf s] s)
  else
    let src := spansRead s (d.srcBuf s).get
    match (if d.srcLen = 328 then kwUnwrap (ctxKey s) src else some src) with
    | none =>
      hallmark 0x1302 0 [pw n, pw d.ctx] (bump pgASY 0x124 1
        (endDsc n lane (asyRec d idx stsCHECK_FAIL d.srcLen 0 0 0) s))
    | some b =>
      if !imageOk b || b.length ≠ 320 || ((AMsg.ofImage b).keyed && d.srcLen = 320) then
        endDsc n lane { asyRec d idx stsBAD_INPUT 0 0 0 0 with detail := 8 } s
      else
        endDsc n lane (asyRec d idx stsOK d.srcLen 0 (AMsg.ofImage b).count 0) (ctxPut d.ctx (some (AMsg.ofImage b)) s)

/-- ASY_CTX_EXPORT (R225). -/
def execAsyCtxExport (ring lane : Nat) (ok : Bool) (s : State) : Outcome :=
  .next (asyCtxRun aoEXPORT ring lane ok (ctxExport ring) s)
/-- ASY_CTX_IMPORT (R225, R226). -/
def execAsyCtxImport (ring lane : Nat) (ok : Bool) (s : State) : Outcome :=
  .next (asyCtxRun aoIMPORT ring lane ok (ctxImport ring) s)
/-- ASY_CTX_CLEAR (R223): OK whether the context was FULL or not. -/
def execAsyCtxClear (ring lane : Nat) (ok : Bool) (s : State) : Outcome :=
  .next (asyCtxRun aoCLEAR ring lane ok (fun l d idx s =>
    endDsc ring l (asyRec d idx stsOK 0 0 0 0) (ctxPut d.ctx none s)) s)

/-! Preemption (R228 to R230). -/

/-- Messages that a ring of priority `p` may preempt: held, YIELD, of lower priority, their CTX_ID empty, with no
completion waiting. -/
def victims (s : State) (p : Nat) : List (Nat × AOpen) :=
  s.asy.opened.filter fun e =>
    e.2.lane.isSome && e.2.yield && decide (rgPrio s pgASY e.1 < p) && decide (e.2.ctx < 64) && !ctxFull s e.2.ctx &&
    (rgOf s pgASY e.1).done.isEmpty

/-- The lowest priority, then the longest held. -/
def chooseVictim (s : State) (xs : List (Nat × AOpen)) : Option (Nat × AOpen) :=
  xs.foldl (fun b e => match b with
    | none => some e
    | some v =>
      if rgPrio s pgASY e.1 < rgPrio s pgASY v.1 ∨
          (rgPrio s pgASY e.1 = rgPrio s pgASY v.1 ∧ e.2.since < v.2.since) then some e else some v) none

/-- ASY_PREEMPT_SAVE (R219, R228 to R230): a ring that waits while every lane is held stops the message R228 picks; the state
goes to CTX_ID, and a descriptor under way gets an interim completion; the ring goes back to the front of its priority. -/
def execAsyPreemptSave (ring : Nat) (s : State) : Outcome :=
  .next (if !serving s pgASY || !live s pgASY 5 || !waiting s pgASY ring || !(lanesOf pgASY).all (fun l => !laneIdle s pgASY l) then s
    else match chooseVictim s (victims s (rgPrio s pgASY ring)) with
    | none => s
    | some (n, o) =>
      let s := ctxPut o.ctx (some o.msg) (bump pgASY 0x110 1 s)
      let s := openPut n { o with lane := none, msg := {} } s
      match o.part, o.lane with
      | some (d, idx, c), some l =>
        joinFront pgASY n (finishDsc pgASY n l { asyRec d idx stsBUSY_PREEMPTED c 0 o.msg.count
          (asyInfo 0 0 (algOf o.msg.alg).digest) with cflags := cfCTX_SAVED } s)
      | _, _ => joinQueue pgASY s n)

/-! Other commands. -/

/-- GLANE_RESTORE (R232): each lane named that is out runs a self-check and returns where it passes (`pass`, bit g). -/
def execGlaneRestore (value : W32) (pass : Nat) (s : State) : Outcome :=
  .next (atRegister 0 pgASY 0x104 (fun s =>
    let s := commandWrite pgASY 0x104 value s
    let out := rdF s pgASY 0x100 11 8
    wrF pgASY 0x100 11 8 (out - (out &&& bits value 3 0 &&& pass)) s) s)

/-- The words of a lane's result block that RES_SEQ latches (R216): CMP_0, CMP_1, RES_0 to RES_15. -/
def resWords (s : State) (lane : Nat) : List W32 :=
  [rd s pgASY (resOff lane 0x08), rd s pgASY (resOff lane 0x0C)] ++
  (List.range 16).map fun i => rd s pgASY (resOff lane (0x40 + 4 * i))

/-- RES_SEQ_READ (R216): latches the block for the master, and answers RES_SEQ. -/
def execResSeqRead (master lane : Nat) (s : State) : Outcome :=
  .next (atRegister master pgASY (resOff lane 0) (fun s =>
    emit (.csrData master (rd s pgASY (resOff lane 0)))
      { s with asy := { s.asy with latch := Tab.put s.asy.latch (master * 32 + lane) (resWords s lane) } }) s)

/-- RING_DISABLE (R238): EN = 0; the ring's unstarted descriptors complete with ABORTED_DISABLE, once its running
descriptor has completed. The other fields take the word as well. -/
def execRingDisable (page ring : Nat) (value : W32) (s : State) : Outcome :=
  let off := ringOff ring 0x10
  .next (if ringCount page ≤ ring then s
    else atRegister 0 page off (fun s =>
      let was := rgEn s page ring
      let fixed := was && bits value 19 16 != rdF s page off 19 16
      let s := if fixed then conflict page off s else s
      let s := blockWrite page off (if fixed then putBits value 19 16 (rdF s page off 19 16) else value) s
      if was && !rgEn s page ring then settleOff page ring (rgPut page ring { rgOf s page ring with closing := true } s) else s) s)

end Sys2Proof.Machine
end

