-- ==== Sys2Proof/Machine/Crucible.lean ====
section
/-! DEFINITION. Commands of Crucible's general units (spec/07_crucible.md). Contexts lie in DDR-5 at CTX_BASE (R258); the
codecs themselves are `Config.codec`. -/

namespace Sys2Proof.Machine

/-! Descriptor fields (R249). -/
def Dsc.codec (d : Dsc) : Nat := d.param % 4
def Dsc.level (d : Dsc) : Nat := d.param / 4 % 4
def Dsc.rawOk (d : Dsc) : Bool := d.param.testBit 4
def Dsc.zcheck (d : Dsc) : Bool := d.param.testBit 5
def Dsc.wlogField (d : Dsc) : Nat := d.param / 256 % 32
def Dsc.fcs (d : Dsc) : Bool := d.param.testBit 16

abbrev coCOMPRESS : Nat := 1
abbrev coDECOMPRESS : Nat := 2
abbrev coCLEAR : Nat := 10
def cruKnown (op : Nat) : Bool := op == coCOMPRESS || op == coDECOMPRESS || op == coCLEAR

def wlogMax (s : State) : Nat := rdF s pgCRU 0x100 4 0
/-- The window log of a compression: WLOG, or 17 at most (R249); 15 for DEFLATE (R241). -/
def Dsc.wlog (s : State) (d : Dsc) : Nat :=
  if d.codec = 1 then 15 else if d.opcode = coDECOMPRESS then wlogMax s
  else if d.wlogField = 0 then Nat.min 17 (wlogMax s) else d.wlogField

/-! Contexts (R258). -/
def ctxBase (s : State) : Nat := (rd64 s pgCRU 0x110).toNat
def ctxAddr (s : State) (n : Nat) : Nat := ctxBase s + n * 2 ^ (wlogMax s + 1)
def ringAddr (s : State) (n : Nat) : Nat := ctxAddr s n + 2 ^ wlogMax s
def cctxFull (s : State) (n : Nat) : Bool := (rd64 s pgCRU 0x118).toNat.testBit n
def cctxMark (n : Nat) (full : Bool) (s : State) : State :=
  let w := (rd64 s pgCRU 0x118).toNat
  wr64 pgCRU 0x118 (BitVec.ofNat 64 (if full then w ||| 2 ^ n else w - (w &&& 2 ^ n))) s
def ctxState (s : State) (n : Nat) : List Byte := memRead s (ctxAddr s n) 4096
def cimageOk (b : List Byte) : Bool := field b 0 1 == 1 && field b 0xFF8 8 == (crc64 (slice b 0 0xFF8)).toNat

/-- What a stream brings into a descriptor: totals, window, CODER bytes, history. -/
structure Stream where
  inTotal : Nat
  outTotal : Nat
  wlog : Nat
  zcheck : Bool
  ended : Bool
  coder : List Byte
  hist : List Byte
deriving DecidableEq, Repr

/-- A stream that starts. -/
def freshStream (s : State) (d : Dsc) : Stream := ⟨0, 0, d.wlog s, d.zcheck, false, [], []⟩

/-- Bytes of history a stream keeps: all of it, up to its window. -/
def Stream.histLen (x : Stream) (decode : Bool) : Nat := Nat.min (2 ^ x.wlog) (if decode then x.outTotal else x.inTotal)

/-- The last `n` bytes of the ring before HIST_HEAD. -/
def histRead (s : State) (c head n : Nat) : List Byte :=
  let m := 2 ^ wlogMax s
  (List.range n).map fun i => memByte s (ringAddr s c + (head + m * ((n / m) + 1) - n + i) % m)
/-- Put the last bytes of a history before HIST_HEAD. -/
def histWrite (c head : Nat) (bs : List Byte) (s : State) : State :=
  let m := 2 ^ wlogMax s
  (List.range bs.length).foldl (fun t i =>
    memWrite (ringAddr s c + (head + m * ((bs.length / m) + 1) - bs.length + i) % m) [bs.getD i 0] t) s

/-- The stream a context holds. -/
def loadStream (s : State) (c : Nat) : Stream :=
  let b := ctxState s c
  let x : Stream := { inTotal := field b 8 8, outTotal := field b 0x10 8, wlog := field b 3 1
                      zcheck := (field b 2 1).testBit 3, ended := (field b 2 1).testBit 2
                      coder := le 8 (field b 0x20 8) ++ le 1 (field b 4 1) ++ slice b 0x30 4040, hist := [] }
  { x with hist := histRead s c (field b 0x1C 4) (x.histLen ((field b 2 1).testBit 0)) }

/-- The state of a stream after a descriptor, as its context holds it (R258). -/
def streamImage (d : Dsc) (x : Stream) (o : Config.CodecOut) (head : Nat) : List Byte :=
  let b := le 1 1 ++ le 1 d.codec ++
    le 1 (b2n (d.opcode == coDECOMPRESS) + 2 * b2n o.frameOpen + 4 * b2n (x.ended || o.ended) + 8 * b2n x.zcheck) ++
    le 1 x.wlog ++ le 1 o.nbits ++ zeros 3 ++ le 8 x.inTotal ++ le 8 x.outTotal ++ le 4 d.limit ++ le 4 head ++
    le 8 o.bitbuf ++ zeros 8 ++ slice o.coder 0 4040
  b ++ le 8 (crc64 b).toNat

/-- Save a stream into a context (R258): state, the last bytes of its history, FULL; a FULL one is overwritten and counted. -/
def saveStream (d : Dsc) (x : Stream) (o : Config.CodecOut) (s : State) : State :=
  let s := if cctxFull s d.ctx then bump pgCRU 0x138 1 s else s
  let dec := d.opcode == coDECOMPRESS
  let head := (if dec then x.outTotal else x.inTotal) % 2 ^ wlogMax s
  let keep := x.hist.drop (x.hist.length - x.histLen dec)
  cctxMark d.ctx true (histWrite d.ctx head keep (memWrite (ctxAddr s d.ctx) (streamImage d x o head) s))

/-! The tests of R251 that read no buffer, in the order of their codes. -/

/-- The feature a descriptor needs is live (R265). -/
def cruLive (s : State) (d : Dsc) : Bool :=
  live s pgCRU 0 && (d.opcode == coCLEAR || live s pgCRU d.codec) &&
  (live s pgCRU 3 || (d.opcode != coCLEAR && d.first && d.last && !d.save && !d.load)) && (!d.zcheck || live s pgCRU 4)

/-- R253's conditions on RAW_OK. -/
def rawBad (d : Dsc) : Bool :=
  d.rawOk && !(d.first && d.last && decide (d.limit ≤ d.srcLen) && decide (d.srcLen ≤ d.dstLen))

/-- LOAD_CTX with a limit that is not the stream's (R250). -/
def limitDiffers (s : State) (d : Dsc) : Bool :=
  d.load && decide (d.ctx < 64) && cctxFull s d.ctx && cimageOk (ctxState s d.ctx) &&
  field (ctxState s d.ctx) 0x18 4 != d.limit

/-- The code; 0 for none. -/
def cruCode (s : State) (d : Dsc) : Nat :=
  let clear := d.opcode == coCLEAR
  let z := d.codec == 2
  let comp := d.opcode == coCOMPRESS
  if !cruKnown d.opcode || d.rsvdSet || d.keySlot != 0 || d.aux != 0 || d.auxLen != 0 ||
      decide (2 ^ 17 ≤ d.param) || d.param / 64 % 4 != 0 || d.param / 8192 % 8 != 0 ||
      (!clear && !(d.codec == 1 || z)) ||
      (!clear && d.wlogField != 0 && !(comp && z && decide (10 ≤ d.wlogField ∧ d.wlogField ≤ wlogMax s))) ||
      (!clear && d.zcheck && !(comp && z)) || (!clear && (d.rawOk || d.fcs) && !comp) || rawBad d ||
      (d.opcode == coDECOMPRESS && d.limit == 0) || limitDiffers s d || !cruLive s d ||
      (d.srcBuf s).isBad || (d.dstBuf s).isBad then 1
  else if !clear && ((d.first && d.load) || (!d.last && !d.save) || (!d.first && !d.load)) then 2
  else if decide (63 < d.ctx) || ((d.load || d.save || clear) && ctxBase s == 0) || (d.load && !cctxFull s d.ctx) then 4
  else if d.load && (!cimageOk (ctxState s d.ctx) || field (ctxState s d.ctx) 1 1 != d.codec ||
      (field (ctxState s d.ctx) 2 1).testBit 0 != (d.opcode == coDECOMPRESS)) then 5
  else 0

/-! Results. -/

/-- A record of a Crucible descriptor. -/
def cruRec (d : Dsc) (idx status consumed produced detail info : Nat) : Rec :=
  { tag := d.tag, status := status, idx := idx, consumed := consumed, produced := produced, detail := detail % 2 ^ 32
    info := info, event := d.event }

/-- What the descriptor asks of the codec. -/
def cruAsk (d : Dsc) (x : Stream) (src : List Byte) (cap : Nat) : Config.CodecIn where
  decode := d.opcode == coDECOMPRESS
  codec := d.codec
  level := d.level
  wlog := x.wlog
  zcheck := x.zcheck
  fcs := d.fcs && d.first && d.last
  first := d.first
  last := d.last
  coder := x.coder
  hist := x.hist
  src := src
  cap := cap

/-- The stream after a descriptor. -/
def Stream.after (x : Stream) (decode : Bool) (src : List Byte) (o : Config.CodecOut) : Stream :=
  { x with
    inTotal := x.inTotal + o.consumed
    outTotal := x.outTotal + o.output.length
    ended := x.ended || o.ended
    hist := x.hist ++ (if decode then o.output else src.take o.consumed) }

/-- The limit stops the stream (R254, R255): its context is left EMPTY. -/
def overLimit (ring unit : Nat) (d : Dsc) (idx : Nat) (o : Config.CodecOut) (s : State) : State :=
  let s := if decide (d.ctx < 64) && (d.load || d.save) then cctxMark d.ctx false s else s
  hallmark 0x1403 0 ([pw ring, pw d.limit] ++ pw2 o.blockAt) (bump pgCRU 0x124 1
    (finishDsc pgCRU ring unit (cruRec d idx stsLIMIT_EXCEEDED o.consumed o.output.length o.blockAt 0) s))

/-- The destination is full (R255, R257): the state is saved where contexts stand, and the job can be resumed. -/
def partialEnd (ring unit : Nat) (d : Dsc) (idx : Nat) (x : Stream) (o : Config.CodecOut) (s : State) : State :=
  let keep := live s pgCRU 3 && ctxBase s != 0 && decide (d.ctx < 64)
  let s := bump pgCRU 0x120 1 (if keep then saveStream d x o s else s)
  finishDsc pgCRU ring unit { cruRec d idx stsPARTIAL o.consumed o.output.length 0 0 with
    cflags := if keep then cfCTX_SAVED else 0 } s

/-- The descriptor's input is done (R250, R252). -/
def okEnd (ring unit : Nat) (d : Dsc) (idx : Nat) (x : Stream) (o : Config.CodecOut) (s : State) : State :=
  let s := if d.save then saveStream d x o s else s
  let fin := o.ended && d.codec == 1 && d.opcode == coDECOMPRESS
  finishDsc pgCRU ring unit { cruRec d idx stsOK o.consumed o.output.length 0 (b2n fin * 256) with
    cflags := if d.save then cfCTX_SAVED else 0 } s

/-- The end of a run of the codec over the source, `x` before it, space `cap`, of which the limit is `lim` where it is nearer than
the destination's end. -/
def cruEnd (ring unit : Nat) (d : Dsc) (idx : Nat) (x : Stream) (src : List Byte) (o : Config.CodecOut) (limited : Bool)
    (s : State) : State :=
  let dec := d.opcode == coDECOMPRESS
  let s := spansWrite (d.dstBuf s).get o.output s
  match o.error with
  | some (0x18, _) =>
    finishDsc pgCRU ring unit { cruRec d idx stsCHECK_FAIL o.consumed o.output.length 0 0x18 with cflags := cfUNTRUSTED }
      (bump pgCRU 0x130 1 s)
  | some (c, at_) =>
    finishDsc pgCRU ring unit (cruRec d idx stsBAD_INPUT o.consumed o.output.length at_ c)
      (bump pgCRU 0x12C 1 s)
  | none =>
    let y := x.after dec src o
    if o.more then
      if limited then overLimit ring unit d idx o s else partialEnd ring unit d idx y o s
    else okEnd ring unit d idx y o s

/-- A unit whose self-check finds a mismatch is taken out; its descriptor ends with INTERNAL (R246). Cause 0: the self-check. -/
def gunitFail (ring unit : Nat) (d : Dsc) (idx badAt : Nat) (s : State) : State :=
  let s := finishDsc pgCRU ring unit (cruRec d idx stsINTERNAL 0 0 0 0) (undefOut (d.dstBuf s).get (bump pgCRU 0x134 1 s))
  let s := hallmark 0x1402 0 ([pw unit] ++ pw2 badAt) s
  hallmark 0x1401 0 [pw unit, pw 0] (wrF pgCRU 0x108 9 8 (rdF s pgCRU 0x108 9 8 ||| 2 ^ (unit - 32)) s)

/-- COMPRESS and DECOMPRESS once the descriptor has passed the tests of R251. -/
def cruWork (ring unit : Nat) (checkOk : Bool) (badAt : Nat) (d : Dsc) (idx : Nat) (s : State) : State :=
  let ss := (d.srcBuf s).get
  let ds := (d.dstBuf s).get
  if !(d.srcBuf s).usable s || !(d.dstBuf s).usable s then
    finishDsc pgCRU ring unit (cruRec d idx stsMEMORY_ERROR 0 0 0 0) (undefOut ds (busFault [d.srcBuf s, d.dstBuf s] s))
  else
    let x := if d.load then loadStream s d.ctx else freshStream s d
    let s := if d.load then cctxMark d.ctx false s else s
    let src := spansRead s ss
    if x.ended ∧ d.opcode = coDECOMPRESS ∧ d.codec = 1 then
      okEnd ring unit d idx x ⟨0, [], false, true, 0, none, false, 0, 0, x.coder⟩ s
    else if d.opcode = coCOMPRESS ∧ !checkOk then gunitFail ring unit d idx badAt s
    else if d.rawOk then
      let t := if d.limit = 0 then d.srcLen else d.limit
      let o := Config.codec (cruAsk d x src t)
      if o.more then
        finishDsc pgCRU ring unit { cruRec d idx stsOK_RAW d.srcLen d.srcLen 0 0 with cflags := cfRAW }
          (bump pgCRU 0x128 1 (spansWrite ds src s))
      else cruEnd ring unit d idx x src o false s
    else
      let left := d.limit - x.outTotal
      let limited := d.limit != 0 && decide (left ≤ d.dstLen)
      cruEnd ring unit d idx x src (Config.codec (cruAsk d x src (if limited then left else d.dstLen))) limited s

/-- The context that a descriptor loads, saves or clears cannot be reached in memory. -/
def ctxLost (s : State) (d : Dsc) : Bool :=
  (d.load || d.save || d.opcode == coCLEAR) && decide (d.ctx < 64) && ctxBase s != 0 &&
  !bufOk s (ctxAddr s d.ctx) (2 ^ (wlogMax s + 1))

/-- A descriptor of opcode `op` at the head of a ring starts on a unit (R261). Any BAD_INPUT ends the stream (R251): the context that
the descriptor would have resumed is left EMPTY (log entry 163). -/
def cruRun (op ring unit : Nat) (f : Dsc → Nat → State → State) (s : State) : State :=
  let d := headDsc s pgCRU ring
  let idx := rgHead s pgCRU ring % rgSize s pgCRU ring
  if !serving s pgCRU || !posted s pgCRU ring || d.opcode ≠ op || !(rgOf s pgCRU ring).done.isEmpty then s
  else if allOut s pgCRU then startOut pgCRU ring d idx s
  else if !mayTake s pgCRU ring unit then s
  else
    let code := cruCode s d
    let lost := ctxLost s d
    let s := advanceSq pgCRU ring s
    if (code = 0 ∨ code = 5) ∧ lost then
      finishDsc pgCRU ring unit (cruRec d idx stsMEMORY_ERROR 0 0 0 0)
        (undefOut (d.dstBuf s).get (busFault [.ok [(ctxAddr s d.ctx, 2 ^ (wlogMax s + 1))]] s))
    else if code ≠ 0 then
      finishDsc pgCRU ring unit (cruRec d idx stsBAD_INPUT 0 0 0 code)
        (if d.load && decide (d.ctx < 64) then cctxMark d.ctx false s else s)
    else f d idx s

/-- CRU_COMPRESS (R241 to R246, R253 to R257); `checkOk` is the unit's check of its own output. -/
def execCruCompress (ring unit : Nat) (checkOk : Bool) (badAt : Nat) (s : State) : Outcome :=
  .next (cruRun coCOMPRESS ring unit (cruWork ring unit checkOk badAt) s)
/-- CRU_DECOMPRESS (R241, R242, R250 to R257). -/
def execCruDecompress (ring unit : Nat) (s : State) : Outcome :=
  .next (cruRun coDECOMPRESS ring unit (cruWork ring unit true 0) s)

/-- CRU_CTX_CLEAR (R259): the state and the first HIST_HEAD bytes of the ring are zeroised; EMPTY. -/
def execCruCtxClear (ring unit : Nat) (s : State) : Outcome :=
  .next (cruRun coCLEAR ring unit (fun d idx s =>
    let h := field (ctxState s d.ctx) 0x1C 4
    finishDsc pgCRU ring unit (cruRec d idx stsOK 0 0 0 0)
      (cctxMark d.ctx false (memWrite (ringAddr s d.ctx) (zeros h) (memWrite (ctxAddr s d.ctx) (zeros 4096) s)))) s)

/-- GUNIT_RESTORE (R262): each unit named that is out runs a self-check and returns where it passes (`pass`, bit g). -/
def execGunitRestore (value : W32) (pass : Nat) (s : State) : Outcome :=
  .next (atRegister 0 pgCRU 0x10C (fun s =>
    let s := commandWrite pgCRU 0x10C value s
    let out := rdF s pgCRU 0x108 9 8
    wrF pgCRU 0x108 9 8 (out - (out &&& bits value 1 0 &&& pass)) s) s)

end Sys2Proof.Machine
end

