-- ==== Sys2Proof/Machine/Tinning.lean ====
section
/-! DEFINITION. Commands of Tinning (spec/08_tinning.md): the general units' descriptors, key generations, use grants. -/

namespace Sys2Proof.Machine

abbrev toGCM_SEAL : Nat := 1
abbrev toGCM_OPEN : Nat := 2
abbrev toXTS_ENC : Nat := 3
abbrev toXTS_DEC : Nat := 4
abbrev toKEY_LOAD : Nat := 5
abbrev toKEY_ERASE : Nat := 6
def tinKnown (op : Nat) : Bool := decide (1 ≤ op ∧ op ≤ 6)
def opXts (op : Nat) : Bool := op == toXTS_ENC || op == toXTS_DEC
def opCipher (op : Nat) : Bool := decide (1 ≤ op ∧ op ≤ 4)
def Dsc.duLog2 (d : Dsc) : Nat := d.param / 256 % 16
def Dsc.forget (d : Dsc) : Bool := d.param.testBit 0
def Dsc.slot (d : Dsc) : Nat := d.keySlot % 4096

/-- The key-encryption key is derived. -/
def kekReady (s : State) : Bool := bit (rd s pgTIN 0x164) 0

/-- The slot's class is not one the opcode takes (R271, R297). -/
def classBad (op cls : Nat) : Bool :=
  match op with
  | 1 => cls != kcLINK
  | 2 => cls != kcLINK && cls != kcAT_REST
  | 3 | 4 => cls != kcXTS
  | _ => false

/-- The lengths of R297, and a blob's of R285. -/
def lengthBad (d : Dsc) : Bool :=
  match d.opcode with
  | 1 => decide (d.dstLen < d.srcLen + 16) || decide (65536 < d.auxLen)
  | 2 => decide (d.dstLen < d.srcLen) || !decide (28 ≤ d.auxLen ∧ d.auxLen ≤ 65564)
  | 3 | 4 => decide (d.dstLen < d.srcLen) || d.srcLen % 2 ^ d.duLog2 != 0 || decide (2 ^ 24 < d.srcLen) || d.auxLen != 16
  | 5 => !decide (40 ≤ d.srcLen ∧ d.srcLen ≤ 152) || d.srcLen % 8 != 0
  | _ => false

/-- The code of R299 that a descriptor fails with before any key material is read, in the order of the codes; 0 for none. -/
def tinCode (s : State) (d : Dsc) : Nat :=
  if !tinKnown d.opcode || d.rsvdSet || d.limit != 0 || d.dstList ||
      d.param - d.param / 256 % 16 * 256 - d.param % 2 != 0 ||
      (d.forget && d.opcode != toKEY_ERASE) || (d.duLog2 != 0 && !opXts d.opcode) ||
      (opXts d.opcode && !decide (9 ≤ d.duLog2 ∧ d.duLog2 ≤ 12)) ||
      !live s pgTIN 0 || (opXts d.opcode && !live s pgTIN 1) || (d.srcBuf s).isBad then 1
  else if !d.first || !d.last || d.save || d.load || d.ctx != 0 then 2
  else if (slotK s d.slot).loaded && classBad d.opcode (slotK s d.slot).cls then 3
  else if lengthBad d then 4
  else if d.opcode == toKEY_LOAD && !kekReady s then 8
  else if d.opcode == toKEY_LOAD && (slotK s d.slot).loaded then 5
  else if d.opcode == toKEY_ERASE && slotBound s d.slot then 6
  else 0

/-! Running a descriptor. -/

/-- A record of a Tinning descriptor. -/
def tinRec (d : Dsc) (idx status consumed produced detail info : Nat) : Rec :=
  { tag := d.tag, status := status, idx := idx, consumed := consumed, produced := produced, detail := detail
    info := info, event := d.event }

/-- The descriptor is over. -/
def tinEnd (ring unit : Nat) (r : Rec) (s : State) : State := finishDsc pgTIN ring unit r s
/-- A buffer of the descriptor cannot be reached: MEMORY_ERROR, and `out` bytes of the destination are undefined (R59, R60). -/
def tinMemory (ring unit out : Nat) (d : Dsc) (idx : Nat) (s : State) : State :=
  tinEnd ring unit (tinRec d idx stsMEMORY_ERROR 0 0 0 0)
    (undefOut [(d.dst, out)] (busFault [d.srcBuf s, .ok [(d.aux, d.auxLen)], .ok [(d.dst, out)]] s))

/-- A general unit whose check fails is taken out; its descriptor ends with INTERNAL (R301). Cause 0: the internal check. -/
def tunitFail (ring unit : Nat) (d : Dsc) (idx : Nat) (s : State) : State :=
  let s := undefOut [(d.dst, if opCipher d.opcode then d.dstLen else 0)] (bump pgTIN 0x184 1 s)
  let s := tinEnd ring unit (tinRec d idx stsINTERNAL 0 0 0 0) s
  hallmark 0x1505 0 [pw unit, pw 0] (wrF pgTIN 0x104 5 4 (rdF s pgTIN 0x104 5 4 ||| 2 ^ (unit - 36)) s)

/-- A descriptor of opcode `op` at the head of a ring runs on a unit (R261, R300); `f` runs it once it has passed R299. It is read once
(R53): one that waits for uses goes on as it was read. -/
def tinRun (op ring unit : Nat) (ok : Bool) (f : Nat → Dsc → Nat → State → State) (s : State) : State :=
  if !serving s pgTIN then s
  else match (rgOf s pgTIN ring).cur, (rgOf s pgTIN ring).lane with
  | some (d, idx), some u =>
    if d.opcode ≠ op then s else if !ok then tunitFail ring u d idx (dropReq u s) else f u d idx s
  | _, _ =>
    let d := headDsc s pgTIN ring
    let idx := rgHead s pgTIN ring % rgSize s pgTIN ring
    if !posted s pgTIN ring || d.opcode ≠ op || !(rgOf s pgTIN ring).done.isEmpty then s
    else if allOut s pgTIN then startOut pgTIN ring d idx s
    else if !mayTake s pgTIN ring unit then s
    else
      let code := tinCode s d
      let s := advanceSq pgTIN ring s
      if code ≠ 0 then tinEnd ring unit (tinRec d idx stsBAD_INPUT 0 0 code 0) s
      else if opCipher op && !(slotK s d.slot).loaded then tinEnd ring unit (tinRec d idx stsKEY_SLOT_EMPTY 0 0 0 0) s
      else if !ok then tunitFail ring unit d idx s
      else f unit d idx s

/-- Source, auxiliary bytes and destination can be reached. -/
def tinBufs (s : State) (d : Dsc) (out : Nat) : Bool :=
  (d.srcBuf s).usable s && bufOk s d.aux d.auxLen && bufOk s d.dst out

/-- The descriptor's source bytes. -/
def tinSrc (s : State) (d : Dsc) : List Byte := spansRead s (d.srcBuf s).get

/-- A seal on a general unit asks for `k` uses and goes on when they are granted; while it waits it keeps the unit (R293,
R294). -/
def withUses (ring unit k : Nat) (d : Dsc) (idx : Nat) (f : Nat → State → State) (s : State) : State :=
  let s := askUses d.slot k unit s
  match takeGrant unit s with
  | none => rgPut pgTIN ring { rgOf s pgTIN ring with lane := some unit, cur := some (d, idx) } s
  | some (.granted n, t) => f n t
  | some (.exhausted, t) => tinEnd ring unit (tinRec d idx stsKEY_EXHAUSTED 0 0 0 0) t
  | some (.empty, t) => tinEnd ring unit (tinRec d idx stsKEY_SLOT_EMPTY 0 0 0 0) t

/-- GCM_SEAL (R283, R297): nonce SALT ‖ U; ciphertext, then tag; U comes back in DETAIL and INFO. -/
def gcmSealRun (ring unit : Nat) (d : Dsc) (idx : Nat) (s : State) : State :=
  if !tinBufs s d (d.srcLen + 16) then tinMemory ring unit (d.srcLen + 16) d idx s
  else withUses ring unit 1 d idx (fun u s =>
    let k := slotK s d.slot
    let out := gcmSeal k.key (k.salt ++ be 8 u) (memRead s d.aux d.auxLen) (tinSrc s d)
    tinEnd ring unit (tinRec d idx stsOK d.srcLen out.length (u % 2 ^ 32) (u / 2 ^ 32)) (memWrite d.dst out s)) s

/-- GCM_OPEN (R295): plaintext is written as it is decrypted; a tag that fails marks it untrusted. -/
def gcmOpenRun (ring unit : Nat) (d : Dsc) (idx : Nat) (s : State) : State :=
  if !tinBufs s d d.srcLen then tinMemory ring unit d.srcLen d idx s
  else
    let k := (slotK s d.slot).key
    let aux := memRead s d.aux d.auxLen
    let ct := tinSrc s d
    let nonce := aux.take 12
    let pt := gcmCrypt k nonce ct
    let good := gcmTag (aesKeys k) nonce (aux.drop 28) ct == slice aux 12 16
    let s := memWrite d.dst pt s
    if good then tinEnd ring unit (tinRec d idx stsOK d.srcLen d.srcLen 0 0) s
    else
      hallmark 0x1504 0 [pw unit, pw ring] (bump pgTIN 0x170 1
        (tinEnd ring unit { tinRec d idx stsTAG_FAIL d.srcLen d.srcLen 0 0 with cflags := cfUNTRUSTED } s))

/-- The data units of an XTS operation, numbered on from the starting tweak (R284). -/
def xtsUnits (enc : Bool) (key : List Byte) (du : Nat) : Nat → Nat → List Byte → List Byte
  | 0, _, _ => []
  | n + 1, t, bs => xtsUnit enc key (t % 2 ^ 128) (bs.take du) ++ xtsUnits enc key du n (t + 1) (bs.drop du)

/-- The output of an XTS operation goes to the destination. -/
def xtsWrite (enc : Bool) (ring unit : Nat) (d : Dsc) (idx : Nat) (s : State) : State :=
  let du := 2 ^ d.duLog2
  let out := xtsUnits enc (slotK s d.slot).key du (d.srcLen / du) (ofLe (memRead s d.aux 16)) (tinSrc s d)
  tinEnd ring unit (tinRec d idx stsOK d.srcLen out.length 0 0) (memWrite d.dst out s)

/-- XTS_ENC: one use for each data unit (R290). XTS_DEC: none. -/
def xtsEncRun (ring unit : Nat) (d : Dsc) (idx : Nat) (s : State) : State :=
  if !tinBufs s d d.srcLen then tinMemory ring unit d.srcLen d idx s
  else withUses ring unit (d.srcLen / 2 ^ d.duLog2) d idx (fun _ s => xtsWrite true ring unit d idx s) s
def xtsDecRun (ring unit : Nat) (d : Dsc) (idx : Nat) (s : State) : State :=
  if !tinBufs s d d.srcLen then tinMemory ring unit d.srcLen d idx s
  else xtsWrite false ring unit d idx s

/-! Keys (R285 to R288). -/

/-- The default of LIMIT_LOG2 for a class. -/
def limitDefault (cls : Nat) : Nat := if cls = kcLINK then 32 else 44

/-- The unwrapped record keeps R285. -/
def recordGood (b : List Byte) : Bool :=
  let cls := field b 1 1
  let klen := field b 2 1
  let lim := field b 3 1
  decide (16 ≤ b.length) && field b 0 1 == 1 && decide (1 ≤ cls ∧ cls ≤ 4) &&
  (if cls == kcXTS then klen == 64 else if cls == kcDIGEST then decide (16 ≤ klen ∧ klen ≤ 128) else klen == 32) &&
  (if cls == kcDIGEST then lim == 0 else lim == 0 || decide (20 ≤ lim ∧ lim ≤ limitDefault cls)) &&
  (cls == kcLINK || field b 4 4 == 0) && field b 8 8 != 0 && b.length == 16 + klen

/-- The slot a record fills; uses go on from the stored ceiling (R294), loads rise by 1. -/
def slotFrom (s : State) (n : Nat) (b : List Byte) : KSlot :=
  let cls := field b 1 1
  let lim := field b 3 1
  { loaded := true
    cls := cls
    key := slice b 16 (field b 2 1)
    salt := if cls = kcLINK then slice b 4 4 else []
    limit := if cls = kcDIGEST then 0 else 2 ^ (if lim = 0 then limitDefault cls else lim)
    keyId := field b 8 8
    uses := Tab.getD s.tin.counts 0 (field b 8 8)
    loads := (slotK s n).loads + 1 }

/-- A verified record is loaded: slot, count-table entry (R286, R294). -/
def loadKey (ring unit : Nat) (d : Dsc) (idx : Nat) (b : List Byte) (s : State) : State :=
  let id := field b 8 8
  let isNew := (Tab.find? s.tin.counts id).isNone
  if (slotOfKey s id).isSome then tinEnd ring unit (tinRec d idx stsBAD_INPUT 0 0 7 0) s
  else if isNew && decide (16384 ≤ s.tin.counts.length) then tinEnd ring unit (tinRec d idx stsLIMIT_EXCEEDED 0 0 0 0) s
  else
    let x := slotFrom s d.slot b
    let s := slotKPut d.slot x s
    let s := { s with tin := { s.tin with counts := Tab.put s.tin.counts id ((x.uses / 65536 + 1) * 65536) } }
    tinEnd ring unit (tinRec d idx stsOK d.srcLen 0 0 0) (wr pgTIN 0x160 (pw s.tin.counts.length) s)

/-- KEY_LOAD (R285 to R287): the blob is unwrapped under the key-encryption key. -/
def keyLoadRun (ring unit : Nat) (d : Dsc) (idx : Nat) (s : State) : State :=
  if !(d.srcBuf s).usable s then
    tinEnd ring unit (tinRec d idx stsMEMORY_ERROR 0 0 0 0) (busFault [d.srcBuf s] s)
  else match kwUnwrap (kek s) (tinSrc s d) with
  | none =>
    hallmark 0x1503 0 [pw ring, pw d.slot] (bump pgTIN 0x17C 1
      (tinEnd ring unit (tinRec d idx stsCHECK_FAIL d.srcLen 0 0 0) s))
  | some b =>
    if recordGood b then loadKey ring unit d idx b s
    else tinEnd ring unit (tinRec d idx stsBAD_INPUT 0 0 9 0) s

/-- KEY_ERASE (R288): the slot is zeroised and SLOT_LOADS raised; an empty slot is left alone. -/
def keyEraseRun (ring unit : Nat) (d : Dsc) (idx : Nat) (s : State) : State :=
  let x := slotK s d.slot
  let s :=
    if x.loaded then
      let s := slotKPut d.slot { loads := x.loads + 1 } s
      if d.forget then
        let t := { s with tin := { s.tin with counts := Tab.erase s.tin.counts x.keyId } }
        wr pgTIN 0x160 (pw t.tin.counts.length) t
      else s
    else s
  tinEnd ring unit (tinRec d idx stsOK 0 0 0 0) s

/-- GCM_SEAL (R283, R290, R297). -/
def execGcmSeal (ring unit : Nat) (ok : Bool) (s : State) : Outcome :=
  .next (tinRun toGCM_SEAL ring unit ok (gcmSealRun ring) s)
/-- GCM_OPEN (R295). -/
def execGcmOpen (ring unit : Nat) (ok : Bool) (s : State) : Outcome :=
  .next (tinRun toGCM_OPEN ring unit ok (gcmOpenRun ring) s)
/-- XTS_ENC (R284, R290). -/
def execXtsEnc (ring unit : Nat) (ok : Bool) (s : State) : Outcome :=
  .next (tinRun toXTS_ENC ring unit ok (xtsEncRun ring) s)
/-- XTS_DEC (R284). -/
def execXtsDec (ring unit : Nat) (ok : Bool) (s : State) : Outcome :=
  .next (tinRun toXTS_DEC ring unit ok (xtsDecRun ring) s)
/-- KEY_LOAD (R285 to R287). -/
def execKeyLoad (ring unit : Nat) (ok : Bool) (s : State) : Outcome :=
  .next (tinRun toKEY_LOAD ring unit ok (keyLoadRun ring) s)
/-- KEY_ERASE (R288). -/
def execKeyErase (ring unit : Nat) (ok : Bool) (s : State) : Outcome :=
  .next (tinRun toKEY_ERASE ring unit ok (keyEraseRun ring) s)

/-! Key generations (R276 to R282, R791). -/

/-- Codes of KEYGEN_RESULT. -/
abbrev kgFULL_TABLE : Nat := 0x10
abbrev kgNOT_AT_REST : Nat := 0x11
abbrev kgSAME_EPOCH : Nat := 0x12
abbrev kgNONE : Nat := 0x13
abbrev kgLAST_GEN : Nat := 0x14
abbrev kgFENCED : Nat := 0x15

/-- The command ends with a code: BUSY falls, GEN_DONE (R306). -/
def keygenEnd (code : Nat) (s : State) : State :=
  let s := wr pgTIN 0x15C (pw code) { s with tin := { s.tin with cmd := none } }
  event pgTIN 5 (rd s pgTIN 0x15C) s

/-- A refused command changes nothing and records CTRL_CONFLICT (R278, R280). -/
def keygenRefuse (code : Nat) (s : State) : State := keygenEnd code (conflict pgTIN 0x158 s)

/-- The 32 bytes of a generation entry in a KEYGEN message; R588 gives its size alone. -/
def KGen.bytes (g : KGen) : List Byte :=
  le 1 (b2n g.valid + 2 * b2n g.straddle) ++ zeros 7 ++ le 8 g.keyId ++ le 6 g.first ++ zeros 10

/-- ARG of a KEYGEN message (R588). -/
def keygenArg (dom gen : Nat) (retire last : Bool) : Nat :=
  dom + gen * 2 ^ 8 + b2n retire * 2 ^ 16 + b2n last * 2 ^ 17

/-- The command waits: for its write to the quench store, and for the partner's J_ACK where the head has a partner. -/
def keygenStart (c : KCmd) (s : State) : State :=
  let needs := paired s && linkUp s
  let s := wrF pgTIN 0x15C 8 8 1 { s with tin := { s.tin with cmd := some { c with acked := !needs } } }
  if needs then sendW clsJOURNAL 0x16 (keygenArg c.dom c.gen (!c.install) false) c.entry.bytes s else s

/-- BUSY (R306). -/
def keygenBusy (s : State) : Bool := bit (rd s pgTIN 0x15C) 8

/-- KEYGEN_INSTALL (R277, R278): the entry is fixed; the domain's seals wait. -/
def execKeygenInstall (value : W32) (s : State) : Outcome :=
  .next (atRegister 0 pgTIN 0x158 (fun s =>
    let dom := bits value 21 16
    let slot := bits value 11 0
    let k := slotK s slot
    if keygenBusy s ∨ !alive s pgTIN then conflict pgTIN 0x158 s
    else
      let t := commandWrite pgTIN 0x158 value s
      match (List.range 16).find? (fun g => !(genOf s 0 dom g).valid) with
      | none => keygenRefuse kgFULL_TABLE t
      | some g =>
        if !k.loaded ∨ k.cls ≠ kcAT_REST then keygenRefuse kgNOT_AT_REST t
        else if ((currentGen s dom).map fun c => c.2.first == forgeEpoch s 0).getD false then keygenRefuse kgSAME_EPOCH t
        else
          let straddle := (currentGen s dom).isSome && Tab.find? s.tin.sealedIn dom == some (forgeEpoch s 0)
          keygenStart ⟨true, dom, g, ⟨true, straddle, k.keyId, forgeEpoch s 0⟩, false⟩ t) s)

/-- KEYGEN_RETIRE (R280). -/
def execKeygenRetire (value : W32) (s : State) : Outcome :=
  .next (atRegister 0 pgTIN 0x158 (fun s =>
    let dom := bits value 21 16
    if keygenBusy s ∨ !alive s pgTIN then conflict pgTIN 0x158 s
    else
      let t := commandWrite pgTIN 0x158 value s
      match oldestGen (gensOf s 0 dom) with
      | none => keygenRefuse kgNONE t
      | some (g, x) =>
        if (gensOf s 0 dom).length = 1 then keygenRefuse kgLAST_GEN t
        else keygenStart ⟨false, dom, g, { x with valid := false }, false⟩ t) s)

/-- KEYGEN_EFFECT (R277, R280): the quench-store write is done; once the partner has answered as well, the change is in force. -/
def execKeygenEffect (s : State) : Outcome :=
  .next (match s.tin.cmd with
    | none => s
    | some c =>
      if !c.acked then s
      else
        let s := genPut 0 c.dom c.gen (if c.entry.valid then c.entry else {}) s
        let s := hallmark 0x1506 0 ([pw 0, pw c.dom, pw c.gen, pw (if c.install then 1 else 2)] ++ pw2 c.entry.first) s
        keygenEnd 0 s)

/-- KEYGEN from the partner (R281, R589): an entry goes into PARTNER at its GEN index; END drops the entries that no
message has written since link-up. The copy written is acknowledged. -/
def execKeygen (dom gen : Nat) (retire last straddle : Bool) (keyId : W64) (first : Nat) (s : State) : Outcome :=
  let s := takeRx 0x16 s
  let s :=
    if last then
      { s with tin := { s.tin with
          gens := s.tin.gens.filter fun e => decide (e.1 < 1024) || s.tin.fresh.contains e.1
          fresh := [] } }
    else
      let g : KGen := if retire then {} else ⟨true, straddle, keyId.toNat, first⟩
      let s := genPut 1 dom gen g { s with tin := { s.tin with fresh := genKey 1 dom gen :: s.tin.fresh } }
      hallmark 0x1506 0 ([pw 1, pw dom, pw gen, pw (if retire then 2 else 1)] ++ pw2 first) s
  .next (sendW clsJOURNAL 0x14 (0x16 + keygenArg dom gen retire last * 256) [] s)

/-- USE_GRANT (R290 to R294): a unit asks for uses of a slot, and requests are answered in their order. -/
def execUseGrant (slot unit uses : Nat) (s : State) : Outcome :=
  .next (if alive s pgTIN then askUses slot uses unit s else s)

/-- CEILING_WRITE_DONE (R294): the ceiling the first waiting request met is raised by 65,536 in the quench store; the waiting
requests go on. -/
def execCeilingWriteDone (slot : Nat) (s : State) : Outcome :=
  let x := slotK s slot
  .next (match headReq s slot with
    | none => s
    | some r =>
      if x.loaded && decide (x.uses + r.2.2 ≤ x.limit) && decide (ceiling s slot < x.uses + r.2.2) then
        serveUses slot s.tin.reqs.length { s with tin := { s.tin with
          counts := Tab.put s.tin.counts x.keyId (ceiling s slot + 65536) } }
      else s)

/-- TIN_UNIT_RESTORE (R301): each port or general unit named that is out checks itself and returns where it passes (`pass`: bits
3:0 port units, 9:8 general units). -/
def execTinUnitRestore (value : W32) (pass : Nat) (s : State) : Outcome :=
  .next (atRegister 0 pgTIN 0x108 (fun s =>
    let s := commandWrite pgTIN 0x108 value s
    let p := rdF s pgTIN 0x104 11 8
    let g := rdF s pgTIN 0x104 5 4
    wrF pgTIN 0x104 11 8 (p - (p &&& bits value 3 0 &&& pass))
      (wrF pgTIN 0x104 5 4 (g - (g &&& bits value 9 8 &&& pass / 256)) s)) s)

end Sys2Proof.Machine
end

