-- ==== Sys2Proof/Machine/Engines.lean ====
section
/-! DEFINITION. What the three engines share beyond their opcodes: the doorbell and the write of completions (R53, R55 to R58, R227,
R231). -/

namespace Sys2Proof.Machine

/-- The page is an engine page with this ring. -/
def ringThere (p n : Nat) : Bool := decide (n < ringCount p)

/-- The opcode is one of the engine's. -/
def opcodeOf (p op : Nat) : Bool :=
  if p = pgASY then asyKnown op else if p = pgCRU then cruKnown op else tinKnown op

/-- The lane a descriptor of the ring would run on: that of its open message, else the lowest free one. -/
def laneOf (s : State) (p n : Nat) : Option Nat :=
  match (if p = pgASY then (Tab.find? s.asy.opened n).bind (·.lane) else none) with
  | some l => some l
  | none => (freeLanes s p).head?

/-- A descriptor of unknown opcode at the head of a ring completes with BAD_INPUT (R55). -/
def runUnknown (p : Nat) (s : State) (n : Nat) : State :=
  let d := headDsc s p n
  if !serving s p || !posted s p n || opcodeOf p d.opcode then s
  else if allOut s p then
    if (rgOf s p n).done.isEmpty then startOut p n d (rgHead s p n % rgSize s p n) s else s
  else match laneOf s p n with
  | none => s
  | some l =>
    if p = pgASY then asyCtxRun d.opcode n l true (fun _ _ _ s => s) s
    else if p = pgCRU then cruRun d.opcode n l (fun _ _ s => s) s
    else tinRun d.opcode n l true (fun _ _ _ s => s) s

/-- Every ring whose next descriptor has an unknown opcode and can be taken: each such descriptor holds its lane until its record is
written. -/
def settleUnknown (p : Nat) (s : State) : State := (List.range (ringCount p)).foldl (runUnknown p) s

/-- ENGINE_DOORBELL (R31, R53, R227): SQ_TAIL takes the word; a ring that comes to wait for a lane joins the lane queue. -/
def execEngineDoorbell (page ring : Nat) (value : W32) (s : State) : Outcome :=
  .next (if !ringThere page ring then s
    else atRegister 0 page (ringOff ring 0x14) (fun s =>
      settleUnknown page (joinQueues page (blockWrite page (ringOff ring 0x14) value s))) s)

/-- ENGINE_COMPLETION_WRITE (R56 to R58, R227, R231): a ring's waiting records are written while its completion ring has room, VALID
last; a lane with none left is free, and the ring takes its place at the end of its priority. -/
def execEngineCompletionWrite (page ring : Nat) (s : State) : Outcome :=
  .next (if !ringThere page ring || (rgOf s page ring).done.isEmpty || inQ s then s
    else
      let s := settleOff page ring (flushRecs page ring (rgOf s page ring).done.length s)
      settleUnknown page (joinQueues page s))

end Sys2Proof.Machine
end

