-- ==== Sys2Proof/Machine/CheckUnits.lean ====
section
/-! DEFINITION. Commands of the check-value units (spec/16_check_values.md). -/

namespace Sys2Proof.Machine

/-- The page of CVU_n. -/
def cvuPage (n : Nat) : Nat := pgCVU + n
/-- The internal state of CVU_n. -/
def cvuOf (s : State) (n : Nat) : Cvu := Tab.getD s.cvu {} n
def cvuPut (n : Nat) (x : Cvu) (s : State) : State := { s with cvu := Tab.setD s.cvu {} n x }

/-- CVU_CFG fields (R618). -/
def cvuAlg (s : State) (n : Nat) : Nat := rdF s (cvuPage n) 0x104 25 24
def cvuMode (s : State) (n : Nat) : Nat := rdF s (cvuPage n) 0x104 21 20
def cvuArmed (s : State) (n : Nat) : Bool := bit (rd s (cvuPage n) 0x104) 4

/-- The initial value of an algorithm's CRC register (R605). -/
def crcInit (alg : Nat) : W64 := if alg = 0 then 0xFFFFFFFF#64 else if alg = 1 then 0xFFFFFFFFFFFFFFFF#64 else 0

/-- Run an algorithm's CRC register over bytes (R605). -/
def crcRun (alg : Nat) (raw : W64) (bs : List Byte) : W64 :=
  if alg = 0 then (bs.foldl (crcByteR poly32c) (raw.setWidth 32)).setWidth 64
  else if alg = 1 then bs.foldl (crcByteR poly64n) raw
  else if alg = 2 then (bs.foldl crcByteT10 (raw.setWidth 16)).setWidth 64
  else 0

/-- The finalised value of an algorithm's CRC register (R605). -/
def crcFinal (alg : Nat) (raw : W64) : W64 :=
  if alg = 0 then raw ^^^ 0xFFFFFFFF#64 else if alg = 1 then raw ^^^ 0xFFFFFFFFFFFFFFFF#64 else raw

/-- The width in bytes of an algorithm's value. -/
def algBytes (alg : Nat) : Nat := if alg = 0 then 4 else if alg = 1 then 8 else if alg = 2 then 2 else 0

/-- The field at CHK_OFF: little-endian, but big-endian for the T10 guard (R608). -/
def carried (alg : Nat) (bs : List Byte) (off : Nat) : Nat :=
  let f := slice bs off (algBytes alg)
  if alg = 2 then ofLe f.reverse else ofLe f

/-- The producer and consumer pages of a tap and an instance (R603); none for a tap or an instance the table does not name. -/
def tapPages (src inst : Nat) : Option (List Nat) :=
  let one := fun (ps : List Nat) => if inst = 0 then some ps else none
  let per := fun (n : Nat) (ps : List Nat) => if inst < n then some ps else none
  match src with
  | 0x01 => one [pgXPT, pgHQ]
  | 0x02 => one [pgHQ, pgXPT]
  | 0x03 => one [pgXPT, pgWC]
  | 0x04 => one [pgWC, pgWDL]
  | 0x05 => one [pgWDL, pgWC]
  | 0x06 => per 16 [pgWC, pgFRG + inst]
  | 0x07 => per 16 [pgFRG + inst, pgING]
  | 0x08 => per 96 [pgING, pgFLX + inst]
  | 0x09 => one [pgING, pgQST]
  | 0x0A => one [pgLDG, pgQST]
  | 0x0B => per 96 [pgFLX + inst, pgDRP + inst % 16]
  | 0x0C => per 16 [pgDRP + inst, pgXPT]
  | 0x0D => one [pgRPL, pgXPT]
  | 0x20 => per 5 [pgWDL]
  | 0x21 => per 5 [pgWDL]
  | 0x22 => one [pgWDL]
  | _ => none

/-- The unit runs in LAND, whatever its CVU_CFG holds (R615). -/
def landing (s : State) (n : Nat) : Bool := decide (n < 2) && running s pgWC

/-- The unit covers traffic of its tap: its page is in RUN, it is armed and no LAND unit, no quench has begun, and neither end of its tap
is OFF (R604, R611, R615, R616). -/
def cvuCovers (s : State) (n : Nat) : Bool :=
  running s (cvuPage n) && cvuArmed s n && !landing s n && !inQ s &&
  match tapPages (rdF s (cvuPage n) 0x100 7 0) (rdF s (cvuPage n) 0x100 23 16) with
  | none => false
  | some ps => ps.all fun p => pgState s p != stOFF

/-- The alive counter's width in bytes (R609). -/
def aliveBytes (w : Nat) : Nat := if w = 0 then 0 else 2 ^ (w - 1)

/-- The message is long enough for every field the configuration reads (R607). -/
def longEnough (s : State) (n : Nat) (bs : List Byte) : Bool :=
  let p := cvuPage n
  let cfg := rd s p 0x104
  (!bit cfg 8 || decide (rdF s p 0x108 15 0 + 4 ≤ bs.length)) &&
  (!(bit cfg 16 && cvuMode s n == 1) || decide (rdF s p 0x118 15 0 + algBytes (cvuAlg s n) ≤ bs.length)) &&
  (bits cfg 13 12 == 0 || decide (rdF s p 0x114 15 0 + aliveBytes (bits cfg 13 12) ≤ bs.length))

/-- The message passes the gate (R607). -/
def gatePasses (s : State) (n : Nat) (bs : List Byte) : Bool :=
  let p := cvuPage n
  !bit (rd s p 0x104) 8 ||
  BitVec.ofNat 32 (field bs (rdF s p 0x108 15 0) 4) &&& rd s p 0x110 == rd s p 0x10C

/-- The ALIVE event and hallmark 0x2802 (R610). -/
def aliveFault (n last counter d : Nat) (s : State) : State :=
  let p := cvuPage n
  hallmark 0x2802 n [pw (rdF s p 0x100 7 0), pw (rdF s p 0x100 23 16), pw last, pw counter, pw d]
    (event p 3 (rd s p 0x130) s)

/-- Follow the alive counter of a covered message (R609, R610). -/
def followAlive (n : Nat) (bs : List Byte) (s : State) : State :=
  let p := cvuPage n
  let w := rdF s p 0x104 13 12
  if w = 0 then s
  else
    let width := 8 * aliveBytes w
    let c := field bs (rdF s p 0x114 15 0) (aliveBytes w)
    let last := (rd s p 0x130).toNat
    let runs := rdF s p 0x134 3 0
    if !bit (rd s p 0x134) 31 then wrF p 0x134 31 31 1 (wr p 0x130 (BitVec.ofNat 32 c) s)
    else
      let d := (c + 2 ^ width - last % 2 ^ width) % 2 ^ width
      if d = 1 then wrF p 0x134 3 0 0 (wr p 0x130 (BitVec.ofNat 32 c) s)
      else if d = 0 then
        let s := wrF p 0x134 3 0 (Nat.min 15 (runs + 1)) (bump p 0x154 1 s)
        if runs + 1 = rdF s p 0x104 3 0 then aliveFault n last c 0 s else s
      else
        aliveFault n last c d (wr p 0x138 (BitVec.ofNat 32 d)
          (wrF p 0x134 3 0 0 (wr p 0x130 (BitVec.ofNat 32 c) (bump p 0x158 1 s))))

/-- Compare a message's value with the field it carries (R608). -/
def checkMessage (n : Nat) (bs : List Byte) (v : W64) (s : State) : State :=
  let p := cvuPage n
  let alg := cvuAlg s n
  if bit (rd s p 0x104) 16 && alg != 3 then
    let f := carried alg bs (rdF s p 0x118 15 0)
    if v.toNat = f then s
    else
      let words := fun (x : Nat) => if alg = 1 then pw2 x else [pw x]
      hallmark 0x2801 n ([pw (rdF s p 0x100 7 0), pw (rdF s p 0x100 23 16)] ++ words v.toNat ++ words f)
        (event p 2 (rd s p 0x120) (bump p 0x150 1 s))
  else s

/-- The covered bytes: up to CHK_OFF with CHECK_EN, else the whole message (R606). -/
def coveredBytes (s : State) (n : Nat) (bs : List Byte) : List Byte :=
  if bit (rd s (cvuPage n) 0x104) 16 then bs.take (rdF s (cvuPage n) 0x118 15 0) else bs

/-- One covered message: STREAM runs one value and counts beats of 128 bytes, MESSAGE yields a value and checks it
(R606, R608, R613). LAND units write the slot header as the grain lands (R312). -/
def coverMessage (n : Nat) (bs : List Byte) (s : State) : State :=
  let p := cvuPage n
  let alg := cvuAlg s n
  let cov := coveredBytes s n bs
  if cvuMode s n = 0 then
    let x := cvuOf s n
    let raw := crcRun alg x.raw cov
    let s := bump64 p 0x140 cov.length s
    let s := cvuPut n { x with raw := raw, bytes := x.bytes + cov.length } s
    wr p 0x120 (rd s p 0x120 + BitVec.ofNat 32 ((x.bytes + cov.length) / 128 - x.bytes / 128)) (wr64 p 0x128 (crcFinal alg raw) s)
  else if cvuMode s n = 1 then
    let v := crcFinal alg (crcRun alg (crcInit alg) cov)
    let s := bump64 p 0x140 cov.length (wr64 p 0x128 v s)
    checkMessage n bs v (wr p 0x120 (rd s p 0x120 + 1) s)
  else s

/-- CVU_MESSAGE (R603, R606 to R610): a whole message passes the unit's tap. -/
def execCvuMessage (unit : Nat) (bytes : List Byte) (s : State) : Outcome :=
  .next (if !cvuCovers s unit then s
    else if !longEnough s unit bytes then bump (cvuPage unit) 0x160 1 s
    else if !gatePasses s unit bytes then bump (cvuPage unit) 0x15C 1 s
    else followAlive unit bytes (coverMessage unit bytes s))

/-- A CVU_CFG word selects only features that are live (R617). -/
def cvuFeatOk (s : State) (n : Nat) (v : W32) : Bool :=
  (bits v 25 24 == 3 || live s (cvuPage n) 0) && (!bit v 16 || live s (cvuPage n) 1) &&
  (bits v 13 12 == 0 || live s (cvuPage n) 2)

/-- A CVU_CFG word has a MODE the unit takes: LAND on CVU_0 and CVU_1 alone, never 0x3 (R615, R618). -/
def cvuModeOk (n : Nat) (v : W32) : Bool := bits v 21 20 != 3 && (bits v 21 20 != 2 || decide (n < 2))

/-- A write of CVU_CFG (R611, R612, R615, R617): ARM = 1 clears RESULT, BYTES, ALIVE_LAST and BASE; while ARM is 1 the
other fields keep their values, and a change of one records CTRL_CONFLICT. -/
def cvuCfgWrite (n : Nat) (v : W32) (s : State) : State :=
  let p := cvuPage n
  let old := rd s p 0x104
  if locked s p 3 then recordFault p cLOCKED_WRITE 0x104 s
  else if landing s n || !cvuModeOk n v || !cvuFeatOk s n v then conflict p 0x104 s
  else
    let t := blockWrite p 0x104 v s
    let keep := bit old 4 && putBits (rd t p 0x104) 4 4 0 != putBits old 4 4 0
    let t := if keep then conflict p 0x104 (wr p 0x104 (putBits old 4 4 (bits v 4 4)) t) else t
    if bit v 4 then
      cvuPut n { cvuOf t n with raw := crcInit (cvuAlg t n), bytes := 0 }
        (wrF p 0x134 31 31 0 (wr p 0x130 0 (wr64 p 0x140 0 (wr64 p 0x128 0 t))))
    else t

/-- A write of CVU_TAP: only while ARM is 0 (R611, R615). -/
def cvuTapWrite (n : Nat) (v : W32) (s : State) : State :=
  gatedWrite (cvuPage n) 0x100 (landing s n || cvuArmed s n) v s

/-- CVU_ARM (R611). -/
def execCvuArm (unit : Nat) (value : W32) (s : State) : Outcome := .next (cvuCfgWrite unit (putBits value 4 4 1) s)
/-- CVU_DISARM (R611). -/
def execCvuDisarm (unit : Nat) (value : W32) (s : State) : Outcome := .next (cvuCfgWrite unit (putBits value 4 4 0) s)

/-- CVU_RES_SEQ_READ (R613): answers RES_SEQ and latches RESULT for the master. -/
def execCvuResSeqRead (master unit : Nat) (s : State) : Outcome :=
  let x := cvuOf s unit
  .next (emit (.csrData master (rd s (cvuPage unit) 0x120))
    (cvuPut unit { x with latch := (master, rd64 s (cvuPage unit) 0x128) :: x.latch.filter fun e => e.1 != master } s))

/-- RESULT as a master reads it: the value latched by its last RES_SEQ read, else live (R613). -/
def cvuResult (s : State) (master unit : Nat) : W64 :=
  match (cvuOf s unit).latch.find? fun e => e.1 == master with
  | some e => e.2
  | none => rd64 s (cvuPage unit) 0x128

/-- The far side of a tap's crossing is reset: the unit clears BASE (R614). -/
def cvuFarReset (ps : List Nat) (s : State) : State :=
  (List.range 64).foldl (fun s n =>
    match tapPages (rdF s (cvuPage n) 0x100 7 0) (rdF s (cvuPage n) 0x100 23 16) with
    | some qs => if qs.any ps.contains then wrF (cvuPage n) 0x134 31 31 0 s else s
    | none => s) s

end Sys2Proof.Machine
end

