-- ==== Sys2Proof/Machine/EventQueues.lean ====
section
/-! DEFINITION. Commands of the event queue controller (spec/18_event_queues.md). -/

namespace Sys2Proof.Machine

/-- The event record of R655. -/
def evRecord (code flags source : Nat) (info time : W32) (count : Nat) (phase : Bool) : List Byte :=
  le 1 code ++ le 1 flags ++ le 2 source ++ le 4 info.toNat ++ le 4 time.toNat ++ le 2 count ++ [0#8] ++ le 1 (b2n phase)

/-- The record a PENDING source puts into its ring: CODE is the line, RFLAGS carry PRIO, SHARED and MERGED. -/
def srcRecord (s : State) (k : Nat) (phase : Bool) : List Byte :=
  let x := srcOf s k
  let priv := srcIsPrivate k
  evRecord (if priv then (k - 0x100000) % 32 else k % 16)
    (srcPrio s k + (if priv then 0 else 8) + (if 1 < x.count then 16 else 0))
    (if priv then 0 else k / 16) x.info x.time x.count phase

/-- The waiting source written next: highest PRIO, then earliest first occurrence (R652). -/
def ringNext (s : State) (c : Nat) : Option Nat :=
  (ringWaiting s c).foldl (fun best k =>
    match best with
    | none => some k
    | some b =>
      if srcPrio s b < srcPrio s k then some k
      else if srcPrio s k = srcPrio s b ∧ (srcOf s k).order < (srcOf s b).order then some k
      else some b) none

/-- Advance PROD; a ring that wraps starts its next pass with the other PHASE (R656). -/
def advanceProd (c : Nat) (s : State) : State :=
  let n := (ringProd s c + 1) % ringSize s c
  let s' := wrF pgEQC (ringReg c 0x0C) 31 16 n s
  if n = 0 then
    { s' with eqc := { s'.eqc with
        phase0 := if s.eqc.phase0.contains c then s.eqc.phase0.filter (· != c) else c :: s.eqc.phase0 } }
  else s'

/-- EVENT_RING_WRITE (R652, R655, R656, R658): EQC in RUN writes the next record of a ring that is enabled and has
a free entry; its source becomes ACTIVE. In a quench no record is written (R661). -/
def ringWrite (c : Nat) (s : State) : State :=
  if running s pgEQC && ringEn s c && !inQ s then
    match ringNext s c with
    | none => s
    | some k =>
      if ringFull s c then noteFull k s
      else
        let a := (rd64 s pgEQC (ringReg c 0)).toNat + ringProd s c * 16
        let rec' := srcRecord s k (!s.eqc.phase0.contains c)
        advanceProd c (memWrite a rec' (srcPut k { srcOf s k with st := .active } s))
  else s

/-- The interrupt line of a core: high while its enabled ring holds records, or while EQC is in FAULT (R657,
R661). -/
def irqLine (s : State) (c : Nat) : Bool :=
  ringEn s c && (pgState s pgEQC == stFAULT || ringProd s c != ringCons s c)

/-- Complete a source's record (R653, R654). -/
def evqDone (k : Nat) (s : State) : State :=
  let x := srcOf s k
  if x.st ≠ .active then bump pgEQC 0x640 1 s
  else
    let y := { x with held := 0, heldInfo := 0, heldTime := 0 }
    if x.held = 0 then srcPut k { y with st := .idle } s
    else if srcMasked s k then
      if live s pgEQC 1 then
        srcPut k { y with
          st := .idle
          latched := true
          latCount := min (x.held + (if x.latched then x.latCount else 0)) 0xFFFF
          latInfo := if x.latched then mergeInfo k x.heldInfo x.latInfo else x.heldInfo
          latTime := x.heldTime } s
      else bump pgEQC 0x648 x.held (srcPut k { y with st := .idle } s)
    else srcForm k { y with count := x.held, info := x.heldInfo, time := x.heldTime } s

/-- A mask is set at a source: a PENDING record is withdrawn and latched, or discarded (R659). -/
def maskSet (k : Nat) (s : State) : State :=
  let x := srcOf s k
  if x.st = .pending then
    if live s pgEQC 1 then
      srcPut k { x with
        st := .idle
        count := 0
        latched := true
        latCount := x.count
        latInfo := x.info
        latTime := x.time } s
    else bump pgEQC 0x648 x.count (srcPut k { x with st := .idle, count := 0 } s)
  else s

/-- A mask is cleared at a source: latched occurrences form a record, or add to HELD (R659). -/
def maskClear (k : Nat) (s : State) : State :=
  let x := srcOf s k
  if x.latched then
    let y := { x with latched := false, latCount := 0, latInfo := 0, latTime := 0 }
    match x.st with
    | .idle => srcForm k { y with count := x.latCount, info := x.latInfo, time := x.latTime } s
    | .active => srcPut k { y with held := min (x.held + x.latCount) 0xFFFF
                                   heldInfo := if x.held = 0 then x.latInfo else mergeInfo k x.heldInfo x.latInfo
                                   heldTime := if x.held = 0 then x.latTime else x.heldTime } s
    | .pending => s
  else s

/-- The shared source that SRC_SEL selects (R663). -/
def selSource (s : State) : Nat := srcShared (rdF s pgEQC 0x610 23 8) (rdF s pgEQC 0x610 3 0)

/-- A write of SRC_CFG.MASK for the selected source. -/
def srcCfgWrite (v : W32) (s : State) : State :=
  let k := selSource s
  let m := bit v 0
  let s := commandWrite pgEQC 0x614 v s
  if m = (srcOf s k).mask then s
  else
    let s := srcPut k { srcOf s k with mask := m } s
    if m then maskSet k s else maskClear k s

/-- The effect of a changed PRIV_MASK bit on one private source. -/
def privMaskOne (c : Nat) (old new : W32) (s : State) (n : Nat) : State :=
  if bit new n && !bit old n then maskSet (srcPrivate c n) s
  else if !bit new n && bit old n then maskClear (srcPrivate c n) s
  else s

/-- A write of PRIV_MASK of core `c`. -/
def privMaskWrite (c : Nat) (v : W32) (s : State) : State :=
  let old := rd s pgEQC (ringReg c 0x18)
  (List.range 32).foldl (privMaskOne c old v) (wr pgEQC (ringReg c 0x18) v s)

/-- A write of RING_CFG: LOG2_SIZE takes a value only while EN is 0; elsewhere a change of it is ignored and
records CTRL_CONFLICT (R662). The write that raises EN begins a pass with PHASE 1 (R656). -/
def ringCfgWrite (c : Nat) (v : W32) (s : State) : State :=
  let off := ringReg c 0x08
  let old := rd s pgEQC off
  let size := bits old 19 16
  let s' := blockWrite pgEQC off v s
  if bit old 0 && rdF s' pgEQC off 19 16 != size then conflict pgEQC off (wrF pgEQC off 19 16 size s')
  else if !bit old 0 && bit (rd s' pgEQC off) 0 then
    { s' with eqc := { s'.eqc with phase0 := s'.eqc.phase0.filter (· != c) } }
  else s'

/-- EVENT_RING_WRITE (R652). -/
def execEventRingWrite (core : Nat) (s : State) : Outcome := .next (ringWrite core s)

/-- SIGNAL (R648): only a control core raises SIGNAL_n; INFO names the writer. Without SIGNALS live nothing is
raised (R663, bit 0). -/
def execSignal (master : Nat) (value : W32) (s : State) : Outcome :=
  .next (if 32 ≤ master then conflict pgEQC 0x600 s
    else
      let s := commandWrite pgEQC 0x600 value s
      if live s pgEQC 0 then
        occur (srcPrivate (bits value 20 16) (bits value 4 0)) (BitVec.ofNat 32 (2 ^ master)) s
      else if alive s pgEQC then s else bump pgEQC 0x650 1 s)

/-- The source that an EVQ_DONE word names, `none` where it names no source (R654, R663). -/
def doneSource (v : W32) : Option Nat :=
  if bit v 31 then
    if pageExists (bits v 23 8) && decide (bits v 4 0 < 16) then some (srcShared (bits v 23 8) (bits v 4 0)) else none
  else some (srcPrivate (bits v 28 24) (bits v 4 0))

/-- EVQ_DONE (R653, R654): completes an ACTIVE source's record; anything else is stray. -/
def execEvqDone (value : W32) (s : State) : Outcome :=
  let s := commandWrite pgEQC 0x604 value s
  .next (match doneSource value with
    | some k => evqDone k s
    | none => bump pgEQC 0x640 1 s)

/-- SRC_MASK_WRITE (R659): `core` names the PRIV_MASK written; `none` is SRC_CFG. -/
def execSrcMaskWrite (core : Option Nat) (value : W32) (s : State) : Outcome :=
  .next (match core with
    | some c => privMaskWrite c value s
    | none => srcCfgWrite value s)

/-- RING_CONS_WRITE (R657): frees entries up to CONS. -/
def execRingConsWrite (core : Nat) (value : W32) (s : State) : Outcome :=
  .next (wrF pgEQC (ringReg core 0x0C) 15 0 (bits value 15 0) s)

/-- EVENT_RING_ENABLE (R658): a write of RING_CFG. -/
def execEventRingEnable (core : Nat) (value : W32) (s : State) : Outcome := .next (ringCfgWrite core value s)

/-- EQC entering RUN from START: every source is IDLE with no latched count (R661). Masks stay. -/
def eqcClear (s : State) : State :=
  { s with eqc := { s.eqc with
      src := s.eqc.src.filterMap fun e => if e.2.mask then some (e.1, { ({} : Src) with mask := true }) else none } }

/-- PENDING records discarded at the end of EQC's disable bound count in DISCARDED (R662). -/
def eqcDiscard (s : State) : State :=
  let n := (s.eqc.src.filter fun e => decide (e.2.st = .pending)).length
  bump pgEQC 0x650 n { s with eqc := { s.eqc with
    src := s.eqc.src.map fun e => if e.2.st = .pending then (e.1, { e.2 with st := .idle, count := 0 }) else e } }

end Sys2Proof.Machine
end

