-- ==== Sys2Proof/Machine/HallmarkLog.lean ====
section
/-! DEFINITION. Commands of the Hallmark log and the Touchmark banks (spec/19_hallmark_touchmark.md). -/

namespace Sys2Proof.Machine

/-! Hallmark. -/

/-- Where the Hallmark log begins in the quench store (R338). -/
abbrev hlmBase : Nat := 0x150000000

/-- The slot of the hallmark of a SEQ (R666). -/
def hlmSlot (seq : Nat) : Nat := if seq < 4096 then seq else 4096 + (seq - 4096) % 61440

/-- Bytes 0x00 to 0x37 of a hallmark (R664). -/
def hlmBody (seq rflags : Nat) (r : HlmRec) : List Byte :=
  le 8 seq ++ le 2 r.code ++ le 1 r.inst ++ le 1 rflags ++ le 4 r.poh.toNat ++ le 4 r.cycles.toNat ++
  le 4 r.usec.toNat ++ le 2 r.suppressed ++ [0#8, 0#8] ++
  (List.range 7).flatMap fun i => le 4 (r.payload.getD i 0).toNat

/-- The MARK of a SEQ: the complement of its low 32 bits (R664). -/
def hlmMark (seq : Nat) : Nat := 0xFFFFFFFF - seq % 2 ^ 32

/-- The 64 bytes of a hallmark. -/
def hlmBytes (seq rflags : Nat) (r : HlmRec) : List Byte :=
  hlmBody seq rflags r ++ le 4 (crc32c (hlmBody seq rflags r)).toNat ++ le 4 (hlmMark seq)

/-- The 64 bytes of a slot hold a hallmark: MARK is the complement of SEQ and the CRC is right (R668). -/
def hlmValid (bs : List Byte) : Bool :=
  field bs 0x3C 4 == hlmMark (field bs 0 8) && field bs 0x38 4 == (crc32c (slice bs 0 0x38)).toNat

/-- Set NEXT_SEQ and, with it, OLDEST_SEQ: the larger of 4,096 and NEXT_SEQ − 61,440 (R669, R686). -/
def setNextSeq (n : Nat) (s : State) : State :=
  wr64 pgHLM 0x148 (BitVec.ofNat 64 (Nat.max 4096 (n - 61440))) (wr64 pgHLM 0x140 (BitVec.ofNat 64 n) s)

/-- RFLAGS of the next hallmark: LOSS, HEAD_ID, QUENCH (R664, R672, R675). -/
def hlmFlags (s : State) : Nat :=
  b2n s.hlm.loss + 2 * rdF s pgLDG 0x108 0 0 + 4 * b2n (inQ s)

/-- Drops not yet reported go into the buffer as hallmark 0x0901 once it has room (R672). -/
def reportDrops (s : State) : State :=
  if s.hlm.dropped = 0 then s
  else hallmark 0x0901 0 [pw s.hlm.dropped] { s with hlm := { s.hlm with dropped := 0 } }

/-- HALLMARK_WRITE (R668, R669): with QST and HLM serving and the scan made, the oldest buffered hallmark gets the
next SEQ and goes to its slot. -/
def execHallmarkWrite (s : State) : Outcome :=
  .next (match s.hlm.buf with
    | [] => s
    | r :: rest =>
      if alive s pgQST && alive s pgHLM && s.hlm.scanned then
        let seq := (rd64 s pgHLM 0x140).toNat
        let s' := qstWrite (hlmBase + hlmSlot seq * 64) (hlmBytes seq (hlmFlags s) r) s
        reportDrops (setNextSeq (seq + 1) { s' with hlm := { s'.hlm with buf := rest, loss := false } })
      else s)

/-- RATE_WINDOW_TICK (R673): a new window for every code. -/
def execRateWindowTick (s : State) : Outcome := .next { s with hlm := { s.hlm with win := [] } }

/-- The slots of the region that hold any byte that is not zero. -/
def hlmTouched (s : State) : List Nat :=
  ((s.qst.filter fun e => decide (hlmBase ≤ e.1 ∧ e.1 < hlmBase + 0x400000)).map fun e => (e.1 - hlmBase) / 64).dedup

/-- The 64 bytes of slot `i`. -/
def hlmSlotBytes (s : State) (i : Nat) : List Byte := qstRead s (hlmBase + i * 64) 64

/-- HLM_SCAN (R669): in START, with QST serving, NEXT_SEQ becomes 1 plus the highest SEQ of a valid slot, or 0; slots with a MARK that fail the
check count in CRC_BAD; hallmark 0x0902 gives both. -/
def execHlmScan (s : State) : Outcome :=
  if s.hlm.scanned || !alive s pgQST || pgState s pgHLM != stSTART then .next s else
  let slots := (hlmTouched s).map (hlmSlotBytes s)
  let next := (slots.filter hlmValid).foldl (fun n bs => Nat.max n (field bs 0 8 + 1)) 0
  let bad := (slots.filter fun bs => !hlmValid bs && field bs 0x3C 4 != 0).length
  let s := bump pgHLM 0x1C8 bad (wr64 pgHLM 0x140 (BitVec.ofNat 64 next) s)
  .next (hallmark 0x0902 0 (pw2 next ++ [pw bad]) { s with hlm := { s.hlm with scanned := true } })

/-- A word of the record window: word `n` of the selected slot, read from the store at each access (R670). -/
def hlmWindow (s : State) (n : Nat) : W32 :=
  BitVec.ofNat 32 (field (hlmSlotBytes s (rdF s pgHLM 0x160 15 0)) (4 * n) 4)

/-- HLM_STAT: BUFFERED and PERM_FULL (R686). -/
def hlmStat (s : State) : W32 :=
  BitVec.ofNat 32 (s.hlm.buf.length * 256 + b2n (decide (4096 ≤ (rd64 s pgHLM 0x140).toNat)))

/-- EXPORT_CMD (R671): copies COUNT slots, wrapping, to EXPORT_ADDR; a write while BUSY is ignored and records
CTRL_CONFLICT, and so is one while EXPORT is not live. -/
def execExportCmd (value : W32) (s : State) : Outcome :=
  if bit (rd s pgHLM 0x180) 31 || !live s pgHLM 2 then .next (conflict pgHLM 0x17C s)
  else
    let n := Nat.max 1 (Nat.min 65536 (bits value 16 0))
    let first := rdF s pgHLM 0x178 15 0
    let bs := (List.range n).flatMap fun i => hlmSlotBytes s ((first + i) % 65536)
    .next (wrF pgHLM 0x180 31 31 1 (commandWrite pgHLM 0x17C value (memWrite (rd64 s pgHLM 0x170).toNat bs s)))

/-- EXPORT_DONE (R671). -/
def execExportDone (s : State) : Outcome := .next (wrF pgHLM 0x180 31 31 0 s)

/-- FW_POST (R678): firmware's own hallmark, class 0x00 only, and only while FW_RECORDS is live. -/
def execFwPost (value : W32) (s : State) : Outcome :=
  let s := commandWrite pgHLM 0x1B0 value s
  .next (if bit value 0 then
      if live s pgHLM 1 && rdF s pgHLM 0x190 15 8 == 0 then
        hallmark (rdF s pgHLM 0x190 15 0) (rdF s pgHLM 0x190 23 16)
          ((List.range 7).map fun i => rd s pgHLM (0x194 + 4 * i)) s
      else conflict pgHLM 0x1B0 s
    else s)

/-- A soft reset of HLM drops the buffer; the drops are handled as buffer-full drops, and the empty buffer has room for their report at
once (R672, and spec/19, The HLM and TMK pages). -/
def hlmDropBuffer (s : State) : State :=
  let n := s.hlm.buf.length
  if n = 0 then s
  else reportDrops (bump pgHLM 0x1C0 n { s with hlm := { s.hlm with buf := [], dropped := s.hlm.dropped + n, loss := true } })

/-! Touchmark. -/

/-- Where bank `b` (0 A, 1 B) begins in the quench store (R338). -/
def tmkBase (b : Nat) : Nat := 0x150400000 + b * 0x40000
abbrev tmkMagic : Nat := 0x314B4D54
abbrev tmkMaxLen : Nat := 262080

/-- Header fields of a bank (R679). -/
def tmkSeq (s : State) (b : Nat) : Nat := field (qstRead s (tmkBase b) 0x40) 0x08 8
def tmkLen (s : State) (b : Nat) : Nat := field (qstRead s (tmkBase b) 0x40) 0x10 4
def tmkVersion (s : State) (b : Nat) : Nat := field (qstRead s (tmkBase b) 0x40) 0x04 2

/-- A bank is valid when MAGIC, LEN and CRC are all correct (R680). -/
def tmkValid (s : State) (b : Nat) : Bool :=
  field (qstRead s (tmkBase b) 0x40) 0 4 == tmkMagic && decide (tmkLen s b ≤ tmkMaxLen) &&
  field (qstRead s (tmkBase b) 0x40) 0x38 8 ==
    (crc64 (qstRead s (tmkBase b) 0x38 ++ qstRead s (tmkBase b + 0x40) (tmkLen s b))).toNat

/-- The current bank: the valid bank with the higher SEQ; A on a tie (R680). -/
def tmkCurrent (s : State) : Option Nat :=
  if tmkValid s 0 && (!tmkValid s 1 || decide (tmkSeq s 1 ≤ tmkSeq s 0)) then some 0
  else if tmkValid s 1 then some 1 else none

/-- TMK judges the banks (R680): VALID, CURRENT, CUR_SEQ, CUR_INFO and CUR_VERSION follow. -/
def tmkJudge (s : State) : State :=
  let v := b2n (tmkValid s 0) + 2 * b2n (tmkValid s 1)
  let s1 := wrF pgTMK 0x114 1 0 v s
  match tmkCurrent s with
  | none => wr pgTMK 0x124 0 (wr pgTMK 0x120 0 (wr64 pgTMK 0x118 0 (wrF pgTMK 0x114 9 8 0 s1)))
  | some b => wr pgTMK 0x124 (BitVec.ofNat 32 (tmkVersion s b)) (wrF pgTMK 0x120 31 14 (tmkLen s b)
      (wr64 pgTMK 0x118 (BitVec.ofNat 64 (tmkSeq s b)) (wrF pgTMK 0x114 9 8 (b + 1) s1)))

/-- The part of R680's check that an invalid bank fails: 0 MAGIC, 1 LEN, 2 CRC. -/
def tmkWhy (s : State) (b : Nat) : Nat :=
  if field (qstRead s (tmkBase b) 0x40) 0 4 != tmkMagic then 0 else if tmkMaxLen < tmkLen s b then 1 else 2

/-- At READY TMK judges the banks, and each invalid bank writes 0x0A01 (spec/19). -/
def tmkReady (s : State) : State :=
  let one := fun (s : State) (b : Nat) => if tmkValid s b then s else hallmark 0x0A01 0 [pw b, pw (tmkWhy s b)] s
  tmkJudge (one (one s 0) 1)

/-- End a TMK command with a CODE, and judge the banks. -/
def tmkEnd (code : Nat) (s : State) : State := tmkJudge (wrF pgTMK 0x114 23 16 code (wrF pgTMK 0x114 31 31 0 s))

/-- What stands in the way of a TMK command: a write while BUSY is ignored (R682); in a quench it ends with ABORTED
(R684); a LEN above 262,080 ends it with CODE LEN (R682). -/
def tmkGuard (value : W32) (s : State) (run : State → State) : State :=
  let s := commandWrite pgTMK 0x110 value s
  if bit (rd s pgTMK 0x114) 31 then conflict pgTMK 0x110 s
  else if !alive s pgTMK then s
  else if inQ s then tmkEnd 0x15 s
  else if tmkMaxLen < rdF s pgTMK 0x108 17 0 then tmkEnd 0x10 s
  else run s

/-- TMK_LOAD (R682). -/
def execTmkLoad (value : W32) (s : State) : Outcome :=
  .next (tmkGuard value s fun s =>
    match tmkCurrent s with
    | none => tmkEnd 0x12 s
    | some b => tmkEnd 0 (memWrite (rd64 s pgTMK 0x100).toNat (qstRead s (tmkBase b + 0x40) (tmkLen s b)) s))

/-- The header of a bank without its CRC (R679). -/
def tmkHeader (version seq len : Nat) : List Byte :=
  le 4 tmkMagic ++ le 2 version ++ [0#8, 0#8] ++ le 8 seq ++ le 4 len ++ List.replicate 36 0#8

/-- Write a whole bank: bytes not given are 0 (R679). -/
def tmkStore (b : Nat) (bs : List Byte) (s : State) : State :=
  qstWrite (tmkBase b) bs
    { s with qst := s.qst.filter fun e => !decide (tmkBase b ≤ e.1 ∧ e.1 < tmkBase b + 0x40000) }

/-- TMK_COMMIT (R681, R683): the payload goes into the bank that is not current, A when none is; while MIGRATING
the other bank is kept and the command ends with OLD_HELD. MAGIC stays 0 until the commit completes, so that one cut off leaves its bank
invalid (R684). -/
def execTmkCommit (value : W32) (s : State) : Outcome :=
  .next (tmkGuard value s fun s =>
    if bit (rd s pgTMK 0x114) 30 then tmkEnd 0x11 s
    else
      let cur := tmkCurrent s
      let b := match cur with | some 0 => 1 | _ => 0
      let seq := match cur with | some c => tmkSeq s c + 1 | none => 1
      let len := rdF s pgTMK 0x108 17 0
      let hdr := tmkHeader (rdF s pgTMK 0x10C 15 0) seq len
      let pay := memRead s (rd64 s pgTMK 0x100).toNat len
      let old := match cur with | some c => tmkVersion s c | none => 0
      let s := tmkStore b (zeros 4 ++ hdr.drop 4 ++ zeros 8 ++ pay) s
      wrF pgTMK 0x114 31 31 1 { s with tmk := ⟨some b, old, cur.isSome⟩ })

/-- The last writes of a COMMIT (R681): MAGIC, and the CRC over the header and the payload as stored. -/
def tmkSeal (b : Nat) (s : State) : State :=
  let s := qstWrite (tmkBase b) (le 4 tmkMagic) s
  qstWrite (tmkBase b + 0x38)
    (le 8 (crc64 (qstRead s (tmkBase b) 0x38 ++ qstRead s (tmkBase b + 0x40) (tmkLen s b))).toNat) s

/-- TMK_COMMIT_DONE (R681, R683): the bank is read back and judged; `flips` are the bytes of the bank (by offset)
that the store returns otherwise than written. -/
def execTmkCommitDone (flips : List Host.Cell) (s : State) : Outcome :=
  .next (match s.tmk.target with
    | none => s
    | some b =>
      let s := flips.foldl (fun s f => qstWrite (tmkBase b + f.1 % 0x40000) [f.2] s) (tmkSeal b s)
      let s := { s with tmk := { s.tmk with target := none } }
      if tmkValid s b then
        let s := if live s pgTMK 0 && s.tmk.fromCurrent && s.tmk.oldVersion != tmkVersion s b then
            wrF pgTMK 0x114 30 30 1 s else s
        hallmark 0x0A02 0 ([pw b] ++ pw2 (tmkSeq s b) ++ [pw (tmkVersion s b), pw (tmkLen s b)])
          (bump64 pgTMK 0x128 1 (tmkEnd 0 s))
      else hallmark 0x0A04 0 ([pw b] ++ pw2 (tmkSeq s b)) (tmkEnd 0x13 s))

/-- TMK_CONFIRM (R683). -/
def execTmkConfirm (value : W32) (s : State) : Outcome :=
  .next (tmkGuard value s fun s =>
    if bit (rd s pgTMK 0x114) 30 then
      let new := match tmkCurrent s with | some b => tmkVersion s b | none => 0
      let old := match tmkCurrent s with | some b => tmkVersion s (1 - b) | none => 0
      hallmark 0x0A03 0 [pw old, pw new, pw 3] (tmkEnd 0 (wrF pgTMK 0x114 30 30 0 s))
    else tmkEnd 0x14 s)

/-- Revert a migration: the current bank's MAGIC is written 0 and MIGRATING clears (R683). -/
def tmkRevert (s : State) : State :=
  let new := match tmkCurrent s with | some b => tmkVersion s b | none => 0
  let old := match tmkCurrent s with | some b => tmkVersion s (1 - b) | none => 0
  let s := match tmkCurrent s with | some b => qstWrite (tmkBase b) [0#8, 0#8, 0#8, 0#8] s | none => s
  hallmark 0x0A03 0 [pw old, pw new, pw 4] (tmkEnd 0 (wrF pgTMK 0x114 30 30 0 s))

/-- TMK_REVERT (R683). -/
def execTmkRevert (value : W32) (s : State) : Outcome :=
  .next (tmkGuard value s fun s => if bit (rd s pgTMK 0x114) 30 then tmkRevert s else tmkEnd 0x14 s)

end Sys2Proof.Machine
end

