-- ==== Sys2Proof/Machine/MemorySystem.lean ====
section
/-! DEFINITION. Commands of the system cache and the memory controllers (spec/17_cache_memory.md).
`State.mem` is what every master reads through the SC; `msys.stale` lists the bytes DRAM holds where they may
differ from that, which the debug port reads. -/

namespace Sys2Proof.Machine

/-! Ways (R621). -/

abbrev wayCACHE : Nat := 0
abbrev waySCRATCH : Nat := 1
abbrev wayOFF : Nat := 2
abbrev wayRETIRED : Nat := 3

/-- The state of way `w` in SC_WAYS. -/
def wayState (s : State) (w : Nat) : Nat := rdF s pgSC 0x104 (2 * w + 1) (2 * w)
/-- The ways in CACHE, lowest first. -/
def cacheWays (s : State) : List Nat := (List.range 16).filter fun w => wayState s w == wayCACHE
/-- Set the state of a way; SC_STAT.CACHE_WAYS follows. -/
def setWay (w st : Nat) (s : State) : State :=
  let s := wrF pgSC 0x104 (2 * w + 1) (2 * w) st s
  wrF pgSC 0x10C 4 0 (cacheWays s).length s

/-- SC_CFG.RET_FLOOR (R634). -/
def retFloor (s : State) : Nat := rdF s pgSC 0x100 11 8

/-- A byte lies in one of the given lines of 128 bytes. -/
def inLines (ls : List Nat) (a : Nat) : Bool := ls.contains (a / 128)

/-- Clean lines: DRAM takes what the SC holds of the dirty ones (R627). -/
def cleanLines (ls : List Nat) (s : State) : State :=
  let ds := ls.filter s.msys.dirtyLines.contains
  { s with msys := { s.msys with
      stale := s.msys.stale.filter fun c => !inLines ds c.1
      dirtyLines := s.msys.dirtyLines.filter fun l => !ls.contains l } }

/-- Invalidate lines: what DRAM holds is read again; the lines are gone (R627). -/
def invalLines (ls : List Nat) (s : State) : State :=
  let old := s.msys.stale.filter fun c => inLines ls c.1
  { ({ s with mem := old.foldl (fun m c => Tab.setD m 0 c.1 c.2) s.mem } : State) with msys := { s.msys with
      stale := s.msys.stale.filter fun c => !inLines ls c.1
      dirtyLines := s.msys.dirtyLines.filter fun l => !ls.contains l
      lines := s.msys.lines.filter fun e => !ls.contains e.1 } }

/-- The lines that lie in way `w`. -/
def linesOf (s : State) (w : Nat) : List Nat := (s.msys.lines.filter fun e => e.2 == w).map (·.1)

/-- Clean and invalidate a whole way. -/
def cleanInvalWay (w : Nat) (s : State) : State := invalLines (linesOf s w) (cleanLines (linesOf s w) s)

/-! Retirement (R633, R634). -/

/-- Causes of a retirement in hallmark 0x0501: CE, UE, FIRMWARE, numbered in the order the record names them. -/
abbrev retCE : Nat := 0
abbrev retUE : Nat := 1
abbrev retFIRMWARE : Nat := 2

/-- Retiring `w` would leave fewer than RET_FLOOR CACHE ways. -/
def atFloor (s : State) : Bool := decide ((cacheWays s).length - 1 < retFloor s) || (cacheWays s).isEmpty

/-- A retirement that the floor forbids: WORN, its event and hallmark 0x0504 (R634). -/
def refuseWorn (w : Nat) (s : State) : State :=
  hallmark 0x0504 0 [pw w] (event pgSC 4 (pw w) (wrF pgSC 0x10C 8 8 1 s))

/-- A way becomes RETIRED (R633). -/
def finishRetire (w cause : Nat) (s : State) : State :=
  hallmark 0x0501 0 [pw w, pw cause] (event pgSC 2 (pw w)
    (bump pgSC 0x158 1 (setWay w wayRETIRED (cleanInvalWay w s))))

/-- An automatic retirement, where AUTO_RETIRE is live (R633). -/
def autoRetire (w cause : Nat) (s : State) : State :=
  if live s pgSC 1 && wayState s w == wayCACHE then
    if atFloor s then refuseWorn w s else finishRetire w cause s
  else s

/-- Corrected errors of a way within the rolling hour (R633). -/
def wayCe (s : State) (w : Nat) : Nat :=
  (s.msys.ceLog.filter fun e => e.1 == w && decide (s.time.toNat < e.2 + 3600000000)).length

/-- A scratchpad way fails: event SP_WAY_FAIL and hallmark 0x0502 (R626). -/
def spWayFail (w : Nat) (s : State) : State :=
  hallmark 0x0502 0 [pw w, pw (wayCe s w)] (event pgSC 3 (pw w) s)

/-- A corrected error in way `w` counts in CE and in the way's count, and may retire the way or report it (R623,
R626, R633). -/
def correctedError (w : Nat) (s : State) : State :=
  let s := bump pgSC 0x140 1 { s with msys := { s.msys with ceLog := s.msys.ceLog ++ [(w, s.time.toNat)] } }
  if wayState s w = waySCRATCH then (if wayCe s w = rdF s pgSC 0x114 7 0 then spWayFail w s else s)
  else if rdF s pgSC 0x114 7 0 ≤ wayCe s w then autoRetire w retCE s
  else s

/-! Poison (R639, R643). -/

/-- Mark the 64-byte burst of an address as poisoned. -/
def poisonBurst (a : Nat) (s : State) : State :=
  { s with msys := { s.msys with poison := (a / 64) :: s.msys.poison.filter (· != a / 64) } }

/-- An uncorrectable DRAM error: poison, UE, ERR_ADDR and hallmark 0x0601 or 0x0701; `how` is 0 for a scrub and 1 for
a read (R639, R641). -/
def dramUe (p a how : Nat) (s : State) : State :=
  hallmark (if clsOf p = 0x06 then 0x0601 else 0x0701) (instOf p) ([pw (instOf p)] ++ pw2 a ++ [pw how])
    (wr64 p 0x110 (BitVec.ofNat 64 (a % 2 ^ 48)) (bump p 0x124 1 (poisonBurst a s)))

/-- Some burst of `n` bytes from `a` is poisoned. -/
def poisoned (s : State) (a n : Nat) : Bool := s.msys.poison.any fun b => decide (a / 64 ≤ b ∧ b ≤ (a + n - 1) / 64)

/-- A whole-burst write replaces poison (R639). -/
def clearPoison (a n : Nat) (s : State) : State :=
  { s with msys := { s.msys with poison := s.msys.poison.filter fun b => !decide (a ≤ b * 64 ∧ b * 64 + 64 ≤ a + n) } }

/-! An access (R619 to R626). -/

/-- Write bytes behind which DRAM keeps its old ones: a dirty line. -/
def dirtyWrite (a : Nat) (bs : List Byte) (s : State) : State :=
  let old := (List.range bs.length).filter fun i => (Tab.find? s.msys.stale (a + i)).isNone
  let ls := (List.range ((a + bs.length - 1) / 128 + 1 - a / 128)).map (a / 128 + ·)
  memWrite a bs { s with msys := { s.msys with
    dirtyLines := ls ++ s.msys.dirtyLines.filter fun l => !ls.contains l
    stale := old.foldl (fun t i => Tab.put t (a + i) (memByte s (a + i))) s.msys.stale } }

/-- The ways an access of a class may allocate in: its SC_ALLOC mask, CACHE ways alone; every CACHE way without
ALLOC_CLASS live (R622, R644). -/
def allocWays (s : State) (c : MemClass) : List Nat :=
  let m := match c with
    | .ctl => rdF s pgSC 0x118 15 0
    | .metadata => rdF s pgSC 0x118 31 16
    | .data => rdF s pgSC 0x11C 15 0
    | .stream => rdF s pgSC 0x11C 31 16
  (cacheWays s).filter fun w => !live s pgSC 3 || m.testBit w

/-- The way a missing line is allocated in: the victim the access names where it is permitted, else the lowest
permitted way; none where the effective mask is empty (R622). -/
def victim (s : State) (x : MemAcc) : Option Nat :=
  let ws := allocWays s x.cls
  if ws.contains x.way then some x.way else ws.head?

/-- The lines of 128 bytes that `n` bytes from `a` touch. -/
def linesAt (a n : Nat) : List Nat := (List.range ((a + n - 1) / 128 + 1 - a / 128)).map (a / 128 + ·)

/-- A missing line is allocated where the class permits (R622). -/
def allocLine (x : MemAcc) (s : State) (l : Nat) : State :=
  if (Tab.find? s.msys.lines l).isSome then s else
    match victim s x with
    | some w => { s with msys := { s.msys with lines := Tab.put s.msys.lines l w } }
    | none => s

/-- The bytes of a write that fall into one line: a present line becomes dirty, else they go to memory (R622). -/
def lineWrite (a : Nat) (bs : List Byte) (s : State) (l : Nat) : State :=
  let lo := Nat.max a (l * 128)
  let part := (bs.drop (lo - a)).take (l * 128 + 128 - lo)
  if (Tab.find? s.msys.lines l).isSome then dirtyWrite lo part s else memWrite lo part s

/-- A cached access: its lines are allocated where the class permits; a write makes a present line dirty and else goes
to memory; a read answers the bytes, or poison (R622, R639). -/
def cachedAccess (x : MemAcc) (s : State) : State :=
  let s := (linesAt x.addr x.size).foldl (allocLine x) s
  match x.wdata with
  | some bs => (linesAt x.addr bs.length).foldl (lineWrite x.addr bs) (clearPoison x.addr bs.length s)
  | none =>
    if poisoned s x.addr x.len then emit (.memPoison x.master) s
    else emit (.memData x.master (memRead s x.addr x.len)) s

/-- The line of an address is dirty. -/
def lineDirty (s : State) (l : Nat) : Bool := s.msys.dirtyLines.contains l

/-- The access meets the error it names, then is served (R623, R638, R639): the SC's data can fail only in a line that it holds, and DRAM
is read only for one that it does not hold. -/
def erringAccess (r : Region) (x : MemAcc) (s : State) : State :=
  let l := x.addr / 128
  let held := (Tab.find? s.msys.lines l).isSome
  let w := Tab.getD s.msys.lines x.way l
  match x.err with
  | .none => cachedAccess x s
  | .corrected => cachedAccess x (correctedError w s)
  | .uncorrectable =>
    if !held then cachedAccess x s
    else if lineDirty s l then
      emit (.memPoison x.master) (autoRetire w retUE (bump pgSC 0x148 1
        (poisonBurst (l * 128) (poisonBurst (l * 128 + 64) (invalLines [l] (cleanLines [l] s))))))
    else cachedAccess x (autoRetire w retUE (bump pgSC 0x144 1 (invalLines [l] s)))
  | .tag => emit (.busError x.master) (recordFault pgSC 0x80 0 s)
  | .dramCorrected => cachedAccess x (if held then s else bump (memPage s r x.addr) 0x120 1 s)
  | .dramUncorrectable => cachedAccess x (if held then s else dramUe (memPage s r x.addr) x.addr 1 s)

/-- An access to the scratchpad (R625, R626). -/
def scratchAccess (x : MemAcc) (s : State) : State :=
  match s.msys.spWay[(x.addr - 0x00E000000000) / 0x800000]? with
  | none => emit (.busError x.master) (hallmark 0x0503 0 ([pw x.master] ++ pw2 x.addr) (bump pgSC 0x150 1 s))
  | some w =>
    let serve := fun (s : State) => match x.wdata with
      | some bs => memWrite x.addr bs (clearPoison x.addr bs.length s)
      | none => if poisoned s x.addr x.len then emit (.memPoison x.master) s
        else emit (.memData x.master (memRead s x.addr x.len)) s
    match x.err with
    | .corrected => serve (correctedError w s)
    | .uncorrectable => serve (spWayFail w (poisonBurst x.addr s))
    | .tag => emit (.busError x.master) (recordFault pgSC 0x80 0 s)
    | .none | .dramCorrected | .dramUncorrectable => serve s

/-- An access to what lies behind the SC (R619, R623): decode, refuse, or serve; the CSR window is not memory. An access that ends in
another row than it begins in is outside every row. -/
def memAccess (x : MemAcc) (s : State) : State :=
  if pgState s pgSC = stFAULT then emit (.busError x.master) s
  else if region s (x.addr + (x.size - 1)) ≠ region s x.addr then emit (.busError x.master) (bump pgSC 0x154 1 s)
  else match region s x.addr with
  | none => emit (.busError x.master) (bump pgSC 0x154 1 s)
  | some .csr => s
  | some .scratch => scratchAccess x s
  | some .boot =>
    match x.wdata with
    | some bs => if 0x10000000 ≤ x.addr ∧ x.addr < 0x10400000 then memWrite x.addr bs s else s
    | none => emit (.memData x.master (memRead s x.addr x.len)) s
  | some r =>
    if spanLost s r x.addr x.size then emit (.memPoison x.master) s
    else if regionServes s r then erringAccess r x s
    else emit (.busError x.master) s

/-! Commands of the SC. -/

/-- End an SC command with a CODE. -/
def scEnd (code : Nat) (s : State) : State := wrF pgSC 0x10C 23 16 code (wrF pgSC 0x10C 31 31 0 s)

/-- SC_RETIRE (R633, R634): a CACHE way above the floor starts to retire. -/
def execScRetire (way : Nat) (s : State) : Outcome :=
  .next (if bit (rd s pgSC 0x10C) 31 then conflict pgSC 0x108 s
    else if wayState s way ≠ wayCACHE ∨ 16 ≤ way then scEnd 0x11 s
    else if atFloor s then scEnd 0x10 (refuseWorn way s)
    else wrF pgSC 0x10C 31 31 1 { s with msys := { s.msys with scOp := some (.retire way retFIRMWARE) } })

/-- SP_REMAP (R626): the highest CACHE way takes the failing scratchpad way's place. -/
def execSpRemap (way : Nat) (s : State) : Outcome :=
  .next (if bit (rd s pgSC 0x10C) 31 then conflict pgSC 0x108 s
    else if wayState s way ≠ waySCRATCH ∨ 16 ≤ way then scEnd 0x11 s
    else match (cacheWays s).getLast? with
    | none => scEnd 0x10 s
    | some w =>
      if atFloor s then scEnd 0x10 s
      else wrF pgSC 0x10C 31 31 1 { s with msys := { s.msys with scOp := some (.remap way w) } })

/-- SC_COMMAND_DONE (R626, R633): the way becomes RETIRED; a remap moves its scratchpad addresses first. Once a quench has begun nothing
goes on (R632). A way that another operation has taken meanwhile is not retired twice, and a remap takes the highest CACHE way that is
left. -/
def execScCommandDone (s : State) : Outcome :=
  .next (match s.msys.scOp with
    | none => s
    | some (.retire w c) =>
      if inQ s then s
      else
        let s := { s with msys := { s.msys with scOp := none } }
        scEnd 0 (if wayState s w = wayRETIRED then s else finishRetire w c s)
    | some (.remap w into) =>
      if inQ s then s
      else
        let s := { s with msys := { s.msys with scOp := none } }
        match (if wayState s into = wayCACHE then some into else (cacheWays s).getLast?) with
        | none => scEnd 0x10 s
        | some n =>
          let s := setWay w wayRETIRED (setWay n waySCRATCH (cleanInvalWay n s))
          scEnd 0 { s with msys := { s.msys with spWay := s.msys.spWay.map fun x => if x = w then n else x } })

/-! Maintenance (R627 to R630). -/

/-- A register of maintenance channel `c`. -/
def maintReg (c off : Nat) : Nat := 0x200 + c * 0x20 + off

/-- Start an operation on a channel: ignored with CTRL_CONFLICT while BUSY; BAD_RANGE for a length of 0 or a range
past 2^48 (R630). -/
def maintStart (c op : Nat) (s : State) : State :=
  if bit (rd s pgSC (maintReg c 0x14)) 31 then conflict pgSC (maintReg c 0x10) s
  else
    let a := (rd64 s pgSC (maintReg c 0)).toNat
    let n := (rd64 s pgSC (maintReg c 8)).toNat
    if op ≠ 4 ∧ (n = 0 ∨ 2 ^ 48 < a + n) then wrF pgSC (maintReg c 0x14) 7 0 0x10 s
    else wr pgSC (maintReg c 0x14) 0x80000000#32
      { s with msys := { s.msys with maint := Tab.put s.msys.maint c ⟨op, a, n⟩ } }

/-- MAINT_CLEAN, MAINT_INVAL, MAINT_CLEAN_INVAL, MAINT_CLEAN_ALL (R627). -/
def execMaintClean (chan : Nat) (s : State) : Outcome := .next (maintStart chan 1 s)
def execMaintInval (chan : Nat) (s : State) : Outcome := .next (maintStart chan 2 s)
def execMaintCleanInval (chan : Nat) (s : State) : Outcome := .next (maintStart chan 3 s)
def execMaintCleanAll (chan : Nat) (s : State) : Outcome := .next (maintStart chan 4 s)

/-- Lines of 128 bytes that the byte range from `a` of `n` shares with the addresses from `lo` to `hi`. -/
def lineOverlap (a n lo hi : Nat) : Nat :=
  let f := Nat.max (a / 128) (lo / 128)
  let l := Nat.min ((a + n - 1) / 128) (hi / 128)
  l + 1 - f

/-- Lines of a range inside some row of R619. -/
def mappedLines (s : State) (a n : Nat) : Nat :=
  lineOverlap a n 0 0x007FFFFFFFFF + lineOverlap a n 0x008000000000 0x008BFFFFFFFF +
  lineOverlap a n 0x00E000000000 0x00E003FFFFFF + lineOverlap a n 0x00F000000000 0x00F00FFFFFFF +
  (if ddrBytes s = 0 then 0 else lineOverlap a n 0x010000000000 (0x010000000000 + ddrBytes s - 1))

/-- The lines present that overlap a range, scratchpad apart (R627, R629). -/
def linesIn (s : State) (a n : Nat) : List Nat :=
  (s.msys.lines.map (·.1)).filter fun l => decide (a / 128 ≤ l ∧ l ≤ (a + n - 1) / 128)

/-- MAINT_DONE (R627, R629): the covered lines are cleaned, discarded, or both; lines in scratchpad count in SP_SKIP
and lines outside every row in MAP_MISS. Once a quench has begun a channel goes no further (R632). -/
def execMaintDone (chan : Nat) (s : State) : Outcome :=
  .next (match Tab.find? s.msys.maint chan with
    | none => s
    | some m =>
      if inQ s then s else
      let ls := if m.op = 4 then s.msys.lines.map (·.1) else linesIn s m.addr m.len
      let s := { s with msys := { s.msys with maint := Tab.erase s.msys.maint chan } }
      let s := if m.op = 2 then invalLines ls s
        else if m.op = 3 then invalLines ls (cleanLines ls s) else cleanLines ls s
      let s := if m.op = 4 then s else
        bump pgSC 0x154 (lineOverlap m.addr m.len 0 (2 ^ 48) - mappedLines s m.addr m.len)
          (bump pgSC 0x14C (lineOverlap m.addr m.len 0x00E000000000 0x00E003FFFFFF) s)
      wr pgSC (maintReg chan 0x14) 0 s)

/-! Memory controllers. -/

/-- PATROL_SCRUB (R638, R641): one pass with its corrected and uncorrectable findings, where SCRUB is live. -/
def execPatrolScrub (page corrected : Nat) (uncorrectable : List Nat) (s : State) : Outcome :=
  .next (if live s page 0 && running s page then
      uncorrectable.foldl (fun s a => dramUe page a 0 s) (bump page 0x120 corrected (bump page 0x128 1 s))
    else s)

/-- DIMM_THERMAL (R640): the sensor's reading; above 95 °C the channel throttles and raises DDR_HOT once, where
THERMAL is live. Refresh is doubled while TEMP_C is above 85 °C. -/
def execDimmThermal (page temp : Nat) (s : State) : Outcome :=
  let s := wrF page 0x108 31 24 temp s
  .next (if clsOf page = 0x06 ∧ live s page 1 then
      if 95 < temp then
        if s.msys.hot.contains page then s
        else hallmark 0x0602 (instOf page) [pw (instOf page), pw temp]
          (event page 2 (pw temp) { s with msys := { s.msys with hot := page :: s.msys.hot } })
      else { s with msys := { s.msys with hot := s.msys.hot.filter (· != page) } }
    else s)

/-- DIMM_LOST (R643): a DIMM or stack stops answering: fatal cause 0x81, and every access to it answers poison. -/
def execDimmLost (page : Nat) (s : State) : Outcome :=
  .next (recordFault page 0x81 0 { s with msys := { s.msys with lost := page :: s.msys.lost.filter (· != page) } })

/-! What the page transitions of SC do. -/

/-- At the transition to RUN the SC turns the highest non-RETIRED ways into scratchpad, cleaned, invalidated and zeroed, and
retires the ways of SC_RET_INIT (R624, R635). -/
def scRun (s : State) : State :=
  let init := rdF s pgSC 0x110 15 0
  let retired := fun w => wayState s w == wayRETIRED || init.testBit w
  let n := if live s pgSC 0 then rdF s pgSC 0x100 3 0 else 0
  let sp := (((List.range 16).reverse).filter fun w => !retired w).take n
  let s := (sp ++ (List.range 16).filter retired).foldl (fun s w => cleanInvalWay w s) s
  let s := (List.range 16).foldl (fun s w =>
    setWay w (if retired w then wayRETIRED else if sp.contains w then waySCRATCH else wayCACHE) s) s
  let inSp := fun (a : Nat) => decide (0x00E000000000 ≤ a ∧ a ≤ 0x00E003FFFFFF)
  { ({ s with mem := s.mem.filter fun c => !inSp c.1 } : State) with msys := { s.msys with
      spWay := sp, poison := s.msys.poison.filter fun b => !inSp (b * 64) } }

/-- P1 entry powers down CACHE ways from the highest down, as many as P1_WAYS and the floor allow (R631). -/
def scPowerDown (s : State) : State :=
  let n := if live s pgSC 2 then Nat.min (rdF s pgSC 0x100 19 16) ((cacheWays s).length - retFloor s) else 0
  ((cacheWays s).reverse.take n).foldl (fun s w => setWay w wayOFF (cleanInvalWay w s)) s

/-- On the exit from P1 or P2 every OFF way returns to CACHE, empty (R631). -/
def scPowerUp (s : State) : State :=
  (List.range 16).foldl (fun s w => if wayState s w = wayOFF then setWay w wayCACHE s else s) s

end Sys2Proof.Machine
end

