-- ==== Sys2Proof/Machine/XptCore.lean ====
section
/-! DEFINITION. The RDMA transport as every user of it meets it (spec/13_network_transport.md): queue-pair contexts,
posting an operation, sending its packets, and entering ERROR. -/

namespace Sys2Proof.Machine

/-! Contexts. -/

/-- A queue pair's context. -/
def qpOf (s : State) (i : Nat) : Qp := Tab.getD s.xpt.qps {} i
/-- The state with a queue pair's context replaced. -/
def qpPut (i : Nat) (q : Qp) (s : State) : State := { s with xpt := { s.xpt with qps := Tab.setD s.xpt.qps {} i q } }

/-- A field of the attribute block, little-endian (R505). -/
def Qp.attrF (q : Qp) (off n : Nat) : Nat := field (q.attr.flatMap fun w => le 4 w.toNat) off n
/-- Path MTU in bytes: 0x3 is 1,024, 0x4 2,048, 0x5 4,096. -/
def Qp.pmtu (q : Qp) : Nat := 2 ^ (7 + q.attrF 0x0E 1)
def Qp.pd (q : Qp) : Nat := q.attrF 0x0C 2 % 4096
def Qp.destQpn (q : Qp) : Nat := q.attrF 0x00 4 % 2 ^ 24
def Qp.port (q : Qp) : Nat := q.attrF 0x28 1
/-- USER of R505: 0 firmware, 1 HQ, 2 RPL. -/
def Qp.user (q : Qp) : Nat := q.attrF 0x2E 1
/-- A bit of QFLAGS (R505). -/
def Qp.flag (q : Qp) (n : Nat) : Bool := (q.attrF 0x0F 1).testBit n
/-- RETRY: the retry count, and the RNR retry, 7 meaning unlimited. -/
def Qp.retry (q : Qp) : Nat := q.attrF 0x2B 1 % 8
def Qp.rnrRetry (q : Qp) : Nat := q.attrF 0x2B 1 / 16 % 8
def Qp.minRnr (q : Qp) : Nat := q.attrF 0x34 1 % 32
/-- The priority the queue pair sends on: PCP when tagged, DSCP bits 5:3 when not (R495). -/
def Qp.prio (q : Qp) : Nat := if (q.attrF 0x26 2).testBit 15 then q.attrF 0x26 2 / 2 ^ 12 % 8 else q.attrF 0x2F 1 / 8 % 8
/-- A bit of SCATTER_LIVE (R524). -/
def Qp.scatterLive (q : Qp) (n : Nat) : Bool := bit q.scatter n
/-- SP_NAK is live with any of bits 0 to 2 (R525). -/
def Qp.scatterAny (q : Qp) : Bool := q.scatterLive 0 || q.scatterLive 1 || q.scatterLive 2
/-- Paths used (R525). -/
def Qp.paths (q : Qp) : Nat := if q.scatterLive 9 then 8 else if q.scatterLive 8 then 4 else 2
/-- Packets a scatter message may have (R524). -/
def Qp.bitmap (q : Qp) : Nat := if q.scatterLive 10 then 4096 else 1024

/-- BTH destination QP of index i (R502). -/
def qpnOf (i : Nat) : Nat := 0x010000 + i
/-- The index of a BTH destination QP. -/
def qpIndex (qpn : Nat) : Option Nat := if 0x010000 ≤ qpn ∧ qpn - 0x010000 < 131072 then some (qpn - 0x010000) else none

/-- The queue pair's context is resident (R509). -/
def resident (s : State) (i : Nat) : Bool := s.xpt.lru.contains i
/-- A context that may not be evicted (R509): unacknowledged transmissions or a running timer, a responder request in
progress, a scatter message in assembly. -/
def Qp.pinned (q : Qp) : Bool := !q.unacked.isEmpty || q.rx.isSome || !q.respQ.isEmpty || !q.sp.isEmpty
/-- Contexts pinned among the resident ones. -/
def pinnedCount (s : State) : Nat := (s.xpt.lru.filter fun i => (qpOf s i).pinned).length
/-- The context was used: it becomes the most recent. -/
def touch (i : Nat) (s : State) : State :=
  { s with xpt := { s.xpt with lru := (s.xpt.lru.filter (· != i)) ++ [i] } }
/-- The context takes a place among the 16,384, the least recently used unpinned one leaving; `none` while every one is
pinned (R509, R512). -/
def makeResident (i : Nat) (s : State) : Option State :=
  if resident s i then some (touch i s)
  else if s.xpt.lru.length < (if s.a0 then 8192 else 16384) then some (touch i s)
  else match s.xpt.lru.find? fun j => !(qpOf s j).pinned with
    | none => none
    | some j => some (touch i { s with xpt := { s.xpt with lru := s.xpt.lru.filter (· != j) } })

/-! Ports. -/

/-- NET_MODE (R489). -/
def netMode (s : State) : Nat := rdF s pgNET 0x100 2 0
/-- Ports of the mode. -/
def netPorts (s : State) : Nat := match netMode s with | 0 => 16 | 1 => 8 | 2 => 32 | 3 => 12 | _ => 0
/-- The line rate of a port in kb/s. -/
def lineRate (s : State) : Nat := match netMode s with | 1 => 800000000 | 2 => 200000000 | _ => 400000000
/-- The page that serves a port (R489). -/
def portPage (s : State) (port : Nat) : Nat := if netMode s = 2 then pgNET + port / 2 else pgNET + port
/-- The port is sub-port 1 of its page. -/
def portSub (s : State) (port : Nat) : Bool := netMode s == 2 && port % 2 == 1
/-- A per-port register of NET: sub-port 1 has a bank of its own (R489). -/
def nrd (s : State) (port off : Nat) : W32 :=
  let p := portPage s port
  if portSub s port then Tab.getD s.net.sub (regReset s.a0 p off) (rk p off) else rd s p off
/-- Write a per-port register of NET. -/
def nwr (port off : Nat) (v : W32) (s : State) : State :=
  let p := portPage s port
  if portSub s port then
    { s with net := { s.net with sub := Tab.setD s.net.sub (regReset s.a0 p off) (rk p off) v } }
  else wr p off v s
/-- A field of a per-port register. -/
def nrdF (s : State) (port off hi lo : Nat) : Nat := bits (nrd s port off) hi lo
def nwrF (port off hi lo x : Nat) (s : State) : State := nwr port off (putBits (nrd s port off) hi lo x) s
/-- The key of a priority of a port. -/
def pprio (port prio : Nat) : Nat := port * 8 + prio
/-- Storm: pause frames of the priority are ignored (R498). -/
def stormed (s : State) (port prio : Nat) : Bool := (nrdF s port 0x178 23 16).testBit prio
/-- The priority is paused on the port (R497). -/
def paused (s : State) (port prio : Nat) : Bool := (nrdF s port 0x178 15 8).testBit prio && !stormed s port prio

/-! Sending. -/

/-- The PSN `n` after `p`. -/
def psnAdd (p n : Nat) : Nat := (p + n) % 2 ^ 24
/-- How far `p` lies beyond `q`, modulo 2^24. -/
def psnDiff (p q : Nat) : Nat := (p + 2 ^ 24 - q) % 2 ^ 24

/-- Packets that carry `n` bytes at a path MTU; an empty message takes one. -/
def pktsFor (n mtu : Nat) : Nat := Nat.max 1 ((n + mtu - 1) / mtu)

/-- What a message becomes once it may be sent: its PSNs and packets. -/
def mkTx (q : Qp) (m : XMsg) : XTx :=
  match m.kind with
  | .read => { msg := m, psn := q.sqPsn, psns := pktsFor m.len q.pmtu, pkts := 1 }
  | .cas | .faa => { msg := m, psn := q.sqPsn, psns := 1, pkts := 1 }
  | .spWrite | .spSend =>
    { msg := m, psn := q.sqPsn, psns := pktsFor m.payload.length q.pmtu, pkts := pktsFor m.payload.length q.pmtu
      msgId := q.msgId }
  | .send | .sendInv | .write =>
    { msg := m, psn := q.sqPsn, psns := pktsFor m.payload.length q.pmtu, pkts := pktsFor m.payload.length q.pmtu }

/-- The opcode of packet `k` of `n`: first, middle, last or only, from the opcodes of a family. -/
def segOp (first middle last only k n : Nat) : Nat :=
  if n = 1 then only else if k = 0 then first else if k + 1 = n then last else middle

/-- Packet `k` of a transmission. -/
def txPkt (q : Qp) (t : XTx) (k : Nat) : RPkt :=
  let data := (t.msg.payload.drop (k * q.pmtu)).take q.pmtu
  let last := k + 1 == t.pkts
  match t.msg.kind with
  | .send => { qpn := q.destQpn, opcode := segOp 0x00 0x01 0x02 0x04 k t.pkts, psn := psnAdd t.psn k, ackReq := last
               payload := data }
  | .sendInv => { qpn := q.destQpn, opcode := segOp 0x00 0x01 0x16 0x17 k t.pkts, psn := psnAdd t.psn k, ackReq := last
                  rkey := t.msg.rkey, payload := data }
  | .write => { qpn := q.destQpn, opcode := segOp 0x06 0x07 0x08 0x0A k t.pkts, psn := psnAdd t.psn k, ackReq := last
                va := t.msg.va, rkey := t.msg.rkey, len := t.msg.payload.length, payload := data }
  | .read => { qpn := q.destQpn, opcode := 0x0C, psn := t.psn, ackReq := true, va := t.msg.va, rkey := t.msg.rkey
               len := t.msg.len }
  | .cas => { qpn := q.destQpn, opcode := 0x13, psn := t.psn, ackReq := true, va := t.msg.va, rkey := t.msg.rkey
              swap := t.msg.swap, cmp := t.msg.cmp }
  | .faa => { qpn := q.destQpn, opcode := 0x14, psn := t.psn, ackReq := true, va := t.msg.va, rkey := t.msg.rkey
              swap := t.msg.swap }
  | .spWrite => { qpn := q.destQpn, opcode := 0xC1, psn := psnAdd t.psn k, va := t.msg.va + k * q.pmtu, rkey := t.msg.rkey
                  len := t.msg.payload.length, msgId := t.msgId, path := k % q.paths, idx := k, cnt := t.pkts
                  payload := data }
  | .spSend => { qpn := q.destQpn, opcode := 0xC0, psn := psnAdd t.psn k, va := k * q.pmtu, len := t.msg.payload.length
                 msgId := t.msgId, path := k % q.paths, idx := k, cnt := t.pkts, payload := data }

/-- The port's link is up, and its NET page takes frames (R42, R533). -/
def portUp (s : State) (port : Nat) : Bool := running s (portPage s port) && bit (nrd s port 0x178) 0

/-- The headers that an opcode adds to the BTH, in bytes: RETH, AETH, AtomicETH, IETH, the immediate and the scatter header (R501,
R526). -/
def extBytes (op : Nat) : Nat :=
  if [0x06, 0x0A, 0x0C].contains op then 16 else if op = 0x0B then 20
  else if [0x0D, 0x0F, 0x10, 0x11, 0x03, 0x05, 0x09, 0x16, 0x17].contains op then 4
  else if op = 0x12 then 12 else if op = 0x13 ∨ op = 0x14 then 28
  else if op = 0x81 then 16 else if 0xC0 ≤ op ∧ op ≤ 0xC2 then 24 else 0

/-- The bytes of a packet's frame: Ethernet with its tag, IP, UDP, BTH, what the opcode adds, the payload to a multiple of 4, ICRC and
FCS; at least 64. -/
def frameBytes (q : Qp) (p : RPkt) : Nat :=
  Nat.max 64 (14 + (if (q.attrF 0x26 2).testBit 15 then 4 else 0) + (if q.flag 0 then 40 else 20) + 8 + 12 + extBytes p.opcode +
    (p.payload.length + 3) / 4 * 4 + 4 + 4)

/-- The priority of a packet: CNP_PRIO for a CNP, else the queue pair's (R495, R499). -/
def pktPrio (s : State) (q : Qp) (op : Nat) : Nat := if op = 0x81 then nrdF s q.port 0x170 6 4 else q.prio

/-- Put a packet on the wire, marked ECT(0) (R499) and counted in TX_BYTES (R535); in a quench XPT sends none (R532), and over a link that is
down, or a NET page that takes nothing, it is lost (R533). -/
def putPkt (i : Nat) (p : RPkt) (s : State) : State :=
  let q := qpOf s i
  if inQ s || !portUp s q.port then s
  else emit (.roce i { p with ect := true, prio := pktPrio s q p.opcode }) (bump64 (portPage s q.port) 0x188 (frameBytes q p) s)

/-- Packets of a queue pair sent and not acknowledged. -/
def Qp.unackedPkts (q : Qp) : Nat := q.unacked.foldl (fun n t => n + (t.sent - t.acked)) 0
/-- Reads and atomics issued and outstanding (RD_INIT). -/
def Qp.rdInit (q : Qp) : Nat :=
  (q.unacked.filter fun t => t.msg.kind == .read || t.msg.kind == .cas || t.msg.kind == .faa).length

/-- A packet more may be unacknowledged: in cautious mode at most WIN_PKTS are (R506). -/
def winOk (s : State) (q : Qp) : Bool := !q.cautious || decide (q.unackedPkts < rdF s pgXPT 0x110 23 16)

/-- The next waiting message may start: a READ or atomic within RD_INIT. -/
def startOk (q : Qp) (m : XMsg) : Bool :=
  match m.kind with
  | .read | .cas | .faa => decide (q.rdInit < q.attrF 0x2D 1)
  | _ => true

/-- Send one packet of queue pair `i`, if one may be sent: of the message under way, else of the next waiting one, which XPT starts in RUN
alone (R42). -/
def sendOne (i : Nat) (s : State) : Option State :=
  let q := qpOf s i
  if q.st ≠ .rts ∨ !resident s i ∨ !winOk s q ∨ paused s q.port q.prio then none
  else match q.unacked.find? fun t => decide (t.sent < t.pkts) with
    | some t =>
      some (putPkt i (txPkt q t t.sent) (qpPut i { q with
        unacked := q.unacked.map fun u => if u.psn = t.psn then { u with sent := u.sent + 1 } else u } s))
    | none => match q.waiting with
      | [] => none
      | m :: rest =>
        if startOk q m && running s pgXPT then
          let t := mkTx q m
          some (putPkt i (txPkt q t 0) (qpPut i { q with
            waiting := rest
            unacked := q.unacked ++ [{ t with sent := 1 }]
            sqPsn := psnAdd q.sqPsn t.psns
            msgId := if m.kind = .spWrite ∨ m.kind = .spSend then (q.msgId + 1) % 2 ^ 24 else q.msgId } s))
        else none

/-- Send what may be sent, at most `f` packets. -/
def pumpQp : Nat → Nat → State → State
  | 0, _, s => s
  | f + 1, i, s => match sendOne i s with
    | none => s
    | some s' => pumpQp f i s'

/-- Packets that a queue pair could still send. -/
def Qp.backlog (q : Qp) : Nat :=
  q.unacked.foldl (fun n t => n + (t.pkts - t.sent)) 0 +
  q.waiting.foldl (fun n m => n + pktsFor m.payload.length q.pmtu) 0

/-- Send everything of a queue pair that may be sent now. -/
def pumpAll (i : Nat) (s : State) : State := pumpQp (qpOf s i).backlog i s

/-- With the scatter extension live a message of several packets is sprayed (R524 to R527). -/
def scatterForm (q : Qp) (m : XMsg) : XMsg :=
  let n := pktsFor m.payload.length q.pmtu
  if 1 < n ∧ n ≤ q.bitmap then
    match m.kind with
    | .write => if q.scatterLive 0 then { m with kind := .spWrite } else m
    | .send => if q.scatterLive 1 then { m with kind := .spSend } else m
    | _ => m
  else m

/-- A user posts an operation on a queue pair: it waits its turn, and is sent as soon as it may be. Nothing is posted on
a queue pair that is not in RTS. -/
def xptPost (i : Nat) (m : XMsg) (s : State) : State :=
  let q := qpOf s i
  if q.st ≠ .rts then s
  else pumpAll i (qpPut i { q with waiting := q.waiting ++ [scatterForm q m] } s)

/-- XPT posts a receive buffer on a queue pair (R122). -/
def postRx (i : Nat) (s : State) : State := qpPut i { qpOf s i with rxBufs := (qpOf s i).rxBufs + 1 } s

/-! ERROR. -/

/-- QP_STAT.ERR_CAUSE (R538). -/
abbrev qeRETRY : Nat := 1
abbrev qeRNR : Nat := 2
abbrev qeNAK : Nat := 3
abbrev qeVIOLATION : Nat := 4
abbrev qeCTX : Nat := 5
abbrev qeFIRMWARE : Nat := 6
abbrev qeDISABLE : Nat := 7

/-- A queue pair enters ERROR (R504): its operations end FLUSHED, its parked packets are dropped, hallmark 0x2102 and
QP_ERRORS. What its user makes of the loss is the user's. -/
def qpFail (i cause : Nat) (s : State) : State :=
  let q := qpOf s i
  if q.st = .error ∨ q.st = .reset then s
  else
    hallmark 0x2102 0 [pw i, pw cause, pw q.user] (bump pgXPT 0x220 1 (qpPut i { q with
      st := .error
      errCause := cause
      waiting := []
      unacked := []
      parked := []
      rx := none
      sp := []
      respQ := []
      rxBufs := 0 } s))

end Sys2Proof.Machine
end

