-- ==== Sys2Proof/Machine/RplCore.lean ====
section
/-! DEFINITION. Replication as the transport, the ledger and takeover meet it (spec/14_replication.md). -/

namespace Sys2Proof.Machine

/-! Groups. -/

def grpOf (s : State) (g : Nat) : Grp := Tab.getD s.rpl.groups {} g
def grpPut (g : Nat) (x : Grp) (s : State) : State :=
  { s with rpl := { s.rpl with groups := Tab.setD s.rpl.groups {} g x } }

/-- The group table cleared: the byte counts, kept since chip reset, stay (R565). -/
def groupsCleared (s : State) : Tab Grp :=
  (s.rpl.groups.map fun e => (e.1, ({ bytes := e.2.bytes } : Grp))).filter fun e => e.2.bytes != 0

/-- A register behind GRP_SEL, of a group. -/
def grd (s : State) (g off : Nat) : W32 := Tab.getD s.rpl.bank (regReset s.a0 pgRPL off) (g * 0x1000 + off)
def gwr (g off : Nat) (v : W32) (s : State) : State :=
  { s with rpl := { s.rpl with bank := Tab.setD s.rpl.bank (regReset s.a0 pgRPL off) (g * 0x1000 + off) v } }
def grdF (s : State) (g off hi lo : Nat) : Nat := bits (grd s g off) hi lo

abbrev roleSOURCE : Nat := 1
abbrev roleTARGET : Nat := 2
def grpRole (s : State) (g : Nat) : Nat := grdF s g 0x114 31 30
def grpQp (s : State) (g : Nat) : Nat := grdF s g 0x118 16 0
/-- ID_A when the delta is even, ID_B when it is odd (R543). -/
def grpSnap (s : State) (g d : Nat) : Nat := if d % 2 = 0 then grdF s g 0x120 15 0 else grdF s g 0x120 31 16

/-- The group is at work. -/
def Grp.active (x : Grp) : Bool := x.st != .idle && x.st != .halted

/-- Every group number in use. -/
def grpNums (s : State) : List Nat := s.rpl.groups.map (·.1)

/-! Atomics and transfers on the queue pair: an operation's tag is its kind × 64 + group. -/

abbrev rtWRITE : Nat := 1
abbrev rtPUBLISH : Nat := 2
abbrev rtLEASE : Nat := 3
abbrev rtPOLL : Nat := 4
abbrev rtREWRITE : Nat := 5

/-- A segment's write has been acknowledged. -/
def rplAck (tag : Nat) (s : State) : State :=
  let g := tag % 64
  let x := grpOf s g
  if tag / 64 = rtREWRITE then
    grpPut g { x with out := x.out.map fun c => if c.stage = .writing then { c with stage := .written } else c } s
  else if tag / 64 ≠ rtWRITE then s
  else match x.cur with
    | some c => if c.stage = .writing then grpPut g { x with cur := some { c with stage := .written } } s else s
    | none => s

/-- An atomic has returned the value it found. -/
def rplAtomic (tag : Nat) (v : W64) (s : State) : State :=
  let g := tag % 64
  let x := grpOf s g
  if tag / 64 = rtPUBLISH then grpPut g { x with pubGot := some v } s
  else if tag / 64 = rtLEASE then grpPut g { x with leaseGot := some v } s
  else s

/-- The control block has been read. -/
def rplRead (tag : Nat) (bs : List Byte) (s : State) : State :=
  let g := tag % 64
  if tag / 64 = rtPOLL then grpPut g { grpOf s g with block := some bs } s else s

/-- What is under way on the queue pair is gone. -/
def Grp.cut (x : Grp) : Grp :=
  { x with cur := none, lease := none, leaseOut := false, leaseGot := none, pubGot := none, polling := false, block := none }

/-- A group's queue pair is lost: LINK_DOWN (R559). -/
def rplQpLost (i : Nat) (s : State) : State :=
  ((grpNums s).filter fun g => grpQp s g == i && (grpOf s g).active).foldl (fun s g =>
    let x := grpOf s g
    grpPut g { (x.cut) with st := .linkDown, out := x.out ++ x.cur.toList } s) s

/-- A group halts (R553, R561). -/
def rplHalt (g : Nat) (s : State) : State :=
  let x := grpOf s g
  hallmark 0x1B06 0 [pw g, pw x.code] (grpPut g { (x.cut) with st := .halted } s)

/-- FULL_RESYNCS counts a FULL delta that a lost base brings (R547, R560, R561); the spec does not number the causes of 0x1B04. -/
def fullResync (g : Nat) (s : State) : State :=
  let s := (draw s).2
  hallmark 0x1B04 0 [pw g, Config.free32 (s.free - 1)] (bump pgRPL 0x194 1 s)

/-- A member namespace is handed over: its group halts, and the gaining head's FULL delta is counted here (R561). -/
def rplHandover (ns : Nat) (s : State) : State :=
  ((grpNums s).filter fun g => (grpOf s g).st != .halted && (grpOf s g).members.any fun m => m.1 == ns).foldl (fun s g =>
    rplHalt g (fullResync g s)) s

/-- After a takeover the failed head's groups are this head's; a SOURCE group waits for a key of this head's own (R561,
R562). -/
def rplTakeover (s : State) : State :=
  let s := { s with rpl := { s.rpl with bank := Config.peerRpl.bank.foldl (fun t e => Tab.put t e.1 e.2) s.rpl.bank } }
  Config.peerRpl.groups.foldl (fun s e =>
    let x := e.2
    let st := if x.st = .idle ∨ x.st = .halted then x.st else if grpRole s e.1 = roleSOURCE then GrpSt.keyWait else .applying
    grpPut e.1 { (x.cut) with st := st, out := [], running := false, resume := if grpRole s e.1 = roleSOURCE then some 1 else none } s) s

/-- The delta of a group is abandoned and the next is FULL (R547). -/
def rplFull (g : Nat) (s : State) : State :=
  let x := grpOf s g
  fullResync g (grpPut g { (x.cut) with
    lease := x.lease, leaseOut := x.leaseOut, leaseGot := x.leaseGot, out := [], work := [], area := [], nrec := 0
    running := false, pinning := false, full := true, restart := true } s)

/-- Firmware deletes a snapshot: a running delta whose base or top it is ends (R547). -/
def rplSnapGone (ns id : Nat) (s : State) : State :=
  ((grpNums s).filter fun g =>
    let x := grpOf s g
    x.running && grpRole s g == roleSOURCE && (x.members.any fun m => m.1 == ns) &&
      (grpSnap s g x.delta == id || (!x.full && grpSnap s g (x.delta + 1) == id))).foldl (fun s g => rplFull g s) s

/-- The namespaces of TARGET groups, which hosts may not write (R542). -/
def updateTargets (s : State) : State :=
  { s with hq := { s.hq with targets := ((grpNums s).filter fun g => grpRole s g == roleTARGET).flatMap fun g => (grpOf s g).members.map (·.1) } }

end Sys2Proof.Machine
end

