-- ==== Sys2Proof/Machine/HqCore.lean ====
section
/-! DEFINITION. The command table of HQ (spec/04_host_queues.md): the fields of a submission queue entry, namespaces,
descriptors, protection information, and posting a completion. The byte places of NVMe's own structures are the NVMe
standard's, to which the chapter refers. -/

namespace Sys2Proof.Machine

/-! The submission queue entry. -/

def Cmd.f (c : Cmd) (off n : Nat) : Nat := field c.sqe off n
def Cmd.opcode (c : Cmd) : Nat := c.f 0 1
def Cmd.fuse (c : Cmd) : Nat := c.f 1 1 % 4
def Cmd.nsid (c : Cmd) : Nat := c.f 4 4
/-- The namespace index: NSID less 1 (R123). -/
def Cmd.ns (c : Cmd) : Nat := c.nsid - 1
def Cmd.slba (c : Cmd) : Nat := c.f 40 8
/-- NLB, 0's-based, as a count of blocks. -/
def Cmd.blocks (c : Cmd) : Nat := c.f 48 2 + 1
def Cmd.fua (c : Cmd) : Bool := (c.f 48 4).testBit 30
def Cmd.pract (c : Cmd) : Bool := (c.f 48 4).testBit 29
/-- PRCHK asks for the application tag. -/
def Cmd.chkApp (c : Cmd) : Bool := (c.f 48 4).testBit 27
/-- The initial reference tag: 48 bits from CDW14 and the low half of CDW3. -/
def Cmd.refTag (c : Cmd) : Nat := c.f 56 4 + c.f 12 2 * 2 ^ 32
def Cmd.appTag (c : Cmd) : Nat := c.f 60 2
def Cmd.appMask (c : Cmd) : Nat := c.f 62 2
/-- Fabrics command type, where the opcode is 0x7F. -/
def Cmd.fctype (c : Cmd) : Nat := c.f 4 1

abbrev opFLUSH : Nat := 0x00
abbrev opWRITE : Nat := 0x01
abbrev opREAD : Nat := 0x02
abbrev opCOMPARE : Nat := 0x05
abbrev opZEROES : Nat := 0x08
abbrev opDSM : Nat := 0x09
abbrev opVERIFY : Nat := 0x0C

/-- The command arrived on an admin queue (queue 0), or names Fabrics. -/
def isAdmin (s : State) (c : Cmd) : Bool :=
  c.opcode == 0x7F || (match Tab.find? s.hq.sqs c.qp with | some q => q.qid == 0 | none => true)

/-- The opcodes that write (R140). -/
def Cmd.isWrite (c : Cmd) : Bool := c.opcode == opWRITE || c.opcode == opZEROES
/-- The opcodes that read a range (R140). -/
def Cmd.isRead (c : Cmd) : Bool := c.opcode == opREAD || c.opcode == opCOMPARE || c.opcode == opVERIFY
/-- The first grain a command covers, and the number of grains. -/
def Cmd.grain0 (c : Cmd) : Nat := c.slba / 2
def Cmd.grains (c : Cmd) : Nat := (c.slba + c.blocks - 1) / 2 - c.slba / 2 + 1
/-- Block `n` (0 or 1) of grain `g` lies in the command's range. -/
def Cmd.covers (c : Cmd) (g n : Nat) : Bool := decide (c.slba ≤ 2 * g + n ∧ 2 * g + n < c.slba + c.blocks)
/-- Two commands of one namespace share a block (R140). -/
def Cmd.overlaps (a b : Cmd) : Bool :=
  a.ns == b.ns && decide (a.slba < b.slba + b.blocks ∧ b.slba < a.slba + a.blocks)

/-! The table. -/

/-- The command of a queue pair and CID, where it is outstanding. -/
def cmdFind (s : State) (qp cid : Nat) : Option Cmd := s.hq.cmds.find? fun c => c.qp == qp && c.cid == cid
/-- Replace the command with the same queue pair and CID. -/
def cmdPut (c : Cmd) (s : State) : State :=
  { s with hq := { s.hq with cmds := s.hq.cmds.map fun d => if d.qp = c.qp ∧ d.cid = c.cid then c else d } }
/-- Drop a command from the table. -/
def cmdDrop (qp cid : Nat) (s : State) : State :=
  { s with hq := { s.hq with cmds := s.hq.cmds.filter fun d => !(d.qp == qp && d.cid == cid) } }

/-! Namespaces. -/

def nsOf (s : State) (n : Nat) : Ns := Tab.getD s.hq.ns {} n
def nsPut (n : Nat) (x : Ns) (s : State) : State := { s with hq := { s.hq with ns := Tab.setD s.hq.ns {} n x } }
def Ns.active (x : Ns) : Bool := bit x.cfg 0
def Ns.domain (x : Ns) : Nat := bits x.cfg 21 16
def Ns.piType (x : Ns) : Nat := bits x.cfg 5 4
def Ns.piSize (x : Ns) : Nat := bits x.cfg 3 2
/-- Bytes of PI of a block: 0, 8 or 16 (R124). -/
def Ns.piBytes (x : Ns) : Nat := match x.piSize with | 1 => 8 | 2 => 16 | _ => 0
/-- PIF of a handle or slot: PI size and type together, as R162 lays it out. -/
def Ns.pif (x : Ns) : Nat := x.piSize + 4 * x.piType
/-- This head owns the namespace (R8). -/
def owns (s : State) (n : Nat) : Bool := s.ldg.owned.contains n

/-- The bytes of a block as the host transfers it: PI travels with the data unless PRACT makes HQ generate or strip it. -/
def Cmd.wireBlock (s : State) (c : Cmd) : Nat := 4096 + (if c.pract then 0 else (nsOf s c.ns).piBytes)
/-- The bytes a command declares. -/
def Cmd.declared (s : State) (c : Cmd) : Nat := c.blocks * c.wireBlock s

/-! Descriptors (R129). -/

/-- A keyed SGL data block descriptor: address, length, key, and whether it asks for remote invalidation. -/
structure Desc where
  addr : Nat
  len : Nat
  key : Nat
  inval : Bool
deriving DecidableEq, Repr

/-- The type of a 16-byte descriptor, by its type and subtype nibbles (R129): 0x01 data block in the capsule, 0x31 last segment in the
capsule, 0x40 keyed data block (0x4F: with remote invalidation); any other value is refused. -/
def sglType (d : List Byte) : Nat := field d 15 1
/-- A keyed data block descriptor. -/
def sglKeyed (d : List Byte) : Bool := sglType d == 0x40 || sglType d == 0x4F
/-- A keyed descriptor's fields. -/
def keyed (d : List Byte) : Desc := ⟨field d 0 8, field d 8 3, field d 11 4, field d 15 1 % 16 == 0xF⟩
/-- SGL1 of the entry. -/
def Cmd.sgl (c : Cmd) : List Byte := slice c.sqe 24 16
/-- The keyed descriptors of a last-segment descriptor, at most 16, in the capsule after the entry. -/
def segDescs (c : Cmd) : List Desc :=
  (List.range (Nat.min 16 (field c.sgl 8 4 / 16))).map fun i => keyed (slice c.icd (field c.sgl 0 8 + 16 * i) 16)

/-- The keyed descriptors of a command, `none` where its descriptor is of another type (R129). In-capsule data has none. -/
def Cmd.descs (c : Cmd) : Option (List Desc) :=
  if sglKeyed c.sgl then some [keyed c.sgl]
  else if sglType c.sgl = 0x31 ∧ field c.sgl 8 4 ≤ 256 ∧
      (List.range (field c.sgl 8 4 / 16)).all fun i => sglKeyed (slice c.icd (field c.sgl 0 8 + 16 * i) 16)
    then some (segDescs c)
  else none
/-- The command carries its data in the capsule, by offset (R129). -/
def Cmd.inCapsule (c : Cmd) : Bool := sglType c.sgl == 0x01
/-- The bytes its descriptors describe. -/
def Cmd.described (c : Cmd) : Nat :=
  if c.inCapsule then field c.sgl 8 4 else ((c.descs.getD []).map (·.len)).foldl (· + ·) 0
/-- The in-capsule data that arrived for the descriptor. -/
def Cmd.icData (c : Cmd) : List Byte := (c.icd.drop (field c.sgl 0 8)).take (field c.sgl 8 4)

/-- Bytes that arrived in the capsule past those its descriptor describes (R130). -/
def Cmd.icExtra (c : Cmd) : Nat := if c.inCapsule then c.icd.length - (field c.sgl 0 8 + field c.sgl 8 4) else 0

/-- The pieces of `n` bytes of host memory from byte `off` of what the descriptors describe: address, key, length. -/
def descPieces : List Desc → Nat → Nat → List (Nat × Nat × Nat)
  | [], _, _ => []
  | d :: ds, off, n =>
    if n = 0 then []
    else if d.len ≤ off then descPieces ds (off - d.len) n
    else (d.addr + off, d.key, Nat.min n (d.len - off)) :: descPieces ds 0 (n - Nat.min n (d.len - off))

/-- Split bytes over the pieces and RDMA-write each to the host. -/
def pushPieces (qp : Nat) : List (Nat × Nat × Nat) → List Byte → State → State
  | [], _, s => s
  | (a, k, n) :: ps, bs, s =>
    pushPieces qp ps (bs.drop n) (xptPost qp { kind := .write, va := a, rkey := k, payload := bs.take n } s)

/-- RDMA-write bytes to a command's host memory from byte `off` on. -/
def hostWrite (c : Cmd) (off : Nat) (bs : List Byte) (s : State) : State :=
  pushPieces c.qp (descPieces (c.descs.getD []) off bs.length) bs s

/-- RDMA READ `n` bytes of a command's host memory from byte `off` on; the tag carries the CID and the offset. -/
def hostRead (c : Cmd) (off n : Nat) (s : State) : State :=
  (((descPieces (c.descs.getD []) off n).foldl (fun (x : Nat × State) p =>
    (x.1 + p.2.2, xptPost c.qp { kind := .read, va := p.1, rkey := p.2.1, len := p.2.2, tag := c.cid + 65536 * x.1 } x.2))
    (off, s))).2

/-! Protection information (R124, R144). -/

/-- The guard of a block: T10 CRC for 8 bytes of PI, CRC-64 for 16. -/
def piGuard (pib : Nat) (data : List Byte) : Nat := if pib = 8 then (crcT10 data).toNat else (crc64 data).toNat
/-- PI is big-endian: guard, application tag, reference tag. -/
def piMake (pib ref app : Nat) (data : List Byte) : List Byte :=
  if pib = 8 then be 2 (piGuard 8 data) ++ be 2 app ++ be 4 ref
  else if pib = 16 then be 8 (piGuard 16 data) ++ be 2 app ++ be 6 ref else []
/-- The number big-endian bytes spell. -/
def ofBe (bs : List Byte) : Nat := ofLe bs.reverse
def piGuardOf (pib : Nat) (pi : List Byte) : Nat := ofBe (slice pi 0 (pib - 6 - b2n (pib == 16) * 2))
def piAppOf (pib : Nat) (pi : List Byte) : Nat := ofBe (slice pi (pib - 6 - b2n (pib == 16) * 2) 2)
def piRefOf (pib : Nat) (pi : List Byte) : Nat :=
  ofBe (slice pi (pib - 4 - b2n (pib == 16) * 2) (4 + b2n (pib == 16) * 2))

/-- The first check that fails (R144, R161): 1 guard, 2 application tag, 3 reference tag; 0 none. Block `n` of the
command. -/
def piCheck (x : Ns) (c : Cmd) (n : Nat) (data pi : List Byte) : Nat :=
  if piGuardOf x.piBytes pi ≠ piGuard x.piBytes data then 1
  else if c.chkApp ∧ piAppOf x.piBytes pi &&& c.appMask ≠ c.appTag &&& c.appMask then 2
  else if x.piType = 1 ∧ piRefOf x.piBytes pi ≠ (c.refTag + n) % (if x.piBytes = 8 then 2 ^ 32 else 2 ^ 48) then 3
  else 0

/-- A failed check: counter and hallmark 0x1004 (R144). -/
def piFailed (ns lba chk : Nat) (s : State) : State :=
  hallmark 0x1004 0 ([pw ns] ++ pw2 lba ++ [pw chk]) (bump pgHQ 0x154 1 s)

/-! Status and completion. -/

/-- SCT × 256 + SC of R148. -/
abbrev scSUCCESS : Nat := 0x000
abbrev scBAD_OPCODE : Nat := 0x001
abbrev scBAD_FIELD : Nat := 0x002
abbrev scDATA_XFER : Nat := 0x004
abbrev scINTERNAL : Nat := 0x006
abbrev scSQ_DELETED : Nat := 0x008
abbrev scBAD_NS : Nat := 0x00B
abbrev scSGL_LEN : Nat := 0x00F
abbrev scSGL_TYPE : Nat := 0x011
abbrev scWRITE_PROT : Nat := 0x020
abbrev scLBA_RANGE : Nat := 0x080
abbrev scNS_NOT_READY : Nat := 0x082
abbrev scAER_LIMIT : Nat := 0x105
abbrev scCTRL_BUSY : Nat := 0x181
abbrev scCONN_PARAM : Nat := 0x182
abbrev scUNRECOVERED : Nat := 0x281
abbrev scCOMPARE : Nat := 0x285
abbrev scNOT_OWNER : Nat := 0x302
/-- The status of a failed check (R144). -/
def scPi (chk : Nat) : Nat := 0x281 + chk

/-- The DNR bit of a status (R148). -/
def dnr (st : Nat) : Bool :=
  [scBAD_OPCODE, scBAD_FIELD, scBAD_NS, scSGL_LEN, scSGL_TYPE, scWRITE_PROT, scLBA_RANGE, scAER_LIMIT, scCONN_PARAM,
    0x282, 0x283, 0x284, scCOMPARE].contains st

/-- The status field of a completion: SC, SCT and DNR, above the phase bit. -/
def statusField (st : Nat) : Nat := 2 * (st % 256 + st / 256 * 256 + b2n (dnr st) * 2 ^ 14)

/-- The 16 bytes of a completion: Dwords 0 and 1, SQ head pointer, SQ identifier, CID, status field. -/
def cqe (dw0 dw1 : W32) (head sqid cid stField : Nat) : List Byte :=
  le 4 dw0.toNat ++ le 4 dw1.toNat ++ le 2 head ++ le 2 sqid ++ le 2 cid ++ le 2 stField

/-- Completions are held (R139, R150). -/
def cplHeld (s : State) : Bool := bit (rd s pgHQ 0x104) 0 || inQ s

/-- Send a command's completion on its queue pair, with invalidate where its keyed descriptor asks for it, and post its
receive buffer again (R122, R501). -/
def sendCqe (c : Cmd) (stField : Nat) (s : State) : State :=
  let q := Tab.getD s.hq.sqs ⟨0, 0, 2, 0⟩ c.qp
  let bytes := cqe c.dw0 c.dw1 q.head q.qid c.cid stField
  let m : XMsg := match c.descs with
    | some (d :: _) => if d.inval then { kind := .sendInv, rkey := d.key, payload := bytes }
      else { kind := .send, payload := bytes }
    | _ => { kind := .send, payload := bytes }
  xptPost c.qp m (postRx c.qp s)

/-- Post a completion: the command leaves the table; CMD_DONE, ERR_STATUS (R136, R148). A posted write's epoch is what a
Flush accepted later covers (R126). -/
def postCqe (c : Cmd) (stField : Nat) (s : State) : State :=
  let s := bump64 pgHQ 0x140 1 (cmdDrop c.qp c.cid s)
  let s := if stField = 0 then s else bump pgHQ 0x148 1 s
  let s := if c.isWrite ∧ stField = 0 ∧ !isAdmin s c then
      nsPut c.ns { nsOf s c.ns with posted := Nat.max (nsOf s c.ns).posted (c.epoch.getD 0) } s else s
  sendCqe c stField s

/-- A command has finished with a status: it is posted, or held in the order of finishing (R139, R150). Keep Alive is
answered even during a hold. -/
def hqFinish (qp cid st : Nat) (s : State) : State :=
  match cmdFind s qp cid with
  | none => s
  | some c =>
    if c.st = .held then s
    else if cplHeld s && !(isAdmin s c && c.opcode == 0x18 && !inQ s) then
      { cmdPut { c with st := .held, status := statusField st, order := s.hq.order } s with
        hq := { (cmdPut { c with st := .held, status := statusField st, order := s.hq.order } s).hq with order := s.hq.order + 1 } }
    else postCqe c (statusField st) s

/-- Finish with Dword 0. -/
def hqFinishDw (qp cid st : Nat) (dw0 dw1 : W32) (s : State) : State :=
  match cmdFind s qp cid with
  | none => s
  | some c => hqFinish qp cid st (cmdPut { c with dw0 := dw0, dw1 := dw1 } s)

/-- Take the lowest-ordered held command. -/
def nextHeld (s : State) : Option Cmd :=
  (s.hq.cmds.filter fun c => decide (c.st = .held)).foldl (fun b c =>
    match b with
    | none => some c
    | some d => if c.order < d.order then some c else some d) none

/-- Post the held completions in the order in which the commands finished (R150). -/
def postHeld : Nat → State → State
  | 0, s => s
  | f + 1, s => match nextHeld s with
    | none => s
    | some c => postHeld f (postCqe c c.status s)

/-! Asynchronous events. -/

/-- Dword 0 of an asynchronous event: type, information, log page. The ANA change notice (R10), the SMART event of the
read-only state (R147), the Firmware Activation Starting notice (R150). -/
abbrev aeANA : W32 := 0x000C0302#32
abbrev aeREAD_ONLY : W32 := 0x00020001#32
abbrev aeACTIVATE : W32 := 0x00030102#32
/-- The bit of a host's event configuration that enables each (Set Features, feature 0x0B). -/
def aeBit (dw0 : W32) : Nat := if dw0 = aeANA then 11 else if dw0 = aeACTIVATE then 9 else 3

/-- Send an event to one controller: on an outstanding request, or kept until the next one comes. -/
def aeSend (dw0 : W32) (e : Nat × Ctrl) (s : State) : State :=
  match e.2.aer with
  | [] => { s with hq := { s.hq with ctrls := Tab.put s.hq.ctrls e.1 { e.2 with aePend := e.2.aePend.filter (· != dw0) ++ [dw0] } } }
  | (qp, cid) :: rest =>
    hqFinishDw qp cid scSUCCESS dw0 0 { s with hq := { s.hq with ctrls := Tab.put s.hq.ctrls e.1 { e.2 with aer := rest } } }

/-- Send an asynchronous event to every controller whose host has enabled it (R10, R147, R150). -/
def hqAsync (dw0 : W32) (s : State) : State :=
  (s.hq.ctrls.filter fun e => bit e.2.aeCfg (aeBit dw0)).foldl (fun s e => aeSend dw0 e s) s

end Sys2Proof.Machine
end

