-- ==== Sys2Proof/Machine/WcCore.lean ====
section
/-! DEFINITION. The slots of the write cache, the quench image, the dirty budget and the mirror
(spec/09_write_cache_mirror.md), as HQ, the forges, the ledger and the quench sequencer meet them. -/

namespace Sys2Proof.Machine

/-! The quench image (R338 to R340). -/

abbrev qDIR : Nat := 0x150480000
abbrev qCTRL : Nat := 0x154480000
abbrev qTINGEN : Nat := 0x154481000
abbrev qTINCNT : Nat := 0x154501000

/-- The bytes 0x00 to 0x77 of a directory entry (R339). -/
def dirBody (valid : Bool) (x : Slot) (qgen : Nat) (pi : List Byte) : List Byte :=
  le 1 (b2n valid + 2 * b2n x.lost + 4 * b2n x.adopted + 8 * b2n x.lo + 16 * b2n x.hi) ++ le 1 x.pif ++ le 2 x.ns ++
  le 1 x.domain ++ [0#8] ++ le 6 x.epoch ++ le 4 qgen ++ le 8 x.grain ++ le 8 x.wseq ++ le 4 x.crc.toNat ++
  List.replicate 4 0#8 ++ slice pi 0 32 ++ List.replicate 48 0#8
/-- A directory entry, closed by ECHK (R339). -/
def dirEntry (valid : Bool) (x : Slot) (qgen : Nat) (pi : List Byte) : List Byte :=
  dirBody valid x qgen pi ++ le 8 (crc64 (dirBody valid x qgen pi)).toNat
/-- Write the directory entry of own slot `i`. -/
def writeEntry (valid : Bool) (i : Nat) (x : Slot) (pi : List Byte) (s : State) : State :=
  qstWrite (qDIR + i * 0x80) (dirEntry valid x s.wc.qgen pi) s

/-- The control record (R340). -/
def ctrlRecord (qgen flags head epoch entries : Nat) : List Byte :=
  let b := le 4 qgen ++ le 2 flags ++ le 1 head ++ [0#8] ++ le 8 epoch ++ le 4 entries ++ List.replicate 4068 0#8
  b ++ le 8 (crc64 b).toNat

/-! Mode, budget (R322 to R327). -/

/-- WC mirrors to its partner. -/
def mirroring (s : State) : Bool := !s.wc.single && !s.wc.degraded && live s pgWC 0
/-- New grains are still sent to the partner: in PAIR, and in DEGRADED unless the partner quenches (R318, R337). -/
def sendsMirror (s : State) : Bool := !s.wc.single && live s pgWC 0 && !s.wc.peerQuench
/-- WC_STAT.MODE (R347). -/
def wcMode (s : State) : Nat :=
  if inQ s then 5 else if s.wc.restoring then 4 else if s.wc.adopting then 3 else if s.wc.single then 1
  else if s.wc.degraded then 2 else 0

/-- Image capacity in units of 8,192 grains: 64, and 48 on A0 (R5, R308). -/
def imageUnits (s : State) : Nat := if s.a0 then 48 else 64
/-- Three times t_g in ns: 64 ns on B1, 85⅓ ns on A0 (R323). -/
def tg3 (s : State) : Nat := if s.a0 then 256 else 192
/-- The energy of R323 for `n` grains, in units of 1/30 nJ. -/
def quenchCost (s : State) (n : Nat) : Nat :=
  11 * rdF s pgWC 0x150 9 0 * (rdF s pgWC 0x154 15 0 * 3000 + n * tg3 s)
/-- H in units of 8,192 grains (R323). -/
def ownH (s : State) : Nat :=
  if live s pgWC 1 then
    ((List.range (imageUnits s + 1)).filter fun u =>
      decide (quenchCost s (u * 8192) ≤ (rd s pgWC 0x160).toNat * 30000000)).foldl Nat.max 0
  else imageUnits s
/-- HOLD_ENERGY in mJ from HOLD_SAMPLE in µV (R327). -/
def holdEnergy (s : State) : Nat :=
  let v := rdF s pgAON 0x100 20 0 * rdF s pgWC 0x140 15 0 / 256
  let m := rdF s pgWC 0x144 15 0 * 1000
  (rd s pgWC 0x158).toNat * (v * v - m * m) * rdF s pgWC 0x148 6 0 / (200 * 10 ^ 15)

/-- BUDGET_CFG. -/
def sharePct (s : State) : Nat := rdF s pgWC 0x130 22 16
def budgetCap (s : State) : Nat := rdF s pgWC 0x130 6 0
/-- The two shares sum to more than 100 (R325). -/
def shareConflict (s : State) : Bool := !s.wc.single && decide (100 < sharePct s + s.wc.peerShare)
/-- L in units (R324): single, the partner's H does not count. -/
def limitL (s : State) : Nat :=
  let h := Nat.min (rdF s pgWC 0x138 6 0) (budgetCap s)
  if s.wc.single then h else Nat.min h s.wc.peerH
/-- The budget in units (R324, R325). -/
def budgetUnits (s : State) : Nat :=
  if s.wc.single then limitL s else limitL s * (if shareConflict s then 50 else sharePct s) / 100
/-- BUDGET_STAT.SOURCE: the binding term. -/
def budgetSource (s : State) : Nat :=
  let l := limitL s
  if l = imageUnits s then 0 else if l = rdF s pgWC 0x138 6 0 then 1
  else if !s.wc.single ∧ l = s.wc.peerH then 2 else 3
/-- The budget in force, in grains; 0 until HOLD_ENERGY is first computed (R758). -/
def budgetGrains (s : State) : Nat := if s.wc.budgetKnown then rdF s pgWC 0x134 22 16 * 8192 else 0
/-- WC_STAT.DIRTY_FULL (R322). -/
def dirtyFull (s : State) : Bool := decide (budgetGrains s ≤ dirty s)

/-- OVER_BUDGET follows DIRTY and the budget (R326). -/
def overBudget (s : State) : State :=
  let isOver := s.wc.budgetKnown && decide (budgetGrains s < dirty s)
  let was := bit (rd s pgWC 0x11C) 8
  let s := wrF pgWC 0x11C 8 8 (b2n isOver) s
  if isOver && !was then
    hallmark 0x1A03 0 [pw (dirty s), pw (budgetGrains s)] (event pgWC 3 (pw (dirty s)) s)
  else s

/-- Recompute the budget, NEED_MJ and COVERS (R324, R327). -/
def rebudget (s : State) : State :=
  let s := wrF pgWC 0x138 22 16 s.wc.peerH s
  let s := wr pgWC 0x134 (BitVec.ofNat 32 (budgetUnits s * 2 ^ 16 + budgetSource s)) s
  let need := quenchCost s (limitL s * 8192) / 30000000
  let s := wr pgWC 0x164 (pw need) s
  let s := wrF pgWC 0x168 1 1 (b2n (decide (need ≤ (rd s pgWC 0x160).toNat))) s
  overBudget s

/-- Send MIR_HOLD: H and SHARE_PCT (R324, R588). -/
def sendHold (s : State) : State :=
  if live s pgWC 0 then sendW clsMIRROR 0x07 (rdF s pgWC 0x138 6 0 + sharePct s * 2 ^ 16) [] s else s

/-- Own H, or SHARE_PCT, may have changed: recompute, and tell the partner of a change (R324, R325). -/
def updateHold (s : State) : State :=
  let old := rdF s pgWC 0x138 6 0
  let s := wrF pgWC 0x138 6 0 (ownH s) s
  let s := rebudget s
  if rdF s pgWC 0x138 6 0 ≠ old then sendHold s else s

/-! Allocation, mirror, release. -/

/-- The first FREE own slots, `n` of them, from index `i` up; `f` bounds the search. -/
def freeSlots (s : State) : Nat → Nat → Nat → List Nat
  | 0, _, _ => []
  | _ + 1, _, 0 => []
  | f + 1, i, n + 1 => if (slotOf s i).dirty then freeSlots s f (i + 1) (n + 1) else i :: freeSlots s f (i + 1) n

/-- Before a freed slot that had INQ is allocated again its directory entry is rewritten with VALID 0 (R321). -/
def clearEntry (i : Nat) (s : State) : State :=
  let x := slotOf s i
  if x.oldEntry then { writeEntry false i {} [] s with
      wc := { (writeEntry false i {} [] s).wc with slots := Tab.erase (writeEntry false i {} [] s).wc.slots i } }
  else s

/-- Allocate `n` slots into LANDING; none while the budget does not cover them, or the block or both landing
CVUs do not serve (R311, R322, R615). -/
def wcAlloc (n : Nat) (s : State) : Option (List Nat × State) :=
  if running s pgWC && !inQ s && !s.wc.restoring && (running s pgCVU || running s (pgCVU + 1)) && decide (dirty s + n ≤ budgetGrains s) &&
      decide (dirty s + n ≤ imageSlots s) then
    let is := freeSlots s (s.wc.slots.length + n) 0 n
    some (is, is.foldl (fun s i => clearEntry i s) s)
  else none

/-- Free an own slot; an INQ copy leaves its entry to be rewritten (R321). -/
def freeSlot (i : Nat) (s : State) : State :=
  let x := slotOf s i
  slotPut i { oldEntry := x.inq || x.oldEntry } s

/-- Indices as the 4-byte entries of MIR_STAMP and MIR_RELEASE. -/
def slotList (is : List Nat) : List Byte := is.flatMap (le 4)
/-- Send a message that names up to 32 slots at a time (R314 to R316). -/
def sendSlots (mtype arg : Nat) : Nat → List Nat → State → State
  | 0, _, s => s
  | f + 1, is, s =>
    if is.isEmpty then s
    else sendSlots mtype arg f (is.drop 32) (sendW clsMIRROR mtype arg (slotList (is.take 32)) s)

/-- Once a copy that stood over them is gone, the newest SUPERSEDED slot of its grain and epoch is READY again (R133). -/
def uncover (x : Slot) (s : State) : State :=
  match newest ((slotsOf s x.ns x.grain).filter fun e => e.2.epoch == x.epoch && decide (e.2.st = .ready ∨ e.2.st = .superseded)) with
  | some e => if e.2.st = .superseded then slotPut e.1 { e.2 with st := .ready } s else s
  | none => s

/-- Free one slot of a write that failed: a grain already marked READY leaves no trace, in the quench image either (R131, R133). -/
def releaseSlot (s : State) (i : Nat) : State :=
  let x := slotOf s i
  let s := if x.st = .ready ∧ x.inq then writeEntry false i x [] s else s
  let s := freeSlot i s
  if x.st = .ready then uncover x s else s

/-- Release some slots of a write in both heads (R316). -/
def releaseSlots (is : List Nat) (s : State) : State :=
  let s := bump pgWC 0x194 is.length (is.foldl releaseSlot s)
  overBudget (if s.wc.single then s else sendSlots 0x05 0 (is.length + 1) is s)

/-- Release a failed write (R131, R133, R316): unless WC has marked every grain of it, its LANDING, HELD and READY slots. -/
def wcRelease (wseq : Nat) (s : State) : State :=
  if writeSettled s wseq then s
  else releaseSlots (((writeSlots s wseq).filter fun e => decide (e.2.st = .landing ∨ e.2.st = .held ∨ e.2.st = .ready)).map (·.1)) s

/-- Release the LANDING and HELD slots of a write, as a soft reset of WC does (R344). -/
def wcReleaseHeld (wseq : Nat) (s : State) : State :=
  releaseSlots (((writeSlots s wseq).filter fun e => decide (e.2.st = .landing ∨ e.2.st = .held)).map (·.1)) s

/-- The body of MIR_GRAIN: header, then data and PI (R588). -/
def grainBody (s : State) (i : Nat) : List Byte :=
  (slotOf s i).header ++ memRead s (ownAddr s i) 8224

/-- Send a grain to the partner (R314). -/
def sendGrain (i : Nat) (s : State) : State := sendW clsMIRROR 0x01 i (grainBody s i) s

/-- DEGRADED is entered (R318, R337). -/
def degrade (cause slot : Nat) (s : State) : State :=
  if s.wc.degraded ∨ s.wc.single then s
  else hallmark 0x1A01 0 [pw cause, pw slot] (event pgWC 2 (pw slot) { s with wc := { s.wc with degraded := true } })

/-- A partner message that a slot does not admit (R319): dropped, counted, recorded. -/
def peerViolation (mtype slot : Nat) (s : State) : State :=
  hallmark 0x1A08 0 [pw mtype, pw slot] (bump pgWC 0x188 1 s)

/-! The slag list (R395, R396). -/

/-- SLAG_COUNT and SLAG_GEN after a change of the list. -/
def slagCount (n : Nat) (s : State) : State :=
  bump pgING 0x180 n (wr pgLDG 0x180 (pw s.ldg.img.slag.length) s)
/-- Add an entry; SLAG_ADDED (R396). A list of 4,194,304 entries takes no more (R399). -/
def slagAdd (e : SlagEntry) (s : State) : State :=
  if 4194304 ≤ s.ldg.img.slag.length then
    hallmark 0x170B 0 (if e.extent then pw2 e.gloc.toNat else pw e.ns :: pw2 e.grain) (bump pgING 0x1B0 1 s)
  else
    let s := slagCount 1 { s with ldg := { s.ldg with img := { s.ldg.img with slag := s.ldg.img.slag ++ [e] } } }
    event pgLDG 5 (rd s pgLDG 0x180) s
/-- The GRAIN entry of a live grain. -/
def slagGrain (cause ns g : Nat) : SlagEntry :=
  ⟨false, false, cause, ns, 0, g, 0, 0⟩

/-- Causes of R395. -/
abbrev slCRC : Nat := 1
abbrev slSLOT : Nat := 2
abbrev slRESTORE : Nat := 3
abbrev slREBUILD : Nat := 4

/-- A slot is marked LOST (R312): counter, hallmark, slag list. -/
def loseSlot (i : Nat) (s : State) : State :=
  let x := slotOf s i
  if x.lost then s
  else slagAdd (slagGrain slSLOT x.ns x.grain)
    (hallmark 0x1A09 0 ([pw i, pw x.ns] ++ pw2 x.grain) (bump pgWC 0x190 1 (slotPut i { x with lost := true } s)))

/-- Read a slot's header: a failing HCHK marks the slot LOST (R312). -/
def readHeader (i : Nat) (s : State) : State :=
  if headerOk (memRead s (ownAddr s i + 0x2040) 64) then s else loseSlot i s

/-- The state of a slot is read from its header again (R344); one whose HCHK fails is LOST (R312). -/
def rebuildSlot (i : Nat) (s : State) : State :=
  let h := memRead s (ownAddr s i + 0x2040) 64
  let x := slotOf s i
  if headerOk h then
    { s with wc := { s.wc with slots := Tab.setD s.wc.slots {} i { Slot.ofHeader h with
        whole := x.whole, resends := x.resends, binds := x.binds, oldEntry := x.oldEntry, aside := x.aside, returned := x.returned
        zeroed := x.zeroed } } }
  else loseSlot i s

/-! Epochs as WC and HQ see them. -/

def epochOpen (s : State) : Nat := (rd64 s pgLDG 0x110).toNat
def epochCommitted (s : State) : Nat := (rd64 s pgLDG 0x118).toNat
/-- LEADER, or a head without a partner. -/
def leader (s : State) : Bool := bit (rd s pgLDG 0x108) 8
/-- Ask for an early close of the open epoch (R73): the follower asks its leader. -/
def askClose (s : State) : State :=
  if live s pgLDG 2 then
    let s := { s with ldg := { s.ldg with earlyReq := true } }
    if leader s || !paired s then s else sendW clsEPOCH 0x22 (epochOpen s) [] s
  else s

end Sys2Proof.Machine
end

