-- ==== Sys2Proof/Machine/HostQueues.lean ====
section
/-! DEFINITION. Commands of the host queues (spec/04_host_queues.md), and the resolution of a read (R463). A row of the
table that dispatches a command acts where the command is in the table, of that kind, and free to start; elsewhere the
command goes on waiting and nothing changes. -/

namespace Sys2Proof.Machine

/-! Queue deletion (R132, R133). -/

/-- Drop the bindings of a read; a SUPERSEDED slot becomes FREE with the last one, once the write that stands over it is whole (R133, R315,
R463). -/
def unbind (c : Cmd) (s : State) : State :=
  c.binds.foldl (fun s b => match b.2 with
    | .slot i => let x := slotOf s i
      if x.st = .superseded ∧ x.binds ≤ 1 ∧ !coverOpen s x then freeSlot i s else slotPut i { x with binds := x.binds - 1 } s
    | _ => s) s

/-- Every grain of a write is acknowledged-ready (R135). -/
def writeReady (s : State) (c : Cmd) : Bool := c.landed && writeSettled s c.wseq

/-- One command of a deleted queue: a write that is ready succeeds, any other ends with Command Aborted due to SQ
Deletion, its slots released (R132, R133). In a quench nothing is posted (R139). -/
def deleteCmd (s : State) (c : Cmd) : State :=
  let done := c.isWrite && !isAdmin s c && writeReady s c
  let s := if done then s else unbind c s
  let s := if !done && c.isWrite && !isAdmin s c then wcRelease c.wseq s else s
  if inQ s then cmdDrop c.qp c.cid s
  else if done then postCqe c 0 s
  else postCqe c (statusField scSQ_DELETED) (bump pgHQ 0x160 1 s)

/-- Causes of hallmark 0x1003 (R161). -/
abbrev qdDISCONNECT : Nat := 1
abbrev qdQP_LOST : Nat := 2
abbrev qdCC_EN : Nat := 3
abbrev qdKATO : Nat := 4

/-- Delete the submission queue of a queue pair (R132). -/
def deleteQueue (qp cause : Nat) (s : State) : State :=
  match Tab.find? s.hq.sqs qp with
  | none => s
  | some q =>
    let cs := s.hq.cmds.filter fun c => c.qp == qp
    let n := (cs.filter fun c => !(c.isWrite && !isAdmin s c && writeReady s c)).length
    let s := cs.foldl deleteCmd s
    let s := { s with hq := { s.hq with
      sqs := Tab.erase s.hq.sqs qp
      ringWait := s.hq.ringWait.filter fun w => w.1 != qp
      ctrls := s.hq.ctrls.map fun e => (e.1, { e.2 with aer := e.2.aer.filter fun a => a.1 != qp }) } }
    hallmark 0x1003 0 [pw q.ctrl, pw q.qid, pw cause, pw n] s

/-- Delete every queue of a controller. -/
def deleteCtrlQueues (ctrl cause : Nat) (s : State) : State :=
  (s.hq.sqs.filter fun e => e.2.ctrl == ctrl).foldl (fun s e => deleteQueue e.1 cause s) s

/-! Accepting a capsule. -/

/-- The status a host command carries on the wire: Status Code 0x08 for a disable or a reset (R134), else Internal Error. -/
def hostStatus (status : Nat) : Nat :=
  if status = stsABORTED_DISABLE ∨ status = stsABORTED_RESET then scSQ_DELETED else scINTERNAL

/-- Every command of HQ completes; a write gives up what is not READY (R134, R316). -/
def hqAbort (status : Nat) (s : State) : State :=
  s.hq.cmds.foldl (fun s c =>
    if c.st = .held then postCqe c c.status s
    else
      let s := unbind c s
      let s := if c.isWrite && !isAdmin s c && c.wseq != 0 then wcRelease c.wseq s else s
      postCqe c (statusField (hostStatus status)) s) s

/-- A fatal cause of page HQ itself: its commands complete with Internal Error (R46, R157). -/
def hqFatal (cause : Nat) (s : State) : State :=
  if pgState s pgHQ = stFAULT then recordFault pgHQ cause 0 s else hqAbort stsINTERNAL (recordFault pgHQ cause 0 s)

/-- The opcode is supported, and its features are live: its own, in-capsule data, PI where the namespace carries it (R126, R127, R156). -/
def opcodeOk (s : State) (c : Cmd) : Bool :=
  if isAdmin s c then
    if c.opcode = 0x7F then [0x00, 0x01, 0x04, 0x08].contains c.fctype
    else [0x02, 0x06, 0x08, 0x09, 0x0A, 0x0C, 0x18].contains c.opcode
  else
    (match c.opcode with
      | 0x00 | 0x02 | 0x09 => true
      | 0x01 => live s pgHQ 5 || !c.inCapsule
      | 0x05 => live s pgHQ 1
      | 0x08 => live s pgHQ 2
      | 0x0C => live s pgHQ 3
      | _ => false) &&
    (live s pgHQ 0 || !(c.isWrite || c.isRead) || (nsOf s c.ns).piBytes == 0)

/-- This head serves the namespace: after a chip reset it serves none until ownership is settled (R581, R598). -/
def serves (s : State) (n : Nat) : Bool := owns s n && tstate s != tsUNOWNED

/-- LDG is READY. -/
def ldgReady (s : State) : Bool := bit (rd s pgLDG 0x044) 5
/-- LDG is READY and, for a command that writes, the restore is done (R137, R343). -/
def nsReady (s : State) (c : Cmd) : Bool := ldgReady s && (!(c.isWrite || c.opcode == opDSM) || !s.wc.restoring)

/-- A reserved field of the entry is not 0 (R148); which fields NVMe reserves is taken from its command set: byte 1 between FUSE and PSDT,
and the Dwords and bits that a command does not use. -/
def Cmd.rsvd (c : Cmd) : Bool :=
  let bad := fun (off n m : Nat) => c.f off n &&& m != 0
  bad 1 1 0x3C ||
  match c.opcode with
  | 0x00 => bad 8 8 (2 ^ 64 - 1) || bad 40 24 (2 ^ 192 - 1)
  | 0x01 => bad 48 4 0x020F0000 || bad 52 4 0xFF00
  | 0x02 => bad 48 4 0x02FF0000 || bad 52 4 0xFFFFFF00
  | 0x05 | 0x0C => bad 48 4 0x02FF0000 || bad 52 4 0xFFFFFFFF
  | 0x08 => bad 48 4 0x00FF0000 || bad 52 4 0xFFFFFFFF
  | 0x09 => bad 8 8 (2 ^ 64 - 1) || bad 40 4 0xFFFFFF00 || bad 44 4 0xFFFFFFF8 || bad 48 16 (2 ^ 128 - 1)
  | _ => false

/-- A block on the path of every command of its kind is in FAULT (R148): LDG, and WC for a write. -/
def pathFault (s : State) (c : Cmd) : Bool := pgState s pgLDG == stFAULT || (c.isWrite && pgState s pgWC == stFAULT)

/-- The largest command: 2^MDTS × 4 KiB of data; 65,536 blocks without data (R126). -/
def tooLong (s : State) (c : Cmd) : Bool :=
  (c.opcode == opWRITE || c.opcode == opREAD || c.opcode == opCOMPARE) && decide (2 ^ rdF s pgHQ 0x100 3 0 < c.blocks)

/-- The checks of an I/O command as it is accepted, as SCT × 256 + SC; 0 where it passes (R9, R126, R137, R147,
R148, R156, R542, R598). -/
def ioCheck (s : State) (c : Cmd) : Nat :=
  if c.fuse ≠ 0 ∨ c.rsvd then scBAD_FIELD
  else if c.nsid = 0xFFFFFFFF then
    (if c.opcode ≠ opFLUSH then scBAD_FIELD else if pathFault s c then scINTERNAL else if !ldgReady s then scNS_NOT_READY else 0)
  else if c.nsid = 0 ∨ 16384 < c.nsid ∨ !(nsOf s c.ns).active then scBAD_NS
  else if !serves s c.ns then scNOT_OWNER
  else if pathFault s c then scINTERNAL
  else if !nsReady s c then scNS_NOT_READY
  else if c.isWrite ∧ (bit (rd s pgHQ 0x108) 5 ∨ s.hq.targets.contains c.ns) then scWRITE_PROT
  else if c.opcode = opDSM ∧ s.hq.targets.contains c.ns then scWRITE_PROT
  else if c.opcode = opFLUSH ∨ c.opcode = opDSM then 0
  else if 2 * (nsOf s c.ns).grains.toNat < c.slba + c.blocks then scLBA_RANGE
  else if tooLong s c then scBAD_FIELD
  else 0

/-- The check of an I/O command as it is dispatched: what its acceptance found, which a later change of ownership or protection does not touch
(R138, R147), unless the head has been FENCED since (R597). -/
def checkNow (s : State) (c : Cmd) : Nat :=
  if c.verdict ≠ 0 then c.verdict else if tstate s = tsFENCED then scNOT_OWNER else 0

/-- A command refused at its acceptance: status, and NOT_OWNER where R9 applies. -/
def refuse (c : Cmd) (st : Nat) (s : State) : State :=
  hqFinish c.qp c.cid st (if st = scNOT_OWNER then bump pgHQ 0x158 1 s else s)

/-- The data bytes a command moves (R152). -/
def Cmd.dataBytes (c : Cmd) : Nat :=
  if c.opcode = opWRITE ∨ c.opcode = opREAD ∨ c.opcode = opCOMPARE then c.blocks * 4096 else 0

/-- A command and its bytes offered to its namespace in this window (R155). -/
def offered (c : Cmd) (s : State) : State :=
  let x := nsOf s c.ns
  nsPut c.ns { x with offOps := x.offOps + 1, offBytes := x.offBytes + c.dataBytes } s

/-- Dispatch is open: HQ serves, no hold (R150), no quench, P0 (R149). -/
def dispatching (s : State) : Bool :=
  alive s pgHQ && !bit (rd s pgHQ 0x104) 0 && !inQ s && pwrState s == psP0

/-- The newest epoch a Flush must see committed: that of the writes posted so far (R126). -/
def flushEpoch (s : State) (c : Cmd) : Nat :=
  if c.nsid = 0xFFFFFFFF then s.hq.ns.foldl (fun m e => Nat.max m e.2.posted) 0 else (nsOf s c.ns).posted

/-- A capsule's entry in the command table (R122): a write takes its WSEQ (R311), a Flush the epoch it covers (R126, R143), and every
command the verdict of its checks. -/
def newCmd (qp : Nat) (sqe icd : List Byte) (s : State) : Cmd :=
  let c : Cmd := { qp := qp, cid := field sqe 2 2, sqe := sqe, icd := icd, seq := s.hq.seq, at_ := s.time }
  if isAdmin s c then { c with verdict := if c.fuse = 0 then 0 else scBAD_FIELD }
  else { c with
    wseq := if c.isWrite then s.wc.wseq + 1 else 0
    epoch := if c.opcode = opFLUSH then some (flushEpoch s c) else none
    verdict := ioCheck s c }

/-- CAPSULE_ARRIVAL (R122): the capsule takes its place in the command table; in P1 or P2 it wakes the head (R149); where dispatch is open, a
command that cannot be served ends at once (R9, R126, R137, R147, R148). In a quench none is accepted (R139). -/
def execCapsuleArrival (qp : Nat) (sqe icd : List Byte) (s : State) : Outcome :=
  let s := { s with xpt := { s.xpt with capsules := s.xpt.capsules.erase (qp, sqe ++ icd) } }
  .next (if inQ s || !running s pgHQ then s else
    let s := if pwrState s = psP0 then s else wrF pgHQ 0x108 3 3 1 (wake wkCAPSULE s)
    let s := match Tab.find? s.hq.sqs qp with
      | some q => { s with hq := { s.hq with sqs := Tab.put s.hq.sqs qp { q with head := (q.head + 1) % q.depth } } }
      | none => s
    let c := newCmd qp sqe icd s
    let s := { ({ s with hq := { s.hq with cmds := s.hq.cmds ++ [c], seq := s.hq.seq + 1 } } : State) with wc := { s.wc with wseq := Nat.max s.wc.wseq c.wseq } }
    if !opcodeOk s c then s
    else if c.verdict = 0 then (if isAdmin s c || c.nsid = 0xFFFFFFFF then s else offered c s)
    else if dispatching s then refuse c c.verdict s
    else s)

/-! Dispatch. -/

/-- A queued command of an opcode, on an I/O queue. -/
def ioCmd (s : State) (qp cid op : Nat) : Option Cmd :=
  match cmdFind s qp cid with
  | some c => if c.st = .queued ∧ c.opcode = op ∧ !isAdmin s c ∧ opcodeOk s c then some c else none
  | none => none

/-- A row that starts an I/O command: where dispatch is open, the command is refused on its check or acts. -/
def ioRow (op qp cid : Nat) (act : Cmd → State → State) (s : State) : State :=
  match ioCmd s qp cid op with
  | none => s
  | some c =>
    if !dispatching s then s
    else if checkNow s c ≠ 0 then refuse c (checkNow s c) s
    else act c s

/-- A queued admin or Fabrics command. -/
def adminCmd (s : State) (qp cid op : Nat) : Option Cmd :=
  match cmdFind s qp cid with
  | some c => if c.st = .queued ∧ c.opcode = op ∧ isAdmin s c then some c else none
  | none => none

/-- A row that starts an admin or Fabrics command that HQ executes. -/
def adminRow (op qp cid : Nat) (act : Cmd → State → State) (s : State) : State :=
  match adminCmd s qp cid op with
  | none => s
  | some c =>
    if !dispatching s then s
    else if c.verdict ≠ 0 then refuse c c.verdict s
    else act c s

/-! Tiers and ceilings (R152, R154). -/

/-- Tokens of a limit in one refill of 10 µs: thousandths of a command, and bytes (R152). -/
def opsPerRefill (kiops : Nat) : Nat := kiops * 10
def bytesPerRefill (bw : Nat) : Nat := bw * 160

/-- The tier of a command (R152): 0 while its namespace is below a reserved minimum, 1 once it has waited half its latency target, 2
otherwise. -/
def tier (s : State) (c : Cmd) : Nat :=
  let x := nsOf s c.ns
  if (bits x.qmin 15 0 ≠ 0 ∧ 1000 ≤ x.resOps) ∨ (bits x.qmin 31 16 ≠ 0 ∧ 0 < x.resBytes) then 0
  else if bits x.qlat 15 0 ≠ 0 ∧ bits x.qlat 15 0 ≤ 2 * (s.time - c.at_).toNat then 1
  else 2

/-- No ceiling holds the command: QOS is not live, its namespace is below its ceilings, or they yield to its reserved minimum or latency
target (R152, R154). -/
def belowCeiling (s : State) (c : Cmd) : Bool :=
  let x := nsOf s c.ns
  !live s pgHQ 4 || decide (tier s c < 2) ||
    ((bits x.qmax 15 0 == 0 || decide (1000 ≤ x.tokOps)) && (bits x.qmax 31 16 == 0 || decide (0 < x.tokBytes)))

/-- The tokens a dispatched command takes, what its namespace received, its turn in the round (R152, R155). -/
def charge (c : Cmd) (s : State) : State :=
  let x := nsOf s c.ns
  let rr := if tier s c = 2 then c.ns else s.hq.rr
  nsPut c.ns { x with
    tokOps := x.tokOps - 1000
    tokBytes := x.tokBytes - c.dataBytes
    resOps := x.resOps - 1000
    resBytes := x.resBytes - c.dataBytes
    gotOps := x.gotOps + 1
    gotBytes := x.gotBytes + c.dataBytes } { s with hq := { s.hq with rr := rr } }

/-- A write may not be fetched: journal throttle (R97). -/
def fetchBlocked (s : State) : Bool := bit (rd s pgHQ 0x108) 1

/-- An earlier write of the same queue overlaps and has not landed: the read waits (R140). -/
def readBlocked (s : State) (c : Cmd) : Bool :=
  s.hq.cmds.any fun d => d.qp == c.qp && decide (d.seq < c.seq) && d.isWrite && !isAdmin s d && d.overlaps c && !d.landed

/-- Something else than a turn holds the command: a ceiling, the journal throttle, the dirty budget, the order of R140. -/
def heldBack (s : State) (c : Cmd) : Bool :=
  (c.opcode != opFLUSH && !belowCeiling s c) || (c.isWrite && (fetchBlocked s || (wcAlloc c.grains s).isNone)) || (c.isRead && readBlocked s c)

/-- Namespaces between the one served last and this one, round robin. -/
def rrDist (s : State) (c : Cmd) : Nat := (c.ns + 2 * 16384 - s.hq.rr - 1) % 16384

/-- With QOS live, a command that may start is dispatched ahead of this one (R152). -/
def yields (s : State) (c : Cmd) : Bool :=
  live s pgHQ 4 && s.hq.cmds.any fun d =>
    decide (d.st = .queued) && !isAdmin s d && opcodeOk s d && checkNow s d == 0 && !heldBack s d &&
    (decide (tier s d < tier s c) || (tier s d == 2 && tier s c == 2 && decide (rrDist s d < rrDist s c)))

/-- Evidence of R130: controller, queue, CID, then two lengths or the excess. -/
def lenMark (code : Nat) (c : Cmd) (xs : List Nat) (s : State) : State :=
  let q := Tab.getD s.hq.sqs ⟨0, 0, 2, 0⟩ c.qp
  hallmark code 0 ([pw q.ctrl, pw q.qid, pw c.cid] ++ xs.map pw) s
def lenExcess (c : Cmd) (n : Nat) (s : State) : State := lenMark 0x1002 c [n] (bump pgHQ 0x150 1 s)
def lenShort (c : Cmd) (decl got : Nat) (s : State) : State := lenMark 0x1001 c [decl, got] (bump pgHQ 0x14C 1 s)

/-- The descriptor checks of R129 and R130, for `n` bytes of host data: a status, 0 where they pass. -/
def sglCheck (s : State) (c : Cmd) (n : Nat) : Nat :=
  if c.inCapsule then
    if c.opcode ≠ opWRITE ∨ isAdmin s c ∨ rdF s pgHQ 0x100 19 16 * 1024 < field c.sgl 8 4 then scSGL_TYPE
    else if c.described < n then scSGL_LEN
    else if c.icData.length < field c.sgl 8 4 then scDATA_XFER else 0
  else if c.descs.isNone then scSGL_TYPE
  else if c.described < n then scSGL_LEN else 0

/-- Fail a command on `sglCheck`, with LEN_SHORT where in-capsule data is short. -/
def sglFail (c : Cmd) (st n : Nat) (s : State) : State :=
  hqFinish c.qp c.cid st (if st = scDATA_XFER then lenShort c n c.icData.length s else s)

/-- Excess described, or sent in the capsule, is recorded and not moved (R130). -/
def sglExcess (c : Cmd) (n : Nat) (s : State) : State :=
  let s := if n < c.described then lenExcess c (c.described - n) s else s
  if 0 < c.icExtra then lenExcess c c.icExtra s else s

/-! Landing (R131, R144, R311 to R313). -/

/-- Where a byte of a write's data lands: block `b` of the command, byte `r` of its wire form. -/
def landAddr (s : State) (c : Cmd) (b r : Nat) : Nat :=
  let lba := c.slba + b
  let a := ownAddr s (c.slots.getD (lba / 2 - c.grain0) 0)
  if r < 4096 then a + lba % 2 * 4096 + r else a + 0x2000 + lba % 2 * (nsOf s c.ns).piBytes + (r - 4096)

/-- Bytes of a write land, from byte `off` of its wire form. -/
def landBytes (c : Cmd) : Nat → List Byte → State → State
  | _, [], s => s
  | off, b :: bs, s =>
    landBytes c (off + 1) bs (memWrite (landAddr s c (off / c.wireBlock s) (off % c.wireBlock s)) [b] s)

/-- Host data of a command arrives at byte `off`: a write's lands in its slots; a Compare's or a Dataset Management's is
kept with the command. -/
def hqLand (qp cid off : Nat) (bs : List Byte) (s : State) : State :=
  match cmdFind s qp cid with
  | none => s
  | some c =>
    if c.st ≠ .executing then s
    else if c.opcode = opWRITE then cmdPut { c with got := c.got + bs.length } (landBytes c off bs s)
    else cmdPut { c with got := c.got + bs.length, icd := c.icd ++ bs } s

/-- The host data a command is to bring: a write's or Compare's declared bytes, a Dataset Management's ranges, what the descriptors of an
admin or Fabrics command describe. -/
def Cmd.hostBytes (s : State) (c : Cmd) : Nat :=
  if isAdmin s c then c.described else if c.opcode = opDSM then 16 * (c.f 40 1 + 1) else c.declared s

/-- Host data fell short of what was asked (R130, R520): the command fails, its slots are released. -/
def hqShort (qp cid : Nat) (s : State) : State :=
  match cmdFind s qp cid with
  | none => s
  | some c =>
    if c.st ≠ .executing then s
    else
      let s := lenShort c (c.hostBytes s) c.got s
      let s := if c.isWrite && !isAdmin s c then wcRelease c.wseq s else s
      hqFinish qp cid scDATA_XFER (unbind c s)

/-- The LAND unit that takes a grain: the two alternate, and where one alone is in RUN it takes every grain (R615). -/
def landUnit (s : State) (wseq k : Nat) : Nat :=
  if running s pgCVU && running s (pgCVU + 1) then (wseq + k) % 2 else b2n (running s (pgCVU + 1))

/-- The byte of a write's wire form at which the grain of byte `off` begins. -/
def grainStart (s : State) (c : Cmd) (off : Nat) : Nat :=
  let w := c.wireBlock s
  (2 * ((c.slba + off / w) / 2) - c.slba) * w

/-- The write has a grain in progress on LAND unit `n`: some of its bytes have landed and not all. -/
def midGrain (s : State) (n : Nat) (c : Cmd) : Bool :=
  c.st == .executing && c.opcode == opWRITE && !isAdmin s c && decide (c.got < c.declared s ∧ grainStart s c c.got < c.got) &&
  (slotOf s (c.slots.getD ((c.slba + c.got / c.wireBlock s) / 2 - c.grain0) 0)).cvu == n

/-- The header of a slot as it enters LANDING. -/
def landingSlot (s : State) (c : Cmd) (k : Nat) : Slot :=
  let x := nsOf s c.ns
  let g := c.grain0 + k
  { st := .landing, lo := c.covers g 0, hi := c.covers g 1, ns := c.ns, pif := x.pif, domain := x.domain
    ngrains := c.grains, grain := g, gidx := k, wseq := c.wseq, cvu := landUnit s c.wseq k
    zeroed := c.opcode == opZEROES && c.covers g 0 && c.covers g 1 }

/-- The slots of a write enter LANDING (R311), their bytes 0. -/
def enterLanding (c : Cmd) (s : State) : State :=
  (List.range c.slots.length).foldl (fun s k =>
    let i := c.slots.getD k 0
    slotPut i (landingSlot s c k) (memWrite (ownAddr s i) (List.replicate 8256 0#8) s)) s

/-- Start a write or Write Zeroes whose slots are allocated. -/
def startWrite (c : Cmd) (is : List Nat) (s : State) : State :=
  let c := { c with slots := is, st := .executing }
  let s := enterLanding c (cmdPut c s)
  if c.opcode = opZEROES then cmdPut { c with got := c.declared s } s
  else if c.inCapsule then
    let bs := c.icData.take (c.declared s)
    cmdPut { c with got := bs.length } (landBytes c 0 bs s)
  else hostRead c 0 (c.declared s) s

/-- NVME_WRITE (R126, R129, R130, R135, R311, R322): the command's slots are allocated and its data pulled; it waits
while the budget, a hold, a ceiling, the journal throttle or a command of an earlier tier stands against it. -/
def execNvmeWrite (qp cid : Nat) (s : State) : Outcome :=
  .next (ioRow opWRITE qp cid (fun c s =>
    if heldBack s c || yields s c then s
    else if sglCheck s c (c.declared s) ≠ 0 then sglFail c (sglCheck s c (c.declared s)) (c.declared s) (charge c s)
    else match wcAlloc c.grains s with
      | none => s
      | some (is, s) => startWrite c is (sglExcess c (c.declared s) (charge c s))) s)

/-- NVME_WRITE_ZEROES (R126): the grains covered take slots of zeros, which travel as a write's do; a grain covered
whole is marked, and becomes a ZERO entry of the map. -/
def execNvmeWriteZeroes (qp cid : Nat) (s : State) : Outcome :=
  .next (ioRow opZEROES qp cid (fun c s =>
    if heldBack s c || yields s c then s
    else match wcAlloc c.grains s with
      | none => s
      | some (is, s) => startWrite c is (charge c s)) s)

/-- The first failed PI check of a landed write, with its LBA (R144). -/
def writePi (s : State) (c : Cmd) : Option (Nat × Nat) :=
  let x := nsOf s c.ns
  if x.piBytes = 0 ∨ c.pract ∨ c.opcode = opZEROES then none
  else (List.range c.blocks).findSome? fun b =>
    let chk := piCheck x c b (memRead s (landAddr s c b 0) 4096) (memRead s (landAddr s c b 4096) x.piBytes)
    if chk = 0 then none else some (chk, c.slba + b)

/-- WRITE_DATA_LANDED (R131): every byte of a write has landed. A failing PI check releases the write and ends it with
the check's status (R144); else its grains may be marked ready. -/
def execWriteDataLanded (qp cid : Nat) (s : State) : Outcome :=
  .next (match cmdFind s qp cid with
    | none => s
    | some c =>
      if c.st ≠ .executing ∨ !c.isWrite ∨ c.landed ∨ c.got < c.declared s then s
      else match writePi s c with
        | some (chk, lba) => hqFinish qp cid (scPi chk) (wcRelease c.wseq (piFailed c.ns lba chk s))
        | none =>
          c.slots.foldl (fun s i => slotPut i { slotOf s i with whole := true } s) (cmdPut { c with landed := true } s))

/-! Flush, Compare, Dataset Management, Verify. -/

/-- NVME_FLUSH (R126, R143): it completes when every write posted before its acceptance is in a committed epoch, and asks for an
early close while one is not (R73). -/
def execNvmeFlush (qp cid : Nat) (s : State) : Outcome :=
  .next (ioRow opFLUSH qp cid (fun c s =>
    if yields s c then s
    else
      let s := if c.nsid = 0xFFFFFFFF then s else charge c s
      if c.epoch.getD 0 ≤ epochCommitted s then hqFinish qp cid scSUCCESS s
      else askClose (cmdPut { c with st := .executing } s)) s)

/-- The own slot that serves a grain of a command: that of an earlier write of the same queue whose data has landed and
passed its checks, or the newest in READY, FORGING or SUPERSEDED (R140, R463). -/
def bindSlot (s : State) (c : Cmd) (g : Nat) : Option Nat :=
  let earlier := fun (x : Slot) => s.hq.cmds.any fun d =>
    d.qp == c.qp && decide (d.seq < c.seq) && d.isWrite && d.landed && d.wseq == x.wseq
  (newest ((slotsOf s c.ns g).filter fun e =>
    decide (e.2.st = .ready ∨ e.2.st = .forging ∨ e.2.st = .superseded) || (e.2.whole && earlier e.2))).map (·.1)

/-- Where a grain is served from (R463). The map entry is the one found now: a later write does not change what the read returns
(R140). -/
def bindGrain (s : State) (c : Cmd) (g : Nat) : Src3 :=
  match bindSlot s c g with | some i => .slot i | none => .map (liveEntry s.ldg.img c.ns g) (rd64 s pgLDG 0x1A0).toNat

/-- Bind every grain of a read (R140, R463). -/
def bindAll (c : Cmd) (s : State) : State :=
  let bs := (List.range c.grains).map fun k => (c.grain0 + k, bindGrain s c (c.grain0 + k))
  let s := bs.foldl (fun s b => match b.2 with
    | .slot i => slotPut i { slotOf s i with binds := (slotOf s i).binds + 1 } s
    | _ => s) s
  cmdPut { c with st := .executing, bound := true, binds := bs } s

/-- Dispatch a Read, Compare or Verify: checks, binding; the grains then go to the drawplates (R463, R467). -/
def dispatchRead (op qp cid : Nat) (s : State) : State :=
  ioRow op qp cid (fun c s =>
    let n := if op = opVERIFY then 0 else c.declared s
    if heldBack s c || yields s c then s
    else if op ≠ opVERIFY ∧ sglCheck s c n ≠ 0 then sglFail c (sglCheck s c n) n (charge c s)
    else
      let s := bindAll c (charge c s)
      if op = opVERIFY then s
      else
        let s := sglExcess c n s
        if op = opCOMPARE then
          match cmdFind s qp cid with
          | none => s
          | some c => hostRead c 0 n (cmdPut { c with icd := [] } s)
        else s) s

/-- NVME_COMPARE (R126). -/
def execNvmeCompare (qp cid : Nat) (s : State) : Outcome := .next (dispatchRead opCOMPARE qp cid s)
/-- NVME_VERIFY (R126). -/
def execNvmeVerify (qp cid : Nat) (s : State) : Outcome := .next (dispatchRead opVERIFY qp cid s)
/-- NVME_READ (R463). -/
def execNvmeRead (qp cid : Nat) (s : State) : Outcome := .next (dispatchRead opREAD qp cid s)

/-- The ranges of Dataset Management: first block and length, from the 16-byte entries of its data. -/
def dsmRanges (c : Cmd) (data : List Byte) : List (Nat × Nat) :=
  (List.range (c.f 40 1 + 1)).map fun i => (field data (16 * i + 8) 8, field data (16 * i + 4) 4)

/-- A range reaches past the namespace (R148). -/
def dsmBeyond (s : State) (c : Cmd) (data : List Byte) : Bool :=
  (dsmRanges c data).any fun r => decide (2 * (nsOf s c.ns).grains.toNat < r.1 + r.2)

/-- Hand the ranges to LDG and complete with Success (R145); only the Deallocate attribute acts (R126). -/
def dsmDone (c : Cmd) (data : List Byte) (s : State) : State :=
  if dsmBeyond s c data then hqFinish c.qp c.cid scLBA_RANGE s
  else
    let hs := if (c.f 44 4).testBit 2 then (dsmRanges c data).map fun r => (c.ns, r.1, r.2, s.wc.wseq, epochOpen s) else []
    hqFinish c.qp c.cid scSUCCESS { s with ldg := { s.ldg with hints := s.ldg.hints ++ hs } }

/-- NVME_DATASET_MANAGEMENT (R126, R145): its ranges are pulled; the row comes again once they have arrived. -/
def execNvmeDatasetManagement (qp cid : Nat) (s : State) : Outcome :=
  .next (match cmdFind s qp cid with
    | none => s
    | some c =>
      let n := c.hostBytes s
      if c.opcode = opDSM ∧ !isAdmin s c ∧ c.st = .executing then (if n ≤ c.got then dsmDone c c.icd s else s)
      else ioRow opDSM qp cid (fun c s =>
        if heldBack s c || yields s c then s
        else if sglCheck s c n ≠ 0 then sglFail c (sglCheck s c n) n (charge c s)
        else hostRead c 0 n (cmdPut { c with st := .executing, icd := [] } (sglExcess c n (charge c s)))) s)

/-- INVALID_OPCODE (R126, R127, R156): an opcode HQ does not support, or whose feature is not live. -/
def execInvalidOpcode (qp cid : Nat) (s : State) : Outcome :=
  .next (match cmdFind s qp cid with
    | none => s
    | some c => if c.st = .queued ∧ !opcodeOk s c ∧ dispatching s then hqFinish qp cid scBAD_OPCODE s else s)

/-! Fabrics and admin commands. -/

/-- Limits of R121 and R122. -/
abbrev maxCtrls : Nat := 4096
abbrev maxSqs : Nat := 65536
abbrev maxIoQueues : Nat := 256
abbrev maxDepth : Nat := 2097152
def depthSum (s : State) : Nat := s.hq.sqs.foldl (fun n e => n + e.2.depth) 0
/-- The number of a new controller, which the spec does not choose: a free 16-bit value, or the first number after it that no
controller has. -/
def freeCtrl (x : W32) (s : State) : Nat :=
  let nth := fun i => (x.toNat + i) % 2 ^ 16
  nth (((List.range (s.hq.ctrls.length + 1)).find? fun i => (Tab.find? s.hq.ctrls (nth i)).isNone).getD 0)

/-- KATO granted: at least KATO_MIN_S for a non-zero request (R125). -/
def grantKato (s : State) (ms : Nat) : Nat := if ms = 0 then 0 else Nat.max ms (rdF s pgHQ 0x100 15 8 * 1000)

/-- Open a queue on a queue pair: as many receive buffers as its depth (R122). -/
def openQueue (qp : Nat) (q : Sq) (s : State) : State :=
  qpPut qp { qpOf s qp with rxBufs := q.depth } { s with hq := { s.hq with sqs := Tab.put s.hq.sqs qp q } }

/-- Create the controller (queue 0) or the I/O queue that a Connect asks for, from its 1,024 bytes of data (R121, R122). -/
def connect (c : Cmd) (data : List Byte) (s : State) : State :=
  let qid := c.f 42 2
  let size := c.f 44 2
  let depth := size + 1
  let ctrl := field data 16 2
  let done := fun (st : Nat) (s : State) => hqFinish c.qp c.cid st s
  if size = 0 ∨ data.length < 1024 ∨ (Tab.find? s.hq.sqs c.qp).isSome then done scCONN_PARAM s
  else if maxSqs ≤ s.hq.sqs.length ∨ maxDepth < depthSum s + depth then done scCTRL_BUSY s
  else if qid = 0 then
    if maxCtrls ≤ s.hq.ctrls.length then done scCTRL_BUSY s
    else
      let n := freeCtrl (Config.free32 s.free) s
      let s := (draw s).2
      let s := { s with hq := { s.hq with
        ctrls := Tab.put s.hq.ctrls n { katoMs := grantKato s (c.f 48 4) } } }
      hqFinishDw c.qp c.cid scSUCCESS (pw n) 0 (openQueue c.qp ⟨n, 0, depth, 1⟩ s)
  else match Tab.find? s.hq.ctrls ctrl with
    | none => done scCONN_PARAM s
    | some _ =>
      if s.hq.sqs.any fun e => e.2.ctrl == ctrl && e.2.qid == qid then done scCONN_PARAM s
      else if maxIoQueues ≤ (s.hq.sqs.filter fun e => e.2.ctrl == ctrl && e.2.qid != 0).length then done scCTRL_BUSY s
      else hqFinishDw c.qp c.cid scSUCCESS (pw ctrl) 0 (openQueue c.qp ⟨ctrl, qid, depth, 1⟩ s)

/-- Pull the host data that keyed descriptors describe; the command's row comes again once it has arrived. -/
def pullData (c : Cmd) (s : State) : State := hostRead c 0 c.described (cmdPut { c with st := .executing, icd := [] } s)
/-- An admin or Fabrics command whose host data has been pulled, and has arrived. -/
def pulled (s : State) (qp cid op : Nat) : Option Cmd :=
  match cmdFind s qp cid with
  | some c => if c.st = .executing ∧ c.opcode = op ∧ isAdmin s c ∧ 0 < c.got ∧ c.described ≤ c.got then some c else none
  | none => none

/-- FABRICS_CONNECT (R121, R122): its data stands in the capsule, or is pulled first. -/
def execFabricsConnect (qp cid : Nat) (s : State) : Outcome :=
  .next (match pulled s qp cid 0x7F with
    | some c => if c.fctype = 0x01 then connect c c.icd s else s
    | none => adminRow 0x7F qp cid (fun c s =>
      if c.fctype ≠ 0x01 then s
      else if !c.inCapsule && c.descs.isSome && c.described != 0 then pullData c s
      else connect c c.icData s) s)

/-- The controller of a queue pair's queue. -/
def ctrlOf (s : State) (qp : Nat) : Option (Nat × Ctrl) :=
  (Tab.find? s.hq.sqs qp).bind fun q => (Tab.find? s.hq.ctrls q.ctrl).map fun c => (q.ctrl, c)

/-- PROPERTY_GET (R127): CC as set; CSTS.RDY follows CC.EN; the manual gives no value for the others. -/
def execPropertyGet (qp cid : Nat) (s : State) : Outcome :=
  .next (adminRow 0x7F qp cid (fun c s => match ctrlOf s qp with
    | none => s
    | some (_, x) =>
      if c.fctype ≠ 0x04 then s
      else
        let v : W64 := match c.f 44 4 with
          | 0x14 => x.cc.setWidth 64
          | 0x1C => if bit x.cc 0 then 1 else 0
          | o => Config.property o
        hqFinishDw qp cid scSUCCESS (BitVec.ofNat 32 v.toNat)
          (if c.f 40 1 % 8 = 1 then BitVec.ofNat 32 (v.toNat / 2 ^ 32) else 0) s) s)

/-- PROPERTY_SET (R127, R132): CC.EN written 0 deletes every queue of the controller. A write of another property completes with Success and
does nothing (DESIGN CHOICE, log entry 180). -/
def execPropertySet (qp cid : Nat) (s : State) : Outcome :=
  .next (adminRow 0x7F qp cid (fun c s => match ctrlOf s qp with
    | none => s
    | some (n, x) =>
      if c.fctype ≠ 0x00 then s
      else if c.f 44 4 ≠ 0x14 then hqFinish qp cid scSUCCESS s
      else
        let v := BitVec.ofNat 32 (c.f 48 4)
        let s := hqFinish qp cid scSUCCESS { s with hq := { s.hq with ctrls := Tab.put s.hq.ctrls n { x with cc := v } } }
        if bit v 0 then s else deleteCtrlQueues n qdCC_EN s) s)

/-- FABRICS_DISCONNECT (R132): deletes the queue it arrives on; its own completion goes first. -/
def execFabricsDisconnect (qp cid : Nat) (s : State) : Outcome :=
  .next (adminRow 0x7F qp cid (fun c s =>
    if c.fctype ≠ 0x08 then s else deleteQueue qp qdDISCONNECT (hqFinish qp cid scSUCCESS s)) s)

/-- The admin hand-off ring: entries, full. -/
def adminSize (s : State) : Nat := rdF s pgHQ 0x18C 15 0
def adminFull (s : State) : Bool :=
  (rdF s pgHQ 0x188 31 16 + 1) % adminSize s == rdF s pgHQ 0x188 15 0 % adminSize s

/-- Host data that has landed for an admin command: in the capsule, or pulled. -/
def Cmd.adminData (c : Cmd) : List Byte := if c.inCapsule then c.icData else if 0 < c.got then c.icd else []

/-- The 128-byte entry of a handed-off command whose data has landed at an address. -/
def adminEntry (s : State) (c : Cmd) (addr : W64) : List Byte :=
  let q := Tab.getD s.hq.sqs ⟨0, 0, 2, 0⟩ c.qp
  slice c.sqe 0 64 ++ le 2 q.ctrl ++ le 2 0 ++ le 4 c.adminData.length ++
    le 8 (if c.adminData.isEmpty then 0 else addr.toNat) ++ List.replicate 48 0#8

/-- Write a command into the hand-off ring, or keep it until firmware makes room. Where its data lands is not stated: the address is
free. -/
def handOff (c : Cmd) (s : State) : State :=
  let s := cmdPut { c with st := .firmware } s
  if adminFull s then { s with hq := { s.hq with ringWait := s.hq.ringWait ++ [(c.qp, c.cid)] } }
  else
    let p := rdF s pgHQ 0x188 31 16
    let a := Config.free64 s.free
    let s := memWrite a.toNat c.adminData (draw s).2
    let s := memWrite ((rd64 s pgHQ 0x180).toNat + p * 128) (adminEntry s c a) s
    let s := wrF pgHQ 0x188 31 16 ((p + 1) % adminSize s) s
    event pgHQ 2 (pw (rdF s pgHQ 0x188 31 16)) s

/-- CONS has advanced: capsules kept in the command table enter the ring. -/
def adminRefill : Nat → State → State
  | 0, s => s
  | f + 1, s => match s.hq.ringWait with
    | [] => s
    | (qp, cid) :: rest =>
      if adminFull s then s
      else match cmdFind s qp cid with
        | none => adminRefill f { s with hq := { s.hq with ringWait := rest } }
        | some c => adminRefill f (handOff c { s with hq := { s.hq with ringWait := rest } })

/-- Hand an admin command of an opcode to firmware (R127); host data that its descriptors describe for the device is pulled first (bit 0 of
the opcode: the transfer is from the host). -/
def toFirmware (op qp cid : Nat) (s : State) : State :=
  match pulled s qp cid op with
  | some c => handOff c s
  | none => adminRow op qp cid (fun c s =>
    if op % 2 = 1 && !c.inCapsule && c.descs.isSome && c.described != 0 then pullData c s else handOff c s) s

/-- GET_LOG_PAGE, IDENTIFY, SET_FEATURES, GET_FEATURES (R127, R128): firmware's. -/
def execGetLogPage (qp cid : Nat) (s : State) : Outcome := .next (toFirmware 0x02 qp cid s)
def execIdentify (qp cid : Nat) (s : State) : Outcome := .next (toFirmware 0x06 qp cid s)
def execSetFeatures (qp cid : Nat) (s : State) : Outcome := .next (toFirmware 0x09 qp cid s)
def execGetFeatures (qp cid : Nat) (s : State) : Outcome := .next (toFirmware 0x0A qp cid s)

/-- NVME_ABORT (R127): Success with bit 0 of Dword 0 set: nothing was aborted. -/
def execNvmeAbort (qp cid : Nat) (s : State) : Outcome :=
  .next (adminRow 0x08 qp cid (fun _ s => hqFinishDw qp cid scSUCCESS 1 0 (bump pgHQ 0x15C 1 s)) s)

/-- ASYNCHRONOUS_EVENT_REQUEST (R10, R127): up to 16 outstanding a controller; an event that waited for one is sent at once. -/
def execAsynchronousEventRequest (qp cid : Nat) (s : State) : Outcome :=
  .next (adminRow 0x0C qp cid (fun c s => match ctrlOf s qp with
    | none => s
    | some (n, x) =>
      if 16 ≤ x.aer.length then hqFinish qp cid scAER_LIMIT s
      else match x.aePend with
        | [] => cmdPut { c with st := .executing }
          { s with hq := { s.hq with ctrls := Tab.put s.hq.ctrls n { x with aer := x.aer ++ [(qp, cid)] } } }
        | e :: t => hqFinishDw qp cid scSUCCESS e 0 { s with hq := { s.hq with ctrls := Tab.put s.hq.ctrls n { x with aePend := t } } }) s)

/-- KEEP_ALIVE (R127, R149, R150): answered at once, even during a hold. -/
def execKeepAlive (qp cid : Nat) (s : State) : Outcome :=
  .next (match adminCmd s qp cid 0x18 with
    | none => s
    | some c =>
      if !alive s pgHQ || inQ s || pwrState s != psP0 then s
      else hqFinish qp cid c.verdict s)

/-- The oldest outstanding admin command that firmware holds, by CID (R160). -/
def firmwareCmd (s : State) (cid : Nat) : Option Cmd :=
  s.hq.cmds.find? fun c => decide (c.st = .firmware) && c.cid == cid

/-- A Set Features of the asynchronous event configuration (feature 0x0B) that firmware grants tells HQ which events the host has
enabled (R10). -/
def noteFeature (c : Cmd) (stField : Nat) (s : State) : State :=
  if c.opcode = 0x09 ∧ c.f 40 1 = 0x0B ∧ stField = 0 then
    match ctrlOf s c.qp with
    | some (n, x) => { s with hq := { s.hq with ctrls := Tab.put s.hq.ctrls n { x with aeCfg := BitVec.ofNat 32 (c.f 44 4) } } }
    | none => s
  else s

/-- ADMIN_REPLY (R160): the data goes to the host, then the completion with the status field firmware wrote; held as any
completion is. -/
def execAdminReply (value : W32) (s : State) : Outcome :=
  let s := commandWrite pgHQ 0x1AC value s
  .next (match firmwareCmd s (bits value 15 0) with
    | none => conflict pgHQ 0x1AC s
    | some c =>
      let n := (rd s pgHQ 0x198).toNat
      let s := hostWrite c 0 (memRead s (rd64 s pgHQ 0x190).toNat n) s
      let s := noteFeature c (bits value 31 17) s
      let c := { c with dw0 := rd s pgHQ 0x1A0, dw1 := rd s pgHQ 0x1A4, status := 2 * bits value 31 17 }
      if cplHeld s then
        { cmdPut { c with st := .held, order := s.hq.order } s with
          hq := { (cmdPut { c with st := .held, order := s.hq.order } s).hq with order := s.hq.order + 1 } }
      else postCqe c c.status s)

/-- KATO_EXPIRY (R125): the controller's queues are deleted, hallmark 0x1007, and the controller is removed. -/
def execKatoExpiry (ctrl : Nat) (s : State) : Outcome :=
  .next (match Tab.find? s.hq.ctrls ctrl with
    | none => s
    | some x =>
      if x.katoMs = 0 || inQ s then s
      else
        let s := hallmark 0x1007 0 [pw ctrl] (deleteCtrlQueues ctrl qdKATO s)
        { s with hq := { s.hq with ctrls := Tab.erase s.hq.ctrls ctrl } })

/-! Holds (R150). -/

/-- HOLD_MS of the hold now ending, or under way. -/
def holdMs (s : State) : Nat := (s.time - s.hq.holdAt).toNat / 1000

/-- A hold starts. -/
def holdStart (s : State) : State :=
  wrF pgHQ 0x104 31 16 0 (wrF pgHQ 0x108 2 2 1 (wrF pgHQ 0x104 0 0 1 { s with hq := { s.hq with holdAt := s.time } }))
/-- A hold ends: the held completions are posted, but for a quench, and dispatch resumes; FWU's HOLDING falls with it (R139, R743). -/
def holdEnd (s : State) : State :=
  let s := wrF pgHQ 0x104 31 16 (holdMs s) (wrF pgHQ 0x108 2 2 0 (wrF pgHQ 0x104 0 0 0 s))
  let s := wrF pgFWU 0x12C 3 3 0 s
  if inQ s then s else postHeld s.hq.cmds.length s

/-- HQ_HOLD_WRITE (R150). -/
def execHqHoldWrite (value : W32) (s : State) : Outcome :=
  let was := bit (rd s pgHQ 0x104) 0
  let s := blockWrite pgHQ 0x104 value s
  .next (if bit value 0 && !was then holdStart s else if !bit value 0 && was then holdEnd s else s)

/-- HOLD_EXPIRY (R150): HQ ends the hold itself at 150 ms. -/
def execHoldExpiry (s : State) : Outcome :=
  .next (if bit (rd s pgHQ 0x104) 0 then
      let ms := holdMs s
      hallmark 0x1005 0 [pw ms] (wrF pgHQ 0x104 1 1 1 (holdEnd s))
    else s)

/-! Quality of service (R152 to R155), namespaces. -/

/-- A bucket gains 10 µs of its limit; what it holds at most is not stated. -/
def refill (n per : Nat) : Nat := Nat.min (n + per) (per * Config.qosDepth)

/-- QOS_BUCKET_REFILL (R152): every bucket is refilled. -/
def execQosBucketRefill (s : State) : Outcome :=
  .next (if live s pgHQ 4 then
      { s with hq := { s.hq with ns := s.hq.ns.map fun e => (e.1, { e.2 with
          tokOps := refill e.2.tokOps (opsPerRefill (bits e.2.qmax 15 0))
          tokBytes := refill e.2.tokBytes (bytesPerRefill (bits e.2.qmax 31 16))
          resOps := refill e.2.resOps (opsPerRefill (bits e.2.qmin 15 0))
          resBytes := refill e.2.resBytes (bytesPerRefill (bits e.2.qmin 31 16)) }) } }
    else s)

/-- FETCH_STAT as it reads: DIRTY_FULL while the budget is full. -/
def fetchStat (s : State) : W32 := putBits (rd s pgHQ 0x108) 4 4 (b2n (running s pgWC && dirtyFull s))

/-- One namespace at the end of a window of 100 ms: a reservation offered and not received counts once (R155). DESIGN CHOICE (log entry
177): the record names the limit 0 for IOPS and 1 for bandwidth, and IOPS where both were missed. -/
def qosMiss (s : State) (e : Nat × Ns) : State :=
  let ops := bits e.2.qmin 15 0 * 100
  let bytes := bits e.2.qmin 31 16 * 1600000
  let mark := fun (l : Nat) (s : State) => hallmark 0x1008 0 [pw e.1, pw l, fetchStat s] (bump pgHQ 0x164 1 s)
  if ops ≠ 0 ∧ ops ≤ e.2.offOps ∧ e.2.gotOps < ops then mark 0 s
  else if bytes ≠ 0 ∧ bytes ≤ e.2.offBytes ∧ e.2.gotBytes < bytes then mark 1 s
  else s

/-- QOS_WINDOW_END (R155). -/
def execQosWindowEnd (s : State) : Outcome :=
  .next (if live s pgHQ 4 then
      let s := s.hq.ns.foldl qosMiss s
      { s with hq := { s.hq with ns := s.hq.ns.map fun e =>
          (e.1, { e.2 with offOps := 0, offBytes := 0, gotOps := 0, gotBytes := 0 }) } }
    else s)

/-- NS_SEL. -/
def nsSel (s : State) : Nat := rdF s pgHQ 0x110 13 0
/-- Sums of the reservations over all namespaces, one replaced (R153). -/
def qosSum (s : State) (n hi lo : Nat) (v : W32) : Nat :=
  s.hq.ns.foldl (fun t e => if e.1 = n then t else t + bits e.2.qmin hi lo) (bits v hi lo)

/-- QOS_MIN_WRITE (R153): refused and counted where a sum would pass its cap. -/
def execQosMinWrite (value : W32) (s : State) : Outcome :=
  let n := nsSel s
  let s := commandWrite pgHQ 0x120 value s
  let bw := qosSum s n 31 16 value
  let io := qosSum s n 15 0 value
  .next (if rdF s pgHQ 0x12C 31 16 < bw ∨ rdF s pgHQ 0x12C 15 0 < io then bump pgHQ 0x134 1 s
    else wr pgHQ 0x130 (BitVec.ofNat 32 (bw * 65536 + io)) (nsPut n { nsOf s n with qmin := value } s))

/-- A namespace first made active here has an owner (R8): this head where it runs alone as SURVIVOR or the namespace's parity is its HEAD_ID,
else the partner; one whose owner the ledger records keeps it, and a head that is fencing or FENCED takes none. -/
def claimNs (n : Nat) (s : State) : State :=
  if owns s n || s.ldg.given.contains n then s
  else if tstate s != tsFENCING && tstate s != tsFENCED && (tstate s == tsSURVIVOR || n % 2 == headId s) then
    { s with ldg := { s.ldg with owned := s.ldg.owned ++ [n] } }
  else { s with ldg := { s.ldg with given := s.ldg.given ++ [n] } }

/-- NS_CFG_WRITE (R8, R159): DOMAIN, PI_TYPE and PI_SIZE stand while ACTIVE is 1. -/
def execNsCfgWrite (value : W32) (s : State) : Outcome :=
  let n := nsSel s
  let s := commandWrite pgHQ 0x114 value s
  let x := nsOf s n
  let v := BitVec.ofNat 32 (bits value 21 16 * 2 ^ 16 + bits value 5 2 * 4 + bits value 0 0)
  .next (if x.active ∧ bits v 31 1 ≠ bits x.cfg 31 1 then conflict pgHQ 0x114 s
    else
      let s := nsPut n { x with cfg := v } s
      if bit v 0 && !x.active then claimNs n s else s)

end Sys2Proof.Machine
end

