-- ==== Sys2Proof/Machine/WriteCache.lean ====
section
/-! DEFINITION. Commands of the write cache and of the restore (spec/09_write_cache_mirror.md); the quench itself is in
Quench.lean. A partner's message is taken from the receive buffer first (R587). -/

namespace Sys2Proof.Machine

/-! Landing. -/

/-- The command a slot's write belongs to. -/
def slotCmd (s : State) (x : Slot) : Option Cmd := s.hq.cmds.find? fun c => c.isWrite && c.wseq == x.wseq && c.wseq != 0

/-- Every byte of a slot's own blocks has landed: HQ has received the command's data up to the grain's end. -/
def slotLanded (s : State) (x : Slot) : Bool :=
  match slotCmd s x with
  | some c => decide (Nat.min c.blocks (2 * x.grain + 2 - c.slba) * c.wireBlock s ≤ c.got)
  | none => false

/-- The PI of one block of zeros that Write Zeroes leaves: guard, application tag 0xFFFF, reference tag of all ones
(as R466 for a grain of zeros). -/
def zeroPi (pib : Nat) : List Byte :=
  piMake pib (2 ^ 48 - 1) 0xFFFF (List.replicate 4096 0#8)

/-- HQ generates the PI of block `n` of a landed slot where PRACT is 1 (R144), and for written zeros. -/
def genPi (c : Cmd) (i n : Nat) (s : State) : State :=
  let x := slotOf s i
  let pib := pifBytes x.pif
  let a := ownAddr s i
  if pib = 0 ∨ !c.covers x.grain n then s
  else if c.opcode = opZEROES then memWrite (a + 0x2000 + n * pib) (zeroPi pib) s
  else if c.pract then
    memWrite (a + 0x2000 + n * pib)
      (piMake pib (c.refTag + (2 * x.grain + n - c.slba)) c.appTag (memRead s (a + n * 4096) 4096)) s
  else s

/-- The newest other dirty slot of the grain with a lower WSEQ that has the missing block (R313). -/
def donor (s : State) (i n : Nat) : Option (Nat × Slot) :=
  let x := slotOf s i
  newest ((slotsOf s x.ns x.grain).filter fun e =>
    e.1 != i && decide (e.2.wseq < x.wseq) && !e.2.lost && (if n = 0 then e.2.lo else e.2.hi))

/-- Copy the missing block `n`, its PI and its MASK bit from a donor (R313). -/
def copyBlock (i n : Nat) (d : Nat × Slot) (s : State) : State :=
  let pib := pifBytes (slotOf s i).pif
  let s := memWrite (ownAddr s i + n * 4096) (memRead s (ownAddr s d.1 + n * 4096) 4096) s
  let s := memWrite (ownAddr s i + 0x2000 + n * pib) (memRead s (ownAddr s d.1 + 0x2000 + n * pib) pib) s
  let x := slotOf s i
  slotPut i (if n = 0 then { x with lo := true } else { x with hi := true }) s

/-- The block a landed slot lacks, if it lacks one. -/
def missing (x : Slot) : Option Nat := if !x.lo then some 0 else if !x.hi then some 1 else none

/-- DCRC_0, DCRC_1, PCRC and CRC over what the slot holds (R312). -/
def slotCrcs (s : State) (i : Nat) : Slot :=
  let x := slotOf s i
  let a := ownAddr s i
  { x with
    dcrc0 := crc32c (memRead s a 4096)
    dcrc1 := crc32c (memRead s (a + 4096) 4096)
    pcrc := crc32c (slotPi s a x.pif)
    crc := crc32c (memRead s a 8192 ++ slotPi s a x.pif) }

/-- SLOT_LANDING_DONE (R313, R314): the missing block comes from the newest older dirty copy once that copy has finished
landing; the grain goes to the partner and the slot becomes HELD. -/
def execSlotLandingDone (slot : Nat) (s : State) : Outcome :=
  let x := slotOf s slot
  .next (match slotCmd s x with
    | none => s
    | some c =>
      if x.st ≠ .landing ∨ !slotLanded s x then s
      else
        let d := (missing x).bind fun n => (donor s slot n).map fun e => (n, e)
        if d.any fun e => decide (e.2.2.st = .landing) then s
        else
          let s := genPi c slot 1 (genPi c slot 0 s)
          let s := match d with | some (n, e) => copyBlock slot n e s | none => s
          let s := slotPut slot { slotCrcs s slot with st := .held } s
          if sendsMirror s then sendGrain slot s else s)

/-! Mirroring. -/

/-- MIR_GRAIN at the partner (R314, R318): the grain takes the mirror slot of the same index; NOT_RUN, QUENCHING and an
uncorrectable DDR-5 error are refused with their cause. -/
def execMirGrain (slot : Nat) (header data : List Byte) (uncorrectable : Bool) (s : State) : Outcome :=
  let s := takeRx 0x01 s
  let nak := fun (c : Nat) => sendW clsMIRROR 0x03 (slot % 2 ^ 20 + c * 2 ^ 32) [] s
  .next (if !running s pgWC then nak 1
    else if inQ s then nak 2
    else if uncorrectable then nak 3
    else sendW clsMIRROR 0x02 slot [] (mirPut slot (Slot.ofHeader header) (memWrite (mirAddr s slot) (slice data 0 8224) s)))

/-- MIR_ACK (R314, R319): MIRRORED is set on a HELD slot; on any other the message is dropped and counted. -/
def execMirAck (slot : Nat) (s : State) : Outcome :=
  let s := takeRx 0x02 s
  let x := slotOf s slot
  .next (if x.st = .held then slotPut slot { x with mirrored := true } s else peerViolation 0x02 slot s)

/-- MIR_NAK (R318, R319): the head enters DEGRADED with the message's cause. -/
def execMirNak (slot cause : Nat) (s : State) : Outcome :=
  let s := takeRx 0x03 s
  .next (if (slotOf s slot).st = .held then degrade cause slot (bump pgWC 0x184 1 s) else peerViolation 0x03 slot s)

/-- MIRROR_TIMEOUT (R318): the grain is sent again, up to MIRROR_RETRY times; then DEGRADED with cause TIMEOUT. -/
def execMirrorTimeout (slot : Nat) (s : State) : Outcome :=
  let x := slotOf s slot
  .next (if x.st ≠ .held ∨ x.mirrored ∨ !mirroring s then s
    else if x.resends < rdF s pgWC 0x100 19 16 then
      sendGrain slot (bump pgWC 0x180 1 (slotPut slot { x with resends := x.resends + 1 } s))
    else degrade 4 slot s)

/-- A read of the same queue, earlier than the slot's write and overlapping it, has not been bound (R140). -/
def readPending (s : State) (x : Slot) : Bool :=
  match slotCmd s x with
  | some c => s.hq.cmds.any fun d => d.qp == c.qp && decide (d.seq < c.seq) && d.isRead && !isAdmin s d && d.overlaps c && !d.bound
  | none => false

/-- The grains of its write before a slot's own are READY (R131). -/
def inOrder (s : State) (x : Slot) : Bool :=
  (writeSlots s x.wseq).all fun e => decide (x.gidx ≤ e.2.gidx) || decide (e.2.st ≠ .landing ∧ e.2.st ≠ .held)

/-- The three conditions of R315, in grain order (R131), that no fencing is under way (R595), and that earlier reads are bound (R140). -/
def readyOk (s : State) (x : Slot) : Bool :=
  decide (x.st = .held) && x.whole && (if s.wc.single || s.wc.degraded then x.inq || x.mirrored else x.mirrored) &&
  ((slotsOf s x.ns x.grain).all fun e =>
    decide (x.wseq ≤ e.2.wseq) || decide (e.2.st = .ready ∨ e.2.st = .forging ∨ e.2.st = .superseded)) &&
  inOrder s x && tstate s != tsFENCING && tstate s != tsFENCED && alive s pgWC && !inQ s && !readPending s x

/-- The older READY slots of the same grain and epoch are superseded (R315). -/
def supersede (i : Nat) (s : State) : State :=
  let x := slotOf s i
  ((slotsOf s x.ns x.grain).filter fun e =>
      decide (e.2.st = .ready ∧ e.2.epoch = x.epoch ∧ e.2.wseq < x.wseq)).foldl (fun s e =>
    slotPut e.1 { e.2 with st := .superseded } s) s

/-- A SUPERSEDED slot becomes FREE when no read is bound to it and the write that stands over it is whole (R133, R315). -/
def freeSuperseded (s : State) : State :=
  (s.wc.slots.filter fun e => decide (e.2.st = .superseded ∧ e.2.binds = 0) && !coverOpen s e.2).foldl (fun s e => freeSlot e.1 s) s

/-- A slot takes its stamp: the epoch open at this instant (R63), CRC valid, its directory entry rewritten VALID where it
is INQ (R317). -/
def stamp (i : Nat) (s : State) : State :=
  let x := { slotCrcs s i with st := .ready, epoch := epochOpen s }
  let s := slotPut i x s
  let s := if x.inq then writeEntry true i x (slotPi s (ownAddr s i) x.pif) s else s
  freeSuperseded (supersede i s)

/-- A write whose grains are all acknowledged-ready completes; with FUA it waits for its epoch's commit (R64, R126,
R135). -/
def writeProgress (wseq : Nat) (s : State) : State :=
  match s.hq.cmds.find? fun c => c.isWrite && c.wseq == wseq && decide (c.st = .executing) with
  | none => s
  | some c =>
    if !writeReady s c then s
    else
      let e := (writeSlots s wseq).foldl (fun m x => Nat.max m x.2.epoch) 0
      let c := { c with epoch := some (Nat.max e (c.epoch.getD 0)) }
      let s := cmdPut c s
      if c.fua ∧ epochCommitted s < c.epoch.getD 0 then askClose s else hqFinish c.qp c.cid scSUCCESS s

/-- SLOT_READY (R315): the slot is stamped, the partner told, the write completed when it was the last. -/
def execSlotReady (slot : Nat) (s : State) : Outcome :=
  let x := slotOf s slot
  .next (if !readyOk s x then s
    else
      let s := stamp slot (readHeader slot s)
      let s := match s.hq.cmds.find? fun c => c.isWrite && c.wseq == x.wseq with
        | some c => cmdPut { c with epoch := some (epochOpen s) } s
        | none => s
      let s := if x.mirrored then sendW clsMIRROR 0x04 (epochOpen s) (slotList [slot]) s else s
      overBudget (writeProgress x.wseq s))

/-- MIR_STAMP at the partner (R77, R319): the owner's stamp is recorded on mirrored slots; the partner never restamps. -/
def execMirStamp (epoch : Nat) (slots : List Nat) (s : State) : Outcome :=
  let s := takeRx 0x04 s
  .next (slots.foldl (fun s i =>
    let x := mirOf s i
    if x.st = .held then mirPut i { x with st := .ready, epoch := epoch } s else peerViolation 0x04 i s) s)

/-- MIR_RELEASE at the partner (R131, R316, R319): a grain of the failed write, stamped or not. -/
def execMirRelease (slots : List Nat) (s : State) : Outcome :=
  let s := takeRx 0x05 s
  .next (slots.foldl (fun s i =>
    if (mirOf s i).st = .held ∨ (mirOf s i).st = .ready then mirPut i {} s else peerViolation 0x05 i s) s)

/-- MIR_FREE at the partner (R319, R321): every mirror slot stamped at or before a committed epoch is freed; an epoch
whose mirrored commit record has not been stored is a violation. -/
def execMirFree (epoch : Nat) (s : State) : Outcome :=
  let s := takeRx 0x06 s
  .next (if !s.ldg.peerRecords.contains epoch then peerViolation 0x06 0xFFFFFFFF s
    else (s.wc.mirror.filter fun e => decide (e.2.st = .ready ∧ e.2.epoch ≤ epoch)).foldl (fun s e => mirPut e.1 {} s) s)

/-- MIR_HOLD (R324, R325): the partner's H and share; a conflict of shares is recorded. -/
def execMirHold (h share : Nat) (s : State) : Outcome :=
  let s := takeRx 0x07 s
  let s := { s with wc := { s.wc with peerH := h, peerShare := share } }
  let s := if shareConflict s then hallmark 0x1A05 0 [pw (sharePct s), pw share] s else s
  .next (rebudget s)

/-- MIR_QUENCH (R337): no further grain is sent; DEGRADED with cause PARTNER_QUENCH. -/
def execMirQuench (s : State) : Outcome :=
  let s := takeRx 0x08 s
  .next (degrade 5 0xFFFFFFFF { s with wc := { s.wc with peerQuench := true } })

/-- WRITE_THROUGH_DONE (R317): a single or degraded head's grain stands in the quench image: its directory entry with
VALID 0 first, then its data; INQ is set. -/
def execWriteThroughDone (slot : Nat) (s : State) : Outcome :=
  let x := slotOf s slot
  .next (if x.st ≠ .held ∨ x.inq ∨ !(s.wc.single || s.wc.degraded) ∨ pgState s pgQST = stFAULT ∨ inQ s then s
    else
      let a := ownAddr s slot
      let s := writeEntry false slot { x with inq := true } (slotPi s a x.pif) s
      slotPut slot { x with inq := true } (qstWrite (slot * 0x2000) (memRead s a 8192) s))

/-- MIRROR_RESUME (R318, R582): leaves DEGRADED, or single running, for pair mode, while the link is up and the heads are
paired. -/
def execMirrorResume (value : W32) (s : State) : Outcome :=
  let s := commandWrite pgWC 0x118 value s
  .next (if bit value 0 && linkUp s && tstate s == tsPAIRED && live s pgWC 0 then
      sendHold (rebudget { s with wc := { s.wc with degraded := false, single := false, peerQuench := false } })
    else s)

/-! Budget and holdup. -/

/-- OVER_BUDGET_CLOSE_TICK (R326): every 500 µs while OVER_BUDGET holds, an early close is asked for. -/
def execOverBudgetCloseTick (s : State) : Outcome := .next (if bit (rd s pgWC 0x11C) 8 then askClose s else s)

/-- HOLD_SENSE_SAMPLE (R327, R771): the 12-bit conversion of HOLD_SENSE, full scale 1.2 V, in µV. -/
def execHoldSenseSample (code : Nat) (s : State) : Outcome :=
  .next (wr pgAON 0x100 (pw (code * 1200000 / 4096)) s)

/-- HOLD_ENERGY_RECOMPUTE (R327): HOLD_ENERGY, H, the budget, NEED_MJ and COVERS. -/
def execHoldEnergyRecompute (s : State) : Outcome :=
  .next (if alive s pgWC then
      updateHold (wr pgWC 0x160 (pw (Nat.min (holdEnergy s) 0xFFFFFFFF)) { s with wc := { s.wc with budgetKnown := true } })
    else s)

/-- A capacitance test starts where HOLD_TEST is live, no quench runs and PWR is neither in P2 nor entering it (R328,
R772). -/
def holdTest (s : State) : State :=
  if live s pgWC 2 && !inQ s && pwrState s != psP2 && !(pwrState s == psENTERING && rdF s pgPWR 0x104 10 8 == psP2) &&
      !bit (rd s pgWC 0x168) 0 then
    { wrF pgWC 0x168 0 0 1 s with aon := { (wrF pgWC 0x168 0 0 1 s).aon with holdLoad := true } }
  else s

/-- HOLD_TEST_START (R328): at every HOLD_TEST_S seconds. -/
def execHoldTestStart (s : State) : Outcome := .next (holdTest s)

/-- TEST_NOW (R328): a write of HOLD_CMD. -/
def execTestNow (value : W32) (s : State) : Outcome :=
  let s := commandWrite pgWC 0x16C value s
  .next (if bit value 0 then holdTest s else s)

/-- The capacitance in µF that a droop in µV at the bank shows: TEST_MA × 20 ms / ΔV (R328); no droop gives none. -/
def holdCap (s : State) (dv : Nat) : W32 :=
  if dv = 0 then Config.free32 s.free else pw (Nat.min (rdF s pgWC 0x15C 31 16 * 20000000 / dv) 0xFFFFFFFF)

/-- HOLD_TEST_END (R328): the load is released, HOLD_CAP is written from the droop at HOLD_SENSE (in µV), hallmark 0x1A06
with ΔV in mV. -/
def execHoldTestEnd (droopUv : Nat) (s : State) : Outcome :=
  .next (if bit (rd s pgWC 0x168) 0 then
      let dv := droopUv * rdF s pgWC 0x140 15 0 / 256
      let cap := holdCap s dv
      let s := (draw (wr pgWC 0x158 cap (wrF pgWC 0x168 0 0 0 s))).2
      hallmark 0x1A06 0 [pw (dv / 1000), cap] { s with aon := { s.aon with holdLoad := false } }
    else s)

/-! Takeover and single running. -/

/-- Every grain of a mirrored write is held here (R330). -/
def mirrorWhole (s : State) (x : Slot) : Bool :=
  (s.wc.mirror.filter fun e => decide (e.2.st ≠ .free) && e.2.wseq == x.wseq).length == x.ngrains

/-- A mirror slot the survivor must adopt (R330): stamped with an epoch not counted as committed, or unstamped and whole. -/
def adoptable (s : State) (x : Slot) : Bool :=
  (decide (x.st = .ready) && decide (s.ldg.peerCommitted < x.epoch)) || (decide (x.st = .held) && mirrorWhole s x)

/-- Insert by WSEQ. -/
def insertW (e : Nat × Slot) : List (Nat × Slot) → List (Nat × Slot)
  | [] => [e]
  | d :: t => if e.2.wseq < d.2.wseq then e :: d :: t else d :: insertW e t

/-- When takeover starts, WC reserves an own slot for each mirror slot to be adopted, its header HELD and ADOPTED with
ASRC, and frees every other mirror slot (R330). Without ADOPT live nothing is adopted. -/
def startAdoption (s : State) : State :=
  let used := s.wc.mirror.filter fun e => decide (e.2.st ≠ .free)
  let keep := if live s pgWC 3 then (used.filter fun e => adoptable s e.2).foldr insertW [] else []
  let drop := used.filter fun e => !(keep.any fun k => k.1 == e.1)
  let s := drop.foldl (fun s e => mirPut e.1 {} s) s
  let is := freeSlots s (s.wc.slots.length + keep.length) 0 keep.length
  let s := is.foldl (fun s i => clearEntry i s) s
  let s := (is.zip keep).foldl (fun s p =>
    slotPut p.1 { p.2.2 with st := .held, adopted := true, asrc := p.2.1, inq := false, mirrored := false } s) s
  { s with wc := { s.wc with
      adopting := true
      adoptees := is
      freedAtTakeover := drop.length
      single := true
      degraded := false
      catchup := (s.wc.slots.filter fun e => decide (e.2.st = .ready) && !e.2.inq).map (·.1) } }

/-- Copy one adopted grain: data, PI, a WSEQ of the survivor's own, READY with the open epoch (R330, R331). -/
def adoptOne (s : State) (i : Nat) : State :=
  let x := slotOf s i
  let w := s.wc.wseq + 1
  let s := memWrite (ownAddr s i) (memRead s (mirAddr s x.asrc) 8256) { s with wc := { s.wc with wseq := w } }
  let s := slotPut i { x with st := .ready, wseq := w, whole := true } s
  mirPut x.asrc {} (stamp i s)

/-- ADOPTION_COMPLETE (R330, R331): the adopted grains are copied and stamped in the order of the failed head's WSEQ; the
failed head's namespaces, whose map its replayed tail has completed (R14, R98), are this head's from here on, and their hosts are told
(R10). -/
def execAdoptionComplete (s : State) : Outcome :=
  .next (if !s.wc.adopting ∨ !s.ldg.peerTaken then s
    else
      let n := s.wc.adoptees.length
      let s := s.wc.adoptees.foldl adoptOne s
      let s := hallmark 0x1A07 0 [pw n, pw s.wc.freedAtTakeover] { s with wc := { s.wc with
          adopting := false
          adoptees := []
          catchup := s.wc.catchup ++ s.wc.adoptees } }
      let gained := ((s.hq.ns.filter fun e => e.2.active).map (·.1)).filter fun m => !owns s m
      let s := { s with ldg := { s.ldg with owned := s.ldg.owned ++ gained, given := [] } }
      overBudget (if gained.isEmpty then s else hqAsync aeANA s))

/-- CATCHUP_DONE (R332): a newly single head has copied each READY own slot without INQ into the quench image. -/
def execCatchupDone (s : State) : Outcome :=
  .next (if s.wc.single then
      let s := (s.wc.catchup.filter fun i => decide ((slotOf s i).st = .ready) && !(slotOf s i).inq).foldl (fun s i =>
        let x := { slotOf s i with inq := true }
        let a := ownAddr s i
        slotPut i x (qstWrite (i * 0x2000) (memRead s a 8192) (writeEntry true i x (slotPi s a x.pif) s))) s
      { s with wc := { s.wc with catchup := [] } }
    else s)

/-! Restore (R341 to R343, R792). -/

/-- The directory indices with any byte stored. -/
def dirIndices (s : State) : List Nat :=
  ((s.qst.filter fun c => decide (qDIR ≤ c.1 ∧ c.1 < qDIR + imageSlots s * 0x80)).map fun c => (c.1 - qDIR) / 0x80).eraseDups

/-- Directory entry `i`. -/
def readEntry (s : State) (i : Nat) : List Byte := qstRead s (qDIR + i * 0x80) 0x80
/-- VALID 1 and a good ECHK (R341). -/
def entryOk (b : List Byte) : Bool := (field b 0 1).testBit 0 && field b 0x78 8 == (crc64 (slice b 0 0x78)).toNat
def entryGen (b : List Byte) : Nat := field b 0x0C 4

/-- What the control record says: QGEN, QFLAGS, EPOCH_OPEN, and whether it was a record at all (R340, R792). -/
structure CtrlRead where
  qgen : Nat
  flags : Nat
  epoch : Nat
  bad : Bool
deriving DecidableEq, Repr

/-- Read the control record: all 0 or all 0xFF never held one; a failing CRC-64 is a cut directory pass (R792). -/
def readCtrl (s : State) : CtrlRead :=
  let b := qstRead s qCTRL 0x1000
  if b.all (· == 0#8) || b.all (· == 0xFF#8) then ⟨0, 0, 0, false⟩
  else if field b 0xFF8 8 = (crc64 (slice b 0 0xFF8)).toNat then ⟨field b 0 4, field b 4 2, field b 8 8, false⟩
  else ⟨((dirIndices s).map (readEntry s)).foldl (fun m e => if entryOk e then Nat.max m (entryGen e) else m) 0, 1, 0, true⟩

/-- QST_STAT.LAST (R350). -/
def lastCode (c : CtrlRead) : Nat :=
  if c.flags.testBit 2 then 1 else if c.flags.testBit 1 then 2 else if c.flags.testBit 0 then 3 else 0

/-- The slot an entry and its data restore; data that fails its CRC, or an entry with LOST, is held aside (R341, R342). -/
def restored (s : State) (i : Nat) (b : List Byte) : Slot :=
  let f := field b 0 1
  let data := qstRead s (i * 0x2000) 8192
  let pif := field b 1 1
  let pi := slice b 0x28 (2 * pifBytes pif)
  { st := .ready, lo := f.testBit 3, hi := f.testBit 4, inq := true, adopted := f.testBit 2, ns := field b 2 2
    pif := pif, domain := field b 4 1, grain := field b 0x10 8, epoch := field b 6 6, wseq := field b 0x18 8
    dcrc0 := crc32c (data.take 4096), dcrc1 := crc32c (data.drop 4096), pcrc := crc32c pi
    crc := BitVec.ofNat 32 (field b 0x20 4), whole := true
    aside := f.testBit 1 || crc32c (data ++ pi) != BitVec.ofNat 32 (field b 0x20 4) }

/-- Load one directory entry and its data into own slot `i`. -/
def loadSlot (s : State) (i : Nat) : State :=
  let b := readEntry s i
  let x := restored s i b
  let s := memWrite (ownAddr s i + 0x2000) (slice b 0x28 32) (memWrite (ownAddr s i) (qstRead s (i * 0x2000) 8192) s)
  slotPut i x { s with wc := { s.wc with wseq := Nat.max s.wc.wseq x.wseq } }

/-- RESTORE_LOAD (R341, R342, R792): the control record is read and the entries of its generation are loaded. -/
def execRestoreLoad (s : State) : Outcome :=
  .next (if !s.wc.restoring ∨ !alive s pgQST then s
    else
      let c := readCtrl s
      let is := (dirIndices s).filter fun i => entryOk (readEntry s i) && entryGen (readEntry s i) == c.qgen
      let s := is.foldl loadSlot { s with wc := { s.wc with qgen := c.qgen } }
      let s := wr pgQST 0x104 (pw c.qgen) (wr pgQST 0x110 (pw is.length) s)
      let s := wr pgQST 0x100 (pw (lastCode c * 256 + 3)) s
      if c.flags.testBit 0 && !c.flags.testBit 1 then hallmark 0x0805 0 (pw2 c.epoch) s else s)

/-- A slot held aside and not committed is LOST (R342). -/
def loseRestored (s : State) (e : Nat × Slot) : State :=
  let s := slotPut e.1 { e.2 with lost := true, aside := false } s
  let s := hallmark 0x0804 0 ([pw e.2.ns] ++ pw2 e.2.grain ++ pw2 e.2.wseq) (bump pgQST 0x114 1 s)
  slagAdd (slagGrain slRESTORE e.2.ns e.2.grain) s

/-- A restored slot that the replay has made needless: its epoch is committed, or its namespace is not this head's (R341). -/
def mustDiscard (s : State) (x : Slot) : Bool :=
  x.inq && decide (x.st = .ready) && (decide (x.epoch ≤ epochCommitted s) || !owns s x.ns)

/-- REPLAY_DONE (R341, R342): restored slots of a committed epoch, or of a namespace this head does not own, are freed
and counted in DISCARDED; a slot held aside that is not committed is LOST. -/
def execReplayDone (s : State) : Outcome :=
  .next (if !s.wc.restoring ∨ !s.ldg.replayed then s
    else
      let gone := s.wc.slots.filter fun e => mustDiscard s e.2
      let s := bump pgQST 0x118 gone.length (gone.foldl (fun s e => freeSlot e.1 s) s)
      (s.wc.slots.filter fun e => e.2.inq && e.2.aside && decide (e.2.st = .ready)).foldl loseRestored s)

/-- RESTORE_DONE (R343), once REPLAY_DONE has sorted what was restored: the remaining slots are restamped into the open epoch in ascending WSEQ, their directory entries
rewritten; then the control record, with QGEN raised by 1 and QFLAGS 0, in one write. -/
def execRestoreDone (s : State) : Outcome :=
  .next (if !s.wc.restoring ∨ !s.ldg.replayed ∨ s.wc.slots.any (fun e => mustDiscard s e.2 || (e.2.inq && e.2.aside)) then s
    else
      let is := ((s.wc.slots.filter fun e => e.2.inq && decide (e.2.st = .ready)).foldr insertW []).map (·.1)
      let s := is.foldl (fun s i => if (slotOf s i).st = .ready then stamp i s else s) s
      let g := s.wc.qgen + 1
      let s := qstWrite qCTRL (ctrlRecord g 0 (headId s) 0 0) s
      let s := wrF pgQST 0x100 2 0 0 (wr pgQST 0x104 (pw g) { s with wc := { s.wc with restoring := false, qgen := g } })
      overBudget (hallmark 0x0803 0 [rd s pgQST 0x110, rd s pgQST 0x118, rd s pgQST 0x114] s))

/-! Fill, and the loss of the stack. -/

/-- A slot with its CRC formed again over what it holds (R320). -/
def recrc (i : Nat) (s : State) : State := slotPut i (slotCrcs s i) s

/-- FILL (R320, R477): the missing block of a slot that is to be forged is read from the committed map by a drawplate:
zeros where the map has no data, else the bytes delivered, with their PI. -/
def execFill (slot : Nat) (data pi : List Byte) (s : State) : Outcome :=
  let x := slotOf s slot
  .next (match missing x with
    | none => s
    | some n =>
      if x.st ≠ .ready then s
      else
        let e := liveEntry s.ldg.img x.ns x.grain
        let zero := !e.mapped || e.zero
        let pib := pifBytes x.pif
        let s := memWrite (ownAddr s slot + n * 4096) (if zero then List.replicate 4096 0#8 else slice data 0 4096) s
        let s := memWrite (ownAddr s slot + 0x2000 + n * pib) (if zero then zeroPi pib else slice pi 0 pib) s
        recrc slot (bump pgWC 0x18C 1 (slotPut slot (if n = 0 then { x with lo := true } else { x with hi := true }) s)))

/-- MRAM_STACK_LOST (R349): the quench store answers no more: fatal cause STACK_LOST. -/
def execMramStackLost (s : State) : Outcome := .next (recordFault pgQST 0x80 0 s)

end Sys2Proof.Machine
end

