-- ==== Sys2Proof/Machine/Transport.lean ====
section
/-! DEFINITION. Commands of the RDMA transport (spec/13_network_transport.md, R499 to R531, R538). Opcodes and
syndromes are those of the InfiniBand reliable-connected transport, to which R501 refers. -/

namespace Sys2Proof.Machine

/-! Queue-pair errors as their users meet them. -/

/-- A queue pair enters ERROR; for HQ the loss is a queue deletion (R132, R504), for RPL the group's link is down
(R559). -/
def qpError (i cause : Nat) (s : State) : State :=
  let was := (qpOf s i).st
  let user := (qpOf s i).user
  let s := qpFail i cause s
  if (was = .init ∨ was = .rtr ∨ was = .rts) ∧ user = 1 then deleteQueue i qdQP_LOST s
  else if user = 2 then rplQpLost i s else s

/-! Answers. -/

abbrev synACK : Nat := 0x1F
abbrev synSEQ : Nat := 0x60
abbrev synINVALID : Nat := 0x61
abbrev synACCESS : Nat := 0x62
abbrev synOPERATION : Nat := 0x63

/-- Answer on a queue pair with an ACK or NAK for a PSN. -/
def reply (i psn syn : Nat) (s : State) : State :=
  putPkt i { qpn := (qpOf s i).destQpn, opcode := 0x11, psn := psn, syndrome := syn } s
/-- Answer with an RNR NAK that carries MIN_RNR (R511, R521). -/
def replyRnr (i psn : Nat) (s : State) : State :=
  bump pgXPT 0x218 1 (reply i psn (0x20 + (qpOf s i).minRnr) s)

/-- Evidence of a violation (R521): VIOLATIONS, and hallmark 0x2101 with port, QP, row and opcode. -/
def violation (port row : Nat) (p : RPkt) (s : State) : State :=
  hallmark 0x2101 0 [pw port, pw p.qpn, pw row, pw p.opcode] (bump pgXPT 0x200 1 s)
/-- A violation that ends the queue pair: the NAK, then ERROR with cause VIOLATION (R522). -/
def fatalViolation (i port row syn : Nat) (p : RPkt) (s : State) : State :=
  qpError i qeVIOLATION (reply i p.psn syn (violation port row p s))

/-- Send an answer's packets, or keep them while the priority is paused. -/
def respond (i : Nat) (ps : List RPkt) (s : State) : State :=
  let q := qpOf s i
  if paused s q.port q.prio then qpPut i { q with respQ := q.respQ ++ [ps] } s
  else ps.foldl (fun s p => putPkt i p s) s
/-- Send the answers that waited for a priority. -/
def flushResp (i : Nat) (s : State) : State :=
  let q := qpOf s i
  q.respQ.foldl (fun s ps => ps.foldl (fun s p => putPkt i p s) s) (qpPut i { q with respQ := [] } s)

/-! Windows (R513 to R517). -/

def winOf (s : State) (i : Nat) : Win := Tab.getD s.xpt.wins {} i
def winPut (i : Nat) (x : Win) (s : State) : State := { s with xpt := { s.xpt with wins := Tab.setD s.xpt.wins {} i x } }

/-- Access bits of a window: 0 READ, 1 WRITE, 2 ATOMIC, 3 REMOTE_INVAL. The queue pair's flag for each: QFLAGS bits 1 to
4. -/
abbrev accREAD : Nat := 0
abbrev accWRITE : Nat := 1
abbrev accATOMIC : Nat := 2
abbrev accINVAL : Nat := 3

/-- The window an rkey names, OPEN and of that GEN. -/
def winOfKey (s : State) (rkey : Nat) : Option Win :=
  let x := winOf s (rkey / 2 ^ 16 % 2 ^ 16)
  if x.opened ∧ x.gen = rkey % 2 ^ 16 then some x else none

/-- A remote access is allowed (R514, R536). -/
def accessOk (s : State) (q : Qp) (acc rkey va n : Nat) : Bool :=
  live s pgXPT 1 && (acc != accATOMIC || live s pgXPT 0) &&
  match winOfKey s rkey with
  | none => false
  | some x => x.pd == q.pd && x.access.testBit acc && q.flag (acc + 1) &&
      decide (x.base.toNat ≤ va ∧ va + n ≤ x.base.toNat + x.len.toNat)

/-- Revoke a window: GEN rises by 1 at once, and BUSY stands until older accesses have drained (R515). -/
def revoke (i : Nat) (s : State) : State :=
  let x := winOf s i
  winPut i { x with gen := (x.gen + 1) % 2 ^ 16, opened := false, busy := true } s

/-- Refused window access (R514, row 11). -/
def accessRefused (i port syn : Nat) (p : RPkt) (s : State) : State :=
  fatalViolation i port 11 syn p (bump pgXPT 0x22C 1 s)

/-! Receiving. -/

/-- Bytes of a port and priority in its ingress buffer. -/
def occupancy (s : State) (port prio : Nat) : Nat :=
  (s.net.inbox.filter fun a => a.port == port && a.prio == prio).foldl (fun n a => n + a.bytes) 0
/-- XON when a paused priority has fallen to XON_KIB (R496). -/
def xonCheck (port prio : Nat) (s : State) : State :=
  if s.net.xoff.contains (pprio port prio) && decide (occupancy s port prio ≤ nrdF s port 0x174 15 0 * 1024) then
    emit (.pfc port prio 0) (bump (portPage s port) 0x1A4 1
      { s with net := { s.net with xoff := s.net.xoff.filter (· != pprio port prio) } })
  else s

/-- XPT takes a packet from its port's ingress buffer. -/
def takeArrival (port : Nat) (p : RPkt) (s : State) : State :=
  match s.net.inbox.find? fun a => a.port == port && a.pkt == p with
  | none => s
  | some a => xonCheck port a.prio { s with net := { s.net with inbox := s.net.inbox.erase a } }

/-- How a request's PSN stands to the expected one (R521, rows 3 and 4). -/
inductive PsnCase where
  | expected | duplicate | beyond
deriving DecidableEq, Repr

/-- PSNs up to 2^23 behind are duplicates. -/
def psnCase (q : Qp) (psn : Nat) : PsnCase :=
  if psn = q.rqPsn then .expected else if psnDiff q.rqPsn psn ≤ 2 ^ 23 then .duplicate else .beyond

/-- One PSN sequence NAK per gap; packets after it are dropped (R506, row 3). -/
def seqNak (i port : Nat) (p : RPkt) (s : State) : State :=
  let s := violation port 3 p s
  let q := qpOf s i
  if q.gapNaked then s
  else bump pgXPT 0x210 1 (reply i q.rqPsn synSEQ (qpPut i { q with gapNaked := true } s))

/-- The expected request was taken: the next PSN, `n` further on. -/
def advance (i n : Nat) (s : State) : State :=
  let q := qpOf s i
  qpPut i { q with rqPsn := psnAdd q.rqPsn n, gapNaked := false } s

/-- ACK where the packet asks for it. -/
def ackReq (i : Nat) (p : RPkt) (s : State) : State := if p.ackReq then reply i p.psn synACK s else s

/-- Where a request packet stands in its message: first or only, middle or last, by family base opcode. -/
def isFirst (op : Nat) : Bool := [0x00, 0x04, 0x05, 0x17, 0x06, 0x0A, 0x0B].contains op
def isLast (op : Nat) : Bool := [0x02, 0x03, 0x04, 0x05, 0x16, 0x17, 0x08, 0x09, 0x0A, 0x0B].contains op
def isWriteOp (op : Nat) : Bool := decide (0x06 ≤ op ∧ op ≤ 0x0B)

/-- The opcode fits the message under way (row 7). -/
def seqOk (q : Qp) (op : Nat) : Bool :=
  match q.rx with
  | none => isFirst op
  | some r => !isFirst op && r.write == isWriteOp op

/-- The bytes a receive buffer holds: a capsule with its in-capsule data (R128). -/
def rxBufBytes (s : State) : Nat := 64 + 1024 * rdF s pgHQ 0x100 19 16

/-- Run a request of a queue pair in RTR or RTS through the PSN cases; a duplicate is evidence too (row 4). -/
def request (port : Nat) (p : RPkt) (s : State) (dup fresh : Nat → State → State) : State :=
  match qpIndex p.qpn with
  | none => bump pgXPT 0x204 1 s
  | some i =>
    let q := qpOf s i
    if q.st ≠ .rtr ∧ q.st ≠ .rts then bump pgXPT 0x204 1 s
    else
      let s := touch i s
      match psnCase q p.psn with
      | .beyond => seqNak i port p s
      | .duplicate => dup i (violation port 4 p s)
      | .expected => fresh i s

/-- A duplicate is acknowledged again (row 4). -/
def dupAck (i : Nat) (s : State) : State :=
  reply i (psnAdd (qpOf s i).rqPsn (2 ^ 24 - 1)) synACK s

/-- A capsule for HQ has arrived whole; other users receive no messages by SEND. -/
def deliver (i : Nat) (data : List Byte) (s : State) : State :=
  if (qpOf s i).user = 1 then { s with xpt := { s.xpt with capsules := s.xpt.capsules ++ [(i, data)] } } else s

/-- SEND with Invalidate names an OPEN window with REMOTE_INVAL in the queue pair's domain (R517). -/
def invalOk (s : State) (q : Qp) (rkey : Nat) : Bool :=
  match winOfKey s rkey with
  | some x => live s pgXPT 5 && x.access.testBit accINVAL && q.flag 4 && x.pd == q.pd
  | none => false
/-- The last packet of a SEND with Invalidate. -/
def isInval (op : Nat) : Bool := op == 0x16 || op == 0x17

/-- A SEND packet in sequence; one with Invalidate revokes its window, or ends the queue pair (R517). -/
def sendFresh (port : Nat) (p : RPkt) (i : Nat) (s : State) : State :=
  let q := qpOf s i
  if !seqOk q p.opcode then fatalViolation i port 7 synINVALID p s
  else if isFirst p.opcode ∧ q.rxBufs = 0 then replyRnr i p.psn (violation port 9 p s)
  else
    let data := (q.rx.map (·.data)).getD [] ++ p.payload
    if rxBufBytes s < data.length then fatalViolation i port 8 synINVALID p s
    else if isInval p.opcode && !invalOk s q p.rkey then accessRefused i port synOPERATION p s
    else
      let s := advance i 1 s
      let q := qpOf s i
      if isLast p.opcode then
        let s := deliver i data (qpPut i { q with rx := none, rxBufs := q.rxBufs - 1 } s)
        ackReq i p (if isInval p.opcode then revoke (p.rkey / 2 ^ 16 % 2 ^ 16) s else s)
      else ackReq i p (qpPut i { q with rx := some ⟨false, 0, 0, 0, data.length, data⟩ } s)

/-- SEND (R501, R521, rows 7 to 9). -/
def handleSend (port : Nat) (p : RPkt) (s : State) : State := request port p s dupAck (sendFresh port p)

/-- Evidence of a length excess or shortfall (R520, row 13). -/
def lenEvidence (port : Nat) (p : RPkt) (short : Bool) (s : State) : State :=
  violation port 13 p (bump pgXPT (if short then 0x228 else 0x224) 1 s)

/-- An RDMA WRITE packet in sequence: checked on its own, placed up to the declared length (R516, R520). -/
def writeFresh (port : Nat) (p : RPkt) (i : Nat) (s : State) : State :=
  let q := qpOf s i
  if !seqOk q p.opcode then fatalViolation i port 7 synINVALID p s
  else
    let r : XRx := if isFirst p.opcode then ⟨true, p.va, p.rkey, p.len, 0, []⟩ else q.rx.getD ⟨true, 0, 0, 0, 0, []⟩
    let n := Nat.min p.payload.length (r.len - r.got)
    if !accessOk s q accWRITE r.rkey (r.va + r.got) n then accessRefused i port synACCESS p s
    else
      let s := memWrite (r.va + r.got) (p.payload.take n) s
      let got := r.got + p.payload.length
      let s := if r.got ≤ r.len ∧ r.len < got then lenEvidence port p false s else s
      if isLast p.opcode && decide (got < r.len) then
        qpError i qeVIOLATION (reply i p.psn synINVALID (lenEvidence port p true s))
      else
        let s := advance i 1 s
        ackReq i p (qpPut i { qpOf s i with rx := if isLast p.opcode then none else some { r with got := got } } s)

/-- RDMA WRITE (R514, R516, R520). -/
def handleWrite (port : Nat) (p : RPkt) (s : State) : State := request port p s dupAck (writeFresh port p)

/-- The responses to a READ request, sprayed where SP_READ_RESP is live (R501, R526). -/
def readResponses (s : State) (q : Qp) (p : RPkt) : List RPkt :=
  let n := pktsFor p.len q.pmtu
  let data := memRead s p.va p.len
  let sp := q.scatterLive 2 && decide (1 < n ∧ n ≤ q.bitmap)
  (List.range n).map fun k =>
    { qpn := q.destQpn, opcode := if sp then 0xC2 else segOp 0x0D 0x0E 0x0F 0x10 k n, psn := psnAdd p.psn k
      syndrome := synACK, payload := (data.drop (k * q.pmtu)).take q.pmtu
      msgId := if sp then q.msgId else 0, path := if sp then k % q.paths else 0, idx := if sp then k else 0
      cnt := if sp then n else 0, len := if sp then p.len else 0, va := if sp then k * q.pmtu else 0 }

/-- Answer a READ request. -/
def readAnswer (p : RPkt) (i : Nat) (s : State) : State :=
  let q := qpOf s i
  let ps := readResponses s q p
  let s := if (ps.head?.map (·.opcode)) = some 0xC2 then qpPut i { q with msgId := (q.msgId + 1) % 2 ^ 24 } s else s
  respond i ps s

/-- A READ request in sequence (R514, row 10). -/
def readFresh (port : Nat) (p : RPkt) (i : Nat) (s : State) : State :=
  let q := qpOf s i
  if q.rx.isSome then fatalViolation i port 7 synINVALID p s
  else if q.attrF 0x2C 1 ≤ q.respQ.length then fatalViolation i port 10 synINVALID p s
  else if !accessOk s q accREAD p.rkey p.va p.len then accessRefused i port synACCESS p s
  else readAnswer p i (advance i (pktsFor p.len q.pmtu) s)

/-- RDMA READ request (R514); a duplicate is answered again where it may still be (row 4). -/
def handleRead (port : Nat) (p : RPkt) (s : State) : State :=
  request port p s (fun i s =>
    if accessOk s (qpOf s i) accREAD p.rkey p.va p.len then readAnswer p i s else accessRefused i port synACCESS p s)
    (readFresh port p)

/-- The atomic's answer: the original value in an atomic ACK. -/
def atomicAck (i psn : Nat) (v : W64) (s : State) : State :=
  respond i [{ qpn := (qpOf s i).destQpn, opcode := 0x12, psn := psn, syndrome := synACK, swap := v }] s

/-- An atomic in sequence (R518, R519). -/
def atomicFresh (port : Nat) (p : RPkt) (i : Nat) (s : State) : State :=
  let q := qpOf s i
  if q.rx.isSome then fatalViolation i port 7 synINVALID p s
  else if q.attrF 0x2C 1 ≤ q.respQ.length then fatalViolation i port 10 synINVALID p s
  else if !accessOk s q accATOMIC p.rkey p.va 8 then accessRefused i port synACCESS p s
  else if p.va % 8 ≠ 0 then fatalViolation i port 12 synINVALID p s
  else if region s p.va ≠ some .ddr then fatalViolation i port 12 synACCESS p s
  else
    let old := BitVec.ofNat 64 (ofLe (memRead s p.va 8))
    let new := if p.opcode = 0x14 then old + p.swap else if old = p.cmp then p.swap else old
    let s := advance i 1 (memWrite p.va (le 8 new.toNat) s)
    let q := qpOf s i
    let n := q.attrF 0x2C 1
    atomicAck i p.psn old (qpPut i { q with atomics := (q.atomics ++ [(p.psn, old)]).drop (q.atomics.length + 1 - n) } s)

/-- Compare and Swap, Fetch and Add (R518, R519): a duplicate is answered from the cache of results. -/
def handleAtomic (port : Nat) (p : RPkt) (s : State) : State :=
  request port p s (fun i s =>
    match (qpOf s i).atomics.find? fun a => a.1 == p.psn with
    | some a => atomicAck i p.psn a.2 s
    | none => s) (atomicFresh port p)

/-! The requester's side. -/

/-- An acknowledgement advanced the PSN: timeouts end, and messages acknowledged without retransmission count toward
service mode (R506, R507). -/
def proven (s : State) (q : Qp) (done : List XTx) : Qp :=
  let n := done.foldl (fun n t => if t.resent then 0 else n + 1) q.proved
  { q with
    timeouts := 0
    rnrTries := 0
    rtoUs := rdF s pgXPT 0x110 6 0
    proved := if rdF s pgXPT 0x110 31 24 ≤ n then 0 else n
    cautious := q.cautious && decide (n < rdF s pgXPT 0x110 31 24) }

/-- The PSN of a transmission's last packet. -/
def XTx.lastPsn (t : XTx) : Nat := psnAdd t.psn (t.psns - 1)
/-- A PSN lies in a transmission. -/
def XTx.has (t : XTx) (psn : Nat) : Bool := decide (psnDiff psn t.psn < t.psns)
/-- The transmission ends at or before a PSN. -/
def XTx.before (t : XTx) (psn : Nat) : Bool := decide (psnDiff psn t.lastPsn < 2 ^ 23)

/-- Send the unacknowledged packets of a queue pair again, from a PSN on: they count as retransmissions, and the queue
pair is cautious (R506, R507). -/
def resendFrom (i psn : Nat) (s : State) : State :=
  let q := qpOf s i
  let un := q.unacked.map fun t =>
    if t.has psn then { t with sent := psnDiff psn t.psn, acked := psnDiff psn t.psn, resent := true }
    else if t.before psn then t else { t with sent := 0, acked := 0, resent := true }
  let n := (q.unacked.zip un).foldl (fun n p => n + (p.1.sent - p.2.sent)) 0
  let on := live s pgXPT 4
  let s := bump pgXPT 0x214 n (qpPut i { q with
    unacked := un.map fun t => if t.msg.kind = .read then { t with sent := 0, acked := 0 } else t
    cautious := q.cautious || on
    proved := 0
    rtoUs := if q.cautious then q.rtoUs else rdF s pgXPT 0x110 6 0 } s)
  pumpAll i s

/-- An ACK up to a PSN: messages that end at or before it are done; a READ is done by its responses alone. Where it advances, timeouts
end. -/
def ackMark (i psn : Nat) (s : State) : State :=
  let q := qpOf s i
  let done := q.unacked.filter fun t => t.before psn && t.msg.kind != .read && t.msg.kind != .cas && t.msg.kind != .faa
  let on := q.unacked.any fun t => t.has psn && t.msg.kind != .read && decide (t.acked < Nat.min t.sent (psnDiff psn t.psn + 1))
  let un := (q.unacked.filter fun t => !done.contains t).map fun t =>
    if t.has psn ∧ t.msg.kind ≠ .read then { t with acked := Nat.min t.sent (psnDiff psn t.psn + 1) } else t
  let q' := { q with unacked := un }
  let s := qpPut i (if on || !done.isEmpty then proven s q' done else q') s
  if q.user = 2 then done.foldl (fun s t => rplAck t.msg.tag s) s else s
/-- An ACK, and what may be sent after it. -/
def ackUpTo (i psn : Nat) (s : State) : State := pumpAll i (ackMark i psn s)

/-- Retransmissions in a row that a queue pair may make: RETRIES in cautious mode, its own RETRY in service mode (R506). -/
def retryLimit (s : State) (q : Qp) : Nat := if q.cautious then rdF s pgXPT 0x114 18 16 else q.retry

/-- A PSN sequence NAK: what precedes the PSN is acknowledged, and from it on is sent again, a retransmission like a timeout's (R506). -/
def seqNakked (i psn : Nat) (s : State) : State :=
  let s := ackMark i (psnAdd psn (2 ^ 24 - 1)) s
  let q := qpOf s i
  if retryLimit s q ≤ q.timeouts then qpError i qeRETRY s
  else resendFrom i psn (qpPut i { q with timeouts := q.timeouts + 1 } s)

/-- A packet names no outstanding PSN (row 5). -/
def ghost (port : Nat) (p : RPkt) (s : State) : State := violation port 5 p (bump pgXPT 0x20C 1 s)

/-- What an atomic's answer brings its user: the value lands where the operation asked. -/
def atomicDone (i : Nat) (t : XTx) (v : W64) (s : State) : State :=
  if (qpOf s i).user = 2 then rplAtomic t.msg.tag v s else memWrite t.msg.place (le 8 v.toNat) s

/-- ACK, NAK and atomic ACK (R506, R521). -/
def handleAck (port : Nat) (p : RPkt) (s : State) : State :=
  match qpIndex p.qpn with
  | none => bump pgXPT 0x204 1 s
  | some i =>
    let q := qpOf s i
    if q.st ≠ .rts then bump pgXPT 0x204 1 s
    else
      let s := touch i s
      if !q.unacked.any fun t => t.has p.psn then ghost port p s
      else if p.opcode = 0x12 then
        match q.unacked.find? fun t => t.has p.psn with
        | none => s
        | some t => pumpAll i (atomicDone i t p.swap (qpPut i (proven s { q with unacked := q.unacked.erase t } [t]) s))
      else if p.syndrome = synSEQ then seqNakked i p.psn s
      else if p.syndrome = synINVALID ∨ p.syndrome = synACCESS ∨ p.syndrome = synOPERATION then
        qpError i qeNAK (violation port 15 p s)
      else ackUpTo i p.psn s

/-- Data of a READ reaches its user: HQ lands it, others find it where they asked (R131, R520). -/
def readData (i : Nat) (t : XTx) (off : Nat) (bs : List Byte) (s : State) : State :=
  if (qpOf s i).user = 1 then hqLand i (t.msg.tag % 65536) (t.msg.tag / 65536 + off) bs s
  else if (qpOf s i).user = 2 then rplRead t.msg.tag bs s
  else memWrite (t.msg.place + off) bs s

/-- A READ has ended short: it completes to its user with LEN_SHORT, and HQ applies R130 (R520). -/
def readShort (i : Nat) (t : XTx) (s : State) : State :=
  if (qpOf s i).user = 1 then hqShort i (t.msg.tag % 65536) s else s

/-- A READ response packet (R520): in PSN order, up to the bytes asked for. One taken before, or beyond a lost one, is dropped: the
READ's retransmission recovers it. -/
def handleReadResp (port : Nat) (p : RPkt) (s : State) : State :=
  match qpIndex p.qpn with
  | none => bump pgXPT 0x204 1 s
  | some i =>
    let q := qpOf s i
    if q.st ≠ .rts then bump pgXPT 0x204 1 s
    else
      let s := touch i s
      match q.unacked.find? fun t => t.msg.kind == .read && t.has p.psn with
      | none => ghost port p s
      | some t =>
        if psnDiff p.psn t.psn ≠ t.taken then s
        else
          let off := t.got
          let n := Nat.min p.payload.length (t.msg.len - off)
          let s := readData i t off (p.payload.take n) s
          let s := if n < p.payload.length then lenEvidence port p false s else s
          let q := qpOf s i
          if p.opcode = 0x0F ∨ p.opcode = 0x10 then
            let s := qpPut i (proven s { q with unacked := q.unacked.erase t } [t]) s
            let s := if off + n < t.msg.len then readShort i t (lenEvidence port p true s) else s
            pumpAll i s
          else qpPut i { q with unacked := q.unacked.map fun u => if u = t then { t with got := off + n, taken := t.taken + 1 } else u } s

/-- RNR NAK (R508): the message is sent again after its timer, under the queue pair's RNR retry. -/
def handleRnr (port : Nat) (p : RPkt) (s : State) : State :=
  match qpIndex p.qpn with
  | none => bump pgXPT 0x204 1 s
  | some i =>
    let q := qpOf s i
    if q.st ≠ .rts then bump pgXPT 0x204 1 s
    else if !q.unacked.any fun t => t.has p.psn then ghost port p s
    else if q.rnrRetry ≠ 7 ∧ q.rnrRetry ≤ q.rnrTries then qpError i qeRNR s
    else
      let s := ackMark i (psnAdd p.psn (2 ^ 24 - 1)) (touch i s)
      resendFrom i p.psn (qpPut i { qpOf s i with rnrTries := (qpOf s i).rnrTries + 1 } s)

/-! Temper (R499, R500). -/

/-- Keep a rate between MIN_GBPS and the line rate, in kb/s. -/
def clampRate (s : State) (r : Nat) : Nat := Nat.max (rdF s pgXPT 0x118 7 0 * 1000000) (Nat.min (lineRate s) r)
/-- A cut lies within the last RISE_US. -/
def cutRecently (s : State) (q : Qp) : Bool :=
  match q.cutAt with
  | some t => decide ((s.time - t).toNat < rdF s pgXPT 0x118 23 16)
  | none => false

/-- A CNP received cuts the rate (R500). -/
def handleCnp (p : RPkt) (s : State) : State :=
  match qpIndex p.qpn with
  | none => bump pgXPT 0x204 1 s
  | some i =>
    let q := qpOf s i
    if q.st ≠ .rts then bump pgXPT 0x204 1 s
    else if !live s pgXPT 3 || cutRecently s q then s
    else qpPut i { q with
      target := q.rate
      rate := clampRate s (q.rate - q.rate * rdF s pgXPT 0x118 31 24 / 256)
      stage := 0
      cutAt := some s.time } s

/-- A CE-marked packet for a queue pair in RTS is answered with a CNP, one per CNP_GAP_US (R499). -/
def ceAnswer (i : Nat) (p : RPkt) (s : State) : State :=
  let q := qpOf s i
  let due := match q.cnpAt with
    | some t => decide (rdF s pgXPT 0x11C 7 0 ≤ (s.time - t).toNat)
    | none => true
  if p.ce && decide (q.st = .rts) && due then
    putPkt i { qpn := q.destQpn, opcode := 0x81 } (bump pgXPT 0x230 1 (qpPut i { q with cnpAt := some s.time } s))
  else s

/-! Scatter placement (R524 to R531). -/

/-- Bitmaps in use, of a pool of 1,024 (R528). -/
def bitmapsUsed (s : State) : Nat := s.xpt.qps.foldl (fun n e => n + e.2.sp.length) 0

/-- The packet agrees with its own rules: index, count, length, PSN and VA (R527). -/
def spSelfOk (q : Qp) (p : RPkt) : Bool :=
  decide (p.idx < p.cnt) && decide (1 ≤ p.cnt ∧ p.cnt ≤ q.bitmap) && decide (p.cnt = pktsFor p.len q.pmtu) &&
  (if p.idx + 1 < p.cnt then p.payload.length == q.pmtu else p.payload.length == p.len - (p.cnt - 1) * q.pmtu) &&
  (p.opcode == 0xC1 || p.va == p.idx * q.pmtu)

/-- It agrees with what the first packet of the message fixed. -/
def spAgrees (q : Qp) (m : SpRx) (p : RPkt) : Bool :=
  m.opcode == p.opcode && m.cnt == p.cnt && m.len == p.len && m.rkey == p.rkey &&
  psnAdd m.psn p.idx == p.psn && m.va + p.idx * q.pmtu == p.va

/-- The message a first packet opens. -/
def spOpen (q : Qp) (p : RPkt) : SpRx :=
  ⟨p.msgId, p.opcode, p.cnt, p.len, p.va - p.idx * q.pmtu, psnAdd p.psn (2 ^ 24 - p.idx), p.rkey, [], [], 0⟩

/-- A scatter packet inconsistent with its message (row 14). -/
def spViolation (port : Nat) (p : RPkt) (s : State) : State := violation port 14 p (bump pgXPT 0x23C 1 s)

/-- The message of a queue pair that completes next: its bitmap is full, and every earlier request, or for a READ response every earlier
READ, is done (R529). -/
def spNext (q : Qp) : Option SpRx :=
  q.sp.find? fun m => m.got.length == m.cnt &&
    if m.opcode = 0xC2 then ((q.unacked.find? fun t => t.msg.kind == .read).map fun t => t.has m.psn).getD true else m.psn == q.rqPsn

/-- Complete the messages at the head of the queue pair's order whose bitmaps are full: one ACK each for the last PSN
(R529). A SEND consumes its receive buffer; a READ response completes its READ. -/
def spComplete : Nat → Nat → State → State
  | 0, _, s => s
  | f + 1, i, s =>
    let q := qpOf s i
    match spNext q with
    | none => s
    | some m =>
      let data := m.data.flatMap (·.2)
      let s := qpPut i { q with
        sp := q.sp.erase m
        gapNaked := if m.opcode = 0xC2 then q.gapNaked else false
        rqPsn := if m.opcode = 0xC2 then q.rqPsn else psnAdd m.psn m.cnt } s
      let s := match m.opcode with
        | 0xC0 => deliver i data (qpPut i { qpOf s i with rxBufs := (qpOf s i).rxBufs - 1 } s)
        | 0xC2 => match (qpOf s i).unacked.find? fun t => t.msg.kind == .read && t.has m.psn with
          | some t =>
            let s := readData i t 0 (data.take t.msg.len) s
            pumpAll i (qpPut i (proven s { qpOf s i with unacked := (qpOf s i).unacked.erase t } [t]) s)
          | none => s
        | _ => s
      let s := if m.opcode = 0xC2 then s else reply i (psnAdd m.psn (m.cnt - 1)) synACK s
      spComplete f i s

/-- A scatter packet: placed at once, its bit set (R527, R528). -/
def handleSp (port bitNo : Nat) (p : RPkt) (s : State) : State :=
  match qpIndex p.qpn with
  | none => bump pgXPT 0x204 1 s
  | some i =>
    let q := qpOf s i
    if q.st ≠ .rtr ∧ q.st ≠ .rts then bump pgXPT 0x204 1 s
    else if !q.scatterLive bitNo then fatalViolation i port 6 synINVALID p s
    else if !spSelfOk q p then spViolation port p s
    else
      let s := touch i s
      let known := q.sp.find? fun m => m.msgId == p.msgId
      if known.isNone ∧ p.opcode ≠ 0xC2 ∧ psnDiff q.rqPsn p.psn ≤ 2 ^ 23 ∧ psnDiff q.rqPsn p.psn ≠ 0 then
        dupAck i (violation port 4 p (bump pgXPT 0x238 1 s))
      else if known.isNone ∧ (1024 ≤ bitmapsUsed s ∨ 8 ≤ q.sp.length) then replyRnr i p.psn s
      else if known.isNone ∧ p.opcode = 0xC0 ∧ q.rxBufs ≤ (q.sp.filter fun m => m.opcode == 0xC0).length then
        replyRnr i p.psn (violation port 9 p s)
      else
        let m := known.getD (spOpen q p)
        if !spAgrees q m p then spViolation port p s
        else if m.got.contains p.idx then bump pgXPT 0x238 1 s
        else if p.opcode = 0xC1 ∧ !accessOk s q accWRITE p.rkey p.va p.payload.length then accessRefused i port synACCESS p s
        else
          let m' := { m with
            got := m.got ++ [p.idx]
            data := if p.opcode = 0xC1 then [] else Tab.put m.data p.idx p.payload }
          let s := if p.opcode = 0xC1 then memWrite p.va p.payload s else s
          let q := { q with
            sp := if known.isSome then q.sp.map fun x => if x.msgId = m.msgId then m' else x else q.sp ++ [m'] }
          spComplete (q.sp.length + 1) i (qpPut i q s)

/-- A received SP_NAK (R530): the packets it names are sent again, as retransmissions (R531). -/
def handleSpNak (p : RPkt) (s : State) : State :=
  match qpIndex p.qpn with
  | none => bump pgXPT 0x204 1 s
  | some i =>
    let q := qpOf s i
    if q.st ≠ .rts ∨ !q.scatterAny then bump pgXPT 0x204 1 s
    else match q.unacked.find? fun t => (t.msg.kind == .spWrite || t.msg.kind == .spSend) && t.msgId == field p.payload 0 3 with
      | none => s
      | some t =>
        let first := field p.payload 4 2
        let mask := field p.payload 8 8
        let ks := (List.range 64).filterMap fun b => if mask.testBit b ∧ first + b < t.pkts then some (first + b) else none
        let s := ks.foldl (fun s k => putPkt i (txPkt q t k) s) s
        bump pgXPT 0x214 ks.length (qpPut i { q with
          unacked := q.unacked.map fun u => if u = t then { t with resent := true } else u
          cautious := q.cautious || live s pgXPT 4
          rtoUs := if q.cautious then q.rtoUs else rdF s pgXPT 0x110 6 0
          proved := 0 } s)

/-! Dispatch of a packet by its opcode. -/

/-- The opcode is one XPT handles on this queue pair (R501, R524). -/
def opcodeKnown (q : Qp) (op : Nat) : Bool :=
  decide (op ≤ 0x14) || op == 0x16 || op == 0x17 || op == 0x81 || (op == 0xC0 && q.scatterLive 1) ||
  (op == 0xC1 && q.scatterLive 0) || (op == 0xC2 && q.scatterLive 2) || (op == 0xC3 && q.scatterAny)

/-- Process a packet whose context is resident. -/
def handlePkt (port : Nat) (p : RPkt) (s : State) : State :=
  if p.opcode ≤ 0x05 ∨ p.opcode = 0x16 ∨ p.opcode = 0x17 then handleSend port p s
  else if p.opcode ≤ 0x0B then handleWrite port p s
  else if p.opcode = 0x0C then handleRead port p s
  else if p.opcode ≤ 0x10 then handleReadResp port p s
  else if p.opcode ≤ 0x12 then
    (if p.opcode = 0x11 ∧ p.syndrome / 32 = 1 then handleRnr port p s else handleAck port p s)
  else if p.opcode ≤ 0x14 then handleAtomic port p s
  else if p.opcode = 0x81 then handleCnp p s
  else if p.opcode = 0xC0 then handleSp port 1 p s
  else if p.opcode = 0xC1 then handleSp port 0 p s
  else if p.opcode = 0xC2 then handleSp port 2 p s
  else handleSpNak p s

/-- Bytes held in the arrival park (R510). -/
def parkBytes (s : State) : Nat :=
  s.xpt.qps.foldl (fun n e => n + e.2.parked.foldl (fun m p => m + 64 + p.2.payload.length) 0) 0

/-- The packet answers a transmission: a READ response, ACK, CNP or SP_NAK. -/
def isAnswer (op : Nat) : Bool := decide (0x0D ≤ op ∧ op ≤ 0x12) || op == 0x81 || op == 0xC2 || op == 0xC3

/-- A packet for a queue pair whose context is not resident: parked, or the park is full (R510, R511). The kinds of
hallmark 0x2103 are 0x1 for a request, 0x2 for a response, ACK or CNP. -/
def park (port i : Nat) (p : RPkt) (s : State) : State :=
  let q := qpOf s i
  if parkBytes s + 64 + p.payload.length ≤ 2097152 then qpPut i { q with parked := q.parked ++ [(port, p)] } s
  else
    let req := !isAnswer p.opcode
    let s := hallmark 0x2103 0 [pw port, pw i, pw (if req then 1 else 2)] (bump pgXPT 0x21C 1 s)
    if req then replyRnr i p.psn s else s

/-- The packet begins work of its own: no answer, and no part of a message under way (R42). -/
def newWork (q : Qp) (p : RPkt) : Bool :=
  !(isAnswer p.opcode || (q.rx.isSome && !isFirst p.opcode) || q.sp.any fun m => m.msgId == p.msgId && m.opcode == p.opcode)

/-- What XPT looks at before a packet is processed: rows 1, 2 and 6 of R521, and whether the context is resident (R510). -/
def screen (port : Nat) (p : RPkt) (s : State) (go : Nat → State → State) : State :=
  if !p.icrcOk || p.pkey != 0xFFFF then bump pgXPT 0x208 1 s
  else match qpIndex p.qpn with
  | none => bump pgXPT 0x204 1 s
  | some i =>
    let q := qpOf s i
    if q.st ≠ .rtr ∧ q.st ≠ .rts then bump pgXPT 0x204 1 s
    else if !resident s i then park port i p s
    else if !opcodeKnown q p.opcode then fatalViolation i port 6 synINVALID p s
    else go i s

/-- XPT is out of RUN and the packet is new work, which it leaves in the port's buffer (R42). -/
def leftWaiting (s : State) (p : RPkt) : Bool :=
  !running s pgXPT && ((qpIndex p.qpn).map fun i => newWork (qpOf s i) p).getD false

/-- XPT takes and processes a packet; in a quench it discards every arrival (R532). One whose queue pair has packets parked goes behind
them (R510). -/
def xptTake (port : Nat) (p : RPkt) (s : State) (h : State → State) : State :=
  if alive s pgXPT && leftWaiting s p then s
  else
    let s := takeArrival port p s
    if inQ s || !alive s pgXPT then s else screen port p s fun _ s => h s

/-- ROCE_SEND (R501, R517, R521). -/
def execRoceSend (port : Nat) (p : RPkt) (s : State) : Outcome := .next (xptTake port p s (handleSend port p))
/-- RDMA_WRITE (R514, R516, R520). -/
def execRdmaWrite (port : Nat) (p : RPkt) (s : State) : Outcome := .next (xptTake port p s (handleWrite port p))
/-- RDMA_READ_REQUEST (R514). -/
def execRdmaReadRequest (port : Nat) (p : RPkt) (s : State) : Outcome := .next (xptTake port p s (handleRead port p))
/-- RDMA_READ_RESPONSE (R520). -/
def execRdmaReadResponse (port : Nat) (p : RPkt) (s : State) : Outcome := .next (xptTake port p s (handleReadResp port p))
/-- ROCE_ACK (R506). -/
def execRoceAck (port : Nat) (p : RPkt) (s : State) : Outcome := .next (xptTake port p s (handleAck port p))
/-- RNR_NAK (R508). -/
def execRnrNak (port : Nat) (p : RPkt) (s : State) : Outcome := .next (xptTake port p s (handleRnr port p))
/-- COMPARE_AND_SWAP (R518, R519). -/
def execCompareAndSwap (port : Nat) (p : RPkt) (s : State) : Outcome := .next (xptTake port p s (handleAtomic port p))
/-- FETCH_AND_ADD (R518, R519). -/
def execFetchAndAdd (port : Nat) (p : RPkt) (s : State) : Outcome := .next (xptTake port p s (handleAtomic port p))
/-- SP_WRITE (R527 to R529). -/
def execSpWrite (port : Nat) (p : RPkt) (s : State) : Outcome := .next (xptTake port p s (handleSp port 0 p))
/-- SP_SEND (R527 to R529). -/
def execSpSend (port : Nat) (p : RPkt) (s : State) : Outcome := .next (xptTake port p s (handleSp port 1 p))
/-- SP_READ_RESP (R527 to R529). -/
def execSpReadResp (port : Nat) (p : RPkt) (s : State) : Outcome := .next (xptTake port p s (handleSp port 2 p))
/-- SP_NAK (R530, R531). -/
def execSpNak (port : Nat) (p : RPkt) (s : State) : Outcome := .next (xptTake port p s (handleSpNak p))
/-- CNP (R500). -/
def execCnp (port : Nat) (p : RPkt) (s : State) : Outcome := .next (xptTake port p s (handleCnp p))

/-! Timers. -/

/-- SP_GAP_EXPIRY (R530): an SP_NAK names the first missing packet and the 64 from it on; at most RETRIES a message. -/
def execSpGapExpiry (qp msgId : Nat) (s : State) : Outcome :=
  let q := qpOf s qp
  .next (match q.sp.find? fun m => m.msgId == msgId && m.got.length != m.cnt with
    | none => s
    | some m =>
      if rdF s pgXPT 0x114 18 16 ≤ m.naks ∨ inQ s then s
      else
        let first := ((List.range m.cnt).find? fun k => !m.got.contains k).getD 0
        let mask := (List.range 64).foldl (fun v b =>
          if first + b < m.cnt ∧ !m.got.contains (first + b) then v + 2 ^ b else v) 0
        let body := le 3 m.msgId ++ le 1 0 ++ le 2 first ++ le 2 0 ++ le 8 mask
        putPkt qp { qpn := q.destQpn, opcode := 0xC3, psn := m.psn, payload := body } (bump pgXPT 0x234 1 (qpPut qp { q with
          sp := q.sp.map fun x => if x.msgId = msgId then { m with naks := m.naks + 1 } else x } s)))

/-- RETRANSMIT_TIMEOUT (R500, R506): resend, or ERROR with RETRY_EXCEEDED after the retries of the mode. The timer of a
paused priority is frozen (R497). -/
def execRetransmitTimeout (qp : Nat) (s : State) : Outcome :=
  let q := qpOf s qp
  .next (if q.st ≠ .rts ∨ q.unacked.isEmpty ∨ paused s q.port q.prio ∨ inQ s then s
    else if retryLimit s q ≤ q.timeouts then qpError qp qeRETRY s
    else
      let cut := q.cautious && live s pgXPT 3
      let s := qpPut qp { q with
        timeouts := q.timeouts + 1
        rtoUs := if q.cautious then Nat.min (2 * q.rtoUs) (rdF s pgXPT 0x114 15 0) else q.rtoUs
        target := if cut then q.rate else q.target
        rate := if cut then clampRate s (q.rate / 2) else q.rate
        stage := if cut then 0 else q.stage
        cutAt := if cut then some s.time else q.cutAt } s
      resendFrom qp ((q.unacked.head?.map (fun t => psnAdd t.psn t.acked)).getD 0) s)

/-- TEMPER_RISE (R500): RISE_US have passed without a cut. -/
def execTemperRise (qp : Nat) (s : State) : Outcome :=
  let q := qpOf s qp
  .next (if q.st ≠ .rts ∨ !live s pgXPT 3 ∨ cutRecently s q then s
    else
      let t := if q.stage < 5 then q.target
        else Nat.min (lineRate s) (q.target + rdF s pgXPT 0x118 15 8 * 100000 * (q.stage - 4))
      qpPut qp { q with
        target := t
        rate := clampRate s ((q.rate + t) / 2)
        stage := Nat.min 255 (q.stage + 1) } s)

/-- CTX_FETCH_DONE (R510, R512): the context becomes resident and its parked packets are processed in order, then its
waiting transmissions go; an uncorrectable error ends the queue pair; with every resident context pinned it waits. -/
def execCtxFetchDone (qp : Nat) (uncorrectable : Bool) (s : State) : Outcome :=
  .next (if !alive s pgXPT || resident s qp then s
    else if uncorrectable then qpError qp qeCTX s
    else match makeResident qp s with
      | none => s
      | some s =>
        let ps := (qpOf s qp).parked
        let s := ps.foldl (fun s e => screen e.1 e.2 s fun _ s => handlePkt e.1 e.2 s) (qpPut qp { qpOf s qp with parked := [] } s)
        pumpAll qp s)

/-! Queue-pair commands (R503, R505, R507, R525). -/

/-- QP_SEL. -/
def qpSel (s : State) : Nat := rdF s pgXPT 0x144 16 0
/-- QP_RESULT. -/
def qpResult (code : Nat) (s : State) : State := wr pgXPT 0x14C (pw code) s
abbrev qrDONE : Nat := 0x00
abbrev qrBAD_TRANSITION : Nat := 0x10
abbrev qrBAD_ATTR : Nat := 0x11

/-- The attribute block in QP_ATTR_0 to QP_ATTR_15. -/
def attrBlock (s : State) : List W32 := (List.range 16).map fun i => rd s pgXPT (0x180 + 4 * i)

/-- Every field of the block is in its range (R505). -/
def attrOk (s : State) (ws : List W32) : Bool :=
  let f := fun off n => field (ws.flatMap fun w => le 4 w.toNat) off n
  decide (f 0x00 4 < 2 ^ 24 ∧ f 0x04 4 < 2 ^ 24 ∧ f 0x08 4 < 2 ^ 24 ∧ f 0x0C 2 < 4096) &&
  decide (3 ≤ f 0x0E 1 ∧ f 0x0E 1 ≤ 5) && decide (f 0x0F 1 < 32) &&
  ((f 0x0F 1).testBit 0 || f 0x10 8 + f 0x18 4 == 0) &&
  decide (f 0x28 1 < 32 ∧ f 0x29 1 < 8 ∧ 1 ≤ f 0x2A 1 ∧ f 0x2A 1 ≤ 31 ∧ f 0x2B 1 < 128) &&
  f 0x2B 1 / 8 % 2 == 0 && decide (1 ≤ f 0x2C 1 ∧ f 0x2C 1 ≤ 16 ∧ 1 ≤ f 0x2D 1 ∧ f 0x2D 1 ≤ 16) &&
  decide (f 0x2E 1 ≤ 2 ∧ f 0x2F 1 < 64 ∧ f 0x34 1 < 32) && f 0x35 1 == 0 && f 0x38 8 == 0

/-- Take the block: SCATTER_LIVE loads as 0 where it asks more than SCATTER_AVAIL offers (R525, R536). -/
def takeAttrs (i : Nat) (s : State) : State :=
  let ws := attrBlock s
  let ask := ws.getD 12 0
  let avail := if live s pgXPT 2 then rd s pgXPT 0x1F8 else 0
  let bad := (ask.toNat ||| avail.toNat) != avail.toNat
  let q := qpOf s i
  let s := qpPut i { q with
    attr := ws
    scatter := if bad then 0 else ask
    sqPsn := field (ws.flatMap fun w => le 4 w.toNat) 0x04 4
    rqPsn := field (ws.flatMap fun w => le 4 w.toNat) 0x08 4 } s
  if bad then hallmark 0x2104 0 [pw i, ask] (bump pgXPT 0x240 1 s) else s

/-- The write of QP_CMD with one OP; XPT serves its commands while it is in RUN. -/
def qpCmd (value : W32) (s : State) (act : Nat → Qp → State → State) : Outcome :=
  let s := commandWrite pgXPT 0x148 value s
  .next (if !running s pgXPT then s else act (qpSel s) (qpOf s (qpSel s)) s)

/-- QP_INIT (R503): RESET to INIT. -/
def execQpInit (value : W32) (s : State) : Outcome :=
  qpCmd value s fun i q s =>
    if q.st = .reset then qpResult qrDONE (qpPut i { q with st := .init } ((makeResident i s).getD s))
    else qpResult qrBAD_TRANSITION s

/-- QP_RTR (R505, R525): INIT to RTR with the attribute block. A queue pair of HQ has a receive buffer for its Connect. -/
def execQpRtr (value : W32) (s : State) : Outcome :=
  qpCmd value s fun i q s =>
    if q.st ≠ .init then qpResult qrBAD_TRANSITION s
    else if !attrOk s (attrBlock s) then qpResult qrBAD_ATTR s
    else
      let s := takeAttrs i s
      let q := qpOf s i
      qpResult qrDONE (qpPut i { q with st := .rtr, rxBufs := if q.user = 1 then 1 else 0 } s)

/-- QP_RTS (R500, R505, R507): RTR to RTS, cautious where CAUTIOUS is live, at line rate. -/
def execQpRts (value : W32) (s : State) : Outcome :=
  qpCmd value s fun i q s =>
    if q.st ≠ .rtr then qpResult qrBAD_TRANSITION s
    else if !attrOk s (attrBlock s) then qpResult qrBAD_ATTR s
    else
      let s := takeAttrs i s
      let q := { qpOf s i with rqPsn := q.rqPsn }
      qpResult qrDONE (qpPut i { q with
        st := .rts
        cautious := live s pgXPT 4
        rtoUs := rdF s pgXPT 0x110 6 0
        rate := lineRate s
        target := lineRate s
        stage := 0
        cutAt := none } s)

/-- QP_ERROR (R503, R504): a queue pair enters ERROR with a cause; asked by firmware (cause FIRMWARE) it answers in
QP_RESULT. -/
def execQpError (qp cause : Nat) (s : State) : Outcome :=
  let st := (qpOf s qp).st
  .next (if cause = qeFIRMWARE then
      if !running s pgXPT then s
      else if st = .init ∨ st = .rtr ∨ st = .rts then qpResult qrDONE (qpError qp cause s)
      else qpResult qrBAD_TRANSITION s
    else qpError qp cause s)

/-- QP_RESET (R503): any state to RESET; its user has lost it as in ERROR. -/
def execQpReset (value : W32) (s : State) : Outcome :=
  qpCmd value s fun i q s =>
    let s := if q.user = 1 then deleteQueue i qdQP_LOST s else if q.user = 2 then rplQpLost i s else s
    qpResult qrDONE (qpPut i {} { s with xpt := { s.xpt with lru := s.xpt.lru.filter (· != i) } })

/-- Write the attribute block back to QP_ATTR_0 to QP_ATTR_15. -/
def putAttrs (ws : List W32) (s : State) : State :=
  (List.range 16).foldl (fun s k => wr pgXPT (0x180 + 4 * k) (ws.getD k 0) s) s

/-- QP_QUERY (R505): loads the block from the context, with the PSNs reached and SCATTER_LIVE in force. -/
def execQpQuery (value : W32) (s : State) : Outcome :=
  qpCmd value s fun _ q s =>
    qpResult qrDONE (putAttrs (((q.attr.set 1 (pw q.sqPsn)).set 2 (pw q.rqPsn)).set 12 q.scatter) s)

/-- QP_TEST (R507): into cautious mode. -/
def execQpTest (value : W32) (s : State) : Outcome :=
  qpCmd value s fun i q s =>
    if q.st = .rts then
      qpResult qrDONE (qpPut i { q with cautious := live s pgXPT 4, proved := 0, rtoUs := rdF s pgXPT 0x110 6 0 } s)
    else qpResult qrBAD_TRANSITION s

/-! Window commands (R515). -/

def winSel (s : State) : Nat := rdF s pgXPT 0x1C0 15 0

/-- WIN_OPEN (R515): the window opens with the base, length, domain and access in its registers. -/
def execWinOpen (value : W32) (s : State) : Outcome :=
  let s := commandWrite pgXPT 0x1DC value s
  let i := winSel s
  let x := winOf s i
  .next (if !running s pgXPT then s
    else if x.busy then conflict pgXPT 0x1DC s
    else winPut i { x with
      base := rd64 s pgXPT 0x1C8
      len := rd64 s pgXPT 0x1D0
      pd := rdF s pgXPT 0x1D8 27 16
      access := rdF s pgXPT 0x1D8 3 0
      opened := true } s)

/-- WIN_REVOKE (R515). -/
def execWinRevoke (value : W32) (s : State) : Outcome :=
  let s := commandWrite pgXPT 0x1DC value s
  .next (if !running s pgXPT then s
    else if (winOf s (winSel s)).busy then conflict pgXPT 0x1DC s else revoke (winSel s) s)

/-- REVOKE_DRAINED (R515): BUSY falls. -/
def execRevokeDrained (win : Nat) (s : State) : Outcome :=
  .next (if (winOf s win).busy then winPut win { winOf s win with busy := false } s else s)

end Sys2Proof.Machine
end

