-- ==== Sys2Proof/Machine/Ports.lean ====
section
/-! DEFINITION. Commands of the Ethernet ports (spec/13_network_transport.md, R489 to R498, R535). -/

namespace Sys2Proof.Machine

/-- Network octets a mode needs (R489). -/
def modeOctets (m : Nat) : Nat := if m = 3 then 12 else 8

/-- SRD_STAT.USE of an octet (R406, R489, R567, R780): 0 flash, 1 network, 2 Wadun, 3 unused. -/
def srdUse (s : State) (n : Nat) : Nat :=
  let f := rdF s pgFLX 0x100 4 0
  if 32 ≤ n then 2 else if n < f then 0 else if n < f + modeOctets (netMode s) then 1 else 3

/-- Start or stop the LANE clock of an octet. -/
def laneSet (n : Nat) (on : Bool) (s : State) : State :=
  let v := (rd64 s pgCLK 0x108).toNat
  wr64 pgCLK 0x108 (BitVec.ofNat 64 (v - b2n (v.testBit n) * 2 ^ n + b2n on * 2 ^ n)) s
/-- Octets by use: SRD_STAT.USE 0 flash, 1 network (R780). -/
def octets (s : State) (use : Nat) : List Nat := (List.range 36).filter fun n => srdUse s n == use

/-- NET_MODE_WRITE (R490): ignored, with CTRL_CONFLICT, unless every NET page is OFF and the octets suffice. -/
def execNetModeWrite (value : W32) (s : State) : Outcome :=
  .next (gatedWrite pgNET 0x100 (!((List.range 16).all (fun n => pgState s (pgNET + n) == stOFF) &&
      decide (modeOctets (bits value 2 0) ≤ 32 - rdF s pgFLX 0x100 4 0))) value s)

/-! Filtering (R492, R493). -/

/-- The port's IP entries: control word and address. -/
def ipEntry (s : State) (port i : Nat) : W32 × BitVec 128 := Tab.getD s.net.ips (0, 0) (port * 8 + i)

/-- The destination MAC is one of the port's (R492). -/
def macOk (s : State) (port : Nat) (f : Frame) : Bool :=
  f.bcast || f.snm || [0x108, 0x110, 0x118, 0x120].any fun o =>
    bit (nrd s port (o + 4)) 31 &&
    f.dmac.toNat == (nrd s port o).toNat + bits (nrd s port (o + 4)) 15 0 * 2 ^ 32

/-- The frame's VLAN is the port's (R492). -/
def vlanOk (s : State) (port : Nat) (f : Frame) : Bool :=
  match f.vlan with
  | none => bit (nrd s port 0x128) 0
  | some (vid, _) => (List.range 8).any fun i =>
      bit (nrd s port (0x130 + 4 * i)) 15 && nrdF s port (0x130 + 4 * i) 11 0 == vid

/-- IP traffic is for one of the port's addresses (R492). -/
def ipOk (s : State) (port : Nat) (f : Frame) : Bool :=
  match f.ip with
  | none => true
  | some (v6, a) => (List.range 8).any fun i =>
      let e := ipEntry s port i
      bit e.1 31 && bit e.1 30 == v6 && e.2 == a

/-- The priority of a received frame: PCP when tagged, DSCP bits 5:3 when not (R495). -/
def framePrio (f : Frame) : Nat := match f.vlan with | some (_, pcp) => pcp % 8 | none => f.dscp / 8 % 8

/-- The priority is lossless on the port, and PFC is live (R495, R534). -/
def lossless (s : State) (port prio : Nat) : Bool :=
  live s (portPage s port) 0 && (nrdF s port 0x170 15 8).testBit prio

/-! The exception rings (R494). -/

/-- The CLASS of a frame for the exception ring (R493, R494); CM packets are for QP 1. -/
def excClass (k : FrameKind) : Option Nat :=
  match k with
  | .arp => some 1 | .nd => some 2 | .echo => some 3 | .lldp => some 4
  | .roce p => if p.qpn = 1 then some 5 else none
  | .other => none

def excSize (s : State) : Nat := rdF s pgXPT 0x138 15 0
/-- An entry of the receive exception ring (R494). -/
def excEntry (s : State) (port cls : Nat) (f : Frame) : List Byte :=
  le 1 port ++ le 1 cls ++ le 2 f.bytes.length ++ List.replicate 4 0#8 ++ le 8 (s.time.toNat * 1000) ++
  List.replicate 16 0#8 ++ slice f.bytes 0 480

/-- A frame for the exception ring: dropped beyond EXC_PPS in the current second, or when the ring is full. -/
def exception (port cls : Nat) (f : Frame) (s : State) : State :=
  let page := portPage s port
  let sec := s.time.toNat / 1000000
  let e := Tab.getD s.net.excSec (sec, 0) port
  let n := if e.1 = sec then e.2 else 0
  let p := rdF s pgXPT 0x13C 31 16
  if (nrd s port 0x17C).toNat ≤ n ∨ (p + 1) % excSize s = rdF s pgXPT 0x13C 15 0 % excSize s ∨ !alive s pgXPT then
    bump page 0x198 1 s
  else
    let s := { s with net := { s.net with excSec := Tab.put s.net.excSec port (sec, n + 1) } }
    let s := memWrite ((rd64 s pgXPT 0x128).toNat + p * 512) (excEntry s port cls f) s
    wrF pgXPT 0x13C 31 16 ((p + 1) % excSize s) s

/-! RoCEv2 packets (R502, R510, R511, R521). -/

/-- A packet reaches XPT: rows 1, 2 and 6 of R521, the park, or the arrivals that wait for it; a CE mark is answered (R499). -/
def arrive (port prio bytes : Nat) (p : RPkt) (s : State) : State :=
  let wait := fun (s : State) => { s with net := { s.net with inbox := s.net.inbox ++ [⟨port, prio, bytes, p⟩] } }
  if inQ s || !alive s pgXPT then s
  else if leftWaiting s p then wait s
  else
    let s := match qpIndex p.qpn with
      | some i => if p.icrcOk && p.pkey == 0xFFFF then ceAnswer i p s else s
      | none => s
    screen port p s fun _ s => wait s

/-- XOFF when a lossless priority has risen past XOFF_KIB (R496). -/
def xoffCheck (port prio : Nat) (s : State) : State :=
  if lossless s port prio && !s.net.xoff.contains (pprio port prio) &&
      decide (nrdF s port 0x174 31 16 * 1024 < occupancy s port prio) then
    emit (.pfc port prio 0xFFFF) (bump (portPage s port) 0x1A4 1
      { s with net := { s.net with xoff := pprio port prio :: s.net.xoff } })
  else s

/-- Bytes of a port's lossless priorities in its ingress buffer (R496). -/
def losslessBytes (s : State) (port : Nat) : Nat :=
  ((List.range 8).map fun k => if lossless s port k then occupancy s port k else 0).foldl (· + ·) 0

/-- FRAME_RECEIVE (R491 to R496): counted, checked, filtered, then to XPT, to the exception ring, or dropped. A NET page takes frames in RUN
alone (R42). -/
def execFrameReceive (port : Nat) (f : Frame) (s : State) : Outcome :=
  let page := portPage s port
  .next (if !running s page || decide (netPorts s ≤ port) then s
    else
      let s := bump64 page 0x180 f.bytes.length s
      let prio := framePrio f
      if !f.fcsOk || decide (f.bytes.length < 64) || decide (rdF s page 0x104 13 0 < f.bytes.length) then bump page 0x194 1 s
      else if !macOk s port f || !vlanOk s port f || !ipOk s port f then bump page 0x190 1 s
      else
        let ce := match f.kind with | .roce p => p.ce | _ => false
        let s := if ce then bump page 0x1A8 1 s else s
        if lossless s port prio && decide (4194304 < losslessBytes s port + f.bytes.length) then bump page 0x19C 1 s
        else match excClass f.kind, f.kind with
          | some c, _ => exception port c f s
          | none, .roce p => xoffCheck port prio (arrive port prio f.bytes.length p s)
          | none, _ => bump page 0x190 1 s)

/-- Frames from the transmit exception ring, from CONS up to PROD (R494). -/
def excSend : Nat → State → State
  | 0, s => s
  | f + 1, s =>
    let c := rdF s pgXPT 0x140 15 0
    if c = rdF s pgXPT 0x140 31 16 % excSize s then s
    else
      let e := memRead s ((rd64 s pgXPT 0x130).toNat + c * 512) 512
      let bs := slice e 0x20 (Nat.min (field e 2 2) 480)
      let port := field e 0 1
      let s := emit (.frame port bs) (bump64 (portPage s port) 0x188 bs.length s)
      excSend f (wrF pgXPT 0x140 15 0 ((c + 1) % excSize s) s)

/-- EXC_TX_SEND (R494): the doorbell. -/
def execExcTxSend (value : W32) (s : State) : Outcome :=
  let s := wrF pgXPT 0x140 31 16 (bits value 31 16) s
  .next (if alive s pgXPT && !inQ s then excSend (excSize s) s else s)

/-! Priority flow control (R496 to R498). -/

/-- PFC_XOFF_REFRESH (R496): at half the quanta time the XOFF is sent again. -/
def execPfcXoffRefresh (port prio : Nat) (s : State) : Outcome :=
  .next (if s.net.xoff.contains (pprio port prio) && alive s (portPage s port) then
      emit (.pfc port prio 0xFFFF) (bump (portPage s port) 0x1A4 1 s) else s)

/-- A priority sends again: answers that waited, then packets, of every queue pair on it. -/
def resumePrio (port prio : Nat) (s : State) : State :=
  (s.xpt.qps.filter fun e => e.2.port == port && e.2.prio == prio).foldl (fun s e => pumpAll e.1 (flushResp e.1 s)) s

/-- Set the PAUSED or STORM bit of a priority in LINK_STAT. -/
def prioBit (port lo prio : Nat) (b : Bool) (s : State) : State :=
  nwr port 0x178 (putBits (nrd s port 0x178) (lo + prio) (lo + prio) (b2n b)) s

/-- A priority is no longer paused. -/
def unpause (port prio : Nat) (s : State) : State :=
  let s := prioBit port 8 prio false s
  resumePrio port prio { s with net := { s.net with pausedAt := Tab.erase s.net.pausedAt (pprio port prio) } }

/-- PAUSE_RECEIVE (R497): XOFF (quanta not 0) stops a priority, XON resumes it; in storm pause frames are ignored
(R498). -/
def execPauseReceive (port prio quanta : Nat) (s : State) : Outcome :=
  .next (if !running s (portPage s port) then s
    else
      let s := bump (portPage s port) 0x1A0 1 { s with net := { s.net with pauseAt := Tab.put s.net.pauseAt (pprio port prio) s.time } }
      if !lossless s port prio || stormed s port prio then s
      else if quanta = 0 then unpause port prio s
      else
        let s := prioBit port 8 prio true s
        if (Tab.find? s.net.pausedAt (pprio port prio)).isSome then s
        else { s with net := { s.net with pausedAt := Tab.put s.net.pausedAt (pprio port prio) s.time } })

/-- PAUSE_EXPIRY (R497): the quanta have expired. -/
def execPauseExpiry (port prio : Nat) (s : State) : Outcome :=
  .next (if paused s port prio then unpause port prio s else s)

/-- WDOG_MS have passed since a time (R498). -/
def wdogPast (s : State) (port : Nat) (t : Option W64) : Bool :=
  (t.map fun t => decide (nrdF s port 0x170 31 16 * 1000 ≤ (s.time - t).toNat)).getD false

/-- PFC_STORM_ENTRY (R498): paused for WDOG_MS, with STORM_WDOG live: pause frames are ignored from here on. -/
def execPfcStormEntry (port prio : Nat) (s : State) : Outcome :=
  .next (if paused s port prio && live s (portPage s port) 1 && wdogPast s port (Tab.find? s.net.pausedAt (pprio port prio)) then
      let s := prioBit port 16 prio true s
      resumePrio port prio (hallmark 0x2003 (instOf (portPage s port)) [pw port, pw prio, pw 1] (bump (portPage s port) 0x1AC 1 s))
    else s)

/-- PFC_STORM_EXIT (R498): no pause frame for WDOG_MS. -/
def execPfcStormExit (port prio : Nat) (s : State) : Outcome :=
  .next (if stormed s port prio && wdogPast s port (Tab.find? s.net.pauseAt (pprio port prio)) then
      let s := unpause port prio (prioBit port 16 prio false s)
      hallmark 0x2003 (instOf (portPage s port)) [pw port, pw prio, pw 0] s
    else s)

/-! Link state (R535). -/

/-- Lanes of a network port (R489). -/
def netLanes (s : State) : Nat := match netMode s with | 0 => 4 | 2 => 2 | _ => 8

/-- The octets that carry a port (R489). -/
def netOctets (s : State) (port : Nat) : List Nat :=
  (List.range (netLanes s)).map fun i => rdF s pgFLX 0x100 4 0 + (netLanes s * port + i) / 8

/-- PORT_LINK_UP: LINK_STAT.UP and FEC_LOCK, hallmark 0x2002; the port's lanes have lock. -/
def execPortLinkUp (port : Nat) (s : State) : Outcome :=
  .next (if alive s (portPage s port) && decide (port < netPorts s) && !(netOctets s port).any (patterned s) then
      let lanes := lanesLocked (8 * rdF s pgFLX 0x100 4 0 + netLanes s * port) (netLanes s)
      hallmark 0x2002 (instOf (portPage s port)) [pw port, pw (netMode s)] (lanes (nwrF port 0x178 1 0 3 s))
    else s)

/-- A port's link goes down (R533): hallmark 0x2001; nothing is paused on a link that is down. -/
def linkDownPort (port cause : Nat) (s : State) : State :=
  if bit (nrd s port 0x178) 0 then
    let s := hallmark 0x2001 (instOf (portPage s port)) [pw port, pw cause] (nwr port 0x178 0 s)
    { s with net := { s.net with
      pausedAt := s.net.pausedAt.filter fun e => e.1 / 8 != port
      xoff := s.net.xoff.filter fun k => k / 8 != port } }
  else s

/-- PORT_LINK_DOWN (R533, R535). -/
def execPortLinkDown (port cause : Nat) (s : State) : Outcome := .next (linkDownPort port cause s)

end Sys2Proof.Machine
end

