-- ==== Sys2Proof/Machine/Stripe.lean ====
section
/-! DEFINITION. Parity of a stripe (R355): Reed–Solomon over GF(2^8), and the decoding of lost members. -/

namespace Sys2Proof.Machine

/-- Times x in GF(2^8) with x^8 + x^4 + x^3 + x^2 + 1. -/
def gfX (b : Byte) : Byte := if b.getLsbD 7 then (b <<< 1) ^^^ 0x1D#8 else b <<< 1
/-- The product in GF(2^8); the first factor is taken bit by bit. -/
def gfMulN : Nat → Byte → Byte → Byte
  | 0, _, _ => 0
  | f + 1, a, b => (if a.getLsbD 0 then b else 0) ^^^ gfMulN f (a >>> 1) (gfX b)
def gfMul (a b : Byte) : Byte := gfMulN 8 a b
/-- The inverse: a to the power 254. -/
def gfInv (a : Byte) : Byte :=
  let a2 := gfMul a a
  let a4 := gfMul a2 a2
  let a8 := gfMul a4 a4
  let a16 := gfMul a8 a8
  let a32 := gfMul a16 a16
  let a64 := gfMul a32 a32
  gfMul (gfMul a64 a64) (gfMul a64 (gfMul a32 (gfMul a16 (gfMul a8 (gfMul a4 a2)))))
/-- The coefficient c(j, i) (R355). -/
def rsCoef (j i : Nat) : Byte := gfInv (BitVec.ofNat 8 ((0x40 + j) ^^^ i))

/-- The sum of two byte strings. -/
def gfAdd (a b : List Byte) : List Byte := List.zipWith (· ^^^ ·) a b
/-- A multiple of a byte string. -/
def gfScale (c : Byte) (bs : List Byte) : List Byte := bs.map (gfMul c)

/-- Row of the code for member `i` of `k` data members: a unit vector, or the coefficients of a parity member. -/
def rsRow (k i : Nat) : List Byte :=
  (List.range k).map fun x => if i < k then (if x = i then 1 else 0) else rsCoef (i - k) x

/-- Combine byte strings of length `n` by coefficients. -/
def gfCombine (n : Nat) (cs : List Byte) (xs : List (List Byte)) : List Byte :=
  (List.zipWith gfScale cs xs).foldl gfAdd (zeros n)

/-- Parity member `j` over the data members (R355). -/
def parity (n : Nat) (data : List (List Byte)) (j : Nat) : List Byte :=
  gfCombine n (rsRow data.length (data.length + j)) data

/-- One elimination step: a row with a nonzero entry in column `c` is scaled, and cleared from the others. Rows carry their
right-hand side. -/
def elimStep (c : Nat) (rows : List (List Byte × List Byte)) (done : List (List Byte × List Byte)) :
    List (List Byte × List Byte) × List (List Byte × List Byte) :=
  match rows.find? fun r => r.1.getD c 0 != 0 with
  | none => (rows, done)
  | some p =>
    let v := gfInv (p.1.getD c 0)
    let p' := (gfScale v p.1, gfScale v p.2)
    let clear := fun (r : List Byte × List Byte) =>
      (gfAdd r.1 (gfScale (r.1.getD c 0) p'.1), gfAdd r.2 (gfScale (r.1.getD c 0) p'.2))
    ((rows.erase p).map clear, done.map clear ++ [p'])

/-- The data members from `k` members that answer: (member, bytes) each; solved by elimination. -/
def rsSolve (k : Nat) (xs : List (Nat × List Byte)) : List (List Byte) :=
  let rows := xs.map fun x => (rsRow k x.1, x.2)
  (((List.range k).foldl (fun a c => elimStep c a.1 a.2) (rows, ([] : List (List Byte × List Byte)))).2).map (·.2)

/-- Member `i` from any `k` others (R355, R472). -/
def rsDecode (k i n : Nat) (xs : List (Nat × List Byte)) : List Byte :=
  gfCombine n (rsRow k i) (rsSolve k (xs.take k))

end Sys2Proof.Machine
end

