-- ==== Sys2Proof/Machine/IngotCore.lean ====
section
/-! DEFINITION. The caster and Planish as the other blocks meet them: the ingot table as it stands, zones and chunk
grants, billets, the stripe journal, appends (spec/10_ingots_erasure.md, spec/11_flash_translation.md). -/

namespace Sys2Proof.Machine

/-! Modules and the ingot table. -/

def modOf (s : State) (m : Nat) : Mod := Tab.getD s.ing.mods {} m
def modPut (m : Nat) (x : Mod) (s : State) : State := { s with ing := { s.ing with mods := Tab.setD s.ing.mods {} m x } }
/-- The modules EJECTED (R382). -/
def ejectedMods (s : State) : List Nat := (s.ing.mods.filter fun e => decide (e.2.st = .ejected)).map (·.1)

def castingOf (s : State) (n : Nat) : Option Casting := s.ing.cast.find? fun c => c.ingot == n
def castingPut (c : Casting) (s : State) : State :=
  { s with ing := { s.ing with cast := s.ing.cast.map fun x => if x.ingot = c.ingot then c else x } }

/-- The entry of an ingot that is OPEN or CASTING. -/
def Casting.entry (c : Casting) : Ingot :=
  { st := if c.casting then .casting else .opened, k := c.kk, m := c.m, cast := c.epoch, reloc := c.reloc
    members := c.locs.map fun l => l.getD {} }

/-- The entry without claims: being cast, retired and not committed, or committed. -/
def tableAt (s : State) (n : Nat) : Ingot :=
  match castingOf s n with
  | some c => c.entry
  | none => match Tab.find? s.ing.retired n with
    | some x => x
    | none => Tab.getD s.ldg.img.ingots {} n

/-- The ingot-table entry as it stands in HBM (R361): members on EJECTED modules count as LOST (R382), claims show in
STATE (R393). -/
def ingotAt (s : State) (n : Nat) : Ingot :=
  let x := (ejectedMods s).foldl (fun x m => loseModule m x) (tableAt s n)
  match Tab.find? s.ing.claims n with
  | some st => { x with st := st }
  | none => x

/-- The ingot numbers the table knows. -/
def ingotNums (s : State) : List Nat :=
  s.ing.cast.map (·.ingot) ++ s.ing.retired.map (·.1) ++
    (s.ldg.img.ingots.map (·.1)).filter fun n => (Tab.find? s.ing.retired n).isNone

/-- States that count as live for R175. -/
def IngotSt.holds : IngotSt → Bool
  | .opened | .casting | .live | .degraded | .rebuilding | .relocating => true
  | .free | .dead => false

/-- The member and first unit of a body (R354, R468). -/
def bodyMember (g : W64) : Nat := glocOffset g / 16384
def bodyUnit (g : W64) : Nat := glocOffset g % 16384
/-- The rows a body touches (R468): the first, and how many. -/
def bodyRow (g : W64) : Nat := bodyUnit g / 256
def bodyRows (g : W64) (len16 : Nat) : Nat := (bodyUnit g + len16 - 1) / 256 - bodyUnit g / 256 + 1
/-- The body touches a row marked in SLAG_ROWS. -/
def onSlagRow (x : Ingot) (g : W64) (len16 : Nat) : Bool :=
  (List.range (bodyRows g len16)).any fun r => x.slagRows.testBit (bodyRow g + r)
/-- R365, R394: of a data member with REBUILT set. -/
def slagRebuilt (x : Ingot) (g : W64) (len16 : Nat) : Bool :=
  ((x.members.getD (bodyMember g) {}).rebuilt) && onSlagRow x g len16

/-- Live units of an ingot's data area. -/
def liveUnits (x : Ingot) : Nat := x.k * 16384 - x.dead16

/-- The working count of a body (R175). -/
def workingCount (s : State) (k : Nat) : Nat := Tab.getD s.ldg.img.refs 0 k + Tab.getD s.ldg.working 0 k
/-- Raise the working count. -/
def workUp (k : Nat) (s : State) : State :=
  { s with ldg := { s.ldg with working := Tab.put s.ldg.working k (Tab.getD s.ldg.working 0 k + 1) } }

/-! Zones (R414). -/

def zoneKey (m z : Nat) : Nat := m * 2 ^ 32 + z
def zoneOf (s : State) (k : Nat) : Zone := Tab.getD s.pln.zones {} k
def zonePut (k : Nat) (x : Zone) (s : State) : State := { s with pln := { s.pln with zones := Tab.setD s.pln.zones {} k x } }
def pmodOf (s : State) (m : Nat) : PMod := Tab.getD s.pln.mods {} m
def pmodPut (m : Nat) (x : PMod) (s : State) : State := { s with pln := { s.pln with mods := Tab.setD s.pln.mods {} m x } }

/-- A zone of the own half: its index has the parity of HEAD_ID, or it is ADOPTED; a rejoined head owns only zones
returned to it (R414, R418). A FENCED head owns none: every zone is the survivor's (R11, R597). -/
def ownZone (s : State) (k : Nat) : Bool :=
  tstate s != tsFENCED &&
  ((zoneOf s k).adopted || (k % 2 == headId s && (!s.pln.lacking || s.pln.returned.contains k)))
/-- The head may use a module's port: it holds its reservation there (R12), and is not FENCED (R596). -/
def mayUse (s : State) (m : Nat) : Bool := s.resOwn.contains m && tstate s != tsFENCED
/-- The own zones of a module: (key, zone). -/
def ownZones (s : State) (m : Nat) : List (Nat × Zone) :=
  ((List.range (pmodOf s m).zones).filter fun z => ownZone s (zoneKey m z)).map fun z => (zoneKey m z, zoneOf s (zoneKey m z))
/-- Chunks of a zone of a module. -/
def capOf (s : State) (k : Nat) : Nat := (pmodOf s (k / 2 ^ 32)).cap

def castClass (s : State) : Nat := rdF s pgPLN 0x100 31 29
/-- The MEMBER modules of a class. -/
def classMods (s : State) (c : Nat) : List Nat :=
  (s.pln.mods.filter fun e => decide (e.2.st = .member) && e.2.cls == c).map (·.1)

/-- F: ungranted chunks in own zones EMPTY or OPEN on MEMBER modules of CAST_CLASS (R423). -/
def arrayFree (s : State) : Nat :=
  ((classMods s (castClass s)).flatMap fun m => (ownZones s m).map fun z =>
    if z.2.st = .empty ∨ z.2.st = .opened then (pmodOf s m).cap - z.2.next else 0).foldl (· + ·) 0
/-- The own-half capacity of CAST_CLASS. -/
def arrayCap (s : State) : Nat :=
  ((classMods s (castClass s)).flatMap fun m => (ownZones s m).map fun z =>
    if z.2.st = .offline then 0 else (pmodOf s m).cap).foldl (· + ·) 0

def hostFloor (s : State) : Nat := (rd s pgPLN 0x104).toNat
def floorOn (s : State) : Bool := bit (rd s pgPLN 0x150) 0
def writeProtected (s : State) : Bool := bit (rd s pgPLN 0x150) 1

/-- Critical warning bit 3 (read-only) of the SMART log (R147). -/
def critWarn (on : Bool) (s : State) : State :=
  { s with hq := { s.hq with critWarn := s.hq.critWarn - b2n (s.hq.critWarn.testBit 3) * 8 + b2n on * 8 } }

/-- FLOOR and WRITE_PROTECT follow F (R424, R426). -/
def floorUpdate (s : State) : State :=
  let f := arrayFree s
  let low := decide (f ≤ hostFloor s)
  let s := { wrF pgPLN 0x150 0 0 (b2n low) s with pln := { s.pln with
      floorAt := if low then some (s.pln.floorAt.getD (epochOpen s)) else none } }
  if !writeProtected s && low && bit (rd s pgANL 0x110) 31 then
    hqAsync aeREAD_ONLY (critWarn true (hallmark 0x1006 0 [pw 1] (hallmark 0x1804 0 (pw 1 :: pw2 f) (wrF pgHQ 0x108 5 5 1 (wrF pgPLN 0x150 1 1 1 s)))))
  else if writeProtected s && decide (hostFloor s + (rd s pgPLN 0x108).toNat < f) then
    critWarn false <| hallmark 0x1006 0 [pw 0] <| hallmark 0x1804 0 (pw 0 :: pw2 f) (wrF pgHQ 0x108 5 5 0 (wrF pgPLN 0x150 1 1 0 s))
  else s

/-! Granting chunks (R419 to R421). -/

/-- The lowest RESETS of some zones. -/
def minResets (zs : List (Nat × Zone)) : Option Nat :=
  zs.foldl (fun b z => match b with | none => some z.2.resets | some r => some (Nat.min r z.2.resets)) none
def emptyZones (zs : List (Nat × Zone)) : List (Nat × Zone) := zs.filter fun z => decide (z.2.st = .empty)
def openZones (zs : List (Nat × Zone)) : List (Nat × Zone) := zs.filter fun z => decide (z.2.st = .opened) && !z.2.spine

/-- The zone a grant on a module comes from: the own OPEN zone with the fewest appends outstanding, else an EMPTY zone
with the lowest RESETS, the lower index on a tie (R420). -/
def grantZone (s : State) (m : Nat) : Option Nat :=
  let zs := ownZones s m
  let os := (openZones zs).filter fun z => decide (z.2.next < (pmodOf s m).cap)
  match os.foldl (fun (b : Option (Nat × Zone)) z => match b with
      | none => some z
      | some y => if z.2.next - z.2.done < y.2.next - y.2.done then some z else some y) none with
  | some z => some z.1
  | none =>
    if (openZones zs).length < rdF s pgPLN 0x100 2 0 then
      ((emptyZones zs).foldl (fun (b : Option (Nat × Zone)) z => match b with
        | none => some z
        | some y => if z.2.resets < y.2.resets then some z else some y) none).map (·.1)
    else none

/-- The lines of R419 but the last; the head holds the port's reservation (R12). -/
def mayPlace (s : State) (cls : Nat) (excl : List Nat) (m : Nat) : Bool :=
  decide ((pmodOf s m).st = .member) && (pmodOf s m).cls == cls && decide ((modOf s m).st = .active) && !excl.contains m &&
  mayUse s m && (grantZone s m).isSome
/-- The last line of R419: its EMPTY zones are not too worn, or it has an own OPEN zone. -/
def evenWear (s : State) (cls m : Nat) : Bool :=
  !live s pgPLN 0 || !(openZones (ownZones s m)).isEmpty ||
  (match minResets (emptyZones (ownZones s m)), minResets ((classMods s cls).flatMap fun x => emptyZones (ownZones s x)) with
    | some a, some b => decide (a ≤ b + rdF s pgPLN 0x100 15 8)
    | _, _ => true)
/-- The eligible modules of a request, in module order; those left out for wear alone come back when fewer than `n`
remain. -/
def eligible (s : State) (cls n : Nat) (excl : List Nat) : List Nat :=
  let ms := (List.range 96).filter (mayPlace s cls excl)
  let es := ms.filter (evenWear s cls)
  if n ≤ es.length then es else ms

/-- Grant the next chunk on a module. -/
def grantOn (m : Nat) (s : State) : Loc × State :=
  match grantZone s m with
  | none => ({}, s)
  | some k =>
    let z := zoneOf s k
    ({ module := m, chunk := z.next, zone := k % 2 ^ 32 },
      zonePut k { z with
        next := z.next + 1
        st := if z.next + 1 = capOf s k then .closing else .opened } s)

/-- Grant a chunk on each of some modules. -/
def grantAll : List Nat → State → List Loc × State
  | [], s => ([], s)
  | m :: ms, s =>
    let a := grantOn m s
    let b := grantAll ms a.2
    (a.1 :: b.1, b.2)

/-- A request for `n` chunks of a class on modules outside `excl` (R420): the first `n` eligible modules at or after the
class's cursor; with fewer, FEW_MODULES is set and nothing is granted (R421). -/
def grantChunks (cls n : Nat) (excl : List Nat) (s : State) : Option (List Loc) × State :=
  let es := eligible s cls n excl
  let c := Tab.getD s.pln.cursor 0 cls
  let ms := ((es.filter fun m => decide (c ≤ m)) ++ es.filter fun m => decide (m < c)).take n
  if ms.length < n then (none, bump pgPLN 0x18C 1 (wrF pgPLN 0x150 2 2 1 s))
  else
    let a := grantAll ms s
    let s := wrF pgPLN 0x150 2 2 0 { a.2 with pln := { a.2.pln with
      cursor := Tab.put a.2.pln.cursor cls ((ms.getLast?.getD 0 + 1) % 96) } }
    (some a.1, floorUpdate s)

/-- A forged ingot waits at the floor unless its epoch closed before F fell to it (R424). -/
def floorHolds (s : State) (reloc : Bool) (epoch : Nat) : Bool :=
  floorOn s && !reloc && (match s.pln.floorAt with | some e => decide (e ≤ epoch) | none => false)

/-! Chunks freed (R415). -/

/-- A FULL zone whose chunks are all free is reset (R415), none while fencing is under way (R595), none of the other head's (R11) or
without a reservation (R12); a WORN one becomes OFFLINE (R422). -/
def reclaim (k : Nat) (s : State) : State :=
  let z := zoneOf s k
  if z.worn ∧ z.st = .full ∧ z.done ≤ z.free then
    hallmark 0x1802 0 [pw (k / 2 ^ 32), pw (k % 2 ^ 32), 4] (bump pgPLN 0x180 1 (zonePut k { z with st := .offline } s))
  else if (z.st = .full ∨ z.st = .reclaim) ∧ z.free = z.done ∧ 0 < z.done then
    if tstate s = tsFENCING ∨ !ownZone s k ∨ !mayUse s (k / 2 ^ 32) then zonePut k { z with st := .reclaim } s
    else emit (.zoneSend (k / 2 ^ 32) (k % 2 ^ 32) 0) (zonePut k { z with st := .resetting } s)
  else s

/-- A read that resolved a locator of an ingot before a commit count is in flight: at a drawplate, bound and still to be taken by one, or of a
rebuild whose rows are not decoded yet (R114, R389, R415). -/
def readInFlight (s : State) (ingot cnt : Nat) : Bool :=
  (s.drp.reqs.any fun r => glocIngot r.entry.gloc == ingot && decide (r.at_ < cnt)) ||
  (s.hq.cmds.any fun c => c.binds.any fun b => match b.2 with
    | .map e n => glocIngot e.gloc == ingot && decide (n < cnt)
    | _ => false) ||
  s.ing.attempts.any fun a => a.ingot == ingot && !a.move && a.jent.isNone && a.passed.isNone

/-- A chunk counts in FREE_CHUNKS. -/
def chunkFree (k : Nat) (s : State) : State :=
  let z := zoneOf s k
  reclaim k (zonePut k { z with free := if z.st = .full then Nat.min z.done (z.free + 1) else z.free + 1 } s)

def commitCnt (s : State) : Nat := (rd64 s pgLDG 0x1A0).toNat

/-- A DEAD ingot becomes FREE: its number is free again, and its chunks join FREE_CHUNKS (R363, R415). -/
def freeIngot (n : Nat) (x : Ingot) (s : State) : State :=
  let s := { ({ s with ldg := { s.ldg with
      img := { s.ldg.img with
        ingots := Tab.erase s.ldg.img.ingots n
        refs := s.ldg.img.refs.filter fun r => r.1 / 2 ^ 24 != n
        rosters := Tab.erase s.ldg.img.rosters n } } } : State) with ing := { s.ing with
      claims := Tab.erase s.ing.claims n
      badRows := s.ing.badRows.filter fun b => b.1 != n } }
  (x.members.filter fun l => !l.lost && (modOf s l.module).st != .ejected).foldl (fun s l => chunkFree (zoneKey l.module l.zone) s) s

/-- Every DEAD ingot into which no earlier read is in flight becomes FREE (R363). -/
def freeDead (s : State) : State :=
  (s.ldg.img.ingots.filter fun e => decide (e.2.st = .dead) && !readInFlight s e.1 (commitCnt s)).foldl
    (fun s e => freeIngot e.1 e.2 s) s

/-- DEAD ingots become FREE, and chunks past their read fence join FREE_CHUNKS. -/
def settleFences (s : State) : State :=
  let s := freeDead s
  let ready := s.pln.released.filter fun r => !readInFlight s r.2.1 r.2.2
  ready.foldl (fun s r => chunkFree r.1 s)
    { s with pln := { s.pln with released := s.pln.released.filter fun r => readInFlight s r.2.1 r.2.2 } }

/-- Release a chunk of an ingot (R415). -/
def releaseChunk (ingot : Nat) (l : Loc) (s : State) : State :=
  { s with pln := { s.pln with released := s.pln.released ++ [(zoneKey l.module l.zone, ingot, commitCnt s)] } }

/-- A chunk's append has completed (R417): the last one of a zone makes it FULL, after a Zone Finish where its capacity is no whole number of
chunks. A zone that was finished meanwhile counts its chunks already. -/
def chunkDone (l : Loc) (s : State) : State :=
  let k := zoneKey l.module l.zone
  let z := zoneOf s k
  if z.st ≠ .opened ∧ z.st ≠ .closing then s
  else
    let z := { z with done := z.done + 1 }
    if z.st = .closing ∧ z.done = z.next then
      (if (pmodOf s l.module).rest = 0 then reclaim k (zonePut k { z with st := .full } s)
       else emit (.zoneSend l.module l.zone 1) (zonePut k z s))
    else zonePut k z s

/-- After a failed append, and where a granted chunk will never be appended, PLN finishes the zone (R370, R417), unless it is the other head's
by now (R11). -/
def finishZone (l : Loc) (s : State) : State :=
  let k := zoneKey l.module l.zone
  let z := zoneOf s k
  if !ownZone s k || !decide (z.st = .opened ∨ z.st = .closing) then s
  else emit (.zoneSend l.module l.zone 1) (zonePut k { z with st := .closing } s)

/-! The pool and billets (R356 to R358). -/

/-- Pool chunks taken: every ingot not retired, and every rebuild attempt (R358, R389). -/
def poolUsed (s : State) : Nat :=
  (s.ing.cast.map fun c => c.k + c.m).foldl (· + ·) 0 +
  ((s.ing.attempts.filter fun a => !a.move).map fun a => (tableAt s a.ingot).k + (tableAt s a.ingot).m).foldl (· + ·) 0
def poolFree (s : State) : Nat := rdF s pgING 0x104 6 0 * 4 - poolUsed s

/-- ING_STAT's counts follow (R404). -/
def ingStat (s : State) : State :=
  let v := rd s pgING 0x120
  let v := putBits v 23 16 (s.ing.cast.filter (·.casting)).length
  let v := putBits v 15 9 (s.ing.cast.filter fun c => !c.casting).length
  wr pgING 0x120 (putBits v 8 0 (poolFree s)) s

/-- The first FREE table number at or after the cursor (R356). -/
def freeNumber (s : State) : Nat → Nat → Option Nat
  | 0, _ => none
  | f + 1, n =>
    let size := 2 ^ rdF s pgING 0x110 5 0
    if (tableAt s (headId s * 2 ^ 39 + n % size)).st = .free then some (n % size) else freeNumber s f (n + 1)

/-- CAST_STALL clears once nothing waits for a module (R356, R373). -/
def castGoes (s : State) : State :=
  if s.ing.cast.any fun c => !c.failed.isEmpty then s else wrF pgING 0x120 31 31 0 s

/-- Open an ingot (R356, R358): a number, and k + m pool chunks; a table that was full is so no longer. -/
def openIngot (reloc ckpt : Bool) (epoch : Nat) (s : State) : Option State :=
  let k := bits s.ing.geom 21 16
  let m := bits s.ing.geom 2 0
  if poolFree s < k + m then none
  else match freeNumber s (Nat.min (2 ^ rdF s pgING 0x110 5 0) ((ingotNums s).length + 1)) (rd64 s pgING 0x128).toNat with
  | none => none
  | some n =>
    let c : Casting := { ingot := headId s * 2 ^ 39 + n, epoch := epoch, reloc := reloc, ckpt := ckpt, cls := castClass s, k := k, m := m, kk := k }
    some (ingStat (castGoes (wr64 pgING 0x128 (BitVec.ofNat 64 ((n + 1) % 2 ^ rdF s pgING 0x110 5 0))
      { s with ing := { s.ing with cast := s.ing.cast ++ [c] } })))

/-- The table has no FREE entry (R356). -/
def tableFull (s : State) : Bool :=
  (freeNumber s (Nat.min (2 ^ rdF s pgING 0x110 5 0) ((ingotNums s).length + 1)) (rd64 s pgING 0x128).toNat).isNone

/-- The open billet of a holder: its ingot, member and cursor (R184). -/
def billetOf (s : State) (f : Nat) : Option (Casting × Nat × Billet) :=
  s.ing.cast.findSome? fun c => if c.casting then none else
    ((List.range c.billets.length).find? fun i =>
      (c.billets.getD i ⟨0, 0, true⟩).owner == f && !(c.billets.getD i ⟨0, 0, true⟩).closed).map fun i =>
        (c, i, c.billets.getD i ⟨0, 0, true⟩)

/-- Move a billet's cursor on; at 16,384 units it closes (R357). -/
def billetPut (c : Casting) (i : Nat) (b : Billet) (s : State) : State :=
  castingPut { c with billets := c.billets.set i { b with closed := b.closed || decide (16384 ≤ b.cursor) } } s

/-- The open ingot that a holder's next billet comes from: the oldest of its kind with one to grant (R357, R360, R442). -/
def billetSource (s : State) (f epoch : Nat) : Option Casting :=
  s.ing.cast.find? fun c => !c.casting && c.reloc == (f == 16) && c.ckpt == (f == 17) && (decide (16 ≤ f) || c.epoch == epoch) && decide (c.billets.length < c.k)

/-! The stripe journal (R366 to R368, R374). -/

abbrev qSJ : Nat := 0x140000000
abbrev qSJMIRROR : Nat := 0x148000000
def sjSlot (jseq : Nat) : Nat := jseq % 262144

/-- The bytes 0x000 to 0x1EF of an entry (R367). -/
def sjBody (kind head k m jseq ingot cast wmask : Nat) (locs : List Loc) : List Byte :=
  le 1 kind ++ le 1 head ++ le 1 k ++ le 1 m ++ zeros 4 ++ le 8 jseq ++ le 8 ingot ++ le 6 cast ++ zeros 2 ++ le 8 wmask ++
  zeros 24 ++ ((List.range 36).flatMap fun i => le 8 ((locs.map Loc.word).getD i 0)) ++ zeros 144
/-- The 512 bytes of an open entry. -/
def sjBytes (kind head k m jseq ingot cast wmask : Nat) (locs : List Loc) : List Byte :=
  let b := sjBody kind head k m jseq ingot cast wmask locs
  b ++ le 8 (crc64 b).toNat ++ zeros 8

/-- WC is in PAIR (R374). -/
def inPair (s : State) : Bool := !s.wc.single && !s.wc.degraded
def qstDown (s : State) : Bool := pgState s pgQST == stFAULT

/-- Write an entry: `none` while the next slot is not free, or where neither copy can be written (R366, R374). -/
def sjWrite (kind ingot cast wmask : Nat) (x : Ingot) (s : State) : Option (Nat × State) :=
  let j := s.ing.jseq
  if s.ing.sj.any fun e => sjSlot e.jseq == sjSlot j then none
  else if qstDown s ∧ !inPair s then none
  else
    let b := sjBytes kind (headId s) x.k x.m j ingot cast wmask x.members
    let s := if qstDown s then s else qstWrite (qSJ + sjSlot j * 512) b s
    let s := { s with ing := { s.ing with
      jseq := j + 1
      sj := s.ing.sj ++ [⟨j, ingot, kind, !inPair s, 0, b⟩] } }
    some (j, if inPair s then sendW clsJOURNAL 0x11 (sjSlot j) b s else s)

/-- Set the MARK of an entry, in both copies (R368): JSEQ when retired, its complement when abandoned. -/
def sjMark (j : Nat) (retired : Bool) (s : State) : State :=
  let b := le 8 (if retired then j else 2 ^ 64 - 1 - j)
  let s := if qstDown s then s else qstWrite (qSJ + sjSlot j * 512 + 0x1F8) b s
  let s := { s with ing := { s.ing with sj := s.ing.sj.filter fun e => e.jseq != j } }
  if inPair s then sendW clsJOURNAL 0x12 (sjSlot j) b s else s

/-! Casting buffers and appends (R369, R370). -/

/-- Insert by unit. -/
def insertUnit (h : HandIn) : List HandIn → List HandIn
  | [] => [h]
  | x :: t => if bodyUnit h.gloc < bodyUnit x.gloc then h :: x :: t else x :: insertUnit h t

/-- Bytes of a member from bodies in unit order, from byte `at_`; all else is zeros (R186, R359). -/
def layOut (n : Nat) : Nat → List HandIn → List Byte
  | at_, [] => zeros (n - at_)
  | at_, h :: t => zeros (bodyUnit h.gloc * 16 - at_) ++ h.body ++ layOut n (bodyUnit h.gloc * 16 + h.body.length) t

/-- The 256 KiB of data member `i` of a casting buffer. -/
def memberBytes (c : Casting) (i : Nat) : List Byte :=
  layOut 262144 0 (((c.got.filter fun h => h.kind == 1 && bodyMember h.gloc == i)).foldl (fun l h => insertUnit h l) [])

/-- The chunk of member `i`: data, or parity over the k′ data members (R355, R359). -/
def chunkBytes (c : Casting) (i : Nat) : List Byte :=
  if i < c.kk then memberBytes c i
  else parity 262144 ((List.range c.kk).map (memberBytes c)) (i - c.kk)

/-- The bytes an append writes: of the casting buffer, or of an attempt. -/
def appendBytes (s : State) (a : App) : List Byte :=
  match castingOf s a.ingot with
  | some c => chunkBytes c a.member
  | none => match s.ing.attempts.find? fun x => x.ingot == a.ingot with
    | some x => x.data.getD (x.set.idxOf a.member) []
    | none => []

/-- The first append that may be issued: its entry is written, no other append to its zone is outstanding or stands before it in JSEQ order (R369,
R370), and the zone is this head's, on a port it holds (R11, R12). An append whose entry an AMEND has replaced goes on. -/
def nextAppend (s : State) : Option App :=
  s.ing.appends.find? fun a => !a.issued && ownZone s (zoneKey a.loc.module a.loc.zone) && mayUse s a.loc.module &&
    (s.ing.sj.all fun e => e.jseq != a.jseq || e.written) &&
    !(s.ing.appends.any fun b => b.loc.module == a.loc.module && b.loc.zone == a.loc.zone && (b.issued || decide (b.jseq < a.jseq)))

/-- Issue every append that may be issued; none once a quench has begun (R375). -/
def issueAppends : Nat → State → State
  | 0, s => s
  | f + 1, s =>
    if inQ s then s else
    match nextAppend s with
    | none => s
    | some a =>
      let bs := appendBytes s a
      let s := { s with ing := { s.ing with appends := s.ing.appends.map fun b => if b = a then { b with issued := true } else b } }
      let m := modOf s a.loc.module
      let s := modPut a.loc.module { m with asked := some (m.asked.getD s.time) } s
      issueAppends f (emit (.append a.loc.module a.loc.zone (a.loc.chunk * 64) bs) s)
def issueAll (s : State) : State := issueAppends s.ing.appends.length s

/-- An append has been answered: the module's age starts again. -/
def dropAppend (a : App) (s : State) : State :=
  let s := { s with ing := { s.ing with appends := s.ing.appends.erase a } }
  let m := modOf s a.loc.module
  if s.ing.appends.any fun b => b.issued && b.loc.module == a.loc.module then s
  else modPut a.loc.module { m with asked := none } s

/-! Items to the ledger. -/

/-- Pass an item to LDG. -/
def toLedger (i : LItem) (s : State) : State := { s with ldg := { s.ldg with inbox := s.ldg.inbox ++ [i] } }
/-- An item of the epoch that is open when it is accepted (R786). -/
def openItem (i : JItem) : LItem := { epoch := none, item := i }

end Sys2Proof.Machine
end

