-- ==== Sys2Proof/Machine/PageMap.lean ====
section
/-! DEFINITION. Metadata pages (spec/11_flash_translation.md): their identities and places (R443 to R445), the layouts of what they
hold (R82, R361, R414, R427), and their bodies (R441). -/

namespace Sys2Proof.Machine

/-! Identities (R443). -/

/-- The ten kinds of page, each with what its KEY names. -/
inductive PageId where
  | ingots (n : Nat)
  | node (level n : Nat)
  | zones (module group : Nat)
  | dir (ns page : Nat)
  | leaf (ns range : Nat)
  | roster (ingot page : Nat)
  | retained (ns id page : Nat)
  | slag (page : Nat)
  | index (page : Nat)
  | snaps (page : Nat)
deriving DecidableEq, Repr

def PageId.type : PageId → Nat
  | .ingots _ => 1 | .node .. => 2 | .zones .. => 3 | .dir .. => 4 | .leaf .. => 5 | .roster .. => 6 | .retained .. => 7
  | .slag _ => 8 | .index _ => 9 | .snaps _ => 10
def PageId.key : PageId → Nat
  | .ingots n => n
  | .node l n => l * 2 ^ 48 + n
  | .zones m g => m * 2 ^ 32 + g
  | .dir ns p => ns * 2 ^ 32 + p
  | .leaf ns r => ns * 2 ^ 32 + r
  | .roster n p => n * 2 ^ 16 + p
  | .retained ns id p => ns * 2 ^ 42 + id * 2 ^ 26 + p
  | .slag p => p
  | .index p => p
  | .snaps p => p
/-- The PID: TYPE in bits 63:56, KEY in bits 55:0. -/
def PageId.pid (p : PageId) : Nat := p.type * 2 ^ 56 + p.key % 2 ^ 56
/-- The page that a PID names. -/
def PageId.ofPid (w : Nat) : Option PageId :=
  let k := w % 2 ^ 56
  match w / 2 ^ 56 with
  | 1 => some (.ingots k)
  | 2 => some (.node (k / 2 ^ 48) (k % 2 ^ 48))
  | 3 => some (.zones (k / 2 ^ 32) (k % 2 ^ 32))
  | 4 => some (.dir (k / 2 ^ 32) (k % 2 ^ 32))
  | 5 => some (.leaf (k / 2 ^ 32) (k % 2 ^ 32))
  | 6 => some (.roster (k / 2 ^ 16) (k % 2 ^ 16))
  | 7 => some (.retained (k / 2 ^ 42) (k / 2 ^ 26 % 2 ^ 16) (k % 2 ^ 26))
  | 8 => some (.slag k)
  | 9 => some (.index k)
  | 10 => some (.snaps k)
  | _ => none
/-- Spine pages: the ingot table and the page map. -/
def PageId.spine : PageId → Bool
  | .ingots _ | .node .. => true
  | _ => false

/-! Places (R444, R445). -/

/-- A PLOC: MODULE in bits 63:56, PAGE in 55:50, CHUNK in 47:32, ZONE in 31:0. -/
def ploc (l : Loc) (page : Nat) : W64 :=
  BitVec.ofNat 64 (l.module % 256 * 2 ^ 56 + page % 64 * 2 ^ 50 + l.chunk % 2 ^ 16 * 2 ^ 32 + l.zone % 2 ^ 32)
/-- The zone a PLOC lies in. -/
def plocZone (w : W64) : Nat := zoneKey (w.toNat / 2 ^ 56) (w.toNat % 2 ^ 32)
/-- Page bodies to a spine chunk. -/
abbrev spinePer : Nat := 63

/-- The 32 bytes of a page-map entry. -/
def PageEnt.bytes (e : PageEnt) : List Byte :=
  le 8 e.loc0.toNat ++ le 8 e.loc1.toNat ++ le 8 e.loc2.toNat ++ le 4 e.crc.toNat ++ le 4 (e.gen % 2 ^ 32)

def nodeKey (level n : Nat) : Nat := level * 2 ^ 64 + n
/-- Entry `i` of a node: of a page at level 0, else of a node one level down. -/
def PageTree.entry (t : PageTree) (level n i : Nat) : PageEnt :=
  if level = 0 then Tab.getD t.pages {} (n * 128 + i) else Tab.getD t.nodes {} (nodeKey (level - 1) (n * 128 + i))
/-- The level of the root node. -/
abbrev rootLevel : Nat := 9
/-- The root node's entry, as the CKPT record holds it (R447). -/
def PageTree.root (t : PageTree) : PageEnt := Tab.getD t.nodes {} (nodeKey rootLevel 0)

/-- Where a page lies: an ingot-borne one by its GLOC, a leaf through PAGE_LOC (R82). -/
def PageTree.locOf (t : PageTree) (p : PageId) : Option W64 :=
  match p with
  | .leaf ns r => (Tab.find? t.leaves (ns * 2 ^ 27 + r)).map (·.1)
  | .ingots _ | .node .. => none
  | q => (Tab.find? t.pages q.pid).map (·.loc0)
/-- A spine page's entry. -/
def PageTree.spineOf (t : PageTree) (pid : Nat) : Option PageEnt :=
  match PageId.ofPid pid with
  | some (.ingots _) => Tab.find? t.pages pid
  | some (.node ..) => (List.find? (fun (e : Nat × PageEnt) => (PageId.node (e.1 / 2 ^ 64) (e.1 % 2 ^ 64)).pid == pid) t.nodes).map (·.2)
  | _ => none
/-- An ingot-borne page lies at a locator: it starts on a 16-unit boundary, raw (R442). -/
def PageTree.isAt (t : PageTree) (pid : Nat) (loc : W64) : Bool :=
  match PageId.ofPid pid with
  | some p => t.locOf p == some loc && glocOffset loc % 16 == 0 && glocCodec loc == 0
  | none => false

/-! Layouts. -/

/-- The 512 bytes of an ingot-table entry (R361). -/
def Ingot.bytes (n : Nat) (x : Ingot) : List Byte :=
  let b := le 5 n ++ le 1 x.st.code ++ le 1 x.k ++ le 1 x.m ++ le 6 x.cast ++ le 1 x.flags ++ le 1 x.lostN ++ le 4 x.dead16 ++ zeros 4 ++
    le 8 x.slagRows ++ zeros 32 ++ ((List.range 36).flatMap fun i => le 8 ((x.members.map Loc.word).getD i 0)) ++ zeros 152
  b ++ le 8 (crc64 b).toNat

/-- LIVE16 and AREA16 of a zone over an ingot table (R414, R416): sums over the ingots with a chunk in it. -/
def zoneSums (t : Tab Ingot) (k : Nat) : Nat × Nat :=
  (t.map (·.2)).foldl (fun a x =>
    let n := (x.members.filter fun l => zoneKey l.module l.zone == k && !l.lost).length
    (a.1 + n * liveUnits x, a.2 + n * (x.k * 16384))) (0, 0)

/-- The value of a zone's state. -/
def ZSt.code : ZSt → Nat
  | .empty => 0 | .opened => 1 | .closing => 2 | .full => 3 | .reclaim => 4 | .resetting => 5 | .offline => 6
/-- ZSTATE: LOST on an ejected module, PARTNER in the other head's half (R414). -/
def zstate (s : State) (k : Nat) (z : Zone) : Nat :=
  if (modOf s (k / 2 ^ 32)).st = .ejected then 8 else if ownZone s k then z.st.code else 7
/-- The 32 bytes of a zone-table entry (R414). -/
def Zone.bytes (s : State) (t : Tab Ingot) (k : Nat) (z : Zone) : List Byte :=
  let u := zoneSums t k
  le 4 (k % 2 ^ 32) ++ le 1 (k / 2 ^ 32) ++ le 1 (zstate s k z) ++ le 1 (b2n z.spine + 2 * b2n z.adopted + 4 * b2n z.worn) ++
  le 1 (if ownZone s k then headId s else 1 - headId s) ++ le 4 z.resets ++ le 2 (capOf s k) ++ le 2 z.next ++ le 2 z.done ++ le 2 z.free ++
  le 6 u.1 ++ le 6 u.2

/-- The 16 bytes of a directory entry (R82): PRESENT with a stored leaf page, INHERIT while a clone reads the range from its parent. -/
def pageDirEntry (i : Image) (t : PageTree) (ns r : Nat) : List Byte :=
  let inherit := (cloneOf i ns).isSome && !i.cleared.contains (ns * 2 ^ 27 + r)
  match Tab.find? t.leaves (ns * 2 ^ 27 + r) with
  | some x => le 8 x.1.toNat ++ le 6 x.2 ++ le 2 (1 + 2 * b2n inherit)
  | none => zeros 14 ++ le 2 (2 * b2n inherit)

/-- The 16 bytes of a roster record (R427); COUNT is the reference count of R86, DOMAIN that of the namespace. -/
def RosterRec.bytes (s : State) (i : Image) (n : Nat) : RosterRec → List Byte
  | .body ns len16 off => le 1 1 ++ le 1 (nsOf s ns).domain ++ le 2 len16 ++ le 4 off ++
      le 4 (((List.find? (fun (r : Nat × Nat) => r.1 / 16 == n * 2 ^ 20 + off) i.refs).map (·.2)).getD 0) ++ zeros 4
  | .referer ns g off => le 1 2 ++ zeros 1 ++ le 2 ns ++ le 4 off ++ le 8 g
  | .page pid off => le 1 3 ++ zeros 3 ++ le 4 off ++ le 8 pid
/-- A roster page: the header, and up to 255 records (R427). -/
def rosterPageBytes (s : State) (i : Image) (n p : Nat) : List Byte :=
  let rs := ((Tab.getD i.rosters {} n).recs.drop (255 * p)).take 255
  le 5 n ++ zeros 1 ++ le 2 rs.length ++ zeros 8 ++ rs.flatMap (RosterRec.bytes s i n)

/-! What a checkpoint writes. -/

/-- The tables that pages are formed from. -/
structure PageSrc where
  img : Image
  idx : Tab (List IdxEnt)
  zones : Tab Zone
  tree : PageTree

/-- Retained entries, and snapshots, that the model puts into one page: the spec states no layout for these pages. -/
abbrev loosePer : Nat := 128

/-- What a page holds, but for an index page's header. -/
def PageSrc.data (s : State) (v : PageSrc) : PageId → List Byte
  | .ingots n => (List.range 8).flatMap fun i => Ingot.bytes (8 * n + i) (Tab.getD v.img.ingots {} (8 * n + i))
  | .node l n => (List.range 128).flatMap fun i => (v.tree.entry l n i).bytes
  | .zones m g => (List.range 128).flatMap fun i =>
      let k := zoneKey m (128 * g + i)
      (Tab.getD v.zones {} k).bytes s v.img.ingots k
  | .dir ns p => (List.range 256).flatMap fun i => pageDirEntry v.img v.tree ns (256 * p + i)
  | .leaf ns r => (List.range 256).flatMap fun i => (Tab.getD v.img.map {} (mapKey ns (256 * r + i))).bytes
  | .roster n p => rosterPageBytes s v.img n p
  | .retained ns id p => (((retainedOf v.img ns id).drop (loosePer * p)).take loosePer).flatMap fun e => le 8 e.1 ++ e.2.bytes
  | .slag p => ((v.img.slag.drop (256 * p)).take 256).flatMap SlagEntry.bytes
  | .index p => (Tab.getD v.idx [] p).flatMap IdxEnt.bytes
  | .snaps p => ((v.img.snaps.drop (loosePer * p)).take loosePer).flatMap (fun x => le 2 x.ns ++ le 2 x.id ++ le 6 x.epoch) ++
      ((v.img.clones.drop (loosePer * p)).take loosePer).flatMap fun c => le 2 c.ns ++ le 2 c.parent ++ le 2 c.snap

/-- The 4,096 bytes of a page written in a generation. How a retention-table or a catalogue page lays out what it holds, no rule says. -/
def PageSrc.plain (s : State) (v : PageSrc) (gen : Nat) (p : PageId) : List Byte :=
  let b := match p with
    | .index n => idxPageBytes (Tab.getD v.idx [] n) gen n
    | .retained .. | .snaps _ => Config.pageLayout p.pid (v.data s p)
    | q => v.data s q
  (b ++ zeros 4096).take 4096

/-- Pages that `n` things take, `per` to a page. -/
def pagesFor (per n : Nat) : List Nat := List.range ((n + per - 1) / per)

/-- The leaves of an image. -/
def leafIds (i : Image) : List (Nat × Nat) := (i.map.map fun e => (e.1 / 2 ^ 35, e.1 % 2 ^ 35 / 256)).dedup
/-- The directory pages of an image: those that lead to a leaf, and all of a clone. -/
def dirIds (s : State) (i : Image) : List (Nat × Nat) :=
  List.dedup (List.map (fun (x : Nat × Nat) => (x.1, x.2 / 256)) (leafIds i) ++ List.flatMap (fun (c : Clone) =>
    (pagesFor 65536 (Nat.max (nsOf s c.ns).grains.toNat (nsOf s c.parent).grains.toNat)).map fun p => (c.ns, p)) i.clones)

/-- The ingot-borne pages that the tables give, the leaves first and the directories last. -/
def PageSrc.pages (s : State) (v : PageSrc) : List PageId :=
  (leafIds v.img).map (fun x => .leaf x.1 x.2) ++
  v.img.rosters.flatMap (fun e => (pagesFor 255 e.2.recs.length).map (PageId.roster e.1)) ++
  v.img.snaps.flatMap (fun x => (pagesFor loosePer (retainedOf v.img x.ns x.id).length).map (PageId.retained x.ns x.id)) ++
  (pagesFor 256 v.img.slag.length).map .slag ++
  v.idx.map (fun e => .index e.1) ++
  (v.zones.map fun e => (e.1 / 2 ^ 32, e.1 % 2 ^ 32 / 128)).dedup.map (fun x => .zones x.1 x.2) ++
  (pagesFor loosePer (Nat.max v.img.snaps.length v.img.clones.length)).map .snaps ++
  (dirIds s v.img).map fun x => .dir x.1 x.2
/-- The ingot-table pages. -/
def tableIds (i : Image) : List Nat := (i.ingots.map fun e => e.1 / 8).dedup

/-! Bodies (R441). -/

/-- The key slot of CKPT_SLOT, where it holds an XTS key. -/
def ckptKey (s : State) : Option KSlot :=
  let k := slotK s (rdF s pgPLN 0x160 11 0)
  if k.loaded && k.cls == kcXTS then some k else none

/-- The body of a page: the XTS ciphertext under a tweak, then the trailer in clear: PID, CKPT_GEN, CRC-32C. -/
def sealPage (s : State) (tweak pid gen : Nat) (pt : List Byte) : Option (List Byte) :=
  (ckptKey s).map fun k =>
    let t := le 8 pid ++ le 4 (gen % 2 ^ 32)
    xtsUnit true k.key tweak pt ++ t ++ le 4 (crc32c (pt ++ t)).toNat

/-- The plaintext of a page body, its trailer verified. -/
def openPage (s : State) (tweak pid : Nat) (body : List Byte) : Option (List Byte) :=
  (ckptKey s).bind fun k =>
    let pt := xtsUnit false k.key tweak (slice body 0 4096)
    let t := slice body 4096 16
    if body.length == 4112 && field t 0 8 == pid && field t 12 4 == (crc32c (pt ++ t.take 12)).toNat then some pt else none

end Sys2Proof.Machine
end

