-- ==== Sys2Proof/Machine/ForgeCore.lean ====
section
/-! DEFINITION. The stages of a forge: intake, lookup, speculation, seal, hand-in (spec/05_forges.md). -/

namespace Sys2Proof.Machine

/-! Hand-ins (R191, R201). -/

abbrev hiBODY : Nat := 1
abbrev hiREF : Nat := 2
abbrev hiZERO : Nat := 3
abbrev hiSLAG : Nat := 4
abbrev hiCULL : Nat := 5

/-- Holders of billets past the forges: Anneal, and the checkpoint writer. Both hand in through the ANL → ING queue (R442). -/
abbrev hoANL : Nat := 16
abbrev hoCKPT : Nat := 17
/-- The hand-in queue of a holder. -/
def queueOfHolder (f : Nat) : Nat := Nat.min f 16

/-- Put a hand-in on a holder's queue to ING, and count a forge's. -/
def handIn (f : Nat) (h : HandIn) (s : State) : State :=
  let q := queueOfHolder f
  let s := { s with frg := { s.frg with outs := Tab.put s.frg.outs q (Tab.getD s.frg.outs [] q ++ [h]) } }
  let p := pgFRG + f
  if 16 ≤ f then s
  else
    let s := if h.kind = hiCULL then s else bump64 p 0x110 1 s
    if h.kind = hiBODY then bump64 p 0x130 h.len16 (bump64 p 0x120 1 s)
    else if h.kind = hiREF then bump64 p 0x118 1 s
    else if h.kind = hiZERO then bump64 p 0x128 1 s
    else if h.kind = hiSLAG then event p 2 (pw h.ns) (bump p 0x14C 1 s)
    else bump64 p 0x138 h.len16 s

/-- The hand-in of a grain: its namespace, grain and epoch. -/
def grainIn (f kind : Nat) (g : FGrain) : HandIn :=
  { kind := kind, forge := f, ns := g.h.ns, grain := g.h.grain, epoch := g.h.epoch }

/-- Hand in the rest of a billet as a CULL and close it (R184, R195). -/
def cullBillet (f : Nat) (s : State) : State :=
  match billetOf s f with
  | none => s
  | some (c, i, b) =>
    let s := billetPut c i { b with closed := true, cursor := 16384 } s
    if b.cursor < 16384 then
      handIn f { kind := hiCULL, forge := if 16 ≤ f then 0xFF else f, epoch := c.epoch, len16 := 16384 - b.cursor
                 gloc := gloc c.ingot (i * 16384 + b.cursor) 0 } s
    else s

/-- Take a reservation of `n` units from a holder's billet (R184); a billet it does not fit is given up. -/
def reserve (f n codec : Nat) (s : State) : Option W64 × State :=
  match billetOf s f with
  | none => (none, s)
  | some (c, i, b) =>
    if b.cursor + n ≤ 16384 then
      (some (gloc c.ingot (i * 16384 + b.cursor) codec), billetPut c i { b with cursor := b.cursor + n } s)
    else (none, cullBillet f s)

/-! Settings. -/

/-- DOM_CFG in force for a domain (R193). -/
def domLive (s : State) (d : Nat) : W32 := Tab.getD s.frg.domLive 0x01E00065#32 d
/-- A setting in force: its bit, and its feature on the forge. -/
def domSet (s : State) (f d b feat : Nat) : Bool := bit (domLive s d) b && live s (pgFRG + f) feat
def dedupOn (s : State) (f d : Nat) : Bool := domSet s f d 0 0
def verifyOn (s : State) (f d : Nat) : Bool := domSet s f d 1 2
def zeroOn (s : State) (f d : Nat) : Bool := domSet s f d 2 3
/-- The codec in force; one whose feature is not live stores raw (R193). -/
def codecOn (s : State) (f d : Nat) : Nat :=
  match bits (domLive s d) 5 4 with
  | 1 => if live s (pgFRG + f) 4 then 1 else 0
  | 2 => if live s (pgFRG + f) 5 then 2 else 0
  | _ => 0

/-! Intake (R167 to R171, R189). -/

/-- The PI image (R169): type 1 with its reference tags 0, type 3 as landed. -/
def piImage (pif : Nat) (pi : List Byte) : List Byte :=
  let n := pifBytes pif
  if n = 0 then []
  else if pif / 4 % 4 = 1 then
    (List.range 2).flatMap fun i => if n = 8 then slice pi (8 * i) 4 ++ zeros 4 else slice pi (16 * i) 10 ++ zeros 6
  else slice pi 0 (2 * n)

/-- The payload of a grain and its codec, and whether Crucible answered OK_RAW (R189, R244): the compressed stream where it fits
RAW_LIMIT16, padded to units, else the data. -/
def shrink (s : State) (f d : Nat) (data : List Byte) : List Byte × Nat × Bool :=
  let c := codecOn s f d
  if c = 0 then (data, 0, false)
  else
    let o := Config.codec { decode := false, codec := c, level := bits (domLive s d) 7 6, wlog := 13, zcheck := false, fcs := true
                            first := true, last := true, coder := [], hist := [], src := data, cap := bits (domLive s d) 24 16 * 16 }
    if o.more then (data, 0, true) else (pad16 o.output, c, false)

/-- Give a grain up as SLAG (R167): its copies are bad. -/
def slagGrainIn (f : Nat) (g : FGrain) (s : State) : State :=
  handIn f (grainIn f hiSLAG g) (grainDrop f g.h.seq (dropPending f g s))

/-- Lookups outstanding at Assay (R166). -/
def FGrain.asking (g : FGrain) : Bool :=
  match g.look with
  | .asked | .page | .pend | .gone => true
  | _ => false
/-- Post lookups that wait while fewer than 32 are outstanding (R166). -/
def postLooks (f : Nat) : Nat → State → State
  | 0, s => s
  | n + 1, s =>
    if 32 ≤ ((fwinOf s f).filter (·.asking)).length then s
    else match (fwinOf s f).find? fun g => decide (g.look = .queued) with
      | none => s
      | some g => postLooks f n (grainPut f { g with look := .asked } s)

/-! Seals (R183, R187, R188). -/

/-- Grains sealing or sealed without an index answer. -/
def specCount (s : State) (f : Nat) : Nat := ((fwinOf s f).filter (·.spec)).length
/-- SPEC_SEAL_MAX, 0 where SPEC_SEAL is not live. -/
def specMax (s : State) (f : Nat) : Nat := if live s (pgFRG + f) 1 then rdF s (pgFRG + f) 0x100 6 0 else 0

/-- The PENDING entry of a grain takes its GLOC and LEN16 (R178). -/
def fillPending (f : Nat) (g : FGrain) (s : State) : State :=
  match g.inserted, g.gloc with
  | true, some a => match idxFind s g.fp (ownsEnt f g) with
    | some (p, e) => idxSet p e { e with gloc := a, len16 := g.len16 } s
    | none => s
  | _, _ => s

/-- Tinning answers a seal with no key (R188): the grain waits. -/
def keyHold (f : Nat) (g : FGrain) (status : Nat) (s : State) : State :=
  hallmark 0x1103 f [pw g.h.domain, pw status] (event (pgFRG + f) 3 (pw g.h.domain)
    (grainPut f { g with sealing := .keyWait } s))

/-- The forge's Tinning unit takes the next grain that waits for it, when it seals none (R187, R188, R274). -/
def trySeals (f : Nat) : Nat → State → State
  | 0, s => s
  | n + 1, s =>
    if (fwinOf s f).any fun g => match g.sealing with | .running _ => true | _ => false then s
    else match (fwinOf s f).find? fun g => g.sealing == .asked with
      | none => s
      | some g =>
        if b2n ((glocIngot (g.gloc.getD 0)).testBit 39) ≠ headId s then recordFault pgTIN 0x82 0 s
        else match sealUse g.h.domain g.h.epoch f s with
          | (none, s) => s
          | (some (.granted _, k), s) => grainPut f { g with sealing := .running k } s
          | (some (.exhausted, _), s) => trySeals f n (keyHold f g stsKEY_EXHAUSTED s)
          | (some (.empty, _), s) => trySeals f n (keyHold f g stsKEY_SLOT_EMPTY s)

/-- A grain whose seal is to start takes its reservation and queues for the unit; without a billet it waits (R183,
R184). A mismatch found by verify is recorded with the locator of the new body (R194, R203). -/
def startSeal (f : Nat) (g : FGrain) (s : State) : State :=
  match reserve f g.len16 g.codec s with
  | (some a, s) =>
    let s := match g.differs with
      | some old => hallmark 0x1102 f (pw2 old.toNat ++ pw2 a.toNat) s
      | none => s
    let g := { g with gloc := some a, sealing := .asked, differs := none }
    fillPending f g (grainPut f g s)
  | (none, s) => grainPut f { g with sealing := .billet } s

/-- The grain is settled as a miss: its seal starts where it has not, and a sealed body is handed in (R183, R191). -/
def settleMiss (f : Nat) (g : FGrain) (s : State) : State :=
  match g.sealing with
  | .off => startSeal f g (grainPut f g s)
  | .done body =>
    handIn f { grainIn f hiBODY g with
      len16 := g.len16
      gloc := g.gloc.getD 0
      body := body
      fp := some (g.fp, g.h.domain, g.h.pif % 4)
      replaces := g.replaces } (grainDrop f g.h.seq s)
  | _ => grainPut f g s

/-- The grain is a confirmed hit (R185): its output is discarded, its reservation culled, a REF handed in. -/
def settleHit (f : Nat) (g : FGrain) (found : W64) (len16 : Nat) (s : State) : State :=
  let s := { s with tin := { s.tin with
      reqs := if g.sealing = .asked then s.tin.reqs.filter fun r => r.2.1 != f else s.tin.reqs
      grants := if g.sealing = .asked then Tab.erase s.tin.grants f else s.tin.grants } }
  let s := bump (pgFRG + f) 0x140 1 s
  let s := match g.gloc with
    | some a => handIn f { kind := hiCULL, forge := f, epoch := g.h.epoch, gloc := a, len16 := g.len16 } s
    | none => s
  handIn f { grainIn f hiREF g with gloc := found, len16 := len16 } (grainDrop f g.h.seq (dropPending f g s))

/-- The forge is draining: FRG_STAT.DRAIN (R195). -/
def frgDraining (s : State) (f : Nat) : Bool := bit (rd s (pgFRG + f) 0x104) 5

/-- After any change: post lookups, start what waits for a billet, feed the unit, FRG_STAT; a drained forge hands in the
rest of its billet (R195). -/
def frgTurn (f : Nat) (s : State) : State :=
  let n := (fwinOf s f).length
  let s := postLooks f n s
  let s := frgStat f (trySeals f (n + 1) s)
  if frgDraining s f && (fwinOf s f).isEmpty then cullBillet f s else s

/-! Lookups (R175 to R182). -/

/-- Resident index pages held by CACHE_GIB (R202). -/
def idxCache (s : State) : Nat := rdF s pgFRG 0x200 4 0 * 2 ^ 18
/-- A page becomes resident, read from its checkpointed copy the first time (R789); the cache keeps the latest. -/
def keepPage (p : Nat) (s : State) : State :=
  let s := idxLoad p s
  { s with frg := { s.frg with resident := (p :: s.frg.resident.filter (· != p)).take (idxCache s) } }
/-- A page that no checkpoint has written reads as empty and needs no fetch (R789). -/
def pageThere (s : State) (p : Nat) : Bool := s.frg.resident.contains p || (Tab.find? s.frg.idxCkpt p).isNone
def pagesThere (s : State) (fp : List Byte) : Bool := pageThere s (idxPages s fp).1 && pageThere s (idxPages s fp).2

/-- The entry's ingot shows it live (R175, R365). -/
def entLive (s : State) (e : IdxEnt) : Bool :=
  let x := ingotAt s (glocIngot e.gloc)
  x.st.holds && x.cast == e.cast && !slagRebuilt x e.gloc e.len16

/-- The entry with the oldest CAST of some that are neither PENDING nor MOVING. -/
def oldestEnt (es : List IdxEnt) : Option IdxEnt :=
  (es.filter fun e => !e.pending && !e.moving).foldl (fun (b : Option IdxEnt) e => match b with
    | none => some e
    | some x => if e.cast < x.cast then some e else some x) none

/-- Insert a PENDING entry for a grain (R178); the flag says whether one was inserted. -/
def insertPending (f : Nat) (g : FGrain) (s : State) : Bool × State :=
  let (a, b) := idxPages s g.fp
  let na := (idxPage s a).length
  let nb := (idxPage s b).length
  let e := ({ fp := g.fp, gloc := g.gloc.getD 0, cast := 0, domain := g.h.domain, pisz := g.h.pif % 4, pending := true, moving := false
              len16 := if g.gloc.isSome then g.len16 else 0, owner := f * 256 + g.h.seq } : IdxEnt).sealed
  if na < 63 ∨ nb < 63 then
    let p := if na ≤ nb then a else b
    (true, idxPut p (idxPage s p ++ [e]) s)
  else match oldestEnt (idxPage s a ++ idxPage s b) with
    | none => (false, bump pgFRG 0x248 1 s)
    | some x =>
      let p := if (idxPage s a).contains x then a else b
      let s := bump pgFRG 0x238 1 (idxDrop p x s)
      (true, idxPut p (idxPage s p ++ [e]) s)

/-- A miss that settles that no match is stored: the prediction is judged, a PENDING entry goes in (R173, R178). -/
def missSettled (f : Nat) (g : FGrain) (insert : Bool) (s : State) : State :=
  let s := if g.pred then fltDrop g.fp g.h.domain (g.h.pif % 4) (bump pgFRG 0x240 1 s) else s
  let r := if insert then insertPending f g s else (false, s)
  settleMiss f { g with look := .miss, inserted := r.1 } r.2

/-- A CANDIDATE that is stored as a miss (R173, R194): nothing is inserted, and its read is given up. -/
def verifyMiss (f : Nat) (g : FGrain) (s : State) : State := missSettled f g false (dropVerify f g.h.seq s)

/-- A confirmed hit: the working count rises, the filter is refreshed, a wrong prediction counts (R173, R175). -/
def hitSettled (f : Nat) (g : FGrain) (e : IdxEnt) (s : State) : State :=
  let s := if g.pred then s else bump pgFRG 0x244 1 s
  settleHit f g e.gloc e.len16 (fltFill g.fp g.h.domain (g.h.pif % 4) (workUp (glocBody e.gloc).toNat s))

/-- The entry that matches a grain. -/
def matchEnt (s : State) (g : FGrain) : Option (Nat × IdxEnt) :=
  idxFind s g.fp fun e => e.fp == g.fp && e.domain == g.h.domain && e.pisz == g.h.pif % 4

/-- A reference that would pass the limit of R86 is refused: counted and listed. -/
def refRefused (a : W64) (s : State) : State := hallmark 0x1607 0 (pw2 a.toNat) (bump pgLDG 0x1A8 1 s)

/-- An entry whose CHK, ingot or count fails is stale: it is removed and counted (R176). -/
def staleEnt (s : State) (e : IdxEnt) : Bool := !e.chkOk || !entLive s e || workingCount s (glocBody e.gloc).toNat == 0
def dropStale (p : Nat) (e : IdxEnt) (s : State) : State := bump pgFRG 0x23C 1 (idxDrop p e s)

/-- Evaluate a lookup whose pages are resident (R175 to R180, R194). Once the drain has begun no verify is waited for (R195). -/
def evalLook (f : Nat) (g : FGrain) (s : State) : State :=
  match matchEnt s g with
  | none => missSettled f g true s
  | some (p, e) =>
    if e.pending then grainPut f { g with look := .pend } s
    else if e.moving then settleMiss f { g with look := .late } s
    else if staleEnt s e then missSettled f g true (dropStale p e s)
    else if refMax ≤ workingCount s (glocBody e.gloc).toNat then
      missSettled f { g with replaces := some e.gloc } false (refRefused e.gloc s)
    else if verifyOn s f g.h.domain then
      (if frgDraining s f then verifyMiss f g s else grainPut f { g with look := .cand e.gloc e.len16 } s)
    else hitSettled f g e s

/-- A lookup meets the index: a page that is not resident is fetched first (R182), or once the drain has begun not waited for (R195). -/
def askIndex (f : Nat) (g : FGrain) (s : State) : State :=
  if pagesThere s g.fp then
    evalLook f g (keepPage (idxPages s g.fp).1 (keepPage (idxPages s g.fp).2 s))
  else if frgDraining s f then settleMiss f { g with look := .late } (bump (pgFRG + f) 0x144 1 s)
  else grainPut f { g with look := .page } s

/-- Every grain that waits on a PENDING entry of a fingerprint is evaluated again (R179). -/
def wakePending (fp : List Byte) (s : State) : State :=
  (List.range 16).foldl (fun s f =>
    ((fwinOf s f).filter fun g => g.look == .pend && g.fp == fp).foldl (fun s g =>
      frgTurn f (match grainFind s f g.h.seq with
        | some g => if g.look = .pend then evalLook f g s else s
        | none => s)) s) s

/-- The end of intake with a good copy (R167 to R171, R183): zero test, fingerprint, payload; then a lookup, and a seal on a
predicted miss. -/
def intakeGood (f : Nat) (g : FGrain) (data pi : List Byte) (s : State) : State :=
  let d := g.h.domain
  let img := piImage g.h.pif pi
  let zero := (slotOf s (slotAt s g.h.slot)).zeroed || (zeroOn s f d && img.isEmpty && data.all (· == 0))
  if zero then handIn f (grainIn f hiZERO g) (grainDrop f g.h.seq s)
  else
    let (pl, c, raw) := shrink s f d data
    let s := if raw then bump (pgFRG + f) 0x158 1 s else s
    let fp := Alg.sha256.hash (data ++ img)
    let g := { g with read := true, refetch := false, data := data, pi := img, fp := fp, payload := pl, codec := c }
    if rd64 s pgFRG 0x208 = 0 ∨ !dedupOn s f d then settleMiss f { g with look := .miss } s
    else
      let pred := (fltFind s fp d (g.h.pif % 4)).isSome
      let g := { g with look := .queued, pred := pred }
      let spec := !pred && decide (specCount s f < specMax s f)
      let s := grainPut f g s
      if spec then startSeal f g s else s

end Sys2Proof.Machine
end

