-- ==== Sys2Proof/Machine/ReadCore.lean ====
section
/-! DEFINITION. The stages of a drawplate: serving a grain from a slot, the read cache or a body, reconstruction, and what
a finished grain does to its command (spec/12_read_path.md). -/

namespace Sys2Proof.Machine

/-- The drawplate takes requests: RUN, and no quench has begun (R482). -/
def drawing (s : State) (n : Nat) : Bool := running s (pgDRP + n) && !inQ s && !bit (rd s (pgDRP + n) 0x104) 0

/-! Requests (R467). -/

abbrev rkREAD : Nat := 1
abbrev rkVERIFY : Nat := 2
abbrev rkCOMPARE : Nat := 3
abbrev rkVERIFY_HIT : Nat := 5

def RReq.same (r q : RReq) : Bool := r.drp == q.drp && r.a == q.a && r.b == q.b && r.grain == q.grain
/-- A request held by a drawplate. -/
def reqFind (s : State) (n a b grain : Nat) : Option RReq :=
  s.drp.reqs.find? fun r => r.drp == n && r.a == a && r.b == b && r.grain == grain
def reqPut (r : RReq) (s : State) : State :=
  drpStat r.drp (ungate (pgDRP + r.drp) { s with drp := { s.drp with reqs := (s.drp.reqs.filter fun q => !r.same q) ++ [r] } })
/-- A request is done: its read fence may clear (R415). -/
def reqDrop (r : RReq) (s : State) : State :=
  settleFences (drpStat r.drp { s with drp := { s.drp with reqs := s.drp.reqs.filter fun q => !r.same q } })

/-! What a finished grain does to its command (R476). -/

/-- The order of statuses in R476: the lower place wins. -/
def readRank (st : Nat) : Nat := [scINTERNAL, scUNRECOVERED, 0x282, 0x283, 0x284, scCOMPARE].idxOf st
/-- The status of a command after one more grain. -/
def worse (a b : Nat) : Nat := if a = 0 then b else if b = 0 then a else if readRank b < readRank a then b else a

/-- A grain of a read is done with a status: its binding is dropped; the last one completes the command (R463, R476). -/
def grainDone (qp cid grain st : Nat) (s : State) : State :=
  match cmdFind s qp cid with
  | none => s
  | some c =>
    let s := unbind { c with binds := c.binds.filter fun b => b.1 == grain } s
    let c := { c with binds := c.binds.filter (fun b => b.1 != grain), status := worse c.status st }
    let s := cmdPut c s
    if c.binds.isEmpty then hqFinish qp cid c.status s else s

/-! Serving blocks. -/

/-- PI of block `n` of a grain for its own logical block: type-1 reference tags are formed from the LBA (R169, R469). -/
def blockPi (x : Ns) (grain n : Nat) (pi : List Byte) : List Byte :=
  let b := x.piBytes
  let p := slice pi (n * b) b
  if x.piType = 1 then
    let w := if b = 8 then 4 else 6
    p.take (b - w) ++ be w (2 * grain + n)
  else p

/-- The blocks of a grain that a command wants, checked (R144) and, for a Read, handed to the host, for a Compare compared.
`check` is false for zeros with escape values (R466). Answers the status. -/
def serveBlocks (kind : Nat) (c : Cmd) (grain : Nat) (data : List Byte) (pis : Nat → List Byte) (check : Bool) (s : State) :
    Nat × State :=
  let x := nsOf s c.ns
  (List.range 2).foldl (fun (a : Nat × State) n =>
    if !c.covers grain n then a
    else
      let d := slice data (n * 4096) 4096
      let p := pis n
      let i := 2 * grain + n - c.slba
      let chk := if check && x.piBytes != 0 then piCheck x c i d p else 0
      let s := if chk = 0 then a.2 else piFailed c.ns (2 * grain + n) chk a.2
      let st := if chk = 0 then 0 else scPi chk
      let wire := d ++ (if c.pract then [] else p)
      if kind = rkREAD then (worse a.1 st, hostWrite c (i * c.wireBlock s) wire s)
      else if kind = rkCOMPARE ∧ st = 0 ∧ slice c.icd (i * c.wireBlock s) wire.length ≠ wire then (worse a.1 scCOMPARE, s)
      else (worse a.1 st, s)) (0, s)

/-- A grain that fails with Unrecovered Read Error (R473, R488). -/
def grainLost (n : Nat) (r : RReq) (cause : Nat) (s : State) : State :=
  let s := hallmark 0x1202 n ([pw r.ns] ++ pw2 r.grain ++ pw2 r.entry.gloc.toNat ++ [pw cause]) (bump (pgDRP + n) 0x154 1 s)
  let s := reqDrop r s
  if r.kind = rkVERIFY_HIT then
    { s with drp := { s.drp with answers := Tab.put s.drp.answers (r.a * 256 + r.b) none } }
  else grainDone r.a r.b r.grain scUNRECOVERED s

/-- Zeros for a grain without data (R465, R466). -/
def serveZero (n : Nat) (r : RReq) (s : State) : State :=
  match cmdFind s r.a r.b with
  | none => reqDrop r s
  | some c =>
    let x := nsOf s c.ns
    let z := zeros 4096
    let ref := if x.piBytes = 8 then 2 ^ 32 - 1 else 2 ^ 48 - 1
    let o := serveBlocks r.kind c r.grain (zeros 8192) (fun _ => piMake x.piBytes ref 0xFFFF z) false s
    grainDone r.a r.b r.grain o.1 (reqDrop r (bump64 (pgDRP + n) 0x110 1 o.2))

/-! The read cache (R478 to R481). -/

/-- Sets of the read cache; 0 without RCACHE live on DRP_0 (R478, R484). -/
def rcSets (s : State) : Nat := if live s pgDRP 1 then rdF s pgDRP 0x210 24 16 * 2 ^ 30 / 8320 / 16 else 0
def rcSet (s : State) (g : W64) : Nat := (crc32c (le 8 g.toNat)).toNat % rcSets s
/-- Replace the cache; RC_STAT follows. -/
def rcPut (t : Tab RcEnt) (s : State) : State := wr pgDRP 0x218 (pw t.length) { s with drp := { s.drp with cache := t } }
/-- The way that holds a locator. -/
def rcFind (s : State) (g : W64) : Option (Nat × RcEnt) :=
  if rcSets s = 0 then none
  else (List.range 16).findSome? fun w => match Tab.find? s.drp.cache (rcSet s g * 16 + w) with
    | some e => if e.gloc = g then some (rcSet s g * 16 + w, e) else none
    | none => none
/-- The address of an entry, by set × 16 + way (R478). -/
def rcAddr (s : State) (k : Nat) : Nat := (rd64 s pgDRP 0x208).toNat + k * 8320
/-- The 8,320 bytes of an entry: data, PI image, 32 reserved bytes and the header. The places of the header's fields are the model's
choice (log entry 205). -/
def rcBytes (g : W64) (cast len16 : Nat) (data pi : List Byte) : List Byte :=
  let image := slice pi 0 32
  let head := le 8 g.toNat ++ le 8 cast ++ le 2 len16 ++ zeros 38 ++ le 4 (crc32c (data ++ image)).toNat
  data ++ image ++ zeros 32 ++ head ++ le 4 (crc32c head).toNat
/-- The bytes of an entry serve a body: its GLOC, the CAST of the ingot, no SLAG row, and both CRC-32C values verify (R480). -/
def rcServes (s : State) (b : List Byte) (x : MapEntry) : Bool :=
  let i := ingotAt s (glocIngot x.gloc)
  field b 8256 8 == x.gloc.toNat && field b 8264 8 == i.cast && !slagRebuilt i x.gloc x.len16 &&
  field b 8312 4 == (crc32c (slice b 0 8224)).toNat && field b 8316 4 == (crc32c (slice b 8256 60)).toNat
/-- Look a body up: the data and PI image of the entry that serves it; one that does not is dropped. -/
def rcLookup (x : MapEntry) (s : State) : Option (List Byte × List Byte) × State :=
  match rcFind s x.gloc with
  | none => (none, s)
  | some (k, e) =>
    let b := memRead s (rcAddr s k) 8320
    if rcServes s b x then
      (some (slice b 0 8192, slice b 8192 32), { s with drp := { s.drp with cache := Tab.put s.drp.cache k { e with used := true } } })
    else (none, bump pgDRP 0x228 1 (rcPut (Tab.erase s.drp.cache k) s))
/-- The way a set's clock gives up: the first at or after the hand not used since; marks it passes are cleared. -/
def rcVictim (s : State) (set : Nat) : Nat → Nat → Tab RcEnt → Nat × Tab RcEnt
  | 0, h, t => (h, t)
  | f + 1, h, t => match Tab.find? t (set * 16 + h) with
    | some e => if e.used then rcVictim s set f ((h + 1) % 16) (Tab.put t (set * 16 + h) { e with used := false }) else (h, t)
    | none => (h, t)
/-- Write an entry at a place of the cache. -/
def rcStore (k : Nat) (t : Tab RcEnt) (x : MapEntry) (data pi : List Byte) (s : State) : State :=
  memWrite (rcAddr s k) (rcBytes x.gloc (ingotAt s (glocIngot x.gloc)).cast x.len16 data pi) (rcPut (Tab.put t k ⟨x.gloc, true⟩) s)
/-- Insert a body's plaintext. -/
def rcInsert (x : MapEntry) (data pi : List Byte) (s : State) : State :=
  let set := rcSet s x.gloc
  let s := bump pgDRP 0x220 1 s
  match (List.range 16).find? fun w => (Tab.find? s.drp.cache (set * 16 + w)).isNone with
  | some w => rcStore (set * 16 + w) s.drp.cache x data pi s
  | none =>
    let (w, t) := rcVictim s set 17 (Tab.getD s.drp.hand 0 set) s.drp.cache
    rcStore (set * 16 + w) t x data pi (bump pgDRP 0x224 1
      { s with drp := { s.drp with hand := Tab.put s.drp.hand set ((w + 1) % 16) } })
/-- A HOST_READ miss served from flash is inserted as the policy says (R479). -/
def rcMiss (x : MapEntry) (data pi : List Byte) (s : State) : State :=
  if rcSets s = 0 then s
  else match rdF s pgDRP 0x210 1 0 with
  | 1 => rcInsert x data pi s
  | 2 =>
    let b := (crc32c (le 8 x.gloc.toNat)).toNat % 2 ^ 20
    if s.drp.missed.contains b then rcInsert x data pi s else { s with drp := { s.drp with missed := b :: s.drp.missed } }
  | _ => s

/-! Opening a body (R469). -/

/-- Causes of 0x1201. -/
abbrev rcDETOUR : Nat := 1
abbrev rcTAG : Nat := 2
abbrev rcDECODE : Nat := 3
abbrev rcCRC : Nat := 4
abbrev rcERROR : Nat := 5
abbrev rcLOST : Nat := 6

/-- What opening and decompressing a body yields. -/
inductive BodyRead where
  | good (data pi : List Byte)
  | bad (cause : Nat)
  | noKey
deriving DecidableEq, Repr

/-- Decompress a payload (R247). -/
def unshrink (codec : Nat) (pl : List Byte) : Option (List Byte) :=
  if codec = 0 then (if pl.length = 8192 then some pl else none)
  else
    let o := Config.codec { decode := true, codec := codec, level := 0, wlog := 13, zcheck := false, fcs := false, first := true
                            last := true, coder := [], hist := [], src := pl, cap := 8192 }
    if o.error.isNone && !o.more && o.ended && o.output.length == 8192 then some o.output else none

/-- Open a body of a namespace's grain with unit 16 + n and decompress it: tag and decoder failures are counted (R247, R279,
R296). -/
def openGrain (n : Nat) (r : RReq) (body : List Byte) (s : State) : BodyRead × State :=
  let g := r.entry.gloc
  let x := nsOf s r.ns
  let cast := (ingotAt s (glocIngot g)).cast
  let (o, older) := openBody s x.domain g r.entry.len16 cast body
  let s := if older then bump pgTIN 0x180 1 s else s
  match o with
  | .noKey => (.noKey, s)
  | .tagFail =>
    (.bad rcTAG, hallmark 0x1504 0 ([pw (16 + n)] ++ pw2 g.toNat) (bump pgTIN 0x170 1 (bump (pgDRP + n) 0x144 1 s)))
  | .ok pt =>
    let sz := 2 * x.piBytes
    match unshrink (glocCodec g) (pt.take (pt.length - sz)) with
    | some d => (.good d (pt.drop (pt.length - sz)), s)
    | none => (.bad rcDECODE, hallmark 0x1404 0 ([pw n] ++ pw2 g.toNat) (bump pgCRU 0x13C 1 (bump (pgDRP + n) 0x148 1 s)))

/-- The bytes of a body within the rows read. -/
def bodyOf (r : RReq) (rows : List Byte) : List Byte :=
  slice rows (bodyUnit r.entry.gloc % 256 * 16) (r.entry.len16 * 16)

/-- Hand a good grain on by its kind: to the host, to the comparer, or to the forge. `none` where a PI check fails (R469). -/
def serveBody (n : Nat) (r : RReq) (data pi : List Byte) (cached : Bool) (s : State) : Option State :=
  let p := pgDRP + n
  if r.kind = rkVERIFY_HIT then
    some (reqDrop r { s with drp := { s.drp with answers := Tab.put s.drp.answers (r.a * 256 + r.b) (some (data, pi)) } })
  else match cmdFind s r.a r.b with
    | none => some (reqDrop r s)
    | some c =>
      let x := nsOf s c.ns
      let o := serveBlocks r.kind c r.grain data (fun k => blockPi x r.grain k pi) true s
      if o.1 ≠ 0 ∧ o.1 ≠ scCOMPARE then none
      else
        let s := bump64 p (if cached then 0x120 else 0x128) 1 (bump64 p 0x110 1 o.2)
        some (grainDone r.a r.b r.grain o.1 (reqDrop r s))

/-- A failed PI check of a body counts (R469, R486); the state in which its PI_FAIL and 0x1004 are recorded too. -/
def piBad (n : Nat) (r : RReq) (data pi : List Byte) (s : State) : State :=
  let s := bump (pgDRP + n) 0x14C 1 s
  match cmdFind s r.a r.b with
  | none => s
  | some c => (serveBlocks rkVERIFY c r.grain data (fun k => blockPi (nsOf s c.ns) r.grain k pi) true s).2

/-! Reconstruction (R471 to R473). -/

/-- The members that can answer for another, data first, then parity in ascending order (R472). -/
def helpers (s : State) (x : Ingot) (i : Nat) : List Nat :=
  (List.range x.members.length).filter fun j =>
    j != i && !(x.members.getD j {}).lost && (modOf s (x.members.getD j {}).module).st != .ejected

/-- ING is told of a member that returned a failing body, tag or unit, with its rows (R473). -/
def reportMember (r : RReq) (s : State) : State :=
  let x := ingotAt s (glocIngot r.entry.gloc)
  let i := bodyMember r.entry.gloc
  let m := (x.members.getD i {}).module
  let rows := (List.range (bodyRows r.entry.gloc r.entry.len16)).map fun k => (glocIngot r.entry.gloc, i, bodyRow r.entry.gloc + k)
  let s := modPut m { modOf s m with readErr := min ((modOf s m).readErr + 1) 0xFFFFFFFF } s
  { s with ing := { s.ing with badRows := s.ing.badRows ++ rows.filter fun b => !s.ing.badRows.contains b } }

/-- File an ingot in SEAL (R385). -/
def fileSeal (n : Nat) (s : State) : State :=
  if (s.ing.queues.getD 0 []).contains n then s
  else { s with ing := { s.ing with queues := s.ing.queues.set 0 (s.ing.queues.getD 0 [] ++ [n]) } }

/-- Ask modules for the rows of a body from some members. -/
def askRows (x : Ingot) (r : RReq) (ms : List Nat) (s : State) : State :=
  ms.foldl (fun s j =>
    let l := x.members.getD j {}
    let m := modOf s l.module
    let s := modPut l.module { m with asked := some (m.asked.getD s.time) } s
    emit (.flashRead l.module l.zone (l.chunk * 64 + bodyRow r.entry.gloc) (bodyRows r.entry.gloc r.entry.len16)) s) s

/-- The record of a reconstruction: outcome 1 REBUILT, 2 FAILED (R488). -/
def reconEnd (n : Nat) (r : RReq) (cause outcome : Nat) (s : State) : State :=
  hallmark 0x1201 n (pw2 r.entry.gloc.toNat ++ [pw cause, pw outcome]) s

/-- Start reconstruction of a grain for a cause; without RECONSTRUCT live the grain fails (R471 to R473). -/
def startRecon (n : Nat) (r : RReq) (cause : Nat) (s : State) : State :=
  let x := ingotAt s (glocIngot r.entry.gloc)
  let s := if cause = rcDETOUR ∨ cause = rcLOST then s else reportMember r s
  if !live s (pgDRP + n) 0 then grainLost n r cause s
  else
    let hs := helpers s x (bodyMember r.entry.gloc)
    let s := bump (pgDRP + n) 0x140 1 s
    if slagRebuilt x r.entry.gloc r.entry.len16 then grainLost n r 0x0A (reconEnd n r cause 2 s)
    else if hs.length < x.k then grainLost n r 0x09 (reconEnd n r cause 2 (fileSeal (glocIngot r.entry.gloc) s))
    else askRows x r (hs.take x.k) (reqPut { r with recon := some cause, asked := hs.take x.k } s)

/-- The opened rows of a member that answered for itself: hand on, or reconstruct (R469, R471). -/
def openAndServe (n : Nat) (r : RReq) (rows : List Byte) (s : State) : State :=
  match openGrain n r (bodyOf r rows) s with
  | (.noKey, s) => grainLost n r 0x0E s
  | (.bad cause, s) => startRecon n r cause s
  | (.good d pi, s) =>
    match serveBody n r d pi false s with
    | none => startRecon n r rcCRC (piBad n r d pi s)
    | some t =>
      if r.kind = rkREAD then rcMiss r.entry d pi t else t

/-- A body from the casting buffer of an ingot OPEN or CASTING (R194, R477). -/
def castBody (s : State) (g : W64) : Option (List Byte) :=
  (castingOf s (glocIngot g)).bind fun c => (c.got.find? fun h => h.kind == hiBODY && glocBody h.gloc == glocBody g).map (·.body)

/-- A body is read from its member, or reconstructed at once where the member cannot serve (R468, R471). -/
def readMember (n : Nat) (r : RReq) (s : State) : State :=
  let g := r.entry.gloc
  let x := ingotAt s (glocIngot g)
  let l := x.members.getD (bodyMember g) {}
  let m := modOf s l.module
  if slagRebuilt x g r.entry.len16 then grainLost n r 0x0A s
  else if l.lost ∨ m.st = .ejected ∨ (m.st = .slowHeld ∧ x.lostN < x.m) then startRecon n r rcLOST s
  else askRows x r [bodyMember g] (reqPut r s)

/-- A resolved map entry decides (R465): zeros, errors, the read cache, then flash. -/
def serveEntry (n : Nat) (r : RReq) (s : State) : State :=
  let e := r.entry
  if !e.mapped && e.zero then grainLost n r 0x08 s
  else if !e.mapped || e.zero then serveZero n r s
  else if glocSlag e.gloc then grainLost n r 0x07 s
  else match rcLookup e s with
    | (some (d, pi), s) => match serveBody n r d pi true s with
      | some t => t
      | none => readMember n r (piBad n r d pi s)
    | (none, s) => readMember n r s

end Sys2Proof.Machine
end

