-- ==== Sys2Proof/Machine/ReadPath.lean ====
section
/-! DEFINITION. Commands of the drawplates (spec/12_read_path.md). -/

namespace Sys2Proof.Machine

/-! Slots (R470). -/

/-- The wanted blocks of eight KiB of data agree with the header's DCRCs. -/
def blocksOk (c : Cmd) (grain : Nat) (x : Slot) (data : List Byte) : Bool :=
  (!c.covers grain 0 || crc32c (slice data 0 4096) == x.dcrc0) && (!c.covers grain 1 || crc32c (slice data 4096 4096) == x.dcrc1)

/-- A wanted block is not in the slot: it waits for FILL (R320). -/
def lacksBlock (c : Cmd) (grain : Nat) (x : Slot) : Bool := (c.covers grain 0 && !x.lo) || (c.covers grain 1 && !x.hi)

/-- Serve a grain from a good copy of a slot. -/
def serveCopy (n : Nat) (r : RReq) (c : Cmd) (data pi : List Byte) (s : State) : State :=
  let b := (nsOf s c.ns).piBytes
  let o := serveBlocks r.kind c r.grain data (fun k => slice pi (k * b) b) true s
  let s := if o.1 = 0 ∨ o.1 = scCOMPARE then o.2 else bump (pgDRP + n) 0x14C 1 o.2
  grainDone r.a r.b r.grain o.1 (reqDrop r (bump64 (pgDRP + n) 0x118 1 (bump64 (pgDRP + n) 0x110 1 s)))

/-- Both copies of a slot are bad: the slot is LOST (R312, R470). -/
def slotCopiesBad (n : Nat) (r : RReq) (i : Nat) (s : State) : State := grainLost n r 0x0D (loseSlot i s)

/-- A bound slot serves a grain; a bad copy is read again from the partner or the quench image (R470). -/
def serveSlot (n : Nat) (r : RReq) (c : Cmd) (i : Nat) (s : State) : State :=
  let x := slotOf s i
  let a := ownAddr s i
  let waiting := ((reqFind s n r.a r.b r.grain).map (·.fetch)).getD false
  if x.lost then grainLost n r 0x0D s
  else if lacksBlock c r.grain x then reqPut r s
  else if !waiting && blocksOk c r.grain x (slotData s a) then serveCopy n r c (slotData s a) (slotPi s a x.pif) s
  else
    let s := if waiting then s else bump (pgDRP + n) 0x14C 1 s
    if s.wc.single then
      let d := qstRead s (i * 0x2000) 8192
      if blocksOk c r.grain x d then serveCopy n r c d (qstRead s (qDIR + i * 0x80 + 0x28) 32) s else slotCopiesBad n r i s
    else match Tab.find? s.frg.copies i with
      | some o =>
        let s := { s with frg := { s.frg with copies := Tab.erase s.frg.copies i } }
        (match o with
        | some b => if blocksOk c r.grain x (b.take 8192) then serveCopy n r c (b.take 8192) (b.drop 8192) s else slotCopiesBad n r i s
        | none => slotCopiesBad n r i s)
      | none =>
        if waiting then s
        else if live s pgWDL 3 && linkUp s then sendW clsFETCH 0x41 i [] (reqPut { r with fetch := true } s)
        else slotCopiesBad n r i s

/-- Requests that a drawplate holds, of 64 at most (R486). -/
def drpHeld (s : State) (n : Nat) : Nat := (s.drp.reqs.filter fun r => r.drp == n).length
/-- The drawplate HQ dispatches a grain to: in RUN, the one with the most free credits, the lower number on a tie; none while every
queue is full. -/
def pickDrp (s : State) : Option Nat :=
  ((List.range 16).filter fun n => running s (pgDRP + n)).foldl (fun (b : Option Nat) n => match b with
    | none => if drpHeld s n < 64 then some n else none
    | some x => if drpHeld s n < drpHeld s x then some n else some x) none

/-- A grain of a command at a drawplate (R463, R465, R467). A Compare waits for its data to have landed. -/
def hostGrain (kind op n qp cid grain : Nat) (s : State) : State :=
  match cmdFind s qp cid with
  | none => s
  | some c =>
    let held := s.drp.reqs.find? fun r => r.a == qp && r.b == cid && r.grain == grain && r.kind == kind
    if isAdmin s c || c.opcode != op || !drawing s n || decide (c.st ≠ .executing) || !c.bound then s
    else if kind = rkCOMPARE ∧ c.got < c.declared s then s
    else if held.isNone && pickDrp s != some n then s
    else match c.binds.find? fun b => b.1 == grain with
      | none => s
      | some (_, .slot i) =>
        if (held.map fun r => r.drp != n).getD false then s
        else serveSlot n ⟨n, kind, qp, cid, c.ns, grain, {}, commitCnt s, none, [], [], false⟩ c i s
      | some (_, .map e cnt) =>
        if held.isSome then s
        else serveEntry n ⟨n, kind, qp, cid, c.ns, grain, e, cnt, none, [], [], false⟩ s
      | some (_, .zero) => serveZero n ⟨n, kind, qp, cid, c.ns, grain, {}, commitCnt s, none, [], [], false⟩ s

/-- HOST_READ (R469): a drawplate takes one grain of a Read. -/
def execHostRead (drp qp cid grain : Nat) (s : State) : Outcome := .next (hostGrain rkREAD opREAD drp qp cid grain s)
/-- HOST_VERIFY (R477): of a Verify, without handing data to XPT. -/
def execHostVerify (drp qp cid grain : Nat) (s : State) : Outcome := .next (hostGrain rkVERIFY opVERIFY drp qp cid grain s)
/-- HOST_COMPARE (R477): of a Compare. -/
def execHostCompare (drp qp cid grain : Nat) (s : State) : Outcome := .next (hostGrain rkCOMPARE opCOMPARE drp qp cid grain s)

/-- VERIFY_HIT (R194, R477): a forge's CANDIDATE at the drawplate of its own number; a grain still in a casting buffer is served
from it. -/
def execVerifyHit (forge seq : Nat) (s : State) : Outcome :=
  .next (match grainFind s forge seq with
    | none => s
    | some g => match g.look with
      | .cand a len16 =>
        if !drawing s forge || (reqFind s forge forge seq g.h.grain).isSome || (Tab.find? s.drp.answers (forge * 256 + seq)).isSome then s
        else
          let r : RReq := ⟨forge, rkVERIFY_HIT, forge, seq, g.h.ns, g.h.grain, { gloc := a, len16 := len16, mapped := true }, commitCnt s, none, [], [], false⟩
          match castBody s a with
          | some b => match openGrain forge r b s with
            | (.good d pi, s) => { s with drp := { s.drp with answers := Tab.put s.drp.answers (forge * 256 + seq) (some (d, pi)) } }
            | (_, s) => { s with drp := { s.drp with answers := Tab.put s.drp.answers (forge * 256 + seq) none } }
          | none => readMember forge r s
      | _ => s)

/-- PAGE (R441, R442, R464): a drawplate reads a page body at the GLOC where the page map, or PAGE_LOC, has it and decrypts it into DDR-5; one that is unreadable (`none`) or fails
its trailer is read again through reconstruction, which yields `again`. -/
def execPage (drp dst pid : Nat) (loc : W64) (body again : Option (List Byte)) (s : State) : Outcome :=
  let tweak := loc.toNat / 16 * 16
  let p := pgDRP + drp
  .next (if !drawing s drp || !s.pln.tree.isAt pid loc then s
    else match body.bind (openPage s tweak pid) with
      | some pt => memWrite dst pt s
      | none =>
        let cause := if body.isNone then rcERROR else rcCRC
        if !live s p 0 then
          hallmark 0x1202 drp ([0] ++ pw2 0 ++ pw2 loc.toNat ++ [pw cause]) (bump p 0x154 1 s)
        else
          let s := reportMember ⟨drp, 6, 0, 0, 0, 0, { gloc := loc, len16 := 257 }, 0, none, [], [], false⟩ (bump p 0x140 1 s)
          match again.bind (openPage s tweak pid) with
          | some pt => hallmark 0x1201 drp (pw2 loc.toNat ++ [pw cause, 1]) (memWrite dst pt s)
          | none =>
            hallmark 0x1202 drp ([0] ++ pw2 0 ++ pw2 loc.toNat ++ [0x0B])
              (hallmark 0x1201 drp (pw2 loc.toNat ++ [pw cause, 2]) (bump p 0x154 1 s)))

/-- A member has answered: its age starts again. -/
def answered (m : Nat) (s : State) : State := modPut m { modOf s m with asked := none } s

/-- MEMBER_READ_DONE (R468, R469): the rows of a member arrive (`none`: an error or an unreadable unit); the body is opened and served,
or reconstructed. -/
def execMemberReadDone (drp a b grain : Nat) (rows : Option (List Byte)) (s : State) : Outcome :=
  .next (match reqFind s drp a b grain with
    | none => s
    | some r =>
      if r.recon.isSome ∨ r.entry.gloc = 0 then s
      else
        let s := answered ((ingotAt s (glocIngot r.entry.gloc)).members.getD (bodyMember r.entry.gloc) {}).module s
        match rows with
        | none => startRecon drp r rcERROR s
        | some bs => openAndServe drp r bs s)

/-- RECONSTRUCT_READS_DONE (R472, R473): the members that answered, with their rows; for one that fails, or reaches the detour threshold,
the next unused member is asked. Once k′ have answered, the failing member's rows are decoded and the body is opened again. -/
def execReconstructReadsDone (drp a b grain : Nat) (answers : List (Nat × List Byte)) (s : State) : Outcome :=
  .next (match reqFind s drp a b grain with
    | none => s
    | some r => match r.recon with
      | none => s
      | some cause =>
        let x := ingotAt s (glocIngot r.entry.gloc)
        let i := bodyMember r.entry.gloc
        let n := bodyRows r.entry.gloc r.entry.len16 * 4096
        let open_ := r.asked.filter fun j => !(r.got.map (·.1)).contains j
        let ok := r.got ++ answers.filter fun y => open_.contains y.1 && y.2.length == n
        let s := open_.foldl (fun s j => answered (x.members.getD j {}).module s) s
        let more := ((helpers s x i).filter fun j => !r.asked.contains j).take (x.k - ok.length)
        if ok.length + more.length < x.k then
          grainLost drp r 0x09 (reconEnd drp r cause 2 (fileSeal (glocIngot r.entry.gloc) s))
        else if ok.length < x.k then
          askRows x r more (reqPut { r with asked := ok.map (·.1) ++ more, got := ok } s)
        else match openGrain drp r (bodyOf r (rsDecode x.k i n ok)) s with
          | (.good d pi, s) => match serveBody drp r d pi false s with
            | some t =>
              let t := reconEnd drp r cause 1 t
              if r.kind = rkREAD then rcMiss r.entry d pi t else t
            | none => grainLost drp r 0x0B (reconEnd drp r cause 2 (piBad drp r d pi s))
          | (.noKey, s) => grainLost drp r 0x0E (reconEnd drp r cause 2 s)
          | (.bad _, s) => grainLost drp r 0x0B (reconEnd drp r cause 2 s))

/-- Some drawplate is in RUN. -/
def anyDrp (s : State) : Bool := (List.range 16).any fun n => running s (pgDRP + n)

/-- READ_LIMIT_EXPIRY (R475, R483): a grain has not been delivered within READ_LIMIT_MS: Unrecovered Read Error where a drawplate holds
it, Internal Error where none has taken it. -/
def execReadLimitExpiry (qp cid grain : Nat) (s : State) : Outcome :=
  .next (match s.drp.reqs.find? fun r => r.a == qp && r.b == cid && r.grain == grain && r.kind != rkVERIFY_HIT with
    | some r =>
      let k := if r.recon.isSome then r.asked.length - r.got.length else if r.entry.gloc = 0 then 0 else 1
      let s := hallmark 0x1204 r.drp ([pw r.ns] ++ pw2 r.grain ++ [pw k]) (bump (pgDRP + r.drp) 0x158 1 s)
      grainLost r.drp r 0x0C s
    | none => match cmdFind s qp cid with
      | some c =>
        if c.isRead && !isAdmin s c && c.bound && c.binds.any (fun b => b.1 == grain) && !anyDrp s then
          grainDone qp cid grain scINTERNAL s else s
      | none => s)

/-- RC_FILTER_CLEAR (R479): every 1 s the second-miss filter is cleared. -/
def execRcFilterClear (s : State) : Outcome := .next { s with drp := { s.drp with missed := [] } }

/-- RC_CLEAR (R481): RC_CTRL.CLEAR drops every entry. -/
def execRcClear (value : W32) (s : State) : Outcome :=
  .next (atRegister 0 pgDRP 0x214 (fun s =>
    let s := commandWrite pgDRP 0x214 value s
    if bit value 0 then rcPut [] s else s) s)

end Sys2Proof.Machine
end

