-- ==== Sys2Proof/Machine/Checkpoint.lean ====
section
/-! DEFINITION. The checkpoint writer (spec/11_flash_translation.md, R441 to R449): which pages a checkpoint writes, page bodies on
their way into checkpoint ingots, spine chunks, what a checkpoint supersedes. -/

namespace Sys2Proof.Machine

/-! The tables as they were last written, and as they stand. -/

/-- The tables as the last complete checkpoint wrote them. -/
def srcOld (s : State) : PageSrc := ⟨s.ldg.ckpt.img, s.frg.idxCkpt, s.pln.zoneCkpt, s.pln.tree⟩
/-- The tables of an image, with index and zone table as they stand; index pages not read since chip reset are as checkpointed (R789). -/
def srcNow (s : State) (img : Image) : PageSrc :=
  ⟨img, s.frg.idx.foldl (fun t p => Tab.put t p.1 p.2) s.frg.idxCkpt, s.pln.zones, s.pln.tree⟩

/-- The page is on flash. -/
def PageTree.has (t : PageTree) (p : PageId) : Bool := (t.locOf p).isSome || (t.spineOf p.pid).isSome
/-- The three zones of a spine page. -/
def PageEnt.zones (e : PageEnt) : List Nat := [plocZone e.loc0, plocZone e.loc1, plocZone e.loc2]
/-- A spine page has a copy on a WORN zone or a READ_ONLY module (R448). -/
def mustLeave (s : State) (e : PageEnt) : Bool :=
  e.zones.any fun k => (zoneOf s k).worn || decide ((pmodOf s (k / 2 ^ 32)).st = .readOnly)

/-- The page is changed since it was written, or is to be written elsewhere (R446, R448, R449). -/
def marked (s : State) (img : Image) (p : PageId) : Bool :=
  !s.pln.tree.has p || s.pln.remark.contains p.pid || (srcOld s).data s p != (srcNow s img).data s p

/-- A directory page leads to a leaf among some pages. -/
def leadsTo (ps : List PageId) (ns d : Nat) : Bool :=
  ps.any fun q => match q with | .leaf n r => n == ns && r / 256 == d | _ => false

/-- The writer of a checkpoint that begins (R446 step 1): the marked ingot-borne pages, the directories after the leaves; pages that no longer
exist are superseded. -/
def ckptWriter (s : State) (img : Image) (gen : Nat) : CkptWriter :=
  let v := srcNow s img
  let ps := v.pages s
  let ms := ps.filter (marked s img)
  let flat := ms.filter fun p => match p with | .dir .. => false | _ => true
  let dirs := ps.filter fun p => match p with | .dir ns d => ms.contains p || leadsTo ms ns d | _ => false
  let pids := ps.map PageId.pid
  let keep := fun (e : Nat × PageEnt) => match PageId.ofPid e.1 with | some p => p.spine || pids.contains e.1 | none => false
  let keepLeaf := fun (e : Nat × W64 × Nat) => ps.contains (.leaf (e.1 / 2 ^ 27) (e.1 % 2 ^ 27))
  let t := s.pln.tree
  { left := flat.map (fun p => (p.pid, v.plain s gen p)) ++ dirs.map fun p => (p.pid, [])
    table := (tableIds img).filter fun n =>
      marked s img (.ingots n) || ((Tab.find? t.pages (PageId.ingots n).pid).map (mustLeave s)).getD false
    zones := s.pln.zones
    idx := v.idx
    tree := { pages := t.pages.filter keep, nodes := t.nodes, leaves := t.leaves.filter keepLeaf }
    wrote := (t.pages.filter fun e => !keep e).map (·.1)
    dead := (t.pages.filter fun e => !keep e).map (fun e => e.2.loc0) ++ (t.leaves.filter fun e => !keepLeaf e).map fun e => e.2.1 }

/-! Ingot-borne pages (R442, R446 step 2). -/

/-- A page lies at a new place. -/
def PageTree.place (p : PageId) (a : W64) (birth : Nat) (crc : W32) (gen : Nat) (t : PageTree) : PageTree :=
  match p with
  | .leaf ns r => { t with leaves := Tab.put t.leaves (ns * 2 ^ 27 + r) (a, birth) }
  | q => { t with pages := Tab.put t.pages q.pid { loc0 := a, crc := crc, gen := gen } }

/-- CKPT_STAT: RUNNING, the step of R446, and how much of the pages is written in %. -/
def ckptStat (step : Nat) (w : CkptWriter) (s : State) : State :=
  let n := w.wrote.length
  wr pgPLN 0x164 (BitVec.ofNat 32 (2 ^ 31 + step * 2 ^ 24 + n * 100 / Nat.max 1 (n + w.left.length))) s

/-- The writer places its next page on a 16-unit boundary of its billet, encrypts it on RING_7 under CKPT_SLOT and hands its body in; the
units it skips are a CULL. A billet that it does not fit is given up. -/
def ckptPost (s : State) : State :=
  match s.pln.writer, s.ldg.running, billetOf s hoCKPT with
  | some w, some c, some (k, i, b) =>
    match w.left with
    | [] => s
    | (pid, data) :: t =>
      let gap := (16 - b.cursor % 16) % 16
      if !alive s pgPLN then s
      else if 16384 < b.cursor + gap + 257 then cullBillet hoCKPT s
      else match PageId.ofPid pid with
        | none => s
        | some p =>
          let gen := s.ldg.ckptGen + 1
          let a := gloc k.ingot (i * 16384 + b.cursor + gap) 0
          let pt := match p with
            | .dir .. => PageSrc.plain s ⟨c.img, w.idx, w.zones, w.tree⟩ gen p
            | _ => data
          match sealPage s (a.toNat / 16 * 16) pid gen pt with
          | none => s
          | some body =>
            let s := billetPut k i { b with cursor := b.cursor + gap + 257 } s
            let s := if gap = 0 then s
              else handIn hoCKPT { kind := hiCULL, forge := 0xFF, epoch := k.epoch, len16 := gap, gloc := gloc k.ingot (i * 16384 + b.cursor) 0 } s
            let s := handIn hoCKPT { kind := hiBODY, forge := 0xFF, epoch := k.epoch, gloc := a, len16 := 257, body := body, page := some pid } s
            let w := { w with
              left := t
              tree := w.tree.place p a k.epoch (crc32c pt) gen
              wrote := w.wrote ++ [pid]
              dead := w.dead ++ (w.tree.locOf p).toList
              ingots := if w.ingots.contains k.ingot then w.ingots else w.ingots ++ [k.ingot] }
            ckptStat 2 w { s with pln := { s.pln with writer := some w } }
  | _, _, _ => s

/-- Pages of a running checkpoint are still to be written, to be taken by ING, or to be retired (R446). -/
def ckptOpen (s : State) (w : CkptWriter) : Bool :=
  !w.left.isEmpty || (s.ing.cast.any fun c => c.ckpt) || (s.frg.outs.any fun q => q.2.any fun h => h.page.isSome)

/-! The spine (R444, R446 steps 3 and 4). -/

/-- The zone of a module that its next spine chunk comes from: the own OPEN spine zone, else the own EMPTY zone with the lowest RESETS. -/
def spineZone (s : State) (m : Nat) : Option Nat :=
  let zs := ownZones s m
  match zs.find? fun z => decide (z.2.st = .opened) && z.2.spine with
  | some z => some z.1
  | none => ((emptyZones zs).foldl (fun (b : Option (Nat × Zone)) z => match b with
      | none => some z
      | some y => if z.2.resets < y.2.resets then some z else some y) none).map (·.1)
/-- Three modules of CAST_CLASS that take the copies of a spine chunk. -/
def spineMods (s : State) : List Nat :=
  ((classMods s (castClass s)).filter fun m => decide ((modOf s m).st = .active) && mayUse s m && (spineZone s m).isSome).take 3

/-- Grant a spine chunk on a module; its zone is FULL with its last chunk. -/
def grantSpine (m : Nat) (s : State) : Loc × State :=
  match spineZone s m with
  | none => ({}, s)
  | some k =>
    let z := zoneOf s k
    ({ module := m, chunk := z.next, zone := k % 2 ^ 32 },
      zonePut k { z with spine := true, next := z.next + 1, st := if z.next + 1 = capOf s k then .full else .opened } s)
def grantSpines : List Nat → State → List Loc × State
  | [], s => ([], s)
  | m :: ms, s =>
    let a := grantSpine m s
    let b := grantSpines ms a.2
    (a.1 :: b.1, b.2)
/-- Grant the three places of each of `n` spine chunks; `none` with fewer than three modules. -/
def spineChunks : Nat → State → Option (List (List Loc)) × State
  | 0, s => (some [], s)
  | n + 1, s =>
    if (spineMods s).length < 3 then (none, s)
    else
      let a := grantSpines (spineMods s) s
      match spineChunks n a.2 with
      | (some cs, t) => (some (a.1 :: cs), t)
      | (none, t) => (none, t)

/-- The nodes over some PIDs, bottom-up, the root last (R445, R446). -/
def nodesOver : Nat → Nat → List Nat → List PageId
  | 0, _, _ => []
  | f + 1, l, ns => let ms := (ns.map (· / 128)).dedup; ms.map (PageId.node l) ++ nodesOver f (l + 1) ms

/-- The spine pages of a checkpoint: ingot-table pages that are marked or hold an entry of its own ingots, then the changed nodes. -/
def spinePages (s : State) (w : CkptWriter) : List PageId :=
  let table := (w.table ++ w.ingots.map (· / 8)).dedup.map PageId.ingots
  let leaf := fun (pid : Nat) => match PageId.ofPid pid with | some (.leaf ..) => true | _ => false
  let moved := (w.tree.nodes.filter fun e => mustLeave s e.2 || s.pln.remark.contains (PageId.node (e.1 / 2 ^ 64) (e.1 % 2 ^ 64)).pid).map
    fun e => e.1 % 2 ^ 64 * 128 ^ (e.1 / 2 ^ 64 + 1)
  table ++ nodesOver (rootLevel + 1) 0 ((w.wrote.filter fun p => !leaf p) ++ table.map PageId.pid ++ moved)

/-- What writing the spine has done so far: the tree, the page bodies in order, the zones of the copies superseded. -/
structure SpineOut where
  tree : PageTree
  bodies : List (List Byte)
  freed : List Nat

/-- A spine page is written: its place in three chunks, its entry, its body under the tweak of its first PLOC (R441). -/
def spineStep (s : State) (v : PageSrc) (gen : Nat) (chunks : List (List Loc)) (o : SpineOut) (p : PageId) : SpineOut :=
  let j := o.bodies.length
  let ls := chunks.getD (j / spinePer) []
  let at_ := fun i => ploc (ls.getD i {}) (j % spinePer)
  let pt := PageSrc.plain s { v with tree := o.tree } gen p
  let e : PageEnt := ⟨at_ 0, at_ 1, at_ 2, crc32c pt, gen⟩
  let was : Option PageEnt := match p with
    | .node l n => Tab.find? o.tree.nodes (nodeKey l n)
    | q => Tab.find? o.tree.pages q.pid
  { tree := match p with
      | .node l n => { o.tree with nodes := Tab.put o.tree.nodes (nodeKey l n) e }
      | q => { o.tree with pages := Tab.put o.tree.pages q.pid e }
    bodies := o.bodies ++ [(sealPage s (at_ 0).toNat p.pid gen pt).getD []]
    freed := o.freed ++ match was with | some x => x.zones | none => [] }

/-- The bytes of spine chunk `c`: 63 page bodies, page j at byte j × 4,112. -/
def spineChunk (bodies : List (List Byte)) (c : Nat) : List Byte :=
  let b := ((bodies.drop (spinePer * c)).take spinePer).flatMap id
  b ++ zeros (262144 - b.length)

/-- Append a spine chunk at its three places; its zones count its pages. -/
def appendSpine (bodies : List (List Byte)) (c : Nat) (ls : List Loc) (s : State) : State :=
  let n := ((bodies.drop (spinePer * c)).take spinePer).length
  ls.foldl (fun s l =>
    let k := zoneKey l.module l.zone
    emit (.append l.module l.zone (l.chunk * 64) (spineChunk bodies c)) (zonePut k { zoneOf s k with done := (zoneOf s k).done + n } s)) s

/-- Write the spine of a checkpoint: the tree as it is then, how many pages, and the zones of the copies it supersedes. With fewer than three
modules nothing is granted (R421). -/
def writeSpine (w : CkptWriter) (c : CkptRun) (s : State) : Option (PageTree × Nat × List Nat) × State :=
  let ids := spinePages s w
  let v : PageSrc := ⟨{ c.img with ingots := w.ingots.foldl (fun t n => Tab.put t n (tableAt s n)) c.img.ingots }, w.idx, w.zones, w.tree⟩
  match spineChunks ((ids.length + spinePer - 1) / spinePer) s with
  | (none, _) => (none, bump pgPLN 0x18C 1 (wrF pgPLN 0x150 2 2 1 s))
  | (some cs, t) =>
    let o := ids.foldl (spineStep s v (s.ldg.ckptGen + 1) cs) ⟨w.tree, [], []⟩
    (some (o.tree, ids.length, o.freed), (List.range cs.length).foldl (fun t i => appendSpine o.bodies i (cs.getD i []) t) t)

/-! What a checkpoint supersedes (R415, R446). -/

/-- Each superseded page body adds 257 dead units to its ingot. -/
def deadPages (gs : List W64) (i : Image) : Image := gs.foldl (fun i g => addDead 257 (glocIngot g) i) i
/-- The page bodies superseded by the commit of epochs that a test takes. -/
def supersededBy (s : State) (q : Nat → Bool) : List W64 := (s.pln.supers.filter fun x => q x.1).flatMap fun x => x.2.1
/-- At the commit of the epoch that holds the CKPT record, superseded spine pages join FREE_CHUNKS. -/
def freeSpine (e : Nat) (s : State) : State :=
  ((s.pln.supers.filter fun x => x.1 == e).flatMap fun x => x.2.2).foldl (fun s k => chunkFree k s) s

/-! Checkpoint ingots under Anneal (R448). -/

/-- The PIDs of an ingot's PAGE records. -/
def pagesIn (i : Image) (n : Nat) : List (Nat × Nat) :=
  (Tab.getD i.rosters {} n).recs.filterMap fun r => match r with | .page pid off => some (pid, off) | _ => none
/-- Those that still lie there. -/
def livePages (s : State) (n : Nat) : List Nat :=
  ((pagesIn s.ldg.img n).filter fun x => s.pln.tree.isAt x.1 (gloc n x.2 0)).map (·.1)
/-- The next checkpoint writes these pages elsewhere. -/
def remarkPages (ps : List Nat) (s : State) : State :=
  { s with pln := { s.pln with remark := s.pln.remark ++ ps.filter fun p => !s.pln.remark.contains p } }

end Sys2Proof.Machine
end

