-- ==== Sys2Proof/Machine/Caster.lean ====
section
/-! DEFINITION. The caster at work: casting, amends, ejects, rebuild (spec/10_ingots_erasure.md). -/

namespace Sys2Proof.Machine

/-- ING serves: RUN or DRAIN, and no quench has begun (R375). -/
def ingOn (s : State) : Bool := alive s pgING && !inQ s

/-! Casting (R357, R359, R369). -/

/-- An epoch's record. -/
def epOf (s : State) (e : Nat) : Ep := Tab.getD s.ldg.eps {} e
def epPut (e : Nat) (x : Ep) (s : State) : State := { s with ldg := { s.ldg with eps := Tab.put s.ldg.eps e x } }

/-- Units received for a billet. -/
def billetGot (c : Casting) (i : Nat) : Nat :=
  ((c.got.filter fun h => bodyMember h.gloc == i).map (·.len16)).foldl (· + ·) 0
/-- Every reserved unit of the ingot has been handed in. -/
def allIn (c : Casting) : Bool :=
  (List.range c.billets.length).all fun i => billetGot c i == (c.billets.getD i ⟨0, 0, true⟩).cursor
/-- All k billets are closed (R357). -/
def ingotFull (c : Casting) : Bool := c.billets.length == c.k && c.billets.all (·.closed)

/-- k′ at the cast (R359). -/
def castWidth (s : State) (c : Casting) : Nat :=
  if c.billets.length < c.k ∧ live s pgING 0 then Nat.max 4 c.billets.length else c.k

/-- The dead units of an ingot at its cast: culls and padding (R186, R359). -/
def castDead (c : Casting) (kk : Nat) : Nat :=
  kk * 16384 - ((c.got.filter fun h => h.kind == hiBODY).map (·.len16)).foldl (· + ·) 0

/-- The table entry at retire (R361); a member lost while the others were written leaves it DEGRADED (R382, R422). -/
def castEntry (c : Casting) : Ingot :=
  let ms := c.locs.map fun l => l.getD {}
  { st := if ms.any (·.lost) then .degraded else .live, k := c.kk, m := c.m, cast := c.epoch, reloc := c.reloc, narrow := decide (c.kk < c.k)
    padded := decide (c.billets.length < c.kk), dead16 := castDead c c.kk, members := ms }

/-- CAST_STALL is set, with hallmark 0x1704 (R356, R373). -/
def castStall (ingot n : Nat) (s : State) : State :=
  if bit (rd s pgING 0x120) 31 then s
  else hallmark 0x1704 0 (pw2 ingot ++ [pw n]) (event pgING 3 0 (wrF pgING 0x120 31 31 1 s))

/-- The next journal slot is free and some copy can be written (R366, R374). -/
def sjRoom (s : State) : Bool := !(s.ing.sj.any fun e => sjSlot e.jseq == sjSlot s.ing.jseq) && !(qstDown s && !inPair s)
/-- JOURNAL_FULL and QST_DOWN follow. -/
def sjFlags (s : State) : State :=
  wrF pgING 0x120 29 29 (b2n (qstDown s))
    (wrF pgING 0x120 30 30 (b2n (s.ing.sj.any fun e => sjSlot e.jseq == sjSlot s.ing.jseq)) s)

/-- Steps 0 to 3 of R369: k′, chunks, the CAST entry, the appends. -/
def castIngot (c : Casting) (s : State) : State :=
  let kk := castWidth s c
  let s := sjFlags s
  if !sjRoom s then s
  else if floorHolds s (c.reloc || c.ckpt) c.epoch then castStall c.ingot (kk + c.m) s
  else match grantChunks c.cls (kk + c.m) [] s with
    | (none, s) => castStall c.ingot (kk + c.m) s
    | (some ls, s) =>
      let c := { c with casting := true, kk := kk, locs := ls.map some }
      match sjWrite 1 c.ingot c.epoch (2 ^ (kk + c.m) - 1) (castEntry c) s with
      | none => s
      | some (j, s) =>
        let s := castingPut { c with jent := some j } s
        let e := epOf s c.epoch
        let s := epPut c.epoch { e with ingots := e.ingots + 1, ingotFirst := if e.ingots = 0 then c.ingot else e.ingotFirst } s
        let s := if kk < c.k then bump pgING 0x190 1 s else s
        let s := if c.billets.length < kk then bump pgING 0x194 (kk - c.billets.length) s else s
        let apps := (List.range ls.length).map fun i => (⟨j, c.ingot, i, ls.getD i {}, false⟩ : App)
        let s := castGoes { s with ing := { s.ing with appends := s.ing.appends ++ apps } }
        ingStat (issueAll s)

/-- MEMBERS items: up to three locators each (R364). -/
def memberItems (n : Nat) : Nat → Nat → List Loc → List JItem
  | 0, _, _ => []
  | f + 1, i, ls => if ls.isEmpty then [] else .members i n (ls.take 3) :: memberItems n f (i + 3) (ls.drop 3)

/-- The items of a retired ingot: CAST, MEMBERS, and the map changes of its forged bodies (R369, R371). -/
def retireItems (c : Casting) : List LItem :=
  let x := castEntry c
  ((.cast c.kk c.m x.flags c.ingot c.epoch x.dead16 :: memberItems c.ingot 12 0 x.members).map fun i => ({ epoch := some c.epoch, item := i } : LItem)) ++
  (c.got.filter fun h => h.kind == hiBODY && h.forge != 0xFF).map fun h =>
    { epoch := some c.epoch, use := .stored, body := (glocBody h.gloc).toNat
      item := .mapChange h.ns h.grain { gloc := h.gloc, birth := h.epoch, len16 := h.len16, mapped := true } 0 }

/-- Step 5 and 6 of R369: the ingot is retired. -/
def retire (c : Casting) (s : State) : State :=
  let s := { s with ing := { s.ing with
    cast := s.ing.cast.filter fun x => x.ingot != c.ingot
    retired := Tab.put s.ing.retired c.ingot (castEntry c) } }
  let s := { s with ldg := { s.ldg with inbox := s.ldg.inbox ++ retireItems c } }
  let e := epOf s c.epoch
  let moved := (c.got.filter fun h => h.kind == hiBODY && h.forge == 0xFF && h.old != 0).map fun h => (h.old, h.gloc)
  let s := epPut c.epoch { e with
    relocs := e.relocs ++ moved
    pages := e.pages ++ c.got.filterMap fun h => h.page.map fun p => (h.gloc, p) } s
  let s := match c.jent with | some j => sjMark j true s | none => s
  let s := ingStat (sjFlags (bump64 pgING 0x130 1 s))
  -- a member was lost before the retire: the scan that the loss asked for is still to find the ingot (R385)
  if (ingotAt s c.ingot).st = .degraded then wrF pgING 0x140 16 16 1 s else s

/-- Look for the last completion of an ingot (R369). -/
def retireIfDone (n : Nat) (s : State) : State :=
  match castingOf s n with
  | none => s
  | some c => if c.casting && c.failed.isEmpty && c.ended.length == c.kk + c.m then retire c s else s

/-! Amends (R373). -/

/-- A member that failed is placed anew under an AMEND entry; without an eligible module casting stalls and the row comes
again. -/
def amend (c : Casting) (i : Nat) (s : State) : State :=
  let used := c.locs.filterMap fun l => l.map (·.module)
  if !sjRoom s then sjFlags s
  else match grantChunks c.cls 1 used s with
    | (some [l], s) =>
      let was := (c.locs.getD i none).getD {}
      let c := { c with locs := c.locs.set i (some l), failed := c.failed.filter (· != i) }
      match sjWrite 2 c.ingot c.epoch (2 ^ i) (castEntry c) s with
      | none => s
      | some (j, s) =>
        let prev := c.jent
        let s := castingPut { c with jent := some j } s
        let s := { s with ing := { s.ing with appends := s.ing.appends ++ [⟨j, c.ingot, i, l, false⟩] } }
        let s := hallmark 0x1703 0 (pw2 c.ingot ++ [pw i, pw was.module, pw l.module]) (bump pgING 0x198 1 s)
        let s := castGoes s
        -- the old entry is abandoned once the AMEND entry is acknowledged: at once without a partner
        let s := if inPair s then s else match prev with | some o => sjMark o false s | none => s
        issueAll s
    | (_, s) => castStall c.ingot (Nat.max 1 c.failed.length) s

/-! Rebuild queues (R385 to R387). -/

/-- Rows of an ingot reported unreadable at some member. -/
def badAt (s : State) (n r : Nat) : List Nat := (s.ing.badRows.filter fun b => b.1 == n && b.2.2 == r).map (·.2.1)
/-- A row with more erasures than parity (R390). -/
def beyondParity (s : State) (n : Nat) (x : Ingot) : Bool :=
  decide (x.m < x.lostN) || (List.range 64).any fun r =>
    decide (x.m < x.lostN + ((badAt s n r).filter fun i => !(x.members.getD i {}).lost).dedup.length)
/-- The queue a degraded ingot belongs in: 0 SEAL, 1 to 4 for margins 0 to 3 (R385). -/
def queueOf (s : State) (n : Nat) : Nat :=
  let x := ingotAt s n
  if beyondParity s n x then 0 else x.m - x.lostN + 1

/-- Q_*, MIN_MARGIN, URGENT and RUNNING follow (R387, R404). -/
def rebuildStat (s : State) : State :=
  let d := fun i => (s.ing.queues.getD i []).length
  let s := (List.range 5).foldl (fun s i => wr pgING (0x144 + 4 * i) (pw (d i)) s) s
  let busy := (s.ing.attempts.filter fun a => !a.move).map fun a => queueOf s a.ingot
  let has := fun i => d i != 0 || busy.contains i
  let mm := if has 0 then 7 else if has 1 then 0 else if has 2 then 1 else if has 3 then 2 else if has 4 then 3 else 4
  let urgent := d 0 != 0 || d 1 != 0
  let was := bit (rd s pgING 0x140) 18
  let v := putBits (rd s pgING 0x140) 2 0 mm
  let v := putBits v 12 8 busy.length
  let s := wr pgING 0x140 (putBits v 18 18 (b2n urgent)) s
  if urgent && !was then event pgING 4 0 s else s

/-- File an ingot in its queue; a full queue asks for a rescan (R385). -/
def fileIngot (n : Nat) (s : State) : State :=
  let q := queueOf s n
  if s.ing.queues.any (·.contains n) then s
  else if 65536 ≤ (s.ing.queues.getD q []).length then wrF pgING 0x140 17 17 1 s
  else { s with ing := { s.ing with queues := s.ing.queues.set q (s.ing.queues.getD q [] ++ [n]) } }

/-- An attempt ends without effect: its entry is abandoned, its chunks are dead; an append that is outstanding is still answered, one not issued
leaves a zone that PLN finishes. -/
def dropAttempt (a : Attempt) (s : State) : State :=
  let idle := s.ing.appends.filter fun p => p.ingot == a.ingot && !p.issued
  let s := { s with ing := { s.ing with
    attempts := s.ing.attempts.filter fun x => x.ingot != a.ingot
    appends := s.ing.appends.filter fun p => p.ingot != a.ingot || p.issued
    claims := Tab.erase s.ing.claims a.ingot } }
  let s := match a.jent with | some j => sjMark j false s | none => s
  let s := a.locs.foldl (fun s l => releaseChunk a.ingot l s) s
  idle.foldl (fun s p => finishZone p.loc s) s

/-- Give an attempt up (R392, R393): the ingot is filed again unless DEAD. -/
def abandonAttempt (a : Attempt) (cause : Nat) (s : State) : State :=
  let s := dropAttempt a s
  let s := if a.move then s
    else hallmark 0x1706 0 (pw2 a.ingot ++ [pw cause]) (bump pgING 0x1AC 1 s)
  let s := if cause = 1 ∧ !a.move then fileIngot a.ingot s else s
  rebuildStat (ingStat s)

/-- No replacement module: the ingot returns to its queue with STALL set (R389). -/
def stallAttempt (a : Attempt) (s : State) : State :=
  let s := wrF pgING 0x140 19 19 1 (dropAttempt a s)
  rebuildStat (ingStat (if a.move then s else fileIngot a.ingot s))

/-- Attempts on ingots that have become DEAD end, with cause DEAD (R393). -/
def deadAttempts (s : State) : State :=
  (s.ing.attempts.filter fun a => a.passed.isNone && decide ((Tab.getD s.ldg.img.ingots {} a.ingot).st = .dead)).foldl
    (fun s a => abandonAttempt a 2 s) s

/-- The entry of an ingot with an attempt's new locators. -/
def attemptEntry (s : State) (a : Attempt) (locs : List Loc) : Ingot :=
  let x := ingotAt s a.ingot
  { x with members := (List.range x.members.length).map fun i => if a.set.contains i then locs.getD (a.set.idxOf i) {} else x.members.getD i {} }

/-- An append of an attempt has failed: the member is placed anew under another REBUILD entry, which replaces the first once it is
acknowledged (R373). -/
def placeAgain (a : Attempt) (i : Nat) (s : State) : State :=
  let x := ingotAt s a.ingot
  let cls := (pmodOf s (x.members.getD i {}).module).cls
  if !sjRoom s then stallAttempt a (sjFlags s)
  else match grantChunks cls 1 (x.members.map (·.module) ++ a.locs.map (·.module)) s with
    | (some [l], s) =>
      let locs := a.locs.set (a.set.idxOf i) l
      match sjWrite 3 a.ingot x.cast (a.set.foldl (fun w i => w + 2 ^ i) 0) (attemptEntry s a locs) s with
      | none => s
      | some (j, s) =>
        let s := { s with ing := { s.ing with
          attempts := s.ing.attempts.map fun y => if y.ingot = a.ingot then { y with locs := locs, jent := some j } else y
          appends := s.ing.appends ++ [⟨j, a.ingot, i, l, false⟩] } }
        if inPair s then s else match a.jent with | some o => sjMark o false s | none => s
    | (_, s) => stallAttempt a s

/-- A member's append has failed (R370, R373). -/
def appendFailed (a : App) (s : State) : State :=
  let m := modOf s a.loc.module
  let s := modPut a.loc.module { m with appendFail := min (m.appendFail + 1) 0xFFFFFFFF } s
  let s := finishZone a.loc (dropAppend a s)
  match castingOf s a.ingot with
  | some c =>
    let c := { c with failed := c.failed ++ [a.member] }
    issueAll (amend c a.member (castingPut c s))
  | none => match s.ing.attempts.find? fun x => x.ingot == a.ingot && x.jent.isSome && x.locs.contains a.loc with
    | some x => issueAll (placeAgain x a.member s)
    | none => issueAll s

/-! Ejects (R380 to R384). -/

/-- Causes (R381). -/
abbrev ejTIMEOUT : Nat := 1
abbrev ejDETOURS : Nat := 2
abbrev ejPORT_DOWN : Nat := 3
abbrev ejFATAL : Nat := 4
abbrev ejFIRMWARE : Nat := 5

/-- The ingot has a member on a module. -/
def onModule (s : State) (m n : Nat) : Bool := (tableAt s n).members.any fun l => l.module == m && !l.lost

/-- The members of a casting ingot that are written, at some places, are lost (R382, R422). -/
def Casting.lose (q : Loc → Bool) (c : Casting) : Casting :=
  let at_ := fun (i : Nat) => (c.locs.getD i none).map fun l => if c.ended.contains i ∧ q l then { l with lost := true } else l
  { c with locs := (List.range c.locs.length).map at_ }

/-- Eject a module (R382): items, event, hallmark; appends to it fail, attempts over it are abandoned, reads of it are
reconstructed, and a scan is due. -/
def ejectNow (m cause : Nat) (s : State) : State :=
  if (modOf s m).st = .ejected then s
  else
    let s := modPut m { modOf s m with st := .ejected, cause := cause, asked := none, deferred := 0 } s
    let s := pmodPut m { pmodOf s m with st := .ejected } s
    let s := toLedger (openItem (.eject m cause)) s
    let s := hallmark 0x1701 0 [pw m, pw cause] (event pgING 2 (pw m) s)
    let s := (s.ing.attempts.filter fun a => onModule s m a.ingot || a.locs.any (·.module == m)).foldl (fun s a => abandonAttempt a 1 s) s
    let gone := s.ing.appends.filter fun a => a.loc.module == m
    let s := gone.foldl (fun s a =>
      let s := dropAppend a s
      match castingOf s a.ingot with
      | some c => let c := { c with failed := c.failed ++ [a.member] }; amend c a.member (castingPut c s)
      | none => s) s
    -- members already written are LOST with the module
    let s := { s with ing := { s.ing with cast := s.ing.cast.map (Casting.lose fun l => l.module == m) } }
    let s := (s.drp.reqs.filter fun r => r.recon.isNone && r.entry.gloc != 0 &&
        ((ingotAt s (glocIngot r.entry.gloc)).members.getD (bodyMember r.entry.gloc) {}).module == m).foldl
      (fun s r => startRecon r.drp r rcLOST s) s
    wrF pgING 0x140 16 16 1 (issueAll s)

/-- A SEAL or margin-0 ingot has a member on the module (R383). -/
def ejectBlocked (s : State) (m : Nat) : Bool := (s.ing.queues.getD 0 [] ++ s.ing.queues.getD 1 []).any fun n => onModule s m n

/-- An eject for slowness, deferred while it would turn slowness into loss (R383). -/
def ejectSlow (m cause : Nat) (s : State) : State :=
  if !live s pgING 3 ∨ (modOf s m).st ≠ .active then s
  else if ejectBlocked s m then
    hallmark 0x1702 0 [pw m] (bump pgING 0x1A8 1 (modPut m { modOf s m with st := .slowHeld, deferred := cause } s))
  else ejectNow m cause s

/-! Rebuild attempts (R389 to R391). -/

/-- Ask the surviving members of an ingot for their whole chunks. -/
def askChunks (x : Ingot) (ms : List Nat) (s : State) : State :=
  ms.foldl (fun s j =>
    let l := x.members.getD j {}
    let m := modOf s l.module
    emit (.flashRead l.module l.zone (l.chunk * 64) 64) (modPut l.module { m with asked := some (m.asked.getD s.time) } s)) s
def survivors (s : State) (x : Ingot) : List Nat :=
  (List.range x.members.length).filter fun j => !(x.members.getD j {}).lost && (modOf s (x.members.getD j {}).module).st != .ejected

/-- Rows of a chunk. -/
def rowOf (bs : List Byte) (r : Nat) : List Byte := slice bs (r * 4096) 4096

/-- What the survivors returned: member, chunk, unreadable rows. -/
abbrev Answers := List (Nat × List Byte × List Nat)

/-- The members whose unit in a row is an erasure (R390): lost, or answered as unreadable. -/
def erasures (x : Ingot) (as : Answers) (r : Nat) : List Nat :=
  (List.range x.members.length).filter fun i => (x.members.getD i {}).lost ||
    match as.find? fun a => a.1 == i with
    | some a => a.2.2.contains r
    | none => false
/-- A row is slag: beyond parity, or marked before (R390). -/
def slagRow (x : Ingot) (as : Answers) (r : Nat) : Bool := decide (x.m < (erasures x as r).length) || x.slagRows.testBit r
/-- The members whose unit in a row was read. -/
def rowsRead (x : Ingot) (as : Answers) (r : Nat) : Answers := as.filter fun a => !(erasures x as r).contains a.1
/-- Every row that can be decoded has k units; a member that has not answered may be left out (R379). -/
def decodable (x : Ingot) (as : Answers) : Bool := (List.range 64).all fun r => slagRow x as r || decide (x.k ≤ (rowsRead x as r).length)
/-- SLAG_ROWS after the attempt. -/
def slagRowsOf (x : Ingot) (as : Answers) : Nat :=
  (List.range 64).foldl (fun n r => if slagRow x as r then n ||| 2 ^ r else n) 0
/-- The members rebuilt: every one that is an erasure of some row (R391). -/
def rebuildSet (x : Ingot) (as : Answers) : List Nat :=
  (List.range x.members.length).filter fun i => (List.range 64).any fun r => (erasures x as r).contains i
/-- The rebuilt chunk of a member (R355, R390). -/
def rebuiltChunk (x : Ingot) (as : Answers) (i : Nat) : List Byte :=
  (List.range 64).flatMap fun r =>
    if slagRow x as r then zeros 4096
    else match (rowsRead x as r).find? fun a => a.1 == i with
      | some a => rowOf a.2.1 r
      | none => rsDecode x.k i 4096 ((rowsRead x as r).map fun a => (a.1, rowOf a.2.1 r))

/-- The extents that an attempt's slag rows lose: of each data member among the row's erasures (R390). -/
def extentsOf (n : Nat) (x : Ingot) (as : Answers) : List SlagEntry :=
  ((List.range 64).filter (slagRow x as)).flatMap fun r =>
    ((erasures x as r).filter fun i => decide (i < x.k)).map fun i =>
      ⟨true, false, slREBUILD, 0, 0, 0, glocMark (gloc n (i * 16384 + r * 256) 0), 256⟩

/-- Two stretches of units of one ingot meet. -/
def overlapU (a : W64) (la : Nat) (b : W64) (lb : Nat) : Bool :=
  glocIngot a == glocIngot b && decide (glocOffset a < glocOffset b + lb ∧ glocOffset b < glocOffset a + la)

/-- Remove the index entries of bodies that an extent touches (R181, R396). -/
def dropIndex (g : W64) (len16 : Nat) (s : State) : State :=
  (s.frg.idx.flatMap fun p => (p.2.filter fun e => !e.pending && overlapU e.gloc e.len16 g len16).map fun e => (p.1, e)).foldl
    (fun s x => idxDrop x.1 x.2 s) s

/-- Extents awaiting a sweep. -/
def extentsPending (s : State) : List SlagEntry := s.ldg.img.slag.filter (·.extent)
/-- SWEEP_STAT.PENDING follows. -/
def sweepStat (s : State) : State := wrF pgING 0x184 23 0 (extentsPending s).length s

/-- Attempts whose REPLACE items are committed are over (R389 step 7, R436 step 6). -/
def attemptsCommitted (s : State) : State :=
  let finished := s.ing.attempts.filter fun a => a.passed.isSome &&
    (List.range a.set.length).all fun k =>
      let l := (Tab.getD s.ldg.img.ingots {} a.ingot).members.getD (a.set.getD k 0) {}
      let n := a.locs.getD k {}
      l.module == n.module && l.zone == n.zone && l.chunk == n.chunk
  finished.foldl (fun s a =>
    let s := { s with ing := { s.ing with
      attempts := s.ing.attempts.filter fun x => x.ingot != a.ingot
      claims := Tab.erase s.ing.claims a.ingot
      badRows := s.ing.badRows.filter fun b => !(b.1 == a.ingot && a.set.contains b.2.1) } }
    let s := (a.old.filter fun l => (modOf s l.module).st != .ejected).foldl (fun s l => releaseChunk a.ingot l s) s
    let s := if a.move then wrF pgANL 0x110 4 0 (rdF s pgANL 0x110 4 0 - 1) (bump64 pgANL 0x138 1 s)
      else hallmark 0x1705 0 (pw2 a.ingot ++ [pw a.set.length] ++ pw2 a.slagRows) (bump64 pgING 0x158 a.set.length s)
    rebuildStat (ingStat s)) s

end Sys2Proof.Machine
end

