-- ==== Sys2Proof/Machine/Ingots.lean ====
section
/-! DEFINITION. Commands of the ingot caster (spec/10_ingots_erasure.md). -/

namespace Sys2Proof.Machine

/-! Hand-ins (R371). -/

/-- The hand-in at the front of a queue, where it is of a kind and ING takes it; the queue without it. -/
def takeIn (kind forge : Nat) (s : State) : Option (HandIn × State) :=
  if !ingOn s then none
  else match Tab.getD s.frg.outs [] forge with
    | h :: t =>
      if h.kind = kind then
        let s := { s with frg := { s.frg with outs := Tab.setD s.frg.outs [] forge t } }
        some (h, if forge < 16 then frgStat forge s else s)
      else none
    | [] => none

/-- A body or a cull goes into its casting buffer. -/
def placeIn (h : HandIn) (s : State) : State :=
  match castingOf s (glocIngot h.gloc) with
  | some c => castingPut { c with got := c.got ++ [h] } s
  | none => s

/-- The index entry of a BODY becomes VALID, the filter is filled, lookups that waited on it go on (R173, R177 to R179). -/
def publish (h : HandIn) (s : State) : State :=
  match h.fp with
  | none => s
  | some (fp, d, z) =>
    if !alive s pgASY then s
    else
      let mine := fun (e : IdxEnt) => e.fp == fp && e.domain == d && e.pisz == z && (match h.replaces with
        | some a => e.gloc == a
        | none => e.pending && e.gloc == h.gloc)
      match idxFind s fp mine with
      | none => fltFill fp d z s
      | some (p, e) =>
        wakePending fp (fltFill fp d z (idxSet p e
          { e with gloc := h.gloc, len16 := h.len16, cast := h.epoch, pending := false, moving := false, owner := 0 } s))

/-- HAND_IN_BODY (R371): the body enters the casting buffer; its map change passes at retire. Queue 16 is that of Anneal and the checkpoint
writer, which puts its next page on it when it is empty (R442). -/
def execHandInBody (forge : Nat) (s : State) : Outcome :=
  let s := if forge = 16 && ingOn s && (Tab.getD s.frg.outs [] 16).isEmpty then ckptPost s else s
  .next (match takeIn hiBODY forge s with
    | none => s
    | some (h, s) =>
      let s := placeIn h s
      if forge = 16 then s else publish h (workUp (glocBody h.gloc).toNat s))

/-- HAND_IN_REF (R371, R192). -/
def execHandInRef (forge : Nat) (s : State) : Outcome :=
  .next (match takeIn hiREF forge s with
    | none => s
    | some (h, s) => toLedger { epoch := some h.epoch, use := .dedup, body := (glocBody h.gloc).toNat
                                item := .mapChange h.ns h.grain { gloc := h.gloc, birth := h.epoch, len16 := h.len16, mapped := true, shared := true } 0 } s)

/-- HAND_IN_ZERO (R371, R192). -/
def execHandInZero (forge : Nat) (s : State) : Outcome :=
  .next (match takeIn hiZERO forge s with
    | none => s
    | some (h, s) => toLedger { epoch := some h.epoch, item := .mapChange h.ns h.grain (zeroEntry h.epoch) 0 } s)

/-- HAND_IN_SLAG (R371, R396): mapped as lost, and listed. -/
def execHandInSlag (forge : Nat) (s : State) : Outcome :=
  .next (match takeIn hiSLAG forge s with
    | none => s
    | some (h, s) =>
      slagAdd (slagGrain slCRC h.ns h.grain)
        (toLedger { epoch := some h.epoch, item := .mapChange h.ns h.grain (slagEntry h.epoch) 0 } s))

/-- HAND_IN_CULL (R186): the units are zeros in the casting buffer, and dead from the commit. -/
def execHandInCull (forge : Nat) (s : State) : Outcome :=
  .next (match takeIn hiCULL forge s with
    | none => s
    | some (h, s) => placeIn h s)

/-! Casting. -/

/-- CAST_START (R359, R369): an ingot that is full, or whose epoch has drained, is cast once every unit reserved in it has been handed
in. -/
def execCastStart (ingot : Nat) (s : State) : Outcome :=
  .next (match castingOf s ingot with
    | none => s
    | some c =>
      if !ingOn s || c.casting || !allIn c || c.billets.isEmpty then s
      else if ingotFull c || (epOf s c.epoch).drained then castIngot c s
      else s)

/-- The mirror copy of a stripe-journal entry, or of a MARK, has been acknowledged: an AMEND, or a second REBUILD entry of an attempt, takes the
place of what stood before it (R369, R373, R374). -/
def sjAcked (slot : Nat) (s : State) : State :=
  match s.ing.sj.find? fun e => sjSlot e.jseq == slot with
  | none => s
  | some e =>
    if e.written then s
    else
      let done := s.ing.sj.map fun x => if x.jseq = e.jseq then { x with written := true } else x
      let s := { s with ing := { s.ing with sj := done } }
      let old := done.filter fun x => x.ingot == e.ingot && (x.kind == 3) == (e.kind == 3) && decide (x.jseq < e.jseq)
      issueAll (old.foldl (fun s x => sjMark x.jseq false s) s)

/-- JOURNAL_ACK_TIMEOUT (R374): the entry is sent again; after the last retry WC is DEGRADED and the own ring suffices. -/
def execJournalAckTimeout (jseq : Nat) (s : State) : Outcome :=
  .next (match s.ing.sj.find? fun e => e.jseq == jseq && !e.written with
    | none => s
    | some e =>
      if !inPair s then s
      else if e.resends < rdF s pgWC 0x100 19 16 then
        let s := { s with ing := { s.ing with sj := s.ing.sj.map fun x => if x.jseq = jseq then { x with resends := x.resends + 1 } else x } }
        sendW clsJOURNAL 0x11 (sjSlot jseq) e.bytes s
      else
        let s := degrade 4 0xFFFFFFFF s
        (s.ing.sj.filter fun x => !x.written).foldl (fun s x => if qstDown s then s else sjAcked (sjSlot x.jseq) s) s)

/-- The append of a member that has been issued; of two (one of an attempt given up), that which a returned LBA answers. -/
def issuedApp (s : State) (ingot member : Nat) (lba : Option Nat) : Option App :=
  let as := s.ing.appends.filter fun a => a.ingot == ingot && a.member == member && a.issued
  match as.find? fun a => lba == some (a.loc.chunk * 64) with
  | some a => some a
  | none => as.head?

/-- MEMBER_APPEND_DONE (R370, R372): the module answers with the LBA it assigned, counted from the zone's start; another LBA is a
failed append; the last member retires the ingot. -/
def execMemberAppendDone (ingot member lba : Nat) (s : State) : Outcome :=
  .next (match issuedApp s ingot member (some lba) with
    | none => s
    | some a =>
      if inQ s then s
      else if lba ≠ a.loc.chunk * 64 then
        appendFailed a (hallmark 0x170A 0 ([pw a.loc.module, pw a.loc.zone] ++ pw2 (a.loc.chunk * 64) ++ pw2 lba) (bump pgING 0x19C 1 s))
      else
        let s := chunkDone a.loc (dropAppend a s)
        let s := match castingOf s ingot with
          | some c => retireIfDone ingot (castingPut { c with ended := c.ended ++ [member] } s)
          | none => s
        issueAll s)

/-- APPEND_FAIL (R373): a member's append fails; the member is placed anew. -/
def execAppendFail (ingot member : Nat) (s : State) : Outcome :=
  .next (match issuedApp s ingot member none with
    | none => s
    | some a => if inQ s then s else appendFailed a s)

/-- AMEND_RETRY_TICK (R373): every 1 ms the members that wait for a module are tried again. -/
def execAmendRetryTick (s : State) : Outcome :=
  .next (if !ingOn s then s
    else s.ing.cast.foldl (fun s c0 => c0.failed.foldl (fun s i => match castingOf s c0.ingot with
      | some c => if c.failed.contains i then amend c i s else s
      | none => s) s) s)

/-! Resolving the journal (R376 to R378). -/

/-- The slots of a ring that hold anything. -/
def sjSlots (s : State) (base : Nat) : List Nat :=
  (((s.qst.map (·.1)).filter fun a => decide (base ≤ a ∧ a < base + 262144 * 512)).map fun a => (a - base) / 512).dedup

/-- An entry is present: its CRC and MARK hold (R368). -/
def sjOk (b : List Byte) : Bool :=
  let j := field b 8 8
  let m := field b 0x1F8 8
  field b 0x1F0 8 == (crc64 (slice b 0 0x1F0)).toNat && (m == 0 || m == j || m == 2 ^ 64 - 1 - j)
/-- The locators of an entry. -/
def sjLocs (b : List Byte) : List Loc := (List.range (field b 2 1 + field b 3 1)).map fun i => Loc.ofWord (field b (0x40 + 8 * i) 8)

/-- What resolution has settled: entries retired and abandoned, and whether a copy of the partner's was used. -/
structure Resolved where
  s : State
  retired : Nat := 0
  abandoned : Nat := 0
  partner : Bool := false

/-- A chunk is written: the zone's write pointer lies at or past its last logical block (R376). -/
def chunkWritten (wps : List (Nat × Nat)) (l : Loc) : Bool :=
  match wps.find? fun w => w.1 == zoneKey l.module l.zone with
  | some w => decide (l.chunk * 64 + 63 ≤ w.2)
  | none => false

/-- Set a MARK at resolution: in the ring the entry stands in, and in the open list. -/
def resolveMark (base slot j : Nat) (retired : Bool) (s : State) : State :=
  let b := le 8 (if retired then j else 2 ^ 64 - 1 - j)
  let s := if qstDown s then s else qstWrite (base + slot * 512 + 0x1F8) b s
  { s with ing := { s.ing with sj := s.ing.sj.filter fun e => e.jseq != j } }

/-- Settle one open entry (R376). -/
def resolveEntry (base committed : Nat) (wps : List (Nat × Nat)) (r : Resolved) (slot : Nat) (b : List Byte) : Resolved :=
  let j := field b 8 8
  let n := field b 0x10 8
  let locs := sjLocs b
  let x := Tab.getD r.s.ldg.img.ingots {} n
  let abandonIt : Resolved := { r with
    abandoned := r.abandoned + 1
    s := locs.foldl (fun s l => releaseChunk n l s) (bump pgING 0x1A0 1 (resolveMark base slot j false r.s)) }
  if field b 0 1 = 3 then
    let w := (List.range locs.length).filter fun i => (field b 0x20 8).testBit i
    if w.all fun i => x.members.getD i {} == { (locs.getD i {}) with lost := false, rebuilt := (x.members.getD i {}).rebuilt } then
      { r with retired := r.retired + 1, s := resolveMark base slot j true r.s }
    else
      { r with
        abandoned := r.abandoned + 1
        s := w.foldl (fun s i => releaseChunk n (locs.getD i {}) s) (bump pgING 0x1A0 1 (resolveMark base slot j false r.s)) }
  else if field b 0x18 6 ≤ committed then
    let ms := x.members.map fun l => if chunkWritten wps l then l else { l with lost := true }
    let y := { x with members := ms, st := if x.st = .live ∧ ms.any (·.lost) then .degraded else x.st }
    let s := resolveMark base slot j true r.s
    { r with
      retired := r.retired + 1
      s := { s with ldg := { s.ldg with img := { s.ldg.img with ingots := Tab.put s.ldg.img.ingots n y } } } }
  else abandonIt

/-- The copy of a slot's entry that can be read, and whether it is the partner's: the own ring's where QST serves and R368 holds, else what the
partner sent (R377). -/
def sjCopy (s : State) (base slot : Nat) : Option (List Byte × Bool) :=
  let b := qstRead s (base + slot * 512) 512
  if !qstDown s && sjOk b then some (b, false)
  else match Tab.find? s.ing.fetched slot with
    | some c => if sjOk c then some (c, true) else none
    | none => none

/-- Settle the entry of a slot. -/
def resolveSlot (base committed : Nat) (wps : List (Nat × Nat)) (r : Resolved) (slot : Nat) : Resolved :=
  match sjCopy r.s base slot with
  | some (b, peer) => if field b 0x1F8 8 = 0 then resolveEntry base committed wps { r with partner := r.partner || peer } slot b else r
  | none => r

/-- The JSEQ that follows every entry of a ring. -/
def nextJseq (s : State) (base : Nat) : Nat :=
  (sjSlots s base).foldl (fun n k => let b := qstRead s (base + k * 512) 512
    if sjOk b then Nat.max n (field b 8 8 + 1) else n) s.ing.jseq

/-- JOURNAL_RESOLVE (R376 to R378): after replay, every open entry of the own ring (at takeover: of the partner's mirror ring) is
settled against the committed epoch and the zones' write pointers, given in blocks by zone. Copies that fail are first asked of the
partner. -/
def execJournalResolve (mirror : Bool) (wps : List (Nat × Nat)) (s : State) : Outcome :=
  let base := if mirror then qSJMIRROR else qSJ
  let committed := if mirror then s.ldg.peerCommitted else epochCommitted s
  let slots := sjSlots s base
  let missing := slots.filter fun k => (sjCopy s base k).isNone && (Tab.find? s.ing.fetched k).isNone
  .next (if !s.ldg.replayed || (!mirror && s.ing.resolved) || (mirror && tstate s != tsSURVIVOR) then s
    else if !mirror && !missing.isEmpty && live s pgWDL 3 && linkUp s then
      missing.foldl (fun s k => sendW clsFETCH 0x45 k [] s) s
    else
      let none_ := (qstDown s || !slots.isEmpty) && !(slots.any fun k => (sjCopy s base k).isSome)
      let r := slots.foldl (resolveSlot base committed wps) { s := s }
      let s := hallmark 0x1709 0 [pw r.retired, pw r.abandoned, pw (if none_ then 3 else if r.partner then 2 else 1)] (settleFences r.s)
      let s := s.ldg.img.ejected.foldl (fun s e => modPut e.1 { modOf s e.1 with st := .ejected, cause := e.2 } s) s
      if mirror then s
      else wrF pgING 0x140 16 16 1 { s with ing := { s.ing with resolved := true, unread := none_, jseq := nextJseq s base, fetched := [] } })

/-- SJ_DATA (R377, R590): the partner's copy of a stripe-journal entry arrives. -/
def execSjData (slot : Nat) (entry : List Byte) (s : State) : Outcome :=
  let s := takeRx 0x46 s
  .next { s with ing := { s.ing with fetched := Tab.put s.ing.fetched slot entry } }

/-! Slow and failed members. -/

/-- A detour of a module is counted; too many within a second eject it (R380). -/
def countDetour (m : Nat) (s : State) : State :=
  let y := modOf s m
  let now := s.time.toNat
  let ts := (y.times ++ [now]).filter fun t => decide (now ≤ t + 1000000)
  let s := modPut m { y with times := ts, detours := min (y.detours + 1) 0xFFFFFFFF } s
  if rdF s pgING 0x114 15 12 ≤ ts.length then ejectSlow m ejDETOURS s else s

/-- DETOUR_EXPIRY (R379, R380): a member read outstanding for the detour threshold is served by reconstruction. -/
def execDetourExpiry (drp a b grain : Nat) (s : State) : Outcome :=
  .next (match reqFind s drp a b grain with
    | none => s
    | some r =>
      let x := ingotAt s (glocIngot r.entry.gloc)
      let m := (x.members.getD (bodyMember r.entry.gloc) {}).module
      if !ingOn s || !live s pgING 2 || r.recon.isSome || r.entry.gloc == 0 then s
      else if (modOf s m).st = .slowHeld ∧ x.m ≤ x.lostN then s
      else countDetour m (startRecon drp r rcDETOUR (bump (pgDRP + drp) 0x150 1 s)))

/-- EJECT_TIMEOUT (R381): a command has been outstanding for EJECT_MS. -/
def execEjectTimeout (module : Nat) (s : State) : Outcome :=
  .next (if ingOn s ∧ (modOf s module).asked.isSome then ejectSlow module ejTIMEOUT s else s)

/-- MOD_EJECT (R381): MOD_CMD.EJECT ejects the selected module. -/
def execModEject (value : W32) (s : State) : Outcome :=
  .next (atRegister 0 pgING 0x168 (fun s =>
    let s := commandWrite pgING 0x168 value s
    if bit value 0 ∧ rdF s pgING 0x160 6 0 < 96 then ejectNow (rdF s pgING 0x160 6 0) ejFIRMWARE s else s) s)

/-- DEFERRED_EJECT (R383): no margin-0 or SEAL ingot has a member on the module any more. -/
def execDeferredEject (module : Nat) (s : State) : Outcome :=
  let m := modOf s module
  .next (if ingOn s ∧ m.st = .slowHeld ∧ !ejectBlocked s module then ejectNow module m.deferred s else s)

/-- CONTROLLER_FATAL_STATUS (R381). -/
def execControllerFatalStatus (module : Nat) (s : State) : Outcome :=
  .next (if ingOn s then ejectNow module ejFATAL s else s)

/-! Rebuild. -/

/-- REBUILD_SCAN (R385): after an eject, at a start, or when a full queue has drained, every DEGRADED ingot of both halves is filed by its
margin. -/
def execRebuildScan (s : State) : Outcome :=
  .next (if !ingOn s || !live s pgING 1 then s
    else
      let s := wrF pgING 0x140 17 16 0 s
      let s := ((ingotNums s).filter fun n => (ingotAt s n).st == .degraded && !s.anl.handed.contains n).foldl (fun s n =>
        let q := queueOf s n
        if s.ing.queues.any (fun l => l.contains n) && !(s.ing.queues.getD q []).contains n then
          fileIngot n { s with ing := { s.ing with queues := s.ing.queues.map fun l => l.filter (· != n) } }
        else fileIngot n s) s
      rebuildStat s)

/-- The first queued ingot, its queue, and the queues without it (R386). -/
def nextRebuild (s : State) : Option (Nat × Nat × List (List Nat)) :=
  (List.range 5).findSome? fun q => match s.ing.queues.getD q [] with
    | n :: t => some (n, q, s.ing.queues.set q t)
    | [] => none

/-- REBUILD_START (R386 to R389): the first ingot is claimed and its surviving members are read; one whose margin has changed is filed
again, one with little live data goes to Anneal. -/
def execRebuildStart (s : State) : Outcome :=
  .next (if !ingOn s || !live s pgING 1 || decide (rdF s pgING 0x118 4 0 ≤ (s.ing.attempts.filter fun a => !a.move).length) then s
    else match nextRebuild s with
      | none => s
      | some (n, q, qs) =>
        let x := ingotAt s n
        let urgent := bit (rd s pgING 0x140) 18
        let spare := if urgent then x.k + x.m else 2 * (rdF s pgING 0x100 21 16 + rdF s pgING 0x100 2 0)
        let need := (survivors s x).length * 262144
        let t := { s with ing := { s.ing with queues := qs } }
        if x.st ≠ .degraded then rebuildStat t
        else if queueOf s n ≠ q then rebuildStat (fileIngot n t)
        else if live s pgING 5 ∧ liveUnits x * 100 < rdF s pgING 0x118 11 5 * (x.k * 16384) then
          rebuildStat { t with anl := { t.anl with handed := t.anl.handed ++ [n] } }
        else if poolFree s < x.k + x.m + spare ∨ s.ing.bucket < need then s
        else
          let set := (List.range x.members.length).filter fun i => !(survivors s x).contains i
          let t := { t with ing := { t.ing with
            bucket := t.ing.bucket - need
            claims := Tab.put t.ing.claims n .rebuilding
            attempts := t.ing.attempts ++ [{ ingot := n, move := false, set := set }] } }
          askChunks x (survivors s x) (rebuildStat (ingStat t)))

/-- The attempt has its answers: what is rebuilt, and where (R389 steps 2 to 5, R391). -/
def decodeAttempt (a : Attempt) (as : Answers) (s : State) : State :=
  let x := ingotAt s a.ingot
  let set := rebuildSet x as
  let s := as.foldl (fun s y =>
    let m := (x.members.getD y.1 {}).module
    modPut m { modOf s m with readErr := min ((modOf s m).readErr + y.2.2.length) 0xFFFFFFFF } s) s
  match grantChunks (pmodOf s (x.members.getD 0 {}).module).cls set.length (x.members.map (·.module)) s with
  | (none, s) => stallAttempt a s
  | (some ls, s) =>
    let a := { a with
      set := set
      locs := ls
      old := (set.map fun i => x.members.getD i {}).filter fun l => !l.lost
      data := set.map (rebuiltChunk x as)
      slagRows := slagRowsOf x as
      ext := extentsOf a.ingot x as }
    match sjWrite 3 a.ingot x.cast (set.foldl (fun w i => w + 2 ^ i) 0) (attemptEntry s a ls) s with
    | none => s
    | some (j, s) =>
      let apps := (List.range ls.length).map fun k => (⟨j, a.ingot, set.getD k 0, ls.getD k {}, false⟩ : App)
      issueAll (wrF pgING 0x140 19 19 0 { s with ing := { s.ing with
        attempts := s.ing.attempts.map fun y => if y.ingot = a.ingot then { a with jent := some j } else y
        appends := s.ing.appends ++ apps } })

/-- The attempt whose surviving members are being read. -/
def readingAttempt (s : State) (ingot : Nat) : Option Attempt :=
  s.ing.attempts.find? fun a => a.ingot == ingot && !a.move && a.jent.isNone && a.passed.isNone && a.data.isEmpty

/-- REBUILD_DECODE_DONE (R389 to R391): the survivors' chunks, with their unreadable rows, are decoded; replacement zones are taken and a
REBUILD entry is written. Without replacement modules the ingot returns to its queue with STALL set. A survivor that has not answered
within the detour threshold is done without, where DETOUR is live (R379). -/
def execRebuildDecodeDone (ingot : Nat) (answers : Answers) (s : State) : Outcome :=
  .next (match readingAttempt s ingot with
    | none => s
    | some a =>
      let x := ingotAt s ingot
      let as := answers.filter fun y => (survivors s x).contains y.1
      let late := (survivors s x).filter fun j => !(as.any fun y => y.1 == j)
      if !sjRoom s then sjFlags s
      else if !decodable x as || (!late.isEmpty && !live s pgING 2) then s
      else
        let s := (survivors s x).foldl (fun s j => answered (x.members.getD j {}).module s) s
        let s := late.foldl (fun s j => countDetour (x.members.getD j {}).module s) s
        if (readingAttempt s ingot).isSome then decodeAttempt a as s else s)

/-- REBUILD_APPENDS_DONE (R389, R396): the REPLACE items and the extents are passed to LDG, the entry is retired. -/
def execRebuildAppendsDone (ingot : Nat) (s : State) : Outcome :=
  .next (match s.ing.attempts.find? fun a => a.ingot == ingot && a.passed.isNone with
    | none => s
    | some a => match a.jent with
      | none => s
      | some j =>
        if s.ing.appends.any fun p => p.ingot == ingot then s
        else if (tableAt s ingot).st = .dead then abandonAttempt a 2 s
        else
          let x := tableAt s ingot
          let s := (List.range a.set.length).foldl (fun s k =>
            toLedger (openItem (.replace (a.set.getD k 0) ingot
              { a.locs.getD k {} with rebuilt := !a.move || (x.members.getD (a.set.getD k 0) {}).rebuilt } a.slagRows)) s) s
          let s := a.ext.foldl (fun s e => dropIndex e.gloc e.len16 (slagAdd e (hallmark 0x1707 0 (pw2 e.gloc.toNat ++ [pw e.len16]) s))) s
          let a := { a with jent := none, passed := some (epochOpen s), data := [] }
          sweepStat (sjFlags (sjMark j true { s with ing := { s.ing with
            attempts := s.ing.attempts.map fun y => if y.ingot = ingot then a else y } })))

/-- REBUILD_BUCKET_REFILL (R387): every 10 µs at REBUILD_GBPS, or URGENT_GBPS while URGENT. -/
def execRebuildBucketRefill (s : State) : Outcome :=
  let g := if bit (rd s pgING 0x140) 18 then rdF s pgING 0x118 31 22 else rdF s pgING 0x118 21 12
  .next { s with ing := { s.ing with bucket := s.ing.bucket + g * 10000 } }

/-! The sweep (R397). -/

/-- An entry's body meets a pending extent, and is not marked yet. -/
def meetsExtent (es : List SlagEntry) (e : MapEntry) : Bool :=
  e.hasBody && !glocSlag e.gloc && es.any fun x => overlapU e.gloc e.len16 x.gloc x.len16

/-- SWEEP_PASS_START (R397): every live and retained entry that meets a pending extent gets SLAG 1 through an item of the open epoch, and a
GRAIN entry. -/
def execSweepPassStart (s : State) : Outcome :=
  let es := extentsPending s
  .next (if !alive s pgLDG || !live s pgING 4 || es.isEmpty || s.ldg.sweep.isSome then s
    else
      let ms := s.ldg.img.map.filter fun x => meetsExtent es x.2
      let rs := s.ldg.img.ret.filter fun x => meetsExtent es x.2
      let s := ms.foldl (fun s x =>
        let ns := x.1 / 2 ^ 35
        let g := x.1 % 2 ^ 35
        slagAdd (slagGrain slREBUILD ns g)
          (toLedger (openItem (.mapChange ns g { x.2 with gloc := glocMark x.2.gloc } x.2.gloc)) s)) s
      let s := rs.foldl (fun s x =>
        let ns := x.1 / 2 ^ 51
        let id := x.1 / 2 ^ 35 % 2 ^ 16
        let g := x.1 % 2 ^ 35
        slagAdd { slagGrain slREBUILD ns g with snap := true, snapId := id }
          (toLedger (openItem (.retain id ns g { x.2 with gloc := glocMark x.2.gloc })) s)) s
      sweepStat (wrF pgING 0x184 31 24 0x80 { s with ldg := { s.ldg with sweep := some (es, ms.length + rs.length) } }))

/-- SWEEP_PASS_END (R397): the extents pending at the start of the pass are removed. -/
def execSweepPassEnd (s : State) : Outcome :=
  .next (match s.ldg.sweep with
    | none => s
    | some (es, n) =>
      let s := { s with ldg := { s.ldg with
        sweep := none
        img := { s.ldg.img with slag := slagRemove (fun e => es.contains e) s.ldg.img.slag } } }
      sweepStat (wrF pgING 0x184 31 24 100 (hallmark 0x1708 0 [pw es.length, pw n] (slagCount es.length s))))

end Sys2Proof.Machine
end

