-- ==== Sys2Proof/Machine/LedgerFlow.lean ====
section
/-! DEFINITION. The ledger's own work: journal records, accepted items, the close and the phases of an epoch
(spec/03_epochs_and_ledger.md). -/

namespace Sys2Proof.Machine

/-! Twin cores and phases (R99 to R105). -/

def judgeBusy (s : State) : Bool := bit (rd s pgLDG 0x160) 6
def simplex (s : State) : Bool := bit (rd s pgLDG 0x160) 7
/-- State of a core: 0 ACTIVE, 1 STANDBY, 2 OUT, 3 RESYNC; core 0 is A. -/
def coreSt (s : State) (c : Nat) : Nat := rdF s pgLDG 0x160 (3 + 2 * c) (2 + 2 * c)
def coreSet (c v : Nat) (s : State) : State := wrF pgLDG 0x160 (3 + 2 * c) (2 + 2 * c) v s
def activeCore (s : State) : Nat := rdF s pgLDG 0x160 0 0
/-- The ledger takes requests: RUN or DRAIN, replay done, no quench (R94). -/
def ledgerLive (s : State) : Bool :=
  (pgState s pgLDG == stRUN || pgState s pgLDG == stDRAIN) && s.ldg.replayed && !inQ s
/-- The ledger works on them: no judge runs (R100, R105). -/
def ledgerOn (s : State) : Bool := ledgerLive s && !judgeBusy s

/-- Epochs closed and not committed, oldest first. -/
def closedEps (s : State) : List (Nat × Ep) := s.ldg.eps.filter fun e => e.2.closed
/-- LAG on this head (R72), and on the partner as its commit records show it. -/
def lag (s : State) : Nat := (closedEps s).length
def peerLag (s : State) : Nat := epochOpen s - Nat.max s.ldg.pairedAt (s.ldg.peerCommitted + 1)

/-- EPOCH_STAT.PHASE. -/
def phase (s : State) : Nat :=
  if judgeBusy s then 5
  else if !s.ldg.replayed then 4
  else match (closedEps s).find? fun e => !e.2.drained with
    | some e => if e.2.drainStarted then 2 else 1
    | none => if paired s && decide (s.ldg.pairedAt < epochOpen s) && decide (s.ldg.peerDrainedTo + 1 < epochOpen s) then 3 else 0
/-- LAG and PHASE follow. -/
def ldgStat (s : State) : State := wrF pgLDG 0x120 2 0 (phase s) (wrF pgLDG 0x120 11 8 (lag s) s)

/-! The tail (R89, R96, R97). -/

abbrev qLJ : Nat := 0x100000000
abbrev qLJMIRROR : Nat := 0x120000000
def ljPlace (j : Nat) : Nat := j % 2 ^ 21 * 256
def jseqNext (s : State) : Nat := (rd64 s pgLDG 0x130).toNat
/-- Fill of the own tail in %. -/
def ownPct (s : State) : Nat := (jseqNext s - s.ldg.tailJseq) * 100 / 2 ^ 21

/-- OWN_PCT follows; at 90 % HQ stops fetching new write commands until the fill falls below (R97). -/
def journalFill (s : State) : State :=
  let p := ownPct s
  let s := wrF pgLDG 0x128 7 0 p s
  if 90 ≤ p ∧ !s.ldg.throttled then
    hallmark 0x1606 0 [pw p] (wrF pgHQ 0x108 1 1 1 { s with ldg := { s.ldg with throttled := true } })
  else if p < 90 ∧ s.ldg.throttled then wrF pgHQ 0x108 1 1 0 { s with ldg := { s.ldg with throttled := false } }
  else s

/-- Write the next record to the tail. -/
def tailPut (b : List Byte) (s : State) : State :=
  let j := jseqNext s
  journalFill (wr64 pgLDG 0x130 (BitVec.ofNat 64 (j + 1)) (qstWrite (qLJ + ljPlace j) b s))

/-- Write a journal record of an epoch, and send its mirror copy (R89). -/
def writeRecord (e : Nat) (b : Nat → Nat → List Byte) (s : State) : State :=
  let x := epOf s e
  let j := jseqNext s
  let r := b x.recs j
  let s := tailPut r s
  let s := epPut e { x with
    recs := x.recs + 1
    jfirst := if x.recs = 0 then j else x.jfirst
    jlast := j
    crcRaw := r.foldl (crcByteR poly64n) x.crcRaw } s
  if paired s ∧ !x.alone then sendW clsJOURNAL 0x13 j r s else s

/-- The items that make up the next record: up to seven of one type (R89). -/
def firstRun : List JItem → List JItem
  | [] => []
  | i :: t => (i :: t.takeWhile fun j => j.rtype == i.rtype).take 7
/-- No later item can join them. -/
def runFull (l : List JItem) : Bool := (firstRun l).length == 7 || decide ((firstRun l).length < l.length)

/-- Write the next record of an epoch's waiting items. -/
def writeRun (e : Nat) (s : State) : State :=
  let x := epOf s e
  match firstRun x.unwritten with
  | [] => s
  | i :: t =>
    let s := epPut e { x with unwritten := x.unwritten.drop (t.length + 1) } s
    writeRecord e (fun n j => jRecord i.rtype (headId s) n e j (i :: t)) s

/-- Write every item that waits for a record. -/
def flushItems (e : Nat) (s : State) : State :=
  (List.range (epOf s e).unwritten.length).foldl (fun s _ => writeRun e s) s

/-- Write the records that no later item can join. -/
def flushFull (e : Nat) (s : State) : State :=
  (List.range (epOf s e).unwritten.length).foldl (fun s _ => if runFull (epOf s e).unwritten then writeRun e s else s) s

/-! Items (R85, R90, R786). -/

/-- The change of a grain that an epoch up to `e` holds and has not committed, the latest. -/
def pendingEntry (s : State) (ns g e : Nat) : Option MapEntry :=
  let eps : List (Nat × Ep) := s.ldg.eps.filter fun x => decide (x.1 ≤ e)
  let items := eps.flatMap fun x => x.2.items
  (items.filterMap fun i => match i with
    | .mapChange n h new _ => if n = ns ∧ h = g then some new else none
    | _ => none).getLast?
/-- A grain's entry as the next commit of `e` will find it. -/
def entryBefore (s : State) (ns g e : Nat) : MapEntry := (pendingEntry s ns g e).getD (liveEntry s.ldg.img ns g)

/-- The item with OLD_GLOC filled in. -/
def fillOld (s : State) (e : Nat) (i : JItem) : JItem :=
  match i with
  | .mapChange ns g new old =>
    if inPlace e new then .mapChange ns g new old
    else
      let x := entryBefore s ns g e
      .mapChange ns g new (if x.mapped then x.gloc else 0)
  | j => j

/-- Place an item in an epoch: a record is written when seven items of one type have gathered, or the type changes; while the judge runs,
no output leaves LDG (R99, R101). -/
def placeItem (e : Nat) (use : ItemUse) (body : Nat) (item : JItem) (s : State) : State :=
  let i := fillOld s e item
  let x := epOf s e
  let s := epPut e { x with
    items := x.items ++ [i]
    unwritten := x.unwritten ++ [i]
    stored := x.stored + (if use = .stored then 1 else 0)
    dedup := x.dedup + (if use = .dedup then 1 else 0)
    discard := x.discard + (if use = .discard then 1 else 0)
    held := if use = .stored ∨ use = .dedup then x.held ++ [body] else x.held } s
  if judgeBusy s then s else flushFull e s

/-! Closing an epoch (R65 to R69, R72 to R75). -/

/-- The epoch that follows `e` on this head. -/
def epochAfter (s : State) (e : Nat) : Nat :=
  match List.find? (fun (x : Nat × Ep) => decide (e < x.1)) s.ldg.eps with
  | some x => x.1
  | none => epochOpen s

/-- Set FRG_STAT.TAPER or DRAIN on every forge. -/
def forgeBits (b v : Nat) (s : State) : State :=
  (List.range 16).foldl (fun s f => wrF (pgFRG + f) 0x104 b b v s) s

/-- The failed head's image joins this head's (R98): namespaces, bodies and ingots of the two have keys of their own. -/
def Image.join (a b : Image) : Image :=
  { map := b.map.foldl (fun t e => Tab.put t e.1 e.2) a.map
    ret := b.ret.foldl (fun t e => Tab.put t e.1 e.2) a.ret
    refs := b.refs.foldl (fun t e => Tab.put t e.1 e.2) a.refs
    snaps := b.snaps.foldl (fun l x => snapInsert x l) a.snaps
    clones := a.clones ++ b.clones
    cleared := a.cleared ++ b.cleared
    ingots := b.ingots.foldl (fun t e => Tab.put t e.1 e.2) a.ingots
    rosters := b.rosters.foldl (fun t e => Tab.put t e.1 e.2) a.rosters
    slag := a.slag ++ b.slag
    ejected := a.ejected ++ b.ejected.filter fun e => !(a.ejected.any fun x => x.1 == e.1) }

/-- What an image holds of one namespace, with the ingots of the half `h` (R356). -/
def Image.ofNs (i : Image) (ns h : Nat) : Image :=
  { map := i.map.filter fun e => e.1 / 2 ^ 35 == ns
    ret := i.ret.filter fun e => e.1 / 2 ^ 51 == ns
    refs := []
    snaps := i.snaps.filter fun x => x.ns == ns
    clones := i.clones.filter fun c => c.ns == ns
    cleared := i.cleared.filter fun r => r / 2 ^ 27 == ns
    ingots := i.ingots.filter fun e => e.1 / 2 ^ 39 == h
    rosters := i.rosters.filter fun e => e.1 / 2 ^ 39 == h
    slag := []
    ejected := [] }
/-- An image without one namespace. -/
def Image.without (i : Image) (ns : Nat) : Image :=
  { i with
    map := i.map.filter fun e => e.1 / 2 ^ 35 != ns
    ret := i.ret.filter fun e => e.1 / 2 ^ 51 != ns
    snaps := i.snaps.filter fun x => x.ns != ns
    clones := i.clones.filter fun c => c.ns != ns
    cleared := i.cleared.filter fun r => r / 2 ^ 27 != ns }

/-- A namespace changes heads at a close (R8, R10, R591). The gaining head reads it as the giving head committed it (R14). -/
def transfer (s : State) (t : Nat × Nat × Nat) : State :=
  if t.2.1 = headId s then
    hqAsync aeANA { s with ldg := { s.ldg with
      owned := s.ldg.owned ++ [t.1]
      given := s.ldg.given.filter (· != t.1)
      img := (s.ldg.img.without t.1).join ((Config.peerNs t.1 t.2.2).ofNs t.1 (1 - headId s)) } }
  else { s with ldg := { s.ldg with owned := s.ldg.owned.filter (· != t.1), given := s.ldg.given ++ [t.1] } }

/-- The epoch `e` that is open closes, and `new` opens: pending TAKEs pin `e` (R106), ING_GEOM and ownership changes take effect
(R352, R591), WC tapers (R66). Their TAKE items are written with the epoch's last records (R113, R785). -/
def closeTo (e new : Nat) (s : State) : State :=
  let early := if leader s then s.ldg.earlyDue else s.ldg.earlyReq
  let s := epPut e { epOf s e with closed := true, early := early } s
  let s := { ({ s with ldg := { s.ldg with
      snapOps := s.ldg.snapOps ++ s.ldg.takes.map fun t => (e, .take t.1 t.2 e)
      snapWait := s.ldg.snapWait.map fun w => (w.1, some (w.2.getD e))
      takes := []
      timerDue := false
      earlyReq := false
      earlyDue := false
      stalled := false } } : State) with ing := { s.ing with geom := rd s pgING 0x100 } }
  let s := wr64 pgLDG 0x110 (BitVec.ofNat 64 new) s
  let ts := s.ldg.transfers
  let s := (ts.filter fun t => decide (t.2.2 ≤ e)).foldl transfer
    { s with ldg := { s.ldg with transfers := ts.filter fun t => decide (e < t.2.2) } }
  ldgStat (forgeBits 4 1 s)
def doClose (e : Nat) (s : State) : State := closeTo e (e + 1) s

/-- The leader may close the open epoch: its own drains have ended, the follower's too, and LAG allows on both (R72,
R75). -/
def mayClose (s : State) : Bool :=
  !((closedEps s).any fun e => !e.2.drained) && (!paired s || epochOpen s == s.ldg.pairedAt || decide (epochOpen s ≤ s.ldg.peerDrainedTo + 1))
def lagFull (s : State) : Bool :=
  let m := rdF s pgLDG 0x100 27 24
  decide (m ≤ lag s) || (paired s && decide (m ≤ peerLag s))

/-- The leader closes when its timer has expired, or an early close is due, and the rest allows; a close that only LAG delays raises
LAG_STALL once (R72, R73, R75). -/
def tryClose (s : State) : State :=
  if !ledgerOn s || !leader s || !(s.ldg.timerDue || s.ldg.earlyDue) || !mayClose s then s
  else if lagFull s then
    if s.ldg.stalled then s
    else
      let n := Nat.max (lag s) (if paired s then peerLag s else 0)
      hallmark 0x1604 0 (pw2 (epochOpen s) ++ [pw n]) (event pgLDG 3 (pw n) { s with ldg := { s.ldg with stalled := true } })
  else
    let e := epochOpen s
    let s := doClose e s
    if paired s then sendW clsEPOCH 0x21 e [] s else s

/-- A handshake message names an epoch it may not (R80). -/
def epochSkew (s : State) : State := takeoverCause tcEPOCH_SKEW (recordFault pgLDG 0x82 0 s)

/-! Draining (R67 to R69, R195). -/

/-- The oldest epoch that is closed and whose drain has not ended. -/
def drainingEpoch (s : State) : Option (Nat × Ep) := (closedEps s).find? fun e => !e.2.drained

/-- WC holds no grain of `e` that a forge has not received. -/
def allHanded (s : State) (e : Nat) : Bool := !(s.wc.slots.any fun x => decide (x.2.st = .ready) && !x.2.lost && x.2.epoch == e)

/-- One grain of a forge when the drain begins (R195): a lookup that waits on a page is late, a verify that waits is a miss. -/
def endWaits (f seq : Nat) (s : State) : State :=
  match grainFind s f seq with
  | none => s
  | some g => match g.look with
    | .page => settleMiss f { g with look := .late } (bump (pgFRG + f) 0x144 1 s)
    | .cand _ _ => verifyMiss f g s
    | _ => s
/-- A forge when the drain begins. -/
def forgeDrain (f : Nat) (s : State) : State :=
  frgTurn f (((fwinOf s f).map (·.h.seq)).foldl (fun s q => endWaits f q s) s)

/-- Work of `e` remains in WC (grains a forge has returned, R197), in a forge, a caster queue or a ledger queue (R67). -/
def drainBusy (s : State) (e : Nat) : Bool :=
  !allHanded s e ||
  ((List.range 16).any fun f => (fwinOf s f).any fun g => decide (g.h.epoch ≤ e)) ||
  (s.frg.outs.any fun q => q.2.any fun h => decide (h.epoch ≤ e)) ||
  (s.ldg.inbox.any fun i => match i.epoch with | some n => decide (n ≤ e) | none => false)

/-- Close the billet of Anneal, or of the checkpoint writer, in an ingot: its rest is a cull (R360). -/
def closeAnneal (c : Casting) : Casting :=
  let culls := (List.range c.billets.length).filterMap fun i =>
    let b := c.billets.getD i ⟨0, 0, true⟩
    if b.closed then none
    else some ({ kind := hiCULL, forge := 0xFF, epoch := c.epoch, len16 := 16384 - b.cursor
                 gloc := gloc c.ingot (i * 16384 + b.cursor) 0 } : HandIn)
  { c with got := c.got ++ culls, billets := c.billets.map fun b => { b with closed := true, cursor := 16384 } }

/-- At the end of the drain every open ingot of the epoch is cast (R69, R359, R360). -/
def castOpen (e : Nat) (s : State) : State :=
  (s.ing.cast.filter fun c => !c.casting && c.epoch == e).foldl (fun s c =>
    let c := if c.reloc || c.ckpt then closeAnneal c else c
    let s := castingPut c s
    if allIn c then castIngot c s else s) s

/-- A core that resynchronised during the drain stands by; comparison goes on (R103). -/
def resyncDone (c : Nat) (s : State) : State :=
  if coreSt s c = 3 ∧ !s.ldg.resyncNext then
    hallmark 0x1603 0 [pw c] (wrF pgLDG 0x164 c c 0 (wrF pgLDG 0x160 7 7 0 (coreSet c 1 s)))
  else s
/-- The end of a drain: a core in RESYNC stands by, or begins to wait for the next drain no longer. -/
def resyncEnd (s : State) : State :=
  let s := resyncDone 1 (resyncDone 0 s)
  { s with ldg := { s.ldg with resyncNext := false } }

end Sys2Proof.Machine
end

