-- ==== Sys2Proof/Machine/Commit.lean ====
section
/-! DEFINITION. The commit of an epoch (spec/03_epochs_and_ledger.md): its commit record, what it changes, and what it frees. -/

namespace Sys2Proof.Machine

/-! The items of relocations (R433, R434). -/

/-- The entry names a body. -/
def namesBody (b : W64) (e : MapEntry) : Bool := e.hasBody && glocBody e.gloc == glocBody b

/-- The live and the retained entries of an image that name a body. -/
def liveRefs (i : Image) (b : W64) : List (Nat × MapEntry) := i.map.filter fun x => namesBody b x.2
def keptRefs (i : Image) (b : W64) : List (Nat × MapEntry) := i.ret.filter fun x => namesBody b x.2

/-- The roster of a body's ingot names a referer, or no longer names them all, so that every leaf and table is walked (R428, R429). -/
def rosterNames (i : Image) (b : W64) (ns g : Nat) : Bool :=
  let r := Tab.getD i.rosters {} (glocIngot b)
  r.full || r.recs.contains (.referer ns g (glocOffset b))
/-- The referers that Anneal finds. -/
def foundLive (i : Image) (b : W64) : List (Nat × MapEntry) :=
  (liveRefs i b).filter fun x => rosterNames i b (x.1 / 2 ^ 35) (x.1 % 2 ^ 35)
def foundKept (i : Image) (b : W64) : List (Nat × MapEntry) :=
  (keptRefs i b).filter fun x => rosterNames i b (x.1 / 2 ^ 51) (x.1 % 2 ^ 35)

/-- The items that move a body's referers, for the entries that still name it. -/
def moveLive (i : Image) (m : W64 × W64) : List JItem :=
  (foundLive i m.1).map fun x => .mapChange (x.1 / 2 ^ 35) (x.1 % 2 ^ 35) { x.2 with gloc := m.2 } x.2.gloc
def moveKept (i : Image) (m : W64 × W64) : List JItem :=
  (foundKept i m.1).map fun x => .retain (x.1 / 2 ^ 35 % 2 ^ 16) (x.1 / 2 ^ 51) (x.1 % 2 ^ 35) { x.2 with gloc := m.2 }
/-- Referers that earlier items of the epoch have already replaced (R434). -/
def skipped (before after : Image) (m : W64 × W64) : Nat :=
  ((foundLive before m.1).filter fun x => !((liveRefs after m.1).any fun y => y.1 == x.1)).length +
  ((foundKept before m.1).filter fun x => !((keptRefs after m.1).any fun y => y.1 == x.1)).length

/-- What an epoch's items make of the image. -/
def commitImage (s : State) (e : Nat) : Applied := (epOf s e).items.foldl (applyItem e) (s.ldg.img, true)

/-- The TAKEs that an epoch pins and that nothing has cancelled (R106, R113). -/
def takeItems (s : State) (e : Nat) : List JItem :=
  s.ldg.snapOps.filterMap fun o => match o.2 with
    | .take ns id p => if o.1 = e then some (.take id ns p) else none
    | _ => none

/-- The last items of an epoch: the TAKEs it pins, then those of its relocations, after every other; then the records that are still
open. -/
def completeEpoch (e : Nat) (s : State) : State :=
  let takes := takeItems s e
  let s := takes.foldl (fun s i => placeItem e .other 0 i s) s
  let x := epOf s e
  let post := (commitImage s e).1
  let items := x.relocs.flatMap (moveLive post) ++ x.relocs.flatMap (moveKept post)
  let n := (x.relocs.map (skipped s.ldg.img post)).foldl (· + ·) 0
  let s := items.foldl (fun s i => placeItem e .other 0 i s) s
  let s := flushItems e (if n = 0 then s else bump pgANL 0x140 n s)
  epPut e { epOf s e with complete := true, pins := !takes.isEmpty } s

/-! The commit record (R70, R91). -/

/-- The own slots that the commit of `e` frees: stamped `e`, those SUPERSEDED only without a bound read (R321). -/
def freedBy (s : State) (e : Nat) : List (Nat × Slot) :=
  s.wc.slots.filter fun x => x.2.epoch == e && x.2.binds == 0 && decide (x.2.st = .ready ∨ x.2.st = .forging ∨ x.2.st = .superseded)

/-- A checkpoint begins at this commit (R95). -/
def ckptDue (s : State) : Bool :=
  s.ldg.running.isNone && alive s pgPLN &&
  (decide (rdF s pgLDG 0x104 15 0 ≤ s.ldg.commitsSince) || decide (rdF s pgLDG 0x104 22 16 ≤ ownPct s))

/-- The commit record of an epoch. -/
def commitRec (s : State) (e : Nat) : CommitRec :=
  let x := epOf s e
  { head := headId s, nrec := x.recs, epoch := e
    flags := b2n (!paired s || x.alone) + 2 * b2n x.pins + 4 * b2n (ckptDue s) + 8 * b2n x.early
    jfirst := if x.recs = 0 then jseqNext s else x.jfirst
    epochCrc := x.crcRaw ^^^ 0xFFFFFFFFFFFFFFFF#64
    prevCrc := s.ldg.prevCrc, ingotFirst := x.ingotFirst, ingots := x.ingots, stored := x.stored, dedup := x.dedup
    discard := x.discard, freed := 8192 * (freedBy s e).length, ckptGen := (rd64 s pgLDG 0x138).toNat }

/-! What a commit does. -/

/-- WC frees the grains of a committed epoch in both heads (R71, R321). A slot with a bound read stays until it is read. -/
def freeEpoch (tell : Bool) (e : Nat) (s : State) : State :=
  let gone := (freedBy s e).map (·.1)
  let bound := s.wc.slots.filter fun x => x.2.epoch == e && x.2.binds != 0 && decide (x.2.st = .ready ∨ x.2.st = .forging)
  let s := gone.foldl (fun s i => freeSlot i s) s
  let s := bound.foldl (fun s x => slotPut x.1 { x.2 with st := .superseded } s) s
  overBudget (if tell then sendW clsMIRROR 0x06 e [] s else s)

/-- Commands that waited for the epoch complete: a Flush, a write with FUA (R126). -/
def wakeCommands (e : Nat) (s : State) : State :=
  (s.hq.cmds.filter fun c => decide (c.st = .executing) && decide ((c.epoch.getD (e + 1)) ≤ e)).foldl (fun s c =>
    if c.opcode = opFLUSH ∧ !isAdmin s c then hqFinish c.qp c.cid scSUCCESS s
    else if c.isWrite && c.fua then writeProgress c.wseq s
    else s) s

/-- Snapshot commands whose epoch is committed have taken effect; where one of them holds BUSY, BUSY falls, SNAP_EPOCH shows what a TAKE
pinned, SNAP_DONE is raised (R118). -/
def wakeSnaps (e : Nat) (s : State) : State :=
  let mine := s.ldg.snapOps.filter fun o => decide (o.1 ≤ e)
  let s := { s with ldg := { s.ldg with snapOps := s.ldg.snapOps.filter fun o => decide (e < o.1) } }
  let s := mine.foldl (fun s o => match o.2 with
    | .clone _ _ c => { s with ldg := { s.ldg with owned := s.ldg.owned ++ [c] } }
    | _ => s) s
  match s.ldg.snapWait with
  | some (take, some p) =>
    if e < p then s
    else
      let s := if take then wr64 pgLDG 0x158 (BitVec.ofNat 64 p) s else s
      let s := wrF pgLDG 0x150 8 8 0 { s with ldg := { s.ldg with snapWait := none } }
      event pgLDG 4 (rd s pgLDG 0x150) s
  | _ => s

/-- ANL_STAT.RUNNING: relocations and member moves under way. -/
def anlStat (s : State) : State :=
  wrF pgANL 0x110 4 0 (s.anl.jobs.length + (s.ing.attempts.filter (·.move)).length) s

/-- The index entries of a relocated body name its new place; that of a body not moved loses MOVING (R433). -/
def moveIndex (e : Nat) (m : W64 × W64) (s : State) : State :=
  (s.frg.idx.flatMap fun p => (p.2.filter fun x => !x.pending && glocBody x.gloc == glocBody m.1).map fun x => (p.1, x)).foldl
    (fun s x => if glocBody m.2 = 0 then idxDrop x.1 x.2 s else idxSet x.1 x.2 { x.2 with gloc := m.2, cast := e, moving := false } s) s
/-- Every index entry of an ingot loses MOVING (R433). -/
def unmark (n : Nat) (s : State) : State :=
  (s.frg.idx.flatMap fun p => (p.2.filter fun x => x.moving && glocIngot x.gloc == n).map fun x => (p.1, x)).foldl
    (fun s x => idxSet x.1 x.2 { x.2 with moving := false } s) s

/-- References that bodies of an ingot still have. -/
def refsOf (s : State) (n : Nat) : Nat :=
  ((s.ldg.img.refs.filter fun r => r.1 / 2 ^ 24 == n).map (·.2)).foldl (· + ·) 0

/-- A relocation whose bodies are all moved and committed is over: its ingot is DEAD, or keeps a residue and returns to its former
state with its roster FULL (R433, R435). A checkpoint ingot's is over when its pages lie elsewhere (R448). -/
def endJob (j : Job) (s : State) : State :=
  let n := j.ingot
  let x := Tab.getD s.ldg.img.ingots {} n
  let drop := { ({ s with anl := { s.anl with jobs := s.anl.jobs.filter fun k => k.ingot != n } } : State) with ing := { s.ing with claims := Tab.erase s.ing.claims n } }
  if x.st = .dead ∨ x.st = .free then anlStat drop
  else if !j.copying || !j.left.isEmpty || (s.ldg.eps.any fun e => e.2.relocs.any fun m => glocIngot m.1 == n) ||
      (s.frg.outs.any fun q => q.2.any fun h => glocIngot h.old == n && h.old != 0) ||
      (s.ing.cast.any fun c => c.got.any fun h => glocIngot h.old == n && h.old != 0) then s
  else if refsOf s n = 0 then s
  else
    let img := { drop.ldg.img with rosters := Tab.put drop.ldg.img.rosters n { Tab.getD drop.ldg.img.rosters {} n with full := true } }
    let s := { drop with ldg := { drop.ldg with img := img } }
    let s := toLedger (openItem (.setState (if x.lostN = 0 then .live else .degraded) n)) (unmark n s)
    anlStat (hallmark 0x1903 0 (pw2 n ++ [pw (refsOf s n)]) (bump pgANL 0x144 1 s))

/-- A READ_ONLY module that no ingot of this head names any more is EVACUATED (R411, R436). -/
def evacuate (s : State) : State :=
  (s.pln.mods.filter fun m => decide (m.2.st = .readOnly) && !((ingotNums s).any fun n => onModule s m.1 n)).foldl
    (fun s m => hallmark 0x1902 0 [pw m.1] (pmodPut m.1 { m.2 with st := .evacuated } s)) s

/-- The first JSEQ that a checkpoint of `e` leaves in force: that of the first record of a later epoch. -/
def firstAfter (s : State) (e : Nat) : Nat :=
  (s.ldg.eps.filter fun x => decide (e < x.1) && decide (0 < x.2.recs)).foldl (fun m x => Nat.min m x.2.jfirst) (jseqNext s)

/-- A checkpoint of `e` begins: the pages that the commits up to it have changed are marked, with what they hold (R95, R446). -/
def beginCkpt (e : Nat) (s : State) : State :=
  let s := { s with pln := { s.pln with writer := some (ckptWriter s s.ldg.img (s.ldg.ckptGen + 1)) } }
  wake wkCHECKPOINT <| wr pgPLN 0x164 0x81000000#32 { s with ldg := { s.ldg with
    commitsSince := 0
    running := some ⟨s.ldg.img, e, firstAfter s e, s.ldg.prevCrc⟩ } }

/-- An epoch is committed (R71, R85 to R87, R107, R363, R415). -/
def commitEpoch (e : Nat) (s : State) : State :=
  let x := epOf s e
  let a := commitImage s e
  let working := x.held.foldl (fun (w : Tab Nat) k => let n := Tab.getD w 0 k; if n ≤ 1 then Tab.erase w k else Tab.put w k (n - 1)) s.ldg.working
  let slag := s.ldg.img.slag.length
  let s := { ({ s with ldg := { s.ldg with
      img := markDead working (deadPages (supersededBy s (· == e)) (x.pages.foldl (fun i p => rosterPage p i) a.1))
      working := working
      eps := Tab.erase s.ldg.eps e
      prevCrc := x.crc
      commitsSince := s.ldg.commitsSince + 1 } } : State) with ing := { s.ing with
      retired := s.ing.retired.filter fun r => r.2.cast != e
      claims := s.ing.claims.filter fun c => !(decide (c.2 = .relocating) && x.items.any fun i => i == .setState .relocating c.1) } }
  let s := if s.ldg.img.slag.length = slag then s else slagCount (slag - s.ldg.img.slag.length) s
  let s := ldgStat (bump64 pgLDG 0x1A0 1 (wr64 pgLDG 0x118 (BitVec.ofNat 64 e) s))
  let s := wakeSnaps e (wakeCommands e (freeEpoch (paired s && !x.alone) e s))
  let s := x.relocs.foldl (fun s m => moveIndex e m s) s
  let s := bump64 pgANL 0x130 (x.relocs.filter fun m => glocBody m.2 != 0).length s
  let s := s.anl.jobs.foldl (fun s j => endJob j s) (deadAttempts (attemptsCommitted (freeSpine e s)))
  let s := evacuate (floorUpdate (settleFences s))
  let s := if x.ckpt then beginCkpt e s else s
  tryClose s

/-- The epoch that may be committed next: the oldest, closed and drained, its ingots retired, its items accepted (R70). -/
def commitNext (s : State) : Option Nat :=
  match s.ldg.eps with
  | (e, x) :: _ =>
    if ledgerOn s && tstate s != tsFENCING && tstate s != tsFENCED && x.closed && x.drained && !(s.ing.cast.any fun c => c.epoch == e) &&
        !(s.ldg.inbox.any fun i => i.epoch == some e) then some e else none
  | [] => none

/-- The partner has acknowledged every record of an epoch (R70). -/
def recsAcked (s : State) (x : Ep) : Bool := !paired s || x.alone || x.recs == 0 || decide (x.jlast < s.ldg.ackedJseq)

/-- Write the commit record of an epoch and send its mirror copy; without a partner it commits at once (R17, R70, R102). -/
def writeCommit (e : Nat) (s : State) : State :=
  if !(commitImage s e).2 then recordFault pgLDG 0x83 0 s
  else
    let c := commitRec s e
    let b := c.bytes
    let crc := BitVec.ofNat 64 (field b 0xF8 8)
    let s := epPut e { epOf s e with written := true, ckpt := ckptDue s, crc := crc } { s with ldg := { s.ldg with retried := false } }
    let s := tailPut b s
    let s := if simplex s then hallmark 0x1602 0 (pw (1 - activeCore s) :: pw2 e) s else s
    if paired s && !(epOf s e).alone then sendW clsEPOCH 0x24 e b s else commitEpoch e s

end Sys2Proof.Machine
end

