-- ==== Sys2Proof/Machine/Forges.lean ====
section
/-! DEFINITION. Commands of the forges (spec/05_forges.md). -/

namespace Sys2Proof.Machine

/-- The forge works: RUN or DRAIN, no quench has begun (R196), and the power cap has not gated it (R731). -/
def forging (s : State) (f : Nat) : Bool :=
  alive s (pgFRG + f) && !inQ s && !bit (rd s (pgFRG + f) 0x104) 0 && !s.pwr.gated.contains f

/-- One grain of a forge that works, changed by a meaning; then the forge takes its turn. -/
def withGrain (f seq : Nat) (act : FGrain → State → State) (s : State) : State :=
  if !forging s f then s
  else match grainFind s f seq with
    | none => s
    | some g => frgTurn f (act g s)

/-- The handle of 32 bytes (R162). -/
def Handle.ofBytes (b : List Byte) : Handle :=
  { slot := field b 0 8, epoch := field b 8 6, ns := field b 0xE 2 % 2 ^ 14, grain := field b 0x10 8 % 2 ^ 35, crc := field b 0x18 4
    pif := field b 0x1C 1 % 16, domain := field b 0x1D 1 % 64, reissue := (field b 0x1E 1).testBit 0
    single := (field b 0x1E 1).testBit 1, seq := field b 0x1F 1 }
/-- A reserved bit of a handle is not 0 (R165). -/
def handleRsvd (b : List Byte) : Bool :=
  2 ^ 14 ≤ field b 0xE 2 || 2 ^ 35 ≤ field b 0x10 8 || 16 ≤ field b 0x1C 1 || 64 ≤ field b 0x1D 1 || 4 ≤ field b 0x1E 1

/-- Grains a forge may hold: 64, and TAPER_DEPTH while WC tapers (R66, R166). -/
def windowLimit (s : State) (f : Nat) : Nat :=
  if bit (rd s (pgFRG + f) 0x104) 4 then rdF s pgLDG 0x100 22 16 else 64

/-- The forges WC hands grains to: in RUN, not held or gated, their features those of the lowest forge in RUN (R164, R196, R198). -/
def handForges (s : State) : List Nat :=
  let rs := (List.range 16).filter fun f => running s (pgFRG + f)
  rs.filter fun f => rd s (pgFRG + f) 0x028 == rd s (pgFRG + rs.headD 0) 0x028 && !bit (rd s (pgFRG + f) 0x104) 0 && !s.pwr.gated.contains f
/-- Free window places of a forge. -/
def freePlaces (s : State) (f : Nat) : Nat := windowLimit s f - (fwinOf s f).length
/-- The one of some forges with the most free places, the lower number on a tie. -/
def mostFree (s : State) (fs : List Nat) : Option Nat :=
  fs.foldl (fun (b : Option Nat) f => match b with
    | none => if freePlaces s f = 0 then none else some f
    | some x => if freePlaces s x < freePlaces s f then some f else some x) none

/-- The forge WC picks: the one with the most free places (R164). One that P1 gated is handed nothing before it is ungated, which
the work that no other forge takes does (R198, R720). -/
def pickForge (s : State) : Option Nat :=
  let up := mostFree s ((handForges s).filter fun f => !s.pwr.asleep.contains (pgFRG + f))
  if up.isSome then up else mostFree s (handForges s)

/-- WC hands a slot to a forge: READY, whole, not LOST (R312), of a write that is READY whole (R133), of an epoch that has closed, the newest READY copy of
its grain, none of which was handed over in the epoch; the handle spells it (R162, R163, R197, R320). -/
def mayHand (s : State) (h : Handle) : Bool :=
  let i := slotAt s h.slot
  let x := slotOf s i
  decide (ownAddr s i = h.slot ∧ x.st = .ready ∧ x.lo ∧ x.hi ∧ h.epoch = x.epoch ∧ x.epoch < epochOpen s) &&
  !x.lost && writeSettled s x.wseq && h.ns == x.ns && h.grain == x.grain && h.crc == x.crc.toNat && h.pif == x.pif && h.domain == x.domain &&
  h.reissue == x.returned && h.single == (x.inq && (s.wc.single || !x.mirrored)) &&
  (slotsOf s x.ns x.grain).all fun e =>
    e.2.epoch != x.epoch || !(decide (e.2.st = .forging) || (decide (e.2.st = .ready) && decide (x.wseq < e.2.wseq)))

/-- The forges start an epoch: what DOM_CFG holds now is in force for its grains (R193). -/
def startEpoch (e : Nat) (s : State) : State :=
  if s.frg.domAt = some e then s else { s with frg := { s.frg with domLive := s.frg.dom, domAt := some e } }

/-- FORGE_HANDLE (R162 to R166, R198, R320): WC hands a grain to the forge it picks; its slot becomes FORGING. A handle with a wrong epoch
or a reserved bit is HANDLE_INVALID; a handle that WC would not form, or not give this forge, does not come. -/
def execForgeHandle (forge : Nat) (handle : List Byte) (s : State) : Outcome :=
  let h := Handle.ofBytes handle
  .next (if !running s (pgFRG + forge) || inQ s || bit (rd s (pgFRG + forge) 0x104) 0 || freePlaces s forge == 0 then s
    else if handleRsvd handle || h.epoch != forgeEpoch s forge then recordFault (pgFRG + forge) 0x81 0 s
    else if pickForge s ≠ some forge || !mayHand s h || (grainFind s forge h.seq).isSome then s
    else
      let i := slotAt s h.slot
      let s := startEpoch h.epoch (slotPut i { slotOf s i with st := .forging } (ungate (pgFRG + forge) s))
      frgStat forge (fwinPut forge (fwinOf s forge ++ [{ h := h }]) s))

/-- Both copies are bad: SLAG, with the failure counted and recorded (R167). -/
def crcSlag (f : Nat) (g : FGrain) (s : State) : State :=
  slagGrainIn f g (hallmark 0x1101 f ([pw g.h.ns] ++ pw2 g.h.grain ++ [0]) (bump (pgFRG + f) 0x148 1 s))

/-- The other copy is asked for (R167): from the quench store, or from the partner, where REFETCH and the link allow; else it
fails at once (R590). -/
def refetch (f : Nat) (g : FGrain) (s : State) : State :=
  if g.h.single then grainPut f { g with refetch := true } s
  else if live s pgWDL 3 && linkUp s then
    sendW clsFETCH 0x41 (slotAt s g.h.slot) [] (grainPut f { g with refetch := true } s)
  else crcSlag f g s

/-- GRAIN_INTAKE_DONE (R167 to R171): the slot has been read; `uncorr` is an uncorrectable error met on the way. -/
def execGrainIntakeDone (forge seq : Nat) (uncorr : Bool) (s : State) : Outcome :=
  .next (withGrain forge seq (fun g s =>
    if g.read || g.refetch then s
    else
      let data := slotData s g.h.slot
      let pi := slotPi s g.h.slot g.h.pif
      if !uncorr && (crc32c (data ++ pi)).toNat == g.h.crc then intakeGood forge g data pi s
      else refetch forge g s) s)

/-- The other copy of a grain: in the quench image, or as the partner sent it: data, then PI. -/
def otherCopy (s : State) (g : FGrain) : Option (List Byte) :=
  let i := slotAt s g.h.slot
  if g.h.single then
    some (qstRead s (i * 0x2000) 8192 ++ (qstRead s (qDIR + i * 0x80 + 0x28) 32).take (2 * pifBytes g.h.pif))
  else ((Tab.find? s.frg.copies i).getD none).map fun b => b.take (8192 + 2 * pifBytes g.h.pif)

/-- GRAIN_REFETCH_DATA (R167): the other copy is here; the forge goes on with it where its CRC matches. -/
def execGrainRefetchData (forge seq : Nat) (s : State) : Outcome :=
  .next (withGrain forge seq (fun g s =>
    if !g.refetch || (!g.h.single && (Tab.find? s.frg.copies (slotAt s g.h.slot)).isNone) then s
    else
      let c := otherCopy s g
      let s := { s with frg := { s.frg with copies := Tab.erase s.frg.copies (slotAt s g.h.slot) } }
      match c with
      | some b =>
        if (crc32c b).toNat = g.h.crc then
          let s := hallmark 0x1101 forge ([pw g.h.ns] ++ pw2 g.h.grain ++ [pw (if g.h.single then 2 else 1)])
            (bump (pgFRG + forge) 0x148 1 s)
          intakeGood forge g (b.take 8192) (b.drop 8192) s
        else crcSlag forge g s
      | none => crcSlag forge g s) s)

/-- REFETCH_TIMEOUT (R167): 4 µs have passed without the other copy. -/
def execRefetchTimeout (forge seq : Nat) (s : State) : Outcome :=
  .next (withGrain forge seq (fun g s => if g.refetch then crcSlag forge g s else s) s)

/-- LOOKUP_ANSWER (R175 to R180): Assay evaluates a posted lookup, or fetches the pages it needs; one whose PENDING entry was removed is
answered as a miss, and nothing is inserted. -/
def execLookupAnswer (forge seq : Nat) (s : State) : Outcome :=
  .next (withGrain forge seq (fun g s =>
    if !alive s pgASY then s
    else if g.look = .gone then missSettled forge g false s
    else if g.look = .asked then askIndex forge g s else s) s)

/-- PENDING_TIMEOUT (R179): a lookup has waited 4 µs on a PENDING entry: a miss; an entry that its forge no longer stands behind is
removed. -/
def execPendingTimeout (forge seq : Nat) (s : State) : Outcome :=
  .next (withGrain forge seq (fun g s =>
    if g.look ≠ .pend then s
    else
      let s := hallmark 0x1104 forge [pw g.h.domain, pw (field g.fp 0 4), pw (field g.fp 4 4)] (bump (pgFRG + forge) 0x154 1 s)
      let s := match matchEnt s g with
        | some (p, e) =>
          let held := ((grainFind s (e.owner / 256) (e.owner % 256)).map fun x => x.inserted && x.fp == e.fp).getD false
          if e.pending && !held then pendingGone e (idxDrop p e s) else s
        | none => s
      settleMiss forge { g with look := .late } s) s)

/-- INDEX_PAGE_FETCH_DONE (R182, R789): a page is resident; the lookups that waited for it are evaluated. -/
def execIndexPageFetchDone (page : Nat) (s : State) : Outcome :=
  .next (if !alive s pgASY || !((List.range 16).any fun f => (fwinOf s f).any fun g =>
      g.look == .page && ((idxPages s g.fp).1 == page || (idxPages s g.fp).2 == page)) then s
    else (List.range 16).foldl (fun s f =>
      ((fwinOf s f).filter fun g => g.look == .page).foldl (fun s g =>
        withGrain f g.h.seq (fun g s => if pagesThere s g.fp then evalLook f g s else s) s) s) (keepPage page s))

/-- LOOKUP_BUDGET_EXPIRY (R182): the lookup answers MISS_LATE. -/
def execLookupBudgetExpiry (forge seq : Nat) (s : State) : Outcome :=
  .next (withGrain forge seq (fun g s =>
    if g.asking then settleMiss forge { g with look := .late } (bump (pgFRG + forge) 0x144 1 s)
    else s) s)

/-- A sealed body: a grain settled as a miss is handed in, any other waits (R190). -/
def sealLands (forge : Nat) (g : FGrain) (s : State) : State :=
  match g.look with
  | .miss | .late => settleMiss forge g s
  | _ => grainPut forge g s

/-- A grain whose seal the unit was running gets its body (R188). -/
def sealEnds (forge : Nat) (g : FGrain) (s : State) : State :=
  match g.sealing with
  | .running k =>
    sealLands forge { g with sealing := .done (sealBody s k g.h.domain (g.gloc.getD 0) g.len16 g.h.epoch (g.payload ++ pad16 g.pi)) } s
  | _ => s

/-- SEAL_DONE (R188, R190): the unit has sealed the body; a grain settled as a miss is handed in. -/
def execSealDone (forge seq : Nat) (s : State) : Outcome :=
  .next (withGrain forge seq (fun g s =>
    let s := frgTurn forge s
    sealEnds forge ((grainFind s forge seq).getD g) s) s)

/-- KEY_WAIT_RETRY (R188): the seals that KEY_WAIT holds are tried again. -/
def execKeyWaitRetry (forge : Nat) (s : State) : Outcome :=
  .next (if !forging s forge then s
    else frgTurn forge (fwinPut forge ((fwinOf s forge).map fun g =>
      if g.sealing = .keyWait then { g with sealing := .asked } else g) s))

/-- Grains that wait for a billet take their reservations, in window order. -/
def resumeSeals (f : Nat) : List FGrain → State → State
  | [], s => s
  | g :: t, s =>
    if (billetOf s f).isNone then s
    else match grainFind s f g.h.seq with
      | some x => resumeSeals f t (if x.sealing = .billet then startSeal f x s else s)
      | none => resumeSeals f t s

/-- A holder wants a billet: a grain waits for one, Anneal copies, or a checkpoint has pages left to write. -/
def wantsBillet (s : State) (f : Nat) : Bool :=
  if f = hoCKPT then (match s.pln.writer with | some w => !w.left.isEmpty | none => false)
  else if f = hoANL then s.anl.jobs.any fun j => !j.left.isEmpty
  else (fwinOf s f).any fun g => g.sealing == .billet

/-- BILLET_GRANT (R184, R356 to R360): ING grants the next billet, from the oldest open ingot with one left or from a new
ingot; a full table stalls casting (hallmark 0x1704). Holder 16 is Anneal, 17 the checkpoint writer. -/
def execBilletGrant (holder : Nat) (s : State) : Outcome :=
  let epoch := if 16 ≤ holder then epochOpen s else forgeEpoch s holder
  .next (if !running s pgING || inQ s || (billetOf s holder).isSome || !wantsBillet s holder then s
    else
      let s' := match billetSource s holder epoch with
        | some _ => some s
        | none => openIngot (holder == 16) (holder == 17) epoch s
      match s' with
      | none =>
        if tableFull s ∧ !bit (rd s pgING 0x120) 31 then
          hallmark 0x1704 0 (pw2 0 ++ [0xFFFFFFFF#32]) (wrF pgING 0x120 31 31 1 s)
        else s
      | some t => match billetSource t holder epoch with
        | none => t
        | some c =>
          let t := castingPut { c with billets := c.billets ++ [⟨holder, 0, false⟩] } t
          if 16 ≤ holder then t else frgTurn holder (resumeSeals holder (fwinOf t holder) t))

/-- The reference is taken after a verify (R194): the checks of R175 again. An entry found stale then is removed and the lookup is a miss
(R176); a count at its limit is refused and counted (R86). -/
def verifyTake (f : Nat) (g : FGrain) (to_ : W64) (s : State) : State :=
  match matchEnt s g with
  | some (p, e) =>
    if e.pending then missSettled f g false s
    else if e.moving then settleMiss f { g with look := .late } s
    else if staleEnt s e then missSettled f g true (dropStale p e s)
    else if e.gloc ≠ to_ then missSettled f g false s
    else if workingCount s (glocBody e.gloc).toNat < refMax then hitSettled f g e s
    else missSettled f { g with replaces := some e.gloc } false (refRefused e.gloc s)
  | none => missSettled f g true s

/-- VERIFY_PLAINTEXT (R194): the stored grain's plaintext has come from DRP_n. -/
def execVerifyPlaintext (forge seq : Nat) (s : State) : Outcome :=
  .next (withGrain forge seq (fun g s =>
    match g.look, Tab.find? s.drp.answers (forge * 256 + seq) with
    | .cand a _, some x =>
      let s := dropVerify forge seq s
      (match x with
      | none => verifyMiss forge g s
      | some (data, pi) =>
        if data = g.data ∧ pi = g.pi then verifyTake forge g a s
        else
          let s := bump (pgFRG + forge) 0x150 1 s
          let g := { g with replaces := some a }
          match g.gloc with
          | some new => verifyMiss forge g (hallmark 0x1102 forge (pw2 a.toNat ++ pw2 new.toNat) s)
          | none => verifyMiss forge { g with differs := some a } s)
    | _, _ => s) s)

/-- VERIFY_TIMEOUT (R194): the plaintext has not come within VERIFY_BUDGET. -/
def execVerifyTimeout (forge seq : Nat) (s : State) : Outcome :=
  .next (withGrain forge seq (fun g s => match g.look with
    | .cand _ _ => verifyMiss forge g s
    | _ => s) s)

/-- FLT_CLEAR (R202): FLT_CTRL.CLEAR drops every filter entry. -/
def execFltClear (value : W32) (s : State) : Outcome :=
  .next (atRegister 0 pgFRG 0x210 (fun s =>
    let s := commandWrite pgFRG 0x210 value s
    if bit value 0 then fltPut [] s else s) s)

/-- DOM_CFG_WRITE (R193, R202): the settings of the domain that DOM_SEL selects, in force from the next epoch forged. -/
def execDomCfgWrite (value : W32) (s : State) : Outcome :=
  .next (atRegister 0 pgFRG 0x224 (fun s =>
    match regAt pgFRG 0x224 with
    | none => s
    | some r =>
      if locked s pgFRG 3 then recordFault pgFRG cLOCKED_WRITE 0x224 s
      else
        let d := rdF s pgFRG 0x220 5 0
        let v := r.apply (Tab.getD s.frg.dom 0x01E00065#32 d) value
        noteRsvd pgFRG 0x224 r value { s with frg := { s.frg with dom := Tab.setD s.frg.dom 0x01E00065#32 d v } }) s)

end Sys2Proof.Machine
end

