-- ==== Sys2Proof/Machine/Ledger.lean ====
section
/-! DEFINITION. Commands of the ledger (spec/03_epochs_and_ledger.md). -/

namespace Sys2Proof.Machine

/-! Closing. -/

/-- EPOCH_TIMER_EXPIRY (R65, R72, R75, R723): the leader's timer has expired; it closes when the rest of R75 allows. In P2 the timer
is stopped. -/
def execEpochTimerExpiry (s : State) : Outcome :=
  .next (if !ledgerLive s || !leader s || pwrState s == psP2 then s
    else tryClose { s with ldg := { s.ldg with timerDue := true } })

/-- CLOSE_NOW (R73): EPOCH_CMD.CLOSE_NOW asks for an early close. -/
def execCloseNow (value : W32) (s : State) : Outcome :=
  let s := commandWrite pgLDG 0x124 value s
  .next (if bit value 0 && ledgerLive s then askClose s else s)

/-- EARLY_CLOSE_DUE (R73, R75): the open epoch is 500 µs old and an early close was asked for. -/
def execEarlyCloseDue (s : State) : Outcome :=
  .next (if ledgerLive s && leader s && s.ldg.earlyReq then tryClose { s with ldg := { s.ldg with earlyDue := true } } else s)

/-- EP_CLOSE (R75, R80): the follower closes the epoch named; one already closed is discarded, one not yet open is EPOCH_SKEW. It closes
while the judge runs too: a close writes nothing that the cores compare. -/
def execEpClose (epoch : Nat) (s : State) : Outcome :=
  let s := takeRx 0x21 s
  .next (if !alive s pgLDG || !s.ldg.replayed || epoch < epochOpen s then s
    else if epochOpen s < epoch then epochSkew s
    else if leader s then s
    else doClose epoch s)

/-- EP_ASK (R73, R76): the leader takes the follower's request for an early close of the epoch still open. -/
def execEpAsk (epoch : Nat) (s : State) : Outcome :=
  let s := takeRx 0x22 s
  .next (if ledgerLive s && leader s && live s pgLDG 2 && epoch == epochOpen s then { s with ldg := { s.ldg with earlyReq := true } } else s)

/-- EP_DRAINED (R75, R80): the partner's drain of the epoch has ended. -/
def execEpDrained (epoch : Nat) (s : State) : Outcome :=
  let s := takeRx 0x23 s
  .next (if !alive s pgLDG || !s.ldg.replayed then s
    else if epochOpen s ≤ epoch then epochSkew s
    else tryClose (ldgStat { s with ldg := { s.ldg with peerDrainedTo := Nat.max s.ldg.peerDrainedTo epoch } }))

/-! Draining. -/

/-- EPOCH_DRAIN_START (R66, R67, R195): every forge has received its last grain of the closed epoch. -/
def execEpochDrainStart (s : State) : Outcome :=
  .next (match drainingEpoch s with
    | none => s
    | some (e, x) =>
      if !ledgerOn s || x.drainStarted || !allHanded s e then s
      else
        let s := epPut e { x with drainStarted := true } s
        let s := forgeBits 5 1 (forgeBits 4 0 s)
        ldgStat (((List.range 16).filter (forging s)).foldl (fun s f => forgeDrain f s) s))

/-- EPOCH_DRAIN_END (R67 to R70, R103, R105, R359): nothing of the epoch is left in a forge, a caster queue or a ledger queue; `ns` is
the time the drain took. The open ingots of the epoch are cast, EP_DRAINED is sent, the forges start the next epoch. -/
def execEpochDrainEnd (ns : Nat) (s : State) : Outcome :=
  .next (match drainingEpoch s with
    | none => s
    | some (e, x) =>
      if !ledgerOn s || !x.drainStarted || drainBusy s e then s
      else
        let s := epPut e { x with drained := true } s
        let s := wrF pgLDG 0x120 31 16 (Nat.min ns 0xFFFF) s
        let s := castOpen e s
        let s := (List.range 16).foldl (fun s f => wr64 (pgFRG + f) 0x108 (BitVec.ofNat 64 (epochAfter s e)) s) (forgeBits 5 0 s)
        let s := resyncEnd s
        let s := if paired s && !x.alone then sendW clsEPOCH 0x23 e [] s else s
        tryClose (ldgStat s))

/-! Items and commits. -/

/-- LDG_ITEM_ACCEPT (R786): the oldest item passed to the ledger is placed in its epoch: its own, or the one that is open now. -/
def execLdgItemAccept (s : State) : Outcome :=
  .next (match s.ldg.inbox with
    | [] => s
    | i :: t =>
      if !ledgerOn s then s
      else placeItem (i.epoch.getD (epochOpen s)) i.use i.body i.item { s with ldg := { s.ldg with inbox := t } })

/-- EPOCH_COMMIT_RECORD (R70, R94, R105): the oldest closed epoch's last items are placed; once its records are acknowledged the commit
record is written. One already written that the partner has acknowledged while the judge ran, or whose partner is gone, is committed
(R17). -/
def execEpochCommitRecord (s : State) : Outcome :=
  .next (match commitNext s with
    | none => s
    | some e =>
      let s := if (epOf s e).complete then s else completeEpoch e s
      let x := epOf s e
      if x.written then (if paired s && !x.alone && !x.acked then s else commitEpoch e s)
      else if recsAcked s x then writeCommit e s
      else s)

/-- The grains that a hint covers whole. -/
def hintGrains (slba n : Nat) : List Nat :=
  (List.range ((slba + n) / 2 - (slba + 1) / 2)).map fun i => (slba + 1) / 2 + i

/-- A deallocated grain is unmapped, unless what it holds is newer than the hint. -/
def unmapGrain (ns wseq epoch g : Nat) (s : State) : State :=
  let x := entryBefore s ns g (epochOpen s)
  if !x.mapped || decide (epoch ≤ x.birth) || (slotsOf s ns g).any (fun e => decide (wseq < e.2.wseq)) then s
  else placeItem (epochOpen s) .discard 0 (.mapChange ns g {} 0) s

/-- DEALLOCATE_APPLY (R88, R145, R440): the oldest hint is applied in the epoch that is open. -/
def execDeallocateApply (s : State) : Outcome :=
  .next (match s.ldg.hints with
    | [] => s
    | (ns, slba, n, wseq, epoch) :: t =>
      if !ledgerOn s then s
      else
        let s := { s with ldg := { s.ldg with hints := t } }
        if owns s ns then (hintGrains slba n).foldl (fun s g => unmapGrain ns wseq epoch g s) s else s)

/-! The twin cores. -/

/-- The epoch the cores work on: the oldest that is closed and not committed, else the open one. -/
def judgeEpoch (s : State) : Nat := match closedEps s with
  | x :: _ => x.1
  | [] => epochOpen s

/-- TWIN_MISMATCH (R100): the compare buffer finds a difference at a beat: both cores stop, the judge runs. -/
def execTwinMismatch (beat : Nat) (s : State) : Outcome :=
  .next (if !alive s pgLDG || simplex s || judgeBusy s || coreSt s (1 - activeCore s) != 1 then s
    else
      let s := wrF pgLDG 0x160 6 6 1 (bump pgLDG 0x168 1 s)
      ldgStat (hallmark 0x1601 0 (pw2 (judgeEpoch s) ++ [pw beat]) (event pgLDG 2 0 s)))

/-- A core goes OUT; the other is active, alone (R100, R102). -/
def coreOut (c : Nat) (s : State) : State :=
  hallmark 0x1602 0 (pw c :: pw2 (judgeEpoch s))
    (wrF pgLDG 0x160 7 7 1 (wrF pgLDG 0x160 0 0 (1 - c) (coreSet (1 - c) 0 (coreSet c 2 s))))

/-- JUDGE_SELF_CHECK_DONE (R100 to R105): the outcome of the judge's self-check of both cores, and its time. The held outputs were
never released, so the work is redone from the last released state: records that waited are written, a close that waited is made. -/
def execJudgeSelfCheckDone (aPass bPass : Bool) (us : Nat) (s : State) : Outcome :=
  .next (if !alive s pgLDG || !judgeBusy s || (!s.a0 && decide (400 < us)) then s
    else
      let both := aPass && bPass
      let s := wr pgLDG 0x16C (BitVec.ofNat 32 (Nat.min us 0xFFFF + b2n aPass * 2 ^ 16 + b2n bPass * 2 ^ 17 + b2n both * 2 ^ 18)) s
      let s := wrF pgLDG 0x160 6 6 0 s
      let again := s.ldg.retried
      let s := match aPass, bPass with
        | true, true =>
          if again then coreOut (1 - activeCore s) s else { s with ldg := { s.ldg with retried := true } }
        | true, false => coreOut 1 s
        | false, true => coreOut 0 s
        | false, false => recordFault pgLDG 0x80 0 s
      tryClose (ldgStat (if ledgerOn s then (s.ldg.eps.map (·.1)).foldl (fun s e => flushFull e s) s else s)))

/-- TWIN_CMD.REPAIR_A or REPAIR_B: a core that is OUT is reset and checked. -/
def repair (c : Nat) (value : W32) (s : State) : State :=
  let s := commandWrite pgLDG 0x164 value s
  if bit value c && alive s pgLDG && coreSt s c == 2 && s.ldg.repairing.isNone then
    wrF pgLDG 0x164 c c 1 { s with ldg := { s.ldg with repairing := some c } }
  else s

/-- REPAIR_A (R103). -/
def execRepairA (value : W32) (s : State) : Outcome := .next (repair 0 value s)
/-- REPAIR_B (R103). -/
def execRepairB (value : W32) (s : State) : Outcome := .next (repair 1 value s)

/-- REPAIR_SELF_CHECK_DONE (R103): the repaired core enters RESYNC, or stays OUT and its REPAIR bit clears. -/
def execRepairSelfCheckDone (pass : Bool) (s : State) : Outcome :=
  .next (match s.ldg.repairing with
    | none => s
    | some c =>
      let s := { s with ldg := { s.ldg with repairing := none } }
      if pass then coreSet c 3 { s with ldg := { s.ldg with resyncNext := (closedEps s).any fun x => x.2.drainStarted && !x.2.drained } }
      else wrF pgLDG 0x164 c c 0 s)

/-! Snapshots (R106 to R113, R117, R118). -/

abbrev spDONE : Nat := 0x00
abbrev spLIMIT : Nat := 0x10
abbrev spUNKNOWN_NS : Nat := 0x11
abbrev spNOT_OWNER : Nat := 0x12
abbrev spBUSY : Nat := 0x13
abbrev spID_IN_USE : Nat := 0x14
abbrev spNO_SNAP : Nat := 0x15
abbrev spDEPTH : Nat := 0x16

/-- A snapshot, taken or pending, of a namespace. -/
def snapHeld (s : State) (ns id : Nat) : Bool := (snapFind s.ldg.img ns id).isSome || s.ldg.takes.contains (ns, id) ||
  s.ldg.snapOps.any fun o => match o.2 with | .take n i _ => n == ns && i == id | _ => false
/-- Snapshots of a namespace (of all: `none`), the pending ones included. -/
def snapCount (s : State) (ns : Option Nat) : Nat :=
  let q := fun (n : Nat) => match ns with | some m => n == m | none => true
  (s.ldg.img.snaps.filter fun x => q x.ns).length + (s.ldg.takes.filter fun t => q t.1).length +
  (s.ldg.snapOps.filter fun o => match o.2 with | .take n _ _ => q n | _ => false).length

/-- The namespace exists, and is this head's. -/
def nsCode (s : State) (ns : Nat) : Nat := if !(nsOf s ns).active then spUNKNOWN_NS else if !owns s ns then spNOT_OWNER else spDONE
/-- The code of taking a snapshot of a namespace under an ID beside `n` others of one TAKE (R112). -/
def takeCode (s : State) (n : Nat) (p : Nat × Nat) : Nat :=
  if nsCode s p.1 ≠ spDONE then nsCode s p.1
  else if snapHeld s p.1 p.2 then spID_IN_USE
  else if 1024 ≤ snapCount s (some p.1) ∨ 65536 ≤ snapCount s none + n then spLIMIT
  else spDONE
/-- The first code of some that is not DONE. -/
def firstCode (cs : List Nat) : Nat := (cs.find? fun c => c != spDONE).getD spDONE

/-- A range of a clone is still inherited (R110, R111): fewer are cleared than its namespace or its parent's holds. -/
def inherits (s : State) (c : Clone) : Bool :=
  decide ((s.ldg.img.cleared.filter fun r => r / 2 ^ 27 == c.ns).length <
    (Nat.max (nsOf s c.ns).grains.toNat (nsOf s c.parent).grains.toNat + 255) / 256)

/-- The code of deleting a snapshot: a parent of a clone that still inherits is busy (R111). -/
def deleteCode (s : State) (ns id : Nat) : Nat :=
  if nsCode s ns ≠ spDONE then nsCode s ns
  else if s.ldg.armed.contains (ns, id) then spDONE
  else if !snapHeld s ns id ∨ (s.ldg.snapOps.any fun o => match o.2 with | .delete n i _ => n == ns && i == id | _ => false) then spNO_SNAP
  else if (s.ldg.img.clones.any fun c => c.parent == ns && c.snap == id && inherits s c) ||
      (s.ldg.snapOps.any fun o => match o.2 with | .clone p i _ => p == ns && i == id | _ => false) then spBUSY
  else spDONE

/-- The depth a clone of a namespace would have. -/
def cloneDepth (s : State) (parent : Nat) : Nat := match cloneOf s.ldg.img parent with | some c => c.depth + 1 | none => 1
/-- The code of cloning a snapshot into a namespace (R112). -/
def cloneCode (s : State) (parent id child : Nat) : Nat :=
  if nsCode s parent ≠ spDONE then nsCode s parent
  else if (snapFind s.ldg.img parent id).isNone then spNO_SNAP
  else if 8 < cloneDepth s parent then spDEPTH
  else if (nsOf s child).active || (cloneOf s.ldg.img child).isSome || (s.ldg.snapOps.any fun o => match o.2 with | .clone _ _ c => c == child | _ => false)
    then spLIMIT
  else spDONE

/-- SNAP_RESULT: ID, BUSY, CODE. -/
def snapResult (id code : Nat) (busy : Bool) (s : State) : State :=
  wr pgLDG 0x150 (BitVec.ofNat 32 (id * 2 ^ 16 + b2n busy * 256 + code)) s
def snapBusy (s : State) : Bool := bit (rd s pgLDG 0x150) 8

/-- A command waits for a commit: BUSY (R118). -/
def snapWaits (id : Nat) (take : Bool) (e : Option Nat) (s : State) : State :=
  snapResult id spDONE true { s with ldg := { s.ldg with snapWait := some (take, e) } }

/-- TAKE of some pairs: they are pinned at the next close (R106). -/
def takePairs (id : Nat) (ps : List (Nat × Nat)) (s : State) : State :=
  snapWaits id true none { s with ldg := { s.ldg with takes := s.ldg.takes ++ ps } }

/-- A TAKE of a namespace under an ID has been pinned its epoch's records do not name it yet. -/
def takeOpen (s : State) (ns id : Nat) : Bool :=
  s.ldg.snapOps.any fun o => match o.2 with
    | .take n i _ => n == ns && i == id && !(epOf s o.1).complete
    | _ => false

/-- DELETE of a snapshot: an armed or pending one is withdrawn, a taken one is deleted in the open epoch (R109, R113). Answers the epoch
that the command waits for. -/
def deleteSnap (ns id : Nat) (s : State) : Option Nat × State :=
  if s.ldg.takes.contains (ns, id) || s.ldg.armed.contains (ns, id) || takeOpen s ns id then
    (none, { s with ldg := { s.ldg with
      takes := s.ldg.takes.filter fun t => t != (ns, id)
      armed := s.ldg.armed.filter fun t => t != (ns, id)
      snapOps := s.ldg.snapOps.filter fun o => match o.2 with
        | .take n i _ => !(n == ns && i == id && !(epOf s o.1).complete)
        | _ => true } })
  else
    let p := match snapFind s.ldg.img ns id with
      | some x => x.epoch
      | none => (s.ldg.snapOps.findSome? fun o => match o.2 with | .take n i p => if n = ns ∧ i = id then some p else none | _ => none).getD 0
    let e := epochOpen s
    let s := placeItem e .other 0 (.delete id ns p) s
    (some e, { s with ldg := { s.ldg with snapOps := s.ldg.snapOps ++ [(e, .delete ns id p)] } })

/-- A write to SNAP_CMD: ignored while BUSY (R118), without its feature, or where the ledger is not in RUN or DRAIN. -/
def snapCmd (op feat : Nat) (value : W32) (act : Nat → Nat → State → State) (s : State) : State :=
  if snapBusy s then conflict pgLDG 0x14C s
  else
    let s := commandWrite pgLDG 0x14C value s
    if bits value 3 0 ≠ op || !live s pgLDG feat || !ledgerLive s then s
    else act (rdF s pgLDG 0x140 13 0) (rdF s pgLDG 0x144 15 0) s

/-- SNAP_ARM (R112, R113): the namespace joins the armed set under the ID. -/
def execSnapArm (value : W32) (s : State) : Outcome :=
  .next (snapCmd 1 0 value (fun ns id s =>
    let was := s.ldg.armed.any fun a => a.1 == ns
    let c := takeCode s 0 (ns, id)
    let c := if c = spDONE ∧ !was ∧ 256 ≤ s.ldg.armed.length then spLIMIT else c
    let s := if c = spDONE then { s with ldg := { s.ldg with armed := (s.ldg.armed.filter fun a => a.1 != ns) ++ [(ns, id)] } } else s
    snapResult id c false s) s)

/-- SNAP_TAKE (R106, R113): the armed set, or the selected pair alone, is pinned at the next close; the set is empty then. -/
def execSnapTake (value : W32) (s : State) : Outcome :=
  .next (snapCmd 2 0 value (fun ns id s =>
    let ps := if s.ldg.armed.isEmpty then [(ns, id)] else s.ldg.armed
    let c := firstCode (ps.map (takeCode s (ps.length - 1)))
    let s := { s with ldg := { s.ldg with armed := [] } }
    if c = spDONE then takePairs id ps s else snapResult id c false s) s)

/-- SNAP_DELETE (R109, R111, R113). -/
def execSnapDelete (value : W32) (s : State) : Outcome :=
  .next (snapCmd 3 0 value (fun ns id s =>
    let c := deleteCode s ns id
    if c ≠ spDONE then snapResult id c false s
    else match deleteSnap ns id (rplSnapGone ns id s) with
      | (some e, s) => snapWaits id false (some e) s
      | (none, s) => snapResult id spDONE false s) s)

/-- SNAP_CLONE (R110, R112): CLONE_NSID becomes a clone of the snapshot at the commit of the open epoch. -/
def execSnapClone (value : W32) (s : State) : Outcome :=
  .next (snapCmd 4 1 value (fun ns id s =>
    let child := rdF s pgLDG 0x148 13 0
    let c := cloneCode s ns id child
    if c ≠ spDONE then snapResult id c false s
    else
      let e := epochOpen s
      let s := placeItem e .other 0 (.clone id ns child) s
      snapWaits id false (some e) { s with ldg := { s.ldg with snapOps := s.ldg.snapOps ++ [(e, .clone ns id child)] } }) s)

/-- SNAP_DISARM_ALL (R113). -/
def execSnapDisarmAll (value : W32) (s : State) : Outcome :=
  .next (snapCmd 5 0 value (fun _ id s => snapResult id spDONE false { s with ldg := { s.ldg with armed := [] } }) s)

/-! The slag list (R119, R395). -/

/-- The four words of the selected entry; 0 where INDEX is past the list. -/
def slagWords (s : State) : List W32 :=
  let b := match s.ldg.img.slag[(rd s pgLDG 0x184).toNat]? with
    | some x => x.bytes
    | none => zeros 16
  (List.range 4).map fun i => BitVec.ofNat 32 (field b (4 * i) 4)

/-- SLAG_ENTRY_READ (R119): word 0 is returned and all four are latched for the master. -/
def execSlagEntryRead (master : Nat) (s : State) : Outcome :=
  let w := if live s pgLDG 3 then slagWords s else [0, 0, 0, 0]
  .next (emit (.csrData master (w.getD 0 0)) { s with ldg := { s.ldg with
    slagLatch := (s.ldg.slagLatch.filter fun l => l.1 != master) ++ [(master, w)] } })

/-! Replay (R92, R93, R98, R450). -/

/-- The records of a half of the ledger-journal region. -/
def ljRecord (s : State) (base j : Nat) : List Byte := qstRead s (base + ljPlace j) 256
/-- The places of a half with any byte stored. -/
def ljPlaces (s : State) (base : Nat) : List Nat :=
  ((s.qst.filter fun c => decide (base ≤ c.1 ∧ c.1 < base + 0x20000000)).map fun c => (c.1 - base) / 256).eraseDups

/-- Replay the records that `get` reads from a checkpoint, from JSEQ `j` on. -/
def replayWith (get : Nat → List Byte) (j : Nat) (c : CkptRun) : Replay :=
  replayFrom get (2 ^ 21) j
    { img := c.img, base := c.epoch, open_ := [], committed := c.epoch, prevCrc := c.prevCrc, records := 0, stop := j, refsOk := true }

/-- A record of the own tail, or the partner's copy of it where one has been fetched (R93). -/
def ljMerged (s : State) (j : Nat) : List Byte := (Tab.find? s.ldg.ljPeer j).getD (ljRecord s qLJ j)
/-- Replay the own tail (R92). -/
def replayOwn (s : State) : Replay := replayWith (ljRecord s qLJ) s.ldg.ckpt.jfrom s.ldg.ckpt

/-- The first JSEQ of the span that fails: the record at which replay stops, or the first record of the epoch whose commit record fails there
(R93). -/
def failFrom (s : State) (r : Replay) : Nat :=
  let b := ljRecord s qLJ r.stop
  if recordOk b && field b 0 1 == 0x10 then
    match r.open_.find? fun x => x.1 == field b 8 6 with
    | some x => field x.2 0x10 8
    | none => r.stop
  else r.stop

/-- The next JSEQ to ask the partner for: the failing span is fetched once, in pieces of 256 records; `none` when it is whole (R93, R590). -/
def nextAsk (s : State) (r : Replay) : Option Nat :=
  let j := failFrom s r
  let n := match s.ldg.ljAsked with
    | some a => if a < j then j else a + 256
    | none => j
  if n ≤ r.stop then some n else none

/-- A commit record of an epoch not replayed verifies past the stop, in the own tail or among the partner's records (R93). -/
def chainBroken (s : State) (r : Replay) : Bool :=
  let late := fun (b : List Byte) => recordOk b && field b 0 1 == 0x10 && decide (r.committed < field b 8 6)
  ((ljPlaces s qLJ).any fun k => late (qstRead s (qLJ + k * 256) 256) && k != r.stop % 2 ^ 21) ||
  s.ldg.ljPeer.any fun x => late x.2 && x.1 != r.stop

/-- The epochs that the verifying records of the own tail name. -/
def tailEpochs (s : State) : List Nat :=
  (ljPlaces s qLJ).filterMap fun k =>
    let b := qstRead s (qLJ + k * 256) 256
    if recordOk b then some (field b 8 6) else none

/-- The newest epoch that the last quench's image names: EPOCH_OPEN of its control record, the epochs of its entries (R62, R334). -/
def quenchEpoch (s : State) : Nat :=
  ((dirIndices s).map (readEntry s)).foldl (fun m b => if entryOk b then Nat.max m (field b 6 6) else m) (readCtrl s).epoch

/-- The first epoch number above every one seen: in the tail, on slots, in the control record of the last quench (R62); a link formed before
replay has set the number the pair shares (R79). -/
def freshEpoch (s : State) (r : Replay) : Nat :=
  let seen := r.committed :: quenchEpoch s :: tailEpochs s ++ s.wc.slots.map fun x => x.2.epoch
  Nat.max (seen.foldl Nat.max 0 + 1) (epochOpen s + (if paired s && linkUp s then 0 else 1))

/-- What the own replay leaves (R62, R450, R787). -/
def replayed (r : Replay) (s : State) : State :=
  let e := freshEpoch s r
  let joined := paired s && linkUp s
  let s := { ({ s with ldg := { s.ldg with
      img := markDead [] (deadPages (supersededBy s fun x => decide (s.ldg.ckpt.epoch < x ∧ x ≤ r.committed)) r.img)
      working := []
      eps := []
      prevCrc := r.prevCrc
      tailJseq := s.ldg.ckpt.jfrom
      ackedJseq := r.stop
      pairedAt := if joined then e else s.ldg.pairedAt
      peerDrainedTo := if joined then e - 1 else s.ldg.peerDrainedTo
      ljPeer := []
      replayed := true } } : State) with ing := { s.ing with geom := rd s pgING 0x100 } }
  let s := wr64 pgLDG 0x110 (BitVec.ofNat 64 e) (wr64 pgLDG 0x118 (BitVec.ofNat 64 r.committed) (wr64 pgLDG 0x130 (BitVec.ofNat 64 r.stop) s))
  let s := wr64 pgLDG 0x138 (BitVec.ofNat 64 s.ldg.ckptGen) s
  let s := (List.range 16).foldl (fun s f => wr64 (pgFRG + f) 0x108 (BitVec.ofNat 64 e) s) s
  let s := wr pgLDG 0x180 (pw s.ldg.img.slag.length) s
  hallmark 0x1605 0 (pw2 r.committed ++ [pw r.records]) (journalFill (ldgStat s))

/-- The epoch of the newest checkpoint that the mirrored tail names (R447); 0 where it names none. -/
def mirrorBase (s : State) : Nat :=
  ((ljPlaces s qLJMIRROR).filterMap fun k =>
    let b := qstRead s (qLJMIRROR + k * 256) 256
    if recordOk b && field b 0 1 == 0x11 then some (field b 0x20 6) else none).foldl Nat.max 0

/-- Replay the failed head's mirrored tail from its last checkpoint, beginning at the first record of a later epoch (R96, R98). -/
def replayPeer (s : State) : Replay :=
  let base := mirrorBase s
  let js := (ljPlaces s qLJMIRROR).filterMap fun k =>
    let b := qstRead s (qLJMIRROR + k * 256) 256
    if recordOk b && decide (base < field b 8 6) then some (field b 0x10 8) else none
  replayWith (ljRecord s qLJMIRROR) (js.foldl Nat.min (js.headD s.ldg.mirrorJseq)) (Config.peerCkpt base)

/-- LDG_REPLAY (R92, R93, R98, R450): at start the own tail is replayed from the last checkpoint; where it stops, the partner's copy
is asked for once. At takeover the failed head's mirrored tail is replayed. -/
def execLdgReplay (other : Bool) (s : State) : Outcome :=
  .next (
    if other then
      if tstate s ≠ tsSURVIVOR ∨ !s.ldg.replayed ∨ s.ldg.peerTaken then s
      else
        let r := replayPeer s
        let n := s.ldg.img.slag.length
        let s := { s with ldg := { s.ldg with
          img := s.ldg.img.join (markDead [] r.img)
          peerCommitted := r.committed
          peerTaken := true } }
        let s := if s.ldg.img.slag.length = n then s else slagCount (s.ldg.img.slag.length - n) s
        hallmark 0x1605 0 (pw2 r.committed ++ [pw r.records]) (if r.refsOk then s else recordFault pgLDG 0x83 0 s)
    else if s.ldg.replayed || s.ldg.ljWait || pgState s pgLDG == stOFF || pgState s pgLDG == stFAULT || !alive s pgQST then s
    else
      let r := replayOwn s
      let ask := if live s pgWDL 3 && linkUp s then nextAsk s r else none
      match ask with
      | some j => sendW clsFETCH 0x43 j (le 4 256) { s with ldg := { s.ldg with ljAsked := some j, ljWait := true } }
      | none =>
        if !r.refsOk then recordFault pgLDG 0x83 0 s
        else if chainBroken s r then recordFault pgLDG 0x81 0 s
        else replayed r s)

/-- LJ_DATA (R93, R590): the partner's records of the failing span; where the tail verifies further with them, they take the place of the own
ones. -/
def execLjData (jseq : Nat) (data : List Byte) (s : State) : Outcome :=
  let s := takeRx 0x44 s
  .next (if !s.ldg.ljWait then s
    else
      let s := (List.range (data.length / 256)).foldl (fun s i =>
        let b := slice data (256 * i) 256
        if recordOk b then { s with ldg := { s.ldg with ljPeer := Tab.put s.ldg.ljPeer (jseq + i) b } } else s)
        { s with ldg := { s.ldg with ljWait := false } }
      let r := replayWith (ljMerged s) s.ldg.ckpt.jfrom s.ldg.ckpt
      if r.stop ≤ (replayOwn s).stop then s
      else
        let s := s.ldg.ljPeer.foldl (fun s x => if x.1 < r.stop then qstWrite (qLJ + ljPlace x.1) x.2 s else s) s
        { s with ldg := { s.ldg with ljPeer := s.ldg.ljPeer.filter fun x => decide (r.stop ≤ x.1) } })

end Sys2Proof.Machine
end

