-- ==== Sys2Proof/Machine/ReplCore.lean ====
section
/-! DEFINITION. The source and the target of a replication group: deltas, segments, the control block
(spec/14_replication.md). -/

namespace Sys2Proof.Machine

def rplOn (s : State) : Bool := running s pgRPL && !inQ s
/-- The group GRP_SEL selects. -/
def grpSel (s : State) : Nat := rdF s pgRPL 0x110 5 0
def segBytes (s : State) (g : Nat) : Nat := grdF s g 0x114 12 0 * 1024
def nseg (s : State) (g : Nat) : Nat := 2 ^ grdF s g 0x114 19 16
def dataVa (s : State) (g : Nat) : Nat := (grd s g 0x134).toNat * 2 ^ 32 + (grd s g 0x130).toNat
def ctrlVa (s : State) (g : Nat) : Nat := (grd s g 0x13C).toNat * 2 ^ 32 + (grd s g 0x138).toNat
/-- The lease is in use (R564). -/
def leaseOn (s : State) : Bool := live s pgRPL 2

/-! Snapshots of a group (R543, R547, R556). -/

/-- Every member's snapshot of a delta stands, with no command on it under way. -/
def grpPinned (s : State) (g d : Nat) : Bool :=
  let id := grpSnap s g d
  (grpOf s g).members.all fun m =>
    (snapFind s.ldg.img m.1 id).isSome && !s.ldg.takes.contains (m.1, id) &&
    !(s.ldg.snapOps.any fun o => match o.2 with
      | .take n i _ => n == m.1 && i == id
      | .delete n i _ => n == m.1 && i == id
      | .clone .. => false)

/-- The epoch that a group's snapshot of a delta pins. -/
def grpEpoch (s : State) (g d : Nat) : Nat :=
  match (grpOf s g).members.head? with
  | some m => ((snapFind s.ldg.img m.1 (grpSnap s g d)).map (·.epoch)).getD 0
  | none => 0

/-- Delete the members' snapshots of a delta that stand. -/
def grpUnpin (g d : Nat) (s : State) : State :=
  let id := grpSnap s g d
  ((grpOf s g).members.filter fun m => (snapFind s.ldg.img m.1 id).isSome && deleteCode s m.1 id == spDONE).foldl (fun s m =>
    (deleteSnap m.1 id s).2) s

/-- Take the snapshot of a delta for every member at the next close, an older one under the same ID being deleted first; RPL's commands
take turns with firmware's (R118, R547). `none` while it cannot. -/
def grpPin (g d : Nat) (s : State) : Option State :=
  let id := grpSnap s g d
  let ps := (grpOf s g).members.map fun m => (m.1, id)
  let code := fun (p : Nat × Nat) => if (snapFind s.ldg.img p.1 id).isSome then deleteCode s p.1 id else takeCode s (ps.length - 1) p
  if snapBusy s || !ledgerOn s || ps.isEmpty || firstCode (ps.map code) != spDONE then none
  else some (takePairs id ps (grpUnpin g d s))

/-! The delta (R544, R545). -/

/-- The namespaces a namespace inherits from, itself first. -/
def lineage (i : Image) : Nat → Nat → List Nat
  | 0, ns => [ns]
  | f + 1, ns => match cloneOf i ns with
    | some c => ns :: lineage i f c.parent
    | none => [ns]

/-- The grains of a namespace that any map or retention table names. -/
def namedGrains (i : Image) (ns : Nat) : List Nat :=
  let ls := lineage i 8 ns
  let a := (i.map.filter fun e => ls.contains (e.1 / 2 ^ 35)).map fun e => e.1 % 2 ^ 35
  let b := (i.ret.filter fun e => ls.contains (e.1 / 2 ^ 51)).map fun e => e.1 % 2 ^ 35
  ((a ++ b).foldl (fun (t : Tab Unit) g => Tab.put t g ()) []).map (·.1)

/-- RKIND of an entry. -/
def rkind (e : MapEntry) : Nat := if !e.mapped || e.zero then 2 else if glocSlag e.gloc then 3 else 1

/-- Runs of ZERO records of at most 65,535 grains. -/
def zeroRuns (src tgt from_ : Nat) : Nat → Nat → List DRec
  | 0, _ => []
  | f + 1, n =>
    if n = 0 then []
    else ⟨2, src, tgt, from_, Nat.min n 65535, {}⟩ :: zeroRuns src tgt (from_ + Nat.min n 65535) f (n - Nat.min n 65535)

/-- Add a record, joining consecutive ZERO grains. -/
def joinRec (rs : List DRec) (r : DRec) : List DRec :=
  match rs.getLast? with
  | some l =>
    if l.kind = 2 ∧ r.kind = 2 ∧ l.src = r.src ∧ l.grain + l.count = r.grain ∧ l.count + r.count ≤ 65535 then
      rs.dropLast ++ [{ l with count := l.count + r.count }]
    else rs ++ [r]
  | none => rs ++ [r]

/-- Grains that no table names, before grain `g`, in a FULL delta. -/
def fillGap (full : Bool) (src tgt at_ g : Nat) : List DRec :=
  if full then zeroRuns src tgt at_ ((g - at_) / 65535 + 1) (g - at_) else []

/-- The records of one member. -/
def memberRecs (s : State) (full : Bool) (idN idP : Nat) (m : Nat × Nat) : List DRec :=
  let i := s.ldg.img
  let size := (nsOf s m.1).grains.toNat
  let gs := (namedGrains i m.1).filter fun g => decide (g < size)
  let r := gs.foldl (fun (a : List DRec × Nat) g =>
    let e := snapEntry i m.1 idN g
    let p := snapEntry i m.1 idP g
    if full || e.gloc != p.gloc || e.mapped != p.mapped || e.zero != p.zero then
      (joinRec ((fillGap full m.1 m.2 a.2 g).foldl joinRec a.1) ⟨rkind e, m.1, m.2, g, 1, e⟩, g + 1)
    else (a.1, g + 1)) ([], 0)
  (fillGap full m.1 m.2 r.2 size).foldl joinRec r.1

/-- The records of a delta, in ascending member and grain order. -/
def deltaRecs (s : State) (g : Nat) (x : Grp) : List DRec :=
  x.members.flatMap fun m => memberRecs s x.full (grpSnap s g x.delta) (grpSnap s g (x.delta + 1)) m

/-! Segments (R549 to R551). -/

/-- A record's header (R550). -/
def recHeader (kind codec tgt len pif grain : Nat) : List Byte :=
  le 1 kind ++ le 1 codec ++ le 2 tgt ++ le 2 len ++ le 1 pif ++ zeros 1 ++ le 8 grain
/-- Bytes a record takes: a DATA record at most its body's, less the tag, and its header. -/
def DRec.size (r : DRec) : Nat := if r.kind = 1 then r.entry.len16 * 16 else 16
/-- A record still fits the segment being built. -/
def fits (s : State) (g : Nat) (r : DRec) : Bool := decide (80 + (grpOf s g).area.length + r.size ≤ segBytes s g)

/-- Append a record to the segment being built. -/
def addRec (g : Nat) (b : List Byte) (s : State) : State :=
  let x := grpOf s g
  grpPut g { x with area := x.area ++ b, nrec := x.nrec + 1, work := x.work.drop 1, dRecs := x.dRecs + 1 } s

/-- ZERO and SLAG records need no read: they join the segment as they come up. -/
def absorb (g : Nat) : Nat → State → State
  | 0, s => s
  | f + 1, s => match (grpOf s g).work with
    | r :: _ =>
      if r.kind ≠ 1 && fits s g r then
        absorb g f (addRec g (recHeader r.kind 0 r.tgt (if r.kind = 2 then r.count else 0) 0 r.grain) s)
      else s
    | [] => s

/-- A segment's header (R549). -/
def segHeader (s : State) (g : Nat) (c : Seg) (u keyId : Nat) : List Byte :=
  le 8 c.seq ++ le 8 u ++ le 8 keyId ++ le 8 c.delta ++ le 6 c.base ++ le 6 c.top ++ le 1 (grdF s g 0x128 5 0) ++ le 1 c.flags ++ zeros 2 ++
  le 4 c.area.length ++ le 4 c.nrec ++ zeros 8

/-- The Tinning port unit of a queue pair's port group (R269). -/
def portUnit (s : State) (qp : Nat) : Nat := 32 + (portPage s (qpOf s qp).port - pgNET) / 4

/-- What asking for a seal brings: bytes to write, KEY_WAIT, or no answer yet. -/
inductive Sealed where
  | ok (b : List Byte)
  | keyWait
  | later
deriving DecidableEq, Repr

/-- Seal a segment under GRP_SLOT.CUR as one LINK message (R283, R551). -/
def sealSeg (g : Nat) (c : Seg) (s : State) : Sealed × State :=
  let n := grdF s g 0x11C 11 0
  let k := slotK s n
  let u := portUnit s (grpQp s g)
  if !k.loaded ∨ k.cls ≠ kcLINK then (.keyWait, s)
  else match takeGrant u (askUses n 1 u s) with
    | none => (.later, askUses n 1 u s)
    | some (.granted v, s) =>
      let h := segHeader s g c v k.keyId
      (.ok (h ++ gcmSeal k.key (k.salt ++ be 8 v) h c.area), s)
    | some (_, s) => (.keyWait, s)

/-- KEY_ID of GRP_SLOT.CUR. -/
def curKey (s : State) (g : Nat) : Nat := (slotK s (grdF s g 0x11C 11 0)).keyId

/-- RDMA-write a sealed segment into its slot (R552); `kind` says whether it is the first time. -/
def writeSeg (g kind : Nat) (c : Seg) (b : List Byte) (s : State) : State :=
  let s := xptPost (grpQp s g) { kind := .write, va := dataVa s g + c.seq % nseg s g * segBytes s g, rkey := grdF s g 0x140 15 0
                                 len := b.length, payload := b, tag := kind * 64 + g } s
  let x := grpOf s g
  grpPut g { x with bytes := x.bytes + b.length, dBytes := x.dBytes + b.length } s

/-- An atomic or a READ on the peer's control block. -/
def postCtrl (g kind : Nat) (m : XMsg) (off : Nat) (s : State) : State :=
  xptPost (grpQp s g) { m with va := ctrlVa s g + off, rkey := grdF s g 0x140 31 16, tag := kind * 64 + g } s
def postCas (g kind off : Nat) (cmp swap : W64) (s : State) : State :=
  postCtrl g kind { kind := .cas, len := 8, cmp := cmp, swap := swap } off s
/-- Read the peer's control block, unless a read is out. -/
def pollCtrl (g : Nat) (s : State) : State :=
  if !rplOn s || (grpOf s g).polling || (qpOf s (grpQp s g)).st != .rts then s
  else postCtrl g rtPOLL { kind := .read, len := 64 } 0 (grpPut g { grpOf s g with polling := true } s)

/-! The lease (R557). -/

/-- HOLDER × 2^40 + 1. -/
def leaseFirst (s : State) : W64 := BitVec.ofNat 64 ((rdF s pgRPL 0x108 15 0 * 2 ^ 8 + headId s * 2 ^ 7) * 2 ^ 40 + 1)

/-- Take or renew the lease, unless an atomic on it is out. -/
def askLease (g : Nat) (s : State) : State :=
  let x := grpOf s g
  if !rplOn s || !leaseOn s || x.leaseOut || (qpOf s (grpQp s g)).st != .rts then s
  else
    let s := grpPut g { x with leaseOut := true } s
    match x.lease with
    | some v => postCas g rtLEASE 0x10 v (v + 1) s
    | none => postCas g rtLEASE 0x10 0 (leaseFirst s) s

/-- What the answer of the last atomic on the lease means: a lease lost, or taken again, which restarts the delta (R557, R558). -/
def settle (g : Nat) (s : State) : State :=
  let x := grpOf s g
  match x.leaseGot with
  | none => s
  | some v =>
    let y := { x with leaseGot := none, leaseOut := false }
    let working := x.st = .shipping ∨ x.st = .waitApply ∨ x.st = .leaseWait
    if v = x.lease.getD 0 then
      let z := { y with lease := some (match x.lease with | some w => w + 1 | none => leaseFirst s) }
      grpPut g (if x.st = .leaseWait then { z with st := .shipping, resume := if x.running then some 1 else z.resume } else z) s
    else
      let z := { y with lease := none, st := if working then .leaseWait else x.st }
      if x.lease.isSome then hallmark 0x1B02 0 (pw g :: pw2 v.toNat) (bump pgRPL 0x18C 1 (grpPut g z s)) else grpPut g z s

/-- The group may publish: it holds the lease where one is needed. -/
def holdsLease (s : State) (x : Grp) : Bool := !leaseOn s || x.lease.isSome

/-! The course of a delta at the source (R547, R556, R558). -/

/-- A group of this head that is a SOURCE at work, RPL in RUN. -/
def sourceOn (s : State) (g : Nat) : Bool := rplOn s && grpRole s g == roleSOURCE && (grpOf s g).active

/-- The next delta is due: ask for its pin. -/
def askPin (g : Nat) (s : State) : State :=
  let x := grpOf s g
  if x.due && !x.running && !x.pinning && x.resume.isNone && (x.st == .shipping || x.st == .waitApply) then
    match grpPin g x.delta s with
    | some s => grpPut g { grpOf s g with pinning := true } s
    | none => s
  else s

/-- The delta's pin has taken effect: its records are laid out. -/
def startDelta (g : Nat) (s : State) : State :=
  let x := grpOf s g
  if x.pinning && grpPinned s g x.delta then
    let y := { x with
      base := if x.full then 0 else grpEpoch s g (x.delta + 1)
      top := grpEpoch s g x.delta
      pinning := false
      running := true
      due := false
      first := true
      work := deltaRecs s g x
      area := []
      nrec := 0
      dRecs := 0
      dBytes := 0
      st := .shipping }
    let s := grpPut g y s
    absorb g y.work.length s
  else s

/-- Restart the delta from its beginning after segment `p` (R558): its top snapshot is kept where it stands. -/
def restartDelta (g p : Nat) (s : State) : State :=
  let x := grpOf s g
  let s := bump pgRPL 0x190 1 (grpPut g { x with
    seq := p, out := [], cur := none, pubGot := none, work := [], area := [], nrec := 0, running := false
    restart := true, resume := none, due := true, pinning := grpPinned s g x.delta, st := .shipping } s)
  askPin g s

/-- A published segment is sealed again under a new U and rewritten (R553): `retry` where it counts as one of the 3 rewrites, after which
the group halts. -/
def rewriteSeg (g : Nat) (retry : Bool) (c : Seg) (s : State) : State :=
  if retry ∧ 3 ≤ c.rewrites then rplHalt g s
  else match sealSeg g c s with
    | (.ok b, s) =>
      let y := grpOf s g
      let d := { c with rewrites := c.rewrites + b2n retry, keyId := curKey s g, stage := .writing }
      writeSeg g rtREWRITE c b (grpPut g { y with out := y.out.map fun e => if e.seq = c.seq then d else e } s)
    | (.keyWait, s) => grpPut g { grpOf s g with st := .keyWait } s
    | (.later, s) => s

/-- The next segment goes out: sealed, written (R551, R552). -/
def shipSeg (g : Nat) (c : Seg) (s : State) : State :=
  match sealSeg g c s with
  | (.ok b, s) => writeSeg g rtWRITE c b (grpPut g { grpOf s g with cur := some { c with keyId := curKey s g, stage := .writing } } s)
  | (.keyWait, s) => grpPut g { grpOf s g with st := .keyWait } s
  | (.later, s) => s

/-- The delta is applied: the base snapshot goes, the next delta waits for its time (R556). -/
def deltaDone (g : Nat) (s : State) : State :=
  let x := grpOf s g
  let s := hallmark 0x1B01 0 ([pw g] ++ pw2 x.delta ++ pw2 x.dRecs ++ pw2 x.dBytes) s
  let s := if x.full then s else grpUnpin g (x.delta + 1) s
  askPin g (grpPut g { grpOf s g with
    delta := (x.delta + 1) % 2 ^ 64, full := x.fullNext, fullNext := false, running := false, restart := false, due := x.timer, timer := false, st := .shipping } s)

/-- A resumption after a chip reset (R560): `a` APPLIED_DELTA, `p` PUBLISHED. -/
def resumeFresh (g a p : Nat) (s : State) : State :=
  let s := grpPut g { grpOf s g with delta := (a + 1) % 2 ^ 64 } s
  let s := if grpPinned s g a then
      let s := grpUnpin g (a + 1) s
      grpPut g { grpOf s g with full := false } s
    else rplFull g s
  let s := restartDelta g p s
  askPin g (grpPut g { grpOf s g with pinning := false } s)

/-- The segments published from CONSUMED + 1 on are all this head's, as it wrote them (R559). -/
def outWhole (x : Grp) (p c : Nat) : Bool := (List.range (p - c)).all fun k => x.out.any fun d => d.seq == c + 1 + k

/-- The source goes on from CONSUMED + 1 (R559): a segment written and not published is written again (R563). -/
def resumeOn (g p c : Nat) (s : State) : State :=
  let x := grpOf s g
  let rest := x.out.filter fun d => decide (c < d.seq)
  let s := grpPut g { x with
    seq := p, consumed := c, out := (rest.filter fun d => decide (d.seq ≤ p)).map (fun d => ({ d with stage := .written } : Seg)), resume := none
    st := if x.running && x.work.isEmpty && x.area.isEmpty && !(rest.any fun d => decide (p < d.seq)) then .waitApply else .shipping } s
  match rest.find? fun d => d.seq == p + 1 with
  | some d => shipSeg g d s
  | none => s

/-- A resumption meets the peer's control block (R558, R559, R560): `a` APPLIED_DELTA, `p` PUBLISHED, `c` CONSUMED. -/
def resumeWith (g mode a p c : Nat) (s : State) : State :=
  let x := grpOf s g
  if mode = 2 then resumeFresh g a p s
  else if x.running ∧ x.delta = a then (if snapBusy s then s else deltaDone g (grpPut g { x with seq := p, consumed := c, resume := none } s))
  else if mode = 0 ∧ (x.running ∨ !x.restart) ∧ x.delta = (a + 1) % 2 ^ 64 ∧ outWhole x p c then resumeOn g p c s
  else restartDelta g p (grpPut g { x with delta := (a + 1) % 2 ^ 64, consumed := c } s)

/-- The source acts on STATUS (R553). A code concerns it only while the segment it names is out, and not while that segment is being
rewritten. -/
def onStatus (g code seq p : Nat) (s : State) : State :=
  let x := grpOf s g
  match x.out.find? fun d => d.seq == seq with
  | none => s
  | some d =>
    if x.out.any fun d => d.stage = .writing then s
    else if code = 1 ∨ code = 2 then rewriteSeg g true d s
    else if code = 3 then (if holdsLease s x then restartDelta g p s else s)
    else if code = 4 then
      (if curKey s g ≠ d.keyId then rewriteSeg g false d s else grpPut g { x with st := .keyWait } s)
    else if code = 5 ∨ code = 6 then rplHalt g s
    else s

/-- Every segment of the running delta has been consumed and the target has applied it. -/
def appliedAt (x : Grp) (a : Nat) : Bool :=
  x.running && x.work.isEmpty && x.area.isEmpty && x.cur.isNone && !x.first && x.out.isEmpty && a == x.delta

/-- The source acts on a control block it has read (R553, R556). -/
def onBlock (g : Nat) (b : List Byte) (s : State) : State :=
  let x := grpOf s g
  let p := field b 0 8
  let c := field b 8 8
  let a := field b 0x18 8
  let code := field b 0x27 1
  match x.resume with
  | some mode => if holdsLease s x && x.st != .keyWait then resumeWith g mode a p c s else s
  | none =>
    if x.st ≠ .shipping ∧ x.st ≠ .waitApply then s
    else
      let y := { x with consumed := c, code := code, out := x.out.filter fun d => decide (c < d.seq) }
      let s := grpPut g y s
      if code ≠ 0 then onStatus g code (field b 0x20 7) p s
      else if appliedAt y a && !snapBusy s then deltaDone g s
      else s

/-! The target (R548, R554 to R556). -/

/-- A word of the local control block. -/
def ctrlWord (s : State) (g off : Nat) : Nat := ofLe (memRead s (ctrlVa s g + off) 8)
def ctrlPut (g off v : Nat) (s : State) : State := memWrite (ctrlVa s g + off) (le 8 v) s

/-- The bytes in segment slot of `n`. -/
def slotSeg (s : State) (g n : Nat) : List Byte := memRead s (dataVa s g + n % nseg s g * segBytes s g) (segBytes s g)

/-- The segment a target looks at: the latest published that restarts the next delta, else the one after CONSUMED. -/
def nextSeg (s : State) (g : Nat) : Nat :=
  let p := ctrlWord s g 0
  let c := ctrlWord s g 8
  let restarts := ((List.range (Nat.min (p - c) (nseg s g))).map fun k => p - k).filter fun n =>
    let h := (slotSeg s g n).take 64
    (field h 0x2D 1).testBit 3 && field h 0 8 == n && field h 0x18 8 == (ctrlWord s g 0x18 + 1) % 2 ^ 64
  restarts.head?.getD (c + 1)

/-- The records of an opened area: `none` where one breaks R554's last line. -/
def parseRecs (s : State) (g : Nat) : Nat → List Byte → Option (List TRec)
  | 0, _ => some []
  | f + 1, b =>
    if b.isEmpty then some []
    else
      let kind := field b 0 1
      let ns := field b 2 2
      let len := field b 4 2
      let grain := field b 8 8
      let pib := 2 * pifBytes (field b 6 1)
      let body := if kind = 1 then (len + 15) / 16 * 16 + pib else 0
      let count := if kind = 2 then len else 1
      if b.length < 16 + body ∨ !([1, 2, 3].contains kind) ∨ !((grpOf s g).members.any fun m => m.1 == ns) ∨ field b 7 1 ≠ 0 ∨
          (kind = 2 ∧ len = 0) ∨ (nsOf s ns).grains.toNat < grain + count then none
      else
        let o := unshrink (field b 1 1) (slice b 16 len)
        let data := o.getD (slice (Config.codec { decode := true, codec := field b 1 1, level := 0, wlog := 13, zcheck := false, fcs := false
                                                  first := true, last := true, coder := [], hist := []
                                                  src := slice b 16 len, cap := 8192 }).output 0 8192)
        let r : TRec := ⟨kind, ns, grain, count, if kind = 1 then data else [], slice b (16 + (len + 15) / 16 * 16) (if kind = 1 then pib else 0)⟩
        (parseRecs s g f (b.drop (16 + body))).map (r :: ·)

/-- The key slot that opens a segment: CUR, or NEXT (R554). -/
def segSlot (s : State) (g keyId : Nat) : Option (Nat × Bool) :=
  let ok := fun n => (slotK s n).loaded && (slotK s n).cls == kcLINK && (slotK s n).keyId == keyId
  if ok (grdF s g 0x11C 11 0) then some (grdF s g 0x11C 11 0, false)
  else if ok (grdF s g 0x11C 27 16) then some (grdF s g 0x11C 27 16, true)
  else none

/-- STATUS codes (R553, R554). -/
abbrev rsTAG_FAIL : Nat := 1
abbrev rsREPLAY : Nat := 2
abbrev rsSEQ : Nat := 3
abbrev rsKEY : Nat := 4
abbrev rsFORMAT : Nat := 5
abbrev rsNOT_TARGET : Nat := 6

/-- A segment is not applied: STATUS, its counter, hallmark 0x1B05. -/
def refuseSeg (g n code : Nat) (s : State) : State :=
  let c := if code = rsTAG_FAIL then 0x184 else if code = rsREPLAY then 0x180 else if code = rsSEQ then 0x188 else 0x198
  let s := bump pgRPL c 1 (ctrlPut g 0x20 (code * 2 ^ 56 + n % 2 ^ 56) (grpPut g { grpOf s g with code := code } s))
  hallmark 0x1B05 0 ([pw g] ++ pw2 n ++ [pw code]) s

/-- The LEASE word is held by the accepted source array, bit 7 apart (R565). -/
def holderOk (s : State) (g : Nat) : Bool :=
  let h := ctrlWord s g 0x10 / 2 ^ 40
  let a := grdF s g 0x128 31 8
  !leaseOn s || (h - h / 128 % 2 * 128 == a - a / 128 % 2 * 128)

/-- Check and open segment `n`; one that passes is taken up (R554, R558). -/
def takeSeg (g n : Nat) (s : State) : State :=
  let x := grpOf s g
  let b := slotSeg s g n
  let h := b.take 64
  let keyId := field h 0x10 8
  let u := field h 8 8
  let len := field h 0x30 4
  let restart := (field h 0x2D 1).testBit 3
  match segSlot s g keyId with
  | none => refuseSeg g n rsKEY s
  | some (k, next) =>
    let s := if next then gwr g 0x11C (putBits (grd s g 0x11C) 11 0 k) s else s
    if (Tab.find? x.lastU keyId).any (fun v => decide (u ≤ v)) then refuseSeg g n rsREPLAY s
    else match gcmOpen (slotK s k).key ((slotK s k).salt ++ be 8 u) h (slice b 64 len) (slice b (64 + len) 16) with
      | none =>
        refuseSeg g n rsTAG_FAIL (hallmark 0x1504 0 ([pw (portUnit s (grpQp s g))] ++ pw2 (field h 0 8)) (bump pgTIN 0x170 1 s))
      | some pt =>
        if (!restart && field h 0 8 != ctrlWord s g 8 + 1) || (restart && field h 0x18 8 != (ctrlWord s g 0x18 + 1) % 2 ^ 64) then
          refuseSeg g n rsSEQ s
        else if field h 0x2C 1 ≠ g ∨ !holderOk s g then refuseSeg g n rsNOT_TARGET s
        else match (if field h 0x2E 2 = 0 ∧ field h 0x38 8 = 0 ∧ field h 0x2D 1 < 16 ∧ len % 16 = 0 ∧ len + 80 ≤ segBytes s g then
            parseRecs s g (len / 16 + 1) pt else none) with
          | none => refuseSeg g n rsFORMAT s
          | some rs =>
            let s := if restart then bump pgRPL 0x190 1 s else s
            grpPut g { grpOf s g with
              applying := some ⟨field h 0 8, field h 0x18 8, field h 0x2D 1, keyId, u, rs, []⟩
              bytes := x.bytes + 80 + len } s

/-- One grain written through WC without a host (R555): it lands whole, and goes on as any other. -/
def targetWrite (ns grain : Nat) (zero : Bool) (data pi : List Byte) (s : State) : Option (Nat × State) :=
  match wcAlloc 1 s with
  | some ([i], s) =>
    let x := nsOf s ns
    let w := s.wc.wseq + 1
    let s := { s with wc := { s.wc with wseq := w } }
    let s := memWrite (ownAddr s i) (data ++ slice pi 0 64) s
    let s := slotPut i { st := .held, lo := true, hi := true, ns := ns, pif := x.pif, domain := x.domain, ngrains := 1, grain := grain, gidx := 0
                         wseq := w, zeroed := zero, whole := true } s
    let s := slotPut i (slotCrcs s i) s
    some (w, if sendsMirror s then sendGrain i s else s)
  | _ => none

/-- Apply the records of a segment while WC takes them; `f` bounds the grains. -/
def applyRecs (g : Nat) : Nat → State → State
  | 0, s => s
  | f + 1, s =>
    let x := grpOf s g
    match x.applying with
    | none => s
    | some a => match a.todo with
      | [] => s
      | r :: t =>
        if r.kind = 3 then
          let e := epochOpen s
          applyRecs g f (slagAdd (slagGrain slCRC r.ns r.grain) (toLedger (openItem (.mapChange r.ns r.grain (slagEntry e) 0))
            (grpPut g { x with applying := some { a with todo := t } } s)))
        else
          let pib := (nsOf s r.ns).piBytes
          let zero := r.kind == 2
          let data := if zero then zeros 8192 else slice r.data 0 8192
          let pi := if zero then zeroPi pib ++ zeroPi pib else r.pi
          match targetWrite r.ns r.grain zero data pi s with
          | none => s
          | some (w, s) =>
            let t := if 1 < r.count then { r with grain := r.grain + 1, count := r.count - 1 } :: t else t
            applyRecs g f (grpPut g { grpOf s g with applying := some { a with todo := t, wseqs := a.wseqs ++ [w] } } s)

/-- Every write of a segment is acknowledged-ready (R135, R555). -/
def allReady (s : State) (ws : List Nat) : Bool :=
  !(s.wc.slots.any fun e => ws.contains e.2.wseq && decide (e.2.st = .landing ∨ e.2.st = .held))

/-- A segment is applied: LAST_U, STATUS, CONSUMED; after the LAST of a delta its snapshot is due (R555, R556). -/
def segDone (g : Nat) (a : Applying) (s : State) : State :=
  let x := grpOf s g
  let keys := [(slotK s (grdF s g 0x11C 11 0)).keyId, (slotK s (grdF s g 0x11C 27 16)).keyId, a.keyId]
  let s := ctrlPut g 8 a.seq (ctrlPut g 0x20 0 s)
  grpPut g { x with
    lastU := (Tab.put x.lastU a.keyId a.u).filter fun e => keys.contains e.1
    seq := a.seq
    delta := a.delta
    code := 0
    applying := none
    snapAt := if a.flags.testBit 1 then some (a.delta, false) else x.snapAt } s

/-- The snapshot of an applied delta is asked for, and once it stands APPLIED_DELTA is written (R556). -/
def targetSnap (g : Nat) (s : State) : State :=
  match (grpOf s g).snapAt with
  | none => s
  | some (d, false) => match grpPin g d s with
    | some s => grpPut g { grpOf s g with snapAt := some (d, true) } s
    | none => s
  | some (d, true) =>
    if grpPinned s g d then ctrlPut g 0x18 d (grpPut g { grpOf s g with snapAt := none } s) else s

end Sys2Proof.Machine
end

