-- ==== Sys2Proof/Machine/Replication.lean ====
section
/-! DEFINITION. Commands of the replication block (spec/14_replication.md). -/

namespace Sys2Proof.Machine

/-! Firmware's commands. -/

/-- A write of GRP_CMD for the selected group. -/
def grpCmd (op : Nat) (value : W32) (s : State) (act : Nat → State → State) : State :=
  let s := commandWrite pgRPL 0x148 value s
  if bits value 2 0 = op ∧ running s pgRPL then act (grpSel s) s else s

/-- The group may start or resume: its queue pair is RPL's and in RTS, its role's feature is live, SOURCE with ATOMICS on XPT (R541, R564). -/
def mayRun (s : State) (g : Nat) : Bool :=
  (qpOf s (grpQp s g)).st == .rts && (qpOf s (grpQp s g)).user == 2 &&
  (if grpRole s g = roleSOURCE then live s pgRPL 0 && live s pgXPT 0 else grpRole s g == roleTARGET && live s pgRPL 1)

/-- GRP_START (R541, R547, R557, R564): a SOURCE takes its lease and asks for the pin of delta 0, a FULL one; a TARGET applies what
arrives. -/
def execGrpStart (value : W32) (s : State) : Outcome :=
  .next (grpCmd 1 value s fun g s =>
    let x := grpOf s g
    if x.active || !mayRun s g then conflict pgRPL 0x148 s
    else if grpRole s g = roleTARGET then
      grpPut g { members := x.members, bytes := x.bytes, lastU := x.lastU, st := .applying } s
    else askPin g (askLease g (grpPut g { members := x.members, bytes := x.bytes, st := .shipping, due := true } s)))

/-- GRP_SHIP_NOW (R556): the next delta starts at once, or as soon as the last is applied. -/
def execGrpShipNow (value : W32) (s : State) : Outcome :=
  .next (grpCmd 2 value s fun g s =>
    let x := grpOf s g
    if !sourceOn s g then s
    else if x.running ∨ x.pinning then grpPut g { x with timer := true } s
    else askPin g (grpPut g { x with due := true } s))

/-- GRP_RESUME (R559, R560): the control block is read and the lease taken; the group goes on when they are there. -/
def execGrpResume (value : W32) (s : State) : Outcome :=
  .next (grpCmd 3 value s fun g s =>
    let x := grpOf s g
    if !mayRun s g then conflict pgRPL 0x148 s
    else if grpRole s g = roleTARGET then (if x.st = .applying then s else grpPut g { x with st := .applying } s)
    else if x.st = .shipping ∨ x.st = .waitApply ∨ x.st = .keyWait then s
    else
      let mode := if x.st = .idle then 2 else if x.st = .linkDown then x.resume.getD 0 else 1
      pollCtrl g (askLease g (grpPut g { x with st := .shipping, resume := some mode } s)))

/-- GRP_STOP (R565): the group is IDLE. -/
def execGrpStop (value : W32) (s : State) : Outcome :=
  .next (grpCmd 4 value s fun g s =>
    let x := grpOf s g
    grpPut g { (x.cut) with st := .idle, out := [], work := [], area := [], nrec := 0, running := false, pinning := false, resume := none } s)

/-- GRP_FULL (R565): the next delta is FULL. -/
def execGrpFull (value : W32) (s : State) : Outcome :=
  .next (grpCmd 5 value s fun g s =>
    grpPut g (if (grpOf s g).running then { grpOf s g with fullNext := true } else { grpOf s g with full := true }) s)

/-- A write of GRP_NSCMD: only while the group is IDLE or HALTED (R565). -/
def nsCmd (op : Nat) (value : W32) (s : State) (act : Nat → Nat → Nat → State → State) : State :=
  if (grpOf s (grpSel s)).active then conflict pgRPL 0x144 s
  else
    let s := commandWrite pgRPL 0x144 value s
    if bits value 31 30 = op ∧ running s pgRPL then updateTargets (act (grpSel s) (bits value 13 0) (bits value 29 16) s) else s

/-- Insert a member by its namespace. -/
def memberIns (m : Nat × Nat) : List (Nat × Nat) → List (Nat × Nat)
  | [] => [m]
  | x :: t => if m.1 < x.1 then m :: x :: t else x :: memberIns m t

/-- GRP_NS_ADD (R540): a namespace joins the group, unless it is in one already, is not this head's, or the group has 256. -/
def execGrpNsAdd (value : W32) (s : State) : Outcome :=
  .next (nsCmd 1 value s fun g src tgt s =>
    let x := grpOf s g
    if 256 ≤ x.members.length ∨ !serves s src ∨ (s.rpl.groups.any fun e => e.2.members.any fun m => m.1 == src) then conflict pgRPL 0x144 s
    else grpPut g { x with members := memberIns (src, tgt) x.members } s)

/-- GRP_NS_REMOVE (R540). -/
def execGrpNsRemove (value : W32) (s : State) : Outcome :=
  .next (nsCmd 2 value s fun g src _ s =>
    grpPut g { grpOf s g with members := (grpOf s g).members.filter fun m => m.1 != src } s)

/-- A write of GRP_SLOT.CUR ends KEY_WAIT (R551, R562). -/
def keyWritten (g : Nat) (s : State) : State :=
  let x := grpOf s g
  if x.st ≠ .keyWait then s
  else
    let s := askLease g (grpPut g { x with st := .shipping } s)
    if x.resume.isSome then pollCtrl g s else s

/-! The source. -/

/-- DELTA_START (R543 to R547): the pin asked for has taken effect. -/
def execDeltaStart (group : Nat) (s : State) : Outcome :=
  .next (if sourceOn s group then startDelta group (askPin group (settle group s)) else s)

/-- SHIP_TIMER (R556): SHIP_MS have passed since the delta's start. -/
def execShipTimer (group : Nat) (s : State) : Outcome :=
  .next (if !sourceOn s group then s
    else
      let x := grpOf s group
      if x.running ∨ x.pinning then grpPut group { x with timer := true } s
      else askPin group (grpPut group { x with due := true } s))

/-- What a drawplate makes of a body it opens for RPL: the payload, still compressed, and its PI image; `none` where it fails (R546). -/
def resealOpen (drp : Nat) (r : DRec) (body : Option (List Byte)) (s : State) : Option (List Byte × List Byte) × State :=
  let x := nsOf s r.src
  let g := r.entry.gloc
  let lost := fun (s : State) =>
    hallmark 0x1202 drp ([pw r.src] ++ pw2 r.grain ++ pw2 g.toNat ++ [0x0B]) (bump (pgDRP + drp) 0x154 1 s)
  match body with
  | none => (none, lost s)
  | some b =>
    let o := openBody s x.domain g r.entry.len16 (ingotAt s (glocIngot g)).cast b
    let s := if o.2 then bump pgTIN 0x180 1 s else s
    match o.1 with
    | .ok pt => (some (pt.take (pt.length - 2 * x.piBytes), pt.drop (pt.length - 2 * x.piBytes)), s)
    | .tagFail =>
      (none, lost (hallmark 0x1504 0 ([pw (16 + drp)] ++ pw2 g.toNat) (bump pgTIN 0x170 1 (bump (pgDRP + drp) 0x144 1 s))))
    | .noKey => (none, lost s)

/-- RESEAL (R467, R477, R546): a drawplate has read the body of the delta's next DATA grain (`none`: neither it nor reconstruction could)
and hands its payload to RPL. -/
def execReseal (drp group : Nat) (body : Option (List Byte)) (s : State) : Outcome :=
  .next (if !sourceOn s group || !drawing s drp || (grpOf s group).st != .shipping then s
    else match (grpOf s group).work with
      | [] => s
      | r :: _ =>
        if r.kind ≠ 1 || !fits s group r then s
        else
          let o := resealOpen drp r body s
          let s := match o.1 with
            | some (pl, pi) =>
              addRec group (recHeader 1 (glocCodec r.entry.gloc) r.tgt pl.length (nsOf o.2 r.src).pif r.grain ++ pl ++
                zeros ((16 - pl.length % 16) % 16) ++ pi) o.2
            | none => addRec group (recHeader 3 0 r.tgt 0 0 r.grain) o.2
          absorb group (grpOf s group).work.length s)

/-- The segment being built is complete: nothing more fits, or nothing is left. -/
def segFull (s : State) (g : Nat) : Bool :=
  match (grpOf s g).work with
  | [] => !(grpOf s g).area.isEmpty || (grpOf s g).first
  | r :: _ => !fits s g r

/-- SEGMENT_SEALED (R549, R551, R552): the next segment is complete and the target has a slot for it: it is sealed and written. -/
def execSegmentSealed (group : Nat) (s : State) : Outcome :=
  let s := if sourceOn s group then settle group s else s
  let x := grpOf s group
  let n := x.seq + 1
  .next (if !sourceOn s group || x.st != .shipping || !x.running || x.cur.isSome || x.resume.isSome || !segFull s group ||
      decide (nseg s group < n - x.consumed) then s
    else
      let c : Seg := { seq := n, delta := x.delta, base := x.base, top := x.top, nrec := x.nrec, area := x.area
                       flags := b2n x.first + 2 * b2n x.work.isEmpty + 4 * b2n x.full + 8 * b2n x.restart }
      let t := shipSeg group c s
      let y := grpOf t group
      if y.cur.isNone then t
      else
        let t := grpPut group { y with area := [], nrec := 0, first := false, restart := false } t
        absorb group y.work.length t)

/-- SEGMENT_WRITE_ACK (R552, R557): the write is acknowledged; with the lease held the segment is announced. -/
def execSegmentWriteAck (group : Nat) (s : State) : Outcome :=
  let s := if sourceOn s group then settle group s else s
  let x := grpOf s group
  .next (match x.cur with
    | some c =>
      if sourceOn s group && c.stage == .written && x.st == .shipping && holdsLease s x then
        postCas group rtPUBLISH 0 (BitVec.ofNat 64 (c.seq - 1)) (BitVec.ofNat 64 c.seq)
          (grpPut group { x with cur := some { c with stage := .publishing }, pubGot := none } s)
      else s
    | none => s)

/-- PUBLISH_RESULT (R552): the publish has returned; another value than the segment before puts the group in RESYNC. -/
def execPublishResult (group : Nat) (s : State) : Outcome :=
  let s := if sourceOn s group then settle group s else s
  let x := grpOf s group
  .next (match x.cur, x.pubGot with
    | some c, some v =>
      if !sourceOn s group ∨ c.stage ≠ .publishing then s
      else if v.toNat = c.seq - 1 then
        grpPut group { x with
          cur := none, pubGot := none, seq := c.seq, out := x.out ++ [c]
          st := if c.flags.testBit 1 then .waitApply else x.st } s
      else
        hallmark 0x1B03 0 ([pw group] ++ pw2 (c.seq - 1) ++ pw2 v.toNat) (grpPut group 
          { (x.cut) with st := .resync, lease := x.lease, leaseOut := x.leaseOut, leaseGot := x.leaseGot } s)
    | _, _ => s)

/-- CONTROL_POLL (R553, R556): every POLL_US the source acts on the control block that its last read has brought, and reads it again while
the delta is not applied. -/
def execControlPoll (group : Nat) (s : State) : Outcome :=
  .next (if !sourceOn s group then s
    else
      let s := settle group s
      let x := grpOf s group
      let s := match x.block with
        | some b => onBlock group b (grpPut group { x with block := none, polling := false } s)
        | none => s
      let y := grpOf s group
      if y.active && (y.running || y.resume.isSome) then pollCtrl group s else s)

/-- LEASE_RENEW (R557): the source renews the lease, or tries to take it again. -/
def execLeaseRenew (group : Nat) (s : State) : Outcome :=
  .next (if !sourceOn s group then s
    else
      let s := settle group s
      if (grpOf s group).st = .linkDown ∨ (grpOf s group).st = .keyWait ∧ (grpOf s group).lease.isNone then s else askLease group s)

/-! The target. -/

/-- A group of this head that is a TARGET at work. -/
def targetOn (s : State) (g : Nat) : Bool := rplOn s && grpRole s g == roleTARGET && (grpOf s g).st == .applying

/-- SEGMENT_APPLY (R545, R554, R555, R558): the next published segment is opened, checked and refused, or taken up; its records go to WC as
far as the dirty budget allows. -/
def execSegmentApply (group : Nat) (s : State) : Outcome :=
  .next (if !targetOn s group then s
    else
      let s := if (grpOf s group).applying.isSome || decide (ctrlWord s group 0 ≤ ctrlWord s group 8) then s
        else takeSeg group (nextSeg s group) s
      match (grpOf s group).applying with
      | some a => applyRecs group ((a.todo.map fun r => r.count + 1).foldl (· + ·) 0) s
      | none => s)

/-- SEGMENT_APPLIED (R548, R555, R556). -/
def execSegmentApplied (group : Nat) (s : State) : Outcome :=
  .next (if !targetOn s group then s
    else
      let s := match (grpOf s group).applying with
        | some a => if a.todo.isEmpty && allReady s a.wseqs then segDone group a s else s
        | none => s
      targetSnap group s)

/-- LEASE_CHECK (R558): a LEASE whose BEAT has not changed over LEASE_MISS checks is cleared. -/
def execLeaseCheck (group : Nat) (s : State) : Outcome :=
  .next (if !targetOn s group || !leaseOn s then s
    else
      let x := grpOf s group
      let v := ctrlWord s group 0x10
      if v = 0 ∨ v % 2 ^ 40 ≠ x.seen.toNat % 2 ^ 40 then grpPut group { x with seen := BitVec.ofNat 64 v, same := 0 } s
      else if rdF s pgRPL 0x100 31 24 ≤ x.same + 1 then
        ctrlPut group 0x10 0 (grpPut group { x with seen := 0, same := 0 } s)
      else grpPut group { x with same := x.same + 1 } s)

end Sys2Proof.Machine
end

