-- ==== Sys2Proof/Machine/Copies.lean ====
section
/-! DEFINITION. The copies that each head of the pair keeps for the other, and their acknowledgements
(spec/15_wadun_link.md, R588 to R590; spec/03_epochs_and_ledger.md). -/

namespace Sys2Proof.Machine

/-! The mirrored tail. -/

/-- MIRROR_PCT (R97). -/
def mirrorFill (s : State) : State :=
  wrF pgLDG 0x128 15 8 ((s.ldg.mirrorJseq - s.ldg.mirrorTail) * 100 / 2 ^ 21) s

/-- Store a record at a place of the mirrored tail: places skipped are holes. -/
def mirrorPut (j : Nat) (b : List Byte) (s : State) : State :=
  let n := s.ldg.mirrorJseq
  let s := qstWrite (qLJMIRROR + ljPlace j) b s
  let holes := (s.ldg.mirrorHoles.filter (· != j)) ++ (List.range (j - n)).map (n + ·)
  mirrorFill { s with ldg := { s.ldg with
    mirrorJseq := Nat.max n (j + 1)
    mirrorHoles := if n = 0 then [] else holes
    mirrorTail := if n = 0 then j else s.ldg.mirrorTail } }

/-- The first place at or after `j` that holds no record. -/
def mirrorFree (s : State) (j : Nat) : Nat :=
  (s.ldg.mirrorHoles.filter fun h => decide (j ≤ h)).foldl Nat.min (Nat.max j s.ldg.mirrorJseq)

/-- The place of a commit record, which its message does not name: after the last mirrored record of its epoch. -/
def commitPlace (s : State) (epoch : Nat) (b : List Byte) : Nat :=
  if field b 4 4 = 0 then field b 0x10 8
  else match Tab.find? s.ldg.mirrorSpan epoch with
    | some x => mirrorFree s (x.2 + 1)
    | none => s.ldg.mirrorJseq

/-- The mirrored tail begins at the first record of an epoch after a checkpoint (R96). -/
def mirrorRelease (base : Nat) (s : State) : State :=
  let span := s.ldg.mirrorSpan.filter fun e => decide (base < e.1)
  let tail := span.foldl (fun m e => Nat.min m e.2.1) s.ldg.mirrorJseq
  { s with ldg := { s.ldg with
      mirrorSpan := span
      mirrorTail := Nat.max s.ldg.mirrorTail tail
      mirrorHoles := s.ldg.mirrorHoles.filter fun h => decide (tail ≤ h)
      peerRecords := s.ldg.peerRecords.filter fun e => decide (base ≤ e) } }

/-- EP_COMMIT (R17, R80, R589): the partner's commit record is stored in its mirrored tail and acknowledged; one of an epoch not closed
here is EPOCH_SKEW. -/
def execEpCommit (epoch : Nat) (record : List Byte) (s : State) : Outcome :=
  let s := takeRx 0x24 s
  .next (if alive s pgLDG && s.ldg.replayed && decide (epochOpen s ≤ epoch) then epochSkew s
    else if qstDown s || inQ s then s
    else
      let s := mirrorPut (commitPlace s epoch record) record s
      let s := { s with ldg := { s.ldg with
        peerCommitted := Nat.max s.ldg.peerCommitted epoch
        peerRecords := epoch :: s.ldg.peerRecords.filter (· != epoch) } }
      tryClose (sendW clsEPOCH 0x25 epoch [] s))

/-- EP_COMMIT_ACK (R17, R71, R80, R105): the partner holds the commit record: the epoch is committed, at the judge's end where it runs. -/
def execEpCommitAck (epoch : Nat) (s : State) : Outcome :=
  let s := takeRx 0x25 s
  let x := epOf s epoch
  .next (if !alive s pgLDG || !s.ldg.replayed then s
    else if epochOpen s ≤ epoch then epochSkew s
    else if !x.written then s
    else if commitNext s == some epoch then commitEpoch epoch s
    else epPut epoch { x with acked := true } s)

/-- LJ_RECORD (R89, R96, R589): the partner's journal record is stored in its mirrored tail and acknowledged; a CKPT record releases the
records before it. A commit record that was put at this place goes to the next that is free. -/
def execLjRecord (jseq : Nat) (record : List Byte) (s : State) : Outcome :=
  let s := takeRx 0x13 s
  .next (if qstDown s || inQ s then s
    else
      let old := qstRead s (qLJMIRROR + ljPlace jseq) 256
      let taken := decide (jseq < s.ldg.mirrorJseq) && !s.ldg.mirrorHoles.contains jseq && recordOk old && field old 0 1 == 0x10
      let e := field record 8 6
      let s := mirrorPut jseq record s
      let s := if taken then mirrorPut (mirrorFree s (jseq + 1)) old s else s
      let first := match Tab.find? s.ldg.mirrorSpan e with | some x => x.1 | none => jseq
      let s := { s with ldg := { s.ldg with mirrorSpan := Tab.put s.ldg.mirrorSpan e (first, jseq) } }
      let s := if field record 0 1 = 0x11 then mirrorFill (mirrorRelease (field record 0x20 6) s) else s
      sendW clsJOURNAL 0x14 (0x13 + jseq * 256) [] s)

/-! The mirrored stripe journal. -/

/-- SJ_ENTRY (R367, R589). -/
def execSjEntry (slot : Nat) (entry : List Byte) (s : State) : Outcome :=
  let s := takeRx 0x11 s
  .next (if qstDown s || inQ s then s
    else sendW clsJOURNAL 0x14 (0x11 + slot * 256) [] (qstWrite (qSJMIRROR + slot * 512) entry s))

/-- SJ_MARK (R368, R589): the MARK of an entry stands in its bytes 0x1F8 to 0x1FF. -/
def execSjMark (slot : Nat) (mark : W64) (s : State) : Outcome :=
  let s := takeRx 0x12 s
  .next (if qstDown s || inQ s then s
    else sendW clsJOURNAL 0x14 (0x12 + slot * 256) [] (qstWrite (qSJMIRROR + slot * 512 + 0x1F8) (le 8 mark.toNat) s))

/-! Acknowledgements. -/

/-- J_ACK (R70, R277, R369, R374, R589): the partner has written a copy: of a stripe-journal entry, a journal record, a key
generation. -/
def execJAck (kind arg : Nat) (s : State) : Outcome :=
  let s := takeRx 0x14 s
  .next (if kind = 0x11 then sjAcked arg s
    else if kind = 0x13 then { s with ldg := { s.ldg with ackedJseq := Nat.max s.ldg.ackedJseq (arg + 1) } }
    else if kind = 0x16 then match s.tin.cmd with
      | some c =>
        if arg = c.dom + c.gen * 256 + b2n (!c.install) * 2 ^ 16 then { s with tin := { s.tin with cmd := some { c with acked := true } } } else s
      | none => s
    else s)

/-! Fetching (R590). -/

/-- FETCH_NAK for a request. -/
def fetchNak (mtype arg : Nat) (s : State) : State := sendW clsFETCH 0x47 (mtype + arg * 256) [] s

/-- FETCH_SLOT (R590): the copy of a slot, or FETCH_NAK where it is absent or DDR-5 cannot read it. -/
def execFetchSlot (slot : Nat) (readable : Bool) (s : State) : Outcome :=
  let s := takeRx 0x41 s
  let x := mirOf s slot
  .next (if readable && x.st != .free then sendW clsFETCH 0x42 slot (x.header ++ memRead s (mirAddr s slot) 8224) s
    else fetchNak 0x41 slot s)

/-- SLOT_DATA (R167, R470, R590). -/
def execSlotData (slot : Nat) (header data : List Byte) (s : State) : Outcome :=
  let s := takeRx 0x42 s
  let _ := header
  .next { s with frg := { s.frg with copies := Tab.put s.frg.copies slot (some data) } }

/-- The records of the mirrored tail that verify, from `j` on, at most `n`. -/
def verifying (s : State) (j : Nat) : Nat → List (List Byte)
  | 0 => []
  | n + 1 =>
    let b := ljRecord s qLJMIRROR j
    if recordOk b then b :: verifying s (j + 1) n else []

/-- FETCH_LJ (R93, R590). -/
def execFetchLj (jseq count : Nat) (s : State) : Outcome :=
  let s := takeRx 0x43 s
  let rs := if qstDown s then [] else verifying s jseq count
  .next (if rs.isEmpty then fetchNak 0x43 jseq s else sendW clsFETCH 0x44 jseq rs.flatten s)

/-- FETCH_SJ (R377, R590). -/
def execFetchSj (slot : Nat) (s : State) : Outcome :=
  let s := takeRx 0x45 s
  let b := qstRead s (qSJMIRROR + slot * 512) 512
  .next (if !qstDown s && sjOk b then sendW clsFETCH 0x46 slot b s else fetchNak 0x45 slot s)

/-- FETCH_NAK (R93, R167, R377, R470, R590): the copy asked for is absent or unreadable. -/
def execFetchNak (mtype arg : Nat) (s : State) : Outcome :=
  let s := takeRx 0x47 s
  .next (if mtype = 0x41 then { s with frg := { s.frg with copies := Tab.put s.frg.copies arg none } }
    else if mtype = 0x43 then { s with ldg := { s.ldg with ljWait := false } }
    else if mtype = 0x45 then { s with ing := { s.ing with fetched := Tab.put s.ing.fetched arg (zeros 512) } }
    else s)

end Sys2Proof.Machine
end

