-- ==== Sys2Proof/Machine/FlashCore.lean ====
section
/-! DEFINITION. Planish and Anneal at work: zones that fail, modules, the choice of Anneal's work
(spec/11_flash_translation.md). -/

namespace Sys2Proof.Machine

/-! Ports (R406, R409). -/

/-- The port's lanes lie within the flash octets (R406). -/
def portThere (s : State) (n : Nat) : Bool :=
  let w := if bit (rd s pgFLX 0x100) 8 then 4 else 2
  decide (w * n + w ≤ 8 * rdF s pgFLX 0x100 4 0)

/-- Lanes of a flash port (R406). -/
def flashLanes (s : State) : Nat := if bit (rd s pgFLX 0x100) 8 then 4 else 2

/-- The octets that carry a port (R406). -/
def flashOctets (s : State) (port : Nat) : List Nat := (List.range (flashLanes s)).map fun i => (flashLanes s * port + i) / 8

/-- The port serves: it is there and its page is neither OFF nor in FAULT. -/
def portOn (s : State) (n : Nat) : Bool := portThere s n && pgState s (pgFLX + n) != stOFF && pgState s (pgFLX + n) != stFAULT

/-- A port's link goes down: LINK_STAT, 0x2301; what the cause's code is no rule says (R462). -/
def portDown (n : Nat) (s : State) : State :=
  let l := rdF s (pgFLX + n) 0x108 5 0
  let (k, s) := draw s
  hallmark 0x2301 n [pw n, pw l, Config.free32 k]
    (wr (pgFLX + n) 0x108 0 { s with pln := { s.pln with down := n :: s.pln.down.filter (· != n) } })

/-- Presence falls: the link is dropped, the module is ABSENT and keeps its zones (R409, R411). -/
def presenceLost (n : Nat) (s : State) : State :=
  let s := wrF (pgFLX + n) 0x10C 0 0 0 s
  let s := if rdF s (pgFLX + n) 0x108 10 8 = 0 then s else portDown n s
  pmodPut n { pmodOf s n with st := .absent } s

/-- A port's own fault, which ejects its module as PORT_DOWN (R381, R460). -/
def portFault (n cause : Nat) (s : State) : State :=
  let s := recordFault (pgFLX + n) cause 0 s
  if ingOn s then ejectNow n ejPORT_DOWN s else s

/-! Zones that fail (R422). -/

/-- Members of an ingot in a zone are lost. -/
def loseZone (k : Nat) (x : Ingot) : Ingot :=
  if x.members.any fun l => zoneKey l.module l.zone == k && !l.lost then
    { x with
      members := x.members.map fun l => if zoneKey l.module l.zone = k then { l with lost := true } else l
      st := if x.st = .live then .degraded else x.st }
  else x

/-- A zone becomes OFFLINE: every chunk it held is lost, and its ingots are to be scanned (R385, R422). -/
def zoneOffline (k cause : Nat) (s : State) : State :=
  if (zoneOf s k).st = .offline then s
  else
    let s := hallmark 0x1802 0 [pw (k / 2 ^ 32), pw (k % 2 ^ 32), pw cause] (bump pgPLN 0x180 1 (zonePut k { zoneOf s k with st := .offline } s))
    let s := { ({ s with ldg := { s.ldg with img := { s.ldg.img with ingots := s.ldg.img.ingots.map fun e => (e.1, loseZone k e.2) } } } : State) with ing := { s.ing with
      retired := s.ing.retired.map fun e => (e.1, loseZone k e.2)
      cast := s.ing.cast.map (Casting.lose fun l => zoneKey l.module l.zone == k) } }
    floorUpdate (wrF pgING 0x140 16 16 1 s)

/-- A zone reported Read Only: WORN and treated as FULL (R422). -/
def zoneWorn (k : Nat) (s : State) : State :=
  let z := zoneOf s k
  if z.st = .offline ∨ z.worn then s
  else floorUpdate (reclaim k (zonePut k { z with worn := true, st := .full } s))

/-- Zones of a module that are OFFLINE. -/
def offlineZones (s : State) (m : Nat) : Nat :=
  ((List.range (pmodOf s m).zones).filter fun z => decide ((zoneOf s (zoneKey m z)).st = .offline)).length

/-- A MEMBER module becomes READ_ONLY (R423). -/
def readOnly (m cause : Nat) (s : State) : State :=
  if (pmodOf s m).st = .member then
    floorUpdate (evacuate (hallmark 0x1803 0 [pw m, pw cause] (pmodPut m { pmodOf s m with st := .readOnly } s)))
  else s

/-- A zone is reset: EMPTY, one reset more; an adopted one of a partner that has rejoined goes back to it (R415, R418). -/
def zoneReset (k : Nat) (s : State) : State :=
  let z := zoneOf s k
  let back := z.adopted && k % 2 != headId s && paired s
  let s := zonePut k { st := .empty, resets := z.resets + 1, adopted := z.adopted && !back } s
  let s := if 0 < z.done then bump pgANL 0x14C 1 s else s
  floorUpdate (if back then sendW clsJOURNAL 0x15 k [] s else s)

/-- A Zone Finish has completed: nothing more is granted in the zone (R417). -/
def zoneFinished (k : Nat) (s : State) : State :=
  let z := zoneOf s k
  if z.st = .closing then
    let n := capOf s k
    floorUpdate (reclaim k (zonePut k { z with st := .full, next := n, done := n, free := Nat.min n (z.free + (n - z.done)) } s))
  else s

/-! Admission (R410 to R412). -/

/-- The first line of R410 that a module fails, from 1; 0 where it meets all. -/
def identifyFails (i : ModId) : Nat :=
  if !i.nvmZns then 1 else if !i.lba4k then 2 else if i.appendLimit < 262144 then 3 else if i.zoneCap < 64 then 4
  else if (i.maxActive ≠ 0 ∧ i.maxActive < 8) ∨ (i.maxOpen ≠ 0 ∧ i.maxOpen < 8) then 5
  else if !i.reservations then 6 else if !i.twoPorts then 7 else 0

/-- The head registers on a module's port, and acquires the reservation where the module holds none (R12, R759). -/
def reserveModule (m : Nat) (held peer : Bool) (s : State) : State :=
  let s := emit (.reservation m 0 s.fuses.deviceId) s
  let s := if held then s else emit (.reservation m 1 s.fuses.deviceId) s
  { ({ s with resOwn := if s.resOwn.contains m then s.resOwn else s.resOwn ++ [m] } : State) with resPeer := if peer && !s.resPeer.contains m then s.resPeer ++ [m] else s.resPeer }

/-- The caster uses the module from now on, unless it is EJECTED. -/
def castOnModule (m : Nat) (s : State) : State :=
  if (modOf s m).st = .absent then modPut m { modOf s m with st := .active } s else s

/-- A module that meets R410: unknown it is NEW, known it is a MEMBER again unless it is EJECTED (R411). -/
def moduleSeen (m : Nat) (i : ModId) (s : State) : State :=
  let x := pmodOf s m
  if x.st ≠ .absent ∧ x.st ≠ .refused then s
  else if x.nguid ≠ i.nguid ∨ x.total = 0 then
    pmodPut m { st := .new, cls := x.cls, nguid := i.nguid, zones := i.zones, cap := Nat.min 65535 (i.zoneCap / 64), rest := i.zoneCap % 64 } s
  else if (modOf s m).st = .ejected ∨ s.ldg.img.ejected.any (fun e => e.1 == m) then pmodPut m { x with st := .ejected } s
  else floorUpdate (castOnModule m (pmodPut m { x with st := .member } s))

/-- PLN checks the Identify data of a module whose port has trained; one that fails is REFUSED, and 0x1801 names the line (R410). -/
def moduleIdentified (m : Nat) (i : ModId) (s : State) : State :=
  if identifyFails i = 0 then moduleSeen m i s
  else hallmark 0x1801 0 [pw m, pw (identifyFails i)] (pmodPut m { pmodOf s m with st := .refused } s)

/-- PLN meets, as it leaves OFF, the modules whose ports trained before (R410, R757), as far as their links still stand. -/
def plnMeets (s : State) : State :=
  s.pln.mods.foldl (fun s e => match e.2.seen with
    | none => s
    | some i =>
      let s := pmodPut e.1 { pmodOf s e.1 with seen := none } s
      if rdF s (pgFLX + e.1) 0x108 10 8 = 0 then s else moduleIdentified e.1 i s) s

/-- An ingot-table entry of this head names the module with LOST clear (R412). -/
def namesModule (s : State) (m : Nat) : Bool := (ingotNums s).any fun n => onModule s m n

/-- ADMIT is accepted: MEMBER, and every zone of the own half is reset, its RESETS kept (R412). -/
def admitModule (m : Nat) (s : State) : State :=
  let x := pmodOf s m
  let s := pmodPut m { x with st := .member, total := x.zones } s
  let s := modPut m { modOf s m with st := .active, cause := 0, times := [], asked := none } s
  let s := { s with ldg := { s.ldg with img := { s.ldg.img with ejected := s.ldg.img.ejected.filter fun e => e.1 != m } } }
  (ownZones s m).foldl (fun s z =>
    let s := zonePut z.1 { st := .resetting, resets := z.2.resets, adopted := z.2.adopted } s
    if mayUse s m then emit (.zoneSend m (z.1 % 2 ^ 32) 0) s else s) s

/-! Anneal's choice of work (R430 to R432). -/

/-- The own FULL zones of CAST_CLASS, spine zones apart. -/
def fullZones (s : State) : List (Nat × Zone) :=
  (classMods s (castClass s)).flatMap fun m => (ownZones s m).filter fun z => decide (z.2.st = .full) && !z.2.spine

/-- The victim: the lowest LIVE16 / AREA16, then the lowest RESETS, module and zone (R431). -/
def victimZone (s : State) : Option (Nat × Zone) :=
  (fullZones s).foldl (fun b z => match b with
    | none => some z
    | some y =>
      let (l, a) := zoneSums s.ldg.img.ingots z.1
      let (m, c) := zoneSums s.ldg.img.ingots y.1
      if l * c < m * a ∨ (l * c = m * a ∧ z.2.resets < y.2.resets) then some z else some y) none
/-- The live fraction of a zone in %. -/
def livePct (s : State) (k : Nat) : Nat := let (l, a) := zoneSums s.ldg.img.ingots k; if a = 0 then 0 else l * 100 / a
/-- The victim would free too little (R432). -/
def futile (s : State) (k : Nat) : Bool := let (l, a) := zoneSums s.ldg.img.ingots k; decide (a * rdF s pgANL 0x100 13 7 ≤ l * 100)

/-- A member lies on a WORN zone or on a READ_ONLY module: item 1 (R430). -/
def mustMove (s : State) (l : Loc) : Bool :=
  !l.lost && ((zoneOf s (zoneKey l.module l.zone)).worn || decide ((pmodOf s l.module).st = .readOnly))
def evacWork (s : State) : Bool := live s pgANL 2 && s.ldg.img.ingots.any fun e => e.2.members.any (mustMove s)

def rekeyOn (s : State) : Bool := live s pgANL 3 && bit (rd s pgANL 0x12C) 0
/-- The ingot was cast in the range of the rekey sweep (R439). -/
def inRekey (s : State) (x : Ingot) : Bool :=
  decide ((rd64 s pgANL 0x118).toNat ≤ x.cast ∧ x.cast ≤ (rd64 s pgANL 0x120).toNat) && x.st.holds
/-- Anneal may claim the ingot now (R393, R433). -/
def claimable (s : State) (n : Nat) : Bool :=
  decide ((ingotAt s n).st = .live ∨ (ingotAt s n).st = .degraded) && !(s.ing.attempts.any fun a => a.ingot == n) &&
  !((extentsPending s).any fun e => glocIngot e.gloc == n)
/-- The ingot has a member in the victim zone. -/
def inVictim (s : State) (n : Nat) : Bool :=
  match s.anl.victim with
  | some (m, z) => (tableAt s n).members.any fun l => l.module == m && l.zone == z && !l.lost
  | none => false
/-- Work of items 1 to `i` of R430 waits to be taken. -/
def waits (s : State) (i : Nat) : Bool :=
  (decide (1 ≤ i) && live s pgANL 2 && (ingotNums s).any fun n => claimable s n && (tableAt s n).members.any (mustMove s)) ||
  (decide (2 ≤ i) && rekeyOn s && (ingotNums s).any fun n => claimable s n && inRekey s (tableAt s n)) ||
  (decide (3 ≤ i) && s.anl.handed.any (claimable s)) ||
  (decide (4 ≤ i) && (ingotNums s).any fun n => claimable s n && inVictim s n)
/-- Ingots of the range that remain. -/
def rekeyLeft (s : State) : Bool := (ingotNums s).any fun n => inRekey s (tableAt s n)

/-- The own zones of the class, and the FULL one with the lowest RESETS where the spread is too wide: item 5 (R430). -/
def wearZone (s : State) : Option (Nat × Zone) :=
  let zs := (classMods s (castClass s)).flatMap fun m => ownZones s m
  let hi := zs.foldl (fun n z => Nat.max n z.2.resets) 0
  let lo := zs.foldl (fun n z => Nat.min n z.2.resets) hi
  if !live s pgANL 1 ∨ hi - lo ≤ rdF s pgANL 0x100 26 16 then none
  else (fullZones s).foldl (fun (b : Option (Nat × Zone)) z => match b with
    | none => some z
    | some y => if z.2.resets < y.2.resets then some z else some y) none

/-- ANL works: RUN, the ledger replayed, no quench. -/
def annealing (s : State) : Bool := running s pgANL && s.ldg.replayed && !inQ s

/-- Relocations and moves under way are fewer than PAR (R437). -/
def annealRoom (s : State) : Bool :=
  decide (s.anl.jobs.length + (s.ing.attempts.filter (·.move)).length < rdF s pgANL 0x100 31 27)

/-- The item of R430 that is worked on: 1 to 5, 0 idle. -/
def annealItem (s : State) : Nat :=
  if evacWork s then 1
  else if rekeyOn s && rekeyLeft s then 2
  else if !s.anl.handed.isEmpty then 3
  else if s.anl.victim.isSome then 4
  else if (wearZone s).isSome then 5
  else 0

/-- Anneal may relocate the ingot: for rekey, handed over, or in the victim zone, each once nothing before it waits (R430). -/
def mayRelocate (s : State) (n : Nat) : Bool :=
  (rekeyOn s && inRekey s (tableAt s n) && !waits s 1) || (s.anl.handed.contains n && !waits s 2) || (inVictim s n && !waits s 3)

/-- A member may be moved: item 1, or item 5 once nothing else waits (R430). -/
def mayMove (s : State) (l : Loc) : Bool :=
  (live s pgANL 2 && mustMove s l) ||
  (!waits s 4 && match wearZone s with | some z => zoneKey l.module l.zone == z.1 && !l.lost | none => false)

/-- The domain of a body: that of a namespace that refers to it (R427). -/
def domainOf (s : State) (b : W64) : Nat :=
  match (liveRefs s.ldg.img b) ++ (keptRefs s.ldg.img b).map fun x => (x.1 / 2 ^ 16, x.2) with
  | x :: _ => (nsOf s (x.1 / 2 ^ 35)).domain
  | [] => 0

/-- The bodies of an ingot with a count of at least 1 that its roster lists, or where that is FULL a walk finds (R429, R433). -/
def bodiesOf (s : State) (n : Nat) : List (W64 × Nat) :=
  let i := s.ldg.img
  ((i.refs.filter fun r => r.1 / 2 ^ 24 == n && r.2 != 0).map fun r =>
    let b := BitVec.ofNat 64 r.1
    (b, (((liveRefs i b ++ keptRefs i b).head?).map fun x => x.2.len16).getD 0)).filter fun b =>
      (Tab.getD i.rosters {} n).full || bodyListed i n (glocOffset b.1)

end Sys2Proof.Machine
end

