-- ==== Sys2Proof/Machine/Flash.lean ====
section
/-! DEFINITION. Commands of Planish, Anneal and the flash ports (spec/11_flash_translation.md). -/

namespace Sys2Proof.Machine

/-! The checkpoint. -/

/-- The CKPT record of a checkpoint (R89, R447): its generation, the epoch it covers, the three copies and the CRC of its root, and how many pages it wrote. -/
def ckptRecord (head e gen epoch pages : Nat) (root : PageEnt) (n j : Nat) : List Byte :=
  let body := le 8 gen ++ le 6 epoch ++ zeros 2 ++ le 8 root.loc0.toNat ++ le 8 root.loc1.toNat ++ le 8 root.loc2.toNat ++
    le 4 root.crc.toNat ++ le 4 pages
  sealRecord (le 1 0x11 ++ le 1 head ++ zeros 2 ++ le 4 n ++ le 6 e ++ zeros 2 ++ le 8 j ++ body ++ zeros (224 - body.length))

/-- The index pages that a writer wrote carry the checkpoint's generation (R789). -/
def idxGens (wrote : List Nat) (gen : Nat) (t : Tab Nat) : Tab Nat :=
  wrote.foldl (fun t p => match PageId.ofPid p with | some (.index k) => Tab.put t k gen | _ => t) t

/-- LDG and the forges hold the checkpoint as the last complete one. -/
def ckptTaken (c : CkptRun) (w : CkptWriter) (gen : Nat) (s : State) : State :=
  { ({ s with ldg := { s.ldg with running := none, ckpt := c, ckptGen := gen, tailJseq := c.jfrom } } : State) with
    frg := { s.frg with idxCkpt := w.idx, idxGen := idxGens w.wrote gen s.frg.idxGen } }

/-- Anneal's page map is the new tree; what it supersedes is dead from the commit of epoch `e`; the pages written are no longer marked. -/
def ckptMapped (c : CkptRun) (w : CkptWriter) (t : PageTree) (freed : List Nat) (e : Nat) (s : State) : State :=
  { s with pln := { s.pln with
      tree := t
      writer := none
      zoneCkpt := w.zones
      supers := (s.pln.supers.filter fun x => decide (c.epoch < x.1)) ++ [(e, w.dead, freed)]
      remark := s.pln.remark.filter fun p => !(w.wrote.contains p) && !(spinePages s w).any fun q => q.pid == p } }

/-- CHECKPOINT_COMPLETE (R96, R97, R446, R447): every ingot-borne page is written and its ingot retired; the ingot-table pages and the changed
nodes are written in the spine, the root last; LDG writes the CKPT record in the open epoch and releases the older records. What the checkpoint
supersedes is dead from the commit of that epoch. -/
def execCheckpointComplete (s : State) : Outcome :=
  .next (match s.ldg.running, s.pln.writer with
    | some c, some w =>
      if !ledgerOn s || !alive s pgPLN || ckptOpen s w || (ckptKey s).isNone then s
      else match writeSpine w c s with
        | (none, s) => s
        | (some (t, n, freed), s) =>
          let e := epochOpen s
          let gen := s.ldg.ckptGen + 1
          let pages := w.wrote.length + n
          let s := writeRecord e (ckptRecord (headId s) e gen c.epoch pages t.root) (flushItems e s)
          let s := ckptMapped c w t freed e (ckptTaken c w gen s)
          let s := wr64 pgPLN 0x168 t.root.loc0 (wr pgPLN 0x164 0 (wr64 pgLDG 0x138 (BitVec.ofNat 64 gen) s))
          hallmark 0x1805 0 (pw2 gen ++ pw2 c.epoch ++ [pw pages]) (journalFill s)
    | _, _ => s)

/-! Modules. -/

/-- MODULE_LINK_UP (R407, R410, R411, R462): a port has trained; the module is new, known again, or REFUSED. While PLN is OFF or in FAULT
its Identify data wait for it (DEDUCED, log entry 236). -/
def execModuleLinkUp (port rate width ltssm : Nat) (ident : ModId) (s : State) : Outcome :=
  .next (if !portOn s port ∨ (flashOctets s port).any (patterned s) then s
    else
      let s := wr (pgFLX + port) 0x108 (BitVec.ofNat 32 (rate * 2 ^ 16 + width * 2 ^ 8 + ltssm)) s
      let s := hallmark 0x2302 port [pw port, pw rate, pw width] { s with pln := { s.pln with
        down := s.pln.down.filter (· != port)
        late := s.pln.late.filter (· != port) } }
      let w := if bit (rd s pgFLX 0x100) 8 then 4 else 2
      let s := lanesLocked (w * port) w (wrF (pgFLX + port) 0x10C 0 0 1 s)
      if pgState s pgPLN = stOFF ∨ pgState s pgPLN = stFAULT then pmodPut port { pmodOf s port with seen := some ident } s
      else moduleIdentified port ident s)

/-- MODULE_ADMIT (R411, R412): MOD_CMD.ADMIT for the selected module. -/
def execModuleAdmit (value : W32) (s : State) : Outcome :=
  let s := commandWrite pgPLN 0x128 value s
  let m := rdF s pgPLN 0x110 6 0
  let x := pmodOf s m
  .next (if !bit value 0 then s
    else if (x.st = .new ∨ x.st = .ejected) ∧ alive s pgPLN ∧ !namesModule s m then floorUpdate (admitModule m s)
    else conflict pgPLN 0x128 s)

/-- MODULE_RETIRE (R411, R423): MOD_CMD.RETIRE for the selected module. -/
def execModuleRetire (value : W32) (s : State) : Outcome :=
  let s := commandWrite pgPLN 0x128 value s
  .next (if bit value 1 then readOnly (rdF s pgPLN 0x110 6 0) 3 s else s)

/-- PRESENCE_LOST (R409, R411). -/
def execPresenceLost (port : Nat) (s : State) : Outcome := .next (if portOn s port then presenceLost port s else s)

/-- RETRAIN_TIMEOUT (R381, R409): the link has not returned within RETRAIN_MS. -/
def execRetrainTimeout (port : Nat) (s : State) : Outcome :=
  .next (if portOn s port && s.pln.down.contains port then portFault port 0x80 s else s)

/-- SIDEBAND_POLL (R409): presence, power and temperature of a module. -/
def execSidebandPoll (port : Nat) (present power : Bool) (temp : Byte) (s : State) : Outcome :=
  .next (if !portOn s port || !live s (pgFLX + port) 0 then s
    else
      let was := bit (rd s (pgFLX + port) 0x10C) 0
      let s := wr (pgFLX + port) 0x10C (BitVec.ofNat 32 (temp.toNat * 2 ^ 24 + 2 * b2n power + b2n present)) s
      if was && !present then presenceLost port s else s)

/-- HEALTH_POLL (R411, R422, R423): the zones a module reports Offline and Read Only, and whether its SMART log shows it worn. -/
def execHealthPoll (module : Nat) (offline worn : List Nat) (smart : Bool) (s : State) : Outcome :=
  .next (if !alive s pgPLN || !live s pgPLN 2 then s
    else
      let mine := fun z => decide (z < (pmodOf s module).zones) && ownZone s (zoneKey module z)
      let s := (offline.filter mine).foldl (fun s z => zoneOffline (zoneKey module z) 1 s) s
      let s := (worn.filter mine).foldl (fun s z => zoneWorn (zoneKey module z) s) s
      let x := pmodOf s module
      if !live s pgPLN 1 then s
      else if (x.zones - offlineZones s module) * 100 < rdF s pgPLN 0x100 22 16 * x.total then readOnly module 1 s
      else if smart then readOnly module 2 s
      else s)

/-! Chunks and zones. -/

/-- CHUNK_GRANT (R420, R421, R424): an ingot that waits for chunks asks again. -/
def execChunkGrant (ingot : Nat) (s : State) : Outcome :=
  .next (match castingOf s ingot with
    | none => s
    | some c =>
      if !ingOn s || c.casting || c.billets.isEmpty || !allIn c then s
      else if ingotFull c || (epOf s c.epoch).drained then castIngot c s
      else s)

/-- ZONE_RESET_DONE (R415, R418, R422): a Zone Reset has completed, or failed. -/
def execZoneResetDone (module zone : Nat) (ok : Bool) (s : State) : Outcome :=
  .next (if (zoneOf s (zoneKey module zone)).st ≠ .resetting then s
    else if ok then zoneReset (zoneKey module zone) s
    else zoneOffline (zoneKey module zone) 2 s)

/-- ZONE_RETURN (R418): the survivor gives a zone of this head's parity back. -/
def execZoneReturn (zone : Nat) (s : State) : Outcome :=
  let s := takeRx 0x15 s
  .next (if zone % 2 = headId s then
      floorUpdate (zonePut zone { st := .empty, resets := (zoneOf s zone).resets } { s with pln := { s.pln with
        returned := if s.pln.returned.contains zone then s.pln.returned else s.pln.returned ++ [zone] } })
    else s)

/-! Anneal. -/

/-- ANL_WORK_SELECT (R426, R430 to R432): Anneal starts or stops running for free space, picks its victim, and takes the first kind of
work that waits. -/
def execAnlWorkSelect (s : State) : Outcome :=
  .next (if !annealing s then s
    else
      let f := arrayFree s
      let c := arrayCap s
      let free := if f * 100 < rdF s pgANL 0x100 6 0 * c then true
        else if rdF s pgANL 0x108 6 0 * c < f * 100 then false else s.anl.free
      let reclaimOn := live s pgANL 0
      let v := if free && reclaimOn then victimZone s else none
      let stuck := if reclaimOn then free && (match v with | some z => futile s z.1 | none => true) else decide (f ≤ hostFloor s)
      let pick := match v with
        | some z => if futile s z.1 then none else some (z.1 / 2 ^ 32, z.1 % 2 ^ 32)
        | none => none
      let s := match pick with
        | some (m, z) => if s.anl.victim = pick then s else hallmark 0x1901 0 [pw m, pw z, pw (livePct s (zoneKey m z))] s
        | none => s
      let s := { s with anl := { s.anl with free := free, victim := pick } }
      let s := wrF pgANL 0x110 18 16 (annealItem s) (wrF pgANL 0x110 31 31 (b2n stuck) s)
      floorUpdate (anlStat s))

/-- RELOCATION_CLAIM (R180, R393, R429, R430, R433, R448): Anneal claims an ingot: RELOCATING through a STATE item, its index entries MOVING. The
pages of a checkpoint ingot are marked for the next checkpoint. -/
def execRelocationClaim (ingot : Nat) (s : State) : Outcome :=
  .next (if !annealing s || !annealRoom s || !mayRelocate s ingot || !claimable s ingot then s
    else
      let s := toLedger (openItem (.setState .relocating ingot)) s
      let es := s.frg.idx.flatMap fun p => (p.2.filter fun e => !e.pending && glocIngot e.gloc == ingot).map fun e => (p.1, e)
      let s := es.foldl (fun s e => idxSet e.1 e.2 { e.2 with moving := true } s) s
      let s := if (Tab.getD s.ldg.img.rosters {} ingot).full then bump pgANL 0x148 1 s else s
      let rk := rekeyOn s && inRekey s (tableAt s ingot)
      let s := remarkPages (livePages s ingot) s
      anlStat { ({ s with ing := { s.ing with claims := Tab.put s.ing.claims ingot .relocating } } : State) with anl := { s.anl with
          jobs := s.anl.jobs ++ [{ ingot := ingot, claim := epochOpen s }]
          handed := s.anl.handed.filter (· != ingot)
          rekeyed := s.anl.rekeyed + b2n rk } })

/-- The copying of a claimed ingot begins once the claim is committed: bodies on slag rows are skipped (R433). -/
def startCopy (j : Job) (s : State) : State :=
  let x := tableAt s j.ingot
  let bs := bodiesOf s j.ingot
  let bad := bs.filter fun b => onSlagRow x b.1 b.2
  let good := bs.filter fun b => !onSlagRow x b.1 b.2
  let e := epochOpen s
  let s := epPut e { epOf s e with relocs := (epOf s e).relocs ++ bad.map fun b => (b.1, glocSlagOnly) } s
  { s with anl := { s.anl with jobs := s.anl.jobs.map fun k =>
      if k.ingot = j.ingot then { k with copying := true, left := good.map (·.1) } else k } }

/-- One body is opened and sealed again under the current generation at a place from Anneal's billet (R433). -/
def copyBody (drp : Nat) (j : Job) (g : W64) (body : List Byte) (s : State) : State :=
  let len16 := body.length / 16
  let d := domainOf s g
  match billetOf s 16 with
  | none => s
  | some (c, _, b) =>
    if 16384 < b.cursor + len16 then cullBillet 16 s else
    match (openBody s d g len16 (tableAt s j.ingot).cast body).1 with
    | .ok pt =>
      match sealUse d c.epoch (16 + drp) s with
      | (some (.granted _, k), t) =>
        match reserve 16 len16 (glocCodec g) t with
        | (none, t) => t
        | (some a, t) =>
          let t := { t with anl := { t.anl with
            bucket := t.anl.bucket - body.length
            jobs := t.anl.jobs.map fun y => if y.ingot = j.ingot then { y with left := y.left.filter (· != g) } else y } }
          handIn 16 { kind := hiBODY, forge := 0xFF, grain := g.toNat, epoch := c.epoch, gloc := a, len16 := len16
                      body := sealBody t k d a len16 c.epoch pt, old := g } t
      | (_, t) => t
    | _ => s

/-- RELOCATION_COPY (R433, R437): a body of a claimed ingot has been read by a drawplate (through reconstruction where needed). -/
def execRelocationCopy (drp ingot : Nat) (gloc : W64) (body : List Byte) (s : State) : Outcome :=
  .next (match s.anl.jobs.find? fun j => j.ingot == ingot with
    | none => s
    | some j =>
      if !annealing s || epochCommitted s < j.claim then s
      else
        let s := if j.copying then s else startCopy j s
        match s.anl.jobs.find? fun j => j.ingot == ingot with
        | none => s
        | some j => if j.left.contains gloc && decide (body.length ≤ s.anl.bucket) then copyBody drp j gloc body s else s)

/-- MEMBER_MOVE (R436, R437): a member chunk has been read; a new chunk is taken for it, a REBUILD entry is written, and it is
appended. -/
def execMemberMove (ingot member : Nat) (data : List Byte) (s : State) : Outcome :=
  let x := ingotAt s ingot
  let l := x.members.getD member {}
  .next (if !annealing s || !annealRoom s || !decide (x.st = .live ∨ x.st = .degraded) || x.members.length ≤ member || !mayMove s l ||
      !sjRoom s || (s.ing.attempts.any fun a => a.ingot == ingot) || decide (s.anl.bucket < data.length) then s
    else match grantChunks (pmodOf s l.module).cls 1 (x.members.map (·.module)) s with
      | (some [n], s) =>
        let y := setMember member n (tableAt s ingot)
        match sjWrite 3 ingot x.cast (2 ^ member) y s with
        | none => s
        | some (j, s) =>
          let a : Attempt := { ingot := ingot, move := true, set := [member], locs := [n], old := [l], data := [data], slagRows := x.slagRows, jent := some j }
          anlStat (issueAll { ({ s with anl := { s.anl with bucket := s.anl.bucket - data.length } } : State) with ing := { s.ing with
              attempts := s.ing.attempts ++ [a]
              appends := s.ing.appends ++ [⟨j, ingot, member, n, false⟩] } })
      | (_, s) => s)

/-- ANL_BUCKET_REFILL (R437): every 10 µs at GBPS, or URGENT_GBPS while FLOOR is 1. -/
def execAnlBucketRefill (s : State) : Outcome :=
  let g := if floorOn s then rdF s pgANL 0x104 31 16 else rdF s pgANL 0x104 15 0
  .next { s with anl := { s.anl with bucket := s.anl.bucket + g * 10000 } }

/-- REKEY_START (R439): REKEY_CMD.START; while a sweep runs it is ignored. -/
def execRekeyStart (value : W32) (s : State) : Outcome :=
  .next (if bit (rd s pgANL 0x12C) 0 then conflict pgANL 0x128 s
    else
      let s := commandWrite pgANL 0x128 value s
      if bit value 0 && live s pgANL 3 then
        wrF pgANL 0x12C 0 0 1 { s with anl := { s.anl with rekeyed := 0 } }
      else s)

/-- REKEY_DONE (R439): no ingot of the range remains. -/
def execRekeyDone (s : State) : Outcome :=
  .next (if !annealing s || !rekeyOn s || rekeyLeft s then s
    else
      let s := wr pgANL 0x12C 2#32 s
      hallmark 0x1904 0 (pw2 (rd64 s pgANL 0x118).toNat ++ pw2 (rd64 s pgANL 0x120).toNat ++ [pw s.anl.rekeyed]) (event pgANL 2 0 s))

/-! Spine pages and the start (R449 to R451). -/

/-- The first copy that opens and has the CRC of its entry, and how many failed before it. -/
def goodCopy (s : State) (tweak pid : Nat) (crc : W32) : List (Option (List Byte)) → Option (List Byte) × Nat
  | [] => (none, 0)
  | c :: t => match c.bind (openPage s tweak pid) with
    | some p => if crc32c p = crc then (some p, 0) else let r := goodCopy s tweak pid crc t; (r.1, r.2 + 1)
    | none => let r := goodCopy s tweak pid crc t; (r.1, r.2 + 1)

/-- SPINE_READ (R441, R444, R449): a spine page is read into memory from the three places that its entry names, in order; each failed copy
counts, and the page is marked for the next checkpoint; when all fail the head cannot start. -/
def execSpineRead (dst pid : Nat) (copies : List (Option (List Byte))) (s : State) : Outcome :=
  .next (match s.pln.tree.spineOf pid with
    | none => s
    | some e =>
      let r := goodCopy s e.loc0.toNat pid e.crc copies
      let s := if r.2 = 0 then s else remarkPages [pid] (bump pgPLN 0x184 r.2 s)
      match r.1 with
      | some p => memWrite dst p s
      | none => recordFault pgPLN 0x81 0 s)

/-- The chunks of a zone that an ingot-table entry or an open stripe-journal entry names. -/
def namedIn (s : State) (k c : Nat) : Bool :=
  ((ingotNums s).any fun n => (tableAt s n).members.any fun l => zoneKey l.module l.zone == k && l.chunk == c && !l.lost) ||
  (s.ing.sj.any fun e => match castingOf s e.ingot with
    | some x => x.locs.any fun l => match l with | some l => zoneKey l.module l.zone == k && l.chunk == c | none => false
    | none => false)

/-- One zone against its write pointer, in blocks (R451): granted past it, orphans freed, interrupted resets issued again. A spine zone's chunks
are named by no ingot. -/
def reconcile (w : Nat × Nat) (s : State) : State :=
  let k := w.1
  let z := zoneOf s k
  let n := Nat.min (capOf s k) (w.2 / 64)
  let next := Nat.max z.next ((w.2 + 63) / 64)
  let st := if capOf s k ≤ n then ZSt.full else if next = 0 then .empty else if capOf s k ≤ next then .closing else .opened
  match z.st with
  | .opened | .closing | .empty =>
    if z.spine then reclaim k (zonePut k { z with next := next, st := st } s)
    else
      let unnamed := ((List.range n).filter fun c => !namedIn s k c).length
      reclaim k (bump pgPLN 0x188 (unnamed - z.free) (zonePut k { z with next := next, done := n, free := unnamed, st := st } s))
  | .reclaim | .resetting => emit (.zoneSend (k / 2 ^ 32) (k % 2 ^ 32) 0) (zonePut k { z with st := .resetting } s)
  | .full | .offline => s

/-- At takeover every zone of the failed head's half is this head's (R418). -/
def adoptZone (w : Nat × Nat) (s : State) : State :=
  if w.1 % 2 = headId s then s else zonePut w.1 { zoneOf s w.1 with adopted := true } s

/-- A RELOCATING ingot that no work stands behind goes back to LIVE or DEGRADED (R438, R450). -/
def returnClaims (s : State) : State :=
  (s.ldg.img.ingots.filter fun e => decide (e.2.st = .relocating) && !(s.anl.jobs.any fun j => j.ingot == e.1)).foldl (fun s e =>
    toLedger (openItem (.setState (if e.2.lostN = 0 then .live else .degraded) e.1)) (unmark e.1 s)) s

/-- Without a readable journal, members named in unwritten chunks are lost (R377, R451). -/
def loseUnwritten (wps : List (Nat × Nat)) (s : State) : State :=
  { s with ldg := { s.ldg with img := { s.ldg.img with ingots := s.ldg.img.ingots.map fun e =>
      let ms := e.2.members.map fun l =>
        if (wps.any fun w => w.1 == zoneKey l.module l.zone) && !chunkWritten wps l then { l with lost := true } else l
      (e.1, { e.2 with members := ms, st := if e.2.st = .live ∧ ms.any (·.lost) then .degraded else e.2.st }) } } }

/-- STARTUP_RECONCILE (R418, R438, R450, R451): after replay and journal resolution PLN meets the write pointers of the own zones that are
OPEN or CLOSING (at takeover: of the failed head's zones, which it adopts); MOVING marks are cleared, claims without work are
returned. -/
def execStartupReconcile (mirror : Bool) (wps : List (Nat × Nat)) (s : State) : Outcome :=
  .next (if !s.ldg.replayed || (!mirror && !s.ing.resolved) || (mirror && !s.ldg.peerTaken) then s
    else
      let s := if mirror then wps.foldl (fun s w => adoptZone w s) s else s
      let s := (wps.filter fun w => ownZone s w.1).foldl (fun s w => reconcile w s) s
      let s := if s.ing.unread then wrF pgING 0x140 16 16 1 (loseUnwritten wps s) else s
      let s := { s with frg := { s.frg with idx := s.frg.idx.map fun p => (p.1, p.2.map fun e => if e.moving then { e with moving := false }.sealed else e) } }
      floorUpdate (settleFences (returnClaims s)))

/-! Ports. -/

/-- NVME_COMMAND_COMPLETION (R382, R408, R417): a module completes a command: 0 Read, 1 Zone Append, 2 Zone Reset, 3 Zone Finish. What an
EJECTED module still answers is discarded; data and append results go on to their requesters (MEMBER_READ_DONE,
MEMBER_APPEND_DONE). -/
def execNvmeCommandCompletion (module op zone : Nat) (ok : Bool) (s : State) : Outcome :=
  .next (if !portOn s module then s
    else if (modOf s module).st = .ejected then bump pgING 0x1A4 1 s
    else
      let s := answered module s
      if op = 3 then (if ok then zoneFinished (zoneKey module zone) s else zoneOffline (zoneKey module zone) 3 s) else s)

/-- A flash port's link leaves L0 and is retrained (R462). -/
def flashDrop (port : Nat) (s : State) : State :=
  if portOn s port && rdF s (pgFLX + port) 0x108 10 8 != 0 then portDown port (bump (pgFLX + port) 0x12C 1 s) else s

/-- FLASH_LINK_DROP (R462). -/
def execFlashLinkDrop (port : Nat) (s : State) : Outcome := .next (flashDrop port s)

/-- COMPLETION_TIMEOUT (R461): a PCIe completion has been outstanding for CPL_TMO_MS. -/
def execCompletionTimeout (port : Nat) (s : State) : Outcome :=
  .next (if portOn s port then bump (pgFLX + port) 0x128 1 s else s)

/-- FATAL_AER (R381, R460): the endpoint reports an uncorrectable fatal error. -/
def execFatalAer (port : Nat) (s : State) : Outcome := .next (if portOn s port then portFault port 0x81 s else s)

/-- DPC_CONTAINMENT (R381, R460): a containment event, where DPC is live. -/
def execDpcContainment (port : Nat) (s : State) : Outcome :=
  .next (if portOn s port && live s (pgFLX + port) 1 then portFault port 0x82 s else s)

end Sys2Proof.Machine
end

