-- ==== Sys2Proof/Machine/Wadun.lean ====
section
/-! DEFINITION. The Wadun link itself: flits, retry, training, link-up, narrowing (spec/15_wadun_link.md, R567 to R592). -/

namespace Sys2Proof.Machine

/-! Flits received. -/

/-- A field of a flit's header (R572). -/
def flitF (f : List Byte) (hi lo : Nat) : Nat := field f 0 8 / 2 ^ lo % 2 ^ (hi - lo + 1)
/-- The CRC-64 of a flit is right (R570). -/
def flitOk (f : List Byte) : Bool := field f 0xF0 8 == (crc64 (f.take 0xF0)).toNat

/-- The bits of ARG that a message uses (R588). -/
def argMask (t : Nat) : Nat :=
  match t with
  | 0x01 | 0x02 | 0x11 | 0x12 | 0x13 | 0x14 | 0x15 | 0x41 | 0x42 | 0x43 | 0x44 | 0x45 | 0x46 | 0x47 => 2 ^ 64 - 1
  | 0x03 => 0xFF000FFFFF
  | 0x04 | 0x06 | 0x21 | 0x22 | 0x23 | 0x24 | 0x25 => 2 ^ 48 - 1
  | 0x07 => 0x7F007F
  | 0x16 => 0x30F3F
  | 0x31 | 0x33 => 0x3FFF
  | 0x32 => 0xFFFFFFFFFFFF3FFF
  | _ => 0

/-- A message is well formed (R592): its MTYPE is of its class, LEN is right, reserved fields are 0. -/
def msgOk (cls : Nat) (b : List Byte) : Bool :=
  let t := field b 0 1
  decide (16 ≤ b.length) && mtypeClass t == some cls && field b 1 3 == 0 && field b 4 4 + 16 == b.length &&
  (field b 8 8 ||| argMask t) == argMask t && bodyOk t (field b 8 8) (b.length - 16)

/-- A message from the partner is dropped whole (R592): PEER_VIOL, hallmark 0x2204, its credits go back. -/
def peerViol (cls n : Nat) (b : List Byte) (s : State) : State :=
  let s := emit (.wadunCredit cls n) (bump pgWDL 0x198 1 s)
  hallmark 0x2204 0 [pw cls, pw (field b 0 1), pw (field b 4 4)] s

/-- Flits of a class in the receive buffer. -/
def rxUsed (s : State) (c : Nat) : Nat :=
  ((s.wdl.rx.filter fun r => r.cls == c).map (·.flits)).foldl (· + ·) 0 + (Tab.getD s.wdl.rxPart ([], 0) c).2

/-- A message has arrived whole: it waits for its consumer, and one of a class other than EPOCH wakes the head (R722). -/
def msgWhole (c n : Nat) (b : List Byte) (s : State) : State :=
  let s := { s with wdl := { s.wdl with rxPart := Tab.erase s.wdl.rxPart c } }
  if msgOk c b then
    let s := { s with wdl := { s.wdl with rx := s.wdl.rx ++ [⟨c, ⟨field b 0 1, field b 8 8, b.drop 16⟩, n⟩] } }
    if c = clsEPOCH then s else wake wkWADUN s
  else peerViol c n b s

/-- A MSG flit that is the next expected joins its message (R576, R586). -/
def acceptFlit (f : List Byte) (s : State) : State :=
  let c := flitF f 36 34
  if Tab.getD wdlBuffers 0 c ≤ rxUsed s c then linkDown ldPAGE (recordFault pgWDL cCREDIT_ERROR 0 s)
  else
    let s := bump64 pgWDL 0x168 1 { s with wdl := { s.wdl with
      rxExp := (s.wdl.rxExp + 1) % 4096
      nakSent := false
      ackOwed := true } }
    let part := Tab.find? s.wdl.rxPart c
    let som := flitF f 33 33 == 1
    let s := match part with
      | some p => if som then peerViol c p.2 p.1 { s with wdl := { s.wdl with rxPart := Tab.erase s.wdl.rxPart c } } else s
      | none => s
    let old := if som then some ([], 0) else part
    match old with
    | none => peerViol c 1 [] s
    | some p =>
      let b := p.1 ++ slice f 8 (Nat.min 232 (flitF f 31 24))
      if flitF f 32 32 = 1 then msgWhole c (p.2 + 1) b s
      else { s with wdl := { s.wdl with rxPart := Tab.put s.wdl.rxPart c (b, p.2 + 1) } }

/-- One NAK record for a gap (R576). -/
def sendNak (s : State) : State :=
  if s.wdl.nakSent then s
  else emit (.ctl (le 1 0x02 ++ zeros 1 ++ le 2 s.wdl.rxExp ++ zeros 4))
    (bump pgWDL 0x18C 1 { s with wdl := { s.wdl with nakSent := true } })

/-- An ACK_SEQ frees the replay buffer up to it; one that names an FSEQ not yet sent is ignored and counts (R575, R592). -/
def ackSeq (n : Nat) (s : State) : State :=
  match s.wdl.replay.findIdx? fun f => f.fseq == n with
  | some k => { s with wdl := { s.wdl with replay := s.wdl.replay.drop (k + 1), resends := 0 } }
  | none =>
    if (s.wdl.txFseq + 4096 - n - 1) % 4096 < 3072 then s else bump pgWDL 0x198 1 s

/-- Credits come back; more than the depth is CREDIT_ERROR (R51, R587). -/
def creditBack (c n : Nat) (s : State) : State :=
  if n = 0 then s
  else if Tab.getD wdlBuffers 0 c < Tab.getD s.wdl.txCredits 0 c + n then linkDown ldPAGE (recordFault pgWDL cCREDIT_ERROR 0 s)
  else { s with wdl := { s.wdl with txCredits := Tab.put s.wdl.txCredits c (Tab.getD s.wdl.txCredits 0 c + n) } }

/-- FLIT_RECEIVE (R571, R575, R576, R585 to R587, R592): a flit whose FEC or CRC fails is discarded; the acknowledgement and the credits
of a good one count, and a MSG flit that is the next expected is accepted. -/
def execFlitReceive (flit : List Byte) (corrected : Nat) (fecFailed : Bool) (s : State) : Outcome :=
  .next (if !linkUp s then s
    else if fecFailed || !flitOk flit then sendNak (bump pgWDL 0x184 1 s)
    else
      let s := if corrected = 0 then s else bump pgWDL 0x180 corrected s
      let s := if flitF flit 37 37 = 1 then ackSeq (flitF flit 49 38) s else s
      let s := creditBack (flitF flit 23 21) (flitF flit 20 9) s
      let s := pump s.wdl.txq.length s
      if flitF flit 63 62 ≠ 1 ∨ !linkUp s then s
      else if flitF flit 61 50 = s.wdl.rxExp then acceptFlit flit s
      else sendNak s)

/-! Retry (R575 to R577). -/

/-- Resend every MSG flit from a place of the replay buffer on; after RETRY_MAX times without progress the link is down. -/
def resend (k : Nat) (s : State) : State :=
  if s.wdl.replay.length ≤ k then s
  else if rdF s pgWDL 0x100 11 8 ≤ s.wdl.resends then linkDown ldRETRY s
  else
    let s := bump pgWDL 0x188 1 { s with wdl := { s.wdl with resends := s.wdl.resends + 1 } }
    (s.wdl.replay.drop k).foldl (fun s f => emit (.resend f.fseq) s) s

/-- NAK (R577): every MSG flit from the FSEQ named on is sent again. -/
def execNak (fseq : Nat) (s : State) : Outcome :=
  .next (if !linkUp s then s
    else match s.wdl.replay.findIdx? fun f => f.fseq == fseq with
      | some k => resend 0 { s with wdl := { s.wdl with
          replay := s.wdl.replay.drop k
          resends := if k = 0 then s.wdl.resends else 0 } }
      | none => s)

/-- RETRY_TIMEOUT (R577): RETRY_TMO_US have passed with flits unacknowledged. -/
def execRetryTimeout (s : State) : Outcome := .next (if linkUp s then resend 0 s else s)

/-- The header of a flit that carries nothing (R572): FTYPE, and the acknowledgement. -/
def idleHeader (ftype : Nat) (s : State) : W64 :=
  BitVec.ofNat 64 (ftype * 2 ^ 62 + (s.wdl.rxExp + 4095) % 4096 * 2 ^ 38 + 2 ^ 37)

/-- ACK_TIMER (R576): an acknowledgement not yet sent leaves in an ACK_VALID header. -/
def execAckTimer (s : State) : Outcome :=
  .next (if linkUp s && s.wdl.ackOwed then
      emit (.wadunIdle (idleHeader 0 s)) { s with wdl := { s.wdl with ackOwed := false } }
    else s)

/-! Training and width (R567 to R569, R579, R583, R584). -/

/-- WIDTH codes: 0x1 x8, 0x2 x16, 0x4 x32. The widest width of R568 whose lanes include no failed lane; 0 where none is left. -/
def widthOf (failed : W32) : Nat :=
  let clean := fun (lo n : Nat) => (List.range n).all fun k => !bit failed (lo + k)
  if clean 0 32 then 4
  else if clean 0 16 || clean 16 16 then 2
  else if clean 0 8 || clean 8 8 || clean 16 8 || clean 24 8 then 1
  else 0
def lanesFailed (s : State) : W32 := rd s pgWDL 0x10C ||| s.wdl.peerLanes
def linkWidth (s : State) : Nat := rdF s pgWDL 0x108 10 8

/-- The link trains: LSTATE TRAIN, REFUSE and WIDTH 0. -/
def trainLink (s : State) : State :=
  wr pgWDL 0x108 (pw lsTRAIN) (wr pgWDL 0x10C 0 { s with wdl := { s.wdl with peerLanes := 0, deskewed := false, gotHello := false
                                                                             gotSeen := false, sentSeen := false } })

/-- LANE_LOCK (R582): lanes have locked; alignment flits follow. Without NARROW every lane is needed. -/
def execLaneLock (lanes : W32) (s : State) : Outcome :=
  .next (if lstate s ≠ lsTRAIN ∨ !running s pgWDL then s
    else
      let failed := ~~~lanes
      let w := widthOf failed
      if w = 0 ∨ (w ≠ 4 ∧ !live s pgWDL 0) then s
      else emit (.wadunIdle (idleHeader 3 s)) (wrF pgWDL 0x108 10 8 w (wr pgWDL 0x10C failed s)))

/-- ALIGN_FLIT (R569, R582): the lanes of the active set are deskewed; in training HELLO follows. -/
def execAlignFlit (s : State) : Outcome :=
  .next (if lstate s = lsTRAIN ∧ linkWidth s ≠ 0 then
      wrF pgWDL 0x108 2 0 lsHELLO { s with wdl := { s.wdl with deskewed := true } }
    else s)

/-- RETRAIN (R580, R585): trains again after a refusal or a DOWN, but not after a takeover until the page has been through START. -/
def execRetrain (value : W32) (s : State) : Outcome :=
  .next (atRegister 0 pgWDL 0x104 (fun s =>
    let s := commandWrite pgWDL 0x104 value s
    if bit value 0 && running s pgWDL && !s.wdl.barred && (lstate s == lsDOWN || lstate s == lsREFUSED) then trainLink s else s) s)

/-- The NARROW control record (R583). -/
def narrowRecord (s : State) : List Byte :=
  le 1 0x03 ++ le 1 (widthOf (lanesFailed s)) ++ zeros 2 ++ le 4 (rd s pgWDL 0x10C).toNat

/-- The link runs at a width from here on: NARROWS, hallmark 0x2205, flits in flight are sent again (R583). -/
def setWidth (w : Nat) (s : State) : State :=
  let old := linkWidth s
  let s := wrF pgWDL 0x108 2 0 lsUP s
  if old = w then s
  else
    let s := hallmark 0x2205 0 [pw old, pw w, rd s pgWDL 0x10C] (bump pgWDL 0x19C 1 (wrF pgWDL 0x108 10 8 w s))
    s.wdl.replay.foldl (fun s f => emit (.resend f.fseq) s) s

/-- Lanes of the link fail (R583): with link narrowing live the heads agree on the widest width that has none of them, else the link goes
down. -/
def failLanes (lanes : W32) (s : State) : State :=
  let s := wr pgWDL 0x10C (rd s pgWDL 0x10C ||| lanes) s
  if !linkUp s ∨ lanes = 0 then s
  else if !live s pgWDL 0 ∨ widthOf (lanesFailed s) = 0 then linkDown ldLANE s
  else if linkWidth s ≤ widthOf (lanesFailed s) then s
  else emit (.ctl (narrowRecord s)) (wrF pgWDL 0x108 2 0 lsNARROWING s)

/-- LANE_FAIL (R583). -/
def execLaneFail (lanes : W32) (s : State) : Outcome := .next (failLanes lanes s)

/-- NARROW (R583): the partner's failed lanes; both heads take the widest width that has none. -/
def execNarrow (width : Nat) (lanes : W32) (s : State) : Outcome :=
  .next (if !linkUp s then s
    else
      let asked := lstate s == lsNARROWING
      let s := { s with wdl := { s.wdl with peerLanes := lanes } }
      let w := Nat.min width (widthOf (lanesFailed s))
      if w = 0 ∨ !live s pgWDL 0 then linkDown ldLANE s
      else if !asked ∧ linkWidth s ≤ w then s
      else setWidth w (if asked then s else emit (.ctl (narrowRecord s)) s))

/-- LINK_WIDEN (R584): the lanes of a wider width have been clean for 1 s. -/
def execLinkWiden (lanes : W32) (s : State) : Outcome :=
  let w := if lanes = 0xFFFFFFFF#32 then 4 else 2
  .next (if lstate s = lsUP ∧ live s pgWDL 0 ∧ linkWidth s < w then
      wrF pgWDL 0x108 10 8 w (wr pgWDL 0x10C (rd s pgWDL 0x10C &&& ~~~lanes)
        { s with wdl := { s.wdl with peerLanes := s.wdl.peerLanes &&& ~~~lanes } })
    else s)

/-! Link-up (R578 to R582). -/

/-- ROLE (R578): OWNER while this head serves namespaces as one of a pair or as the survivor. -/
def isOwner (s : State) : Bool := tstate s == tsPAIRED || tstate s == tsFENCING || tstate s == tsSURVIVOR

/-- The HELLO record (R578). -/
def helloRecord (s : State) : List Byte :=
  le 1 0x10 ++ le 1 1 ++ le 1 (rdF s pgTOP 0x100 7 0) ++ le 1 (headId s) ++ le 1 (b2n (isOwner s)) ++ le 1 (b2n s.wdl.gotHello) ++ zeros 2 ++
  le 6 (epochOpen s) ++ zeros 2 ++ ([0x028, 0x02C, 0x030, 0x034].flatMap fun o => le 4 (rd s pgWDL o).toNat) ++ zeros 200

/-- Each head sends its OWN half of the generation table, then END (R281, R582). -/
def sendGens (s : State) : State :=
  let own := s.tin.gens.filter fun e => decide (e.1 < 1024) && e.2.valid
  let s := own.foldl (fun s e => sendW clsJOURNAL 0x16 (keygenArg (e.1 / 16) (e.1 % 16) false false) e.2.bytes s)
    { s with tin := { s.tin with fresh := [] } }
  sendW clsJOURNAL 0x16 (keygenArg 0 0 false true) [] s

/-- The survivor returns at once every zone of the rejoining head's parity that is EMPTY (R418). -/
def returnEmpty (s : State) : State :=
  (s.pln.zones.filter fun z => z.2.adopted && z.1 % 2 != headId s && decide (z.2.st = .empty)).foldl (fun s z =>
    sendW clsJOURNAL 0x15 z.1 [] (zonePut z.1 { z.2 with adopted := false } s)) s

/-- This head met an OWNER: it owns nothing, its restored grains are discarded, and it has no zone until one is returned (R341, R418,
R581). -/
def ownNothing (s : State) : State :=
  let back := if s.wc.restoring then [] else s.wc.slots.filter fun e => e.2.inq && decide (e.2.st = .ready)
  let s := bump pgQST 0x118 back.length (back.foldl (fun s e => freeSlot e.1 s) s)
  { ({ s with ldg := { s.ldg with owned := [], given := s.ldg.given ++ s.ldg.owned } } : State) with pln := { s.pln with lacking := true, returned := [] } }

/-- The journal records that the open epoch wrote before the pair was formed are mirrored now. -/
def sendOpen (e : Nat) (s : State) : State :=
  let x := epOf s e
  if x.recs = 0 then s
  else (List.range (x.jlast + 1 - x.jfirst)).foldl (fun s k =>
    let b := ljRecord s qLJ (x.jfirst + k)
    if field b 0 1 ≠ 0x10 ∧ field b 8 6 = e then sendW clsJOURNAL 0x13 (x.jfirst + k) b s else s) s

/-- The pair's epochs are aligned (R79): the head with the lower number closes its epoch, commits it alone and opens the higher. -/
def alignEpochs (s : State) : State :=
  let e := epochOpen s
  let m := Nat.max e s.wdl.peerEpoch
  let s := if !s.ldg.replayed then wr64 pgLDG 0x110 (BitVec.ofNat 64 m) s
    else if e < m then closeTo e m s else s
  let x := epOf s m
  { s with ldg := { s.ldg with
      eps := s.ldg.eps.map fun p => if p.1 < m then (p.1, { p.2 with alone := true }) else p
      pairedAt := m
      peerDrainedTo := m - 1
      peerCommitted := Nat.max s.ldg.peerCommitted (m - 1)
      ackedJseq := if x.recs = 0 then jseqNext s else x.jfirst
      peerTaken := false } }

/-- PAIR_CFG once the link is up: SINGLE unless FORCE_SINGLE, LEADER on HEAD_ID 0 (R78). -/
def pairUp (s : State) : State :=
  let single := bit (rd s pgLDG 0x108) 1
  wrF pgLDG 0x108 9 9 (b2n single) (wrF pgLDG 0x108 8 8 (b2n (single || headId s == 0)) s)

/-- The link enters UP (R79, R324, R418, R581, R582). -/
def linkUpNow (s : State) : State :=
  let mine := isOwner s
  let other := bit (rd s pgWDL 0x110) 4
  let s := wrF pgWDL 0x108 2 0 lsUP (wrF pgWDL 0x108 23 16 0 s)
  let s := { s with wdl := { s.wdl with aliveAt := s.time, gotAlive := false, repeats := 0, resends := 0 } }
  let s := hallmark 0x2201 0 [pw (linkWidth s), pw (rdF s pgWDL 0x110 15 8), pw (rdF s pgWDL 0x110 0 0), pw (b2n other)]
    (event pgWDL 2 (rd s pgWDL 0x108) s)
  let s := wrF pgWDL 0x154 30 30 0 (wrF pgWDL 0x154 2 0 tsPAIRED s)
  let s := if other ∧ !mine then ownNothing s else s
  let s := pairUp s
  let s := if paired s then alignEpochs s else s
  let s := returnEmpty (sendHold (sendGens s))
  let s := if paired s then sendOpen (epochOpen s) s else s
  ldgStat (tryClose s)

/-- Both heads have sent and received SEEN (R579). -/
def mayUp (s : State) : State := if lstate s == lsHELLO && s.wdl.sentSeen && s.wdl.gotSeen then linkUpNow s else s

/-- HELLO_TIMER (R579). -/
def execHelloTimer (s : State) : Outcome :=
  .next (if lstate s ≠ lsHELLO then s
    else mayUp (emit (.ctl (helloRecord s)) { s with wdl := { s.wdl with sentSeen := s.wdl.sentSeen || s.wdl.gotHello } }))

/-- The first ground of R580 on which a HELLO is refused, by its REFUSE code; 0 where none. -/
def helloRefuse (b : List Byte) (s : State) : Nat :=
  if field b 2 1 ≠ rdF s pgTOP 0x100 7 0 then 1
  else if field b 3 1 = headId s then 2
  else if field b 1 1 ≠ 1 then 3
  else if slice b 0x10 16 ≠ [0x028, 0x02C, 0x030, 0x034].flatMap (fun o => le 4 (rd s pgWDL o).toNat) then 4
  else if field b 4 1 = 1 ∧ isOwner s then 5
  else 0

/-- Reserved fields of a HELLO are 0 (R578, R592). -/
def helloClean (b : List Byte) : Bool :=
  field b 0 1 == 0x10 && decide (field b 4 1 < 2 ∧ field b 5 1 < 2) && field b 6 2 == 0 && field b 0xE 2 == 0 && (b.drop 0x20).all (· == 0#8)

/-- What the partner's HELLO says. -/
def noteHello (b : List Byte) (s : State) : State :=
  let s := wr pgWDL 0x110 (pw (2 ^ 31 + field b 2 1 * 2 ^ 8 + field b 4 1 * 16 + field b 3 1 % 2)) s
  let s := (List.range 4).foldl (fun s k => wr pgWDL (0x120 + 4 * k) (pw (field b (0x10 + 4 * k) 4)) s) s
  { s with wdl := { s.wdl with gotHello := true, gotSeen := s.wdl.gotSeen || field b 5 1 == 1, peerEpoch := field b 8 6 } }

/-- HELLO (R6, R74, R578 to R582, R592, R761): refused with DROP, or taken; while UP it is a violation, whose class and length the
record's words do not have. -/
def execHello (record : List Byte) (s : State) : Outcome :=
  .next (
    if linkUp s || (lstate s == lsHELLO && !helloClean record) then
      let s := (draw (draw s).2).2
      hallmark 0x2204 0 [Config.free32 (s.free - 2), 0x10, Config.free32 (s.free - 1)] (bump pgWDL 0x198 1 s)
    else if lstate s ≠ lsHELLO then s
    else
      let c := helloRefuse record s
      let s := noteHello record s
      if c = 0 then mayUp s
      else
        let s := wrF pgWDL 0x108 2 0 lsREFUSED (wrF pgWDL 0x108 23 16 c s)
        let s := emit (.ctl (le 1 0x04 ++ le 1 c ++ zeros 6)) s
        hallmark 0x2203 0 [pw c, pw (field record 2 1), pw (field record 0x10 4)] s)

/-! Going down (R585). -/

/-- DROP (R585): the partner takes the link down. -/
def execDropMsg (cause : Nat) (s : State) : Outcome :=
  let _ := cause
  .next (if lstate s = lsREFUSED then s else linkDown ldDROP s)

/-- NO_FLIT_TIMEOUT (R585): 2 µs without a good flit, but for a narrowing. -/
def execNoFlitTimeout (s : State) : Outcome :=
  .next (if lstate s = lsUP ∨ lstate s = lsHELLO then linkDown ldNO_FLIT s else s)

end Sys2Proof.Machine
end

