-- ==== Sys2Proof/Machine/Takeover.lean ====
section
/-! DEFINITION. Handover, heartbeat, takeover and fencing (spec/15_wadun_link.md, R591 to R598). -/

namespace Sys2Proof.Machine

/-! Handover (R591). -/

abbrev hoREFUSED : Nat := 0x10
abbrev hoNO_LINK : Nat := 0x11

/-- A write of HANDOVER_CMD; while BUSY it is ignored and records CTRL_CONFLICT (R601). -/
def handoverCmd (op : Nat) (value : W32) (s : State) (act : Nat → State → State) : State :=
  atRegister 0 pgWDL 0x158 (fun s =>
    if bits value 31 30 ≠ op then commandWrite pgWDL 0x158 value s
    else if bit (rd s pgWDL 0x15C) 8 then conflict pgWDL 0x158 s
    else act (bits value 13 0) (commandWrite pgWDL 0x158 value s)) s

/-- HANDOVER_OFFER (R591): the giving head asks for the transfer of a namespace it owns. -/
def execHandoverOffer (value : W32) (s : State) : Outcome :=
  .next (handoverCmd 1 value s fun ns s =>
    if !linkUp s ∨ tstate s ≠ tsPAIRED then wr pgWDL 0x15C (pw hoNO_LINK) s
    else if !owns s ns then wr pgWDL 0x15C (pw hoREFUSED) s
    else sendW clsTAKEOVER 0x31 ns [] (wr pgWDL 0x15C 0x100#32 { s with wdl := { s.wdl with offer := some ns } }))

/-- HANDOVER_ACCEPT (R591). -/
def execHandoverAccept (value : W32) (s : State) : Outcome :=
  .next (handoverCmd 2 value s fun ns s =>
    { s with wdl := { s.wdl with accepts := s.wdl.accepts.filter (· != ns) ++ [ns] } })

/-- HANDOVER (R157, R591): the gaining head names the epoch that is open, whose close transfers ownership, or refuses. An offer of a
namespace that this head owns is OWNER_CONFLICT. -/
def execHandover (ns : Nat) (s : State) : Outcome :=
  let s := takeRx 0x31 s
  .next (if owns s ns then hqFatal 0x81 (sendW clsTAKEOVER 0x33 ns [] s)
    else if s.wdl.accepts.contains ns then
      sendW clsTAKEOVER 0x32 (ns + epochOpen s * 2 ^ 16) [] { ({ s with wdl := { s.wdl with accepts := s.wdl.accepts.filter (· != ns) } } : State) with ldg := { s.ldg with transfers := s.ldg.transfers ++ [(ns, headId s, epochOpen s)] } }
    else sendW clsTAKEOVER 0x33 ns [] s)

/-- HANDOVER_ACK (R8, R138, R561, R591): the giving head gives the namespace up at the close of the epoch named, at once where that is past;
a replication group of it halts. -/
def execHandoverAck (ns epoch : Nat) (s : State) : Outcome :=
  let s := takeRx 0x32 s
  .next (if s.wdl.offer ≠ some ns then s
    else
      let t := (ns, 1 - headId s, epoch)
      let s := rplHandover ns (wr pgWDL 0x15C 0 { s with wdl := { s.wdl with offer := none } })
      if epoch < epochOpen s then transfer s t
      else { s with ldg := { s.ldg with transfers := s.ldg.transfers ++ [t] } })

/-- HANDOVER_NAK (R591). -/
def execHandoverNak (ns : Nat) (s : State) : Outcome :=
  let s := takeRx 0x33 s
  .next (if s.wdl.offer = some ns then wr pgWDL 0x15C (pw hoREFUSED) { s with wdl := { s.wdl with offer := none } } else s)

/-! Heartbeat (R593, R594). -/

/-- HEARTBEAT_TIMER (R593): ALIVE advances only while the head is fit. -/
def execHeartbeatTimer (s : State) : Outcome :=
  .next (if !linkUp s then s
    else
      let a := rdF s pgWDL 0x148 15 0
      let n := if fit s then (a + 1) % 65536 else a
      emit (.ctl (le 1 0x01 ++ zeros 1 ++ le 2 n ++ zeros 4)) (wrF pgWDL 0x148 15 0 n s))

/-- HEARTBEAT (R594): a new ALIVE resets HB_AGE; the third repeat in a row is HB_FROZEN. -/
def execHeartbeat (alive : Nat) (s : State) : Outcome :=
  let last := rdF s pgWDL 0x148 31 16
  .next (if !linkUp s then s
    else if !s.wdl.gotAlive ∨ alive ≠ last then
      let s := if s.wdl.gotAlive ∧ 1 < (alive + 65536 - last) % 65536 then bump pgWDL 0x190 1 s else s
      wrF pgWDL 0x148 31 16 alive { s with wdl := { s.wdl with gotAlive := true, aliveAt := s.time, repeats := 0 } }
    else
      let s := bump pgWDL 0x194 1 { s with wdl := { s.wdl with repeats := s.wdl.repeats + 1 } }
      if s.wdl.repeats = 3 then takeoverCause tcHB_FROZEN s else s)

/-- HB_MISSED (R594): HB_AGE has reached 30 µs. -/
def execHbMissed (s : State) : Outcome := .next (if linkUp s then takeoverCause tcHB_MISSED s else s)

/-- HB_KICK (R593): firmware kicks. -/
def execHbKick (value : W32) (s : State) : Outcome :=
  .next (atRegister 0 pgWDL 0x144 (fun s =>
    let s := commandWrite pgWDL 0x144 value s
    if bit value 0 then { s with wdl := { s.wdl with kicked := true } } else s) s)

/-- HB_KICK_TIMEOUT (R593): KICK_MS have passed without a kick. -/
def execHbKickTimeout (s : State) : Outcome := .next { s with wdl := { s.wdl with kicked := false } }

/-- STEP_DOWN_MESSAGE (R594): the partner steps down. -/
def execStepDownMessage (s : State) : Outcome := .next (takeoverCause tcSTEP_DOWN (takeRx 0x34 s))

/-! Fencing (R12, R596, R597, R791). -/

/-- Fencing is over: hallmark 0x2207 names the outcome. -/
def fenceEnd (outcome : Nat) (s : State) : State :=
  let s := wrF pgWDL 0x154 31 31 0 (wrF pgWDL 0x154 2 0 outcome { s with wdl := { s.wdl with fence := .none } })
  hallmark 0x2207 0 [pw outcome, pw (rdF s pgWDL 0x154 22 16), pw (s.time - s.wdl.startAt).toNat] s

/-- A write whose grains are not READY ends with SCT 0x3, SC 0x02, and its grains are released (R597); one not started yet has none. -/
def failWrites (s : State) : State :=
  (s.hq.cmds.filter fun c => c.isWrite && !isAdmin s c &&
      (decide (c.st = .queued) || (decide (c.st = .executing) && !writeReady s c))).foldl (fun s c =>
    hqFinish c.qp c.cid scNOT_OWNER (if c.wseq = 0 then s else wcRelease c.wseq s)) s

/-- The head is FENCED (R8, R597, R791): every namespace it owned is the survivor's, and a key command that waited is refused. -/
def fenced (s : State) : State :=
  let s := failWrites s
  let s := { ({ s with ldg := { s.ldg with owned := [], given := s.ldg.given ++ s.ldg.owned, transfers := [] } } : State) with
    wdl := { s.wdl with barred := true } }
  if s.tin.cmd.isSome then keygenEnd kgFENCED s else s

/-- FENCE_DELAY_EXPIRY (R596). -/
def execFenceDelayExpiry (s : State) : Outcome := .next (if s.wdl.fence = .delay then preemptArbiter s else s)

/-- ARBITER_PREEMPT_DONE (R12, R596, R597): success preempts every other module the head reaches; Reservation Conflict fences the head,
whose own registrations have gone. -/
def execArbiterPreemptDone (ok : Bool) (s : State) : Outcome :=
  .next (if s.wdl.fence ≠ .arbiter then s
    else if ok then
      let a := rdF s pgWDL 0x154 22 16
      ((List.range 96).filter fun m => m != a && (portOn s m || s.resOwn.contains m)).foldl
        (fun s m => emit (.reservation m 2 s.fuses.deviceId) s) { s with wdl := { s.wdl with fence := .others } }
    else fenced (fenceEnd tsFENCED { s with resOwn := [] }))

/-- Every zone of the failed head is this head's from here on (R11, R418). -/
def adoptAll (s : State) : State :=
  let s := { s with pln := { s.pln with lacking := false, returned := [] } }
  s.pln.mods.foldl (fun s e => (List.range e.2.zones).foldl (fun s z => adoptZone (zoneKey e.1 z, 0) s) s) s

/-- FENCE_PREEMPTS_DONE (R8, R11, R12, R18, R98, R330, R596): the head is the SURVIVOR: it runs single, adopts the partner's zones, grains
and groups, and works again. -/
def execFencePreemptsDone (s : State) : Outcome :=
  .next (if s.wdl.fence ≠ .others then s
    else
      let s := fenceEnd tsSURVIVOR { s with resPeer := [] }
      let s := wrF pgLDG 0x108 9 8 3 { s with ldg := { s.ldg with transfers := [] } }
      let s := rplTakeover (startAdoption (adoptAll s))
      let s := (s.pln.zones.filter fun z => decide (z.2.st = .reclaim)).foldl (fun s z => reclaim z.1 s) s
      let s := match s.tin.cmd with
        | some c => { s with tin := { s.tin with cmd := some { c with acked := true } } }
        | none => s
      overBudget (ldgStat (tryClose (rebudget s))))

/-! TAKE_CMD. -/

/-- A write of TAKE_CMD; while fencing is under way it is ignored and records CTRL_CONFLICT (R601). -/
def takeCmd (op : Nat) (value : W32) (s : State) (act : State → State) : State :=
  atRegister 0 pgWDL 0x150 (fun s =>
    if bits value 2 0 ≠ op then commandWrite pgWDL 0x150 value s
    else if bit (rd s pgWDL 0x154) 31 then conflict pgWDL 0x150 s
    else act (commandWrite pgWDL 0x150 value s)) s

/-- TAKE (R594): the takeover that is PENDING starts, on a head that is fit. -/
def execTake (value : W32) (s : State) : Outcome :=
  .next (takeCmd 1 value s fun s =>
    if bit (rd s pgWDL 0x154) 30 ∧ fit s then startTakeover (rdF s pgWDL 0x154 10 8) s else s)

/-- FORCE (R598): a takeover at once, on a head that is fit and not FENCED. -/
def execForce (value : W32) (s : State) : Outcome :=
  .next (takeCmd 2 value s fun s => if tstate s ≠ tsFENCED ∧ fit s then startTakeover tcFORCE s else s)

/-- A PAIRED head steps down: it tells the partner and is FENCED (R597). -/
def stepDown (s : State) : State :=
  if tstate s = tsPAIRED then fenced (wrF pgWDL 0x154 2 0 tsFENCED (sendW clsTAKEOVER 0x34 0 [] s)) else s

/-- TAKE_CMD_STEP_DOWN (R597). -/
def execTakeCmdStepDown (value : W32) (s : State) : Outcome := .next (takeCmd 3 value s stepDown)

/-! Reservations (R12, R759). -/

/-- RESERVATION_REGISTER (R12, R759): a port that is READY registers on its module; `held`: the module holds a reservation already;
`peer`: the partner's registration shows in the Reservation Report. Work that waited for the reservation goes on; a FENCED head issues
nothing (R596). -/
def execReservationRegister (port : Nat) (held peer : Bool) (s : State) : Outcome :=
  .next (if portOn s port && tstate s != tsFENCED then
      let s := reserveModule port held peer s
      issueAll ((s.pln.zones.filter fun z => z.1 / 2 ^ 32 == port && decide (z.2.st = .reclaim)).foldl (fun s z => reclaim z.1 s) s)
    else s)

end Sys2Proof.Machine
end

