-- ==== Sys2Proof/Machine/Reset.lean ====
section
/-! DEFINITION. The reset levels of R762: what a chip reset and a power-on reset clear and keep. -/

namespace Sys2Proof.Machine

/-- The reset causes of the boot record (R756). -/
abbrev rsPOWER_ON : Nat := 1
abbrev rsRESET_PIN : Nat := 2
abbrev rsQUENCH_END : Nat := 3
abbrev rsFWU_REVERT : Nat := 4
abbrev rsCLOCK_LOSS : Nat := 5

/-- The register words a chip reset keeps: AON's block registers, LOSS_LAST, and the mark of a lost crystal (R762, R781). -/
def keptRegs (s : State) : Tab W32 :=
  let t := s.regs.filter fun e => (e.1 / 0x1000 == pgAON && decide (0x100 ≤ e.1 % 0x1000)) || e.1 == rk pgCLK 0x128
  let x := putBits 0 3 3 (rdF s pgCLK 0x120 3 3)
  if x = 0 then t else Tab.put t (rk pgCLK 0x120) x

/-- The state of a boot slot in the counter cells (R737). -/
def slotSt (c : Cells) (n : Nat) : SlotSt := if n = 0 then c.slot0 else c.slot1
def setSlot (n : Nat) (x : SlotSt) (c : Cells) : Cells := if n = 0 then { c with slot0 := x } else { c with slot1 := x }

/-- OWNER_LOCK is loaded from its fuse; setting it writes hallmark 0x0103 (R713). -/
def loadOwnerLock (s : State) : State :=
  if s.fuses.ownerLockPerm then hallmark 0x0103 0 [pw 1] (wr pgTOP 0x140 3#32 s) else s

/-- A chip reset (R762): every page to OFF with reset values, PG_LOCK, PG_FAULT, key slots, contexts, memories, debug level and
TSTATE cleared. The quench store with the tables it holds, the NOR, the fuses, the counter cells, AON's registers, LOSS_LAST and what lies on
flash stay; the context-wrapping key is derived afresh (R712). Causes that meet before CORE_0 fetches leave the highest (R756). -/
def chipReset (cause : Nat) (s : State) : State :=
  let base := State.reset
  let n := { base with
    a0 := s.a0
    regs := keptRegs s
    qst := s.qst
    nor := s.nor
    fuses := s.fuses
    cells := s.cells
    aon := { s.aon with holdLoad := false }
    hlm := { base.hlm with win := s.hlm.win }
    clk := { base.clk with onDieOsc := s.clk.onDieOsc }
    boot := { base.boot with due := Nat.max cause s.boot.due }
    top := { base.top with
      mismatch := s.top.mismatch
      ctxKey := Config.wrapKey s.fuses.deviceRoot s.free }
    ldg := { Ldg.reset with
      ckpt := s.ldg.ckpt
      ckptGen := s.ldg.ckptGen
      owned := s.ldg.owned
      given := s.ldg.given }
    frg := { base.frg with idxCkpt := s.frg.idxCkpt, idxGen := s.frg.idxGen }
    pln := { base.pln with
      mods := s.pln.mods.map fun e => (e.1, { e.2 with st := .absent, seen := none })
      zones := s.pln.zones
      tree := s.pln.tree
      zoneCkpt := s.pln.zoneCkpt
      supers := s.pln.supers
      lacking := s.pln.lacking
      returned := s.pln.returned }
    tin := { base.tin with
      gens := s.tin.gens
      counts := s.tin.counts }
    resOwn := s.resOwn
    resPeer := s.resPeer
    out := s.out
    free := s.free + 1
    pending := s.pending }
  loadOwnerLock n

/-- A power-on reset (R751, R762): a chip reset that clears AON's registers, LOSS_LAST and the crystal's mark too, and raises
CYCLES; nothing but AON runs until its PLL locks. -/
def powerOnReset (s : State) : State :=
  chipReset rsPOWER_ON { s with
    regs := []
    hlm := { s.hlm with win := [] }
    clk := { s.clk with onDieOsc := false }
    boot := { s.boot with due := 0 }
    cells := { s.cells with cycles := s.cells.cycles + 1 }
    aon := ⟨false, true, false, false, false⟩ }

/-- Write every buffered hallmark to the store, oldest first, while the store serves (R668). -/
def flushHallmarks : Nat → State → State
  | 0, s => s
  | f + 1, s => match execHallmarkWrite s with
    | .next t => if s.hlm.buf.isEmpty then s else flushHallmarks f t
    | _ => s

end Sys2Proof.Machine
end

