-- ==== Sys2Proof/Machine/FwuCore.lean ====
section
/-! DEFINITION. Boot slots and firmware images (spec/22_firmware_update.md, Slots and the image). -/

namespace Sys2Proof.Machine

/-- Where a slot lies in the NOR (R735). -/
def slotBase (n : Nat) : Nat := n * 0x8000000
/-- The 4 KiB header of a slot. -/
def imageHeader (s : State) (n : Nat) : List Byte := norRead s (slotBase n) 4096

/-! Header fields (R735). -/

def imBodyLen (h : List Byte) : Nat := field h 0x008 4
def imSvn (h : List Byte) : Nat := field h 0x00C 1
def imKey (h : List Byte) : Nat := field h 0x00D 1
def imRevoke (h : List Byte) : Nat := field h 0x00E 1 % 16
def imVersion (h : List Byte) : Nat := field h 0x010 8
def imTmk (h : List Byte) : Nat := field h 0x018 2
def imMinTmk (h : List Byte) : Nat := field h 0x01A 2
def imEntry (h : List Byte) : Nat := field h 0x01C 4
def imLoad (h : List Byte) : Nat := field h 0x020 8
def imDigest (h : List Byte) : List Byte := slice h 0x028 48
/-- A 48-byte little-endian number. -/
def imNum (h : List Byte) (off : Nat) : Nat := field h off 48

/-- The body of a slot's image. -/
def imageBody (s : State) (n : Nat) : List Byte := norRead s (slotBase n + 4096) (imBodyLen (imageHeader s n))

/-- Bytes that are reserved and must be 0. -/
def allZero (bs : List Byte) : Bool := bs.all (· == 0#8)

/-- MAGIC, HDR_VER, BODY_LEN and the reserved fields are as R735 lays down, and TEST fits the lifecycle (R736). -/
def imageHeaderOk (s : State) (h : List Byte) : Bool :=
  field h 0 4 == 0x57465844 && field h 4 2 == 1 && field h 6 2 / 2 == 0 &&
  imBodyLen h % 4096 == 0 && decide (4096 ≤ imBodyLen h) && decide (imBodyLen h ≤ 134213632) &&
  field h 0x00E 1 / 16 == 0 && field h 0x00F 1 == 0 && allZero (slice h 0x058 168) && allZero (slice h 0x1C0 3648) &&
  (field h 6 2 == 1) == (s.fuses.lc == .blank)

/-- The key is one of the ROM's and not revoked (R736). -/
def imageKeyOk (s : State) (h : List Byte) : Bool :=
  decide (imKey h < 4) && sha384 (slice h 0x160 96) == Config.romKeyDigest (imKey h) &&
  !s.fuses.keyRevoked.testBit (imKey h)

/-- The signature verifies under PUBKEY over the SHA-384 of header bytes 0x000 to 0x0FF (R736). -/
def imageSigned (h : List Byte) : Bool :=
  Config.ecdsaP384 (BitVec.ofNat 768 (imNum h 0x160 * 2 ^ 384 + imNum h 0x190)) (sha384 (slice h 0 256))
    (BitVec.ofNat 768 (imNum h 0x100 * 2 ^ 384 + imNum h 0x130))

/-- The first check of R736 that an image fails, as the code of R740; 0 where it is valid. -/
def imageCode (s : State) (n : Nat) : Nat :=
  let h := imageHeader s n
  if !imageHeaderOk s h then 0x20
  else if !imageKeyOk s h then 0x21
  else if !imageSigned h then 0x22
  else if Alg.sha384.hash (imageBody s n) ≠ imDigest h then 0x23
  else if imSvn h < s.fuses.svn then 0x24
  else 0

/-- SLOT_INFO.STATE (R748). -/
def SlotSt.code : SlotSt → Nat
  | .empty => 0 | .fallback => 1 | .active => 2 | .trial => 3

/-- TRIAL_BOOTS of a slot. -/
def trialBoots (c : Cells) (n : Nat) : Nat := if n = 0 then c.boots0 else c.boots1
def setBoots (n k : Nat) (c : Cells) : Cells := if n = 0 then { c with boots0 := k } else { c with boots1 := k }

/-- The slot the control cores run (FWU_STAT.ACTIVE), once the ROM has booted one. -/
def runSlot (s : State) : Nat := s.boot.slot
/-- The running slot is on trial. -/
def onTrial (s : State) : Bool := s.boot.due == 0 && s.boot.status == 0 && decide (slotSt s.cells (runSlot s) = .trial)

end Sys2Proof.Machine
end

