-- ==== Sys2Proof/Machine/Quench.lean ====
section
/-! DEFINITION. The quench (spec/09_write_cache_mirror.md, Quench): its start from every trigger, the sequencer's passes, and
its end. -/

namespace Sys2Proof.Machine

/-- A domain's clock runs where its PLL is locked and neither a relock nor the power state stops it (R688, R702). -/
def domSet_ (d : Nat) (s : State) : State :=
  wrF pgCLK 0x100 d d (b2n (bit (rd s pgCLK 0x104) d && !s.clk.relocking.contains d && !s.clk.parked.contains d)) s
/-- The power state stops a domain, or lets it run again. -/
def parkDom (d : Nat) (s : State) : State :=
  domSet_ d { s with clk := { s.clk with parked := d :: s.clk.parked.filter (· != d) } }
def unparkDom (d : Nat) (s : State) : State :=
  domSet_ d { s with clk := { s.clk with parked := s.clk.parked.filter (· != d) } }

/-! The start (R333, R334). -/

/-- Quench triggers (R351). -/
abbrev qtPWRFAIL : Nat := 1
abbrev qtHOLD_TRIP : Nat := 2
abbrev qtCOMMAND : Nat := 3
abbrev qtRESET_N : Nat := 4
abbrev qtTHERMAL : Nat := 5

/-- DBG abandons what waits with STATUS ABANDONED and drops a scan or test mode (R724). -/
def dbgAbandon (s : State) : State :=
  let n := s.dbg.waiting.length
  let s := { s with dbg := { s.dbg with waiting := [], pins := .normal } }
  if n = 0 then s else { bump pgDBG 0x1A4 n s with dbg := { (bump pgDBG 0x1A4 n s).dbg with status := 3 } }

/-- A forge stops: QUENCH_HOLD, and its PENDING entries leave the index (R196). -/
def forgeHold (s : State) (f : Nat) : State :=
  wrF (pgFRG + f) 0x104 0 0 1 ((fwinOf s f).foldl (fun s g => dropPending f g s) s)
/-- A drawplate stops (R482). -/
def drawHold (s : State) (n : Nat) : State := wrF (pgDRP + n) 0x104 0 0 1 s

/-- The store answers. -/
def storeUp (s : State) : Bool := pgState s pgQST != stFAULT
/-- The current QGEN: before the restore has read it, that of the control record. -/
def quenchGen (s : State) : Nat := if s.wc.restoring then (readCtrl s).qgen else s.wc.qgen
/-- Write the control record with QFLAGS and the entries written (R334, R340). -/
def putCtrl (flags entries : Nat) (s : State) : State :=
  if storeUp s then qstWrite qCTRL (ctrlRecord (quenchGen s) flags (headId s) (epochOpen s) entries) s else s

/-- A quench starts (R333, R334, steps 0 to 4): PWR enters Q, the control record is written first, HQ takes no capsule and posts no
completion, MIR_QUENCH goes to the partner, hallmark 0x0801; forges and drawplates stop, the test load is released. A quench is not started
twice. -/
def startQuench (trigger : Nat) (s : State) : State :=
  if inQ s then s else
  let d := dirty s
  let s := wrF pgPWR 0x104 31 31 0 (wrF pgPWR 0x104 10 8 psQ (wrF pgPWR 0x104 2 0 psQ s))
  let s := dbgAbandon { ({ s with wc := { s.wc with step := .dir, trigger := trigger, startAt := s.time, saved := [], entries := 0 } } : State) with aon := { s.aon with holdLoad := false } }
  let s := wrF pgQST 0x100 2 0 1 (putCtrl 1 0 s)
  let s := wrF pgWC 0x168 0 0 0 (wrF pgHQ 0x108 0 0 1 s)
  let s := sendW clsMIRROR 0x08 0 [] s
  let s := hallmark 0x0801 0 [pw trigger, pw d] s
  let s := (List.range 16).foldl drawHold ((List.range 16).foldl forgeHold s)
  unparkDom dmDDR (parkDom dmFORGE (parkDom dmHBM s))

/-- QUENCH_START (R333): the sequencer starts on a trigger of R351. -/
def execQuenchStart (trigger : Nat) (s : State) : Outcome :=
  .next (if 1 ≤ trigger ∧ trigger ≤ 5 then startQuench trigger s else s)

/-- HOLD_TRIP (R329, R782): HOLD_SENSE, in µV, lies below HOLD_TRIP_MV for 2 µs. -/
def execHoldTrip (uv : Nat) (s : State) : Outcome :=
  .next (if alive s pgAON && decide (uv < rdF s pgWC 0x14C 10 0 * 1000) && !inQ s then
      startQuench qtHOLD_TRIP (hallmark 0x0202 0 [pw uv] (wrF pgAON 0x100 20 0 uv s))
    else s)

/-- PWRFAIL_N_LOW (R333, R770, R328): low for 2 µs starts a quench; during the supply ramp, with RESET_N low, it starts
nothing. -/
def execPwrfailNLow (s : State) : Outcome :=
  .next (if s.aon.resetN && s.aon.rails then startQuench qtPWRFAIL s else s)

/-! The passes. -/

/-- The slot is reserved for an adopted grain whose copy has not completed (R330, R333). -/
def adopting (x : Slot) : Bool := x.adopted && decide (x.st = .held)
/-- The sequencer gives this own slot an entry: it saves it, or it is already in the image (R333, R334). -/
def hasEntry (x : Slot) : Bool :=
  decide (x.st = .ready) || decide (x.st = .forging) || decide (x.st = .superseded) || adopting x || (x.inq && x.dirty)
/-- Where the sequencer reads a slot: a reserved slot still HELD from its mirror slot. -/
def saveAddr (s : State) (i : Nat) (x : Slot) : Nat := if adopting x then mirAddr s x.asrc else ownAddr s i

/-- Write one entry of the directory pass (R334). -/
def saveEntry (s : State) (e : Nat × Slot) : State :=
  qstWrite (qDIR + e.1 * 0x80) (dirEntry true e.2 (quenchGen s) (slotPi s (saveAddr s e.1 e.2) e.2.pif)) s

/-- QUENCH_DIR_DONE (R334, step 7): one entry for every slot saved and for every slot already INQ; then DIR_DONE. The Ethernet and
flash lanes are down and the control cores halted by now (step 6). -/
def execQuenchDirDone (s : State) : Outcome :=
  .next (if s.wc.step ≠ .dir then s
    else
      let es := s.wc.slots.filter fun e => hasEntry e.2
      let s := if storeUp s then es.foldl saveEntry s else s
      let s := putCtrl 3 es.length s
      let s := (octets s 0 ++ octets s 1).foldl (fun s n => laneSet n false s) s
      parkDom dmCTL { s with wc := { s.wc with
        step := .data
        saved := (es.filter fun e => !e.2.inq).map (·.1)
        entries := es.length } })

/-- Save the data of one slot; a DDR-5 read that is uncorrectable leaves its entry with LOST set (R334). -/
def saveData (lost : List Nat) (s : State) (i : Nat) : State :=
  let x := slotOf s i
  if lost.contains i then
    qstWrite (qDIR + i * 0x80) (dirEntry true { x with lost := true } (quenchGen s) (slotPi s (saveAddr s i x) x.pif)) s
  else qstWrite (i * 0x2000) (memRead s (saveAddr s i x) 8192) s

/-- QUENCH_DATA_DONE (R334, steps 8 and 9): the data of the saved slots in ascending order; `lost` are the slots whose read was
uncorrectable. Hallmark 0x0802 is in the store before COMPLETE is set (R675). -/
def execQuenchDataDone (lost : List Nat) (s : State) : Outcome :=
  .next (if s.wc.step ≠ .data then s
    else
      let n := s.wc.entries
      let s := if storeUp s then s.wc.saved.foldl (saveData lost) s else s
      let us := (s.time - s.wc.startAt).toNat
      let s := hallmark 0x0802 0 [pw n, pw us] s
      let s := flushHallmarks s.hlm.buf.length s
      let s := wr pgQST 0x10C (pw (Nat.min us 0xFFFF)) (wr pgQST 0x108 (pw n) (wrF pgQST 0x100 2 0 2 (putCtrl 7 n s)))
      { s with wc := { s.wc with step := .done } })

/-- QUENCH_RAIL_RELEASE (R334 step 10, R336): the rails other than VIN_AON are released, or, where VIN holds, the chip is reset
1 ms later; either way the head starts again as after power loss. -/
def execQuenchRailRelease (vinHolds : Bool) (s : State) : Outcome :=
  .next (if s.wc.step ≠ .done then s
    else
      let s := chipReset rsQUENCH_END s
      { s with aon := { s.aon with rails := vinHolds } })

end Sys2Proof.Machine
end

