-- ==== Sys2Proof/Machine/Queues.lean ====
section
/-! DEFINITION. The credit queues between blocks (R49, R50), their domains (R690), and the flush after a far-side reset (R52,
R700). -/

namespace Sys2Proof.Machine

/-- A row of R49: the pages of producer and consumer, whether the row names their instances, the bytes of an entry, the depth. -/
structure QueueRow where
  producer : Nat
  consumer : Nat
  prodInst : Bool
  consInst : Bool
  entry : Nat
  depth : Nat
deriving DecidableEq, Repr

/-- The rows of R49 but the last. -/
def queueRows : List QueueRow :=
  [⟨pgXPT, pgHQ, false, false, 128, 256⟩, ⟨pgHQ, pgXPT, false, false, 64, 256⟩, ⟨pgXPT, pgWC, false, false, 256, 64⟩,
   ⟨pgWC, pgWDL, false, false, 256, 128⟩, ⟨pgWDL, pgWC, false, false, 256, 128⟩, ⟨pgWC, pgFRG, false, true, 32, 64⟩,
   ⟨pgFRG, pgASY, true, false, 32, 32⟩, ⟨pgASY, pgFRG, false, true, 16, 32⟩, ⟨pgFRG, pgING, true, false, 256, 32⟩,
   ⟨pgANL, pgING, false, false, 256, 32⟩, ⟨pgING, pgFLX, false, true, 256, 64⟩, ⟨pgING, pgQST, false, false, 128, 16⟩,
   ⟨pgING, pgWDL, false, false, 128, 16⟩, ⟨pgLDG, pgQST, false, false, 256, 32⟩, ⟨pgLDG, pgWDL, false, false, 256, 32⟩,
   ⟨pgHQ, pgDRP, false, true, 64, 64⟩, ⟨pgFLX, pgDRP, true, true, 256, 32⟩, ⟨pgDRP, pgXPT, true, false, 256, 32⟩,
   ⟨pgRPL, pgXPT, false, false, 256, 64⟩]

/-- The event queues of the last row: any block to EQC. -/
def eventRow : QueueRow := ⟨0, pgEQC, true, false, 16, 16⟩

/-- A queue: its row, and the instance that the row names: of FLX_n → DRP_n the port × 16 + the drawplate; of the event queues of the
last row the page that sends (log entry 29). -/
structure QueueId where
  row : Nat
  inst : Nat
deriving DecidableEq, Repr

/-- The key of a queue in the state. -/
def QueueId.key (q : QueueId) : Nat := q.row * 4096 + q.inst
/-- The queue of a key. -/
def QueueId.ofKey (k : Nat) : QueueId := if k / 4096 < 19 then ⟨k / 4096, k % 4096⟩ else ⟨19, k - 19 * 4096⟩
/-- The row of the table. -/
def QueueId.tableRow (q : QueueId) : QueueRow := queueRows.getD q.row eventRow
/-- The row names an instance at both ends. -/
def QueueRow.both (r : QueueRow) : Bool := r.prodInst && r.consInst
/-- The page that sends, the page that takes, the words of an entry, and the depth (R49). -/
def QueueId.producer (q : QueueId) : Nat :=
  q.tableRow.producer + if q.tableRow.both then q.inst / 16 else if q.tableRow.prodInst then q.inst else 0
def QueueId.consumer (q : QueueId) : Nat :=
  q.tableRow.consumer + if q.tableRow.both then q.inst % 16 else if q.tableRow.consInst then q.inst else 0
def QueueId.words (q : QueueId) : Nat := q.tableRow.entry / 4
def QueueId.depth (q : QueueId) : Nat := q.tableRow.depth
/-- An entry as the queue carries it: its size is the row's. -/
def QueueId.fit (q : QueueId) (e : List W32) : List W32 := (List.range q.words).map fun i => e.getD i 0

/-- The queues of a row that a page stands at an end of. -/
def rowQueues (p i : Nat) : List QueueId :=
  let r := queueRows.getD i eventRow
  let at0 := clsOf p == clsOf r.producer
  let at1 := clsOf p == clsOf r.consumer
  let all := fun (c : Nat) => (List.range (pagesOf (clsOf c)).length).map (QueueId.mk i)
  if r.both then
    (if at0 then (List.range 16).map fun d => ⟨i, instOf p * 16 + d⟩
    else if at1 then (List.range (pagesOf (clsOf r.producer)).length).map fun n => ⟨i, n * 16 + instOf p⟩ else [])
  else if r.prodInst then (if at0 then [⟨i, instOf p⟩] else if at1 then all r.producer else [])
  else if r.consInst then (if at1 then [⟨i, instOf p⟩] else if at0 then all r.consumer else [])
  else if at0 || at1 then [⟨i, 0⟩] else []

/-- The queues that a page stands at an end of (R50). -/
def queuesAt (p : Nat) : List QueueId :=
  (List.range queueRows.length).flatMap (rowQueues p) ++
  (if p = pgEQC then allPages.map (QueueId.mk 19) else [⟨19, p⟩])

/-- The queue with all its credits and no entry (R50). -/
def QueueId.fresh (q : QueueId) : Queue := { credits := q.depth, entries := [] }
/-- The queue names pages that exist. -/
def QueueId.there (q : QueueId) : Bool := pageExists q.producer && pageExists q.consumer
def queueOf_ (s : State) (q : QueueId) : Queue := Tab.getD s.queues q.fresh q.key
def queuePut (q : QueueId) (x : Queue) (s : State) : State := { s with queues := Tab.setD s.queues q.fresh q.key x }

/-! Far-side resets (R52). -/

/-- The queue crosses between two domains: both of its pages' clocks matter. -/
def QueueId.crosses (q : QueueId) : Bool := pageDomain q.producer != pageDomain q.consumer
/-- The page that is left when one side is reset. -/
def QueueId.survivor (q : QueueId) (consumerSide : Bool) : Nat := if consumerSide then q.producer else q.consumer
/-- Both sides' clocks run (R700). -/
def QueueId.clocked (q : QueueId) (s : State) : Bool := domRuns s (pageDomain q.producer) && domRuns s (pageDomain q.consumer)

/-- A flush of this queue is under way on a page. -/
def QueueId.flushing (q : QueueId) (s : State) (p : Nat) : Bool := (queueOf_ s q).flush == some p

/-- The surviving side discards its half, restores the credits and clears XRESET; XRESETS counts the flush (R52, R706). -/
def flushQueue (q : QueueId) (p : Nat) (s : State) : State :=
  let s := bump pgCLK 0x148 1 (queuePut q q.fresh s)
  if s.queues.any fun e => e.2.flush == some p then s else wrF p 0x044 7 7 0 s

/-- Flushes that waited for a clock take place when it runs again, before any entry moves (R700). -/
def settleFlushes (s : State) : State :=
  s.queues.foldl (fun s e => match e.2.flush with
    | some p => if (QueueId.ofKey e.1).clocked s then flushQueue (QueueId.ofKey e.1) p s else s
    | none => s) s

/-- One side of a crossing queue has been reset (R52, R614, R700): page `p`, on the other side, sets XRESET and flushes, at once where
both clocks run and nothing holds the flush up (`stuck`). A check-value unit that follows the crossing discards its message. -/
def farReset (q : QueueId) (p : Nat) (stuck : Bool) (s : State) : State :=
  let s := cvuFarReset [q.producer, q.consumer] (wrF p 0x044 7 7 1 (queuePut q { queueOf_ s q with flush := some p } s))
  if q.clocked s && !stuck then flushQueue q p s else s

/-- The page at the other end of a queue. -/
def QueueId.other (q : QueueId) (p : Nat) : Nat := if q.producer = p then q.consumer else q.producer

/-- One queue of a page that is soft reset: its own half is empty with all its credits, a flush of it under way is over, and the other
side of a crossing is told (R50, R52). -/
def queueReset (p : Nat) (s : State) (q : QueueId) : State :=
  let s := if (queueOf_ s q).flush.isSome then flushQueue q (((queueOf_ s q).flush).getD p) s else queuePut q q.fresh s
  if q.crosses && q.there then farReset q (q.other p) false s else s

/-- The queues that a soft reset of a page touches (R50, R52). -/
def queuesReset (p : Nat) (s : State) : State := (queuesAt p).foldl (queueReset p) s

end Sys2Proof.Machine
end

