-- ==== Sys2Proof/Machine/Clocks.lean ====
section
/-! DEFINITION. Clock domains, PLLs and reference clocks (spec/20_clocks_crossings.md). -/

namespace Sys2Proof.Machine

/-- A domain's clock stops; a stopped WDL takes the link down (R585, R702). -/
def stopDomain (d : Nat) (s : State) : State :=
  let s := wrF pgCLK 0x100 d d 0 s
  if d = dmWDL then linkDown ldPAGE s else s

/-- A PLL is lost for good: cause PLL_LOST, hallmark 0x0302; CLK enters FAULT (R702). -/
def pllLost (d : Nat) (s : State) : State := hallmark 0x0302 0 [pw d] (recordFault pgCLK 0x80 0 s)

/-- AON holds the chip in reset for a clock loss: LOSS_LAST, which survives it (R703). -/
def coreLoss (d : Nat) (s : State) : State :=
  if s.clk.resetHeld then s
  else
    let s := chipReset rsCLOCK_LOSS (wr pgCLK 0x128 (pw (2 ^ 31 + d)) s)
    { s with clk := { s.clk with resetHeld := true } }

/-- The PLLs that CLK relocks (R702). -/
def relocks (d : Nat) : Bool := d == dmFORGE || d == dmCTL || d == dmDDR || d == dmHBM || d == dmWDL

/-- PLL_LOCK_LOSS (R702, R703): the domain's clock stops; with AUTO_RELOCK live CLK relocks the PLL, else it is lost. A loss of
the CORE or QST PLL resets the chip. -/
def execPllLockLoss (domain : Nat) (s : State) : Outcome :=
  .next (if domain = dmCORE ∨ domain = dmQST then coreLoss domain s
    else if relocks domain && bit (rd s pgCLK 0x104) domain then
      let s := wrF pgCLK 0x104 domain domain 0 s
      if live s pgCLK 0 then
        stopDomain domain { s with clk := { s.clk with relocking := domain :: s.clk.relocking } }
      else pllLost domain (stopDomain domain s)
    else s)

/-- PLL_RELOCK_DONE (R702, R703): the clock runs again, PLL_RELOCKS counts, hallmark 0x0301; a chip held in reset for a clock loss
is released when the PLLs lock again. -/
def execPllRelockDone (domain us : Nat) (s : State) : Outcome :=
  .next (if s.clk.resetHeld then
      if domain = dmCORE ∨ domain = dmQST then { s with clk := { s.clk with resetHeld := false } } else s
    else if s.clk.relocking.contains domain then
      let s := { s with clk := { s.clk with relocking := s.clk.relocking.filter (· != domain) } }
      settleFlushes (hallmark 0x0301 0 [pw domain, pw us] (bump pgCLK 0x150 1 (domSet_ domain (wrF pgCLK 0x104 domain domain 1 s))))
    else s)

/-- PLL_RELOCK_TIMEOUT (R702): not relocked within 50 µs. -/
def execPllRelockTimeout (domain : Nat) (s : State) : Outcome :=
  .next (if s.clk.relocking.contains domain then
      pllLost domain { s with clk := { s.clk with relocking := s.clk.relocking.filter (· != domain) } }
    else s)

/-- Loss of REF_XTAL: AON goes on from the on-die oscillator; XTAL_LOST, hallmark 0x0201 (R703, R782). -/
def xtalLoss (s : State) : State :=
  if s.clk.onDieOsc then s
  else
    let s := wrF pgCLK 0x120 0 0 0 (wrF pgCLK 0x120 3 3 1 { s with clk := { s.clk with onDieOsc := true } })
    hallmark 0x0201 0 [] s

/-- XTAL_LOST (R703). -/
def execXtalLost (s : State) : Outcome := .next (xtalLoss s)

/-- A reference measured `ppm` off its nominal, or absent, is present up to 1,000 ppm (R702, R773). -/
def refOk : Option Nat → Bool
  | some ppm => decide (ppm ≤ 1000)
  | none => false

/-- REF_MEASURE (R702, R706): every 1 ms each reference input is judged, and the clock of the domain in FREQ_SEL counted where
FREQ_MEAS is live; DOM_STAT's bit of DBG falls until TCK toggles again. A lost REFCLK_100 resets the chip; a lost crystal moves AON to its own oscillator (R703). -/
def execRefMeasure (xtal ref100 ref156 : Option Nat) (khz : Nat) (s : State) : Outcome :=
  .next (if !alive s pgCLK then s
    else
      let s := wrF pgCLK 0x120 2 0 (b2n (refOk xtal && !s.clk.onDieOsc) + 2 * b2n (refOk ref100) + 4 * b2n (refOk ref156)) s
      let s := wrF pgCLK 0x100 dmDBG dmDBG 0 s
      let s := if live s pgCLK 1 then wr pgCLK 0x11C (pw khz) s else s
      let s := if refOk xtal then s else xtalLoss s
      if refOk ref100 then s else coreLoss 0xF s)

/-- CORE_CLOCK_LOSS (R703): the CORE or QST PLL, or REFCLK_100 (0xF), is lost. -/
def execCoreClockLoss (domain : Nat) (s : State) : Outcome :=
  .next (if domain = dmCORE ∨ domain = dmQST ∨ domain = 0xF then coreLoss domain s else s)

/-! The CTL clock. -/

/-- The frequency the CTL clock may run at: CTL_CFG.FREQ_100M, at most CTL_CAP (R704, R727); 600 MHz in P2. -/
def freqWanted (s : State) : Nat :=
  if pwrState s = psP2 then 6 else Nat.min (rdF s pgCLK 0x110 4 0) (rdF s pgPWR 0x114 4 0)

/-- The clock follows what is wanted; while PWR throttles it only falls (R730, R731). -/
def applyFreq (s : State) : State :=
  let f := freqWanted s
  { s with pwr := { s.pwr with freq := if s.pwr.hot || s.pwr.capped then Nat.min s.pwr.freq f else f } }

/-- CTL_FREQ_SWITCH (R704): a write of CTL_CFG. -/
def execCtlFreqSwitch (value : W32) (s : State) : Outcome := .next (applyFreq (blockWrite pgCLK 0x110 value s))

end Sys2Proof.Machine
end

