-- ==== Sys2Proof/Machine/Power.lean ====
section
/-! DEFINITION. Power states, adaptive voltage, throttling and the wear budget (spec/21_security_debug_power.md, R718 to
R731, and R149). -/

namespace Sys2Proof.Machine

/-! Requests (R718). -/

/-- REFUSE codes (R718). -/
abbrev rfNOT_IDLE : Nat := 1
abbrev rfDIRTY : Nat := 2
abbrev rfBACKGROUND : Nat := 3
abbrev rfDEBUG_HALT : Nat := 4
abbrev rfFEATURE : Nat := 5
abbrev rfTAKEOVER : Nat := 6
abbrev rfLC_BUSY : Nat := 7

/-- Background work stands against P2: casting, rebuild, relocation, a group SHIPPING or APPLYING, a checkpoint. -/
def background (s : State) : Bool :=
  s.ing.cast.any (·.casting) || !s.ing.attempts.isEmpty || !s.anl.jobs.isEmpty ||
  s.rpl.groups.any (fun e => decide (e.2.st = .shipping) || decide (e.2.st = .applying)) || s.ldg.running.isSome

/-- Why a request for P1 is refused; the feature bit is that of the target. -/
def refuseP1 (s : State) (feat : Nat) : Option Nat :=
  if !live s pgPWR feat then some rfFEATURE
  else if tstate s = tsFENCING then some rfTAKEOVER
  else if bit (rd s pgTOP 0x110) 31 then some rfLC_BUSY
  else none
/-- Why a request for P2 is refused, in the order of R718. -/
def refuseP2 (s : State) : Option Nat :=
  (refuseP1 s 1).or
    (if !s.hq.cmds.isEmpty then some rfNOT_IDLE
    else if dirty s ≠ 0 then some rfDIRTY
    else if background s then some rfBACKGROUND
    else if !s.dbg.halted.isEmpty then some rfDEBUG_HALT
    else none)

/-- A refused request: REFUSE, REFUSALS, hallmark 0x3201 (R718, R734). -/
def refusePower (code : Nat) (s : State) : State :=
  let st := pwrState s
  hallmark 0x3201 0 [pw st, pw st, pw code] (bump pgPWR 0x148 1 (wrF pgPWR 0x104 23 16 code s))
/-- An entry starts: STATE ENTERING (R719, R721). -/
def startEntry (target : Nat) (s : State) : State :=
  let from_ := pwrState s
  let s := wrF pgPWR 0x104 2 0 psENTERING (wrF pgPWR 0x104 10 8 target (wrF pgPWR 0x104 23 16 0 (wrF pgPWR 0x104 31 31 1 s)))
  { s with pwr := { s.pwr with fromState := from_ } }

/-- PWR_P0 (R718, R722): from P1, P2 or an entry the exit starts. -/
def execPwrP0 (value : W32) (s : State) : Outcome := .next (wake wkCOMMAND (commandWrite pgPWR 0x100 value s))
/-- PWR_P1 (R718, R719). -/
def execPwrP1 (value : W32) (s : State) : Outcome :=
  let s := commandWrite pgPWR 0x100 value s
  .next (if pwrState s ≠ psP0 then s
    else match refuseP1 s 0 with
    | some c => refusePower c s
    | none => startEntry psP1 s)
/-- PWR_P2 (R718, R721): from P0, or from P1 unless its exit has begun. -/
def execPwrP2 (value : W32) (s : State) : Outcome :=
  let s := commandWrite pgPWR 0x100 value s
  .next (if (pwrState s ≠ psP0 ∧ pwrState s ≠ psP1) ∨ exiting s then s
    else match refuseP2 s with
    | some c => refusePower c s
    | none => startEntry psP2 s)
/-- PWR_QUENCH (R718, R724). -/
def execPwrQuench (value : W32) (s : State) : Outcome := .next (startQuench qtCOMMAND (commandWrite pgPWR 0x100 value s))

/-! Adaptive voltage (R726, R727). -/

/-- V(f) in mV for `f` in units of 100 MHz; both fused values keep V(3.0 GHz) within 780 mV (R726). -/
def vOf (f : Nat) : Nat := Nat.min 780 (Config.vminFuse + (f - 15) * Config.slopeFuse)
/-- VDD_CORE for a frequency and an aging shift, held between 700 and 800 mV. -/
def vddOf (f age : Nat) : Nat := Nat.max 700 (Nat.min 800 (vOf f + age))
/-- CAP_100M: the highest frequency whose voltage is 800 mV or less (R727). -/
def capOf_ (age : Nat) : Nat :=
  ((List.range 25).map (· + 6)).foldl (fun m f => if vOf f + age ≤ 800 then f else m) 6

/-- AGE_MV. -/
def ageMv (s : State) : Nat := rdF s pgPWR 0x110 23 16
/-- VDD_CORE is requested over AVSBus: 700 mV in P2, else by R726. -/
def setVdd (s : State) : State :=
  let v := if pwrState s = psP2 then 700 else vddOf s.pwr.freq (ageMv s)
  emit (.avs v) (wrF pgPWR 0x110 9 0 v s)

/-- CTL_CAP follows the aging; each change of the cap writes hallmark 0x3205 (R727). -/
def setCap (s : State) : State :=
  let c := capOf_ (ageMv s)
  let s' := wr pgPWR 0x114 (pw (c + 256 * b2n (decide (c < 30)))) s
  if c = rdF s pgPWR 0x114 4 0 then s' else hallmark 0x3205 0 [pw c, pw (ageMv s)] s'

/-- AVS_UPDATE (R726, R727, R732): every 1 ms, with the largest delay shift of the ring oscillators in mV; `answered` is false once
the regulator has not answered for 10 ms. -/
def execAvsUpdate (shift : Nat) (answered : Bool) (s : State) : Outcome :=
  .next (if !alive s pgPWR || inQ s then s
    else if !answered then recordFault pgPWR 0x80 0 s
    else
      let s := wrF pgPWR 0x110 23 16 (if live s pgPWR 2 then Nat.min shift 255 else 0) s
      setVdd (applyFreq (setCap s)))

/-! Entering and leaving P1 and P2 (R149, R719, R721). -/

/-- The octets that leave their active link state in P1: flash, and network with NET_LP (R688, R719). -/
def sleepy (s : State) : List Nat :=
  octets s 0 ++ (if live s pgPWR 4 && bit (rd s pgPWR 0x108) 0 then octets s 1 else [])

/-- The forges with an empty window and the drawplates with an empty queue, which P1 gates (R198, R482, R719). -/
def idleLanes (s : State) : List Nat :=
  (((List.range 16).filter fun f => running s (pgFRG + f) && (fwinOf s f).isEmpty).map (pgFRG + ·)) ++
  (((List.range 16).filter fun n => running s (pgDRP + n) && s.drp.reqs.all fun r => r.drp != n).map (pgDRP + ·))

/-- Gate these pages of forges and drawplates, and no other; DRP_STAT.GATED follows. -/
def setAsleep (ps : List Nat) (s : State) : State :=
  (List.range 16).foldl (fun s n => drpStat n s) { s with pwr := { s.pwr with asleep := ps } }

/-- POWER_ENTRY_DONE (R631, R688, R704, R719, R721): SC ways OFF, lanes asleep; for P2 the HBM, FORGE and DDR clocks stop, the
control cores run at 600 MHz and VDD_CORE goes to 700 mV; STATE, hallmark 0x3201. An abandoned entry ends in the exit instead. -/
def execPowerEntryDone (s : State) : Outcome :=
  .next (if pwrState s ≠ psENTERING ∨ exiting s then s
    else
      let t := rdF s pgPWR 0x104 10 8
      let old := s.pwr.fromState
      let s := if old = psP0 then (sleepy s).foldl (fun s n => laneSet n false s) (scPowerDown s) else s
      let s := wrF pgPWR 0x104 31 31 0 (wrF pgPWR 0x104 2 0 t (setAsleep (idleLanes s) s))
      let s := if t = psP2 then setVdd (applyFreq (parkDom dmDDR (parkDom dmFORGE (parkDom dmHBM s)))) else s
      hallmark 0x3201 0 [pw old, pw t, 0] s)

/-- POWER_EXIT_COMPLETE (R149, R631): SC ways, clocks, lanes and the control cores are back; STATE P0, FETCH_STAT.WAKE falls. -/
def execPowerExitComplete (s : State) : Outcome :=
  .next (if !exiting s ∨ inQ s then s
    else
      let old := pwrState s
      let cause := rdF s pgPWR 0x104 27 24
      let s := settleFlushes (unparkDom dmDDR (unparkDom dmFORGE (unparkDom dmHBM (scPowerUp s))))
      let up := (octets s 0 ++ octets s 1).filter fun n => bit (rd s (pgSRD + n) 0x044) 5
      let s := up.foldl (fun s n => laneSet n true s) s
      let s := wrF pgHQ 0x108 3 3 0 (wrF pgPWR 0x104 31 31 0 (wrF pgPWR 0x104 2 0 psP0 (setAsleep [] s)))
      hallmark 0x3201 0 [pw old, pw psP0, pw cause] (setVdd (applyFreq s)))

/-! Wear (R728, R729). -/

/-- The weight of one POH unit in eighths of 1/256 of an equivalent hour: the temperature factor, times 1.5 above 750 mV. -/
def wearWeight (tj vdd : Nat) : Nat :=
  let f := if tj ≤ 70 then 2 else if tj ≤ 80 then 4 else if tj ≤ 90 then 8 else if tj ≤ 100 then 16 else 32
  if vdd ≤ 750 then f else f * 3 / 2
/-- WEAR_HOURS and WEAR_PPM from the cell, which counts eighths (R728). -/
def wearHours (c : Cells) : W64 := BitVec.ofNat 64 (c.wear.toNat / 8)
def wearPpm (c : Cells) : Nat := c.wear.toNat / 8 * 1000000 / (256 * 350640)

/-- POH_TICK (R665, R728, R729): POH counts, the weight is added; reaching 800,000 and 1,000,000 ppm each writes hallmark
0x3203. -/
def execPohTick (s : State) : Outcome :=
  let old := wearPpm s.cells
  let w := wearWeight (rdF s pgPWR 0x120 7 0) (rdF s pgPWR 0x110 9 0)
  let s := { s with cells := { s.cells with poh := s.cells.poh + 1, wear := s.cells.wear + BitVec.ofNat 64 w } }
  let mark := fun (n : Nat) (s : State) =>
    if old < n ∧ n ≤ wearPpm s.cells then hallmark 0x3203 0 [pw n] s else s
  .next (if s.aon.vinPresent && s.aon.pllLocked then mark 1000000 (mark 800000 s) else s)

/-! Temperature and power cap (R730, R731). -/

/-- THERMAL_SAMPLE (R722, R730, R732): the hottest of the 16 sensors. At 110 °C cause THERMAL_TRIP and a quench; at THROTTLE_C
throttling starts, which wakes the device; 5 °C below it ends. The record's action is not numbered by the spec. -/
def execThermalSample (tj : Nat) (s : State) : Outcome :=
  .next (if !alive s pgPWR then s
    else
      let s := wrF pgPWR 0x120 7 0 tj s
      let limit := rdF s pgPWR 0x124 7 0
      let action := Config.free32 s.free
      if 110 ≤ tj then
        if inQ s then s
        else startQuench qtTHERMAL (hallmark 0x3204 0 [pw tj, action] (recordFault pgPWR 0x81 0 (draw s).2))
      else if limit ≤ tj ∧ s.pwr.hot = false then
        wake wkTHERMAL (hallmark 0x3204 0 [pw tj, action] (bump pgPWR 0x140 1
          { ({ s with pwr := { s.pwr with hot := true } } : State) with free := s.free + 1 }))
      else if tj + 5 ≤ limit then { s with pwr := { s.pwr with hot := false } }
      else s)

/-- Forges in RUN and not gated. -/
def ungated (s : State) : List Nat := (List.range 16).filter fun f => running s (pgFRG + f) && !s.pwr.gated.contains f

/-- The clock falls by 100 MHz, down to 1.5 GHz. -/
def slower (s : State) : State := { s with pwr := { s.pwr with freq := s.pwr.freq - 1 } }

/-- THROTTLE_STEP (R730, R731): each 1 ms: while hot or over the cap the CTL clock falls by 100 MHz down to 1.5 GHz, and then, for the
cap, one forge is gated while 8 stay in RUN; afterwards forges and clock return in the reverse order. A quench is never capped. -/
def execThrottleStep (s : State) : Outcome :=
  .next (if inQ s ∨ !alive s pgPWR then s
    else if s.pwr.hot || s.pwr.capped then
      if 15 < s.pwr.freq then slower s
      else if s.pwr.capped && decide (8 < (ungated s).length) then
        let s := { s with pwr := { s.pwr with gated := s.pwr.gated ++ (ungated s).reverse.take 1 } }
        hallmark 0x3206 0 [rd s pgPWR 0x118, pw s.pwr.gated.length] s
      else s
    else if !s.pwr.gated.isEmpty then { s with pwr := { s.pwr with gated := s.pwr.gated.dropLast } }
    else if s.pwr.freq < freqWanted s then { s with pwr := { s.pwr with freq := s.pwr.freq + 1 } }
    else s)

/-- POWER_SAMPLE (R731): POWER_W against POWER_CAP, every 1 ms, where POWER_CAP is live: 10 ms above it the cap acts, 10 ms at 5 %
below it the cap lets go. -/
def execPowerSample (watts : Nat) (s : State) : Outcome :=
  .next (if !alive s pgPWR then s
    else
      let s := wrF pgPWR 0x118 9 0 watts s
      let cap := rdF s pgPWR 0x11C 9 0
      let p : Pwr := { s.pwr with
        overMs := if cap < watts then s.pwr.overMs + 1 else 0
        underMs := if watts * 100 ≤ cap * 95 then s.pwr.underMs + 1 else 0 }
      let capped := live s pgPWR 3 && !inQ s &&
        ((p.capped && decide (p.underMs < 10)) || decide (10 ≤ p.overMs))
      { s with pwr := { p with capped := capped } })

end Sys2Proof.Machine
end

