-- ==== Sys2Proof/Machine/Lifecycle.lean ====
section
/-! DEFINITION. The lifecycle, the owner lock, debug levels and the TAP (spec/21_security_debug_power.md, R708 to R717). -/

namespace Sys2Proof.Machine

/-! Lifecycle (R708 to R711). -/

/-- LC_STAT.STATE (R708); a target's OP and LC_ARM value are its state. -/
def Lc.code : Lc → Nat
  | .blank => 0
  | .minted => 1
  | .owned => 2
  | .retired => 3

/-- OWNER_LOCK.LOCK (R713). -/
def ownerLock (s : State) : Bool := bit (rd s pgTOP 0x140) 0

/-- The pages of classes 0x10 to 0x1B. -/
def workPages : List Nat :=
  (classes.filter fun c => decide (0x10 ≤ c.cls ∧ c.cls ≤ 0x1B)).flatMap fun c => (List.range c.instances).map (c.cls * 256 + ·)

/-- The transition is in the table, and the owner lock and an OWN cut short or mismatched permit it (R709, R711, R713). -/
def lcAllowed (s : State) : Lc → Bool
  | .blank => false
  | .minted => decide (s.fuses.lc = .blank) && !ownerLock s
  | .owned => decide (s.fuses.lc = .minted) && !ownerLock s && decide (s.fuses.pending = none ∨ s.fuses.pending = some .owned)
  | .retired => decide (s.fuses.lc = .minted ∨ s.fuses.lc = .owned)

/-- The CODE of a command that breaks a condition, the first of R709's table. -/
def lcRefusal (s : State) (to_ : Lc) : Option Nat :=
  if s.top.armed ≠ some to_.code ∨ 1000 < (s.time - s.top.armedAt).toNat then some 0x10
  else if !lcAllowed s to_ then some 0x11
  else if pwrState s ≠ psP0 then some 0x12
  else if to_ = .retired ∧ workPages.any (fun p => pgState s p != stOFF) then some 0x13
  else if to_ = .owned ∧ s.top.mismatch then some 0x14
  else none

/-- A lifecycle command ends with a CODE. -/
def lcEnd (code : Nat) (s : State) : State := wrF pgTOP 0x110 31 31 0 (wrF pgTOP 0x110 23 16 code s)

/-- The debug level (DBG_STAT.LEVEL). -/
def dbgLevel (s : State) : Nat := rdF s pgDBG 0x100 1 0
/-- The debug level changes: hallmark 0x3001, whose cause the spec does not number (R714, R734). -/
def setLevel (l : Nat) (s : State) : State :=
  if dbgLevel s = l then s
  else hallmark 0x3001 0 [pw (dbgLevel s), pw l, Config.free32 s.free] (draw (wrF pgDBG 0x100 1 0 l s)).2

/-- RETIRE zeroises every slot, zero-fills the quench image, the ledger-journal and the stripe-journal regions, and returns the
debug level to D0 (R302, R709, R714). -/
def retireEffect (s : State) : State :=
  setLevel 0 { ({ s with tin := { s.tin with slots := s.tin.slots.map fun e => (e.1, { loads := e.2.loads }) } } : State) with qst := s.qst.filter fun e => decide (0x150000000 ≤ e.1) }

/-- The low `n` words of 32 bits of a fuse value. -/
def lowWords (n : Nat) (v : BitVec 256) : BitVec 256 := v &&& BitVec.ofNat 256 (2 ^ (32 * n) - 1)
/-- The secret that LC_DATA spells, word 0 least significant. -/
def lcSecret (s : State) : BitVec 256 :=
  BitVec.ofNat 256 (ofLe (s.top.lcData.flatMap fun w => le 4 w.toNat))
/-- DEVICE_ID of a DEVICE_ROOT: 64 bits of its derivation (R712). -/
def deriveId (root : BitVec 256) : W64 :=
  (Config.kdf root [0x44#8, 0x58#8, 0x49#8, 0x44#8] []).extractLsb' 192 64

/-- The fuses of a transition burn as far as `n` words of its value (R709, R710): DEVICE_ROOT, OWNER_SECRET, or every bit of
both. -/
def burnFuses (n : Nat) (to_ : Lc) (root secret : BitVec 256) (f : Fuses) : Fuses :=
  match to_ with
  | .minted => { f with deviceRoot := f.deviceRoot ||| lowWords n root }
  | .owned => { f with ownerSecret := f.ownerSecret ||| lowWords n secret }
  | _ => { f with
      deviceRoot := f.deviceRoot ||| lowWords n (BitVec.allOnes 256)
      ownerSecret := f.ownerSecret ||| lowWords n (BitVec.allOnes 256) }

/-- The state fuse: a transition is complete (R709, R710). -/
def finishLc (to_ : Lc) (s : State) : State :=
  let f := { s.fuses with lc := to_, pending := none }
  let s := { s with fuses := match to_ with
    | .minted => { f with deviceId := deriveId f.deviceRoot }
    | .owned => { f with ownerCrc := crc32c (le 32 f.ownerSecret.toNat) }
    | _ => f }
  if to_ = .retired then retireEffect s else s

/-- A transition: the pending mark, the fuses, the state. Cut by a quench after `n` words it leaves the rest to the boot ROM, or,
for OWN, to a later OWN (R710, R711). An OWN whose secret reads back otherwise ends with SECRET_MISMATCH. -/
def lcRun (to_ : Lc) (cut : Option Nat) (s : State) : State :=
  let old := s.fuses.lc
  let secret := lcSecret s
  let s := { ({ s with fuses := burnFuses (cut.getD 8) to_ (Config.trng256 s.free) secret { s.fuses with pending := some to_ } } : State) with free := s.free + 1 }
  match cut with
  | some _ => wrF pgTOP 0x110 31 31 1 s
  | none =>
    if to_ = .owned ∧ s.fuses.ownerSecret ≠ secret then lcEnd 0x14 { s with top := { s.top with mismatch := true } }
    else lcEnd 0 (hallmark 0x0101 0 [pw old.code, pw to_.code] (finishLc to_ s))

/-- A write of LC_CMD (R709): ignored while a command is under way; the arming serves one command. -/
def lcCommand (to_ : Lc) (value : W32) (cut : Option Nat) (healthy : Bool) (s : State) : State :=
  let s := commandWrite pgTOP 0x118 value s
  if bit (rd s pgTOP 0x110) 31 then s
  else
    let r := lcRefusal s to_
    let s := { s with top := { s.top with armed := none } }
    match r with
    | some c => lcEnd c s
    | none => if to_ = .minted ∧ !healthy then lcEnd 0x15 s else lcRun to_ cut s

/-- LC_ARM (R709). -/
def execLcArm (value : W32) (s : State) : Outcome :=
  let s := commandWrite pgTOP 0x114 value s
  .next { s with top := { s.top with armed := some (bits value 2 0), armedAt := s.time } }
/-- LC_MINT (R709, R710, R712): `healthy` is the verdict of the TRNG's health tests. -/
def execLcMint (value : W32) (healthy : Bool) (cut : Option Nat) (s : State) : Outcome :=
  .next (lcCommand .minted value cut healthy s)
/-- LC_OWN (R709, R711). -/
def execLcOwn (value : W32) (cut : Option Nat) (s : State) : Outcome := .next (lcCommand .owned value cut true s)
/-- LC_RETIRE (R302, R709, R710, R714). -/
def execLcRetire (value : W32) (cut : Option Nat) (s : State) : Outcome := .next (lcCommand .retired value cut true s)

/-- OWNER_LOCK_SET (R713): hallmark 0x0103 when the lock is set. -/
def execOwnerLockSet (value : W32) (s : State) : Outcome :=
  let was := ownerLock s
  let s := blockWrite pgTOP 0x140 value s
  .next (if ownerLock s && !was then hallmark 0x0103 0 [pw 0] s else s)

/-! Debug levels (R714, R715). -/

/-- D1_GRANT (R714): from D0, while D1 is live and OWNER_LOCK is clear. -/
def execD1Grant (value : W32) (s : State) : Outcome :=
  let s := commandWrite pgDBG 0x104 value s
  .next (if bit value 0 && live s pgDBG 0 && !ownerLock s && dbgLevel s == 0 then setLevel 1 s else s)
/-- D0_RETURN (R714). -/
def execD0Return (value : W32) (s : State) : Outcome :=
  let s := commandWrite pgDBG 0x104 value s
  .next (if bit value 1 then setLevel 0 s else s)

/-- The TAP answers: beyond IDCODE and BYPASS only with the main rails up (R718, R725). -/
def tapUp (s : State) : Bool := s.aon.rails
/-- Select a TAP instruction; the pins follow it (R716). -/
def setIr (i : TapIr) (p : Pins) (s : State) : State := { s with dbg := { s.dbg with ir := i, pins := p } }

/-- A scan of the TAP: TCK toggles, which DOM_STAT shows (R706), and an instruction is selected. -/
def tapScan (i : TapIr) (p : Pins) (s : State) : State := setIr i p (wrF pgCLK 0x100 dmDBG dmDBG 1 s)

/-- DBG_CHALLENGE (R715, R716): a fresh nonce and DEVICE_ID; an old nonce is void; none within 1 s of a failure. -/
def execDbgChallenge (s : State) : Outcome :=
  .next (if !tapUp s then s
    else
      let s := tapScan .dbgChallenge .normal s
      if s.time < s.dbg.refuseUntil then s
      else
        let n := Config.nonce384 s.free
        let s := wrF pgDBG 0x100 4 4 1 (draw s).2
        emit (.tap 448 (n.toNat * 2 ^ 64 + s.fuses.deviceId.toNat)) { s with dbg := { s.dbg with nonce := some n } })

/-- The bytes that a response signs: nonce, DEVICE_ID, "D2" (R715). -/
def challengeText (n : BitVec 384) (id : W64) : List Byte := be 48 n.toNat ++ be 8 id.toNat ++ [0x44#8, 0x32#8]

/-- The level that a response's verdict leaves (R715, R725): a valid one grants D2 in MINTED or RETIRED and elsewhere counts in
CHALLENGE_FAIL; a failed one counts, writes hallmark 0x3002 and refuses challenges for 1 s. -/
def judgeResponse (n : BitVec 384) (sig : BitVec 768) (s : State) : State :=
  if Config.ecdsaP384 Config.vendorDebugKey (sha384 (challengeText n s.fuses.deviceId)) sig then
    if s.fuses.lc = .minted ∨ s.fuses.lc = .retired then setLevel 2 s else bump pgDBG 0x1A8 1 s
  else
    let s := hallmark 0x3002 0 (pw2 s.fuses.deviceId.toNat) (bump pgDBG 0x1A8 1 s)
    { s with dbg := { s.dbg with refuseUntil := s.time + 1000000 } }

/-- DBG_RESPONSE (R715, R716, R725): a nonce serves one response. -/
def execDbgResponse (sig : BitVec 768) (s : State) : Outcome :=
  .next (if !tapUp s then s
    else
      let s := tapScan .dbgResponse .normal s
      match s.dbg.nonce with
      | none => s
      | some n => judgeResponse n sig (wrF pgDBG 0x100 4 4 0 { s with dbg := { s.dbg with nonce := none } }))

/-! The TAP (R716). -/

/-- An instruction that drives the pins acts while the board holds RESET_N low, and as BYPASS otherwise. -/
def pinInstr (i : TapIr) (p : Pins) (s : State) : State :=
  if !tapUp s then s else if s.aon.resetN then tapScan .bypass .normal s else tapScan i p s

/-- EXTEST, CLAMP, HIGHZ (R716). -/
def execExtest (s : State) : Outcome := .next (pinInstr .extest .extest s)
def execClamp (s : State) : Outcome := .next (pinInstr .clamp .clamp s)
def execHighz (s : State) : Outcome := .next (pinInstr .highz .highz s)
/-- SAMPLE_PRELOAD (R716): the boundary-scan register captures the pins, which shift out, and takes what shifts in. -/
def execSamplePreload (sample load : List Bool) (s : State) : Outcome :=
  .next (if tapUp s then
      let v := sample.foldr (fun b n => b2n b + 2 * n) 0
      let s := tapScan .samplePreload .normal s
      emit (.tap sample.length v) { s with dbg := { s.dbg with bsr := load } }
    else s)
/-- The IDCODE: bits 31:28 are 0x1 on B1 and 0x0 on A0 (R1); the manual gives no other bit. -/
def idcode (s : State) : Nat := (if s.a0 then 0 else 2 ^ 28) + (Config.idcodeLow.toNat % 2 ^ 28)
/-- IDCODE (R1, R716). -/
def execIdcode (s : State) : Outcome := .next (emit (.tap 32 (idcode s)) (tapScan .idcode .normal s))
/-- BYPASS (R716). -/
def execBypass (s : State) : Outcome := .next (tapScan .bypass .normal s)

/-- TRST_N_ASSERT (R699, R762): the TAP is reset and a waiting debug access abandoned; the debug level stays. -/
def execTrstNAssert (s : State) : Outcome :=
  .next (setIr .idcode .normal (dbgAbandon { s with dbg := { s.dbg with bsr := [] } }))

end Sys2Proof.Machine
end

