-- ==== Sys2Proof/Machine/Views.lean ====
section
/-! DEFINITION. Register words that show something else than the register file: what a master reads of each page. -/

namespace Sys2Proof.Machine

/-- A word with bits `hi` down to `lo` shown from elsewhere. -/
def shown (s : State) (p off hi lo x : Nat) : W32 := putBits (rd s p off) hi lo x
/-- One half of a 64-bit value: `hi` selects the high word. -/
def half64 (n : Nat) (hi : Bool) : W32 := BitVec.ofNat 32 (if hi then n / 2 ^ 32 else n)

/-! Work in flight (PG_STAT.BUSY; R38). -/

/-- A ring of an engine has work under way, or a record still to write. -/
def ringBusy (s : State) (p n : Nat) : Bool :=
  (rgOf s p n).lane.isSome || !(rgOf s p n).done.isEmpty || (p == pgASY && (Tab.find? s.asy.opened n).isSome)

/-- Posted descriptors that were accepted before the page left RUN run to completion (R42). -/
def ringOwes (s : State) (p n : Nat) : Bool := ringBusy s p n || posted s p n

/-- The page has work in flight: what its block has accepted and not finished. -/
def pageBusy (s : State) (p : Nat) : Bool :=
  let i := instOf p
  match clsOf p with
  | 0x01 => bit (rd s p 0x110) 31
  | 0x04 => s.eqc.src.any fun e => decide (e.2.st = .pending)
  | 0x05 => s.msys.scOp.isSome || !s.msys.maint.isEmpty
  | 0x08 => s.wc.step == .dir || s.wc.step == .data
  | 0x09 => !s.hlm.buf.isEmpty || bit (rd s p 0x180) 31
  | 0x0A => bit (rd s p 0x114) 31
  | 0x10 => !s.hq.cmds.isEmpty
  | 0x11 => !(fwinOf s i).isEmpty || !(Tab.getD s.frg.outs [] i).isEmpty
  | 0x12 => s.drp.reqs.any fun r => r.drp == i
  | 0x13 | 0x14 | 0x15 => (List.range (ringCount p)).any fun n => ringOwes s p n
  | 0x16 => !s.ldg.inbox.isEmpty || !(closedEps s).isEmpty
  | 0x17 => !s.ing.cast.isEmpty || !s.ing.attempts.isEmpty || !s.ing.appends.isEmpty
  | 0x18 => s.ldg.running.isSome
  | 0x19 => !s.anl.jobs.isEmpty
  | 0x1A => s.wc.slots.any fun e => e.2.st == .landing || e.2.st == .held
  | 0x1B => s.rpl.groups.any fun g => g.2.active
  | 0x20 => s.net.inbox.any fun a => portPage s a.port == p
  | 0x21 => s.xpt.qps.any fun q => q.2.st != .error && (!q.2.waiting.isEmpty || !q.2.unacked.isEmpty)
  | 0x22 => !s.wdl.txq.isEmpty
  | 0x23 => s.ing.appends.any fun a => a.issued && a.loc.module == i
  | 0x28 => s.hq.cmds.any (midGrain s i)
  | 0x30 => !s.dbg.waiting.isEmpty
  | 0x31 => s.fwu.op.isSome
  | 0x32 => bit (rd s p 0x104) 31
  | _ => false

/-! Engine rings. -/

/-- RING_STAT: LANE, SUSP_CTX and STATE (R237): 1 QUEUED, 2 RUNNING, 3 HELD, 4 SUSPENDED. -/
def ringStat (s : State) (p n : Nat) : W32 :=
  let w := fun (lane ctx st : Nat) => BitVec.ofNat 32 (lane * 2 ^ 16 + ctx * 256 + st)
  match (rgOf s p n).lane with
  | some l => w (l - firstLane p) 0 2
  | none => match (if p = pgASY then Tab.find? s.asy.opened n else none) with
    | some o => match o.lane with
      | some l => w (l - 16) 0 (if o.part.isSome then 2 else 3)
      | none => w 0 o.ctx 4
    | none => if waiting s p n then w 0 0 1 else 0

/-- The general lanes that hold work, bit g for lane g of the page. -/
def lanesBusy (s : State) (p : Nat) : Nat :=
  (List.range (laneCount p)).foldl (fun a g => a + b2n (!laneIdle s p (firstLane p + g)) * 2 ^ g) 0

/-- A word of an engine's ring registers. -/
def ringView (s : State) (p off : Nat) : W32 :=
  if off % 0x40 = 0x24 then ringStat s p ((off - 0x400) / 0x40) else rd s p off

/-- A result word of Assay: latched for the master, else live (R216). -/
def asyResult (s : State) (m off : Nat) : W32 :=
  let lane := 16 + (off - 0x200) / 0x80
  let r := (off - 0x200) % 0x80
  match Tab.find? s.asy.latch (m * 32 + lane) with
  | some ws =>
    if r = 0x08 then ws.getD 0 0 else if r = 0x0C then ws.getD 1 0
    else if 0x40 ≤ r then ws.getD (2 + (r - 0x40) / 4) 0 else rd s pgASY off
  | none => rd s pgASY off

def asyView (s : State) (m off : Nat) : W32 :=
  if off = 0x100 then shown s pgASY 0x100 3 0 (lanesBusy s pgASY)
  else if 0x400 ≤ off then ringView s pgASY off
  else if 0x200 ≤ off then asyResult s m off
  else rd s pgASY off

def cruView (s : State) (off : Nat) : W32 :=
  if off = 0x108 then shown s pgCRU off 1 0 (lanesBusy s pgCRU) else if 0x400 ≤ off then ringView s pgCRU off else rd s pgCRU off

/-- The slot in SLOT_SEL, and the entry in KEYGEN_SEL (R306). -/
def tinSlot (s : State) : Nat := rdF s pgTIN 0x110 11 0
def tinGen (s : State) : KGen := genOf s (rdF s pgTIN 0x140 12 12) (rdF s pgTIN 0x140 9 4) (rdF s pgTIN 0x140 3 0)

def tinView (s : State) (off : Nat) : W32 :=
  let k := slotK s (tinSlot s)
  let g := tinGen s
  let cur := g.valid && rdF s pgTIN 0x140 12 12 == 0 &&
    ((currentGen s (rdF s pgTIN 0x140 9 4)).map (·.1)) == some (rdF s pgTIN 0x140 3 0)
  if off = 0x104 then shown s pgTIN off 1 0 (lanesBusy s pgTIN)
  else if off = 0x114 then BitVec.ofNat 32 (b2n k.loaded * 2 ^ 31 + b2n k.warned * 2 ^ 30 + b2n k.exhausted * 2 ^ 29 +
    b2n (slotBound s (tinSlot s)) * 2 ^ 28 + k.key.length * 2 ^ 16 + k.cls * 256)
  else if off = 0x118 ∨ off = 0x11C then half64 k.uses (off == 0x11C)
  else if off = 0x120 ∨ off = 0x124 then half64 k.limit (off == 0x124)
  else if off = 0x128 ∨ off = 0x12C then half64 k.keyId (off == 0x12C)
  else if off = 0x130 then BitVec.ofNat 32 k.loads
  else if off = 0x144 then BitVec.ofNat 32 (b2n g.valid * 2 ^ 31 + b2n g.straddle * 2 ^ 30 + b2n cur * 2 ^ 29 +
    (if g.valid then (slotOfKey s g.keyId).getD 0xFFF else 0xFFF))
  else if off = 0x148 ∨ off = 0x14C then half64 g.first (off == 0x14C)
  else if off = 0x150 ∨ off = 0x154 then half64 g.keyId (off == 0x154)
  else if 0x400 ≤ off then ringView s pgTIN off
  else rd s pgTIN off

/-! Infrastructure. -/

/-- The bits of PRIV_STAT: signals of core `c` that are latched (R663). -/
def privStat (s : State) (c : Nat) : W32 :=
  BitVec.ofNat 32 ((List.range 32).foldl (fun a n => a + b2n (srcOf s (srcPrivate c n)).latched * 2 ^ n) 0)

/-- The code of a source's state in SRC_STAT: 0 IDLE, 1 PENDING, 2 ACTIVE (R650). -/
def SrcState.code : SrcState → Nat
  | .idle => 0 | .pending => 1 | .active => 2

def eqcView (s : State) (off : Nat) : W32 :=
  let x := srcOf s (selSource s)
  if off = 0x100 ∨ off = 0x104 then half64 s.time.toNat (off == 0x104)
  else if 0x200 ≤ off ∧ off < 0x600 then
    let c := (off - 0x200) / 0x20
    if off % 0x20 = 0x10 then BitVec.ofNat 32 (Nat.min (ringWaiting s c).length 0xFFFF * 2 ^ 16 + b2n (irqLine s c))
    else if off % 0x20 = 0x1C then privStat s c
    else rd s pgEQC off
  else if off = 0x614 then BitVec.ofNat 32 (b2n x.mask)
  else if off = 0x618 then
    BitVec.ofNat 32 ((if x.latched then x.latCount else x.held) * 2 ^ 16 + b2n x.latched * 4 + x.st.code)
  else rd s pgEQC off

def hlmView (s : State) (off : Nat) : W32 :=
  if off = 0x150 then hlmStat s
  else if 0x200 ≤ off ∧ off < 0x240 then hlmWindow s ((off - 0x200) / 4)
  else rd s pgHLM off

def topView (s : State) (off : Nat) : W32 :=
  if off = 0x108 ∨ off = 0x10C then half64 s.fuses.deviceId.toNat (off == 0x10C)
  else if off = 0x110 then
    putBits (shown s pgTOP off 2 0 s.fuses.lc.code) 8 8 (b2n (s.fuses.pending.isSome || s.top.mismatch))
  else if off = 0x150 then s.cells.poh
  else if off = 0x154 then s.cells.cycles
  else rd s pgTOP off

/-- GPIO_IN: a driven pin reads what drives it (R781). -/
def aonView (s : State) (off : Nat) : W32 :=
  if off = 0x118 then
    let dir := rd s pgAON 0x110
    (rd s pgAON 0x114 &&& dir) ||| (Config.gpioIn s.time &&& ~~~dir &&& 0xFFFF#32)
  else rd s pgAON off

def dbgView (s : State) (off : Nat) : W32 :=
  if off = 0x100 then shown s pgDBG off 8 8 (b2n !s.aon.resetN) else rd s pgDBG off

def pwrView (s : State) (off : Nat) : W32 :=
  if off = 0x128 then BitVec.ofNat 32 (wearPpm s.cells)
  else if off = 0x130 ∨ off = 0x134 then half64 (wearHours s.cells).toNat (off == 0x134)
  else rd s pgPWR off

/-- SLOT_INFO of a slot (R748). -/
def slotInfo (s : State) (n : Nat) : W32 :=
  let h := imageHeader s n
  BitVec.ofNat 32 ((slotSt s.cells n).code * 2 ^ 30 + trialBoots s.cells n * 2 ^ 24 + imSvn h * 2 ^ 16 + imTmk h)

/-- Whole seconds left before the trial ends (R746). -/
def trialLeft (s : State) : Nat :=
  if onTrial s && live s pgFWU 0 then rdF s pgFWU 0x100 15 0 - (s.time - s.fwu.trialAt).toNat / 1000000 else 0

def fwuView (s : State) (off : Nat) : W32 :=
  if off = 0x12C then
    putBits (putBits (shown s pgFWU off 4 4 (b2n (onTrial s))) 1 1 s.cells.pref) 0 0 (runSlot s)
  else if off = 0x130 then slotInfo s 0
  else if off = 0x134 then slotInfo s 1
  else if off = 0x138 ∨ off = 0x13C then half64 (imVersion (imageHeader s 0)) (off == 0x13C)
  else if off = 0x140 ∨ off = 0x144 then half64 (imVersion (imageHeader s 1)) (off == 0x144)
  else if off = 0x148 then BitVec.ofNat 32 s.fuses.svn
  else if off = 0x14C then BitVec.ofNat 32 s.fuses.keyRevoked
  else if off = 0x150 then BitVec.ofNat 32 (trialLeft s)
  else rd s pgFWU off

/-! Flash, octets. -/

/-- The rate of a flash octet: the fastest trained link of its ports, in Gb/s (R406, R407, R461). -/
def flashRate (s : State) (n : Nat) : Nat :=
  let w := if bit (rd s pgFLX 0x100) 8 then 2 else 4
  (List.range w).foldl (fun a i => Nat.max a
    (match rdF s (pgFLX + (n * w + i)) 0x108 18 16 with | 1 => 3 | 2 => 5 | 3 => 8 | 4 => 16 | 5 => 32 | 6 => 64 | _ => 0)) 0

/-- SRD_STAT: USE, and the lane rate in force (R489, R567, R780). -/
def srdStat (s : State) (n : Nat) : W32 :=
  let u := srdUse s n
  let r := if !laneRuns s n then 0 else if u = 0 then flashRate s n else if u = 1 then (if netMode s = 3 then 56 else 112)
    else if u = 2 then (if linkUp s then 64 else 0) else 0
  BitVec.ofNat 32 (r * 2 ^ 16 + u)

/-- The lane in LANE_SEL, by octet × 8 + lane. -/
def srdLane (s : State) (n : Nat) : Nat := n * 8 + rdF s (pgSRD + n) 0x104 2 0
/-- TX_EQ as written. -/
def txeq (s : State) (n : Nat) : W32 := Tab.getD s.srd.txeq (regReset s.a0 pgSRD 0x10C) (srdLane s n)

/-- The SRD registers: those behind LANE_SEL, with what the receiver finds and the coefficients in force (R780). -/
def srdView (s : State) (n off : Nat) : W32 :=
  if off = 0x100 then srdStat s n
  else if off = 0x108 then
    let v := Config.laneStat (srdLane s n) s.time
    BitVec.ofNat 32 (bits v 31 16 * 2 ^ 16 + bits v 2 1 * 2 + b2n (laneRuns s n && !s.srd.lost.contains (srdLane s n)))
  else if off = 0x10C then
    if bit (txeq s n) 31 || !laneRuns s n then txeq s n
    else BitVec.ofNat 32 (bits (Config.txNegotiated (srdLane s n) s.time) 23 0)
  else rd s (pgSRD + n) off

/-! Ledger, caster, Planish, write cache, link. -/

/-- A word of SLAG_ENTRY past the first: latched for the master, else live (R119). -/
def slagWord (s : State) (m n : Nat) : W32 :=
  match s.ldg.slagLatch.find? fun l => l.1 == m with
  | some l => l.2.getD n 0
  | none => if live s pgLDG 3 then (slagWords s).getD n 0 else 0

def ldgView (s : State) (m off : Nat) : W32 :=
  if off = 0x188 then (if live s pgLDG 3 then (slagWords s).getD 0 0 else 0)
  else if 0x18C ≤ off ∧ off ≤ 0x194 then slagWord s m ((off - 0x188) / 4)
  else rd s pgLDG off

/-- MOD_STAT.STATE (R404). -/
def ModSt.code : ModSt → Nat
  | .absent => 0 | .active => 1 | .slowHeld => 2 | .ejected => 3

/-- MOD_STAT: the age of the oldest command, detours of the last 1,000 ms, cause and state (R404). -/
def modStat (s : State) (x : Mod) : W32 :=
  let age := match x.asked with | some t => Nat.min ((s.time - t).toNat / 1000) 0xFFFF | none => 0
  let n := (x.times.filter fun t => decide (s.time.toNat < t + 1000000)).length
  BitVec.ofNat 32 (age * 2 ^ 16 + Nat.min n 0xFF * 256 + x.cause * 16 + x.st.code)

def ingMod (s : State) : Nat := rdF s pgING 0x160 6 0

def ingView (s : State) (off : Nat) : W32 :=
  let x := modOf s (ingMod s)
  if off = 0x164 then modStat s x
  else if off = 0x16C then BitVec.ofNat 32 (Nat.min x.detours 0xFFFFFFFF)
  else if off = 0x170 then BitVec.ofNat 32 (Nat.min x.appendFail 0xFFFFFFFF)
  else if off = 0x174 then BitVec.ofNat 32 (Nat.min x.readErr 0xFFFFFFFF)
  else rd s pgING off

/-- MOD_INFO.STATE (R454). -/
def PmSt.code : PmSt → Nat
  | .absent => 0 | .new => 1 | .member => 2 | .readOnly => 3 | .evacuated => 4 | .ejected => 5 | .refused => 6

def plnMod (s : State) : Nat := rdF s pgPLN 0x110 6 0

def plnView (s : State) (off : Nat) : W32 :=
  let m := plnMod s
  let x := pmodOf s m
  if off = 0x114 then BitVec.ofNat 32 (x.cls * 256 + x.st.code)
  else if off = 0x118 then BitVec.ofNat 32 x.total
  else if off = 0x11C then BitVec.ofNat 32 (offlineZones s m)
  else if off = 0x120 then BitVec.ofNat 32 (emptyZones (ownZones s m)).length
  else if off = 0x124 then BitVec.ofNat 32 ((minResets (emptyZones (ownZones s m))).getD 0)
  else if off = 0x140 ∨ off = 0x144 then half64 (arrayFree s) (off == 0x144)
  else if off = 0x148 ∨ off = 0x14C then half64 (arrayCap s) (off == 0x14C)
  else rd s pgPLN off

def wcView (s : State) (off : Nat) : W32 :=
  if off = 0x11C then
    putBits (putBits (shown s pgWC off 2 0 (wcMode s)) 6 6 (b2n !s.wc.catchup.isEmpty)) 7 7
      (b2n (running s pgWC && s.wc.budgetKnown && dirtyFull s))
  else if off = 0x120 then BitVec.ofNat 32 (dirty s)
  else rd s pgWC off

/-- HB_AGE in 100 ns, saturating (R601). -/
def wdlView (s : State) (off : Nat) : W32 :=
  if off = 0x14C then BitVec.ofNat 32 (Nat.min ((s.time - s.wdl.aliveAt).toNat * 10) 0xFFFF) else rd s pgWDL off

/-! Hosts, network, replication. -/

/-- NS_CFG: the flags HQ shows with the namespace's own word (R158). -/
def nsCfgView (s : State) (n : Nat) : W32 :=
  let x := nsOf s n
  let v := putBits x.cfg 31 31 (b2n (bit (rd s pgHQ 0x108) 5))
  putBits (putBits v 30 30 (b2n (owns s n))) 29 29 (b2n (x.active && bit (rd s pgLDG 0x044) 5))

def hqView (s : State) (off : Nat) : W32 :=
  let n := nsSel s
  let x := nsOf s n
  if off = 0x104 then shown s pgHQ off 31 16 (if bit (rd s pgHQ 0x104) 0 then Nat.min (holdMs s) 0xFFFF else rdF s pgHQ off 31 16)
  else if off = 0x108 then fetchStat s
  else if off = 0x114 then nsCfgView s n
  else if off = 0x118 ∨ off = 0x11C then half64 x.grains.toNat (off == 0x11C)
  else if off = 0x120 then x.qmin
  else if off = 0x124 then x.qmax
  else if off = 0x128 then x.qlat
  else if off = 0x170 then BitVec.ofNat 32 s.hq.ctrls.length
  else if off = 0x174 then BitVec.ofNat 32 s.hq.sqs.length
  else if off = 0x178 then BitVec.ofNat 32 (depthSum s)
  else if off = 0x17C then BitVec.ofNat 32 s.hq.cmds.length
  else rd s pgHQ off

/-- The port whose registers a NET page shows: its own, or the sub-port in SUB_SEL (R489, R535). -/
def netPort (s : State) (n : Nat) : Nat := if netMode s = 2 then 2 * n + rdF s (pgNET + n) 0x104 16 16 else n
/-- The offsets that address the selected sub-port (R535). -/
def perPort (off : Nat) : Bool := decide (0x108 ≤ off ∧ off ≤ 0x17C)

def netView (s : State) (n off : Nat) : W32 :=
  let p := netPort s n
  let e := ipEntry s p (nrdF s p 0x150 2 0)
  if off = 0x154 then e.1
  else if 0x160 ≤ off ∧ off ≤ 0x16C then BitVec.ofNat 32 (e.2.toNat / 2 ^ (32 * (3 - (off - 0x160) / 4)))
  else if perPort off then nrd s p off
  else rd s (pgNET + n) off

/-- QP_STAT.STATE (R538). -/
def QpSt.code : QpSt → Nat
  | .reset => 0 | .init => 1 | .rtr => 2 | .rts => 3 | .error => 4

/-- QP_STAT of a queue pair (R538). -/
def qpStat (s : State) (i : Nat) : W32 :=
  let q := qpOf s i
  BitVec.ofNat 32 (Nat.min (q.rate / 100000) 0xFFFF * 2 ^ 16 + q.errCause * 256 +
    b2n (resident s i && q.pinned) * 64 + b2n (resident s i) * 32 + b2n q.cautious * 16 + q.st.code)

def xptView (s : State) (off : Nat) : W32 :=
  let w := winOf s (winSel s)
  if off = 0x150 then qpStat s (qpSel s)
  else if off = 0x1E0 then BitVec.ofNat 32 (b2n w.opened * 2 ^ 31 + b2n w.busy * 2 ^ 30 + w.gen)
  else if off = 0x1F0 then BitVec.ofNat 32 (parkBytes s)
  else if off = 0x1F4 then BitVec.ofNat 32 (pinnedCount s * 2 ^ 16 + s.xpt.lru.length)
  else if off = 0x1FC then BitVec.ofNat 32 (bitmapsUsed s)
  else rd s pgXPT off

/-- GRP_STAT.STATE (R565). -/
def GrpSt.code : GrpSt → Nat
  | .idle => 0 | .shipping => 1 | .waitApply => 2 | .linkDown => 3 | .leaseWait => 4 | .resync => 5 | .keyWait => 6
  | .applying => 7 | .halted => 8

def rplView (s : State) (off : Nat) : W32 :=
  let g := grpSel s
  let x := grpOf s g
  if off = 0x14C then BitVec.ofNat 32 (x.st.code * 2 ^ 24 + x.code * 2 ^ 16 + x.members.length)
  else if off = 0x150 ∨ off = 0x154 then half64 x.delta (off == 0x154)
  else if off = 0x158 ∨ off = 0x15C then half64 x.seq (off == 0x15C)
  else if off = 0x160 ∨ off = 0x164 then half64 x.base (off == 0x164)
  else if off = 0x168 ∨ off = 0x16C then half64 x.bytes (off == 0x16C)
  else if 0x114 ≤ off ∧ off ≤ 0x140 then grd s g off
  else rd s pgRPL off

/-- RESULT of a check-value unit, latched or live (R613). -/
def cvuView (s : State) (m n off : Nat) : W32 :=
  if off = 0x128 ∨ off = 0x12C then half64 (cvuResult s m n).toNat (off == 0x12C) else rd s (cvuPage n) off

/-- The deduplication word in force or as written, of the selected domain. -/
def frgView (s : State) (p off : Nat) : W32 :=
  if p = pgFRG ∧ off = 0x224 then Tab.getD s.frg.dom (regReset s.a0 pgFRG 0x224) (rdF s pgFRG 0x220 5 0) else rd s p off

/-! What a master reads. -/

/-- The word a master reads at an offset of a page, before the effects of the read. -/
def viewWord (s : State) (m p off : Nat) : W32 :=
  let i := instOf p
  if off < 0x100 then
    if off = 0x044 then shown s p off 6 6 (b2n (pageBusy s p)) else rd s p off
  else match clsOf p with
  | 0x01 => topView s off
  | 0x02 => aonView s off
  | 0x04 => eqcView s off
  | 0x09 => hlmView s off
  | 0x10 => hqView s off
  | 0x11 => frgView s p off
  | 0x13 => asyView s m off
  | 0x14 => cruView s off
  | 0x15 => tinView s off
  | 0x16 => ldgView s m off
  | 0x17 => ingView s off
  | 0x18 => plnView s off
  | 0x1A => wcView s off
  | 0x1B => rplView s off
  | 0x20 => netView s i off
  | 0x21 => xptView s off
  | 0x22 => wdlView s off
  | 0x24 => srdView s i off
  | 0x28 => cvuView s m i off
  | 0x30 => dbgView s off
  | 0x31 => fwuView s off
  | 0x32 => pwrView s off
  | _ => rd s p off

end Sys2Proof.Machine
end

