-- ==== Sys2Proof/Machine/CsrRead.lean ====
section
/-! DEFINITION. Reading a register: halves of 64-bit registers, read-clear counters, stopped clocks, absent pages
(R21 to R31). -/

namespace Sys2Proof.Machine

/-- The key under which a master's latch or held word of a register stands: the register's low offset. -/
def mkey (m p off : Nat) : Nat := m * 2 ^ 28 + rk p off

/-- The number of the debug port among the masters; 0 to 31 are the control cores (R25). -/
abbrev debugPort : Nat := 32

/-- The fields of a register that a read clears. -/
def RegDef.cleared (r : RegDef) (w : W32) : W32 :=
  r.fields.foldl (fun w f => if f.acc = .rc then putBits w f.hi f.lo 0 else w) w

/-- A read clears the RC fields of a register (spec/00_scope.md); the counters of a module lie behind MOD_SEL (R404), a port's
behind SUB_SEL (R535). -/
def clearRead (p off : Nat) (r : RegDef) (s : State) : State :=
  let x := modOf s (ingMod s)
  if p = pgING ∧ off = 0x16C then modPut (ingMod s) { x with detours := 0 } s
  else if p = pgING ∧ off = 0x170 then modPut (ingMod s) { x with appendFail := 0 } s
  else if p = pgING ∧ off = 0x174 then modPut (ingMod s) { x with readErr := 0 } s
  else if clsOf p = 0x20 ∧ perPort off then
    let q := netPort s (instOf p)
    nwr q off (r.cleared (nrd s q off)) s
  else if r.cleared (rd s p off) = rd s p off then s
  else wr p off (r.cleared (rd s p off)) s

/-- Reads that latch a whole block of results for the master: RES_SEQ of Assay and of a check-value unit, SLAG_ENTRY_0 (R119,
R216, R613). -/
def latchBlock (m p off : Nat) (s : State) : State :=
  if p = pgASY ∧ 0x200 ≤ off ∧ off < 0x400 ∧ off % 0x80 = 0 then
    let lane := 16 + (off - 0x200) / 0x80
    { s with asy := { s.asy with latch := Tab.put s.asy.latch (m * 32 + lane) (resWords s lane) } }
  else if clsOf p = 0x28 ∧ off = 0x120 then
    let x := cvuOf s (instOf p)
    cvuPut (instOf p) { x with latch := (m, rd64 s p 0x128) :: x.latch.filter fun e => e.1 != m } s
  else if p = pgLDG ∧ off = 0x188 then
    let w := if live s pgLDG 3 then slagWords s else [0, 0, 0, 0]
    { s with ldg := { s.ldg with slagLatch := (s.ldg.slagLatch.filter fun l => l.1 != m) ++ [(m, w)] } }
  else s

/-- A read of a register: the word returned, and what the read does (R25, R36). A low word latches its high word for the master; a
high word reads as latched, else live. -/
def readReg (m p off : Nat) (r : RegDef) (s : State) : W32 × State :=
  let v := viewWord s m p off
  match r.half with
  | .word => (v, latchBlock m p off (clearRead p off r s))
  | .low =>
    let hi := viewWord s m p (off + 4)
    let t := clearRead p off r s
    (v, { t with latch := Tab.put t.latch (mkey m p off) hi })
  | .high => ((Tab.find? s.latch (mkey m p (off - 4))).getD v, s)

/-- An access of master `m` completes: what it reads, or `none` for the bus error of a stopped clock. An absent page reads 0 (R23), an
undefined offset reads 0 and records BAD_ACCESS (R29). -/
def readWord (m p off : Nat) (s : State) : Option W32 × State :=
  if !pageExists p then (some 0, s)
  else if clockStopped s p off then (none, stopTimeout m p off s)
  else match regAt p off with
    | none => (some 0, recordFault p cBAD_ACCESS off s)
    | some r => match readReg m p off r s with
      | (v, t) => (some v, t)

/-- A 32-bit read by a control core or another master, answered to it; a timeout answers 0 with its bus error (R698). -/
def csrRead (m p off : Nat) (s : State) : State :=
  match readWord m p off s with
  | (v, t) => emit (.csrData m (v.getD 0)) t

/-- LOW_WORD_READ (R25): latches the high word for the reading master. -/
def execLowWordRead (master page off : Nat) (s : State) : Outcome := .next (csrRead master page off s)
/-- READ_CLEAR_COUNTER_READ (R36): returns the counter and clears it. -/
def execReadClearCounterRead (master page off : Nat) (s : State) : Outcome := .next (csrRead master page off s)
/-- CLK_STOPPED_TIMEOUT (R31, R698): an access to a page whose clock is stopped times out; one to a page whose clock runs is not
this event. -/
def execClkStoppedTimeout (master page off : Nat) (s : State) : Outcome :=
  .next (if pageExists page && clockStopped s page off then emit (.csrData master 0) (stopTimeout master page off s) else s)

end Sys2Proof.Machine
end

