-- ==== Sys2Proof/Machine/Firmware.lean ====
section
/-! DEFINITION. Firmware update: staging, verification, activation, trial and confirmation (spec/22_firmware_update.md). -/

namespace Sys2Proof.Machine

/-! FWU_STAT. -/

abbrev fwSTAGE : Nat := 1
abbrev fwVERIFY : Nat := 2
abbrev fwACTIVATE : Nat := 3
abbrev fwCONFIRM : Nat := 4

def fwuBusy (s : State) : Bool := bit (rd s pgFWU 0x12C) 31
def fwuHolding (s : State) : Bool := bit (rd s pgFWU 0x12C) 3
def fwuStaged (s : State) : Bool := bit (rd s pgFWU 0x12C) 2
def fwuStage (b : Bool) (s : State) : State := wrF pgFWU 0x12C 2 2 (b2n b) s
def fwuPct (n : Nat) (s : State) : State := wrF pgFWU 0x12C 14 8 n s

/-- A command starts: BUSY, no progress. -/
def fwuBegin (op : FwuOp) (slot : Nat) (s : State) : State :=
  fwuPct 0 (wrF pgFWU 0x12C 31 31 1 { s with fwu := { s.fwu with
    op := some op
    slot := slot
    step := 0 } })
/-- The command under way is over. -/
def fwuIdle (s : State) : State := wrF pgFWU 0x12C 31 31 0 { s with fwu := { s.fwu with op := none } }
/-- The command ends with DONE. -/
def fwuDone (s : State) : State := fwuPct 100 (wrF pgFWU 0x12C 23 16 0 (fwuIdle s))
/-- A refusal, or the failure of a command: CODE, REFUSALS, hallmark 0x3102 (R740). -/
def fwuFail (op code : Nat) (s : State) : State :=
  hallmark 0x3102 0 [pw op, pw code] (bump pgFWU 0x160 1 (wrF pgFWU 0x12C 23 16 code (fwuIdle s)))

/-- The first condition of R740 that refuses STAGE or ACTIVATE. -/
def fwuRefusal (s : State) (activate : Bool) : Option Nat :=
  let margin := rdF s pgING 0x140 2 0
  if ownerLock s then some 0x10
  else if !bit (rd s pgWC 0x168) 1 then some 0x11
  else if (tstate s ≠ tsPAIRED ∨ lstate s ≠ lsUP ∨ wcMode s ≠ 0) ∧ !bit (rd s pgLDG 0x108) 1 then some 0x12
  else if margin = 0 ∨ margin = 7 then some 0x13
  else if activate ∧ (rdF s pgPWR 0x104 2 0 ≠ 0 ∨ bit (rd s pgTOP 0x110) 31) then some 0x14
  else if activate ∧ !fwuStaged s then some 0x26
  else none

/-- A write of FWU_CMD: ignored with CTRL_CONFLICT while BUSY (R748), and outside RUN (R42). -/
def fwuCmd (value : W32) (s : State) (act : State → State) : Outcome :=
  let t := commandWrite pgFWU 0x128 value s
  .next (if fwuBusy s then conflict pgFWU 0x128 s else if !running s pgFWU then t else act t)

/-- The slot that is neither running, ACTIVE nor TRIAL. -/
def stageSlot (s : State) : Option Nat :=
  let n := 1 - runSlot s
  if slotSt s.cells n = .active ∨ slotSt s.cells n = .trial then none else some n

/-- FWU_STAGE (R738, R740): the header sector is erased and the slot EMPTY while its image is written. Where no slot may be written
the command is ignored with CTRL_CONFLICT. -/
def execFwuStage (value : W32) (s : State) : Outcome :=
  fwuCmd value s fun s => match fwuRefusal s false with
    | some c => fwuFail fwSTAGE c s
    | none => match stageSlot s with
      | none => conflict pgFWU 0x128 s
      | some n =>
        let old := slotSt s.cells n
        let s := fwuStage false (norWrite (slotBase n) (List.replicate 4096 0xFF#8) (fwuBegin .stage n s))
        { ({ s with cells := setSlot n .empty s.cells } : State) with fwu := { s.fwu with prev := old } }

/-- FWU_VERIFY (R739): the check of the slot that is not running. -/
def execFwuVerify (value : W32) (s : State) : Outcome := fwuCmd value s fun s => fwuStage false (fwuBegin .verify (1 - runSlot s) s)

/-- FWU_ACTIVATE (R150, R740, R741): the conditions pass, the hosts that asked for it are told, HQ holds, HOLDING is 1. While HOLDING it is ignored (R744). -/
def execFwuActivate (value : W32) (s : State) : Outcome :=
  fwuCmd value s fun s =>
    if fwuHolding s then conflict pgFWU 0x128 s
    else match fwuRefusal s true with
    | some c => fwuFail fwACTIVATE c s
    | none => wrF pgFWU 0x12C 3 3 1 (holdStart (hqAsync aeACTIVATE (fwuBegin .activate (1 - runSlot s) s)))

/-- A slot is confirmed (R745): ACTIVE, TRIAL_BOOTS 0; SVN_FUSE and the revoke fuses rise; hallmark 0x3104. -/
def confirmSlot (n : Nat) (s : State) : State :=
  let h := imageHeader s n
  let svn := Nat.max s.fuses.svn (Nat.min (imSvn h) 63)
  let revoke := (imRevoke h ||| 2 ^ imKey h) - 2 ^ imKey h
  hallmark 0x3104 0 [pw n, pw svn, pw revoke] { ({ s with cells := setBoots n 0 (setSlot n .active s.cells) } : State) with fuses := { s.fuses with
      svn := svn
      keyRevoked := s.fuses.keyRevoked ||| revoke } }

/-- FWU_CONFIRM (R745). -/
def execFwuConfirm (value : W32) (s : State) : Outcome :=
  fwuCmd value s fun s =>
    if !onTrial s then fwuFail fwCONFIRM 0x26 s
    else if bit (rd s pgTMK 0x114) 30 then fwuFail fwCONFIRM 0x27 s
    else fwuDone (confirmSlot (runSlot s) s)

/-! The end of a command, or of a step of an activation. -/

/-- STAGE is over: the image lies in the slot, which has its state back; the NOR failing leaves it EMPTY (R738). -/
def stageDone (ok : Bool) (s : State) : State :=
  if !ok then fwuFail fwSTAGE 0x28 s
  else
    let n := s.fwu.slot
    let s := norWrite (slotBase n) (memRead s (rd64 s pgFWU 0x108).toNat (rdF s pgFWU 0x110 27 0)) s
    fwuDone { s with cells := setSlot n s.fwu.prev s.cells }

/-- VERIFY is over (R739): the checks of R736 and the Touchmark format, then the body in STAGE_ADDR. -/
def verifyDone (ok : Bool) (s : State) : State :=
  let n := s.fwu.slot
  let h := imageHeader s n
  let cur := rdF s pgTMK 0x124 15 0
  if !ok then fwuFail fwVERIFY 0x28 s
  else
    let c := imageCode s n
    let c := if c = 0 ∧ (imTmk h < cur ∨ cur < imMinTmk h) then 0x25 else c
    if c = 0x22 then fwuFail fwVERIFY c (hallmark 0x3106 0 [pw n, pw (imKey h)] (bump pgFWU 0x164 1 s))
    else if c ≠ 0 then fwuFail fwVERIFY c s
    else
      let s := memWrite (rd64 s pgFWU 0x118).toNat (imageBody s n) s
      hallmark 0x3101 0 (pw n :: pw2 (imVersion h) ++ [pw (imSvn h)]) (fwuStage true (fwuDone s))

/-- The staged body. -/
def stagedBody (s : State) : List Byte :=
  memRead s (rd64 s pgFWU 0x118).toNat (imBodyLen (imageHeader s s.fwu.slot))

/-- A step of an activation is over (R741): the digest; the slots and PREF; the copy and the release of the cores. -/
def activateStep (s : State) : State :=
  let n := s.fwu.slot
  let h := imageHeader s n
  if s.fwu.step = 0 then
    if Alg.sha384.hash (stagedBody s) = imDigest h then { s with fwu := { s.fwu with step := 1 } }
    else holdEnd (fwuStage false (fwuFail fwACTIVATE 0x23 s))
  else if s.fwu.step = 1 then
    let s := { ({ s with cells := { setBoots n 0 (setSlot n .trial (setSlot (runSlot s) .fallback s.cells)) with pref := n } } : State) with fwu := { s.fwu with step := 2 } }
    if live s pgFWU 0 then s else confirmSlot n s
  else
    let old := imVersion (imageHeader s (runSlot s))
    let s := memWrite (imLoad h) (stagedBody s) s
    let s := hallmark 0x3103 0 (pw2 old ++ pw2 (imVersion h)) (fwuStage false (fwuDone s))
    emit (.coresStart (imLoad h + imEntry h)) { ({ s with boot := { s.boot with slot := n } } : State) with fwu := { s.fwu with trialAt := s.time } }

/-- FWU_COMMAND_DONE (R738, R741, R744): `ok`: the NOR did what was asked of it. A quench cuts the command where it stands. -/
def execFwuCommandDone (ok : Bool) (s : State) : Outcome :=
  .next (if inQ s then s else match s.fwu.op with
    | none => s
    | some .stage => stageDone ok s
    | some .verify => verifyDone ok s
    | some .activate => activateStep s
    | some .confirm => s)

/-- CONFIRM_TIMEOUT (R746): no CONFIRM within CONFIRM_S of the release. FWU reverts, and resets the chip. -/
def execConfirmTimeout (s : State) : Outcome :=
  .next (if !onTrial s || !live s pgFWU 0 || inQ s then s
    else
      let n := runSlot s
      let s := if bit (rd s pgTMK 0x114) 30 then tmkRevert s else s
      let s := { s with cells := { setSlot n .empty s.cells with pref := 1 - n } }
      let s := (draw (hallmark 0x3105 0 [pw n, Config.free32 s.free] (bump pgFWU 0x168 1 s))).2
      chipReset rsFWU_REVERT (flushHallmarks s.hlm.buf.length s))

/-- The command under way is abandoned; an activation's hold ends (R738, R747). -/
def fwuAbandon (s : State) : State :=
  match s.fwu.op with
  | none => s
  | some .activate => holdEnd (fwuIdle s)
  | some _ => fwuIdle s

/-- NOR_LOST (R747): cause 0x80, fatal; the running image goes on. -/
def execNorLost (s : State) : Outcome := .next (fwuAbandon (recordFault pgFWU 0x80 0 s))

end Sys2Proof.Machine
end

