-- ==== Sys2Proof/Machine/PageWork.lean ====
section
/-! DEFINITION. What becomes of a block's work when its page is disabled, reset or faulted, for the blocks whose work is not
descriptors, windows or read requests (R43, R45, R46 and each block's own rule). -/

namespace Sys2Proof.Machine

/-- WC frees its LANDING and HELD slots; HQ completes their writes with Internal Error (R344). -/
def wcAbort (s : State) : State :=
  let cs := s.hq.cmds.filter fun c => c.isWrite && decide (c.st = .executing) && c.wseq != 0 && !writeReady s c
  let s := cs.foldl (fun s c => hqFinish c.qp c.cid scINTERNAL (wcReleaseHeld c.wseq s)) s
  let is := (s.wc.slots.filter fun e => decide (e.2.st = .landing) || decide (e.2.st = .held)).map (·.1)
  is.foldl (fun s i => freeSlot i s) s

/-- Every queue pair enters ERROR (R533). -/
def xptAbort (cause : Nat) (s : State) : State := (s.xpt.qps.map (·.1)).foldl (fun s i => qpError i cause s) s

/-- The port's outstanding appends fail and its reads are served by reconstruction; its link goes down (R360, R471). -/
def flxAbort (n : Nat) (s : State) : State :=
  let s := if rdF s (pgFLX + n) 0x108 10 8 = 0 then s else portDown n s
  let s := (s.ing.appends.filter fun a => a.issued && a.loc.module == n).foldl (fun s a => appendFailed a s) s
  let onIt := fun (r : RReq) =>
    let x := ingotAt s (glocIngot r.entry.gloc)
    r.recon.isNone && r.entry.hasBody &&
      ((x.members[bodyMember r.entry.gloc]?).map fun l => l.module == n && !l.lost) == some true
  (s.drp.reqs.filter onIt).foldl (fun s r => startRecon r.drp r rcERROR s) s

/-- The ports a NET page serves (R489). -/
def portsOf (s : State) (n : Nat) : List Nat := if netMode s = 2 then [2 * n, 2 * n + 1] else [n]

/-- The ports of a NET page lose their link, and what had arrived on them (R533). What the cause's code is no rule says. -/
def netAbort (n : Nat) (s : State) : State :=
  (portsOf s n).foldl (fun s q =>
    let s := linkDownPort q (Config.free32 s.free).toNat (draw s).2
    { s with net := { s.net with inbox := s.net.inbox.filter fun a => a.port != q } }) s

/-- Every active group stops where it is and goes on only by RESUME (R559, R563). -/
def rplAbort (s : State) : State :=
  ((grpNums s).filter fun g => (grpOf s g).active).foldl (fun s g =>
    let x := grpOf s g
    grpPut g { (x.cut) with st := .linkDown, out := x.out ++ x.cur.toList } s) s

/-- A running checkpoint is abandoned (R447). -/
def plnAbort (s : State) : State :=
  wr pgPLN 0x164 0 { ({ s with ldg := { s.ldg with running := none } } : State) with pln := { s.pln with writer := none } }

/-- Every way is cleaned and invalidated; maintenance, retirement and remaps end where they are. -/
def scAbort (s : State) : State :=
  let s := (List.range 16).foldl (fun s w => cleanInvalWay w s) s
  let s := s.msys.maint.foldl (fun s e => wrF pgSC (maintReg e.1 0x14) 31 31 0 s) (wrF pgSC 0x10C 31 31 0 s)
  { s with msys := { s.msys with maint := [], scOp := none } }

/-- WDL stops: the link goes down and what waited to be sent is gone (R585). -/
def wdlAbort (s : State) : State :=
  let s := linkDown ldPAGE s
  { s with wdl := { s.wdl with txq := [] } }

/-- A LAND unit leaves: the CRCs of a grain in progress stay unwritten, and its write fails as a short transfer (R616); the other unit
takes the grains still to come (R615). -/
def landAbort (n : Nat) (s : State) : State :=
  if 2 ≤ n then s
  else
    let s := (s.hq.cmds.filter (midGrain s n)).foldl (fun s c => hqShort c.qp c.cid s) s
    { s with wc := { s.wc with slots := s.wc.slots.map fun e =>
        (e.1, if e.2.st = .landing ∧ e.2.cvu = n then { e.2 with cvu := 1 - n } else e.2) } }

/-- The work of a page other than a forge, a drawplate or an engine, completed with a status byte (R43, R45, R46). -/
def workLost (p status : Nat) (s : State) : State :=
  match clsOf p with
  | 0x05 => scAbort s
  | 0x0A => if bit (rd s pgTMK 0x114) 31 then tmkEnd 0x15 { s with tmk := { s.tmk with target := none } } else s
  | 0x10 => hqAbort status s
  | 0x18 => plnAbort s
  | 0x1A => wcAbort s
  | 0x1B => rplAbort s
  | 0x20 => netAbort (instOf p) s
  | 0x21 => xptAbort qeDISABLE s
  | 0x22 => wdlAbort s
  | 0x23 => flxAbort (instOf p) s
  | 0x24 => laneSet (instOf p) false s
  | 0x28 => landAbort (instOf p) s
  | 0x30 => dbgAbandon s
  | 0x31 => fwuAbandon s
  | _ => s

/-- Complete all the work of a page with a status byte. -/
def abortWork (p status : Nat) (s : State) : State := workLost p status (abortPage p status s)

/-- A fatal cause on any page, with what becomes of its work (R46). -/
def fatal (p cause off : Nat) (s : State) : State :=
  if pgState s p = stFAULT then recordFault p cause off s
  else workLost p (if cause = cMEMORY_UNCORR then stsMEMORY_ERROR else stsINTERNAL) (recordFault p cause off s)

/-! What a block forgets in OFF. -/

/-- LDG restarts from its checkpoint: what it holds for the partner stays (R92, R98). Both cores take their reset roles (R102), and no
snapshot command is left to wait for. -/
def ldgStop (s : State) : State :=
  wr pgLDG 0x160 0x10#32 <| wrF pgLDG 0x150 8 8 0 { s with ldg := { Ldg.reset with
      ckpt := s.ldg.ckpt
      ckptGen := s.ldg.ckptGen
      owned := s.ldg.owned
      given := s.ldg.given
      peerCommitted := s.ldg.peerCommitted
      peerDrainedTo := s.ldg.peerDrainedTo
      pairedAt := s.ldg.pairedAt
      mirrorJseq := s.ldg.mirrorJseq
      mirrorTail := s.ldg.mirrorTail
      mirrorHoles := s.ldg.mirrorHoles
      mirrorSpan := s.ldg.mirrorSpan
      peerRecords := s.ldg.peerRecords } }

/-- ING forgets its open ingots; its open journal entries are resolved at the next START (R403). -/
def ingStop (s : State) : State :=
  { s with ing := { Ing.reset with
      mods := s.ing.mods
      jseq := s.ing.jseq
      geom := rd s pgING 0x100 } }

/-- What leaving for OFF clears of a page's internal state. -/
def offEffects (p : Nat) (s : State) : State :=
  match clsOf p with
  | 0x16 => ldgStop s
  | 0x17 => ingStop s
  | 0x19 => { s with anl := ⟨[], [], 0, 0, false, none⟩ }
  | 0x22 => wrF pgCLK 0x100 dmWDL dmWDL 0 (wrF pgCLK 0x104 dmWDL dmWDL 0 s)
  | 0x09 => { s with hlm := { s.hlm with scanned := false } }
  | 0x24 => laneSet (instOf p) false s
  | _ => s

/-- A page enters OFF. -/
def toOff (p : Nat) (s : State) : State := offEffects p (wrF p 0x040 1 1 0 (setState p stOFF s))

/-- What leaving RUN does at once: an engine starts nothing posted later (R42); WDL's link goes down (R585). -/
def leaveRun (p : Nat) (s : State) : State :=
  let s := (List.range (ringCount p)).foldl (fun s n =>
    rgPut p n { rgOf s p n with seen := some (rgTail s p n) } s) s
  if p = pgWDL then linkDown ldPAGE s else s

/-- RUN to DRAIN (R38). -/
def toDrain (p : Nat) (s : State) : State := leaveRun p (setState p stDRAIN s)

end Sys2Proof.Machine
end

