-- ==== Sys2Proof/Machine/PageStart.lean ====
section
/-! DEFINITION. A page's start: which pages can leave OFF, when the start work is done (each block's READY), and what entering START,
READY and RUN does (R38 to R42, R757). -/

namespace Sys2Proof.Machine

/-- Some page of a class is in RUN. -/
def anyRun (s : State) (cls : Nat) : Bool := (pagesOf cls).any fun p => running s p

/-- The port or the link on an octet is in RUN (R780). -/
def octetUsed (s : State) (n : Nat) : Bool :=
  match srdUse s n with
  | 0 => (List.range 8).any fun i => running s (pgFLX + (8 * n + i) / flashLanes s)
  | 1 => (List.range 8).any fun i =>
      let port := ((n - rdF s pgFLX 0x100 4 0) * 8 + i) / netLanes s
      decide (port < netPorts s) && running s (portPage s port)
  | 2 => running s pgWDL
  | _ => false

/-- A page that is in use: NET pages of the mode, FLX ports on flash octets, octets with a use (R406, R489, R780). The others read
OFF. -/
def usable (s : State) (p : Nat) : Bool :=
  match clsOf p with
  | 0x20 => decide (instOf p < (if netMode s = 2 then 16 else netPorts s))
  | 0x23 => portThere s (instOf p)
  | 0x24 => srdUse s (instOf p) != 3
  | _ => true

/-- ENABLE = 0 is accepted (R233, R263, R302, R344, R349, R403, R533, R662 and the block's own chapter). -/
def mayDisable (s : State) (p : Nat) : Bool :=
  match clsOf p with
  | 0x01 | 0x02 | 0x30 | 0x32 => false
  | 0x03 => allPages.all fun q => q == p || pgState s q == stOFF
  | 0x04 => (List.range 32).all fun c => !ringEn s c
  | 0x05 | 0x06 | 0x07 => allPages.all fun q => q == p || !running s q
  | 0x08 => !(running s pgWC || running s pgLDG || running s pgING || running s pgHLM || running s pgTMK || running s pgTIN)
  | 0x13 => (pagesOf 0x11).all fun q => !alive s q
  | 0x14 => !(anyRun s 0x11 || anyRun s 0x12)
  | 0x15 => !(anyRun s 0x11 || anyRun s 0x12 || anyRun s 0x20)
  | 0x17 => !(anyRun s 0x11 || running s pgANL || running s pgLDG)
  | 0x18 => !(running s pgLDG || running s pgING)
  | 0x1A => dirty s == 0
  | 0x21 => !(running s pgHQ || running s pgRPL)
  | 0x24 => !octetUsed s (instOf p)
  | 0x31 => !fwuHolding s
  | _ => true

/-- SOFT_RESET is accepted (R233, FWU). -/
def mayReset (s : State) (p : Nat) : Bool :=
  match clsOf p with
  | 0x13 => (pagesOf 0x11).all fun q => !alive s q
  | 0x31 => !fwuHolding s
  | _ => true

/-- What a block's READY waits for that the state shows: the pages of R757 that it needs in RUN, and the work of its own chapter. -/
def startDone (s : State) (p : Nat) : Bool :=
  match clsOf p with
  | 0x02 => s.aon.pllLocked
  | 0x06 | 0x07 => (Tab.find? s.msys.trained p).isSome
  | 0x08 => anyRun s 0x07
  | 0x09 => s.hlm.scanned
  | 0x0A => alive s pgQST
  | 0x10 => running s pgXPT && running s pgLDG && running s pgWC
  | 0x11 => running s pgASY && running s pgCRU && running s pgTIN && feedsUp s
  | 0x12 | 0x20 | 0x23 => running s pgCRU && running s pgTIN && (clsOf p != 0x23 || rdF s p 0x108 10 8 != 0)
  | 0x13 | 0x14 | 0x15 | 0x22 => alive s pgQST
  | 0x16 => s.ldg.replayed && (coreSt s 0 != 2 || coreSt s 1 != 2) && feedsUp s
  | 0x17 | 0x18 => s.ing.resolved && feedsUp s
  | 0x19 => bit (rd s pgPLN 0x044) 5 && feedsUp s
  | 0x1A => alive s pgQST && feedsUp s && (rdF s pgQST 0x100 9 8 == 0 || rdF s pgQST 0x100 2 0 == 3 || !s.wc.restoring)
  | 0x1B => running s pgXPT && running s pgLDG
  | 0x21 => (rd64 s pgXPT 0x108) != 0 && running s pgCRU && running s pgTIN
  | _ => true
where
  /-- What row 7 of R757 needs in RUN. -/
  feedsUp (s : State) : Bool := anyRun s 0x12 && running s pgTIN && running s pgWDL

/-- Every PLL that should run is locked and its clock runs; WDL's follows its page (R688). -/
def clkReady (s : State) : State :=
  [dmCORE, dmFORGE, dmCTL, dmDDR, dmHBM, dmQST, dmAON].foldl (fun s d => domSet_ d (wrF pgCLK 0x104 d d 1 s)) s

/-- What a block's start work leaves behind, at the instant READY rises. -/
def readyWork (p : Nat) (s : State) : State :=
  match clsOf p with
  | 0x03 => clkReady s
  | 0x08 =>
    let c := readCtrl s
    wr pgQST 0x104 (pw c.qgen) (wrF pgQST 0x100 9 8 (lastCode c) s)
  | 0x06 | 0x07 => wr p 0x108 ((Tab.getD s.msys.trained 0 p &&& 0xFFFFFF#32) ||| (rd s p 0x108 &&& 0xFF000000#32)) s
  | 0x09 => setNextSeq (rd64 s pgHLM 0x140).toNat s
  | 0x0A => tmkReady s
  | 0x13 => fltPut [] (wr64 pgASY 0x108 0 { s with asy := { s.asy with ctxs := [] } })
  | 0x15 => wrF pgTIN 0x164 0 0 (b2n (decide (s.fuses.lc = .owned))) s
  | 0x1A => (s.wc.slots.filter fun e => e.2.st != .free).foldl (fun s e => rebuildSlot e.1 s) s
  | 0x24 => laneSet (instOf p) true s
  | _ => s

/-! Entering RUN. -/

/-- The zone table names a module (R759). -/
def tableNames (s : State) (m : Nat) : Bool := s.pln.zones.any fun e => e.1 / 2 ^ 32 == m

/-- Modules that the zone table names and whose ports did not train in time are ejected as PORT_DOWN (R381, R759). -/
def lateEject (s : State) : State :=
  let ms := s.pln.late.filter (tableNames s)
  ms.foldl (fun s m => ejectNow m ejPORT_DOWN s) { s with pln := { s.pln with late := [] } }

/-- The work of the transition from START to RUN. -/
def runWork (p : Nat) (s : State) : State :=
  match clsOf p with
  | 0x04 => eqcClear s
  | 0x05 => scRun s
  | 0x08 =>
    if s.boot.untold then
      hallmark 0x0903 0 [pw s.boot.cause, pw s.boot.status, pw s.boot.slot] { s with boot := { s.boot with untold := false } }
    else s
  | 0x16 =>
    let s := if linkUp s then s else wrF pgLDG 0x108 9 8 3 s
    ldgStat s
  | 0x17 => lateEject s
  | 0x1A =>
    let land := fun (s : State) (n : Nat) => wrF (pgCVU + n) 0x104 21 20 2 (wrF (pgCVU + n) 0x100 7 0 3 s)
    land (land s 0) 1
  | 0x22 => trainLink { s with wdl := { s.wdl with barred := false } }
  | _ => s

/-- An engine in RUN reads its rings as they stand; those with work join the lane queue. -/
def ringsOpen (p : Nat) (s : State) : State :=
  joinQueues p ((List.range (ringCount p)).foldl (fun s n => rgPut p n { rgOf s p n with seen := none } s) s)

/-- DRAIN or HALT back to RUN (R38, R42); WDL trains its link again unless it is barred (R585); XPT starts the messages that waited. -/
def runAgain (p : Nat) (s : State) : State :=
  let s := ringsOpen p (setState p stRUN s)
  if p = pgWDL ∧ !s.wdl.barred then trainLink s
  else if p = pgXPT then (s.xpt.qps.map (·.1)).foldl (fun s i => pumpAll i s) s
  else s

/-- The asked features that are not offered, by word (R40). -/
def refusedAsk (s : State) (p : Nat) : List W32 :=
  (List.range 4).map fun i => rd s p (0x018 + 4 * i) &&& ~~~(rd s p (0x008 + 4 * i))

/-- FEAT_LIVE := FEAT_ASK AND FEAT_AVAIL (R40). -/
def featsLive (p : Nat) (s : State) : State :=
  (List.range 4).foldl (fun s i => wr p (0x028 + 4 * i) (rd s p (0x018 + 4 * i) &&& rd s p (0x008 + 4 * i)) s) s

/-- The page acts on a run request (R36, R38, R40, R42, R47): FEAT_REFUSED, or RUN with FEAT_LIVE; QUIESCE then drains it at once. -/
def evaluate (p : Nat) (s : State) : State :=
  let bad := refusedAsk s p
  let s := wrF p 0x040 1 1 0 s
  if bad.any (· != 0) then
    let s := recordFault p cFEAT_REFUSED 0x040 s
    hallmark (clsOf p * 256 + 0xF1) (instOf p) bad (event p 1 (rd s p 0x048) s)
  else
    let s := runWork p (ringsOpen p (featsLive p (setState p stRUN s)))
    if bit (rd s p 0x040) 2 then toDrain p s else s

/-- READY rises; a pending request is evaluated at that instant (R39). -/
def pageReady (p : Nat) (s : State) : State :=
  let s := wrF p 0x044 5 5 1 (readyWork p s)
  if bit (rd s p 0x040) 1 then evaluate p s else s

/-! Entering START. -/

/-- What ENABLE clears before a block is READY: command, context, group and source tables; WDL's clock starts (R688). -/
def startWork (p : Nat) (s : State) : State :=
  match clsOf p with
  | 0x04 => eqcClear s
  | 0x10 => { s with hq := { s.hq with cmds := [], ringWait := [] } }
  | 0x1B => updateTargets { s with rpl := { s.rpl with groups := groupsCleared s } }
  | 0x21 =>
    { s with xpt := { s.xpt with
        lru := []
        qps := s.xpt.qps.map fun e => (e.1, { e.2 with parked := [] }) } }
  | 0x18 => plnMeets s
  | 0x22 => wrF pgCLK 0x100 dmWDL dmWDL 1 (wrF pgCLK 0x104 dmWDL dmWDL 1 s)
  | _ => s

/-- OFF to START (R38). A check-value unit is READY at once, and XPT once CTX_BASE is set. -/
def toStart (p : Nat) (s : State) : State :=
  let s := startWork p (setState p stSTART s)
  if clsOf p = 0x28 ∨ (p = pgXPT ∧ startDone s p) then pageReady p s else s

end Sys2Proof.Machine
end

