-- ==== Sys2Proof/Machine/Pages.lean ====
section
/-! DEFINITION. The page header's controls (R32 to R48): PG_CTRL, the page states, FEAT_ASK, PG_EVROUTE, PG_LOCK. -/

namespace Sys2Proof.Machine

/-! PG_CTRL. -/

/-- RESET_BUSY: a soft reset is under way. -/
def resetting (s : State) (p : Nat) : Bool := bit (rd s p 0x044) 4

/-- The write would change or act through a locked field (R35), judged against the state it finds. -/
def lockedCtrl (s : State) (p : Nat) (v : W32) : Bool :=
  locked s p 0 && (bit v 0 != bit (rd s p 0x040) 0 || bit v 1 || (bit v 0 && pgState s p == stOFF))

/-- ENABLE as it stands after a write: a locked field keeps its value; a disable that the block refuses records CTRL_CONFLICT and
leaves ENABLE at 1. A page in OFF has nothing to refuse (R46). -/
def enableWrite (p : Nat) (v : W32) (s : State) : State :=
  if locked s p 0 then s
  else if bit (rd s p 0x040) 0 && !bit v 0 && pgState s p != stOFF && !mayDisable s p then conflict p 0x040 s
  else wrF p 0x040 0 0 (b2n (bit v 0)) s

/-- FAULT_CLR (R36, R46): PG_FAULT is cleared; a page in FAULT goes to OFF. -/
def faultClear (p : Nat) (s : State) : State :=
  let s := wr p 0x048 0 s
  if pgState s p = stFAULT then toOff p s else s

/-- The transitions that ENABLE and QUIESCE drive (R38, R42 to R44). `start`: the write carries an ENABLE of 1 that may act. Work
posted to a page that is disabled in HALT completes with ABORTED_DISABLE (R43). -/
def ctrlMoves (p : Nat) (start : Bool) (s : State) : State :=
  let en := bit (rd s p 0x040) 0
  let q := bit (rd s p 0x040) 2
  let st := pgState s p
  if st = stOFF then (if start && usable s p then toStart p s else s)
  else if !en then
    if st = stSTART then toOff p s
    else if st = stHALT then toOff p (abortWork p stsABORTED_DISABLE s)
    else if st = stRUN then toDrain p s
    else s
  else if q then (if st = stRUN then toDrain p s else s)
  else if st = stDRAIN ∨ st = stHALT then runAgain p s
  else s

/-- RUN_REQ (R37, R39): CTRL_CONFLICT unless ENABLE is 1 and the page is in START; acted on now, or when READY rises. While a soft reset
runs it stays pending, and the reset clears it. -/
def runRequest (p : Nat) (s : State) : State :=
  if !bit (rd s p 0x040) 0 ∨ pgState s p ≠ stSTART then conflict p 0x040 s
  else if bit (rd s p 0x044) 5 && !resetting s p then evaluate p s
  else wrF p 0x040 1 1 1 s

/-- A soft reset starts (R45): all work of the page completes with ABORTED_RESET. -/
def softReset (p : Nat) (s : State) : State :=
  if resetting s p then s
  else if !mayReset s p then conflict p 0x040 s
  else abortWork p stsABORTED_RESET (wrF p 0x044 4 4 1 (wrF p 0x040 3 3 1 s))

/-- WDL, PAIRED, is disabled or reset: STEP_DOWN goes first (R597). -/
def wdlStep (p : Nat) (v : W32) (en0 : Bool) (s : State) : State :=
  if p = pgWDL ∧ ((en0 && !bit (rd s p 0x040) 0) || bit v 3) then stepDown s else s

/-- A write of PG_CTRL (R28, R35, R38, R43 to R46). The lock is judged against the state that the write finds; FAULT_CLR takes effect
first; the causes that the write itself records follow it (DEDUCED, log entry 16); then ENABLE and QUIESCE, SOFT_RESET, RUN_REQ. While
a soft reset runs, the write moves the page nowhere. -/
def ctrlWrite (p : Nat) (v : W32) (s : State) : State :=
  let en0 := bit (rd s p 0x040) 0
  let held := lockedCtrl s p v
  let free := !locked s p 0
  let s := if bit v 4 then faultClear p s else s
  let s := if bits v 31 5 ≠ 0 then recordFault p cRSVD_WRITE 0x040 s else s
  let s := if held then recordFault p cLOCKED_WRITE 0x040 s else s
  let s := wrF p 0x040 2 2 (b2n (bit v 2)) (enableWrite p v s)
  let s := wdlStep p v en0 s
  let still := resetting s p || (bit v 3 && mayReset s p)
  let s := if bit v 3 then softReset p s else s
  let s := if still then s else ctrlMoves p (bit v 0 && free) s
  if bit v 1 && free then runRequest p s else s

/-- A write of PG_CTRL by a master: an absent page ignores it (R23); a stopped octet's page times out (R698). -/
def pgCtrl (m p : Nat) (v : W32) (s : State) : State :=
  atRegister m p 0x040 (ctrlWrite p v) s

/-- PG_ENABLE (R38). -/
def execPgEnable (page : Nat) (value : W32) (s : State) : Outcome := .next (pgCtrl 0 page value s)
/-- PG_DISABLE (R43). -/
def execPgDisable (page : Nat) (value : W32) (s : State) : Outcome := .next (pgCtrl 0 page value s)
/-- RUN_REQ (R40). -/
def execRunReq (page : Nat) (value : W32) (s : State) : Outcome := .next (pgCtrl 0 page value s)
/-- QUIESCE_SET (R42). -/
def execQuiesceSet (page : Nat) (value : W32) (s : State) : Outcome := .next (pgCtrl 0 page value s)
/-- QUIESCE_CLEAR (R38). -/
def execQuiesceClear (page : Nat) (value : W32) (s : State) : Outcome := .next (pgCtrl 0 page value s)
/-- SOFT_RESET (R45). -/
def execSoftReset (page : Nat) (value : W32) (s : State) : Outcome := .next (pgCtrl 0 page value s)
/-- FAULT_CLR (R46). -/
def execFaultClr (page : Nat) (value : W32) (s : State) : Outcome := .next (pgCtrl 0 page value s)

/-! The page's own steps. -/

/-- PAGE_READY (R39): the block's start work is done; the event acts only where the state shows nothing that it still waits for. -/
def execPageReady (page : Nat) (s : State) : Outcome :=
  .next (if pageExists page && pgState s page == stSTART && !bit (rd s page 0x044) 5 && startDone s page then pageReady page s
    else s)

/-- PAGE_DRAIN_COMPLETE (R38, R43): no work is in flight: OFF where ENABLE is 0, else HALT. What was posted and not started completes
with ABORTED_DISABLE before OFF. -/
def execPageDrainComplete (page : Nat) (s : State) : Outcome :=
  .next (if !pageExists page ∨ pgState s page ≠ stDRAIN ∨ resetting s page then s
    else if !bit (rd s page 0x040) 0 then
      if pageBusy s page then s else toOff page (abortWork page stsABORTED_DISABLE s)
    else if bit (rd s page 0x040) 2 && !pageBusy s page then setState page stHALT s
    else s)

/-- DISABLE_BOUND_EXPIRY (R43): what remains completes with ABORTED_DISABLE, and the page enters OFF. EQC discards its PENDING records
(R662). -/
def execDisableBoundExpiry (page : Nat) (s : State) : Outcome :=
  .next (if !pageExists page ∨ pgState s page ≠ stDRAIN ∨ bit (rd s page 0x040) 0 ∨ resetting s page then s
    else
      let s := if page = pgEQC then eqcDiscard s else abortWork page stsABORTED_DISABLE s
      toOff page s)

/-! The end of a soft reset. -/

/-- The block registers that a soft reset of a page keeps: what R202 and the chapters of AON, CLK, TOP, PWR, DBG, SC, MEMD, MEMH, HLM and WDL
state. -/
def resetKeeps (p off : Nat) : Bool :=
  match clsOf p with
  | 0x01 => off == 0x140
  | 0x02 => off == 0x110 || off == 0x114
  | 0x03 => decide (0x100 ≤ off ∧ off < 0x110) || off == 0x128
  | 0x05 => off == 0x104
  | 0x09 => decide (0x140 ≤ off ∧ off < 0x150) || off == 0x1C0
  | 0x0A => off == 0x128 || off == 0x12C
  | 0x10 => off == 0x140 || off == 0x144
  | 0x11 => decide (0x108 ≤ off ∧ off < 0x140) || (p == pgFRG && decide (0x200 ≤ off))
  | 0x12 => decide (0x110 ≤ off ∧ off < 0x130)
  | 0x16 => off == 0x1A0 || off == 0x1A4
  | 0x17 => off == 0x130 || off == 0x134 || off == 0x158 || off == 0x15C
  | 0x19 => decide (0x130 ≤ off ∧ off < 0x140)
  | 0x20 => decide (0x180 ≤ off ∧ off < 0x190)
  | 0x22 => off == 0x154 || decide (0x160 ≤ off ∧ off < 0x170)
  | 0x30 => off == 0x100
  | 0x32 => off == 0x104
  | _ => false

/-- Every block register of the page returns to its reset value (R45); QUENCH_HOLD of a forge or drawplate reads 1 until a chip reset
(R196, R482). -/
def resetRegs (p : Nat) (s : State) : State :=
  let hold := (clsOf p == 0x11 || clsOf p == 0x12) && bit (rd s p 0x104) 0
  let s := { s with regs := s.regs.filter fun e =>
      e.1 / 0x1000 != p || decide (e.1 % 0x1000 < 0x100) || resetKeeps p (e.1 % 0x1000) }
  if hold then wrF p 0x104 0 0 1 s else s

/-- The latches of R25 and the held words of R26 for the page are discarded (R45). -/
def dropHeld (p : Nat) (s : State) : State :=
  let other := fun (e : Nat × W32) => e.1 % 2 ^ 28 / 0x1000 != p
  { ({ s with latch := s.latch.filter other } : State) with held := s.held.filter other }

/-- The units bound to a forge or a drawplate return to service (R222, R246, R301). -/
def unitsBack (n : Nat) (forge : Bool) (s : State) : State :=
  let k := if forge then n else 16 + n
  let s := wrF pgCRU 0x104 k k 0 (wrF pgTIN 0x100 k k 0 s)
  if forge then wrF pgASY 0x100 (16 + n) (16 + n) 0 s else s

/-- The rings and counts of an engine page are as after reset. -/
def ringsGone (p : Nat) (s : State) : State :=
  { s with eng := { s.eng with
      rings := s.eng.rings.filter fun e => e.1 / 256 != p
      seqs := s.eng.seqs.filter fun e => e.1 / 256 != p } }

/-- What a soft reset clears of a page's internal state, and of the registers that lie behind its selectors. -/
def resetWork (p : Nat) (s : State) : State :=
  match clsOf p with
  | 0x01 => { s with top := { s.top with armed := none, lcData := List.replicate 8 0 } }
  | 0x03 => applyFreq (wrF pgCLK 0x120 3 3 (b2n s.clk.onDieOsc) s)
  | 0x04 => { s with eqc := ⟨[], 0, []⟩ }
  | 0x05 => wrF pgSC 0x10C 4 0 (cacheWays s).length s
  | 0x09 => hlmDropBuffer s
  | 0x0A => { s with tmk := ⟨none, 0, false⟩ }
  | 0x10 => { s with hq := { s.hq with ctrls := [], sqs := [], cmds := [], ns := [], ringWait := [] } }
  | 0x11 => unitsBack (instOf p) true s
  | 0x12 => unitsBack (instOf p) false s
  | 0x13 => ringsGone p { s with asy := ⟨[], [], []⟩ }
  | 0x14 => ringsGone p s
  | 0x15 => ringsGone p { s with tin := { s.tin with reqs := [], grants := [], cmd := none } }
  | 0x17 =>
    { s with ing := { s.ing with mods := s.ing.mods.map fun e => (e.1, { e.2 with detours := 0, appendFail := 0, readErr := 0 }) } }
  | 0x18 => { s with pln := { s.pln with mods := s.pln.mods.map fun e => (e.1, { e.2 with cls := 0 }) } }
  | 0x1A => { s with wc := { s.wc with budgetKnown := false } }
  | 0x1B => updateTargets { s with rpl := ⟨[], groupsCleared s⟩ }
  | 0x20 =>
    { s with net := { s.net with
        sub := s.net.sub.filter fun e => e.1 / 0x1000 != p
        ips := s.net.ips.filter fun e => portPage s (e.1 / 8) != p } }
  | 0x24 =>
    { s with srd := ⟨s.srd.txeq.filter fun e => e.1 / 8 != instOf p, s.srd.lost.filter fun l => l / 8 != instOf p⟩ }
  | 0x28 => { s with cvu := Tab.erase s.cvu (instOf p) }
  | 0x30 => wrF pgDBG 0x100 4 4 0 { s with dbg := { s.dbg with nonce := none } }
  | _ => s

/-- A soft reset of SC, MEMD, MEMH, CRU … and every other page completes (R45, R50): PG_CTRL, PG_STAT and FEAT_LIVE alone of the header
change. -/
def resetDone (p : Nat) (s : State) : State :=
  let s := resetWork p (resetRegs p (if clsOf p = 0x28 then s else abortWork p stsABORTED_RESET s))
  let s := queuesReset p (dropHeld p s)
  offEffects p (setState p stOFF (wr p 0x044 0 (wr p 0x040 0 s)))

/-- SOFT_RESET_COMPLETE (R45, R701): not while the block's second domain is stopped; QST's waits for the end of a quench (R336). -/
def execSoftResetComplete (page : Nat) (s : State) : Outcome :=
  .next (if !pageExists page ∨ !resetting s page ∨ (clsOf page ≠ 0x24 ∧ !domRuns s (pageDomain page)) ∨ (page = pgQST ∧ inQ s) then s
    else resetDone page s)

/-! The other header registers. -/

/-- A write of FEAT_ASK_idx (R35, R41): one that is both locked and late is a write to a locked register, and records LOCKED_WRITE alone
(DESIGN CHOICE, log entry 165). -/
def featAskWrite (p idx : Nat) (v : W32) (s : State) : State :=
  let off := 0x018 + 4 * idx
  if locked s p 1 then recordFault p cLOCKED_WRITE off s
  else if pgState s p ≠ stOFF ∧ pgState s p ≠ stSTART then recordFault p cFEAT_LATE off s
  else wr p off v s

/-- A write of PG_EVROUTE (R35, R48). -/
def evrouteWrite (p : Nat) (v : W32) (s : State) : State :=
  if locked s p 2 then recordFault p cLOCKED_WRITE 0x050 s
  else match regAt p 0x050 with
    | some r => noteRsvd p 0x050 r v (wr p 0x050 (r.apply (rd s p 0x050) v) s)
    | none => s

/-- A write of PG_LOCK (R34): bits are only set. -/
def lockWrite (p : Nat) (v : W32) (s : State) : State :=
  match regAt p 0x054 with
  | some r => noteRsvd p 0x054 r v (wr p 0x054 (r.apply (rd s p 0x054) v) s)
  | none => s

/-- FEAT_ASK_WRITE (R41). -/
def execFeatAskWrite (page idx : Nat) (value : W32) (s : State) : Outcome :=
  .next (atRegister 0 page (0x018 + 4 * idx) (featAskWrite page idx value) s)
/-- PG_EVROUTE_WRITE (R48): later events of the page go to the new target. -/
def execPgEvrouteWrite (page : Nat) (value : W32) (s : State) : Outcome :=
  .next (atRegister 0 page 0x050 (evrouteWrite page value) s)
/-- PG_LOCK_WRITE (R34). -/
def execPgLockWrite (page : Nat) (value : W32) (s : State) : Outcome :=
  .next (atRegister 0 page 0x054 (lockWrite page value) s)

end Sys2Proof.Machine
end

