-- ==== Sys2Proof/Machine/CsrHomes.lean ====
section
/-! DEFINITION. Writing a register that has no row of its own: where its word lives, when it is closed, which fields stand, and what
the write sets off (R28, R35, and the register tables). -/

namespace Sys2Proof.Machine

/-! Where a word lives. -/

/-- The IP entry behind IP_SEL with one of its words replaced (R493, R535). -/
def putIp (q i off : Nat) (w : W32) (s : State) : State :=
  let e := ipEntry s q i
  let sh := 32 * (3 - (off - 0x160) / 4)
  let e := if off = 0x154 then (w, e.2)
    else (e.1, BitVec.ofNat 128 (e.2.toNat - e.2.toNat / 2 ^ sh % 2 ^ 32 * 2 ^ sh + w.toNat * 2 ^ sh))
  { s with net := { s.net with ips := Tab.put s.net.ips (q * 8 + i) e } }

/-- A port's word takes `v` (R535). -/
def putPort (n off : Nat) (r : RegDef) (v : W32) (s : State) : State :=
  let q := netPort s n
  if off = 0x154 ∨ (0x160 ≤ off ∧ off ≤ 0x16C) then
    putIp q (nrdF s q 0x150 2 0) off (r.apply (netView s n off) v) s
  else nwr q off (r.apply (nrd s q off) v) s

/-- A namespace's word takes `v`, whole; NS_GRAINS, which comes low word first (R26), is held between 1 and 2^35 (R123, R158). -/
def putNs (off : Nat) (r : RegDef) (v : W32) (s : State) : State :=
  let n := nsSel s
  let x := nsOf s n
  let w := r.apply 0 v
  if off = 0x118 then nsPut n { x with grains := BitVec.ofNat 64 (x.grains.toNat / 2 ^ 32 * 2 ^ 32 + w.toNat) } s
  else if off = 0x11C then
    nsPut n { x with grains := BitVec.ofNat 64 (Nat.max 1 (Nat.min (2 ^ 35) (w.toNat * 2 ^ 32 + x.grains.toNat % 2 ^ 32))) } s
  else if off = 0x124 then nsPut n { x with qmax := w } s
  else nsPut n { x with qlat := w } s

/-- The register at an offset of a page takes `v` at the place that holds it: behind a selector, or in the register file. -/
def storeWord (p off : Nat) (r : RegDef) (v : W32) (s : State) : State :=
  if clsOf p = 0x20 ∧ perPort off then putPort (instOf p) off r v s
  else if p = pgHQ ∧ (off = 0x118 ∨ off = 0x11C ∨ off = 0x124 ∨ off = 0x128) then putNs off r v s
  else if p = pgRPL ∧ 0x114 ≤ off ∧ off ≤ 0x140 then gwr (grpSel s) off (r.apply (grd s (grpSel s) off) v) s
  else if p = pgPLN ∧ off = 0x114 then pmodPut (plnMod s) { pmodOf s (plnMod s) with cls := bits v 10 8 } s
  else if clsOf p = 0x24 ∧ off = 0x10C then
    { s with srd := { s.srd with txeq := Tab.put s.srd.txeq (srdLane s (instOf p)) (r.apply (txeq s (instOf p)) v) } }
  else if p = pgTOP ∧ 0x120 ≤ off ∧ off < 0x140 then
    { s with top := { s.top with lcData := s.top.lcData.set ((off - 0x120) / 4) v } }
  else wr p off (r.apply (rd s p off) v) s

/-! When a register is closed. -/

/-- No page of a class is in RUN; every page of a class is OFF. -/
def noneRun (s : State) (cls : Nat) : Bool := !anyRun s cls
def allOff (s : State) (cls : Nat) : Bool := (pagesOf cls).all fun q => pgState s q == stOFF

/-- The ring of an engine page that an offset belongs to. -/
def ringAt (off : Nat) : Nat := (off - 0x400) / 0x40

/-- The register is closed to writes in this state: the write is ignored with CTRL_CONFLICT (R202, R238, R404, R439, R454, R461, R487,
R565, R646, R662, and the tables' OFF and START). -/
def closed (s : State) (p off : Nat) (r : RegDef) (v : W32) : Bool :=
  (r.writable == .offStart && pgState s p != stOFF && pgState s p != stSTART) ||
  match clsOf p with
  | 0x04 => decide (0x200 ≤ off ∧ off < 0x600) && decide (off % 0x20 < 8) && ringEn s ((off - 0x200) / 0x20)
  | 0x06 => off == 0x100 && !allOff s 0x06
  | 0x11 => (off == 0x200 || off == 0x20C) &&
      !((pgState s pgFRG == stOFF || pgState s pgFRG == stSTART) && noneRun s 0x11)
  | 0x12 => off == 0x20C && !noneRun s 0x12
  | 0x13 | 0x14 | 0x15 => decide (0x400 ≤ off) && decide (off % 0x40 < 0x10) && rgEn s p (ringAt off)
  | 0x17 => off == 0x100 && decide (36 < bits v 21 16 + bits v 2 0)
  | 0x18 => off == 0x114 && namesModule s (plnMod s) && bits v 10 8 != (pmodOf s (plnMod s)).cls
  | 0x19 => (off == 0x11C || off == 0x124) && bit (rd s pgANL 0x12C) 0
  | 0x1B => decide (0x114 ≤ off ∧ off ≤ 0x140) && off != 0x11C && (grpOf s (grpSel s)).active
  | 0x23 => off == 0x100 && !allOff s 0x23
  | _ => false

/-- A field that keeps its value in this state (R35): its bits, and whether a lock holds it. -/
def keptField (s : State) (p off : Nat) : Option (Nat × Nat × Bool) :=
  let up := pgState s p != stOFF && pgState s p != stSTART
  if p = pgHQ ∧ off = 0x100 then (if up then some (3, 0, false) else none)
  else if p = pgSC ∧ off = 0x100 then (if up then some (3, 0, false) else none)
  else if p = pgLDG ∧ off = 0x108 then (if locked s p 3 then some (0, 0, true) else if up then some (0, 0, false) else none)
  else if p = pgDRP ∧ off = 0x210 then (if noneRun s 0x12 then none else some (24, 16, false))
  else if p = pgRPL ∧ off = 0x11C then
    (if (grpOf s (grpSel s)).active && (grpOf s (grpSel s)).st != .keyWait then some (11, 0, false) else none)
  else if 0x13 ≤ clsOf p ∧ clsOf p ≤ 0x15 ∧ 0x400 ≤ off ∧ off % 0x40 = 0x10 then
    (if rgEn s p (ringAt off) then some (19, 16, false) else none)
  else none

/-! Values clamped against another register. -/

/-- The word with a field held between two values. -/
def clampField (v : W32) (hi lo mn mx : Nat) : W32 := putBits v hi lo (Nat.max mn (Nat.min mx (bits v hi lo)))

/-- The greatest power of two from 16 to 4,096 that does not pass `n`; 16 below it. -/
def pow2Floor (n : Nat) : Nat := ((List.range 9).map fun k => 16 * 2 ^ k).foldl (fun m x => if x ≤ n then x else m) 16

/-- Fields whose range depends on another field (R458, R535, R646), or is a power of two (R160). -/
def crossClamp (s : State) (p off : Nat) (v : W32) : W32 :=
  if p = pgANL ∧ off = 0x108 then clampField v 6 0 (rdF s pgANL 0x100 6 0 + 1) 60
  else if p = pgANL ∧ off = 0x100 then clampField v 6 0 1 (Nat.min 50 (rdF s pgANL 0x108 6 0 - 1))
  else if clsOf p = 0x20 ∧ off = 0x174 then
    clampField v 15 0 128 (Nat.max 256 (Nat.min 4096 (bits v 31 16)) - 128)
  else if (p = pgHQ ∧ off = 0x18C) ∨ (p = pgXPT ∧ off = 0x138) then putBits v 15 0 (pow2Floor (bits v 15 0))
  else if p = pgMEMD ∧ off = 0x100 then
    (if bits v 3 0 = 6 ∨ bits v 3 0 = 8 then v else putBits v 3 0 0xC)
  else v

/-! What a write sets off. -/

/-- Halt and resume requests to the control cores through dmcontrol (R714): at level D1 or D2, and not in Q. -/
def dmControl (v : W32) (s : State) : State :=
  let h := bits v 25 16
  if dbgLevel s = 0 ∨ inQ s then s
  else if bit v 31 then { s with dbg := { s.dbg with halted := h :: s.dbg.halted.filter (· != h) } }
  else if bit v 30 then { s with dbg := { s.dbg with halted := s.dbg.halted.filter (· != h) } }
  else s

/-- The port or link on an octet goes down under its own chapter (R462, R535, R583, R779). What the cause of a network port's link-down
record is no rule says. -/
def octetDown (octet : Nat) (s : State) : State :=
  match srdUse s octet with
  | 0 => ((List.range 96).filter fun n => (flashOctets s n).contains octet).foldl (fun s n => flashDrop n s) s
  | 1 => ((List.range (netPorts s)).filter fun n => (netOctets s n).contains octet).foldl (fun s n => linkDownPort n (Config.free32 s.free).toNat (draw s).2) s
  | 2 => failLanes (BitVec.ofNat 32 (255 * 2 ^ (8 * (octet - 32)))) s
  | _ => s

/-- The end of a test pattern (R780): PRBS_ERR, hallmark 0x2402. -/
def prbsEnd (n : Nat) (old : W32) (s : State) : State :=
  let (k, s) := draw s
  let e := Config.prbsErrors k
  hallmark 0x2402 n [pw n, pw (bits old 1 0), pw e] (bump (pgSRD + n) 0x120 e s)

/-- PRBS_CFG has changed (R780): a pattern that starts takes the traffic off the octet; one that ends is counted. -/
def prbsTurn (n : Nat) (old : W32) (s : State) : State :=
  if !live s (pgSRD + n) 1 then s
  else if bit (rd s (pgSRD + n) 0x110) 4 then (if bit old 4 then s else octetDown n s)
  else if bit old 4 then prbsEnd n old s else s

/-- What follows a register's new word: `old` is the word before. -/
def writeEffect (p off : Nat) (old v : W32) (s : State) : State :=
  if p = pgWC ∧ off = 0x130 then sendHold (rebudget s)
  else if p = pgHQ ∧ off = 0x188 then adminRefill s.hq.ringWait.length s
  else if p = pgPLN ∧ (off = 0x104 ∨ off = 0x108) then floorUpdate s
  else if p = pgRPL ∧ off = 0x114 then updateTargets s
  else if p = pgRPL ∧ off = 0x11C then keyWritten (grpSel s) s
  else if p = pgLDG ∧ off = 0x108 then (if linkUp s then pairUp s else s)
  else if p = pgDBG ∧ off = 0x440 then dmControl v s
  else if 0x400 ≤ off ∧ 0 < ringCount p then joinQueues p s
  else if clsOf p = 0x24 ∧ off = 0x110 then prbsTurn (instOf p) old s
  else s

/-! The write. -/

/-- A whole 32-bit register takes a word: lock, closed, then the fields that stand, reserved bits, the store and what it sets off. -/
def wordStore (p off : Nat) (r : RegDef) (v : W32) (s : State) : State :=
  if r.lockable && locked s p 3 then recordFault p cLOCKED_WRITE off s
  else if closed s p off r v then conflict p off s
  else
    let old := if p = pgRPL ∧ off = 0x11C then grd s (grpSel s) off else rd s p off
    let w := crossClamp s p off v
    let s := match keptField s p off with
      | none => storeWord p off r w s
      | some (hi, lo, lock) =>
        let s := if bits w hi lo = bits old hi lo then s
          else if lock then recordFault p cLOCKED_WRITE off s else conflict p off s
        storeWord p off r (putBits w hi lo (bits old hi lo)) s
    writeEffect p off old w (noteRsvd p off r v s)

/-- Both halves of a 64-bit register, or the high half alone, are committed in one step (R26): judged once, at the high word's
offset. -/
def pairStore (p off : Nat) (r : RegDef) (lo : Option W32) (v : W32) (s : State) : State :=
  let rl := regAt p (off - 4)
  if r.lockable && locked s p 3 then recordFault p cLOCKED_WRITE off s
  else if closed s p off r v then conflict p off s
  else
    let bad := r.rsvd v || (match rl, lo with | some l, some x => l.rsvd x | _, _ => false)
    let s := match rl, lo with | some l, some x => storeWord p (off - 4) l x s | _, _ => s
    let s := storeWord p off r v s
    if bad then recordFault p cRSVD_WRITE off s else s

end Sys2Proof.Machine
end

