-- ==== Sys2Proof/Machine/CsrWrite.lean ====
section
/-! DEFINITION. A register write as a master makes it (R21 to R31, R35): absent pages, stopped clocks, undefined offsets, the header,
the registers whose writes are commands, 64-bit registers. -/

namespace Sys2Proof.Machine

/-- The state a command leaves. -/
def after (s : State) : Outcome → State
  | .next t => t
  | _ => s

/-- Bits drawn for the verdicts of self-checks that a register write starts. -/
def drawn (s : State) : W32 × State := (Config.free32 s.free, (draw s).2)

/-! Registers whose writes are commands. -/

/-- QP_CMD (R503 to R505). -/
def qpCmdWrite (v : W32) (s : State) : State :=
  match bits v 3 0 with
  | 1 => after s (execQpInit v s)
  | 2 => after s (execQpRtr v s)
  | 3 => after s (execQpRts v s)
  | 4 => let t := commandWrite pgXPT 0x148 v s; after t (execQpError (qpSel t) qeFIRMWARE t)
  | 5 => after s (execQpReset v s)
  | 6 => after s (execQpQuery v s)
  | 7 => after s (execQpTest v s)
  | _ => commandWrite pgXPT 0x148 v s

/-- Commands on XPT, NET, RPL and HQ. -/
def hostCmd (p off : Nat) (v : W32) (s : State) : Option State :=
  if p = pgHQ then
    (if off = 0x104 then some (after s (execHqHoldWrite v s))
    else if off = 0x114 then some (after s (execNsCfgWrite v s))
    else if off = 0x120 then some (after s (execQosMinWrite v s))
    else if off = 0x1AC then some (after s (execAdminReply v s)) else none)
  else if p = pgNET ∧ off = 0x100 then some (after s (execNetModeWrite v s))
  else if p = pgXPT then
    (if off = 0x140 then some (after s (execExcTxSend v s))
    else if off = 0x148 then some (qpCmdWrite v s)
    else if off = 0x1DC then
      some (if bits v 1 0 = 1 then after s (execWinOpen v s)
        else if bits v 1 0 = 2 then after s (execWinRevoke v s) else commandWrite pgXPT off v s)
    else none)
  else if p = pgRPL then
    (if off = 0x144 then some (if bits v 31 30 = 1 then after s (execGrpNsAdd v s) else after s (execGrpNsRemove v s))
    else if off = 0x148 then
      some (match bits v 2 0 with
        | 1 => after s (execGrpStart v s)
        | 2 => after s (execGrpShipNow v s)
        | 3 => after s (execGrpResume v s)
        | 4 => after s (execGrpStop v s)
        | _ => after s (execGrpFull v s))
    else none)
  else none

/-- KEYGEN_CMD (R277): an OP that is neither INSTALL nor RETIRE does nothing. -/
def keygenWrite (v : W32) (s : State) : State :=
  match bits v 31 28 with
  | 1 => after s (execKeygenInstall v s)
  | 2 => after s (execKeygenRetire v s)
  | _ => if keygenBusy s then conflict pgTIN 0x158 s else commandWrite pgTIN 0x158 v s

/-- RING_CFG of an engine (R238): clearing EN is RING_DISABLE. -/
def ringCtl (p n : Nat) (v : W32) (s : State) : Option State :=
  if rgEn s p n && !bit v 0 then some (after s (execRingDisable p n v s)) else none

/-- Commands on the engines, the forges and the drawplates. -/
def engineCmd (p off : Nat) (v : W32) (s : State) : Option State :=
  if p = pgFRG then
    (if off = 0x210 then some (after s (execFltClear v s)) else if off = 0x224 then some (after s (execDomCfgWrite v s)) else none)
  else if p = pgDRP ∧ off = 0x214 then some (after s (execRcClear v s))
  else if p = pgASY ∧ off = 0x104 then let d := drawn s; some (after d.2 (execGlaneRestore v (bits d.1 3 0) d.2))
  else if p = pgCRU ∧ off = 0x10C then let d := drawn s; some (after d.2 (execGunitRestore v (bits d.1 1 0) d.2))
  else if p = pgTIN ∧ off = 0x108 then let d := drawn s; some (after d.2 (execTinUnitRestore v (bits d.1 9 0) d.2))
  else if p = pgTIN ∧ off = 0x158 then some (keygenWrite v s)
  else if (p = pgASY ∨ p = pgCRU ∨ p = pgTIN) ∧ 0x400 ≤ off then
    (if off % 0x40 = 0x14 then some (after s (execEngineDoorbell p (ringAt off) v s))
    else if off % 0x40 = 0x10 then ringCtl p (ringAt off) v s else none)
  else none

/-- SNAP_CMD (R117, R118): an OP of 6 or more names no command. -/
def snapWrite (v : W32) (s : State) : State :=
  match bits v 3 0 with
  | 1 => after s (execSnapArm v s)
  | 2 => after s (execSnapTake v s)
  | 3 => after s (execSnapDelete v s)
  | 4 => after s (execSnapClone v s)
  | 5 => after s (execSnapDisarmAll v s)
  | n => if snapBusy s then conflict pgLDG 0x14C s
    else let s := commandWrite pgLDG 0x14C v s; if n = 0 then s else conflict pgLDG 0x14C s

/-- LDG_REPAIR (R103): both cores may be named. -/
def repairWrite (v : W32) (s : State) : State :=
  if bit v 1 then repair 1 (if bit v 0 then v &&& 2#32 else v) (if bit v 0 then repair 0 v s else s) else repair 0 v s

/-- MOD_CMD of PLN (R454): ADMIT and RETIRE. -/
def modCmdWrite (v : W32) (s : State) : State :=
  if bit v 0 && bit v 1 then
    let t := after s (execModuleAdmit v s)
    after t (execModuleRetire 2#32 t)
  else if bit v 1 then after s (execModuleRetire v s) else after s (execModuleAdmit v s)

/-- TAKE_CMD and HANDOVER_CMD (R591, R594, R597, R598). -/
def takeWrite (v : W32) (s : State) : State :=
  match bits v 2 0 with
  | 1 => after s (execTake v s)
  | 2 => after s (execForce v s)
  | _ => after s (execTakeCmdStepDown v s)
def handoverWrite (v : W32) (s : State) : State :=
  if bits v 31 30 = 1 then after s (execHandoverOffer v s) else after s (execHandoverAccept v s)

/-- Commands on LDG, ING, PLN, ANL, WC and WDL. -/
def storeCmd (p off : Nat) (v : W32) (s : State) : Option State :=
  if p = pgLDG then
    (if off = 0x124 then some (after s (execCloseNow v s)) else if off = 0x14C then some (snapWrite v s)
    else if off = 0x164 then some (repairWrite v s) else none)
  else if p = pgING ∧ off = 0x168 then some (after s (execModEject v s))
  else if p = pgPLN ∧ off = 0x128 then some (modCmdWrite v s)
  else if p = pgANL ∧ off = 0x128 then some (after s (execRekeyStart v s))
  else if p = pgWC then
    (if off = 0x118 then some (after s (execMirrorResume v s)) else if off = 0x16C then some (after s (execTestNow v s)) else none)
  else if p = pgWDL then
    (if off = 0x104 then some (after s (execRetrain v s)) else if off = 0x144 then some (after s (execHbKick v s))
    else if off = 0x150 then some (takeWrite v s) else if off = 0x158 then some (handoverWrite v s) else none)
  else none

/-- TMK_CMD (R682). -/
def tmkWrite (v : W32) (s : State) : State :=
  match bits v 2 0 with
  | 1 => after s (execTmkLoad v s)
  | 2 => after s (execTmkCommit v s)
  | 3 => after s (execTmkConfirm v s)
  | 4 => after s (execTmkRevert v s)
  | _ => tmkGuard v s id

/-- LC_CMD (R708 to R711): whether the TRNG is healthy is drawn; power does not fail on the way. -/
def lcWrite (v : W32) (s : State) : State :=
  match bits v 1 0 with
  | 1 => let d := drawn s; after d.2 (execLcMint v (bit d.1 0) none d.2)
  | 2 => after s (execLcOwn v none s)
  | 3 => after s (execLcRetire v none s)
  | _ => commandWrite pgTOP 0x118 v s

/-- DBG_CMD (R714): a write of both bits returns to D0. -/
def dbgWrite (v : W32) (s : State) : State :=
  if bit v 1 then after s (execD0Return v s) else after s (execD1Grant v s)

/-- SC_CMD and MAINT_CMD (R626, R627, R633, R645). -/
def scWrite (v : W32) (s : State) : State :=
  let s := commandWrite pgSC 0x108 v s
  match bits v 6 4 with
  | 1 => after s (execScRetire (bits v 3 0) s)
  | 2 => after s (execSpRemap (bits v 3 0) s)
  | _ => s
def maintWrite (c : Nat) (v : W32) (s : State) : State :=
  let s := commandWrite pgSC (maintReg c 0x10) v s
  let op := bits v 2 0
  if 1 ≤ op ∧ op ≤ 4 then maintStart c op s else s

/-- FWU_CMD (R748). -/
def fwuWrite (v : W32) (s : State) : State :=
  match bits v 2 0 with
  | 1 => after s (execFwuStage v s)
  | 2 => after s (execFwuVerify v s)
  | 3 => after s (execFwuActivate v s)
  | 4 => after s (execFwuConfirm v s)
  | _ => if fwuBusy s then conflict pgFWU 0x128 s else commandWrite pgFWU 0x128 v s

/-- Commands on EQC; `m` is the master that writes. -/
def eqcCmd (m off : Nat) (v : W32) (s : State) : Option State :=
  if off = 0x600 then some (after s (execSignal m v s))
  else if off = 0x604 then some (after s (execEvqDone v s))
  else if off = 0x614 then some (after s (execSrcMaskWrite none v s))
  else if 0x200 ≤ off ∧ off < 0x600 then
    let c := (off - 0x200) / 0x20
    if off % 0x20 = 0x08 then some (after s (execEventRingEnable c v s))
    else if off % 0x20 = 0x0C then some (after s (execRingConsWrite c v s))
    else if off % 0x20 = 0x18 then some (after s (execSrcMaskWrite (some c) v s)) else none
  else none

/-- Commands on the infrastructure pages. -/
def infraCmd (m p off : Nat) (v : W32) (s : State) : Option State :=
  if p = pgEQC then eqcCmd m off v s
  else if p = pgHLM then
    (if off = 0x17C then some (after s (execExportCmd v s)) else if off = 0x1B0 then some (after s (execFwPost v s)) else none)
  else if p = pgTMK ∧ off = 0x110 then some (tmkWrite v s)
  else if p = pgCLK ∧ off = 0x110 then some (after s (execCtlFreqSwitch v s))
  else if p = pgPWR ∧ off = 0x100 then
    some (match bits v 1 0 with
      | 0 => after s (execPwrP0 v s)
      | 1 => after s (execPwrP1 v s)
      | 2 => after s (execPwrP2 v s)
      | _ => after s (execPwrQuench v s))
  else if p = pgTOP then
    (if off = 0x114 then some (after s (execLcArm v s)) else if off = 0x118 then some (lcWrite v s)
    else if off = 0x140 then some (after s (execOwnerLockSet v s)) else none)
  else if p = pgDBG ∧ off = 0x104 then some (dbgWrite v s)
  else if p = pgFWU ∧ off = 0x128 then some (fwuWrite v s)
  else if p = pgSC then
    (if off = 0x108 then some (scWrite v s)
    else if 0x200 ≤ off ∧ off < 0x280 ∧ off % 0x20 = 0x10 then some (maintWrite ((off - 0x200) / 0x20) v s) else none)
  else if clsOf p = 0x28 then
    (if off = 0x100 then some (cvuTapWrite (instOf p) v s) else if off = 0x104 then some (cvuCfgWrite (instOf p) v s) else none)
  else none

/-- A write that is a command of its own. -/
def ownWrite (m p off : Nat) (v : W32) (s : State) : Option State :=
  match hostCmd p off v s with
  | some t => some t
  | none => match engineCmd p off v s with
    | some t => some t
    | none => match storeCmd p off v s with
      | some t => some t
      | none => infraCmd m p off v s

/-! The write itself. -/

/-- A write of a header register (R32). -/
def headerStore (p off : Nat) (r : RegDef) (v : W32) (s : State) : State :=
  if off = 0x040 then ctrlWrite p v s
  else if 0x018 ≤ off ∧ off ≤ 0x024 then featAskWrite p ((off - 0x018) / 4) v s
  else if off = 0x050 then evrouteWrite p v s
  else if off = 0x054 then lockWrite p v s
  else noteRsvd p off r v (wr p off (r.apply (rd s p off) v) s)

/-- A 32-bit write by master `m` (R23 to R31, R35): the low word of a 64-bit register is held until its high word (R26). -/
def csrWrite (m p off : Nat) (v : W32) (s : State) : State :=
  if !pageExists p then s
  else if clockStopped s p off then stopTimeout m p off s
  else match regAt p off with
  | none => recordFault p cBAD_ACCESS off s
  | some r =>
    if off < 0x100 then headerStore p off r v s
    else match r.half with
    | .low => { s with held := Tab.put s.held (mkey m p off) v }
    | .high =>
      let lo := Tab.find? s.held (mkey m p (off - 4))
      pairStore p off r lo v { s with held := Tab.erase s.held (mkey m p (off - 4)) }
    | .word => match ownWrite m p off v s with
      | some t => t
      | none => wordStore p off r v s

/-- CSR_REGISTER_WRITE (R30). -/
def execCsrRegisterWrite (master page off : Nat) (value : W32) (s : State) : Outcome := .next (csrWrite master page off value s)
/-- LOW_WORD_WRITE (R26): a write that is not one of a low word is not this event. -/
def execLowWordWrite (master page off : Nat) (value : W32) (s : State) : Outcome :=
  .next (match regAt page off with
    | some r => if r.half = .low then csrWrite master page off value s else s
    | none => s)
/-- HIGH_WORD_WRITE (R26). -/
def execHighWordWrite (master page off : Nat) (value : W32) (s : State) : Outcome :=
  .next (match regAt page off with
    | some r => if r.half = .high then csrWrite master page off value s else s
    | none => s)

/-- CSR_UNDEFINED_OFFSET_ACCESS (R29, R202, R487): reads 0, writes are ignored, BAD_ACCESS. -/
def execCsrUndefinedOffsetAccess (master page off : Nat) (write : Bool) (s : State) : Outcome :=
  .next (if !pageExists page || (regAt page off).isSome then s
    else if write then csrWrite master page off 0 s else csrRead master page off s)

/-- CSR_ABSENT_PAGE_ACCESS (R23): reads 0, writes are ignored, no fault. -/
def execCsrAbsentPageAccess (master page off : Nat) (write : Bool) (s : State) : Outcome :=
  .next (if pageExists page then s else if write then csrWrite master page off 0 s else csrRead master page off s)

end Sys2Proof.Machine
end

