-- ==== Sys2Proof/Machine/Access.lean ====
section
/-! DEFINITION. A master's access by physical address (R24, R27, R619): memory behind the SC, or the CSR window, where one 64-bit
transaction is the low-then-high pair in one step. -/

namespace Sys2Proof.Machine

/-- A location of the CSR window: its page and offset. -/
def csrPage (a : Nat) : Nat := (a - 0x00F000000000) / 0x1000
def csrOff (a : Nat) : Nat := (a - 0x00F000000000) % 0x1000

/-- A CSR access that is neither 32 bits aligned to 4 bytes nor 64 bits aligned to 8 (R24): a bus error, and BAD_ACCESS on the page. -/
def narrowAccess (m p off : Nat) (s : State) : State :=
  emit (.busError m) (if pageExists p then recordFault p cBAD_ACCESS off s else s)

/-- The word that four bytes of a write spell. -/
def wordAt (bs : List Byte) (i : Nat) : W32 := BitVec.ofNat 32 (field bs (4 * i) 4)

/-- One 32-bit access. -/
def csrWord (m p off : Nat) (v : Option W32) (s : State) : State :=
  match v with
  | some w => csrWrite m p off w s
  | none => csrRead m p off s

/-- An access to the CSR window (R24, R27). -/
def csrAccess (m a len : Nat) (wdata : Option (List Byte)) (s : State) : State :=
  let p := csrPage a
  let off := csrOff a
  if len = 4 ∧ a % 4 = 0 then csrWord m p off (wdata.map (wordAt · 0)) s
  else if len = 8 ∧ a % 8 = 0 then
    csrWord m p (off + 4) (wdata.map (wordAt · 1)) (csrWord m p off (wdata.map (wordAt · 0)) s)
  else narrowAccess m p off s

/-- MEMORY_ACCESS (R24, R27, R619, R623): a tag that cannot be corrected puts the SC in FAULT, with what becomes of its work. -/
def execMemoryAccess (x : MemAcc) (s : State) : Outcome :=
  .next (if region s x.addr = some .csr then csrAccess x.master x.addr x.len x.wdata s
    else
      let t := memAccess x s
      if pgState s pgSC ≠ stFAULT ∧ pgState t pgSC = stFAULT then workLost pgSC stsINTERNAL t else t)

/-- CSR_NARROW_ACCESS (R24); an access that is aligned and whole is not this event. -/
def execCsrNarrowAccess (master page off size : Nat) (_write : Bool) (s : State) : Outcome :=
  .next (if (size = 4 ∧ off % 4 = 0) ∨ (size = 8 ∧ off % 8 = 0) then s else narrowAccess master page off s)

end Sys2Proof.Machine
end

