-- ==== Sys2Proof/Machine/Debug.lean ====
section
/-! DEFINITION. The debug port's accesses (R699, R714, R717, R724, R725, R732): DBG_ACCESS through the TAP, scope by level, stopped
domains. -/

namespace Sys2Proof.Machine

/-! Scope (R714, R732). -/

/-- TOP's LC and OWNER registers, and DBG's own configuration: no level reaches them (R714, R732). -/
def dbgForbidden (a : Nat) : Bool :=
  decide (0x00F000000000 ≤ a) &&
  ((csrPage a == pgTOP && decide (0x110 ≤ csrOff a ∧ csrOff a < 0x144)) || (csrPage a == pgDBG && decide (csrOff a < 0x1A0)))

/-- Range `n` of D1_FENCE holds an address; a range with LIMIT < BASE is unused (R733). -/
def fenceHolds (s : State) (a n : Nat) : Bool :=
  decide ((rd64 s pgDBG (0x110 + n * 0x10)).toNat ≤ a + 3) && decide (a ≤ (rd64 s pgDBG (0x118 + n * 0x10)).toNat) &&
  decide ((rd64 s pgDBG (0x110 + n * 0x10)).toNat ≤ (rd64 s pgDBG (0x118 + n * 0x10)).toNat)
/-- A memory location lies in a fenced range. -/
def inFence (s : State) (a : Nat) : Bool := (List.range 8).any (fenceHolds s a)

/-- The level in force permits the access (R714): none at D0; at D1 every CSR but those no level reaches, and memory outside the
fences; at D2 the fenced ranges too. -/
def dbgPermits (s : State) (a : Nat) : Bool :=
  decide (dbgLevel s ≠ 0) && if region s a = some .csr then !dbgForbidden a else decide (dbgLevel s = 2) || !inFence s a

/-- The domain behind an address is stopped (R699). -/
def dbgStopped (s : State) (a : Nat) : Bool :=
  match region s a with
  | some .csr => pageExists (csrPage a) && clockStopped s (csrPage a) (csrOff a)
  | some .ddr => !domRuns s dmDDR
  | some .hbm => !domRuns s dmHBM
  | _ => false

/-! The access. -/

/-- An access ends with a STATUS and DATA (R717). -/
def dbgEnd (status : Nat) (data : W32) (s : State) : State := { s with dbg := { s.dbg with status := status, data := data } }

/-- One byte of DRAM, as the debug port finds it behind the SC (spec/17_cache_memory.md). -/
def dramByte (s : State) (a : Nat) : Byte := (Tab.find? s.msys.stale a).getD (memByte s a)
/-- Write one byte of DRAM behind the SC: a line the SC holds keeps its copy. -/
def dramPut (a : Nat) (b : Byte) (s : State) : State :=
  if (Tab.find? s.msys.lines (a / 128)).isSome then { s with msys := { s.msys with stale := Tab.put s.msys.stale a b } }
  else memWrite a [b] s

/-- An access to DDR-5 or HBM, which bypasses the SC: a bus error where a channel or stack does not serve, is lost, or holds poison
there (R637, R639, R643). -/
def dbgDram (r : Region) (x : DbgAcc) (s : State) : State :=
  let as := (List.range 4).map (x.addr + ·)
  if !(regionPages s r).all (ctrlServes s) || s.msys.lost.contains (memPage s r x.addr) || poisoned s x.addr 4 then dbgEnd 1 0 s
  else if x.write then
    dbgEnd 0 x.data ((List.range 4).foldl (fun s i => dramPut (x.addr + i) ((le 4 x.data.toNat).getD i 0) s) s)
  else dbgEnd 0 (BitVec.ofNat 32 (ofLe (as.map (dramByte s)))) s

/-- An access to a CSR by the debug port; a misaligned one is a bus error (R24, R25, R26). -/
def dbgCsr (x : DbgAcc) (s : State) : State :=
  let p := csrPage x.addr
  let off := csrOff x.addr
  if x.addr % 4 ≠ 0 then dbgEnd 1 0 (if pageExists p then recordFault p cBAD_ACCESS off s else s)
  else if x.write then dbgEnd 0 x.data (csrWrite debugPort p off x.data s)
  else match readWord debugPort p off s with
    | (v, t) => dbgEnd 0 (v.getD 0) t

/-- Perform an access whose domain runs (R619, R717). -/
def dbgPerform (x : DbgAcc) (s : State) : State :=
  let word := fun (s : State) =>
    if x.write then dbgEnd 0 x.data (memWrite x.addr (le 4 x.data.toNat) s)
    else dbgEnd 0 (BitVec.ofNat 32 (ofLe (memRead s x.addr 4))) s
  match region s x.addr with
  | none => dbgEnd 1 0 (bump pgSC 0x154 1 s)
  | some .csr => dbgCsr x s
  | some .boot =>
    if x.write && !decide (0x10000000 ≤ x.addr ∧ x.addr < 0x10400000) then dbgEnd 0 x.data s else word s
  | some .scratch =>
    if (s.msys.spWay[(x.addr - 0x00E000000000) / 0x800000]?).isNone then
      dbgEnd 1 0 (hallmark 0x0503 0 (pw debugPort :: pw2 x.addr) (bump pgSC 0x150 1 s))
    else word s
  | some .ddr => dbgDram .ddr x s
  | some .hbm => dbgDram .hbm x s

/-- Update-DR of DBG_ACCESS (R699, R717, R724, R725): above D0, QUENCH in Q; DENIED at D0 and outside the level's scope, which counts and
writes hallmark 0x3003; WAIT for a stopped domain or behind an access that waits. -/
def dbgUpdate (x : DbgAcc) (s : State) : State :=
  if inQ s && decide (dbgLevel s ≠ 0) then dbgEnd 4 0 s
  else if !dbgPermits s x.addr then
    dbgEnd 2 0 (hallmark 0x3003 0 (pw2 x.addr ++ [pw (dbgLevel s)]) (bump pgDBG 0x1A0 1 s))
  else if !s.dbg.waiting.isEmpty || dbgStopped s x.addr then
    dbgEnd 5 0 { s with dbg := { s.dbg with waiting := s.dbg.waiting ++ [x] } }
  else dbgPerform x s

/-- Capture-DR of DBG_ACCESS (R717): STATUS and DATA of the last access are shifted out; what the ADDR bits hold is not stated. -/
def dbgCapture (s : State) : State :=
  let (k, t) := draw (tapScan .dbgAccess .normal s)
  emit (.tap 96 (s.dbg.status * 2 ^ 92 + (Config.free64 k).toNat % 2 ^ 48 * 2 ^ 32 + s.dbg.data.toNat)) t

/-- DBG_ACCESS_READ (R717): OP 0x1. With the rails down the TAP answers IDCODE and BYPASS only (R718). -/
def execDbgAccessRead (addr : Nat) (s : State) : Outcome :=
  .next (if tapUp s then dbgUpdate ⟨false, addr, 0⟩ (dbgCapture s) else s)
/-- DBG_ACCESS_WRITE (R717): OP 0x2. -/
def execDbgAccessWrite (addr : Nat) (data : W32) (s : State) : Outcome :=
  .next (if tapUp s then dbgUpdate ⟨true, addr, data⟩ (dbgCapture s) else s)

/-- The accesses that wait are performed in order as far as their domains run. -/
def dbgResume : Nat → State → State
  | 0, s => s
  | f + 1, s => match s.dbg.waiting with
    | [] => s
    | x :: rest =>
      if dbgStopped s x.addr then dbgEnd 5 0 s else dbgResume f (dbgPerform x { s with dbg := { s.dbg with waiting := rest } })

/-- DEBUG_ACCESS_RESUME (R699): the clock of the access that waits runs again. -/
def execDebugAccessResume (s : State) : Outcome := .next (dbgResume s.dbg.waiting.length s)

end Sys2Proof.Machine
end

