-- ==== Sys2Proof/Machine/Boot.lean ====
section
/-! DEFINITION. Start-up and reset (spec/23_startup_reset.md): supplies, resets, the boot ROM, and memory training (R637, R641). -/

namespace Sys2Proof.Machine

/-! Supplies and resets (R751, R762, R763). -/

/-- POWER_ON_RESET (R665, R729, R751, R762): VIN_AON has risen past 1.55 V; CYCLES is raised by 1. -/
def execPowerOnReset (s : State) : Outcome := .next (powerOnReset s)

/-- VIN_AON_LOSS (R729, R772): nothing is left but the fuses, the counter cells, the quench store, the NOR and flash; HOLD_LOAD_N
releases. -/
def execVinAonLoss (s : State) : Outcome :=
  let t := chipReset rsPOWER_ON { ({ s with regs := [] } : State) with clk := { s.clk with onDieOsc := false } }
  .next { t with aon := ⟨false, false, false, false, false⟩ }

/-- AON_PLL_LOCK (R751): the AON PLL has locked; AON becomes READY with it. -/
def execAonPllLock (s : State) : Outcome :=
  .next (if !s.aon.vinPresent then s
    else
      let s := wrF pgCLK 0x104 dmAON dmAON 1 { s with aon := { s.aon with pllLocked := true } }
      if pgState s pgAON = stSTART ∧ !bit (rd s pgAON 0x044) 5 then pageReady pgAON s else s)

/-- RESET_N_ASSERT (R763): RESET_N low for 2 µs. With dirty grains in a WC that runs a quench starts, and the chip reset follows its end;
else it applies at once. During a quench it takes effect at the quench's end. -/
def execResetNAssert (s : State) : Outcome :=
  .next (if !s.aon.resetN then s
    else
      let t := { s with aon := { s.aon with resetN := false } }
      if inQ s then t
      else if running s pgWC && decide (dirty s ≠ 0) then startQuench qtRESET_N t
      else chipReset rsRESET_PIN t)

/-- CHIP_RESET (R762): for a cause of R756. While a quench runs only a clock loss resets the chip (R336, R703). -/
def execChipReset (cause : Nat) (s : State) : Outcome :=
  .next (if inQ s ∧ cause ≠ rsCLOCK_LOSS then s else chipReset cause s)

/-! Memory training (R637, R641, R646). -/

/-- A channel or a stack is trained and every byte of it is zero: CH_STAT; the lanes a stack repaired where LANE_REPAIR is asked. -/
def trainDone (p gib dimms rate lanes : Nat) (s : State) : State :=
  let h := clsOf p == 0x07
  let s := wrF p 0x108 2 0 (if h then 6 else rate) (wrF p 0x108 5 4 (if h then 0 else dimms) (wrF p 0x108 23 8 gib s))
  let s := if h && bit (rd s p 0x018) 1 then bump p 0x12C lanes s else s
  let r := if h then Region.hbm else Region.ddr
  let s := { s with msys := { s.msys with trained := Tab.put s.msys.trained p (rd s p 0x108 &&& 0xFFFFFF#32) } }
  let gone := fun (a : Nat) => decide (region s a = some r) && memPage s r a == p
  { ({ s with mem := s.mem.filter fun c => !gone c.1 } : State) with msys := { s.msys with
      stale := s.msys.stale.filter fun c => !gone c.1
      poison := s.msys.poison.filter fun b => !gone (b * 64) } }

/-- A channel or stack that fails training: cause 0x80, FAULT (R637). -/
def trainFail (p : Nat) (s : State) : State := fatal p 0x80 0 s

/-- MEMORY_TRAINING_DONE (R637, R641): at the first ENABLE after a chip reset. -/
def execMemoryTrainingDone (page : Nat) (ok : Bool) (gib dimms rate lanes : Nat) (s : State) : Outcome :=
  .next (if pgState s page ≠ stSTART ∨ (Tab.find? s.msys.trained page).isSome then s
    else if ok then pageReady page (trainDone page gib dimms rate lanes s)
    else trainFail page s)

/-! The boot ROM (R753 to R756). -/

/-- Statuses of the boot record (R756). -/
abbrev bsBOOTED : Nat := 0
abbrev bsNO_IMAGE : Nat := 1
abbrev bsBAD_DIMMS : Nat := 2
abbrev bsFUSE_CORRUPT : Nat := 3

/-- The boot record, without its CRC and with it (R756). -/
def bootBody (s : State) (status slot channels us version : Nat) : List Byte :=
  le 4 0x54425844 ++ le 1 s.boot.cause ++ le 1 status ++ le 1 slot ++ le 1 channels ++ le 4 s.cells.cycles.toNat ++
  le 4 s.cells.poh.toNat ++ le 4 (rd s pgCLK 0x128).toNat ++ le 4 us ++ le 8 version ++ List.replicate 28 0#8
def bootRecord (s : State) (status slot channels us version : Nat) : List Byte :=
  let b := bootBody s status slot channels us version
  b ++ le 4 (crc32c b).toNat

/-- The ROM ends with a STATUS and writes the boot record. -/
def romEnd (status slot channels us version : Nat) (s : State) : State :=
  let s := { s with boot := { s.boot with status := status, slot := slot } }
  memWrite 0x10000000 (bootRecord s status slot channels us version) s

/-- The ROM enables a page, asks every offered feature but those in `skip`, and takes it to RUN (R755). -/
def romRun (p : Nat) (skip : W32) (s : State) : State :=
  let s := (List.range 4).foldl (fun s i =>
    wr p (0x018 + 4 * i) (rd s p (0x008 + 4 * i) &&& ~~~(if i = 0 then skip else 0)) s) s
  let s := wrF p 0x040 1 1 1 (startWork p (setState p stSTART (wrF p 0x040 0 0 1 s)))
  pageReady p s

/-- Step 2: a MINT or RETIRE whose pending mark is set is completed (R710); hallmark 0x0102. -/
def romLifecycle (s : State) : State :=
  match s.fuses.pending with
  | some .minted => finish .minted s
  | some .retired => finish .retired s
  | _ => s
where
  finish (to_ : Lc) (s : State) : State :=
    let s := { ({ s with fuses := burnFuses 8 to_ (Config.trng256 s.free) 0 s.fuses } : State) with free := s.free + 1 }
    hallmark 0x0102 0 [pw to_.code] (finishLc to_ s)

/-- Step 3: AON, CLK, TOP, PWR and DBG run; after a clock loss CLK writes hallmark 0x0303 (R703). -/
def romControl (s : State) : State :=
  let d1 : W32 := if ownerLock s then 1 else 0
  let s := romRun pgDBG d1 (romRun pgPWR 0 (romRun pgTOP 0 (romRun pgCLK 0 (romRun pgAON 0 s))))
  if s.boot.cause = rsCLOCK_LOSS ∧ bit (rd s pgCLK 0x128) 31 then hallmark 0x0303 0 [pw (rdF s pgCLK 0x128 3 0)] s else s

/-- The channels that answer are DDR_CH_0 to DDR_CH_n − 1, with n 6, 8 or 12 (R754). -/
def dimmsOk (ns : List Nat) : Bool :=
  (ns.length == 6 || ns.length == 8 || ns.length == 12) && (List.range ns.length).all ns.contains

/-- Step 4: MEM_CFG.CHANNELS, and the SC and every populated MEMD run (R637). -/
def romMemory (n gib dimms rate : Nat) (s : State) : State :=
  let s := romRun pgSC 0 (wrF pgMEMD 0x100 3 0 n s)
  (List.range n).foldl (fun s i => romRun (pgMEMD + i) 0 (trainDone (pgMEMD + i) gib dimms rate 0 s)) s

/-- The slot to boot (R737): PREF when valid; a PREF on trial that has booted twice becomes EMPTY and the other is tried. -/
def romSlot (s : State) : Option Nat × State :=
  let p := s.cells.pref
  let pick := fun (n : Nat) => if imageCode s n = 0 then some n else none
  if slotSt s.cells p = .trial ∧ 2 ≤ trialBoots s.cells p then
    (pick (1 - p), { s with cells := setSlot p .empty s.cells })
  else ((pick p).or (pick (1 - p)), s)

/-- Before its jump the ROM locks what it has configured (R755). -/
def romLocks (s : State) : State :=
  [pgAON, pgTOP, pgPWR, pgDBG, pgFWU, pgCLK].foldl (fun s p => wrF p 0x054 1 0 3 s) s

/-- Steps 5 to 7: the body to LOAD_ADDR, TRIAL_BOOTS, the boot record, the locks, the jump. With no valid slot STATUS NO_IMAGE, and both are
tried again every 10 s (R754). -/
def romBoot (us : Nat) (s : State) : State :=
  let n := rdF s pgMEMD 0x100 3 0
  match romSlot s with
  | (none, s) =>
    let s := romEnd bsNO_IMAGE 0 n us 0 s
    { s with boot := { s.boot with waiting := true } }
  | (some k, s) =>
    let h := imageHeader s k
    let s := memWrite (imLoad h) (imageBody s k) s
    let s := if slotSt s.cells k = .trial then { s with cells := setBoots k (Nat.min 3 (trialBoots s.cells k + 1)) s.cells } else s
    let s := romEnd bsBOOTED k n us (imVersion h) s
    let s := { ({ s with boot := { s.boot with waiting := false } } : State) with fwu := { s.fwu with trialAt := s.time } }
    emit (.coresStart (imLoad h + imEntry h)) (romLocks s)

/-- BOOT_ROM_RUN (R34, R710, R736, R737, R753 to R756): RESET_N is high and the chip reset released. `fuses`: every fuse word passes its check;
`corrected` of them were corrected; `found`: the channels whose SPD answers, alike in capacity, DIMMs and rate; `bad`: those that fail
training, after which the ROM has no memory to go on with; `us`: from the rise of RESET_N to the jump. -/
def execBootRomRun (fuses : Bool) (corrected : Nat) (found bad : List Nat) (gib dimms rate us : Nat) (s : State) : Outcome :=
  .next (if s.boot.due = 0 ∨ !s.aon.pllLocked ∨ s.clk.resetHeld ∨ inQ s then s
    else
      let s := { ({ s with aon := { s.aon with
          rails := true
          resetN := true } } : State) with boot := { s.boot with
          due := 0
          cause := s.boot.due
          untold := true } }
      let s := setIr s.dbg.ir .normal s
      let s := bump pgTOP 0x158 corrected s
      if !fuses then romEnd bsFUSE_CORRUPT 0 0 us 0 (fatal pgTOP 0x80 0 s)
      else
        let s := romControl (romLifecycle s)
        if !dimmsOk found then romEnd bsBAD_DIMMS 0 found.length us 0 s
        else if found.any bad.contains then
          let s := wrF pgMEMD 0x100 3 0 found.length s
          (found.filter bad.contains).foldl (fun s i => trainFail (pgMEMD + i) (setState (pgMEMD + i) stSTART s)) s
        else romBoot us (romRun pgFWU 0 (romMemory found.length gib dimms rate s)))

/-- BOOT_RETRY (R754): both slots are tried again. -/
def execBootRetry (us : Nat) (s : State) : Outcome := .next (if s.boot.waiting then romBoot us s else s)

/-! Ports (R759). -/

/-- PORT_TRAIN_TIMEOUT (R381, R759): an enabled port has not trained within RETRAIN_MS; its module, where the zone table names it, is ejected
once ING is in RUN. -/
def execPortTrainTimeout (port : Nat) (s : State) : Outcome :=
  .next (if !portThere s port ∨ pgState s (pgFLX + port) ≠ stSTART ∨ rdF s (pgFLX + port) 0x108 10 8 ≠ 0 then s
    else if running s pgING then (if tableNames s port then ejectNow port ejPORT_DOWN s else s)
    else { s with pln := { s.pln with late := port :: s.pln.late.filter (· != port) } })

end Sys2Proof.Machine
end

