-- ==== Sys2Proof/Machine/Credits.lean ====
section
/-! DEFINITION. The commands of the credit queues (R51, R52, R700). -/

namespace Sys2Proof.Machine

/-- The KIND, or a reserved bit, of a 64-byte read request is not one of R467's. -/
def requestInvalid (e : List W32) : Bool :=
  let w := fun (i : Nat) => (e.getD i 0).toNat
  !decide (1 ≤ w 0 % 256 ∧ w 0 % 256 ≤ 7) || (w 0).testBit 15 || decide (2 ^ 30 ≤ w 0) || decide (8 ≤ w 7) || decide (2 ^ 16 ≤ w 11) ||
    w 13 != 0

/-- What a consumer checks of an entry as it takes it: a drawplate its read requests (R467). -/
def checkEntry (q : QueueId) (e : List W32) (s : State) : State :=
  if q.row = 15 && requestInvalid e && pgState s q.consumer != stOFF then fatal q.consumer 0x80 0 s else s

/-- QUEUE_ENTRY_ARRIVE (R51): the entry is taken against a credit; without one, or without a free entry, the consumer records
CREDIT_ERROR and enters FAULT. A read request that breaks R467 is REQUEST_INVALID at the drawplate. -/
def execQueueEntryArrive (queue inst : Nat) (entry : List W32) (s : State) : Outcome :=
  let q : QueueId := ⟨queue, inst⟩
  let x := queueOf_ s q
  .next (if !q.there then s
    else if x.credits = 0 ∨ q.depth ≤ x.entries.length then fatal q.consumer cCREDIT_ERROR 0 s
    else checkEntry q (q.fit entry) (queuePut q { x with credits := x.credits - 1, entries := x.entries ++ [q.fit entry] } s))

/-- CREDIT_RETURN (R51): the consumer frees its oldest entry and returns the credit; one beyond the depth is CREDIT_ERROR at the
producer. -/
def execCreditReturn (queue inst : Nat) (s : State) : Outcome :=
  let q : QueueId := ⟨queue, inst⟩
  let x := queueOf_ s q
  .next (if !q.there then s
    else if q.depth ≤ x.credits then fatal q.producer cCREDIT_ERROR 0 s
    else queuePut q { x with credits := x.credits + 1, entries := x.entries.drop 1 } s)

/-- FAR_SIDE_RESET (R52, R614, R700). `stuck`: the flush does not complete. -/
def execFarSideReset (queue inst : Nat) (consumerSide stuck : Bool) (s : State) : Outcome :=
  let q : QueueId := ⟨queue, inst⟩
  .next (if !q.there || !q.crosses then s else farReset q (q.survivor consumerSide) stuck s)

/-- CROSSING_FLUSH_TIMEOUT (R52, R700): a flush still under way after 4,096 cycles in which both clocks ran. -/
def execCrossingFlushTimeout (queue inst : Nat) (consumerSide : Bool) (s : State) : Outcome :=
  let q : QueueId := ⟨queue, inst⟩
  let p := q.survivor consumerSide
  .next (if q.there && q.flushing s p && q.clocked s then fatal p cCROSSING_BROKEN 0 s else s)

end Sys2Proof.Machine
end

