-- ==== Sys2Proof/Machine/Occurrence.lean ====
section
/-! DEFINITION. Failures that a block finds by its own checks: a page's fatal causes (R37 and each block's own rule), a unit taken out
of service (R206, R232, R246, R301), and a lost word of the quench store (R349). They reach the model as the occurrence of the event
or the hallmark that reports them. -/

namespace Sys2Proof.Machine

/-- The fatal causes of a class that a check inside the block raises: those common to every page (R37), and its own (R157, R200,
R236, R266, R305, R346, R402, R453, R457, R478, R534, R537, R564, R600, R617, R661, R685). -/
def checkCauses (cls : Nat) : List Nat :=
  [cINTERNAL_PARITY, cMEMORY_UNCORR] ++
  match cls with
  | 0x01 | 0x04 | 0x09 | 0x10 | 0x11 | 0x18 | 0x19 | 0x1A | 0x1B | 0x20 | 0x28 => [0x80]
  | 0x12 => [0x82]
  | 0x13 | 0x14 | 0x15 | 0x21 => [0x80, 0x81]
  | 0x17 => [0x80, 0x81, 0x82]
  | 0x22 => [0x81]
  | _ => []

/-- The FAULT event of a page that is at work, with a cause of its own checks. -/
def checkFails (s : State) (page line : Nat) (info : W32) : Bool :=
  line == 0 && pgState s page != stOFF && pgState s page != stFAULT && (checkCauses (clsOf page)).contains (bits info 7 0)

/-- The lines of a class beside FAULT and FEAT_REFUSED (R649). -/
def blockLines (cls : Nat) : List Nat :=
  match cls with
  | 0x10 | 0x13 | 0x14 | 0x19 | 0x06 => [2]
  | 0x11 | 0x1A | 0x28 => [2, 3]
  | 0x17 | 0x22 | 0x05 => [2, 3, 4]
  | 0x15 | 0x16 => [2, 3, 4, 5]
  | _ => []

/-- The line of a page is one that the table of R649 lists; no other is ever raised. -/
def lineListed (page line : Nat) : Bool := decide (line < 2) || (blockLines (clsOf page)).contains line

/-- EVENT_OCCURRENCE (R649, R651). The FAULT event of a page whose own check fails is raised by its entry into FAULT (R46, R47); its INFO
is the PG_FAULT that the entry leaves, which names the cause. -/
def execEventOccurrence (page line : Nat) (info : W32) (s : State) : Outcome :=
  .next (if !lineListed page line then s
    else if checkFails s page line info then fatal page (bits info 7 0) (bits info 19 8) s
    else event page line info s)

/-! A unit that is taken out of service. -/

/-- What a general lane of Assay held when its check failed: the descriptor ends with INTERNAL and its message is abandoned (R232). -/
def laneHeld (lane : Nat) (s : State) : State :=
  match List.find? (fun (e : Nat × AOpen) => e.2.lane == some lane) s.asy.opened with
  | none => s
  | some (n, o) =>
    match o.part with
    | some (d, idx, c) =>
      abandonOpen n false (endDsc n lane
        (asyRec d idx stsINTERNAL c 0 o.msg.count (asyInfo 0 0 (algOf o.msg.alg).digest)) (undefOut (asyOut d) s))
    | none => abandonOpen n false s

/-- What a general unit of Tinning held: its descriptor ends with INTERNAL (R301). -/
def unitHeld (unit : Nat) (s : State) : State :=
  match (List.range 16).find? (fun n => (rgOf s pgTIN n).lane == some unit && (rgOf s pgTIN n).cur.isSome) with
  | none => s
  | some n =>
    match (rgOf s pgTIN n).cur with
    | none => s
    | some (d, idx) =>
      let s := dropReq unit s
      tinEnd n unit (tinRec d idx stsINTERNAL 0 0 0 0)
        (undefOut [(d.dst, if opCipher d.opcode then d.dstLen else 0)] (bump pgTIN 0x184 1 s))

/-- A unit bound to a forge (0 to 15) or a drawplate (16 to 31) is out: UNIT_FAULT on its block (R200, R472). -/
def boundFault (unit : Nat) (s : State) : State :=
  if unit < 16 then fatal (pgFRG + unit) 0x82 0 s else fatal (pgDRP + (unit - 16)) 0x81 0 s

/-- Set bit `k` of a register. -/
def markOut (p off k : Nat) (s : State) : State := wrF p off k k 1 s

/-- A unit is taken out of service, as the hallmark that says so names it. -/
def unitOut (code unit : Nat) (s : State) : State :=
  match code with
  | 0x1301 => if 16 ≤ unit ∧ unit < 20 then markOut pgASY 0x100 (unit - 8) (laneHeld unit s) else s
  | 0x1304 => if unit < 16 then boundFault unit (markOut pgASY 0x100 (16 + unit) s) else s
  | 0x1401 =>
    if unit < 32 then boundFault unit (markOut pgCRU 0x104 unit s)
    else if unit < 34 then markOut pgCRU 0x108 (unit - 24) s else s
  | 0x1505 =>
    if unit < 32 then boundFault unit (markOut pgTIN 0x100 unit s)
    else if unit < 36 then markOut pgTIN 0x104 (unit - 24) s
    else if unit < 38 then markOut pgTIN 0x104 (unit - 32) (unitHeld unit s) else s
  | _ => s

/-- The two CRC-32C values of a drawplate's path disagree (R469): the failure counts in CRC_FAIL; the grain of that body is reconstructed,
or, rebuilt already, fails (R471, R473). -/
def pathCrc (n : Nat) (g : W64) (s : State) : State :=
  match s.drp.reqs.find? fun r => r.drp == n && r.entry.gloc == g with
  | none => s
  | some r =>
    let s := bump (pgDRP + n) 0x14C 1 s
    match r.recon with
    | none => startRecon n r rcCRC s
    | some cause => grainLost n r 0x0B (reconEnd n r cause 2 s)

/-- HALLMARK_OCCURRENCE (R673): with a unit's failure, a path's CRC failure (R469), or an uncorrectable word of the quench store (R349), the failure itself. -/
def execHallmarkOccurrence (code inst : Nat) (payload : List W32) (s : State) : Outcome :=
  let w := fun (i : Nat) => ((payload[i]?).getD 0).toNat
  let s := if code = 0x1203 ∧ inst < 16 then pathCrc inst (BitVec.ofNat 64 (w 0 + 2 ^ 32 * w 1)) s else unitOut code (w 0) s
  .next (hallmark code inst payload (if code = 0x0806 then bump pgQST 0x124 1 s else s))

end Sys2Proof.Machine
end

