-- ==== Sys2Proof/Machine/Pins.lean ====
section
/-! DEFINITION. SerDes lanes and the always-on supply (spec/24_pins_electrical.md, R779 to R782). -/

namespace Sys2Proof.Machine

/-- SERDES_LANE_LOCK_LOSS (R780, R782): a lane of a flash or network octet loses clock lock: LOCK_LOSS, hallmark 0x2401. -/
def execSerdesLaneLockLoss (octet lane : Nat) (s : State) : Outcome :=
  let l := octet * 8 + lane
  .next (if srdUse s octet ≤ 1 ∧ laneRuns s octet ∧ !s.srd.lost.contains l then
      hallmark 0x2401 octet [pw octet, pw lane, pw (srdUse s octet)] (bump (pgSRD + octet) 0x124 1
        { s with srd := { s.srd with lost := l :: s.srd.lost } })
    else s)

/-- SERDES_LANE_PLL_LOST (R779): cause 0x80, fatal. -/
def execSerdesLanePllLost (octet : Nat) (s : State) : Outcome :=
  let p := pgSRD + octet
  .next (if pgState s p = stOFF ∨ pgState s p = stFAULT then s else octetDown octet (fatal p 0x80 0 s))

/-- VIN_AON_LOW (R781, R782): VIN_MV is measured; below 1,600 mV hallmark 0x0203. -/
def execVinAonLow (mv : Nat) (s : State) : Outcome :=
  .next (if !alive s pgAON then s
    else
      let s := wrF pgAON 0x104 12 0 mv s
      if mv < 1600 then hallmark 0x0203 0 [pw mv] s else s)

end Sys2Proof.Machine
end

