-- ==== Sys2Proof/Machine/Dispatch.lean ====
section
/-! DEFINITION. The dispatcher: one arm per command, each one direct call of its meaning. -/

namespace Sys2Proof.Machine

/-- The effect of a command on everything but the queue. -/
def exec (i : Instr) (s : State) : Host.Outcome State Fault Refusal :=
  match i with
  | .csrRegisterWrite master page off value => Sys2Proof.Machine.execCsrRegisterWrite master page off value s
  | .csrNarrowAccess master page off size write => Sys2Proof.Machine.execCsrNarrowAccess master page off size write s
  | .csrUndefinedOffsetAccess master page off write => Sys2Proof.Machine.execCsrUndefinedOffsetAccess master page off write s
  | .csrAbsentPageAccess master page off write => Sys2Proof.Machine.execCsrAbsentPageAccess master page off write s
  | .lowWordRead master page off => Sys2Proof.Machine.execLowWordRead master page off s
  | .lowWordWrite master page off value => Sys2Proof.Machine.execLowWordWrite master page off value s
  | .highWordWrite master page off value => Sys2Proof.Machine.execHighWordWrite master page off value s
  | .readClearCounterRead master page off => Sys2Proof.Machine.execReadClearCounterRead master page off s
  | .clkStoppedTimeout master page off => Sys2Proof.Machine.execClkStoppedTimeout master page off s
  | .pgEnable page value => Sys2Proof.Machine.execPgEnable page value s
  | .pgDisable page value => Sys2Proof.Machine.execPgDisable page value s
  | .runReq page value => Sys2Proof.Machine.execRunReq page value s
  | .pageReady page => Sys2Proof.Machine.execPageReady page s
  | .quiesceSet page value => Sys2Proof.Machine.execQuiesceSet page value s
  | .quiesceClear page value => Sys2Proof.Machine.execQuiesceClear page value s
  | .pageDrainComplete page => Sys2Proof.Machine.execPageDrainComplete page s
  | .disableBoundExpiry page => Sys2Proof.Machine.execDisableBoundExpiry page s
  | .softReset page value => Sys2Proof.Machine.execSoftReset page value s
  | .softResetComplete page => Sys2Proof.Machine.execSoftResetComplete page s
  | .faultClr page value => Sys2Proof.Machine.execFaultClr page value s
  | .featAskWrite page idx value => Sys2Proof.Machine.execFeatAskWrite page idx value s
  | .pgEvrouteWrite page value => Sys2Proof.Machine.execPgEvrouteWrite page value s
  | .pgLockWrite page value => Sys2Proof.Machine.execPgLockWrite page value s
  | .queueEntryArrive queue inst entry => Sys2Proof.Machine.execQueueEntryArrive queue inst entry s
  | .creditReturn queue inst => Sys2Proof.Machine.execCreditReturn queue inst s
  | .farSideReset queue inst consumerSide stuck => Sys2Proof.Machine.execFarSideReset queue inst consumerSide stuck s
  | .crossingFlushTimeout queue inst consumerSide => Sys2Proof.Machine.execCrossingFlushTimeout queue inst consumerSide s
  | .engineDoorbell page ring value => Sys2Proof.Machine.execEngineDoorbell page ring value s
  | .engineCompletionWrite page ring => Sys2Proof.Machine.execEngineCompletionWrite page ring s
  | .epochTimerExpiry => Sys2Proof.Machine.execEpochTimerExpiry s
  | .closeNow value => Sys2Proof.Machine.execCloseNow value s
  | .epClose epoch => Sys2Proof.Machine.execEpClose epoch s
  | .epAsk epoch => Sys2Proof.Machine.execEpAsk epoch s
  | .epochDrainStart => Sys2Proof.Machine.execEpochDrainStart s
  | .epochDrainEnd ns => Sys2Proof.Machine.execEpochDrainEnd ns s
  | .epDrained epoch => Sys2Proof.Machine.execEpDrained epoch s
  | .epochCommitRecord => Sys2Proof.Machine.execEpochCommitRecord s
  | .epCommit epoch record => Sys2Proof.Machine.execEpCommit epoch record s
  | .epCommitAck epoch => Sys2Proof.Machine.execEpCommitAck epoch s
  | .ldgItemAccept => Sys2Proof.Machine.execLdgItemAccept s
  | .deallocateApply => Sys2Proof.Machine.execDeallocateApply s
  | .checkpointComplete => Sys2Proof.Machine.execCheckpointComplete s
  | .twinMismatch beat => Sys2Proof.Machine.execTwinMismatch beat s
  | .judgeSelfCheckDone aPass bPass us => Sys2Proof.Machine.execJudgeSelfCheckDone aPass bPass us s
  | .repairA value => Sys2Proof.Machine.execRepairA value s
  | .repairB value => Sys2Proof.Machine.execRepairB value s
  | .repairSelfCheckDone pass => Sys2Proof.Machine.execRepairSelfCheckDone pass s
  | .snapArm value => Sys2Proof.Machine.execSnapArm value s
  | .snapTake value => Sys2Proof.Machine.execSnapTake value s
  | .snapDelete value => Sys2Proof.Machine.execSnapDelete value s
  | .snapClone value => Sys2Proof.Machine.execSnapClone value s
  | .snapDisarmAll value => Sys2Proof.Machine.execSnapDisarmAll value s
  | .slagEntryRead master => Sys2Proof.Machine.execSlagEntryRead master s
  | .ldgReplay other => Sys2Proof.Machine.execLdgReplay other s
  | .replayDone => Sys2Proof.Machine.execReplayDone s
  | .capsuleArrival qp sqe icd => Sys2Proof.Machine.execCapsuleArrival qp sqe icd s
  | .nvmeFlush qp cid => Sys2Proof.Machine.execNvmeFlush qp cid s
  | .nvmeWrite qp cid => Sys2Proof.Machine.execNvmeWrite qp cid s
  | .nvmeRead qp cid => Sys2Proof.Machine.execNvmeRead qp cid s
  | .nvmeCompare qp cid => Sys2Proof.Machine.execNvmeCompare qp cid s
  | .nvmeWriteZeroes qp cid => Sys2Proof.Machine.execNvmeWriteZeroes qp cid s
  | .nvmeDatasetManagement qp cid => Sys2Proof.Machine.execNvmeDatasetManagement qp cid s
  | .nvmeVerify qp cid => Sys2Proof.Machine.execNvmeVerify qp cid s
  | .invalidOpcode qp cid => Sys2Proof.Machine.execInvalidOpcode qp cid s
  | .fabricsConnect qp cid => Sys2Proof.Machine.execFabricsConnect qp cid s
  | .propertyGet qp cid => Sys2Proof.Machine.execPropertyGet qp cid s
  | .propertySet qp cid => Sys2Proof.Machine.execPropertySet qp cid s
  | .fabricsDisconnect qp cid => Sys2Proof.Machine.execFabricsDisconnect qp cid s
  | .getLogPage qp cid => Sys2Proof.Machine.execGetLogPage qp cid s
  | .identify qp cid => Sys2Proof.Machine.execIdentify qp cid s
  | .nvmeAbort qp cid => Sys2Proof.Machine.execNvmeAbort qp cid s
  | .setFeatures qp cid => Sys2Proof.Machine.execSetFeatures qp cid s
  | .getFeatures qp cid => Sys2Proof.Machine.execGetFeatures qp cid s
  | .asynchronousEventRequest qp cid => Sys2Proof.Machine.execAsynchronousEventRequest qp cid s
  | .keepAlive qp cid => Sys2Proof.Machine.execKeepAlive qp cid s
  | .adminReply value => Sys2Proof.Machine.execAdminReply value s
  | .writeDataLanded qp cid => Sys2Proof.Machine.execWriteDataLanded qp cid s
  | .katoExpiry ctrl => Sys2Proof.Machine.execKatoExpiry ctrl s
  | .hqHoldWrite value => Sys2Proof.Machine.execHqHoldWrite value s
  | .holdExpiry => Sys2Proof.Machine.execHoldExpiry s
  | .qosBucketRefill => Sys2Proof.Machine.execQosBucketRefill s
  | .qosWindowEnd => Sys2Proof.Machine.execQosWindowEnd s
  | .qosMinWrite value => Sys2Proof.Machine.execQosMinWrite value s
  | .nsCfgWrite value => Sys2Proof.Machine.execNsCfgWrite value s
  | .powerExitComplete => Sys2Proof.Machine.execPowerExitComplete s
  | .forgeHandle forge handle => Sys2Proof.Machine.execForgeHandle forge handle s
  | .grainIntakeDone forge seq uncorr => Sys2Proof.Machine.execGrainIntakeDone forge seq uncorr s
  | .grainRefetchData forge seq => Sys2Proof.Machine.execGrainRefetchData forge seq s
  | .refetchTimeout forge seq => Sys2Proof.Machine.execRefetchTimeout forge seq s
  | .lookupAnswer forge seq => Sys2Proof.Machine.execLookupAnswer forge seq s
  | .pendingTimeout forge seq => Sys2Proof.Machine.execPendingTimeout forge seq s
  | .indexPageFetchDone page => Sys2Proof.Machine.execIndexPageFetchDone page s
  | .lookupBudgetExpiry forge seq => Sys2Proof.Machine.execLookupBudgetExpiry forge seq s
  | .sealDone forge seq => Sys2Proof.Machine.execSealDone forge seq s
  | .keyWaitRetry forge => Sys2Proof.Machine.execKeyWaitRetry forge s
  | .billetGrant holder => Sys2Proof.Machine.execBilletGrant holder s
  | .verifyPlaintext forge seq => Sys2Proof.Machine.execVerifyPlaintext forge seq s
  | .verifyTimeout forge seq => Sys2Proof.Machine.execVerifyTimeout forge seq s
  | .handInBody forge => Sys2Proof.Machine.execHandInBody forge s
  | .handInRef forge => Sys2Proof.Machine.execHandInRef forge s
  | .handInZero forge => Sys2Proof.Machine.execHandInZero forge s
  | .handInSlag forge => Sys2Proof.Machine.execHandInSlag forge s
  | .handInCull forge => Sys2Proof.Machine.execHandInCull forge s
  | .fltClear value => Sys2Proof.Machine.execFltClear value s
  | .domCfgWrite value => Sys2Proof.Machine.execDomCfgWrite value s
  | .asyHash ring lane bytes ok => Sys2Proof.Machine.execAsyHash ring lane bytes ok s
  | .asyHmac ring lane bytes ok => Sys2Proof.Machine.execAsyHmac ring lane bytes ok s
  | .asyHashCmp ring lane bytes ok odd => Sys2Proof.Machine.execAsyHashCmp ring lane bytes ok odd s
  | .asyHmacCmp ring lane bytes ok odd => Sys2Proof.Machine.execAsyHmacCmp ring lane bytes ok odd s
  | .asyCtxExport ring lane ok => Sys2Proof.Machine.execAsyCtxExport ring lane ok s
  | .asyCtxImport ring lane ok => Sys2Proof.Machine.execAsyCtxImport ring lane ok s
  | .asyCtxClear ring lane ok => Sys2Proof.Machine.execAsyCtxClear ring lane ok s
  | .asyPreemptSave ring => Sys2Proof.Machine.execAsyPreemptSave ring s
  | .glaneRestore value pass => Sys2Proof.Machine.execGlaneRestore value pass s
  | .resSeqRead master lane => Sys2Proof.Machine.execResSeqRead master lane s
  | .ringDisable page ring value => Sys2Proof.Machine.execRingDisable page ring value s
  | .cruCompress ring unit checkOk badAt => Sys2Proof.Machine.execCruCompress ring unit checkOk badAt s
  | .cruDecompress ring unit => Sys2Proof.Machine.execCruDecompress ring unit s
  | .cruCtxClear ring unit => Sys2Proof.Machine.execCruCtxClear ring unit s
  | .gunitRestore value pass => Sys2Proof.Machine.execGunitRestore value pass s
  | .gcmSeal ring unit ok => Sys2Proof.Machine.execGcmSeal ring unit ok s
  | .gcmOpen ring unit ok => Sys2Proof.Machine.execGcmOpen ring unit ok s
  | .xtsEnc ring unit ok => Sys2Proof.Machine.execXtsEnc ring unit ok s
  | .xtsDec ring unit ok => Sys2Proof.Machine.execXtsDec ring unit ok s
  | .keyLoad ring unit ok => Sys2Proof.Machine.execKeyLoad ring unit ok s
  | .keyErase ring unit ok => Sys2Proof.Machine.execKeyErase ring unit ok s
  | .keygenInstall value => Sys2Proof.Machine.execKeygenInstall value s
  | .keygenRetire value => Sys2Proof.Machine.execKeygenRetire value s
  | .keygenEffect => Sys2Proof.Machine.execKeygenEffect s
  | .keygen dom gen retire last straddle keyId first => Sys2Proof.Machine.execKeygen dom gen retire last straddle keyId first s
  | .useGrant slot unit uses => Sys2Proof.Machine.execUseGrant slot unit uses s
  | .ceilingWriteDone slot => Sys2Proof.Machine.execCeilingWriteDone slot s
  | .tinUnitRestore value pass => Sys2Proof.Machine.execTinUnitRestore value pass s
  | .slotLandingDone slot => Sys2Proof.Machine.execSlotLandingDone slot s
  | .mirGrain slot header data uncorrectable => Sys2Proof.Machine.execMirGrain slot header data uncorrectable s
  | .mirAck slot => Sys2Proof.Machine.execMirAck slot s
  | .mirNak slot cause => Sys2Proof.Machine.execMirNak slot cause s
  | .mirrorTimeout slot => Sys2Proof.Machine.execMirrorTimeout slot s
  | .slotReady slot => Sys2Proof.Machine.execSlotReady slot s
  | .mirStamp epoch slots => Sys2Proof.Machine.execMirStamp epoch slots s
  | .mirRelease slots => Sys2Proof.Machine.execMirRelease slots s
  | .mirFree epoch => Sys2Proof.Machine.execMirFree epoch s
  | .mirHold h share => Sys2Proof.Machine.execMirHold h share s
  | .mirQuench => Sys2Proof.Machine.execMirQuench s
  | .writeThroughDone slot => Sys2Proof.Machine.execWriteThroughDone slot s
  | .mirrorResume value => Sys2Proof.Machine.execMirrorResume value s
  | .overBudgetCloseTick => Sys2Proof.Machine.execOverBudgetCloseTick s
  | .holdSenseSample code => Sys2Proof.Machine.execHoldSenseSample code s
  | .holdEnergyRecompute => Sys2Proof.Machine.execHoldEnergyRecompute s
  | .holdTestStart => Sys2Proof.Machine.execHoldTestStart s
  | .testNow value => Sys2Proof.Machine.execTestNow value s
  | .holdTestEnd droopUv => Sys2Proof.Machine.execHoldTestEnd droopUv s
  | .holdTrip uv => Sys2Proof.Machine.execHoldTrip uv s
  | .adoptionComplete => Sys2Proof.Machine.execAdoptionComplete s
  | .catchupDone => Sys2Proof.Machine.execCatchupDone s
  | .pwrfailNLow => Sys2Proof.Machine.execPwrfailNLow s
  | .quenchStart trigger => Sys2Proof.Machine.execQuenchStart trigger s
  | .quenchDirDone => Sys2Proof.Machine.execQuenchDirDone s
  | .quenchDataDone lost => Sys2Proof.Machine.execQuenchDataDone lost s
  | .quenchRailRelease vinHolds => Sys2Proof.Machine.execQuenchRailRelease vinHolds s
  | .restoreLoad => Sys2Proof.Machine.execRestoreLoad s
  | .restoreDone => Sys2Proof.Machine.execRestoreDone s
  | .castStart ingot => Sys2Proof.Machine.execCastStart ingot s
  | .sjEntry slot entry => Sys2Proof.Machine.execSjEntry slot entry s
  | .sjMark slot mark => Sys2Proof.Machine.execSjMark slot mark s
  | .ljRecord jseq record => Sys2Proof.Machine.execLjRecord jseq record s
  | .jAck kind arg => Sys2Proof.Machine.execJAck kind arg s
  | .journalAckTimeout jseq => Sys2Proof.Machine.execJournalAckTimeout jseq s
  | .memberAppendDone ingot member lba => Sys2Proof.Machine.execMemberAppendDone ingot member lba s
  | .appendFail ingot member => Sys2Proof.Machine.execAppendFail ingot member s
  | .amendRetryTick => Sys2Proof.Machine.execAmendRetryTick s
  | .journalResolve mirror wps => Sys2Proof.Machine.execJournalResolve mirror wps s
  | .detourExpiry drp a b grain => Sys2Proof.Machine.execDetourExpiry drp a b grain s
  | .ejectTimeout module => Sys2Proof.Machine.execEjectTimeout module s
  | .modEject value => Sys2Proof.Machine.execModEject value s
  | .deferredEject module => Sys2Proof.Machine.execDeferredEject module s
  | .rebuildScan => Sys2Proof.Machine.execRebuildScan s
  | .rebuildStart => Sys2Proof.Machine.execRebuildStart s
  | .rebuildDecodeDone ingot answers => Sys2Proof.Machine.execRebuildDecodeDone ingot answers s
  | .rebuildAppendsDone ingot => Sys2Proof.Machine.execRebuildAppendsDone ingot s
  | .rebuildBucketRefill => Sys2Proof.Machine.execRebuildBucketRefill s
  | .sweepPassStart => Sys2Proof.Machine.execSweepPassStart s
  | .sweepPassEnd => Sys2Proof.Machine.execSweepPassEnd s
  | .moduleLinkUp port rate width ltssm ident => Sys2Proof.Machine.execModuleLinkUp port rate width ltssm ident s
  | .moduleAdmit value => Sys2Proof.Machine.execModuleAdmit value s
  | .moduleRetire value => Sys2Proof.Machine.execModuleRetire value s
  | .presenceLost port => Sys2Proof.Machine.execPresenceLost port s
  | .retrainTimeout port => Sys2Proof.Machine.execRetrainTimeout port s
  | .sidebandPoll port present power temp => Sys2Proof.Machine.execSidebandPoll port present power temp s
  | .healthPoll module offline worn smart => Sys2Proof.Machine.execHealthPoll module offline worn smart s
  | .chunkGrant ingot => Sys2Proof.Machine.execChunkGrant ingot s
  | .zoneResetDone module zone ok => Sys2Proof.Machine.execZoneResetDone module zone ok s
  | .zoneReturn zone => Sys2Proof.Machine.execZoneReturn zone s
  | .anlWorkSelect => Sys2Proof.Machine.execAnlWorkSelect s
  | .relocationClaim ingot => Sys2Proof.Machine.execRelocationClaim ingot s
  | .relocationCopy drp ingot gloc body => Sys2Proof.Machine.execRelocationCopy drp ingot gloc body s
  | .memberMove ingot member data => Sys2Proof.Machine.execMemberMove ingot member data s
  | .anlBucketRefill => Sys2Proof.Machine.execAnlBucketRefill s
  | .rekeyStart value => Sys2Proof.Machine.execRekeyStart value s
  | .rekeyDone => Sys2Proof.Machine.execRekeyDone s
  | .spineRead dst pid copies => Sys2Proof.Machine.execSpineRead dst pid copies s
  | .startupReconcile mirror wps => Sys2Proof.Machine.execStartupReconcile mirror wps s
  | .nvmeCommandCompletion module op zone ok => Sys2Proof.Machine.execNvmeCommandCompletion module op zone ok s
  | .reservationRegister port held peer => Sys2Proof.Machine.execReservationRegister port held peer s
  | .hostRead drp qp cid grain => Sys2Proof.Machine.execHostRead drp qp cid grain s
  | .hostVerify drp qp cid grain => Sys2Proof.Machine.execHostVerify drp qp cid grain s
  | .hostCompare drp qp cid grain => Sys2Proof.Machine.execHostCompare drp qp cid grain s
  | .fill slot data pi => Sys2Proof.Machine.execFill slot data pi s
  | .verifyHit forge seq => Sys2Proof.Machine.execVerifyHit forge seq s
  | .page drp dst pid loc body again => Sys2Proof.Machine.execPage drp dst pid loc body again s
  | .reseal drp group body => Sys2Proof.Machine.execReseal drp group body s
  | .memberReadDone drp a b grain rows => Sys2Proof.Machine.execMemberReadDone drp a b grain rows s
  | .reconstructReadsDone drp a b grain answers => Sys2Proof.Machine.execReconstructReadsDone drp a b grain answers s
  | .readLimitExpiry qp cid grain => Sys2Proof.Machine.execReadLimitExpiry qp cid grain s
  | .rcFilterClear => Sys2Proof.Machine.execRcFilterClear s
  | .rcClear value => Sys2Proof.Machine.execRcClear value s
  | .netModeWrite value => Sys2Proof.Machine.execNetModeWrite value s
  | .frameReceive port f => Sys2Proof.Machine.execFrameReceive port f s
  | .excTxSend value => Sys2Proof.Machine.execExcTxSend value s
  | .pfcXoffRefresh port prio => Sys2Proof.Machine.execPfcXoffRefresh port prio s
  | .pauseReceive port prio quanta => Sys2Proof.Machine.execPauseReceive port prio quanta s
  | .pauseExpiry port prio => Sys2Proof.Machine.execPauseExpiry port prio s
  | .pfcStormEntry port prio => Sys2Proof.Machine.execPfcStormEntry port prio s
  | .pfcStormExit port prio => Sys2Proof.Machine.execPfcStormExit port prio s
  | .temperRise qp => Sys2Proof.Machine.execTemperRise qp s
  | .cnp port p => Sys2Proof.Machine.execCnp port p s
  | .roceSend port p => Sys2Proof.Machine.execRoceSend port p s
  | .rdmaWrite port p => Sys2Proof.Machine.execRdmaWrite port p s
  | .rdmaReadRequest port p => Sys2Proof.Machine.execRdmaReadRequest port p s
  | .rdmaReadResponse port p => Sys2Proof.Machine.execRdmaReadResponse port p s
  | .roceAck port p => Sys2Proof.Machine.execRoceAck port p s
  | .rnrNak port p => Sys2Proof.Machine.execRnrNak port p s
  | .compareAndSwap port p => Sys2Proof.Machine.execCompareAndSwap port p s
  | .fetchAndAdd port p => Sys2Proof.Machine.execFetchAndAdd port p s
  | .spWrite port p => Sys2Proof.Machine.execSpWrite port p s
  | .spSend port p => Sys2Proof.Machine.execSpSend port p s
  | .spReadResp port p => Sys2Proof.Machine.execSpReadResp port p s
  | .spNak port p => Sys2Proof.Machine.execSpNak port p s
  | .spGapExpiry qp msgId => Sys2Proof.Machine.execSpGapExpiry qp msgId s
  | .retransmitTimeout qp => Sys2Proof.Machine.execRetransmitTimeout qp s
  | .ctxFetchDone qp uncorrectable => Sys2Proof.Machine.execCtxFetchDone qp uncorrectable s
  | .qpInit value => Sys2Proof.Machine.execQpInit value s
  | .qpRtr value => Sys2Proof.Machine.execQpRtr value s
  | .qpRts value => Sys2Proof.Machine.execQpRts value s
  | .qpError qp cause => Sys2Proof.Machine.execQpError qp cause s
  | .qpReset value => Sys2Proof.Machine.execQpReset value s
  | .qpQuery value => Sys2Proof.Machine.execQpQuery value s
  | .qpTest value => Sys2Proof.Machine.execQpTest value s
  | .winOpen value => Sys2Proof.Machine.execWinOpen value s
  | .winRevoke value => Sys2Proof.Machine.execWinRevoke value s
  | .revokeDrained win => Sys2Proof.Machine.execRevokeDrained win s
  | .grpStart value => Sys2Proof.Machine.execGrpStart value s
  | .grpShipNow value => Sys2Proof.Machine.execGrpShipNow value s
  | .grpResume value => Sys2Proof.Machine.execGrpResume value s
  | .grpStop value => Sys2Proof.Machine.execGrpStop value s
  | .grpFull value => Sys2Proof.Machine.execGrpFull value s
  | .grpNsAdd value => Sys2Proof.Machine.execGrpNsAdd value s
  | .grpNsRemove value => Sys2Proof.Machine.execGrpNsRemove value s
  | .deltaStart group => Sys2Proof.Machine.execDeltaStart group s
  | .shipTimer group => Sys2Proof.Machine.execShipTimer group s
  | .segmentSealed group => Sys2Proof.Machine.execSegmentSealed group s
  | .segmentWriteAck group => Sys2Proof.Machine.execSegmentWriteAck group s
  | .publishResult group => Sys2Proof.Machine.execPublishResult group s
  | .controlPoll group => Sys2Proof.Machine.execControlPoll group s
  | .segmentApply group => Sys2Proof.Machine.execSegmentApply group s
  | .segmentApplied group => Sys2Proof.Machine.execSegmentApplied group s
  | .leaseRenew group => Sys2Proof.Machine.execLeaseRenew group s
  | .leaseCheck group => Sys2Proof.Machine.execLeaseCheck group s
  | .flitReceive flit corrected fecFailed => Sys2Proof.Machine.execFlitReceive flit corrected fecFailed s
  | .alignFlit => Sys2Proof.Machine.execAlignFlit s
  | .nak fseq => Sys2Proof.Machine.execNak fseq s
  | .ackTimer => Sys2Proof.Machine.execAckTimer s
  | .retryTimeout => Sys2Proof.Machine.execRetryTimeout s
  | .laneLock lanes => Sys2Proof.Machine.execLaneLock lanes s
  | .helloTimer => Sys2Proof.Machine.execHelloTimer s
  | .hello record => Sys2Proof.Machine.execHello record s
  | .retrain value => Sys2Proof.Machine.execRetrain value s
  | .laneFail lanes => Sys2Proof.Machine.execLaneFail lanes s
  | .narrow width lanes => Sys2Proof.Machine.execNarrow width lanes s
  | .linkWiden lanes => Sys2Proof.Machine.execLinkWiden lanes s
  | .dropMsg cause => Sys2Proof.Machine.execDropMsg cause s
  | .noFlitTimeout => Sys2Proof.Machine.execNoFlitTimeout s
  | .fetchSlot slot readable => Sys2Proof.Machine.execFetchSlot slot readable s
  | .slotData slot header data => Sys2Proof.Machine.execSlotData slot header data s
  | .fetchLj jseq count => Sys2Proof.Machine.execFetchLj jseq count s
  | .ljData jseq data => Sys2Proof.Machine.execLjData jseq data s
  | .fetchSj slot => Sys2Proof.Machine.execFetchSj slot s
  | .sjData slot entry => Sys2Proof.Machine.execSjData slot entry s
  | .fetchNak mtype arg => Sys2Proof.Machine.execFetchNak mtype arg s
  | .handoverOffer value => Sys2Proof.Machine.execHandoverOffer value s
  | .handoverAccept value => Sys2Proof.Machine.execHandoverAccept value s
  | .handover ns => Sys2Proof.Machine.execHandover ns s
  | .handoverAck ns epoch => Sys2Proof.Machine.execHandoverAck ns epoch s
  | .handoverNak ns => Sys2Proof.Machine.execHandoverNak ns s
  | .stepDownMessage => Sys2Proof.Machine.execStepDownMessage s
  | .heartbeatTimer => Sys2Proof.Machine.execHeartbeatTimer s
  | .heartbeat alive => Sys2Proof.Machine.execHeartbeat alive s
  | .hbMissed => Sys2Proof.Machine.execHbMissed s
  | .hbKick value => Sys2Proof.Machine.execHbKick value s
  | .hbKickTimeout => Sys2Proof.Machine.execHbKickTimeout s
  | .fenceDelayExpiry => Sys2Proof.Machine.execFenceDelayExpiry s
  | .arbiterPreemptDone ok => Sys2Proof.Machine.execArbiterPreemptDone ok s
  | .fencePreemptsDone => Sys2Proof.Machine.execFencePreemptsDone s
  | .take value => Sys2Proof.Machine.execTake value s
  | .force value => Sys2Proof.Machine.execForce value s
  | .takeCmdStepDown value => Sys2Proof.Machine.execTakeCmdStepDown value s
  | .cvuMessage unit bytes => Sys2Proof.Machine.execCvuMessage unit bytes s
  | .cvuArm unit value => Sys2Proof.Machine.execCvuArm unit value s
  | .cvuDisarm unit value => Sys2Proof.Machine.execCvuDisarm unit value s
  | .cvuResSeqRead master unit => Sys2Proof.Machine.execCvuResSeqRead master unit s
  | .memoryAccess x => Sys2Proof.Machine.execMemoryAccess x s
  | .scRetire way => Sys2Proof.Machine.execScRetire way s
  | .spRemap way => Sys2Proof.Machine.execSpRemap way s
  | .scCommandDone => Sys2Proof.Machine.execScCommandDone s
  | .maintClean chan => Sys2Proof.Machine.execMaintClean chan s
  | .maintInval chan => Sys2Proof.Machine.execMaintInval chan s
  | .maintCleanInval chan => Sys2Proof.Machine.execMaintCleanInval chan s
  | .maintCleanAll chan => Sys2Proof.Machine.execMaintCleanAll chan s
  | .maintDone chan => Sys2Proof.Machine.execMaintDone chan s
  | .patrolScrub page corrected uncorrectable => Sys2Proof.Machine.execPatrolScrub page corrected uncorrectable s
  | .dimmThermal page temp => Sys2Proof.Machine.execDimmThermal page temp s
  | .memoryTrainingDone page ok gib dimms rate lanes => Sys2Proof.Machine.execMemoryTrainingDone page ok gib dimms rate lanes s
  | .dimmLost page => Sys2Proof.Machine.execDimmLost page s
  | .eventOccurrence page line info => Sys2Proof.Machine.execEventOccurrence page line info s
  | .eventRingWrite core => Sys2Proof.Machine.execEventRingWrite core s
  | .signal master value => Sys2Proof.Machine.execSignal master value s
  | .evqDone value => Sys2Proof.Machine.execEvqDone value s
  | .srcMaskWrite core value => Sys2Proof.Machine.execSrcMaskWrite core value s
  | .ringConsWrite core value => Sys2Proof.Machine.execRingConsWrite core value s
  | .eventRingEnable core value => Sys2Proof.Machine.execEventRingEnable core value s
  | .hallmarkOccurrence code inst payload => Sys2Proof.Machine.execHallmarkOccurrence code inst payload s
  | .hallmarkWrite => Sys2Proof.Machine.execHallmarkWrite s
  | .rateWindowTick => Sys2Proof.Machine.execRateWindowTick s
  | .hlmScan => Sys2Proof.Machine.execHlmScan s
  | .exportCmd value => Sys2Proof.Machine.execExportCmd value s
  | .exportDone => Sys2Proof.Machine.execExportDone s
  | .fwPost value => Sys2Proof.Machine.execFwPost value s
  | .tmkLoad value => Sys2Proof.Machine.execTmkLoad value s
  | .tmkCommit value => Sys2Proof.Machine.execTmkCommit value s
  | .tmkCommitDone flips => Sys2Proof.Machine.execTmkCommitDone flips s
  | .tmkConfirm value => Sys2Proof.Machine.execTmkConfirm value s
  | .tmkRevert value => Sys2Proof.Machine.execTmkRevert value s
  | .pllLockLoss domain => Sys2Proof.Machine.execPllLockLoss domain s
  | .pllRelockDone domain us => Sys2Proof.Machine.execPllRelockDone domain us s
  | .pllRelockTimeout domain => Sys2Proof.Machine.execPllRelockTimeout domain s
  | .refMeasure xtal ref100 ref156 khz => Sys2Proof.Machine.execRefMeasure xtal ref100 ref156 khz s
  | .coreClockLoss domain => Sys2Proof.Machine.execCoreClockLoss domain s
  | .xtalLost => Sys2Proof.Machine.execXtalLost s
  | .ctlFreqSwitch value => Sys2Proof.Machine.execCtlFreqSwitch value s
  | .debugAccessResume => Sys2Proof.Machine.execDebugAccessResume s
  | .lcArm value => Sys2Proof.Machine.execLcArm value s
  | .lcMint value healthy cut => Sys2Proof.Machine.execLcMint value healthy cut s
  | .lcOwn value cut => Sys2Proof.Machine.execLcOwn value cut s
  | .lcRetire value cut => Sys2Proof.Machine.execLcRetire value cut s
  | .ownerLockSet value => Sys2Proof.Machine.execOwnerLockSet value s
  | .d1Grant value => Sys2Proof.Machine.execD1Grant value s
  | .d0Return value => Sys2Proof.Machine.execD0Return value s
  | .dbgChallenge => Sys2Proof.Machine.execDbgChallenge s
  | .dbgResponse sig => Sys2Proof.Machine.execDbgResponse sig s
  | .dbgAccessRead addr => Sys2Proof.Machine.execDbgAccessRead addr s
  | .dbgAccessWrite addr data => Sys2Proof.Machine.execDbgAccessWrite addr data s
  | .extest => Sys2Proof.Machine.execExtest s
  | .samplePreload sample load => Sys2Proof.Machine.execSamplePreload sample load s
  | .idcode => Sys2Proof.Machine.execIdcode s
  | .clamp => Sys2Proof.Machine.execClamp s
  | .highz => Sys2Proof.Machine.execHighz s
  | .bypass => Sys2Proof.Machine.execBypass s
  | .trstNAssert => Sys2Proof.Machine.execTrstNAssert s
  | .pwrP0 value => Sys2Proof.Machine.execPwrP0 value s
  | .pwrP1 value => Sys2Proof.Machine.execPwrP1 value s
  | .pwrP2 value => Sys2Proof.Machine.execPwrP2 value s
  | .pwrQuench value => Sys2Proof.Machine.execPwrQuench value s
  | .powerEntryDone => Sys2Proof.Machine.execPowerEntryDone s
  | .avsUpdate shift answered => Sys2Proof.Machine.execAvsUpdate shift answered s
  | .pohTick => Sys2Proof.Machine.execPohTick s
  | .thermalSample tj => Sys2Proof.Machine.execThermalSample tj s
  | .throttleStep => Sys2Proof.Machine.execThrottleStep s
  | .powerSample watts => Sys2Proof.Machine.execPowerSample watts s
  | .fwuStage value => Sys2Proof.Machine.execFwuStage value s
  | .fwuVerify value => Sys2Proof.Machine.execFwuVerify value s
  | .fwuActivate value => Sys2Proof.Machine.execFwuActivate value s
  | .fwuConfirm value => Sys2Proof.Machine.execFwuConfirm value s
  | .fwuCommandDone ok => Sys2Proof.Machine.execFwuCommandDone ok s
  | .confirmTimeout => Sys2Proof.Machine.execConfirmTimeout s
  | .powerOnReset => Sys2Proof.Machine.execPowerOnReset s
  | .aonPllLock => Sys2Proof.Machine.execAonPllLock s
  | .resetNAssert => Sys2Proof.Machine.execResetNAssert s
  | .chipReset cause => Sys2Proof.Machine.execChipReset cause s
  | .bootRomRun fuses corrected found bad gib dimms rate us => Sys2Proof.Machine.execBootRomRun fuses corrected found bad gib dimms rate us s
  | .bootRetry us => Sys2Proof.Machine.execBootRetry us s
  | .portTrainTimeout port => Sys2Proof.Machine.execPortTrainTimeout port s
  | .earlyCloseDue => Sys2Proof.Machine.execEarlyCloseDue s
  | .portLinkUp port => Sys2Proof.Machine.execPortLinkUp port s
  | .portLinkDown port cause => Sys2Proof.Machine.execPortLinkDown port cause s
  | .flashLinkDrop port => Sys2Proof.Machine.execFlashLinkDrop port s
  | .completionTimeout port => Sys2Proof.Machine.execCompletionTimeout port s
  | .fatalAer port => Sys2Proof.Machine.execFatalAer port s
  | .dpcContainment port => Sys2Proof.Machine.execDpcContainment port s
  | .controllerFatalStatus module => Sys2Proof.Machine.execControllerFatalStatus module s
  | .mramStackLost => Sys2Proof.Machine.execMramStackLost s
  | .norLost => Sys2Proof.Machine.execNorLost s
  | .serdesLaneLockLoss octet lane => Sys2Proof.Machine.execSerdesLaneLockLoss octet lane s
  | .serdesLanePllLost octet => Sys2Proof.Machine.execSerdesLanePllLost octet s
  | .vinAonLow mv => Sys2Proof.Machine.execVinAonLow mv s
  | .vinAonLoss => Sys2Proof.Machine.execVinAonLoss s

end Sys2Proof.Machine
end

