-- ==== Sys2Proof/Safety.lean ====
section
/-! DEFINITION. The terms claims use: a step that goes on, the parts of State a command may change, the canonical form of what is
stored, and the fuses that only burn one way. -/

namespace Sys2Proof.Machine

/-- The step from `s` neither stops nor is refused. -/
def SafeStep (s : State) : Prop := ∃ t, step s = .next t

/-- A sparse memory is in its one canonical form: addresses rise strictly, and no byte listed is the one an unlisted address
reads as. -/
def Memory.wf (m : List Host.Cell) (d : Byte) : Bool := Tab.wf m && m.all fun c => c.2 != d

/-- Everything the block stores by address is in canonical form: memory, the quench store, the NOR, the register file. -/
structure Stored (s : State) : Prop where
  mem : Memory.wf s.mem 0 = true
  qst : Memory.wf s.qst 0 = true
  nor : Memory.wf s.nor 0xFF = true
  regs : Tab.wf s.regs = true

/-- The lifecycle states in the order in which the transitions of R709 reach them. -/
def Lc.rank : Lc → Nat
  | .blank => 0
  | .minted => 1
  | .owned => 2
  | .retired => 3

/-- A pending mark (R710) never names a state before the one the state fuse shows. -/
def Fuses.ordered (f : Fuses) : Prop := ∀ l, f.pending = some l → f.lc.rank ≤ l.rank

/-- From `f` to `g` no burned fuse is unburned: the secrets and the revoke fuses gain bits only, SVN_FUSE and the lifecycle state
never fall (R709, R710, R745). -/
structure Fuses.burnsTo (f g : Fuses) : Prop where
  root : f.deviceRoot ||| g.deviceRoot = g.deviceRoot
  secret : f.ownerSecret ||| g.ownerSecret = g.ownerSecret
  svn : f.svn ≤ g.svn
  revoked : f.keyRevoked ||| g.keyRevoked = g.keyRevoked
  lock : f.ownerLockPerm = true → g.ownerLockPerm = true
  lc : f.ordered → g.ordered ∧ f.lc.rank ≤ g.lc.rank

/-- The parts of State, one for each field. -/
inductive Part where
  | a0 | time | regs | latch | held | mem | qst | nor | queues | eqc | hlm
  | tmk | clk | fuses | top | cells | aon | boot | dbg | pwr | fwu | msys
  | cvu | srd | ldg | ing | wdl | net | xpt | hq | wc | eng | asy
  | tin | frg | drp | pln | anl | rpl | resOwn | resPeer | out | free | pending
deriving DecidableEq, Repr

/-- The place of a part in a set of parts. -/
def Part.idx : Part → Nat
  | .a0 => 0
  | .time => 1
  | .regs => 2
  | .latch => 3
  | .held => 4
  | .mem => 5
  | .qst => 6
  | .nor => 7
  | .queues => 8
  | .eqc => 9
  | .hlm => 10
  | .tmk => 11
  | .clk => 12
  | .fuses => 13
  | .top => 14
  | .cells => 15
  | .aon => 16
  | .boot => 17
  | .dbg => 18
  | .pwr => 19
  | .fwu => 20
  | .msys => 21
  | .cvu => 22
  | .srd => 23
  | .ldg => 24
  | .ing => 25
  | .wdl => 26
  | .net => 27
  | .xpt => 28
  | .hq => 29
  | .wc => 30
  | .eng => 31
  | .asy => 32
  | .tin => 33
  | .frg => 34
  | .drp => 35
  | .pln => 36
  | .anl => 37
  | .rpl => 38
  | .resOwn => 39
  | .resPeer => 40
  | .out => 41
  | .free => 42
  | .pending => 43

/-- A set of parts as a number, one bit a part. -/
def parts (ps : List Part) : Nat := ps.foldl (fun m p => m ||| 2 ^ p.idx) 0

/-- Two states agree on a part. -/
def Part.same : Part → State → State → Prop
  | .a0, s, t => t.a0 = s.a0
  | .time, s, t => t.time = s.time
  | .regs, s, t => t.regs = s.regs
  | .latch, s, t => t.latch = s.latch
  | .held, s, t => t.held = s.held
  | .mem, s, t => t.mem = s.mem
  | .qst, s, t => t.qst = s.qst
  | .nor, s, t => t.nor = s.nor
  | .queues, s, t => t.queues = s.queues
  | .eqc, s, t => t.eqc = s.eqc
  | .hlm, s, t => t.hlm = s.hlm
  | .tmk, s, t => t.tmk = s.tmk
  | .clk, s, t => t.clk = s.clk
  | .fuses, s, t => t.fuses = s.fuses
  | .top, s, t => t.top = s.top
  | .cells, s, t => t.cells = s.cells
  | .aon, s, t => t.aon = s.aon
  | .boot, s, t => t.boot = s.boot
  | .dbg, s, t => t.dbg = s.dbg
  | .pwr, s, t => t.pwr = s.pwr
  | .fwu, s, t => t.fwu = s.fwu
  | .msys, s, t => t.msys = s.msys
  | .cvu, s, t => t.cvu = s.cvu
  | .srd, s, t => t.srd = s.srd
  | .ldg, s, t => t.ldg = s.ldg
  | .ing, s, t => t.ing = s.ing
  | .wdl, s, t => t.wdl = s.wdl
  | .net, s, t => t.net = s.net
  | .xpt, s, t => t.xpt = s.xpt
  | .hq, s, t => t.hq = s.hq
  | .wc, s, t => t.wc = s.wc
  | .eng, s, t => t.eng = s.eng
  | .asy, s, t => t.asy = s.asy
  | .tin, s, t => t.tin = s.tin
  | .frg, s, t => t.frg = s.frg
  | .drp, s, t => t.drp = s.drp
  | .pln, s, t => t.pln = s.pln
  | .anl, s, t => t.anl = s.anl
  | .rpl, s, t => t.rpl = s.rpl
  | .resOwn, s, t => t.resOwn = s.resOwn
  | .resPeer, s, t => t.resPeer = s.resPeer
  | .out, s, t => t.out = s.out
  | .free, s, t => t.free = s.free
  | .pending, s, t => t.pending = s.pending

/-- From `s` to `t` nothing outside the set `m` of parts changes. -/
def Within (m : Nat) (s t : State) : Prop := ∀ p : Part, m.testBit p.idx = false → p.same s t

/-- A command changes nothing outside some parts. -/
def Leaves (i : Instr) (ps : List Part) : Prop := ∀ s t, exec i s = .next t → Within (parts ps) s t

/-- The parts that a fault of a page can reach: its registers, the event queues and the hallmark log that tell of it, and the
blocks whose work it ends (R46, R47, R197, R236, R305, R483). -/
def faultParts : List Part := [.regs, .mem, .eqc, .hlm, .ing, .wc, .eng, .asy, .tin, .frg, .drp, .free]

/-- From `s` to `t` no register changes but those of a page at some offsets, and `t` is `s` elsewhere but for what it has put out. -/
def OnlyRegs (p : Nat) (offs : List Nat) (s t : State) : Prop :=
  t = { s with regs := t.regs, out := t.out } ∧ ∀ q o, rk q o ∉ offs.map (rk p) → rd t q o = rd s q o

end Sys2Proof.Machine
end

