-- ==== Sys2Proof/Certificates/Slice0/Obligations.lean ====
section
/-! DEFINITION. The statements for the provers: what each command does, what it leaves unchanged, and what every step keeps. -/

open Sys2Proof Sys2Proof.Machine

/-- What each register access of chapter 2 leaves, with the conditions under which it has its own effect: a whole word is stored by the register's table; a narrow access ends in a bus error and BAD_ACCESS; an undefined offset reads 0, ignores writes and records BAD_ACCESS; an absent page does nothing; a low-word read latches the high word; a low-word write is held and a high-word write commits both; a read of a read-clear word answers it and clears it; an access into a stopped clock times out. -/
def Obligations.RegisterAccessCompletes : Prop :=
  (∀ (m p off : Nat) (v : W32) (r : RegDef) (s : State),
      pageExists p = true →
      clockStopped s p off = false →
      regAt p off = some r →
      0x100 ≤ off →
      r.half = .word →
      ownWrite m p off v s = none →
      exec (.csrRegisterWrite m p off v) s = .next (wordStore p off r v s)) ∧
  (∀ (m p off n : Nat) (w : Bool) (s : State),
      pageExists p = true →
      ¬ ((n = 4 ∧ off % 4 = 0) ∨ (n = 8 ∧ off % 8 = 0)) →
      exec (.csrNarrowAccess m p off n w) s = .next (emit (.busError m) (recordFault p cBAD_ACCESS off s))) ∧
  (∀ (m p off : Nat) (s : State),
      pageExists p = true →
      clockStopped s p off = false →
      regAt p off = none →
      exec (.csrUndefinedOffsetAccess m p off true) s = .next (recordFault p cBAD_ACCESS off s)) ∧
  (∀ (m p off : Nat) (s : State),
      pageExists p = true →
      clockStopped s p off = false →
      regAt p off = none →
      exec (.csrUndefinedOffsetAccess m p off false) s = .next (emit (.csrData m 0) (recordFault p cBAD_ACCESS off s))) ∧
  (∀ (m p off : Nat) (w : Bool) (s : State),
      pageExists p = false →
      exec (.csrAbsentPageAccess m p off w) s = .next (if w then s else emit (.csrData m 0) s)) ∧
  (∀ (m p off : Nat) (r : RegDef) (s : State),
      pageExists p = true →
      clockStopped s p off = false →
      regAt p off = some r →
      r.half = .low →
      ∃ t, exec (.lowWordRead m p off) s = .next t ∧ t.latch = Tab.put (clearRead p off r s).latch (mkey m p off) (viewWord s m p (off + 4)) ∧ t.out = (clearRead p off r s).out ++ [.csrData m (viewWord s m p off)]) ∧
  (∀ (m p off : Nat) (v : W32) (r : RegDef) (s : State),
      pageExists p = true →
      clockStopped s p off = false →
      regAt p off = some r →
      0x100 ≤ off →
      r.half = .low →
      exec (.lowWordWrite m p off v) s = .next { s with held := Tab.put s.held (mkey m p off) v }) ∧
  (∀ (m p off : Nat) (v : W32) (r : RegDef) (s : State),
      pageExists p = true →
      clockStopped s p off = false →
      regAt p off = some r →
      0x100 ≤ off →
      r.half = .high →
      exec (.highWordWrite m p off v) s = .next (pairStore p off r (Tab.find? s.held (mkey m p (off - 4))) v { s with held := Tab.erase s.held (mkey m p (off - 4)) })) ∧
  (∀ (m p off : Nat) (r : RegDef) (s : State),
      pageExists p = true →
      clockStopped s p off = false →
      regAt p off = some r →
      r.half = .word →
      r.fields = [F.rc 31 0] →
      clsOf p ≠ 0x20 →
      p ≠ pgING →
      ∃ t, exec (.readClearCounterRead m p off) s = .next t ∧ rd t p off = 0 ∧ t.out = s.out ++ [.csrData m (viewWord s m p off)]) ∧
  (∀ (m p off : Nat) (s : State),
      pageExists p = true →
      clockStopped s p off = true →
      exec (.clkStoppedTimeout m p off) s = .next (emit (.csrData m 0) (stopTimeout m p off s)))

/-- For each page-control command, the state it leaves, for every state in which no lock holds the field and no soft reset is under way, and that stands where chapter 2 gives the command its effect. `c` is the state after ENABLE and QUIESCE have taken their written values. WDL, where it is PAIRED, steps down first when it is disabled or reset (R597): a clause of its own says what that leaves. -/
def Obligations.PageControlCompletes : Prop :=
  (∀ (p : Nat) (s c : State),
      pageExists p = true →
      clockStopped s p 0x040 = false →
      locked s p 0 = false →
      resetting s p = false →
      pgState s p = stOFF →
      usable s p = true →
      c = wrF p 0x040 2 2 0 (wrF p 0x040 0 0 1 s) →
      exec (.pgEnable p 1) s = .next (toStart p c)) ∧
  (∀ (p : Nat) (s c : State),
      pageExists p = true →
      clockStopped s p 0x040 = false →
      locked s p 0 = false →
      resetting s p = false →
      mayDisable s p = true →
      p ≠ pgWDL ∨ tstate s ≠ tsPAIRED →
      c = wrF p 0x040 2 2 0 (wrF p 0x040 0 0 0 s) →
      (pgState s p = stSTART → exec (.pgDisable p 0) s = .next (toOff p c)) ∧
      (pgState s p = stRUN → exec (.pgDisable p 0) s = .next (toDrain p c)) ∧
      (pgState s p = stHALT → exec (.pgDisable p 0) s = .next (toOff p (abortWork p stsABORTED_DISABLE c))) ∧
      (pgState s p = stDRAIN → exec (.pgDisable p 0) s = .next c)) ∧
  (∀ (s c : State),
      locked s pgWDL 0 = false →
      clockStopped s pgWDL 0x040 = false →
      bit (rd s pgWDL 0x040) 0 = true →
      tstate s = tsPAIRED →
      c = stepDown (wrF pgWDL 0x040 2 2 0 (wrF pgWDL 0x040 0 0 0 s)) →
      exec (.pgDisable pgWDL 0) s = .next (if resetting c pgWDL then c else ctrlMoves pgWDL false c)) ∧
  (∀ (p : Nat) (s c : State),
      pageExists p = true →
      clockStopped s p 0x040 = false →
      locked s p 0 = false →
      resetting s p = false →
      pgState s p = stSTART →
      bit (rd s p 0x040) 0 = true →
      c = wrF p 0x040 2 2 0 (wrF p 0x040 0 0 1 s) →
      exec (.runReq p 3) s = .next (if bit (rd s p 0x044) 5 then evaluate p c else wrF p 0x040 1 1 1 c)) ∧
  (∀ (p : Nat) (s : State),
      pageExists p = true →
      pgState s p = stSTART →
      bit (rd s p 0x044) 5 = false →
      startDone s p = true →
      exec (.pageReady p) s = .next (pageReady p s)) ∧
  (∀ (p : Nat) (s c : State),
      pageExists p = true →
      clockStopped s p 0x040 = false →
      locked s p 0 = false →
      resetting s p = false →
      pgState s p = stRUN →
      c = wrF p 0x040 2 2 1 (wrF p 0x040 0 0 1 s) →
      exec (.quiesceSet p 5) s = .next (toDrain p c)) ∧
  (∀ (p : Nat) (s c : State),
      pageExists p = true →
      clockStopped s p 0x040 = false →
      locked s p 0 = false →
      resetting s p = false →
      pgState s p = stDRAIN ∨ pgState s p = stHALT →
      c = wrF p 0x040 2 2 0 (wrF p 0x040 0 0 1 s) →
      exec (.quiesceClear p 1) s = .next (runAgain p c)) ∧
  (∀ (p : Nat) (s : State),
      pageExists p = true →
      pgState s p = stDRAIN →
      resetting s p = false →
      pageBusy s p = false →
      (bit (rd s p 0x040) 0 = false → exec (.pageDrainComplete p) s = .next (toOff p (abortWork p stsABORTED_DISABLE s))) ∧
      (bit (rd s p 0x040) 0 = true → bit (rd s p 0x040) 2 = true → exec (.pageDrainComplete p) s = .next (setState p stHALT s))) ∧
  (∀ (p : Nat) (s : State),
      pageExists p = true →
      pgState s p = stDRAIN →
      bit (rd s p 0x040) 0 = false →
      resetting s p = false →
      exec (.disableBoundExpiry p) s = .next (toOff p (if p = pgEQC then eqcDiscard s else abortWork p stsABORTED_DISABLE s))) ∧
  (∀ (p : Nat) (s c : State),
      pageExists p = true →
      clockStopped s p 0x040 = false →
      locked s p 0 = false →
      resetting s p = false →
      mayReset s p = true →
      p ≠ pgWDL ∨ tstate s ≠ tsPAIRED →
      c = wrF p 0x040 2 2 0 (wrF p 0x040 0 0 1 s) →
      exec (.softReset p 9) s = .next (abortWork p stsABORTED_RESET (wrF p 0x044 4 4 1 (wrF p 0x040 3 3 1 c)))) ∧
  (∀ (p : Nat) (s : State),
      pageExists p = true →
      resetting s p = true →
      clsOf p = 0x24 ∨ domRuns s (pageDomain p) = true →
      p ≠ pgQST ∨ inQ s = false →
      exec (.softResetComplete p) s = .next (resetDone p s)) ∧
  (∀ (p : Nat) (s c : State),
      pageExists p = true →
      clockStopped s p 0x040 = false →
      locked s p 0 = false →
      resetting s p = false →
      pgState s p = stFAULT →
      usable s p = true →
      c = wrF p 0x040 2 2 0 (wrF p 0x040 0 0 1 (toOff p (wr p 0x048 0 s))) →
      exec (.faultClr p 0x11) s = .next (toStart p c)) ∧
  (∀ (p i : Nat) (v : W32) (s : State),
      pageExists p = true →
      i < 4 →
      clockStopped s p (0x018 + 4 * i) = false →
      locked s p 1 = false →
      pgState s p = stOFF ∨ pgState s p = stSTART →
      exec (.featAskWrite p i v) s = .next (wr p (0x018 + 4 * i) v s)) ∧
  (∀ (p : Nat) (v : W32) (r : RegDef) (s : State),
      pageExists p = true →
      clockStopped s p 0x050 = false →
      locked s p 2 = false →
      regAt p 0x050 = some r →
      r.rsvd v = false →
      exec (.pgEvrouteWrite p v) s = .next (wr p 0x050 (r.apply (rd s p 0x050) v) s)) ∧
  (∀ (p : Nat) (v : W32) (r : RegDef) (s : State),
      pageExists p = true →
      clockStopped s p 0x054 = false →
      regAt p 0x054 = some r →
      r.rsvd v = false →
      exec (.pgLockWrite p v) s = .next (wr p 0x054 (r.apply (rd s p 0x054) v) s))

/-- What the four commands of the credit queues leave: an entry against a credit takes a place and the credit; a returned credit frees the oldest place; a far-side reset sets XRESET on the surviving side and, where both clocks run, flushes the queue at once; a flush still under way is CROSSING_BROKEN. -/
def Obligations.CreditQueuesComplete : Prop :=
  (∀ (q i : Nat) (e : List W32) (s : State) (x : Queue),
      (QueueId.mk q i).there = true →
      x = queueOf_ s ⟨q, i⟩ →
      x.credits ≠ 0 →
      x.entries.length < (QueueId.mk q i).depth →
      (q = 15 → requestInvalid ((QueueId.mk q i).fit e) = false) →
      exec (.queueEntryArrive q i e) s = .next (queuePut ⟨q, i⟩ { x with credits := x.credits - 1, entries := x.entries ++ [(QueueId.mk q i).fit e] } s)) ∧
  (∀ (q i : Nat) (s : State) (x : Queue),
      (QueueId.mk q i).there = true →
      x = queueOf_ s ⟨q, i⟩ →
      x.credits < (QueueId.mk q i).depth →
      exec (.creditReturn q i) s = .next (queuePut ⟨q, i⟩ { x with credits := x.credits + 1, entries := x.entries.drop 1 } s)) ∧
  (∀ (q i : Nat) (b : Bool) (s t : State) (p : Nat),
      (QueueId.mk q i).there = true →
      (QueueId.mk q i).crosses = true →
      p = (QueueId.mk q i).survivor b →
      t = cvuFarReset [(QueueId.mk q i).producer, (QueueId.mk q i).consumer] (wrF p 0x044 7 7 1 (queuePut ⟨q, i⟩ { queueOf_ s ⟨q, i⟩ with flush := some p } s)) →
      exec (.farSideReset q i b false) s = .next (if (QueueId.mk q i).clocked t then flushQueue ⟨q, i⟩ p t else t)) ∧
  (∀ (q i : Nat) (b : Bool) (s : State) (p : Nat),
      (QueueId.mk q i).there = true →
      p = (QueueId.mk q i).survivor b →
      (QueueId.mk q i).flushing s p = true →
      (QueueId.mk q i).clocked s = true →
      exec (.crossingFlushTimeout q i b) s = .next (fatal p cCROSSING_BROKEN 0 s))

/-- A queue whose credits and taken entries make up its depth still does after an entry arrives or a credit comes back without a CREDIT_ERROR, and every other queue is as it was. -/
def Obligations.CreditsNeverLost : Prop :=
  (∀ (q i : Nat) (e : List W32) (s t : State),
      (QueueId.mk q i).there = true →
      (queueOf_ s ⟨q, i⟩).credits ≠ 0 →
      (queueOf_ s ⟨q, i⟩).credits + (queueOf_ s ⟨q, i⟩).entries.length = (QueueId.mk q i).depth →
      exec (.queueEntryArrive q i e) s = .next t →
      (queueOf_ t ⟨q, i⟩).credits + (queueOf_ t ⟨q, i⟩).entries.length = (QueueId.mk q i).depth ∧ ∀ r : QueueId, r.key ≠ (QueueId.mk q i).key → queueOf_ t r = queueOf_ s r) ∧
  (∀ (q i : Nat) (s t : State),
      (QueueId.mk q i).there = true →
      (queueOf_ s ⟨q, i⟩).entries ≠ [] →
      (queueOf_ s ⟨q, i⟩).credits + (queueOf_ s ⟨q, i⟩).entries.length = (QueueId.mk q i).depth →
      exec (.creditReturn q i) s = .next t →
      (queueOf_ t ⟨q, i⟩).credits + (queueOf_ t ⟨q, i⟩).entries.length = (QueueId.mk q i).depth ∧ ∀ r : QueueId, r.key ≠ (QueueId.mk q i).key → queueOf_ t r = queueOf_ s r)

/-- For a serving Assay and a posted descriptor of the opcode at the head of a ring that passes the tests of R213 on a lane it may take, the descriptor starts (its bytes, its context); a preemption saves the victim's message to its context, and its ring goes back to the queue, ahead of its priority where a descriptor was cut short; a result block is latched for the master; lanes that pass their self-check return. -/
def Obligations.AssayCompletes : Prop :=
  (∀ (n l l' k : Nat) (s : State) (d : Dsc),
      serving s pgASY = true →
      (openOf s n).bind (·.part) = none →
      posted s pgASY n = true →
      d = headDsc s pgASY n →
      d.opcode = aoHASH →
      (rgOf s pgASY n).done = [] →
      allOut s pgASY = false →
      laneFor s n l' = some l →
      asyCode s n d = 0 →
      exec (.asyHash n l' k true) s = .next (asyBegin n l d (rgHead s pgASY n % rgSize s pgASY n) k none (advanceSq pgASY n s))) ∧
  (∀ (n l l' k : Nat) (s : State) (d : Dsc),
      serving s pgASY = true →
      (openOf s n).bind (·.part) = none →
      posted s pgASY n = true →
      d = headDsc s pgASY n →
      d.opcode = aoHMAC →
      (rgOf s pgASY n).done = [] →
      allOut s pgASY = false →
      laneFor s n l' = some l →
      asyCode s n d = 0 →
      exec (.asyHmac n l' k true) s = .next (asyBegin n l d (rgHead s pgASY n % rgSize s pgASY n) k none (advanceSq pgASY n s))) ∧
  (∀ (n l l' k : Nat) (odd : Option (Nat × Nat)) (s : State) (d : Dsc),
      serving s pgASY = true →
      (openOf s n).bind (·.part) = none →
      posted s pgASY n = true →
      d = headDsc s pgASY n →
      d.opcode = aoHASH_CMP →
      (rgOf s pgASY n).done = [] →
      allOut s pgASY = false →
      laneFor s n l' = some l →
      asyCode s n d = 0 →
      exec (.asyHashCmp n l' k true odd) s = .next (asyBegin n l d (rgHead s pgASY n % rgSize s pgASY n) k odd (advanceSq pgASY n s))) ∧
  (∀ (n l l' k : Nat) (odd : Option (Nat × Nat)) (s : State) (d : Dsc),
      serving s pgASY = true →
      (openOf s n).bind (·.part) = none →
      posted s pgASY n = true →
      d = headDsc s pgASY n →
      d.opcode = aoHMAC_CMP →
      (rgOf s pgASY n).done = [] →
      allOut s pgASY = false →
      laneFor s n l' = some l →
      asyCode s n d = 0 →
      exec (.asyHmacCmp n l' k true odd) s = .next (asyBegin n l d (rgHead s pgASY n % rgSize s pgASY n) k odd (advanceSq pgASY n s))) ∧
  (∀ (n l l' : Nat) (s : State) (d : Dsc),
      serving s pgASY = true →
      (openOf s n).bind (·.part) = none →
      posted s pgASY n = true →
      d = headDsc s pgASY n →
      d.opcode = aoEXPORT →
      (rgOf s pgASY n).done = [] →
      allOut s pgASY = false →
      laneFor s n l' = some l →
      asyCode s n d = 0 →
      exec (.asyCtxExport n l' true) s = .next (ctxExport n l d (rgHead s pgASY n % rgSize s pgASY n) (advanceSq pgASY n s))) ∧
  (∀ (n l l' : Nat) (s : State) (d : Dsc),
      serving s pgASY = true →
      (openOf s n).bind (·.part) = none →
      posted s pgASY n = true →
      d = headDsc s pgASY n →
      d.opcode = aoIMPORT →
      (rgOf s pgASY n).done = [] →
      allOut s pgASY = false →
      laneFor s n l' = some l →
      asyCode s n d = 0 →
      exec (.asyCtxImport n l' true) s = .next (ctxImport n l d (rgHead s pgASY n % rgSize s pgASY n) (advanceSq pgASY n s))) ∧
  (∀ (n l l' : Nat) (s t : State) (d : Dsc),
      serving s pgASY = true →
      (openOf s n).bind (·.part) = none →
      posted s pgASY n = true →
      d = headDsc s pgASY n →
      d.opcode = aoCLEAR →
      (rgOf s pgASY n).done = [] →
      allOut s pgASY = false →
      laneFor s n l' = some l →
      asyCode s n d = 0 →
      t = ctxPut d.ctx none (advanceSq pgASY n s) →
      exec (.asyCtxClear n l' true) s = .next (endDsc n l (asyRec d (rgHead s pgASY n % rgSize s pgASY n) stsOK 0 0 0 0) t)) ∧
  (∀ (n v l i c : Nat) (d : Dsc) (o : AOpen) (s t u : State),
      serving s pgASY = true →
      live s pgASY 5 = true →
      waiting s pgASY n = true →
      (lanesOf pgASY).all (fun l => !laneIdle s pgASY l) = true →
      chooseVictim s (victims s (rgPrio s pgASY n)) = some (v, o) →
      o.lane = some l →
      t = openPut v { o with lane := none, msg := {} } (ctxPut o.ctx (some o.msg) (bump pgASY 0x110 1 s)) →
      u = finishDsc pgASY v l { asyRec d i stsBUSY_PREEMPTED c 0 o.msg.count (asyInfo 0 0 (algOf o.msg.alg).digest) with cflags := cfCTX_SAVED } t →
      (o.part = none → exec (.asyPreemptSave n) s = .next (joinQueue pgASY t v)) ∧
      (o.part = some (d, i, c) → exec (.asyPreemptSave n) s = .next (joinFront pgASY v u))) ∧
  (∀ (v : W32) (k : Nat) (s t : State),
      clockStopped s pgASY 0x104 = false →
      t = commandWrite pgASY 0x104 v s →
      exec (.glaneRestore v k) s = .next (wrF pgASY 0x100 11 8 (rdF t pgASY 0x100 11 8 - (rdF t pgASY 0x100 11 8 &&& bits v 3 0 &&& k)) t)) ∧
  (∀ (m l : Nat) (s : State),
      clockStopped s pgASY (resOff l 0) = false →
      exec (.resSeqRead m l) s = .next (emit (.csrData m (rd s pgASY (resOff l 0))) { s with asy := { s.asy with latch := Tab.put s.asy.latch (m * 32 + l) (resWords s l) } }))

/-- For a serving Crucible or Tinning and a posted descriptor of the opcode at the head of a ring that passes the tests of R251 or R299 on a unit it may take, the descriptor runs; units that pass their self-check return to service. -/
def Obligations.CrucibleAndTinningComplete : Prop :=
  (∀ (n l a : Nat) (b : Bool) (s : State) (d : Dsc),
      serving s pgCRU = true →
      posted s pgCRU n = true →
      d = headDsc s pgCRU n →
      d.opcode = coCOMPRESS →
      (rgOf s pgCRU n).done = [] →
      allOut s pgCRU = false →
      mayTake s pgCRU n l = true →
      cruCode s d = 0 →
      ctxLost s d = false →
      exec (.cruCompress n l b a) s = .next (cruWork n l b a d (rgHead s pgCRU n % rgSize s pgCRU n) (advanceSq pgCRU n s))) ∧
  (∀ (n l : Nat) (s : State) (d : Dsc),
      serving s pgCRU = true →
      posted s pgCRU n = true →
      d = headDsc s pgCRU n →
      d.opcode = coDECOMPRESS →
      (rgOf s pgCRU n).done = [] →
      allOut s pgCRU = false →
      mayTake s pgCRU n l = true →
      cruCode s d = 0 →
      ctxLost s d = false →
      exec (.cruDecompress n l) s = .next (cruWork n l true 0 d (rgHead s pgCRU n % rgSize s pgCRU n) (advanceSq pgCRU n s))) ∧
  (∀ (n l : Nat) (s t : State) (d : Dsc),
      serving s pgCRU = true →
      posted s pgCRU n = true →
      d = headDsc s pgCRU n →
      d.opcode = coCLEAR →
      (rgOf s pgCRU n).done = [] →
      allOut s pgCRU = false →
      mayTake s pgCRU n l = true →
      cruCode s d = 0 →
      ctxLost s d = false →
      t = advanceSq pgCRU n s →
      exec (.cruCtxClear n l) s = .next (finishDsc pgCRU n l (cruRec d (rgHead s pgCRU n % rgSize s pgCRU n) stsOK 0 0 0 0) (cctxMark d.ctx false (memWrite (ringAddr t d.ctx) (zeros (field (ctxState t d.ctx) 0x1C 4)) (memWrite (ctxAddr t d.ctx) (zeros 4096) t))))) ∧
  (∀ (v : W32) (k : Nat) (s t : State),
      clockStopped s pgCRU 0x10C = false →
      t = commandWrite pgCRU 0x10C v s →
      exec (.gunitRestore v k) s = .next (wrF pgCRU 0x108 9 8 (rdF t pgCRU 0x108 9 8 - (rdF t pgCRU 0x108 9 8 &&& bits v 1 0 &&& k)) t)) ∧
  (∀ (n l : Nat) (s : State) (d : Dsc),
      serving s pgTIN = true →
      posted s pgTIN n = true →
      d = headDsc s pgTIN n →
      d.opcode = toGCM_SEAL →
      (rgOf s pgTIN n).done = [] →
      allOut s pgTIN = false →
      (rgOf s pgTIN n).cur = none →
      mayTake s pgTIN n l = true →
      tinCode s d = 0 →
      (slotK s d.slot).loaded = true →
      exec (.gcmSeal n l true) s = .next (gcmSealRun n l d (rgHead s pgTIN n % rgSize s pgTIN n) (advanceSq pgTIN n s))) ∧
  (∀ (n l : Nat) (s : State) (d : Dsc),
      serving s pgTIN = true →
      posted s pgTIN n = true →
      d = headDsc s pgTIN n →
      d.opcode = toGCM_OPEN →
      (rgOf s pgTIN n).done = [] →
      allOut s pgTIN = false →
      (rgOf s pgTIN n).cur = none →
      mayTake s pgTIN n l = true →
      tinCode s d = 0 →
      (slotK s d.slot).loaded = true →
      exec (.gcmOpen n l true) s = .next (gcmOpenRun n l d (rgHead s pgTIN n % rgSize s pgTIN n) (advanceSq pgTIN n s))) ∧
  (∀ (n l : Nat) (s : State) (d : Dsc),
      serving s pgTIN = true →
      posted s pgTIN n = true →
      d = headDsc s pgTIN n →
      d.opcode = toXTS_ENC →
      (rgOf s pgTIN n).done = [] →
      allOut s pgTIN = false →
      (rgOf s pgTIN n).cur = none →
      mayTake s pgTIN n l = true →
      tinCode s d = 0 →
      (slotK s d.slot).loaded = true →
      exec (.xtsEnc n l true) s = .next (xtsEncRun n l d (rgHead s pgTIN n % rgSize s pgTIN n) (advanceSq pgTIN n s))) ∧
  (∀ (n l : Nat) (s : State) (d : Dsc),
      serving s pgTIN = true →
      posted s pgTIN n = true →
      d = headDsc s pgTIN n →
      d.opcode = toXTS_DEC →
      (rgOf s pgTIN n).done = [] →
      allOut s pgTIN = false →
      (rgOf s pgTIN n).cur = none →
      mayTake s pgTIN n l = true →
      tinCode s d = 0 →
      (slotK s d.slot).loaded = true →
      exec (.xtsDec n l true) s = .next (xtsDecRun n l d (rgHead s pgTIN n % rgSize s pgTIN n) (advanceSq pgTIN n s))) ∧
  (∀ (n l : Nat) (s : State) (d : Dsc),
      serving s pgTIN = true →
      posted s pgTIN n = true →
      d = headDsc s pgTIN n →
      d.opcode = toKEY_LOAD →
      (rgOf s pgTIN n).done = [] →
      allOut s pgTIN = false →
      (rgOf s pgTIN n).cur = none →
      mayTake s pgTIN n l = true →
      tinCode s d = 0 →
      exec (.keyLoad n l true) s = .next (keyLoadRun n l d (rgHead s pgTIN n % rgSize s pgTIN n) (advanceSq pgTIN n s))) ∧
  (∀ (n l : Nat) (s : State) (d : Dsc),
      serving s pgTIN = true →
      posted s pgTIN n = true →
      d = headDsc s pgTIN n →
      d.opcode = toKEY_ERASE →
      (rgOf s pgTIN n).done = [] →
      allOut s pgTIN = false →
      (rgOf s pgTIN n).cur = none →
      mayTake s pgTIN n l = true →
      tinCode s d = 0 →
      exec (.keyErase n l true) s = .next (keyEraseRun n l d (rgHead s pgTIN n % rgSize s pgTIN n) (advanceSq pgTIN n s))) ∧
  (∀ (v : W32) (k : Nat) (s t : State) (p g : Nat),
      clockStopped s pgTIN 0x108 = false →
      t = commandWrite pgTIN 0x108 v s →
      p = rdF t pgTIN 0x104 11 8 →
      g = rdF t pgTIN 0x104 5 4 →
      exec (.tinUnitRestore v k) s = .next (wrF pgTIN 0x104 11 8 (p - (p &&& bits v 3 0 &&& k)) (wrF pgTIN 0x104 5 4 (g - (g &&& bits v 9 8 &&& k / 256)) t)))

/-- A doorbell makes descriptors visible; waiting records are written when there is room; clearing EN closes a ring; a generation is installed, retired, put into force, and taken from the partner; a request for uses is answered in order; a ceiling that was written lets the waiting requests go on. -/
def Obligations.EngineRingsAndKeysComplete : Prop :=
  (∀ (p n : Nat) (v : W32) (s : State),
      ringThere p n = true →
      pageExists p = true →
      clockStopped s p (ringOff n 0x14) = false →
      exec (.engineDoorbell p n v) s = .next (settleUnknown p (joinQueues p (blockWrite p (ringOff n 0x14) v s)))) ∧
  (∀ (p n : Nat) (s : State),
      ringThere p n = true →
      (rgOf s p n).done ≠ [] →
      inQ s = false →
      exec (.engineCompletionWrite p n) s = .next (settleUnknown p (joinQueues p (settleOff p n (flushRecs p n (rgOf s p n).done.length s))))) ∧
  (∀ (p n : Nat) (v : W32) (s t : State),
      n < ringCount p →
      pageExists p = true →
      clockStopped s p (ringOff n 0x10) = false →
      rgEn s p n = true →
      bit v 0 = false →
      bits v 19 16 = rdF s p (ringOff n 0x10) 19 16 →
      t = blockWrite p (ringOff n 0x10) v s →
      exec (.ringDisable p n v) s = .next (if rgEn t p n then t else settleOff p n (rgPut p n { rgOf t p n with closing := true } t))) ∧
  (∀ (v : W32) (s t : State) (dom g : Nat) (k : KSlot),
      keygenBusy s = false →
      alive s pgTIN = true →
      dom = bits v 21 16 →
      k = slotK s (bits v 11 0) →
      (List.range 16).find? (fun g => !(genOf s 0 dom g).valid) = some g →
      k.loaded = true →
      k.cls = kcAT_REST →
      currentGen s dom = none →
      clockStopped s pgTIN 0x158 = false →
      t = commandWrite pgTIN 0x158 v s →
      exec (.keygenInstall v) s = .next (keygenStart ⟨true, dom, g, ⟨true, false, k.keyId, forgeEpoch s 0⟩, false⟩ t)) ∧
  (∀ (v : W32) (s t : State) (dom g : Nat) (x : KGen),
      keygenBusy s = false →
      alive s pgTIN = true →
      dom = bits v 21 16 →
      oldestGen (gensOf s 0 dom) = some (g, x) →
      (gensOf s 0 dom).length ≠ 1 →
      clockStopped s pgTIN 0x158 = false →
      t = commandWrite pgTIN 0x158 v s →
      exec (.keygenRetire v) s = .next (keygenStart ⟨false, dom, g, { x with valid := false }, false⟩ t)) ∧
  (∀ (s t : State) (c : KCmd),
      s.tin.cmd = some c →
      c.acked = true →
      t = genPut 0 c.dom c.gen (if c.entry.valid then c.entry else {}) s →
      exec .keygenEffect s = .next (keygenEnd 0 (hallmark 0x1506 0 ([pw 0, pw c.dom, pw c.gen, pw (if c.install then 1 else 2)] ++ pw2 c.entry.first) t))) ∧
  (∀ (d g f : Nat) (b : Bool) (k : W64) (s t : State),
      t = takeRx 0x16 s →
      exec (.keygen d g false false b k f) s = .next (sendW clsJOURNAL 0x14 (0x16 + keygenArg d g false false * 256) [] (hallmark 0x1506 0 ([pw 1, pw d, pw g, pw 1] ++ pw2 f) (genPut 1 d g ⟨true, b, k.toNat, f⟩ { t with tin := { t.tin with fresh := genKey 1 d g :: t.tin.fresh } })))) ∧
  (∀ (sl u k : Nat) (s : State),
      alive s pgTIN = true →
      exec (.useGrant sl u k) s = .next (askUses sl k u s)) ∧
  (∀ (sl : Nat) (s : State) (x : KSlot) (r : Nat × Nat × Nat),
      x = slotK s sl →
      headReq s sl = some r →
      x.loaded = true →
      x.uses + r.2.2 ≤ x.limit →
      ceiling s sl < x.uses + r.2.2 →
      exec (.ceilingWriteDone sl) s = .next (serveUses sl s.tin.reqs.length { s with tin := { s.tin with counts := Tab.put s.tin.counts x.keyId (ceiling s sl + 65536) } }))

/-- What each epoch command leaves on a working ledger: the timer or a due early close makes the leader try to close; EP_CLOSE closes the follower's open epoch and EP_ASK asks the leader; the drain of a closed epoch starts and ends; a commit record is written, a partner's is mirrored and answered, and an acknowledged one commits; a journal item is placed in its epoch; a hint unmaps its grains. -/
def Obligations.EpochsComplete : Prop :=
  (∀ (s : State),
      ledgerLive s = true →
      leader s = true →
      pwrState s ≠ psP2 →
      exec .epochTimerExpiry s = .next (tryClose { s with ldg := { s.ldg with timerDue := true } })) ∧
  (∀ (v : W32) (s t : State),
      bit v 0 = true →
      t = commandWrite pgLDG 0x124 v s →
      ledgerLive t = true →
      exec (.closeNow v) s = .next (askClose t)) ∧
  (∀ (s : State),
      ledgerLive s = true →
      leader s = true →
      s.ldg.earlyReq = true →
      exec .earlyCloseDue s = .next (tryClose { s with ldg := { s.ldg with earlyDue := true } })) ∧
  (∀ (e : Nat) (s t : State),
      t = takeRx 0x21 s →
      alive t pgLDG = true →
      t.ldg.replayed = true →
      e = epochOpen t →
      leader t = false →
      exec (.epClose e) s = .next (doClose e t)) ∧
  (∀ (e : Nat) (s t : State),
      t = takeRx 0x21 s →
      alive t pgLDG = true →
      t.ldg.replayed = true →
      epochOpen t < e →
      exec (.epClose e) s = .next (epochSkew t)) ∧
  (∀ (e : Nat) (s t : State),
      t = takeRx 0x22 s →
      ledgerLive t = true →
      leader t = true →
      live t pgLDG 2 = true →
      e = epochOpen t →
      exec (.epAsk e) s = .next { t with ldg := { t.ldg with earlyReq := true } }) ∧
  (∀ (e : Nat) (x : Ep) (s t u : State),
      drainingEpoch s = some (e, x) →
      ledgerOn s = true →
      x.drainStarted = false →
      allHanded s e = true →
      t = epPut e { x with drainStarted := true } s →
      u = forgeBits 5 1 (forgeBits 4 0 t) →
      exec .epochDrainStart s = .next (ldgStat (((List.range 16).filter (forging u)).foldl (fun s f => forgeDrain f s) u))) ∧
  (∀ (e n : Nat) (x : Ep) (s t u v : State),
      drainingEpoch s = some (e, x) →
      ledgerOn s = true →
      x.drainStarted = true →
      drainBusy s e = false →
      t = castOpen e (wrF pgLDG 0x120 31 16 (Nat.min n 0xFFFF) (epPut e { x with drained := true } s)) →
      u = (List.range 16).foldl (fun r f => wr64 (pgFRG + f) 0x108 (BitVec.ofNat 64 (epochAfter r e)) r) (forgeBits 5 0 t) →
      v = resyncEnd u →
      exec (.epochDrainEnd n) s = .next (tryClose (ldgStat (if paired v && !x.alone then sendW clsEPOCH 0x23 e [] v else v)))) ∧
  (∀ (e : Nat) (s t : State),
      t = takeRx 0x23 s →
      alive t pgLDG = true →
      t.ldg.replayed = true →
      e < epochOpen t →
      exec (.epDrained e) s = .next (tryClose (ldgStat { t with ldg := { t.ldg with peerDrainedTo := Nat.max t.ldg.peerDrainedTo e } }))) ∧
  (∀ (e : Nat) (s t : State),
      commitNext s = some e →
      t = (if (epOf s e).complete then s else completeEpoch e s) →
      (epOf t e).written = false →
      recsAcked t (epOf t e) = true →
      exec .epochCommitRecord s = .next (writeCommit e t)) ∧
  (∀ (e : Nat) (r : List Byte) (s t u : State),
      t = takeRx 0x24 s →
      epochOpen t > e →
      qstDown t = false →
      inQ t = false →
      u = mirrorPut (commitPlace t e r) r t →
      exec (.epCommit e r) s = .next (tryClose (sendW clsEPOCH 0x25 e [] { u with ldg := { u.ldg with peerCommitted := Nat.max u.ldg.peerCommitted e, peerRecords := e :: u.ldg.peerRecords.filter (· != e) } }))) ∧
  (∀ (e : Nat) (s t : State),
      t = takeRx 0x25 s →
      alive t pgLDG = true →
      t.ldg.replayed = true →
      e < epochOpen t →
      commitNext t = some e →
      (epOf t e).written = true →
      exec (.epCommitAck e) s = .next (commitEpoch e t)) ∧
  (∀ (i : LItem) (r : List LItem) (s : State),
      s.ldg.inbox = i :: r →
      ledgerOn s = true →
      exec .ldgItemAccept s = .next (placeItem (i.epoch.getD (epochOpen s)) i.use i.body i.item { s with ldg := { s.ldg with inbox := r } })) ∧
  (∀ (ns sl n q e : Nat) (r : List (Nat × Nat × Nat × Nat × Nat)) (s : State),
      s.ldg.hints = (ns, sl, n, q, e) :: r →
      ledgerOn s = true →
      owns { s with ldg := { s.ldg with hints := r } } ns = true →
      exec .deallocateApply s = .next ((hintGrains sl n).foldl (fun s g => unmapGrain ns q e g s) { s with ldg := { s.ldg with hints := r } })) ∧
  (∀ (c : CkptRun) (w : CkptWriter) (p : PageTree) (n : Nat) (freed : List Nat) (s t : State),
      s.ldg.running = some c →
      s.pln.writer = some w →
      ledgerOn s = true →
      alive s pgPLN = true →
      ckptOpen s w = false →
      (ckptKey s).isSome = true →
      writeSpine w c s = (some (p, n, freed), t) →
      ∃ u, exec .checkpointComplete s = .next u ∧ u.ldg.ckpt = c ∧ u.ldg.ckptGen = s.ldg.ckptGen + 1 ∧ u.ldg.running = none ∧ u.pln.tree = p ∧ u.pln.writer = none ∧ u.frg.idxCkpt = w.idx ∧ rd64 u pgPLN 0x168 = p.root.loc0)

/-- What each of these ledger commands leaves on a working ledger: a mismatch starts the judge; the judge's self-check ends with a core out, a retry or a fault; a repair starts and ends; ARM, TAKE, DELETE, CLONE and DISARM_ALL that nothing refuses are recorded and answered; the slag table is latched for a reader; replay reads the journal and the write cache is adopted. -/
def Obligations.JudgeAndSnapshotsComplete : Prop :=
  (∀ (b : Nat) (s t : State),
      alive s pgLDG = true →
      simplex s = false →
      judgeBusy s = false →
      coreSt s (1 - activeCore s) = 1 →
      t = wrF pgLDG 0x160 6 6 1 (bump pgLDG 0x168 1 s) →
      exec (.twinMismatch b) s = .next (ldgStat (hallmark 0x1601 0 (pw2 (judgeEpoch t) ++ [pw b]) (event pgLDG 2 0 t)))) ∧
  (∀ (u : Nat) (s t v : State),
      alive s pgLDG = true →
      judgeBusy s = true →
      u ≤ 400 →
      t = wrF pgLDG 0x160 6 6 0 (wr pgLDG 0x16C (BitVec.ofNat 32 (Nat.min u 0xFFFF + 2 ^ 16 + 2 ^ 17 + 2 ^ 18)) s) →
      v = (if t.ldg.retried then coreOut (1 - activeCore t) t else ({ t with ldg := { t.ldg with retried := true } } : State)) →
      exec (.judgeSelfCheckDone true true u) s = .next (tryClose (ldgStat (if ledgerOn v then (v.ldg.eps.map (·.1)).foldl (fun s e => flushFull e s) v else v)))) ∧
  (∀ (u : Nat) (s t v : State),
      alive s pgLDG = true →
      judgeBusy s = true →
      u ≤ 400 →
      t = wrF pgLDG 0x160 6 6 0 (wr pgLDG 0x16C (BitVec.ofNat 32 (Nat.min u 0xFFFF + 2 ^ 16)) s) →
      v = coreOut 1 t →
      exec (.judgeSelfCheckDone true false u) s = .next (tryClose (ldgStat (if ledgerOn v then (v.ldg.eps.map (·.1)).foldl (fun s e => flushFull e s) v else v)))) ∧
  (∀ (u : Nat) (s t v : State),
      alive s pgLDG = true →
      judgeBusy s = true →
      u ≤ 400 →
      t = wrF pgLDG 0x160 6 6 0 (wr pgLDG 0x16C (BitVec.ofNat 32 (Nat.min u 0xFFFF + 2 ^ 17)) s) →
      v = coreOut 0 t →
      exec (.judgeSelfCheckDone false true u) s = .next (tryClose (ldgStat (if ledgerOn v then (v.ldg.eps.map (·.1)).foldl (fun s e => flushFull e s) v else v)))) ∧
  (∀ (u : Nat) (s t v : State),
      alive s pgLDG = true →
      judgeBusy s = true →
      u ≤ 400 →
      t = wrF pgLDG 0x160 6 6 0 (wr pgLDG 0x16C (BitVec.ofNat 32 (Nat.min u 0xFFFF)) s) →
      v = recordFault pgLDG 0x80 0 t →
      exec (.judgeSelfCheckDone false false u) s = .next (tryClose (ldgStat (if ledgerOn v then (v.ldg.eps.map (·.1)).foldl (fun s e => flushFull e s) v else v)))) ∧
  (∀ (v : W32) (s t : State),
      t = commandWrite pgLDG 0x164 v s →
      bit v 0 = true →
      alive t pgLDG = true →
      coreSt t 0 = 2 →
      t.ldg.repairing = none →
      exec (.repairA v) s = .next (wrF pgLDG 0x164 0 0 1 { t with ldg := { t.ldg with repairing := some 0 } })) ∧
  (∀ (v : W32) (s t : State),
      t = commandWrite pgLDG 0x164 v s →
      bit v 1 = true →
      alive t pgLDG = true →
      coreSt t 1 = 2 →
      t.ldg.repairing = none →
      exec (.repairB v) s = .next (wrF pgLDG 0x164 1 1 1 { t with ldg := { t.ldg with repairing := some 1 } })) ∧
  (∀ (b : Bool) (c : Nat) (s t : State),
      s.ldg.repairing = some c →
      t = { s with ldg := { s.ldg with repairing := none } } →
      exec (.repairSelfCheckDone b) s = .next (if b then coreSet c 3 { t with ldg := { t.ldg with resyncNext := (closedEps s).any fun x => x.2.drainStarted && !x.2.drained } } else wrF pgLDG 0x164 c c 0 t)) ∧
  (∀ (v : W32) (ns id : Nat) (s t : State),
      snapBusy s = false →
      t = commandWrite pgLDG 0x14C v s →
      bits v 3 0 = 1 →
      live t pgLDG 0 = true →
      ledgerLive t = true →
      ns = rdF t pgLDG 0x140 13 0 →
      id = rdF t pgLDG 0x144 15 0 →
      takeCode t 0 (ns, id) = spDONE →
      (t.ldg.armed.any fun a => a.1 == ns) = true ∨ t.ldg.armed.length < 256 →
      exec (.snapArm v) s = .next (snapResult id spDONE false { t with ldg := { t.ldg with armed := (t.ldg.armed.filter fun a => a.1 != ns) ++ [(ns, id)] } })) ∧
  (∀ (v : W32) (ns id : Nat) (ps : List (Nat × Nat)) (s t : State),
      snapBusy s = false →
      t = commandWrite pgLDG 0x14C v s →
      bits v 3 0 = 2 →
      live t pgLDG 0 = true →
      ledgerLive t = true →
      ns = rdF t pgLDG 0x140 13 0 →
      id = rdF t pgLDG 0x144 15 0 →
      ps = (if t.ldg.armed = [] then [(ns, id)] else t.ldg.armed) →
      (∀ p ∈ ps, takeCode t (ps.length - 1) p = spDONE) →
      exec (.snapTake v) s = .next (takePairs id ps { t with ldg := { t.ldg with armed := [] } })) ∧
  (∀ (v : W32) (ns id : Nat) (e : Option Nat) (s t u : State),
      snapBusy s = false →
      t = commandWrite pgLDG 0x14C v s →
      bits v 3 0 = 3 →
      live t pgLDG 0 = true →
      ledgerLive t = true →
      ns = rdF t pgLDG 0x140 13 0 →
      id = rdF t pgLDG 0x144 15 0 →
      deleteCode t ns id = spDONE →
      deleteSnap ns id (rplSnapGone ns id t) = (e, u) →
      exec (.snapDelete v) s = .next (if e.isSome then snapWaits id false e u else snapResult id spDONE false u)) ∧
  (∀ (v : W32) (ns id : Nat) (c : Nat) (s t u : State),
      snapBusy s = false →
      t = commandWrite pgLDG 0x14C v s →
      bits v 3 0 = 4 →
      live t pgLDG 1 = true →
      ledgerLive t = true →
      ns = rdF t pgLDG 0x140 13 0 →
      id = rdF t pgLDG 0x144 15 0 →
      c = rdF t pgLDG 0x148 13 0 →
      cloneCode t ns id c = spDONE →
      u = placeItem (epochOpen t) .other 0 (.clone id ns c) t →
      exec (.snapClone v) s = .next (snapWaits id false (some (epochOpen t)) { u with ldg := { u.ldg with snapOps := u.ldg.snapOps ++ [(epochOpen t, .clone ns id c)] } })) ∧
  (∀ (v : W32) (s t : State),
      snapBusy s = false →
      t = commandWrite pgLDG 0x14C v s →
      bits v 3 0 = 5 →
      live t pgLDG 0 = true →
      ledgerLive t = true →
      exec (.snapDisarmAll v) s = .next (snapResult (rdF t pgLDG 0x144 15 0) spDONE false { t with ldg := { t.ldg with armed := [] } })) ∧
  (∀ (m : Nat) (s : State),
      live s pgLDG 3 = true →
      exec (.slagEntryRead m) s = .next (emit (.csrData m ((slagWords s).getD 0 0)) { s with ldg := { s.ldg with slagLatch := (s.ldg.slagLatch.filter fun l => l.1 != m) ++ [(m, slagWords s)] } })) ∧
  (∀ (s : State),
      s.ldg.replayed = false →
      s.ldg.ljWait = false →
      pgState s pgLDG ≠ stOFF →
      pgState s pgLDG ≠ stFAULT →
      alive s pgQST = true →
      live s pgWDL 3 = false ∨ linkUp s = false →
      (replayOwn s).refsOk = true →
      chainBroken s (replayOwn s) = false →
      exec (.ldgReplay false) s = .next (replayed (replayOwn s) s)) ∧
  (∀ (s t : State) (rs : List (Nat × Slot)),
      s.wc.restoring = true →
      s.ldg.replayed = true →
      rs = s.wc.slots.filter (fun e => mustDiscard s e.2) →
      t = bump pgQST 0x118 rs.length (rs.foldl (fun s e => freeSlot e.1 s) s) →
      exec .replayDone s = .next ((t.wc.slots.filter fun e => e.2.inq && e.2.aside && decide (e.2.st = .ready)).foldl loseRestored t))

/-- What each I/O command does where HQ dispatches and nothing refuses it: it takes its place in the table on arrival, a write allocates its slots and starts, a read is bound, a Flush ends at once or waits for its epoch, the ranges of a Dataset Management are taken, and a whole write's grains are marked whole. -/
def Obligations.HostIoCommandsComplete : Prop :=
  (∀ (qp : Nat) (q i : List Byte) (sq : Sq) (c : Cmd) (s t u : State),
      running s pgHQ = true →
      inQ s = false →
      pwrState s = psP0 →
      Tab.find? s.hq.sqs qp = some sq →
      t = { ({ s with xpt := { s.xpt with capsules := s.xpt.capsules.erase (qp, q ++ i) } } : State) with hq := { s.hq with sqs := Tab.put s.hq.sqs qp { sq with head := (sq.head + 1) % sq.depth } } } →
      c = newCmd qp q i t →
      u = { ({ t with hq := { t.hq with cmds := t.hq.cmds ++ [c], seq := t.hq.seq + 1 } } : State) with wc := { t.wc with wseq := Nat.max t.wc.wseq c.wseq } } →
      opcodeOk u c = true →
      c.verdict = 0 →
      exec (.capsuleArrival qp q i) s = .next (if isAdmin u c || c.nsid = 0xFFFFFFFF then u else offered c u)) ∧
  (∀ (qp cid : Nat) (k : Cmd) (is : List Nat) (s t : State),
      ioCmd s qp cid opWRITE = some k →
      dispatching s = true →
      checkNow s k = 0 →
      heldBack s k = false →
      yields s k = false →
      sglCheck s k (k.declared s) = 0 →
      wcAlloc k.grains s = some (is, t) →
      exec (.nvmeWrite qp cid) s = .next (startWrite k is (sglExcess k (k.declared t) (charge k t)))) ∧
  (∀ (qp cid : Nat) (k : Cmd) (is : List Nat) (s t : State),
      ioCmd s qp cid opZEROES = some k →
      dispatching s = true →
      checkNow s k = 0 →
      heldBack s k = false →
      yields s k = false →
      wcAlloc k.grains s = some (is, t) →
      exec (.nvmeWriteZeroes qp cid) s = .next (startWrite k is (charge k t))) ∧
  (∀ (qp cid : Nat) (k : Cmd) (s : State),
      cmdFind s qp cid = some k →
      k.st = .executing →
      k.isWrite = true →
      k.landed = false →
      k.declared s ≤ k.got →
      writePi s k = none →
      exec (.writeDataLanded qp cid) s = .next (k.slots.foldl (fun s i => slotPut i { slotOf s i with whole := true } s) (cmdPut { k with landed := true } s))) ∧
  (∀ (qp cid : Nat) (k : Cmd) (s t : State),
      ioCmd s qp cid opFLUSH = some k →
      dispatching s = true →
      checkNow s k = 0 →
      yields s k = false →
      t = (if k.nsid = 0xFFFFFFFF then s else charge k s) →
      exec (.nvmeFlush qp cid) s = .next (if k.epoch.getD 0 ≤ epochCommitted t then hqFinish qp cid scSUCCESS t else askClose (cmdPut { k with st := .executing } t))) ∧
  (∀ (qp cid : Nat) (k : Cmd) (s : State),
      ioCmd s qp cid opVERIFY = some k →
      dispatching s = true →
      checkNow s k = 0 →
      heldBack s k = false →
      yields s k = false →
      exec (.nvmeVerify qp cid) s = .next (bindAll k (charge k s))) ∧
  (∀ (qp cid : Nat) (k : Cmd) (s : State),
      ioCmd s qp cid opREAD = some k →
      dispatching s = true →
      checkNow s k = 0 →
      heldBack s k = false →
      yields s k = false →
      sglCheck s k (k.declared s) = 0 →
      exec (.nvmeRead qp cid) s = .next (sglExcess k (k.declared s) (bindAll k (charge k s)))) ∧
  (∀ (qp cid : Nat) (k j : Cmd) (s t : State),
      ioCmd s qp cid opCOMPARE = some k →
      dispatching s = true →
      checkNow s k = 0 →
      heldBack s k = false →
      yields s k = false →
      sglCheck s k (k.declared s) = 0 →
      t = sglExcess k (k.declared s) (bindAll k (charge k s)) →
      cmdFind t qp cid = some j →
      exec (.nvmeCompare qp cid) s = .next (hostRead j 0 (k.declared s) (cmdPut { j with icd := [] } t))) ∧
  (∀ (qp cid : Nat) (k : Cmd) (s : State),
      ioCmd s qp cid opDSM = some k →
      dispatching s = true →
      checkNow s k = 0 →
      heldBack s k = false →
      yields s k = false →
      sglCheck s k (k.hostBytes s) = 0 →
      exec (.nvmeDatasetManagement qp cid) s = .next (hostRead k 0 (k.hostBytes s) (cmdPut { k with st := .executing, icd := [] } (sglExcess k (k.hostBytes s) (charge k s))))) ∧
  (∀ (qp cid : Nat) (k : Cmd) (s : State),
      cmdFind s qp cid = some k →
      k.opcode = opDSM →
      isAdmin s k = false →
      k.st = .executing →
      k.hostBytes s ≤ k.got →
      exec (.nvmeDatasetManagement qp cid) s = .next (dsmDone k k.icd s)) ∧
  (∀ (qp cid : Nat) (k : Cmd) (s : State),
      cmdFind s qp cid = some k →
      k.st = .queued →
      opcodeOk s k = false →
      dispatching s = true →
      exec (.invalidOpcode qp cid) s = .next (hqFinish qp cid scBAD_OPCODE s))

/-- What each admin or Fabrics command does where HQ serves it: Connect creates a controller or an I/O queue, properties are read and set, a queue is closed, what firmware serves is handed to it and its reply completes the command, an abort aborts nothing, an event request waits, Keep Alive completes, and an expired keep-alive timer removes the controller. -/
def Obligations.HostAdminCommandsComplete : Prop :=
  (∀ (qp cid : Nat) (k : Cmd) (s t : State),
      adminCmd s qp cid 0x7F = some k →
      k.fctype = 0x01 →
      dispatching s = true →
      k.verdict = 0 →
      k.inCapsule = true →
      k.f 42 2 = 0 →
      k.f 44 2 ≠ 0 →
      1024 ≤ k.icData.length →
      Tab.find? s.hq.sqs qp = none →
      s.hq.sqs.length < maxSqs →
      depthSum s + (k.f 44 2 + 1) ≤ maxDepth →
      s.hq.ctrls.length < maxCtrls →
      t = (draw s).2 →
      exec (.fabricsConnect qp cid) s = .next (hqFinishDw qp cid scSUCCESS (pw (freeCtrl (Config.free32 s.free) s)) 0 (openQueue qp ⟨freeCtrl (Config.free32 s.free) s, 0, k.f 44 2 + 1, 1⟩ { t with hq := { t.hq with ctrls := Tab.put t.hq.ctrls (freeCtrl (Config.free32 s.free) s) { katoMs := grantKato t (k.f 48 4) } } }))) ∧
  (∀ (qp cid c : Nat) (k : Cmd) (x : Ctrl) (s : State),
      adminCmd s qp cid 0x7F = some k →
      k.fctype = 0x01 →
      dispatching s = true →
      k.verdict = 0 →
      k.inCapsule = true →
      k.f 42 2 ≠ 0 →
      k.f 44 2 ≠ 0 →
      1024 ≤ k.icData.length →
      Tab.find? s.hq.sqs qp = none →
      s.hq.sqs.length < maxSqs →
      depthSum s + (k.f 44 2 + 1) ≤ maxDepth →
      c = field k.icData 16 2 →
      Tab.find? s.hq.ctrls c = some x →
      (s.hq.sqs.any fun e => e.2.ctrl == c && e.2.qid == k.f 42 2) = false →
      (s.hq.sqs.filter fun e => e.2.ctrl == c && e.2.qid != 0).length < maxIoQueues →
      exec (.fabricsConnect qp cid) s = .next (hqFinishDw qp cid scSUCCESS (pw c) 0 (openQueue qp ⟨c, k.f 42 2, k.f 44 2 + 1, 1⟩ s))) ∧
  (∀ (qp cid n : Nat) (k : Cmd) (x : Ctrl) (s : State),
      adminCmd s qp cid 0x7F = some k →
      ctrlOf s qp = some (n, x) →
      k.fctype = 0x04 →
      dispatching s = true →
      k.verdict = 0 →
      k.f 44 4 = 0x14 →
      k.f 40 1 % 8 ≠ 1 →
      exec (.propertyGet qp cid) s = .next (hqFinishDw qp cid scSUCCESS x.cc 0 s)) ∧
  (∀ (qp cid n : Nat) (k : Cmd) (x : Ctrl) (s t : State),
      adminCmd s qp cid 0x7F = some k →
      ctrlOf s qp = some (n, x) →
      k.fctype = 0x00 →
      dispatching s = true →
      k.verdict = 0 →
      k.f 44 4 = 0x14 →
      t = hqFinish qp cid scSUCCESS { s with hq := { s.hq with ctrls := Tab.put s.hq.ctrls n { x with cc := BitVec.ofNat 32 (k.f 48 4) } } } →
      exec (.propertySet qp cid) s = .next (if bit (BitVec.ofNat 32 (k.f 48 4)) 0 then t else deleteCtrlQueues n qdCC_EN t)) ∧
  (∀ (qp cid : Nat) (k : Cmd) (s : State),
      adminCmd s qp cid 0x7F = some k →
      k.fctype = 0x08 →
      dispatching s = true →
      k.verdict = 0 →
      exec (.fabricsDisconnect qp cid) s = .next (deleteQueue qp qdDISCONNECT (hqFinish qp cid scSUCCESS s))) ∧
  (∀ (qp cid : Nat) (k : Cmd) (s : State),
      adminCmd s qp cid 0x02 = some k →
      dispatching s = true →
      k.verdict = 0 →
      exec (.getLogPage qp cid) s = .next (handOff k s)) ∧
  (∀ (qp cid : Nat) (k : Cmd) (s : State),
      adminCmd s qp cid 0x06 = some k →
      dispatching s = true →
      k.verdict = 0 →
      exec (.identify qp cid) s = .next (handOff k s)) ∧
  (∀ (qp cid : Nat) (k : Cmd) (s : State),
      adminCmd s qp cid 0x09 = some k →
      dispatching s = true →
      k.verdict = 0 →
      k.inCapsule = true ∨ k.descs.isSome = false ∨ k.described = 0 →
      exec (.setFeatures qp cid) s = .next (handOff k s)) ∧
  (∀ (qp cid : Nat) (k : Cmd) (s : State),
      pulled s qp cid 0x09 = some k →
      exec (.setFeatures qp cid) s = .next (handOff k s)) ∧
  (∀ (qp cid : Nat) (k : Cmd) (s : State),
      pulled s qp cid 0x7F = some k →
      k.fctype = 0x01 →
      exec (.fabricsConnect qp cid) s = .next (connect k k.icd s)) ∧
  (∀ (qp cid : Nat) (k : Cmd) (s : State),
      adminCmd s qp cid 0x0A = some k →
      dispatching s = true →
      k.verdict = 0 →
      exec (.getFeatures qp cid) s = .next (handOff k s)) ∧
  (∀ (qp cid : Nat) (k : Cmd) (s : State),
      adminCmd s qp cid 0x08 = some k →
      dispatching s = true →
      k.verdict = 0 →
      exec (.nvmeAbort qp cid) s = .next (hqFinishDw qp cid scSUCCESS 1 0 (bump pgHQ 0x15C 1 s))) ∧
  (∀ (qp cid n : Nat) (k : Cmd) (x : Ctrl) (s : State),
      adminCmd s qp cid 0x0C = some k →
      ctrlOf s qp = some (n, x) →
      dispatching s = true →
      k.verdict = 0 →
      x.aer.length < 16 →
      x.aePend = [] →
      exec (.asynchronousEventRequest qp cid) s = .next (cmdPut { k with st := .executing } { s with hq := { s.hq with ctrls := Tab.put s.hq.ctrls n { x with aer := x.aer ++ [(qp, cid)] } } })) ∧
  (∀ (qp cid : Nat) (k : Cmd) (s : State),
      adminCmd s qp cid 0x18 = some k →
      alive s pgHQ = true →
      inQ s = false →
      pwrState s = psP0 →
      exec (.keepAlive qp cid) s = .next (hqFinish qp cid k.verdict s)) ∧
  (∀ (v : W32) (k : Cmd) (s t u : State),
      t = commandWrite pgHQ 0x1AC v s →
      firmwareCmd t (bits v 15 0) = some k →
      u = noteFeature k (bits v 31 17) (hostWrite k 0 (memRead t (rd64 t pgHQ 0x190).toNat (rd t pgHQ 0x198).toNat) t) →
      cplHeld u = false →
      exec (.adminReply v) s = .next (postCqe { k with dw0 := rd u pgHQ 0x1A0, dw1 := rd u pgHQ 0x1A4, status := 2 * bits v 31 17 } (2 * bits v 31 17) u)) ∧
  (∀ (n : Nat) (x : Ctrl) (s t : State),
      Tab.find? s.hq.ctrls n = some x →
      x.katoMs ≠ 0 →
      inQ s = false →
      t = hallmark 0x1007 0 [pw n] (deleteCtrlQueues n qdKATO s) →
      exec (.katoExpiry n) s = .next { t with hq := { t.hq with ctrls := Tab.erase t.hq.ctrls n } })

/-- HQ_HOLD starts and ends a hold, and its timer ends it; the buckets refill and the window ends where QoS is live; a minimum within the caps is taken with its sums; a namespace's configuration is taken, and the first owner of a namespace made active here is recorded (who it is: the model's choice, log entry 182). -/
def Obligations.HoldAndQosComplete : Prop :=
  (∀ (v : W32) (s : State),
      bit (rd s pgHQ 0x104) 0 = false →
      bit v 0 = true →
      exec (.hqHoldWrite v) s = .next (holdStart (blockWrite pgHQ 0x104 v s))) ∧
  (∀ (v : W32) (s : State),
      bit (rd s pgHQ 0x104) 0 = true →
      bit v 0 = false →
      exec (.hqHoldWrite v) s = .next (holdEnd (blockWrite pgHQ 0x104 v s))) ∧
  (∀ (s : State),
      bit (rd s pgHQ 0x104) 0 = true →
      exec .holdExpiry s = .next (hallmark 0x1005 0 [pw (holdMs s)] (wrF pgHQ 0x104 1 1 1 (holdEnd s)))) ∧
  (∀ (s : State),
      live s pgHQ 4 = true →
      exec .qosBucketRefill s = .next { s with hq := { s.hq with ns := s.hq.ns.map fun e => (e.1, { e.2 with
        tokOps := refill e.2.tokOps (opsPerRefill (bits e.2.qmax 15 0))
        tokBytes := refill e.2.tokBytes (bytesPerRefill (bits e.2.qmax 31 16))
        resOps := refill e.2.resOps (opsPerRefill (bits e.2.qmin 15 0))
        resBytes := refill e.2.resBytes (bytesPerRefill (bits e.2.qmin 31 16)) }) } }) ∧
  (∀ (s : State),
      live s pgHQ 4 = true →
      ∃ t, exec .qosWindowEnd s = .next t ∧ t.hq.ns = (s.hq.ns.foldl qosMiss s).hq.ns.map (fun e => (e.1, { e.2 with offOps := 0, offBytes := 0, gotOps := 0, gotBytes := 0 }))) ∧
  (∀ (v : W32) (n a b : Nat) (s t : State),
      n = nsSel s →
      t = commandWrite pgHQ 0x120 v s →
      a = qosSum t n 31 16 v →
      b = qosSum t n 15 0 v →
      a ≤ rdF t pgHQ 0x12C 31 16 →
      b ≤ rdF t pgHQ 0x12C 15 0 →
      exec (.qosMinWrite v) s = .next (wr pgHQ 0x130 (BitVec.ofNat 32 (a * 65536 + b)) (nsPut n { nsOf t n with qmin := v } t))) ∧
  (∀ (v w : W32) (n : Nat) (s t : State),
      n = nsSel s →
      t = commandWrite pgHQ 0x114 v s →
      (nsOf t n).active = false →
      w = BitVec.ofNat 32 (bits v 21 16 * 2 ^ 16 + bits v 5 2 * 4 + bits v 0 0) →
      bit w 0 = true →
      exec (.nsCfgWrite v) s = .next (claimNs n (nsPut n { nsOf t n with cfg := w } t)))

/-- A handle that WC forms, at the forge it picks, enters that forge's window and its slot is FORGING; intake of a good copy goes on to the zero test, fingerprint and lookup; a copy that fails its CRC is asked for again, a good second copy goes on the same way, and 4 µs without one give the grain up as SLAG. -/
def Obligations.ForgeIntakeCompletes : Prop :=
  (∀ (f : Nat) (b : List Byte) (h : Handle) (i : Nat) (s t u : State),
      running s (pgFRG + f) = true →
      inQ s = false →
      bit (rd s (pgFRG + f) 0x104) 0 = false →
      freePlaces s f ≠ 0 →
      handleRsvd b = false →
      h = Handle.ofBytes b →
      h.epoch = forgeEpoch s f →
      pickForge s = some f →
      mayHand s h = true →
      grainFind s f h.seq = none →
      i = slotAt s h.slot →
      t = ungate (pgFRG + f) s →
      u = startEpoch h.epoch (slotPut i { slotOf s i with st := .forging } t) →
      exec (.forgeHandle f b) s = .next (frgStat f (fwinPut f (fwinOf u f ++ [{ h := h }]) u))) ∧
  (∀ (f q : Nat) (d p : List Byte) (g : FGrain) (s : State),
      forging s f = true →
      grainFind s f q = some g →
      g.read = false →
      g.refetch = false →
      slotData s g.h.slot = d →
      slotPi s g.h.slot g.h.pif = p →
      (crc32c (d ++ p)).toNat = g.h.crc →
      exec (.grainIntakeDone f q false) s = .next (frgTurn f (intakeGood f g d p s))) ∧
  (∀ (f q : Nat) (g : FGrain) (s : State),
      forging s f = true →
      grainFind s f q = some g →
      g.read = false →
      g.refetch = false →
      g.h.single = true →
      exec (.grainIntakeDone f q true) s = .next (frgTurn f (grainPut f { g with refetch := true } s))) ∧
  (∀ (f q : Nat) (b : List Byte) (g : FGrain) (s t u : State),
      forging s f = true →
      grainFind s f q = some g →
      g.refetch = true →
      g.h.single = true →
      otherCopy s g = some b →
      (crc32c b).toNat = g.h.crc →
      t = { s with frg := { s.frg with copies := Tab.erase s.frg.copies (slotAt s g.h.slot) } } →
      u = hallmark 0x1101 f ([pw g.h.ns] ++ pw2 g.h.grain ++ [2]) (bump (pgFRG + f) 0x148 1 t) →
      exec (.grainRefetchData f q) s = .next (frgTurn f (intakeGood f g (b.take 8192) (b.drop 8192) u))) ∧
  (∀ (f q : Nat) (g : FGrain) (s : State),
      forging s f = true →
      grainFind s f q = some g →
      g.refetch = true →
      exec (.refetchTimeout f q) s = .next (frgTurn f (slagGrainIn f g (hallmark 0x1101 f ([pw g.h.ns] ++ pw2 g.h.grain ++ [0]) (bump (pgFRG + f) 0x148 1 s))))) ∧
  (∀ (v : W32) (s : State),
      clockStopped s pgFRG 0x210 = false →
      bit v 0 = true →
      exec (.fltClear v) s = .next (fltPut [] (commandWrite pgFRG 0x210 v s))) ∧
  (∀ (v : W32) (s : State) (d : Nat) (r : RegDef),
      clockStopped s pgFRG 0x224 = false →
      regAt pgFRG 0x224 = some r →
      locked s pgFRG 3 = false →
      d = rdF s pgFRG 0x220 5 0 →
      exec (.domCfgWrite v) s = .next (noteRsvd pgFRG 0x224 r v { s with frg := { s.frg with dom := Tab.setD s.frg.dom 0x01E00065#32 d (r.apply (Tab.getD s.frg.dom 0x01E00065#32 d) v) } }))

/-- A posted lookup is evaluated where its pages are resident; a page that arrives becomes resident; a lookup that waits too long on a PENDING entry, or beyond its budget, is settled as a miss and counted; a verify whose plaintext matches takes its reference, one whose plaintext differs is counted and settled as a miss, and one that times out is a miss. -/
def Obligations.IndexLookupsComplete : Prop :=
  (∀ (f q : Nat) (g : FGrain) (s : State),
      forging s f = true →
      grainFind s f q = some g →
      g.look = .asked →
      alive s pgASY = true →
      pagesThere s g.fp = true →
      exec (.lookupAnswer f q) s = .next (frgTurn f (evalLook f g (keepPage (idxPages s g.fp).1 (keepPage (idxPages s g.fp).2 s))))) ∧
  (∀ (f q : Nat) (g : FGrain) (s t : State),
      forging s f = true →
      grainFind s f q = some g →
      g.look = .pend →
      t = hallmark 0x1104 f [pw g.h.domain, pw (field g.fp 0 4), pw (field g.fp 4 4)] (bump (pgFRG + f) 0x154 1 s) →
      matchEnt t g = none →
      exec (.pendingTimeout f q) s = .next (frgTurn f (settleMiss f { g with look := .late } t))) ∧
  (∀ (f q p : Nat) (g : FGrain) (s : State),
      alive s pgASY = true →
      f < 16 →
      grainFind s f q = some g →
      g.look = .page →
      (idxPages s g.fp).1 = p →
      exec (.indexPageFetchDone p) s = .next ((List.range 16).foldl (fun s f => ((fwinOf s f).filter fun g => g.look == .page).foldl (fun s g => withGrain f g.h.seq (fun g s => if pagesThere s g.fp then evalLook f g s else s) s) s) (keepPage p s))) ∧
  (∀ (f q : Nat) (g : FGrain) (s : State),
      forging s f = true →
      grainFind s f q = some g →
      g.asking = true →
      exec (.lookupBudgetExpiry f q) s = .next (frgTurn f (settleMiss f { g with look := .late } (bump (pgFRG + f) 0x144 1 s)))) ∧
  (∀ (f q n : Nat) (a : W64) (g : FGrain) (s : State),
      forging s f = true →
      grainFind s f q = some g →
      g.look = .cand a n →
      Tab.find? s.drp.answers (f * 256 + q) = some (some (g.data, g.pi)) →
      exec (.verifyPlaintext f q) s = .next (frgTurn f (verifyTake f g a (dropVerify f q s)))) ∧
  (∀ (f q n : Nat) (a : W64) (d p : List Byte) (g : FGrain) (s t : State),
      forging s f = true →
      grainFind s f q = some g →
      g.look = .cand a n →
      Tab.find? s.drp.answers (f * 256 + q) = some (some (d, p)) →
      d ≠ g.data ∨ p ≠ g.pi →
      t = bump (pgFRG + f) 0x150 1 (dropVerify f q s) →
      exec (.verifyPlaintext f q) s = .next (frgTurn f (match g.gloc with
        | some new => verifyMiss f { g with replaces := some a } (hallmark 0x1102 f (pw2 a.toNat ++ pw2 new.toNat) t)
        | none => verifyMiss f { g with replaces := some a, differs := some a } t))) ∧
  (∀ (f q n : Nat) (a : W64) (g : FGrain) (s : State),
      forging s f = true →
      grainFind s f q = some g →
      g.look = .cand a n →
      exec (.verifyTimeout f q) s = .next (frgTurn f (verifyMiss f g s)))

/-- A seal that the Tinning unit has run gives the grain its body; seals held for a key are tried again; a holder that wants a billet gets one from an open ingot; and the front hand-in of a forge's queue enters the casting buffer or the ledger by its kind. -/
def Obligations.SealsAndHandInsComplete : Prop :=
  (∀ (f q k : Nat) (g : FGrain) (s t : State),
      forging s f = true →
      (grainFind s f q).isSome = true →
      t = frgTurn f s →
      grainFind t f q = some g →
      g.sealing = .running k →
      g.look = .queued →
      exec (.sealDone f q) s = .next (frgTurn f (grainPut f { g with sealing := .done (sealBody t k g.h.domain (g.gloc.getD 0) g.len16 g.h.epoch (g.payload ++ pad16 g.pi)) } t))) ∧
  (∀ (f : Nat) (s : State),
      forging s f = true →
      exec (.keyWaitRetry f) s = .next (frgTurn f (fwinPut f ((fwinOf s f).map fun g => if g.sealing = .keyWait then { g with sealing := .asked } else g) s))) ∧
  (∀ (h : Nat) (c : Casting) (s t : State),
      running s pgING = true →
      inQ s = false →
      (billetOf s h).isNone = true →
      wantsBillet s h = true →
      billetSource s h (if 16 ≤ h then epochOpen s else forgeEpoch s h) = some c →
      t = castingPut { c with billets := c.billets ++ [⟨h, 0, false⟩] } s →
      exec (.billetGrant h) s = .next (if 16 ≤ h then t else frgTurn h (resumeSeals h (fwinOf t h) t))) ∧
  (∀ (f : Nat) (h : HandIn) (s t : State),
      f ≠ 16 →
      takeIn hiBODY f s = some (h, t) →
      exec (.handInBody f) s = .next (publish h (workUp (glocBody h.gloc).toNat (placeIn h t)))) ∧
  (∀ (h : HandIn) (s t : State),
      takeIn hiBODY 16 s = some (h, t) →
      exec (.handInBody 16) s = .next (placeIn h t)) ∧
  (∀ (h : HandIn) (s t : State),
      ingOn s = true →
      Tab.getD s.frg.outs [] 16 = [] →
      takeIn hiBODY 16 (ckptPost s) = some (h, t) →
      exec (.handInBody 16) s = .next (placeIn h t)) ∧
  (∀ (f : Nat) (h : HandIn) (s t : State),
      takeIn hiREF f s = some (h, t) →
      exec (.handInRef f) s = .next (toLedger { epoch := some h.epoch, use := .dedup, body := (glocBody h.gloc).toNat, item := .mapChange h.ns h.grain { gloc := h.gloc, birth := h.epoch, len16 := h.len16, mapped := true, shared := true } 0 } t)) ∧
  (∀ (f : Nat) (h : HandIn) (s t : State),
      takeIn hiZERO f s = some (h, t) →
      exec (.handInZero f) s = .next (toLedger { epoch := some h.epoch, item := .mapChange h.ns h.grain (zeroEntry h.epoch) 0 } t)) ∧
  (∀ (f : Nat) (h : HandIn) (s t : State),
      takeIn hiSLAG f s = some (h, t) →
      exec (.handInSlag f) s = .next (slagAdd (slagGrain slCRC h.ns h.grain) (toLedger { epoch := some h.epoch, item := .mapChange h.ns h.grain (slagEntry h.epoch) 0 } t))) ∧
  (∀ (f : Nat) (h : HandIn) (s t : State),
      takeIn hiCULL f s = some (h, t) →
      exec (.handInCull f) s = .next (placeIn h t)) ∧
  (∀ (s t u : State),
      exiting s = true →
      inQ s = false →
      t = settleFlushes (unparkDom dmDDR (unparkDom dmFORGE (unparkDom dmHBM (scPowerUp s)))) →
      u = ((octets t 0 ++ octets t 1).filter fun n => bit (rd t (pgSRD + n) 0x044) 5).foldl (fun s n => laneSet n true s) t →
      exec .powerExitComplete s = .next (hallmark 0x3201 0 [pw (pwrState s), pw psP0, pw (rdF s pgPWR 0x104 27 24)] (setVdd (applyFreq (wrF pgHQ 0x108 3 3 0 (wrF pgPWR 0x104 31 31 0 (wrF pgPWR 0x104 2 0 psP0 (setAsleep [] u))))))))

/-- A landed slot is held and its grain goes to the partner; the partner's copy is taken and acknowledged; an acknowledgement, a refusal and a timeout act on the held slot; a ready slot is stamped; and stamps, releases and frees act on mirror slots. -/
def Obligations.MirrorWritesComplete : Prop :=
  (∀ (i : Nat) (c : Cmd) (x : Slot) (s t : State),
      x = slotOf s i →
      slotCmd s x = some c →
      x.st = .landing →
      slotLanded s x = true →
      x.lo = true →
      x.hi = true →
      t = genPi c i 1 (genPi c i 0 s) →
      exec (.slotLandingDone i) s = .next (if sendsMirror (slotPut i { slotCrcs t i with st := .held } t) then sendGrain i (slotPut i { slotCrcs t i with st := .held } t) else slotPut i { slotCrcs t i with st := .held } t)) ∧
  (∀ (i : Nat) (h d : List Byte) (s t : State),
      t = takeRx 0x01 s →
      running t pgWC = true →
      inQ t = false →
      exec (.mirGrain i h d false) s = .next (sendW clsMIRROR 0x02 i [] (mirPut i (Slot.ofHeader h) (memWrite (mirAddr t i) (slice d 0 8224) t)))) ∧
  (∀ (i : Nat) (x : Slot) (s t : State),
      t = takeRx 0x02 s →
      x = slotOf s i →
      x.st = .held →
      exec (.mirAck i) s = .next (slotPut i { x with mirrored := true } t)) ∧
  (∀ (i n : Nat) (s t : State),
      t = takeRx 0x03 s →
      (slotOf t i).st = .held →
      exec (.mirNak i n) s = .next (degrade n i (bump pgWC 0x184 1 t))) ∧
  (∀ (i : Nat) (x : Slot) (s : State),
      x = slotOf s i →
      x.st = .held →
      x.mirrored = false →
      mirroring s = true →
      x.resends < rdF s pgWC 0x100 19 16 →
      exec (.mirrorTimeout i) s = .next (sendGrain i (bump pgWC 0x180 1 (slotPut i { x with resends := x.resends + 1 } s)))) ∧
  (∀ (i : Nat) (x : Slot) (s : State),
      x = slotOf s i →
      x.st = .held →
      x.mirrored = false →
      mirroring s = true →
      rdF s pgWC 0x100 19 16 ≤ x.resends →
      exec (.mirrorTimeout i) s = .next (degrade 4 i s)) ∧
  (∀ (i : Nat) (x : Slot) (s t u : State),
      x = slotOf s i →
      readyOk s x = true →
      t = stamp i (readHeader i s) →
      u = ((t.hq.cmds.find? fun c => c.isWrite && c.wseq == x.wseq).elim t fun c => cmdPut { c with epoch := some (epochOpen t) } t) →
      exec (.slotReady i) s = .next (overBudget (writeProgress x.wseq (if x.mirrored then sendW clsMIRROR 0x04 (epochOpen u) (slotList [i]) u else u)))) ∧
  (∀ (e i : Nat) (s t : State),
      t = takeRx 0x04 s →
      (mirOf t i).st = .held →
      exec (.mirStamp e [i]) s = .next (mirPut i { mirOf t i with st := .ready, epoch := e } t)) ∧
  (∀ (i : Nat) (s t : State),
      t = takeRx 0x05 s →
      (mirOf t i).st = .held ∨ (mirOf t i).st = .ready →
      exec (.mirRelease [i]) s = .next (mirPut i {} t)) ∧
  (∀ (e : Nat) (s t : State),
      t = takeRx 0x06 s →
      t.ldg.peerRecords.contains e = true →
      exec (.mirFree e) s = .next ((t.wc.mirror.filter fun m => decide (m.2.st = .ready ∧ m.2.epoch ≤ e)).foldl (fun s m => mirPut m.1 {} s) t)) ∧
  (∀ (i : Nat) (d p : List Byte) (s : State),
      missing (slotOf s i) = some 0 →
      (slotOf s i).st = .ready →
      (liveEntry s.ldg.img (slotOf s i).ns (slotOf s i).grain).mapped = true →
      (liveEntry s.ldg.img (slotOf s i).ns (slotOf s i).grain).zero = false →
      exec (.fill i d p) s = .next (recrc i (bump pgWC 0x18C 1 (slotPut i { slotOf s i with lo := true } (memWrite (ownAddr s i + 0x2000) (slice p 0 (pifBytes (slotOf s i).pif)) (memWrite (ownAddr s i) (slice d 0 4096) s))))))

/-- The partner's hold and quench notices are taken; a single or degraded head writes a held grain through to the quench store; MIRROR_RESUME mirrors again; an over-budget cache asks for an early close; the hold sense and hold energy are read; a hold test starts and ends; and adoption and catch-up end. -/
def Obligations.HoldEnergyAndBudgetComplete : Prop :=
  (∀ (h p : Nat) (s t : State),
      t = { takeRx 0x07 s with wc := { (takeRx 0x07 s).wc with peerH := h, peerShare := p } } →
      exec (.mirHold h p) s = .next (rebudget (if shareConflict t then hallmark 0x1A05 0 [pw (sharePct t), pw p] t else t))) ∧
  (∀ (s t : State),
      t = { takeRx 0x08 s with wc := { (takeRx 0x08 s).wc with peerQuench := true } } →
      exec .mirQuench s = .next (degrade 5 0xFFFFFFFF t)) ∧
  (∀ (i : Nat) (x : Slot) (s : State),
      x = slotOf s i →
      x.st = .held →
      x.inq = false →
      s.wc.single = true →
      pgState s pgQST ≠ stFAULT →
      inQ s = false →
      exec (.writeThroughDone i) s = .next (slotPut i { x with inq := true } (qstWrite (i * 0x2000) (memRead (writeEntry false i { x with inq := true } (slotPi s (ownAddr s i) x.pif) s) (ownAddr s i) 8192) (writeEntry false i { x with inq := true } (slotPi s (ownAddr s i) x.pif) s)))) ∧
  (∀ (v : W32) (s t : State),
      t = commandWrite pgWC 0x118 v s →
      bit v 0 = true →
      linkUp t = true →
      tstate t = tsPAIRED →
      live t pgWC 0 = true →
      exec (.mirrorResume v) s = .next (sendHold (rebudget { t with wc := { t.wc with degraded := false, single := false, peerQuench := false } }))) ∧
  (∀ (s : State),
      bit (rd s pgWC 0x11C) 8 = true →
      exec .overBudgetCloseTick s = .next (askClose s)) ∧
  (∀ (n : Nat) (s : State),
      exec (.holdSenseSample n) s = .next (wr pgAON 0x100 (pw (n * 1200000 / 4096)) s)) ∧
  (∀ (s : State),
      alive s pgWC = true →
      exec .holdEnergyRecompute s = .next (updateHold (wr pgWC 0x160 (pw (Nat.min (holdEnergy s) 0xFFFFFFFF)) { s with wc := { s.wc with budgetKnown := true } }))) ∧
  (∀ (s : State),
      live s pgWC 2 = true →
      inQ s = false →
      pwrState s = psP0 →
      bit (rd s pgWC 0x168) 0 = false →
      exec .holdTestStart s = .next { wrF pgWC 0x168 0 0 1 s with aon := { s.aon with holdLoad := true } }) ∧
  (∀ (v : W32) (s t : State),
      t = commandWrite pgWC 0x16C v s →
      bit v 0 = true →
      live t pgWC 2 = true →
      inQ t = false →
      pwrState t = psP0 →
      bit (rd t pgWC 0x168) 0 = false →
      exec (.testNow v) s = .next { wrF pgWC 0x168 0 0 1 t with aon := { t.aon with holdLoad := true } }) ∧
  (∀ (u d : Nat) (s t : State),
      bit (rd s pgWC 0x168) 0 = true →
      d = u * rdF s pgWC 0x140 15 0 / 256 →
      d ≠ 0 →
      t = (draw (wr pgWC 0x158 (holdCap s d) (wrF pgWC 0x168 0 0 0 s))).2 →
      exec (.holdTestEnd u) s = .next (hallmark 0x1A06 0 [pw (d / 1000), holdCap s d] { t with aon := { t.aon with holdLoad := false } })) ∧
  (∀ (s t u w : State) (g : List Nat),
      s.wc.adopting = true →
      s.ldg.peerTaken = true →
      t = s.wc.adoptees.foldl adoptOne s →
      u = hallmark 0x1A07 0 [pw s.wc.adoptees.length, pw t.wc.freedAtTakeover] { t with wc := { t.wc with adopting := false, adoptees := [], catchup := t.wc.catchup ++ t.wc.adoptees } } →
      g = ((u.hq.ns.filter fun e => e.2.active).map (·.1)).filter (fun m => !owns u m) →
      w = { u with ldg := { u.ldg with owned := u.ldg.owned ++ g, given := [] } } →
      exec .adoptionComplete s = .next (overBudget (if g.isEmpty then w else hqAsync aeANA w))) ∧
  (∀ (s : State),
      s.wc.single = true →
      ∃ t, exec .catchupDone s = .next t ∧ t.wc.catchup = [])

/-- A quench trigger starts the sequencer, which saves the directory, then the data, then releases the rails and resets the chip; after it the directory is loaded, and the grains that remain are stamped. -/
def Obligations.QuenchAndRestoreComplete : Prop :=
  (∀ (n : Nat) (s : State),
      1 ≤ n →
      n ≤ 5 →
      inQ s = false →
      ∃ t, exec (.quenchStart n) s = .next t ∧ t = startQuench n s ∧ t.wc.step = .dir ∧ t.wc.trigger = n) ∧
  (∀ (u : Nat) (s : State),
      alive s pgAON = true →
      u < rdF s pgWC 0x14C 10 0 * 1000 →
      inQ s = false →
      exec (.holdTrip u) s = .next (startQuench qtHOLD_TRIP (hallmark 0x0202 0 [pw u] (wrF pgAON 0x100 20 0 u s)))) ∧
  (∀ (s : State),
      s.aon.resetN = true →
      s.aon.rails = true →
      exec .pwrfailNLow s = .next (startQuench qtPWRFAIL s)) ∧
  (∀ (s : State),
      s.wc.step = .dir →
      ∃ t, exec .quenchDirDone s = .next t ∧ t.wc.step = .data ∧ t.wc.saved = ((s.wc.slots.filter fun e => hasEntry e.2).filter fun e => !e.2.inq).map (·.1) ∧ t.wc.entries = (s.wc.slots.filter fun e => hasEntry e.2).length) ∧
  (∀ (lost : List Nat) (s : State),
      s.wc.step = .data →
      ∃ t, exec (.quenchDataDone lost) s = .next t ∧ t.wc.step = .done ∧ rd t pgQST 0x108 = pw s.wc.entries) ∧
  (∀ (b : Bool) (s : State),
      s.wc.step = .done →
      exec (.quenchRailRelease b) s = .next { chipReset rsQUENCH_END s with aon := { (chipReset rsQUENCH_END s).aon with rails := b } }) ∧
  (∀ (s : State) (c : CtrlRead) (is : List Nat) (t : State),
      s.wc.restoring = true →
      alive s pgQST = true →
      c = readCtrl s →
      is = ((dirIndices s).filter fun i => entryOk (readEntry s i) && entryGen (readEntry s i) == c.qgen) →
      c.flags.testBit 0 = false →
      t = is.foldl loadSlot { s with wc := { s.wc with qgen := c.qgen } } →
      exec .restoreLoad s = .next (wr pgQST 0x100 (pw (lastCode c * 256 + 3)) (wr pgQST 0x104 (pw c.qgen) (wr pgQST 0x110 (pw is.length) t)))) ∧
  (∀ (s : State) (is : List Nat) (t u v : State),
      s.wc.restoring = true →
      s.ldg.replayed = true →
      is = ((s.wc.slots.filter fun e => e.2.inq && decide (e.2.st = .ready)).foldr insertW []).map (·.1) →
      t = is.foldl (fun s i => if (slotOf s i).st = .ready then stamp i s else s) s →
      (s.wc.slots.any fun e => mustDiscard s e.2 || (e.2.inq && e.2.aside)) = false →
      u = qstWrite qCTRL (ctrlRecord (t.wc.qgen + 1) 0 (headId t) 0 0) t →
      v = wrF pgQST 0x100 2 0 0 (wr pgQST 0x104 (pw (t.wc.qgen + 1)) { u with wc := { u.wc with restoring := false, qgen := t.wc.qgen + 1 } }) →
      exec .restoreDone s = .next (overBudget (hallmark 0x0803 0 [rd v pgQST 0x110, rd v pgQST 0x118, rd v pgQST 0x114] v)))

/-- A full ingot whose units are all in is cast; the partner's journal entries, marks and records are stored and acknowledged, and its acknowledgements count; an entry whose acknowledgement is late is sent again; an append that lands where it was placed ends its member, one that lands elsewhere or fails is placed anew; amends are retried; and the journal is resolved once the ledger has been replayed. -/
def Obligations.CastingCompletes : Prop :=
  (∀ (n : Nat) (c : Casting) (s : State),
      castingOf s n = some c →
      ingOn s = true →
      c.casting = false →
      allIn c = true →
      c.billets.isEmpty = false →
      ingotFull c = true →
      exec (.castStart n) s = .next (castIngot c s)) ∧
  (∀ (n : Nat) (c : Casting) (s : State),
      castingOf s n = some c →
      ingOn s = true →
      c.casting = false →
      allIn c = true →
      c.billets.isEmpty = false →
      ingotFull c = true →
      exec (.chunkGrant n) s = .next (castIngot c s)) ∧
  (∀ (i : Nat) (e : List Byte) (s t : State),
      t = takeRx 0x11 s →
      qstDown t = false →
      inQ t = false →
      exec (.sjEntry i e) s = .next (sendW clsJOURNAL 0x14 (0x11 + i * 256) [] (qstWrite (qSJMIRROR + i * 512) e t))) ∧
  (∀ (i : Nat) (m : W64) (s t : State),
      t = takeRx 0x12 s →
      qstDown t = false →
      inQ t = false →
      exec (.sjMark i m) s = .next (sendW clsJOURNAL 0x14 (0x12 + i * 256) [] (qstWrite (qSJMIRROR + i * 512 + 0x1F8) (le 8 m.toNat) t))) ∧
  (∀ (j : Nat) (r : List Byte) (s t u : State),
      t = takeRx 0x13 s →
      qstDown t = false →
      inQ t = false →
      t.ldg.mirrorJseq ≤ j →
      field r 0 1 = 0x10 →
      u = mirrorPut j r t →
      Tab.find? u.ldg.mirrorSpan (field r 8 6) = none →
      exec (.ljRecord j r) s = .next (sendW clsJOURNAL 0x14 (0x13 + j * 256) [] { u with ldg := { u.ldg with mirrorSpan := Tab.put u.ldg.mirrorSpan (field r 8 6) (j, j) } })) ∧
  (∀ (a : Nat) (s t : State),
      t = takeRx 0x14 s →
      exec (.jAck 0x13 a) s = .next { t with ldg := { t.ldg with ackedJseq := Nat.max t.ldg.ackedJseq (a + 1) } }) ∧
  (∀ (a : Nat) (s t : State),
      t = takeRx 0x14 s →
      exec (.jAck 0x11 a) s = .next (sjAcked a t)) ∧
  (∀ (j : Nat) (e : SjEntry) (s t : State),
      (s.ing.sj.find? fun e => e.jseq == j && !e.written) = some e →
      inPair s = true →
      e.resends < rdF s pgWC 0x100 19 16 →
      t = { s with ing := { s.ing with sj := s.ing.sj.map fun x => if x.jseq = j then { x with resends := x.resends + 1 } else x } } →
      exec (.journalAckTimeout j) s = .next (sendW clsJOURNAL 0x11 (sjSlot j) e.bytes t)) ∧
  (∀ (n m : Nat) (a : App) (c : Casting) (s t : State),
      issuedApp s n m (some (a.loc.chunk * 64)) = some a →
      inQ s = false →
      t = chunkDone a.loc (dropAppend a s) →
      castingOf t n = some c →
      exec (.memberAppendDone n m (a.loc.chunk * 64)) s = .next (issueAll (retireIfDone n (castingPut { c with ended := c.ended ++ [m] } t)))) ∧
  (∀ (n m l : Nat) (a : App) (s : State),
      issuedApp s n m (some l) = some a →
      inQ s = false →
      l ≠ a.loc.chunk * 64 →
      exec (.memberAppendDone n m l) s = .next (appendFailed a (hallmark 0x170A 0 ([pw a.loc.module, pw a.loc.zone] ++ pw2 (a.loc.chunk * 64) ++ pw2 l) (bump pgING 0x19C 1 s)))) ∧
  (∀ (n m : Nat) (a : App) (s : State),
      issuedApp s n m none = some a →
      inQ s = false →
      exec (.appendFail n m) s = .next (appendFailed a s)) ∧
  (∀ (s : State),
      ingOn s = true →
      exec .amendRetryTick s = .next (s.ing.cast.foldl (fun s c0 => c0.failed.foldl (fun s i => match castingOf s c0.ingot with | some c => if c.failed.contains i then amend c i s else s | none => s) s) s)) ∧
  (∀ (wps : List (Nat × Nat)) (s : State) (r : Resolved) (none_ : Bool) (t u : State),
      s.ldg.replayed = true →
      s.ing.resolved = false →
      ((sjSlots s qSJ).filter fun k => (sjCopy s qSJ k).isNone && (Tab.find? s.ing.fetched k).isNone) = [] →
      none_ = ((qstDown s || !(sjSlots s qSJ).isEmpty) && !((sjSlots s qSJ).any fun k => (sjCopy s qSJ k).isSome)) →
      r = (sjSlots s qSJ).foldl (resolveSlot qSJ (epochCommitted s) wps) { s := s } →
      t = hallmark 0x1709 0 [pw r.retired, pw r.abandoned, pw (if none_ then 3 else if r.partner then 2 else 1)] (settleFences r.s) →
      u = t.ldg.img.ejected.foldl (fun s e => modPut e.1 { modOf s e.1 with st := .ejected, cause := e.2 } s) t →
      exec (.journalResolve false wps) s = .next (wrF pgING 0x140 16 16 1 { u with ing := { u.ing with resolved := true, unread := none_, jseq := nextJseq u qSJ, fetched := [] } }))

/-- A member that stays slow is served by reconstruction and its module may be ejected; a module that times out, fails, or that firmware names is ejected, a deferred eject when nothing blocks it; degraded ingots are filed, the first is claimed and read, its lost chunks are placed and written, and their replacements pass to the ledger; the buckets fill; and a sweep marks what refers to lost units. -/
def Obligations.EjectsAndRebuildsComplete : Prop :=
  (∀ (d a b g m : Nat) (r : RReq) (s : State) (y : Mod) (ts : List Nat) (t u : State),
      reqFind s d a b g = some r →
      m = ((ingotAt s (glocIngot r.entry.gloc)).members.getD (bodyMember r.entry.gloc) {}).module →
      t = startRecon d r rcDETOUR (bump (pgDRP + d) 0x150 1 s) →
      y = modOf t m →
      ingOn s = true →
      live s pgING 2 = true →
      r.recon = none →
      r.entry.gloc ≠ 0 →
      (modOf s m).st ≠ .slowHeld ∨ (ingotAt s (glocIngot r.entry.gloc)).lostN < (ingotAt s (glocIngot r.entry.gloc)).m →
      ts = ((y.times ++ [t.time.toNat]).filter fun x => decide (t.time.toNat ≤ x + 1000000)) →
      u = modPut m { y with times := ts, detours := min (y.detours + 1) 0xFFFFFFFF } t →
      ts.length < rdF u pgING 0x114 15 12 →
      exec (.detourExpiry d a b g) s = .next u) ∧
  (∀ (m : Nat) (s : State),
      ingOn s = true →
      (modOf s m).asked.isSome = true →
      exec (.ejectTimeout m) s = .next (ejectSlow m ejTIMEOUT s)) ∧
  (∀ (v : W32) (s t : State),
      clockStopped s pgING 0x168 = false →
      t = commandWrite pgING 0x168 v s →
      bit v 0 = true →
      rdF t pgING 0x160 6 0 < 96 →
      exec (.modEject v) s = .next (ejectNow (rdF t pgING 0x160 6 0) ejFIRMWARE t)) ∧
  (∀ (m : Nat) (s : State),
      ingOn s = true →
      (modOf s m).st = .slowHeld →
      ejectBlocked s m = false →
      exec (.deferredEject m) s = .next (ejectNow m (modOf s m).deferred s)) ∧
  (∀ (m : Nat) (s : State),
      ingOn s = true →
      exec (.controllerFatalStatus m) s = .next (ejectNow m ejFATAL s)) ∧
  (∀ (s t : State),
      ingOn s = true →
      live s pgING 1 = true →
      t = wrF pgING 0x140 17 16 0 s →
      exec .rebuildScan s = .next (rebuildStat (((ingotNums t).filter fun n => (ingotAt t n).st == .degraded && !t.anl.handed.contains n).foldl (fun s n => if s.ing.queues.any (fun l => l.contains n) && !(s.ing.queues.getD (queueOf s n) []).contains n then fileIngot n { s with ing := { s.ing with queues := s.ing.queues.map fun l => l.filter (· != n) } } else fileIngot n s) t))) ∧
  (∀ (s : State) (n q spare : Nat) (qs : List (List Nat)) (x : Ingot) (t u : State),
      ingOn s = true →
      live s pgING 1 = true →
      (s.ing.attempts.filter fun a => !a.move).length < rdF s pgING 0x118 4 0 →
      nextRebuild s = some (n, q, qs) →
      x = ingotAt s n →
      x.st = .degraded →
      queueOf s n = q →
      live s pgING 5 = false →
      spare = (if bit (rd s pgING 0x140) 18 then x.k + x.m else 2 * (rdF s pgING 0x100 21 16 + rdF s pgING 0x100 2 0)) →
      x.k + x.m + spare ≤ poolFree s →
      (survivors s x).length * 262144 ≤ s.ing.bucket →
      t = { s with ing := { s.ing with queues := qs } } →
      u = { t with ing := { t.ing with bucket := t.ing.bucket - (survivors s x).length * 262144, claims := Tab.put t.ing.claims n .rebuilding, attempts := t.ing.attempts ++ [{ ingot := n, move := false, set := (List.range x.members.length).filter fun i => !(survivors s x).contains i }] } } →
      exec .rebuildStart s = .next (askChunks x (survivors s x) (rebuildStat (ingStat u)))) ∧
  (∀ (n : Nat) (as : Answers) (a b : Attempt) (s : State) (x : Ingot) (t u : State) (ls : List Loc) (v : State) (j : Nat) (w : State),
      readingAttempt s n = some a →
      (as.all fun y => (survivors s (ingotAt s n)).contains y.1) = true →
      ((survivors s (ingotAt s n)).all fun i => as.any fun y => y.1 == i) = true →
      decodable (ingotAt s n) as = true →
      sjRoom s = true →
      t = (survivors s (ingotAt s n)).foldl (fun z i => answered ((ingotAt s n).members.getD i {}).module z) s →
      readingAttempt t n = some a →
      x = ingotAt t n →
      u = as.foldl (fun s y => modPut (x.members.getD y.1 {}).module { modOf s (x.members.getD y.1 {}).module with readErr := min ((modOf s (x.members.getD y.1 {}).module).readErr + y.2.2.length) 0xFFFFFFFF } s) t →
      grantChunks (pmodOf u (x.members.getD 0 {}).module).cls (rebuildSet x as).length (x.members.map (·.module)) u = (some ls, v) →
      b = { a with set := rebuildSet x as, locs := ls, old := ((rebuildSet x as).map fun i => x.members.getD i {}).filter fun l => !l.lost, data := (rebuildSet x as).map (rebuiltChunk x as), slagRows := slagRowsOf x as, ext := extentsOf n x as } →
      sjWrite 3 n x.cast ((rebuildSet x as).foldl (fun w i => w + 2 ^ i) 0) (attemptEntry v b ls) v = some (j, w) →
      ∃ z, exec (.rebuildDecodeDone n as) s = .next (issueAll (wrF pgING 0x140 19 19 0 z)) ∧ z = { w with ing := { w.ing with attempts := w.ing.attempts.map fun y => if y.ingot = n then { b with jent := some j } else y, appends := w.ing.appends ++ (List.range ls.length).map fun k => (⟨j, n, (rebuildSet x as).getD k 0, ls.getD k {}, false⟩ : App) } }) ∧
  (∀ (n : Nat) (a b : Attempt) (j : Nat) (s t u : State) (x : Ingot),
      (s.ing.attempts.find? fun a => a.ingot == n && a.passed.isNone) = some a →
      a.jent = some j →
      (s.ing.appends.any fun p => p.ingot == n) = false →
      x = tableAt s n →
      x.st ≠ .dead →
      t = (List.range a.set.length).foldl (fun s k => toLedger (openItem (.replace (a.set.getD k 0) n { a.locs.getD k {} with rebuilt := !a.move || (x.members.getD (a.set.getD k 0) {}).rebuilt } a.slagRows)) s) s →
      u = a.ext.foldl (fun s e => dropIndex e.gloc e.len16 (slagAdd e (hallmark 0x1707 0 (pw2 e.gloc.toNat ++ [pw e.len16]) s))) t →
      b = { a with jent := none, passed := some (epochOpen u), data := [] } →
      exec (.rebuildAppendsDone n) s = .next (sweepStat (sjFlags (sjMark j true { u with ing := { u.ing with attempts := u.ing.attempts.map fun y => if y.ingot = n then b else y } })))) ∧
  (∀ (s : State),
      exec .rebuildBucketRefill s = .next { s with ing := { s.ing with bucket := s.ing.bucket + (if bit (rd s pgING 0x140) 18 then rdF s pgING 0x118 31 22 else rdF s pgING 0x118 21 12) * 10000 } }) ∧
  (∀ (s : State),
      alive s pgLDG = true →
      live s pgING 4 = true →
      extentsPending s ≠ [] →
      s.ldg.sweep = none →
      (s.ldg.img.map.filter fun x => meetsExtent (extentsPending s) x.2) = [] →
      (s.ldg.img.ret.filter fun x => meetsExtent (extentsPending s) x.2) = [] →
      exec .sweepPassStart s = .next (sweepStat (wrF pgING 0x184 31 24 0x80 { s with ldg := { s.ldg with sweep := some (extentsPending s, 0) } }))) ∧
  (∀ (s : State) (es : List SlagEntry) (n : Nat) (t : State),
      s.ldg.sweep = some (es, n) →
      t = { s with ldg := { s.ldg with sweep := none, img := { s.ldg.img with slag := slagRemove (fun e => es.contains e) s.ldg.img.slag } } } →
      exec .sweepPassEnd s = .next (sweepStat (wrF pgING 0x184 31 24 100 (hallmark 0x1708 0 [pw es.length, pw n] (slagCount es.length t)))))

/-- A port whose link comes up shows its rate, and what it says of its module waits while Planish is OFF (the model's reading, log entry 236); firmware admits and retires modules; a port whose module is gone, or that faults, leaves it out; sideband and health polls are read; zones are reset, returned and finished; and at start the write pointers are reconciled. -/
def Obligations.ModulesAndZonesComplete : Prop :=
  (∀ (p rate width l : Nat) (i : ModId) (s t u : State),
      portOn s p = true →
      (flashOctets s p).any (patterned s) = false →
      pgState s pgPLN = stOFF →
      t = wr (pgFLX + p) 0x108 (BitVec.ofNat 32 (rate * 2 ^ 16 + width * 2 ^ 8 + l)) s →
      u = lanesLocked ((if bit (rd s pgFLX 0x100) 8 then 4 else 2) * p) (if bit (rd s pgFLX 0x100) 8 then 4 else 2) (wrF (pgFLX + p) 0x10C 0 0 1 (hallmark 0x2302 p [pw p, pw rate, pw width] { t with pln := { t.pln with down := t.pln.down.filter (· != p), late := t.pln.late.filter (· != p) } })) →
      exec (.moduleLinkUp p rate width l i) s = .next (pmodPut p { pmodOf u p with seen := some i } u)) ∧
  (∀ (v : W32) (s t : State),
      t = commandWrite pgPLN 0x128 v s →
      bit v 0 = true →
      (pmodOf t (rdF t pgPLN 0x110 6 0)).st = .new →
      alive t pgPLN = true →
      namesModule t (rdF t pgPLN 0x110 6 0) = false →
      exec (.moduleAdmit v) s = .next (floorUpdate (admitModule (rdF t pgPLN 0x110 6 0) t))) ∧
  (∀ (v : W32) (s t : State),
      t = commandWrite pgPLN 0x128 v s →
      bit v 1 = true →
      exec (.moduleRetire v) s = .next (readOnly (rdF t pgPLN 0x110 6 0) 3 t)) ∧
  (∀ (p : Nat) (s : State),
      portOn s p = true →
      exec (.presenceLost p) s = .next (presenceLost p s)) ∧
  (∀ (p : Nat) (s : State),
      portOn s p = true →
      s.pln.down.contains p = true →
      exec (.retrainTimeout p) s = .next (portFault p 0x80 s)) ∧
  (∀ (p : Nat) (a b : Bool) (temp : Byte) (s t : State),
      portOn s p = true →
      live s (pgFLX + p) 0 = true →
      t = wr (pgFLX + p) 0x10C (BitVec.ofNat 32 (temp.toNat * 2 ^ 24 + 2 * b2n b + b2n a)) s →
      exec (.sidebandPoll p a b temp) s = .next (if bit (rd s (pgFLX + p) 0x10C) 0 && !a then presenceLost p t else t)) ∧
  (∀ (m : Nat) (off worn : List Nat) (s t u : State),
      alive s pgPLN = true →
      live s pgPLN 2 = true →
      live u pgPLN 1 = true →
      t = (off.filter fun z => decide (z < (pmodOf s m).zones) && ownZone s (zoneKey m z)).foldl (fun s z => zoneOffline (zoneKey m z) 1 s) s →
      u = (worn.filter fun z => decide (z < (pmodOf s m).zones) && ownZone s (zoneKey m z)).foldl (fun s z => zoneWorn (zoneKey m z) s) t →
      rdF u pgPLN 0x100 22 16 * (pmodOf u m).total ≤ ((pmodOf u m).zones - offlineZones u m) * 100 →
      exec (.healthPoll m off worn false) s = .next u) ∧
  (∀ (m z : Nat) (s : State),
      (zoneOf s (zoneKey m z)).st = .resetting →
      exec (.zoneResetDone m z true) s = .next (zoneReset (zoneKey m z) s)) ∧
  (∀ (m z : Nat) (s : State),
      (zoneOf s (zoneKey m z)).st = .resetting →
      exec (.zoneResetDone m z false) s = .next (zoneOffline (zoneKey m z) 2 s)) ∧
  (∀ (z : Nat) (s t : State),
      t = takeRx 0x15 s →
      z % 2 = headId t →
      exec (.zoneReturn z) s = .next (floorUpdate (zonePut z { st := .empty, resets := (zoneOf t z).resets } { t with pln := { t.pln with returned := if t.pln.returned.contains z then t.pln.returned else t.pln.returned ++ [z] } }))) ∧
  (∀ (wps : List (Nat × Nat)) (s t u : State),
      s.ldg.replayed = true →
      s.ing.resolved = true →
      t = (wps.filter fun w => ownZone s w.1).foldl (fun s w => reconcile w s) s →
      u = (if t.ing.unread then wrF pgING 0x140 16 16 1 (loseUnwritten wps t) else t) →
      exec (.startupReconcile false wps) s = .next (floorUpdate (settleFences (returnClaims { u with frg := { u.frg with idx := u.frg.idx.map fun p => (p.1, p.2.map fun e => if e.moving then { e with moving := false }.sealed else e) } })))) ∧
  (∀ (m op z : Nat) (s : State),
      portOn s m = true →
      (modOf s m).st ≠ .ejected →
      op ≠ 3 →
      exec (.nvmeCommandCompletion m op z true) s = .next (answered m s)) ∧
  (∀ (m z : Nat) (s : State),
      portOn s m = true →
      (modOf s m).st ≠ .ejected →
      exec (.nvmeCommandCompletion m 3 z true) s = .next (zoneFinished (zoneKey m z) (answered m s))) ∧
  (∀ (p : Nat) (s : State),
      portOn s p = true →
      rdF s (pgFLX + p) 0x108 10 8 ≠ 0 →
      exec (.flashLinkDrop p) s = .next (portDown p (bump (pgFLX + p) 0x12C 1 s))) ∧
  (∀ (p : Nat) (s : State),
      portOn s p = true →
      exec (.completionTimeout p) s = .next (bump (pgFLX + p) 0x128 1 s)) ∧
  (∀ (p : Nat) (s : State),
      portOn s p = true →
      exec (.fatalAer p) s = .next (portFault p 0x81 s)) ∧
  (∀ (p : Nat) (s : State),
      portOn s p = true →
      live s (pgFLX + p) 1 = true →
      exec (.dpcContainment p) s = .next (portFault p 0x82 s))

/-- Anneal chooses its work; a claimed ingot's index entries are MOVING and its relocation is recorded; a body is copied while the bucket allows; a member is moved to a chunk granted for it; the bucket fills; a rekey starts and ends; and the first good copy of a spine page is read into memory. -/
def Obligations.AnnealAndSpineComplete : Prop :=
  (∀ (s : State),
      annealing s = true →
      ∃ t, exec .anlWorkSelect s = .next (floorUpdate (anlStat t)) ∧ (live s pgANL 0 = false → t.anl.victim = none)) ∧
  (∀ (n : Nat) (s t u v : State),
      annealing s = true →
      annealRoom s = true →
      mayRelocate s n = true →
      claimable s n = true →
      t = toLedger (openItem (.setState .relocating n)) s →
      u = (t.frg.idx.flatMap fun p => (p.2.filter fun e => !e.pending && glocIngot e.gloc == n).map fun e => (p.1, e)).foldl (fun s e => idxSet e.1 e.2 { e.2 with moving := true } s) t →
      (Tab.getD u.ldg.img.rosters {} n).full = false →
      v = remarkPages (livePages u n) u →
      exec (.relocationClaim n) s = .next (anlStat { v with ing := { v.ing with claims := Tab.put v.ing.claims n .relocating }, anl := { v.anl with jobs := v.anl.jobs ++ [{ ingot := n, claim := epochOpen v }], handed := v.anl.handed.filter (· != n), rekeyed := v.anl.rekeyed + b2n (rekeyOn u && inRekey u (tableAt u n)) } })) ∧
  (∀ (d n : Nat) (g : W64) (b : List Byte) (s : State) (j : Job),
      (s.anl.jobs.find? fun j => j.ingot == n) = some j →
      annealing s = true →
      j.claim ≤ epochCommitted s →
      j.copying = true →
      j.left.contains g = true →
      b.length ≤ s.anl.bucket →
      exec (.relocationCopy d n g b) s = .next (copyBody d j g b s)) ∧
  (∀ (n m : Nat) (d : List Byte) (s : State) (x : Ingot) (l a : Loc) (t : State) (j : Nat) (u : State),
      x = ingotAt s n →
      l = x.members.getD m {} →
      annealing s = true →
      annealRoom s = true →
      x.st = .live →
      m < x.members.length →
      mayMove s l = true →
      sjRoom s = true →
      (s.ing.attempts.any fun a => a.ingot == n) = false →
      d.length ≤ s.anl.bucket →
      grantChunks (pmodOf s l.module).cls 1 (x.members.map (·.module)) s = (some [a], t) →
      sjWrite 3 n x.cast (2 ^ m) (setMember m a (tableAt t n)) t = some (j, u) →
      exec (.memberMove n m d) s = .next (anlStat (issueAll { ({ u with anl := { u.anl with bucket := u.anl.bucket - d.length } } : State) with ing := { u.ing with attempts := u.ing.attempts ++ [{ ingot := n, move := true, set := [m], locs := [a], old := [l], data := [d], slagRows := x.slagRows, jent := some j }], appends := u.ing.appends ++ [⟨j, n, m, a, false⟩] } }))) ∧
  (∀ (s : State),
      exec .anlBucketRefill s = .next { s with anl := { s.anl with bucket := s.anl.bucket + (if floorOn s then rdF s pgANL 0x104 31 16 else rdF s pgANL 0x104 15 0) * 10000 } }) ∧
  (∀ (v : W32) (s t : State),
      bit (rd s pgANL 0x12C) 0 = false →
      t = commandWrite pgANL 0x128 v s →
      bit v 0 = true →
      live t pgANL 3 = true →
      exec (.rekeyStart v) s = .next (wrF pgANL 0x12C 0 0 1 { t with anl := { t.anl with rekeyed := 0 } })) ∧
  (∀ (s t : State),
      annealing s = true →
      rekeyOn s = true →
      rekeyLeft s = false →
      t = wr pgANL 0x12C 2 s →
      exec .rekeyDone s = .next (hallmark 0x1904 0 (pw2 (rd64 t pgANL 0x118).toNat ++ pw2 (rd64 t pgANL 0x120).toNat ++ [pw t.anl.rekeyed]) (event pgANL 2 0 t))) ∧
  (∀ (dst pid : Nat) (cs : Copies) (e : PageEnt) (s t : State),
      s.pln.tree.spineOf pid = some e →
      t = (if (goodCopy s e.loc0.toNat pid e.crc cs).2 = 0 then s else remarkPages [pid] (bump pgPLN 0x184 (goodCopy s e.loc0.toNat pid e.crc cs).2 s)) →
      exec (.spineRead dst pid cs) s = .next (match (goodCopy s e.loc0.toNat pid e.crc cs).1 with | some p => memWrite dst p t | none => recordFault pgPLN 0x81 0 t)) ∧
  (∀ (m : Nat) (held peer : Bool) (s t : State),
      portOn s m = true →
      tstate s ≠ tsFENCED →
      t = reserveModule m held peer s →
      exec (.reservationRegister m held peer) s = .next (issueAll ((t.pln.zones.filter fun z => z.1 / 2 ^ 32 == m && decide (z.2.st = .reclaim)).foldl (fun s z => reclaim z.1 s) t)))

/-- A drawplate that takes a grain of a Read, a Verify or a Compare serves zeros where nothing is mapped, and else looks in the read cache and asks the body's member; a member's rows are opened and handed on; reconstruction gathers the answers of other members; a grain past the read limit fails; a candidate is verified; pages are fetched; a replica's body is opened again; and the cache's filter and the cache are cleared. -/
def Obligations.ReadsAndOpeningsComplete : Prop :=
  (∀ (d q i g n : Nat) (s : State) (c : Cmd) (e : MapEntry),
      cmdFind s q i = some c →
      isAdmin s c = false →
      c.opcode = 2 →
      drawing s d = true →
      c.st = .executing →
      c.bound = true →
      (s.drp.reqs.find? fun r => r.a == q && r.b == i && r.grain == g && r.kind == 1) = none →
      pickDrp s = some d →
      (c.binds.find? fun b => b.1 == g) = some (g, .map e n) →
      e.mapped = e.zero →
      e.zero = false →
      exec (.hostRead d q i g) s = .next (serveZero d ⟨d, 1, q, i, c.ns, g, e, n, none, [], [], false⟩ s)) ∧
  (∀ (d q i g n : Nat) (s : State) (c : Cmd) (e : MapEntry) (t : State),
      cmdFind s q i = some c →
      isAdmin s c = false →
      c.opcode = 2 →
      drawing s d = true →
      c.st = .executing →
      c.bound = true →
      (s.drp.reqs.find? fun r => r.a == q && r.b == i && r.grain == g && r.kind == 1) = none →
      pickDrp s = some d →
      (c.binds.find? fun b => b.1 == g) = some (g, .map e n) →
      e.mapped = true →
      e.zero = false →
      glocSlag e.gloc = false →
      rcLookup e s = (none, t) →
      exec (.hostRead d q i g) s = .next (readMember d ⟨d, 1, q, i, c.ns, g, e, n, none, [], [], false⟩ t)) ∧
  (∀ (d q i g : Nat) (s : State) (c : Cmd),
      cmdFind s q i = some c →
      isAdmin s c = false →
      c.opcode = 12 →
      drawing s d = true →
      c.st = .executing →
      c.bound = true →
      (s.drp.reqs.find? fun r => r.a == q && r.b == i && r.grain == g && r.kind == 2) = none →
      pickDrp s = some d →
      (c.binds.find? fun b => b.1 == g) = some (g, .zero) →
      exec (.hostVerify d q i g) s = .next (serveZero d ⟨d, 2, q, i, c.ns, g, {}, commitCnt s, none, [], [], false⟩ s)) ∧
  (∀ (d q i g : Nat) (s : State) (c : Cmd),
      cmdFind s q i = some c →
      isAdmin s c = false →
      c.opcode = 5 →
      drawing s d = true →
      c.st = .executing →
      c.bound = true →
      c.declared s ≤ c.got →
      (s.drp.reqs.find? fun r => r.a == q && r.b == i && r.grain == g && r.kind == 3) = none →
      pickDrp s = some d →
      (c.binds.find? fun b => b.1 == g) = some (g, .zero) →
      exec (.hostCompare d q i g) s = .next (serveZero d ⟨d, 3, q, i, c.ns, g, {}, commitCnt s, none, [], [], false⟩ s)) ∧
  (∀ (f q l : Nat) (a : W64) (s : State) (g : FGrain),
      grainFind s f q = some g →
      g.look = .cand a l →
      drawing s f = true →
      reqFind s f f q g.h.grain = none →
      Tab.find? s.drp.answers (f * 256 + q) = none →
      castBody s a = none →
      exec (.verifyHit f q) s = .next (readMember f ⟨f, 5, f, q, g.h.ns, g.h.grain, { gloc := a, len16 := l, mapped := true }, commitCnt s, none, [], [], false⟩ s)) ∧
  (∀ (d p q : Nat) (l : W64) (b y : Option (List Byte)) (s : State),
      drawing s d = true →
      s.pln.tree.isAt q l = true →
      live s (pgDRP + d) 0 = false →
      exec (.page d p q l b y) s = .next (match b.bind (openPage s (l.toNat / 16 * 16) q) with | some t => memWrite p t s | none => hallmark 0x1202 d ([0] ++ pw2 0 ++ pw2 l.toNat ++ [pw (if b.isNone then 5 else 4)]) (bump (pgDRP + d) 0x154 1 s))) ∧
  (∀ (d a b g : Nat) (x : List Byte) (s : State) (r : RReq),
      reqFind s d a b g = some r →
      r.recon = none →
      r.entry.gloc ≠ 0 →
      exec (.memberReadDone d a b g (some x)) s = .next (openAndServe d r x (answered ((ingotAt s (glocIngot r.entry.gloc)).members.getD (bodyMember r.entry.gloc) {}).module s))) ∧
  (∀ (d a b g : Nat) (s : State) (r : RReq),
      reqFind s d a b g = some r →
      r.recon = none →
      r.entry.gloc ≠ 0 →
      exec (.memberReadDone d a b g none) s = .next (startRecon d r 5 (answered ((ingotAt s (glocIngot r.entry.gloc)).members.getD (bodyMember r.entry.gloc) {}).module s))) ∧
  (∀ (d a b g k : Nat) (n : List (Nat × List Byte)) (s t : State) (r : RReq) (x : Ingot) (o : List Nat) (ok : List (Nat × List Byte)),
      reqFind s d a b g = some r →
      r.recon = some k →
      x = ingotAt s (glocIngot r.entry.gloc) →
      o = r.asked.filter (fun j => !(r.got.map (·.1)).contains j) →
      ok = r.got ++ n.filter (fun y => o.contains y.1 && y.2.length == bodyRows r.entry.gloc r.entry.len16 * 4096) →
      t = o.foldl (fun s j => answered (x.members.getD j {}).module s) s →
      ok.length + (((helpers t x (bodyMember r.entry.gloc)).filter fun j => !r.asked.contains j).take (x.k - ok.length)).length < x.k →
      exec (.reconstructReadsDone d a b g n) s = .next (grainLost d r 9 (hallmark 0x1201 d (pw2 r.entry.gloc.toNat ++ [pw k, pw 2]) (fileSeal (glocIngot r.entry.gloc) t)))) ∧
  (∀ (q i g : Nat) (s : State) (r : RReq),
      (s.drp.reqs.find? fun r => r.a == q && r.b == i && r.grain == g && r.kind != 5) = some r →
      exec (.readLimitExpiry q i g) s = .next (grainLost r.drp r 12 (hallmark 0x1204 r.drp ([pw r.ns] ++ pw2 r.grain ++ [pw (if r.recon.isSome then r.asked.length - r.got.length else if r.entry.gloc = 0 then 0 else 1)]) (bump (pgDRP + r.drp) 0x158 1 s)))) ∧
  (∀ (s : State),
      exec .rcFilterClear s = .next { s with drp := { s.drp with missed := [] } }) ∧
  (∀ (v : W32) (s : State),
      clockStopped s pgDRP 0x214 = false →
      bit v 0 = true →
      exec (.rcClear v) s = .next (rcPut [] (commandWrite pgDRP 0x214 v s))) ∧
  (∀ (d g : Nat) (b : Option (List Byte)) (s : State) (r : DRec) (o : Option (List Byte × List Byte) × State) (t : State),
      sourceOn s g = true →
      drawing s d = true →
      (grpOf s g).st = .shipping →
      (grpOf s g).work.head? = some r →
      r.kind = 1 →
      fits s g r = true →
      o = resealOpen d r b s →
      t = addRec g (match o.1 with | some (pl, pi) => recHeader 1 (glocCodec r.entry.gloc) r.tgt pl.length (nsOf o.2 r.src).pif r.grain ++ pl ++ zeros ((16 - pl.length % 16) % 16) ++ pi | none => recHeader 3 0 r.tgt 0 0 r.grain) o.2 →
      exec (.reseal d g b) s = .next (absorb g (grpOf t g).work.length t))

/-- The Ethernet mode is set while every port page is OFF and the lanes suffice; a whole frame that its port's filters pass reaches the transport; an exception frame is sent; pause frames stop a priority and let it go again; a storm ends a pause; and a link goes up or down. -/
def Obligations.PortsAndFramesComplete : Prop :=
  (∀ (v : W32) (s : State) (r : RegDef),
      ((List.range 16).all fun n => pgState s (pgNET + n) == stOFF) = true →
      modeOctets (bits v 2 0) ≤ 32 - rdF s pgFLX 0x100 4 0 →
      regAt pgNET 0x100 = some r →
      locked s pgNET 3 = false →
      exec (.netModeWrite v) s = .next (noteRsvd pgNET 0x100 r v (wr pgNET 0x100 (r.apply (rd s pgNET 0x100) v) s))) ∧
  (∀ (n : Nat) (f : Frame) (k : RPkt) (s t : State) (q : Nat),
      running s (portPage s n) = true →
      n < netPorts s →
      f.kind = .roce k →
      k.ce = false →
      k.qpn ≠ 1 →
      f.fcsOk = true →
      t = bump64 (portPage s n) 0x180 f.bytes.length s →
      64 ≤ f.bytes.length →
      f.bytes.length ≤ rdF t (portPage s n) 0x104 13 0 →
      macOk t n f = true →
      vlanOk t n f = true →
      ipOk t n f = true →
      q = framePrio f →
      lossless t n q = false →
      exec (.frameReceive n f) s = .next (xoffCheck n q (arrive n q f.bytes.length k t))) ∧
  (∀ (n : Nat) (f : Frame) (s t : State),
      running s (portPage s n) = true →
      n < netPorts s →
      f.kind = .arp →
      f.fcsOk = true →
      t = bump64 (portPage s n) 0x180 f.bytes.length s →
      64 ≤ f.bytes.length →
      f.bytes.length ≤ rdF t (portPage s n) 0x104 13 0 →
      macOk t n f = true →
      vlanOk t n f = true →
      ipOk t n f = true →
      lossless t n (framePrio f) = false →
      exec (.frameReceive n f) s = .next (exception n 1 f t)) ∧
  (∀ (v : W32) (s t : State),
      t = wrF pgXPT 0x140 31 16 (bits v 31 16) s →
      alive t pgXPT = true →
      inQ t = false →
      exec (.excTxSend v) s = .next (excSend (excSize t) t)) ∧
  (∀ (n q : Nat) (s : State),
      s.net.xoff.contains (pprio n q) = true →
      alive s (portPage s n) = true →
      exec (.pfcXoffRefresh n q) s = .next (emit (.pfc n q 0xFFFF) (bump (portPage s n) 0x1A4 1 s))) ∧
  (∀ (n q k : Nat) (s t u : State),
      running s (portPage s n) = true →
      t = bump (portPage s n) 0x1A0 1 { s with net := { s.net with pauseAt := Tab.put s.net.pauseAt (pprio n q) s.time } } →
      lossless t n q = true →
      stormed t n q = false →
      k ≠ 0 →
      u = prioBit n 8 q true t →
      Tab.find? u.net.pausedAt (pprio n q) = none →
      exec (.pauseReceive n q k) s = .next { u with net := { u.net with pausedAt := Tab.put u.net.pausedAt (pprio n q) u.time } }) ∧
  (∀ (n q : Nat) (s t : State),
      running s (portPage s n) = true →
      t = bump (portPage s n) 0x1A0 1 { s with net := { s.net with pauseAt := Tab.put s.net.pauseAt (pprio n q) s.time } } →
      lossless t n q = true →
      stormed t n q = false →
      exec (.pauseReceive n q 0) s = .next (unpause n q t)) ∧
  (∀ (n q : Nat) (s : State),
      paused s n q = true →
      exec (.pauseExpiry n q) s = .next (unpause n q s)) ∧
  (∀ (n q : Nat) (s t : State),
      paused s n q = true →
      live s (portPage s n) 1 = true →
      wdogPast s n (Tab.find? s.net.pausedAt (pprio n q)) = true →
      t = prioBit n 16 q true s →
      exec (.pfcStormEntry n q) s = .next (resumePrio n q (hallmark 0x2003 (instOf (portPage t n)) [pw n, pw q, pw 1] (bump (portPage t n) 0x1AC 1 t)))) ∧
  (∀ (n q : Nat) (s t : State),
      stormed s n q = true →
      wdogPast s n (Tab.find? s.net.pauseAt (pprio n q)) = true →
      t = unpause n q (prioBit n 16 q false s) →
      exec (.pfcStormExit n q) s = .next (hallmark 0x2003 (instOf (portPage t n)) [pw n, pw q, pw 0] t)) ∧
  (∀ (n : Nat) (s : State),
      alive s (portPage s n) = true →
      n < netPorts s →
      (netOctets s n).any (patterned s) = false →
      exec (.portLinkUp n) s = .next (hallmark 0x2002 (instOf (portPage s n)) [pw n, pw (netMode s)] (lanesLocked (8 * rdF s pgFLX 0x100 4 0 + netLanes s * n) (netLanes s) (nwrF n 0x178 1 0 3 s)))) ∧
  (∀ (n k : Nat) (s t : State),
      bit (nrd s n 0x178) 0 = true →
      t = hallmark 0x2001 (instOf (portPage s n)) [pw n, pw k] (nwr n 0x178 0 s) →
      exec (.portLinkDown n k) s = .next { t with net := { t.net with pausedAt := t.net.pausedAt.filter (fun e => e.1 / 8 != n), xoff := t.net.xoff.filter fun k => k / 8 != n } })

/-- Each packet that XPT takes in sequence on a queue pair in the right state has the effect of its kind: a SEND is delivered, an RDMA WRITE placed, a READ answered, a READ response handed to its user, an acknowledgement applied, an RNR NAK and an SP_NAK answered by sending again, an atomic done, a scatter packet placed with its bit set, and a CNP cuts the rate. -/
def Obligations.PacketsComplete : Prop :=
  (∀ (n i : Nat) (p : RPkt) (s t u v : State) (q : Qp),
      leftWaiting s p = false →
      t = takeArrival n p s →
      inQ t = false →
      alive t pgXPT = true →
      p.icrcOk = true →
      p.pkey = 0xFFFF →
      qpIndex p.qpn = some i →
      resident t i = true →
      opcodeKnown (qpOf t i) p.opcode = true →
      u = touch i t →
      q = qpOf t i →
      q.st = .rts →
      psnCase q p.psn = .expected →
      q.rx = none →
      p.opcode = 4 →
      q.rxBufs ≠ 0 →
      p.payload.length ≤ rxBufBytes u →
      v = advance i 1 u →
      exec (.roceSend n p) s = .next (ackReq i p (deliver i p.payload (qpPut i { qpOf v i with rx := none, rxBufs := (qpOf v i).rxBufs - 1 } v)))) ∧
  (∀ (n i : Nat) (p : RPkt) (s t u v : State) (q : Qp),
      leftWaiting s p = false →
      t = takeArrival n p s →
      inQ t = false →
      alive t pgXPT = true →
      p.icrcOk = true →
      p.pkey = 0xFFFF →
      qpIndex p.qpn = some i →
      resident t i = true →
      opcodeKnown (qpOf t i) p.opcode = true →
      u = touch i t →
      q = qpOf t i →
      q.st = .rts →
      psnCase q p.psn = .expected →
      q.rx = none →
      p.opcode = 10 →
      p.payload.length = p.len →
      accessOk u q accWRITE p.rkey p.va p.len = true →
      v = advance i 1 (memWrite p.va p.payload u) →
      exec (.rdmaWrite n p) s = .next (ackReq i p (qpPut i { qpOf v i with rx := none } v))) ∧
  (∀ (n i : Nat) (p : RPkt) (s t u : State) (q : Qp),
      leftWaiting s p = false →
      t = takeArrival n p s →
      inQ t = false →
      alive t pgXPT = true →
      p.icrcOk = true →
      p.pkey = 0xFFFF →
      qpIndex p.qpn = some i →
      resident t i = true →
      opcodeKnown (qpOf t i) p.opcode = true →
      u = touch i t →
      q = qpOf t i →
      q.st = .rts →
      psnCase q p.psn = .expected →
      q.rx = none →
      q.respQ.length < q.attrF 0x2C 1 →
      accessOk u q accREAD p.rkey p.va p.len = true →
      exec (.rdmaReadRequest n p) s = .next (readAnswer p i (advance i (pktsFor p.len q.pmtu) u))) ∧
  (∀ (n i : Nat) (p : RPkt) (s t u : State) (q : Qp) (x : XTx) (v : State),
      leftWaiting s p = false →
      t = takeArrival n p s →
      inQ t = false →
      alive t pgXPT = true →
      p.icrcOk = true →
      p.pkey = 0xFFFF →
      qpIndex p.qpn = some i →
      resident t i = true →
      opcodeKnown (qpOf t i) p.opcode = true →
      u = touch i t →
      q = qpOf t i →
      q.st = .rts →
      (q.unacked.find? fun t => t.msg.kind == .read && t.has p.psn) = some x →
      x.got = 0 →
      x.taken = 0 →
      psnDiff p.psn x.psn = 0 →
      p.payload.length = x.msg.len →
      p.opcode = 16 →
      v = readData i x 0 p.payload u →
      exec (.rdmaReadResponse n p) s = .next (pumpAll i (qpPut i (proven v { qpOf v i with unacked := (qpOf v i).unacked.erase x } [x]) v))) ∧
  (∀ (n i : Nat) (p : RPkt) (s t : State) (q : Qp),
      leftWaiting s p = false →
      t = takeArrival n p s →
      inQ t = false →
      alive t pgXPT = true →
      p.icrcOk = true →
      p.pkey = 0xFFFF →
      qpIndex p.qpn = some i →
      resident t i = true →
      opcodeKnown (qpOf t i) p.opcode = true →
      q = qpOf t i →
      q.st = .rts →
      (q.unacked.any fun t => t.has p.psn) = true →
      p.opcode = 17 →
      p.syndrome = 0x1F →
      exec (.roceAck n p) s = .next (ackUpTo i p.psn (touch i t))) ∧
  (∀ (n i : Nat) (p : RPkt) (s t u : State) (q : Qp),
      leftWaiting s p = false →
      t = takeArrival n p s →
      inQ t = false →
      alive t pgXPT = true →
      p.icrcOk = true →
      p.pkey = 0xFFFF →
      qpIndex p.qpn = some i →
      resident t i = true →
      opcodeKnown (qpOf t i) p.opcode = true →
      q = qpOf t i →
      q.st = .rts →
      (q.unacked.any fun t => t.has p.psn) = true →
      p.opcode = 17 →
      p.syndrome = 0x60 →
      u = ackMark i (psnAdd p.psn (2 ^ 24 - 1)) (touch i t) →
      (qpOf u i).timeouts < retryLimit u (qpOf u i) →
      exec (.roceAck n p) s = .next (resendFrom i p.psn (qpPut i { qpOf u i with timeouts := (qpOf u i).timeouts + 1 } u))) ∧
  (∀ (n i : Nat) (p : RPkt) (s t u : State) (q : Qp),
      leftWaiting s p = false →
      t = takeArrival n p s →
      inQ t = false →
      alive t pgXPT = true →
      p.icrcOk = true →
      p.pkey = 0xFFFF →
      qpIndex p.qpn = some i →
      resident t i = true →
      opcodeKnown (qpOf t i) p.opcode = true →
      q = qpOf t i →
      q.st = .rts →
      (q.unacked.any fun t => t.has p.psn) = true →
      q.rnrTries < q.rnrRetry →
      u = ackMark i (psnAdd p.psn (2 ^ 24 - 1)) (touch i t) →
      exec (.rnrNak n p) s = .next (resendFrom i p.psn (qpPut i { qpOf u i with rnrTries := (qpOf u i).rnrTries + 1 } u))) ∧
  (∀ (n i : Nat) (p : RPkt) (s t u : State) (q : Qp) (o : W64) (v : State),
      leftWaiting s p = false →
      t = takeArrival n p s →
      inQ t = false →
      alive t pgXPT = true →
      p.icrcOk = true →
      p.pkey = 0xFFFF →
      qpIndex p.qpn = some i →
      resident t i = true →
      opcodeKnown (qpOf t i) p.opcode = true →
      u = touch i t →
      q = qpOf t i →
      q.st = .rts →
      psnCase q p.psn = .expected →
      q.rx = none →
      q.respQ.length < q.attrF 0x2C 1 →
      accessOk u q accATOMIC p.rkey p.va 8 = true →
      p.va % 8 = 0 →
      region u p.va = some .ddr →
      o = BitVec.ofNat 64 (ofLe (memRead u p.va 8)) →
      p.opcode = 19 →
      v = advance i 1 (memWrite p.va (le 8 (if o = p.cmp then p.swap else o).toNat) u) →
      exec (.compareAndSwap n p) s = .next (atomicAck i p.psn o (qpPut i { qpOf v i with atomics := ((qpOf v i).atomics ++ [(p.psn, o)]).drop ((qpOf v i).atomics.length + 1 - (qpOf v i).attrF 0x2C 1) } v))) ∧
  (∀ (n i : Nat) (p : RPkt) (s t u : State) (q : Qp) (o : W64) (v : State),
      leftWaiting s p = false →
      t = takeArrival n p s →
      inQ t = false →
      alive t pgXPT = true →
      p.icrcOk = true →
      p.pkey = 0xFFFF →
      qpIndex p.qpn = some i →
      resident t i = true →
      opcodeKnown (qpOf t i) p.opcode = true →
      u = touch i t →
      q = qpOf t i →
      q.st = .rts →
      psnCase q p.psn = .expected →
      q.rx = none →
      q.respQ.length < q.attrF 0x2C 1 →
      accessOk u q accATOMIC p.rkey p.va 8 = true →
      p.va % 8 = 0 →
      region u p.va = some .ddr →
      o = BitVec.ofNat 64 (ofLe (memRead u p.va 8)) →
      p.opcode = 20 →
      v = advance i 1 (memWrite p.va (le 8 (o + p.swap).toNat) u) →
      exec (.fetchAndAdd n p) s = .next (atomicAck i p.psn o (qpPut i { qpOf v i with atomics := ((qpOf v i).atomics ++ [(p.psn, o)]).drop ((qpOf v i).atomics.length + 1 - (qpOf v i).attrF 0x2C 1) } v))) ∧
  (∀ (n i : Nat) (p : RPkt) (s t u : State) (q : Qp) (m : SpRx),
      leftWaiting s p = false →
      t = takeArrival n p s →
      inQ t = false →
      alive t pgXPT = true →
      p.icrcOk = true →
      p.pkey = 0xFFFF →
      qpIndex p.qpn = some i →
      resident t i = true →
      opcodeKnown (qpOf t i) p.opcode = true →
      u = touch i t →
      q = qpOf t i →
      q.st = .rts →
      q.scatterLive 0 = true →
      spSelfOk q p = true →
      (q.sp.find? fun m => m.msgId == p.msgId) = some m →
      spAgrees q m p = true →
      m.got.contains p.idx = false →
      p.opcode = 0xC1 →
      accessOk u q accWRITE p.rkey p.va p.payload.length = true →
      exec (.spWrite n p) s = .next (spComplete (q.sp.length + 1) i (qpPut i { q with sp := q.sp.map fun x => if x.msgId = m.msgId then { m with got := m.got ++ [p.idx], data := [] } else x } (memWrite p.va p.payload u)))) ∧
  (∀ (n i : Nat) (p : RPkt) (s t u : State) (q : Qp) (m : SpRx),
      leftWaiting s p = false →
      t = takeArrival n p s →
      inQ t = false →
      alive t pgXPT = true →
      p.icrcOk = true →
      p.pkey = 0xFFFF →
      qpIndex p.qpn = some i →
      resident t i = true →
      opcodeKnown (qpOf t i) p.opcode = true →
      u = touch i t →
      q = qpOf t i →
      q.st = .rts →
      q.scatterLive 1 = true →
      spSelfOk q p = true →
      (q.sp.find? fun m => m.msgId == p.msgId) = some m →
      spAgrees q m p = true →
      m.got.contains p.idx = false →
      p.opcode = 0xC0 →
      exec (.spSend n p) s = .next (spComplete (q.sp.length + 1) i (qpPut i { q with sp := q.sp.map fun x => if x.msgId = m.msgId then { m with got := m.got ++ [p.idx], data := Tab.put m.data p.idx p.payload } else x } u))) ∧
  (∀ (n i : Nat) (p : RPkt) (s t u : State) (q : Qp) (m : SpRx),
      leftWaiting s p = false →
      t = takeArrival n p s →
      inQ t = false →
      alive t pgXPT = true →
      p.icrcOk = true →
      p.pkey = 0xFFFF →
      qpIndex p.qpn = some i →
      resident t i = true →
      opcodeKnown (qpOf t i) p.opcode = true →
      u = touch i t →
      q = qpOf t i →
      q.st = .rts →
      q.scatterLive 2 = true →
      spSelfOk q p = true →
      (q.sp.find? fun m => m.msgId == p.msgId) = some m →
      spAgrees q m p = true →
      m.got.contains p.idx = false →
      p.opcode = 0xC2 →
      exec (.spReadResp n p) s = .next (spComplete (q.sp.length + 1) i (qpPut i { q with sp := q.sp.map fun x => if x.msgId = m.msgId then { m with got := m.got ++ [p.idx], data := Tab.put m.data p.idx p.payload } else x } u))) ∧
  (∀ (n i : Nat) (p : RPkt) (s t : State) (q : Qp) (x : XTx) (l : List Nat) (u : State),
      leftWaiting s p = false →
      t = takeArrival n p s →
      inQ t = false →
      alive t pgXPT = true →
      p.icrcOk = true →
      p.pkey = 0xFFFF →
      qpIndex p.qpn = some i →
      resident t i = true →
      opcodeKnown (qpOf t i) p.opcode = true →
      q = qpOf t i →
      q.st = .rts →
      q.scatterAny = true →
      (q.unacked.find? fun t => (t.msg.kind == .spWrite || t.msg.kind == .spSend) && t.msgId == field p.payload 0 3) = some x →
      l = (List.range 64).filterMap (fun b => if (field p.payload 8 8).testBit b ∧ field p.payload 4 2 + b < x.pkts then some (field p.payload 4 2 + b) else none) →
      u = l.foldl (fun s k => putPkt i (txPkt q x k) s) t →
      exec (.spNak n p) s = .next (bump pgXPT 0x214 l.length (qpPut i { q with unacked := q.unacked.map (fun u => if u = x then { x with resent := true } else u), cautious := q.cautious || live u pgXPT 4, rtoUs := if q.cautious then q.rtoUs else rdF u pgXPT 0x110 6 0, proved := 0 } u))) ∧
  (∀ (n i : Nat) (p : RPkt) (s t : State) (q : Qp),
      leftWaiting s p = false →
      t = takeArrival n p s →
      inQ t = false →
      alive t pgXPT = true →
      p.icrcOk = true →
      p.pkey = 0xFFFF →
      qpIndex p.qpn = some i →
      resident t i = true →
      opcodeKnown (qpOf t i) p.opcode = true →
      q = qpOf t i →
      q.st = .rts →
      live t pgXPT 3 = true →
      cutRecently t q = false →
      exec (.cnp n p) s = .next (qpPut i { q with target := q.rate, rate := clampRate t (q.rate - q.rate * rdF t pgXPT 0x118 31 24 / 256), stage := 0, cutAt := some t.time } t))

/-- A gap asks again for what is missing; a retransmission timer sends again from the first unacknowledged packet and a risen rate stays within the line rate; a fetched context takes its place; and firmware's commands move a queue pair from state to state and open and revoke windows. -/
def Obligations.QueuePairsAndWindowsComplete : Prop :=
  (∀ (n k : Nat) (s : State) (q : Qp) (m : SpRx) (a x : Nat) (t : State),
      q = qpOf s n →
      (q.sp.find? fun m => m.msgId == k && m.got.length != m.cnt) = some m →
      m.naks < rdF s pgXPT 0x114 18 16 →
      inQ s = false →
      a = ((List.range m.cnt).find? fun k => !m.got.contains k).getD 0 →
      x = (List.range 64).foldl (fun v b => if a + b < m.cnt ∧ !m.got.contains (a + b) then v + 2 ^ b else v) 0 →
      t = qpPut n { q with sp := q.sp.map fun x => if x.msgId = k then { m with naks := m.naks + 1 } else x } s →
      exec (.spGapExpiry n k) s = .next (putPkt n { qpn := q.destQpn, opcode := 0xC3, psn := m.psn, payload := le 3 m.msgId ++ le 1 0 ++ le 2 a ++ le 2 0 ++ le 8 x } (bump pgXPT 0x234 1 t))) ∧
  (∀ (n : Nat) (s : State) (q : Qp),
      q = qpOf s n →
      q.st = .rts →
      q.unacked ≠ [] →
      paused s q.port q.prio = false →
      inQ s = false →
      q.cautious = false →
      q.timeouts < q.retry →
      exec (.retransmitTimeout n) s = .next (resendFrom n ((q.unacked.head?.map (fun t => psnAdd t.psn t.acked)).getD 0) (qpPut n { q with timeouts := q.timeouts + 1 } s))) ∧
  (∀ (n : Nat) (s : State) (q : Qp) (t : Nat),
      q = qpOf s n →
      q.st = .rts →
      live s pgXPT 3 = true →
      cutRecently s q = false →
      t = (if q.stage < 5 then q.target else Nat.min (lineRate s) (q.target + rdF s pgXPT 0x118 15 8 * 100000 * (q.stage - 4))) →
      exec (.temperRise n) s = .next (qpPut n { q with target := t, rate := clampRate s ((q.rate + t) / 2), stage := Nat.min 255 (q.stage + 1) } s)) ∧
  (∀ (n : Nat) (s t : State),
      alive s pgXPT = true →
      resident s n = false →
      makeResident n s = some t →
      exec (.ctxFetchDone n false) s = .next (pumpAll n ((qpOf t n).parked.foldl (fun s e => screen e.1 e.2 s fun _ s => handlePkt e.1 e.2 s) (qpPut n { qpOf t n with parked := [] } t)))) ∧
  (∀ (n : Nat) (s : State),
      alive s pgXPT = true →
      resident s n = false →
      exec (.ctxFetchDone n true) s = .next (qpError n 5 s)) ∧
  (∀ (v : W32) (s t : State) (i : Nat),
      t = commandWrite pgXPT 0x148 v s →
      running t pgXPT = true →
      i = qpSel t →
      (qpOf t i).st = .reset →
      exec (.qpInit v) s = .next (qpResult 0 (qpPut i { qpOf t i with st := .init } ((makeResident i t).getD t)))) ∧
  (∀ (v : W32) (s t : State) (i : Nat) (u : State),
      t = commandWrite pgXPT 0x148 v s →
      running t pgXPT = true →
      i = qpSel t →
      (qpOf t i).st = .init →
      attrOk t (attrBlock t) = true →
      u = takeAttrs i t →
      exec (.qpRtr v) s = .next (qpResult 0 (qpPut i { qpOf u i with st := .rtr, rxBufs := if (qpOf u i).user = 1 then 1 else 0 } u))) ∧
  (∀ (v : W32) (s t : State) (i : Nat) (u : State),
      t = commandWrite pgXPT 0x148 v s →
      running t pgXPT = true →
      i = qpSel t →
      (qpOf t i).st = .rtr →
      attrOk t (attrBlock t) = true →
      u = takeAttrs i t →
      exec (.qpRts v) s = .next (qpResult 0 (qpPut i { qpOf u i with rqPsn := (qpOf t i).rqPsn, st := .rts, cautious := live u pgXPT 4, rtoUs := rdF u pgXPT 0x110 6 0, rate := lineRate u, target := lineRate u, stage := 0, cutAt := none } u))) ∧
  (∀ (n : Nat) (s : State),
      running s pgXPT = true →
      (qpOf s n).st = .rts →
      exec (.qpError n 6) s = .next (qpResult 0 (qpError n 6 s))) ∧
  (∀ (n k : Nat) (s : State),
      k ≠ 6 →
      exec (.qpError n k) s = .next (qpError n k s)) ∧
  (∀ (v : W32) (s t : State) (i : Nat),
      t = commandWrite pgXPT 0x148 v s →
      running t pgXPT = true →
      i = qpSel t →
      (qpOf t i).user = 0 →
      exec (.qpReset v) s = .next (qpResult 0 (qpPut i {} { t with xpt := { t.xpt with lru := t.xpt.lru.filter (· != i) } }))) ∧
  (∀ (v : W32) (s t : State) (q : Qp),
      t = commandWrite pgXPT 0x148 v s →
      running t pgXPT = true →
      q = qpOf t (qpSel t) →
      exec (.qpQuery v) s = .next (qpResult 0 (putAttrs (((q.attr.set 1 (pw q.sqPsn)).set 2 (pw q.rqPsn)).set 12 q.scatter) t))) ∧
  (∀ (v : W32) (s t : State) (i : Nat),
      t = commandWrite pgXPT 0x148 v s →
      running t pgXPT = true →
      i = qpSel t →
      (qpOf t i).st = .rts →
      exec (.qpTest v) s = .next (qpResult 0 (qpPut i { qpOf t i with cautious := live t pgXPT 4, proved := 0, rtoUs := rdF t pgXPT 0x110 6 0 } t))) ∧
  (∀ (v : W32) (s t : State) (i : Nat),
      t = commandWrite pgXPT 0x1DC v s →
      running t pgXPT = true →
      i = winSel t →
      (winOf t i).busy = false →
      exec (.winOpen v) s = .next (winPut i { winOf t i with base := rd64 t pgXPT 0x1C8, len := rd64 t pgXPT 0x1D0, pd := rdF t pgXPT 0x1D8 27 16, access := rdF t pgXPT 0x1D8 3 0, opened := true } t)) ∧
  (∀ (v : W32) (s t : State) (i : Nat),
      t = commandWrite pgXPT 0x1DC v s →
      running t pgXPT = true →
      i = winSel t →
      (winOf t i).busy = false →
      exec (.winRevoke v) s = .next (winPut i { winOf t i with gen := ((winOf t i).gen + 1) % 2 ^ 16, opened := false, busy := true } t)) ∧
  (∀ (n : Nat) (s : State),
      (winOf s n).busy = true →
      exec (.revokeDrained n) s = .next (winPut n { winOf s n with busy := false } s))

/-- Firmware's commands start, resume and stop a group, change its members and ask for a delta; a pinned delta is laid out; a full segment is sealed and shipped; an acknowledged one is published; the answer of the publish moves the group on; the control block is polled and the lease renewed; and the target takes segments up, applies them, marks them applied and checks the lease. -/
def Obligations.ReplicationCompletes : Prop :=
  (∀ (v : W32) (s t : State) (g : Nat),
      t = commandWrite pgRPL 0x148 v s →
      bits v 2 0 = 1 →
      running t pgRPL = true →
      g = grpSel t →
      (grpOf t g).active = false →
      mayRun t g = true →
      grpRole t g = 1 →
      exec (.grpStart v) s = .next (askPin g (askLease g (grpPut g { members := (grpOf t g).members, bytes := (grpOf t g).bytes, st := .shipping, due := true } t)))) ∧
  (∀ (v : W32) (s t : State) (g : Nat),
      t = commandWrite pgRPL 0x148 v s →
      bits v 2 0 = 2 →
      running t pgRPL = true →
      g = grpSel t →
      sourceOn t g = true →
      (grpOf t g).running = false →
      (grpOf t g).pinning = false →
      exec (.grpShipNow v) s = .next (askPin g (grpPut g { grpOf t g with due := true } t))) ∧
  (∀ (v : W32) (s t : State) (g : Nat),
      t = commandWrite pgRPL 0x148 v s →
      bits v 2 0 = 3 →
      running t pgRPL = true →
      g = grpSel t →
      mayRun t g = true →
      grpRole t g = 1 →
      (grpOf t g).st = .halted →
      exec (.grpResume v) s = .next (pollCtrl g (askLease g (grpPut g { grpOf t g with st := .shipping, resume := some 1 } t)))) ∧
  (∀ (v : W32) (s t : State) (g : Nat),
      t = commandWrite pgRPL 0x148 v s →
      bits v 2 0 = 4 →
      running t pgRPL = true →
      g = grpSel t →
      exec (.grpStop v) s = .next (grpPut g { (grpOf t g).cut with st := .idle, out := [], work := [], area := [], nrec := 0, running := false, pinning := false, resume := none } t)) ∧
  (∀ (v : W32) (s t : State) (g : Nat),
      t = commandWrite pgRPL 0x148 v s →
      bits v 2 0 = 5 →
      running t pgRPL = true →
      g = grpSel t →
      (grpOf t g).running = false →
      exec (.grpFull v) s = .next (grpPut g { grpOf t g with full := true } t)) ∧
  (∀ (v : W32) (s t : State) (g : Nat) (x : Grp),
      t = commandWrite pgRPL 0x144 v s →
      (grpOf s (grpSel s)).active = false →
      bits v 31 30 = 1 →
      running t pgRPL = true →
      g = grpSel t →
      x = grpOf t g →
      x.members.length < 256 →
      serves t (bits v 13 0) = true →
      (t.rpl.groups.any fun e => e.2.members.any fun m => m.1 == bits v 13 0) = false →
      exec (.grpNsAdd v) s = .next (updateTargets (grpPut g { x with members := memberIns (bits v 13 0, bits v 29 16) x.members } t))) ∧
  (∀ (v : W32) (s t : State) (g : Nat) (x : Grp),
      t = commandWrite pgRPL 0x144 v s →
      (grpOf s (grpSel s)).active = false →
      bits v 31 30 = 2 →
      running t pgRPL = true →
      g = grpSel t →
      x = grpOf t g →
      exec (.grpNsRemove v) s = .next (updateTargets (grpPut g { x with members := x.members.filter fun m => m.1 != bits v 13 0 } t))) ∧
  (∀ (g : Nat) (s : State),
      sourceOn s g = true →
      exec (.deltaStart g) s = .next (startDelta g (askPin g (settle g s)))) ∧
  (∀ (g : Nat) (s : State) (x : Grp),
      x = grpOf s g →
      sourceOn s g = true →
      x.running = false →
      x.pinning = false →
      exec (.shipTimer g) s = .next (askPin g (grpPut g { x with due := true } s))) ∧
  (∀ (g : Nat) (s : State) (x : Grp),
      x = grpOf s g →
      sourceOn s g = true →
      x.running = true →
      exec (.shipTimer g) s = .next (grpPut g { x with timer := true } s)) ∧
  (∀ (g : Nat) (s t : State) (x : Grp) (k : Seg) (u : State),
      sourceOn s g = true →
      t = settle g s →
      x = grpOf t g →
      sourceOn t g = true →
      x.st = .shipping →
      x.running = true →
      x.cur = none →
      x.resume = none →
      segFull t g = true →
      x.seq + 1 ≤ nseg t g + x.consumed →
      k = { seq := x.seq + 1, delta := x.delta, base := x.base, top := x.top, nrec := x.nrec, area := x.area, flags := b2n x.first + 2 * b2n x.work.isEmpty + 4 * b2n x.full + 8 * b2n x.restart } →
      u = shipSeg g k t →
      exec (.segmentSealed g) s = .next (if (grpOf u g).cur.isNone then u else absorb g (grpOf u g).work.length (grpPut g { grpOf u g with area := [], nrec := 0, first := false, restart := false } u))) ∧
  (∀ (g : Nat) (s t : State) (x : Grp) (k : Seg),
      sourceOn s g = true →
      t = settle g s →
      x = grpOf t g →
      sourceOn t g = true →
      x.cur = some k →
      k.stage = .written →
      x.st = .shipping →
      holdsLease t x = true →
      exec (.segmentWriteAck g) s = .next (postCas g 2 0 (BitVec.ofNat 64 (k.seq - 1)) (BitVec.ofNat 64 k.seq) (grpPut g { x with cur := some { k with stage := .publishing }, pubGot := none } t))) ∧
  (∀ (g : Nat) (s t : State) (x : Grp) (k : Seg) (v : W64),
      sourceOn s g = true →
      t = settle g s →
      x = grpOf t g →
      sourceOn t g = true →
      x.cur = some k →
      x.pubGot = some v →
      k.stage = .publishing →
      v.toNat = k.seq - 1 →
      exec (.publishResult g) s = .next (grpPut g { x with cur := none, pubGot := none, seq := k.seq, out := x.out ++ [k], st := if k.flags.testBit 1 then .waitApply else x.st } t)) ∧
  (∀ (g : Nat) (s t : State) (x : Grp),
      sourceOn s g = true →
      t = settle g s →
      x = grpOf t g →
      x.block = none →
      x.active = true →
      x.running = true →
      exec (.controlPoll g) s = .next (pollCtrl g t)) ∧
  (∀ (g : Nat) (s t : State) (x : Grp) (b : List Byte) (u : State),
      sourceOn s g = true →
      t = settle g s →
      x = grpOf t g →
      x.block = some b →
      u = onBlock g b (grpPut g { x with block := none, polling := false } t) →
      exec (.controlPoll g) s = .next (if (grpOf u g).active && ((grpOf u g).running || (grpOf u g).resume.isSome) then pollCtrl g u else u)) ∧
  (∀ (g : Nat) (s t : State),
      sourceOn s g = true →
      t = settle g s →
      (grpOf t g).st = .shipping →
      exec (.leaseRenew g) s = .next (askLease g t)) ∧
  (∀ (g : Nat) (s : State) (a : Applying),
      targetOn s g = true →
      (grpOf s g).applying = some a →
      exec (.segmentApply g) s = .next (applyRecs g ((a.todo.map fun r => r.count + 1).foldl (· + ·) 0) s)) ∧
  (∀ (g : Nat) (s : State) (a : Applying),
      targetOn s g = true →
      (grpOf s g).applying = some a →
      a.todo = [] →
      allReady s a.wseqs = true →
      exec (.segmentApplied g) s = .next (targetSnap g (segDone g a s))) ∧
  (∀ (g : Nat) (s : State) (x : Grp) (v : Nat),
      targetOn s g = true →
      leaseOn s = true →
      x = grpOf s g →
      v = ctrlWord s g 16 →
      v = 0 ∨ v % 2 ^ 40 ≠ x.seen.toNat % 2 ^ 40 →
      exec (.leaseCheck g) s = .next (grpPut g { x with seen := BitVec.ofNat 64 v, same := 0 } s)) ∧
  (∀ (g : Nat) (s : State) (x : Grp) (v : Nat),
      targetOn s g = true →
      leaseOn s = true →
      x = grpOf s g →
      v = ctrlWord s g 16 →
      v ≠ 0 →
      v % 2 ^ 40 = x.seen.toNat % 2 ^ 40 →
      rdF s pgRPL 0x100 31 24 ≤ x.same + 1 →
      exec (.leaseCheck g) s = .next (ctrlPut g 16 0 (grpPut g { x with seen := 0, same := 0 } s)))

/-- The next flit expected is accepted; a NAK and a retry timer send again; an acknowledgement owed leaves; the link trains, aligns and exchanges HELLO; it narrows, widens, is dropped and goes down for want of flits. -/
def Obligations.LinkCommandsComplete : Prop :=
  (∀ (f : List Byte) (s t : State),
      linkUp s = true →
      flitOk f = true →
      flitF f 37 37 = 0 →
      flitF f 20 9 = 0 →
      flitF f 63 62 = 1 →
      t = pump s.wdl.txq.length s →
      linkUp t = true →
      flitF f 61 50 = t.wdl.rxExp →
      exec (.flitReceive f 0 false) s = .next (acceptFlit f t)) ∧
  (∀ (f : List Byte) (n : Nat) (s : State),
      linkUp s = true →
      exec (.flitReceive f n true) s = .next (sendNak (bump pgWDL 0x184 1 s))) ∧
  (∀ (n k : Nat) (s : State),
      linkUp s = true →
      (s.wdl.replay.findIdx? fun f => f.fseq == n) = some k →
      exec (.nak n) s = .next (resend 0 { s with wdl := { s.wdl with replay := s.wdl.replay.drop k, resends := if k = 0 then s.wdl.resends else 0 } })) ∧
  (∀ (s : State),
      linkUp s = true →
      exec .retryTimeout s = .next (resend 0 s)) ∧
  (∀ (s : State),
      linkUp s = true →
      s.wdl.ackOwed = true →
      exec .ackTimer s = .next (emit (.wadunIdle (idleHeader 0 s)) { s with wdl := { s.wdl with ackOwed := false } })) ∧
  (∀ (l : W32) (s t : State),
      lstate s = 1 →
      running s pgWDL = true →
      widthOf (~~~l) = 4 →
      t = wrF pgWDL 0x108 10 8 4 (wr pgWDL 0x10C (~~~l) s) →
      exec (.laneLock l) s = .next (emit (.wadunIdle (idleHeader 3 s)) t)) ∧
  (∀ (s : State),
      lstate s = 1 →
      linkWidth s ≠ 0 →
      exec .alignFlit s = .next (wrF pgWDL 0x108 2 0 2 { s with wdl := { s.wdl with deskewed := true } })) ∧
  (∀ (v : W32) (s t : State),
      clockStopped s pgWDL 0x104 = false →
      t = commandWrite pgWDL 0x104 v s →
      bit v 0 = true →
      running t pgWDL = true →
      t.wdl.barred = false →
      lstate t = 0 →
      exec (.retrain v) s = .next (trainLink t)) ∧
  (∀ (l : W32) (s t : State),
      t = wr pgWDL 0x10C (rd s pgWDL 0x10C ||| l) s →
      linkUp t = true →
      l ≠ 0 →
      live t pgWDL 0 = true →
      widthOf (lanesFailed t) ≠ 0 →
      widthOf (lanesFailed t) < linkWidth t →
      exec (.laneFail l) s = .next (emit (.ctl (narrowRecord t)) (wrF pgWDL 0x108 2 0 4 t))) ∧
  (∀ (n : Nat) (l : W32) (s t : State),
      linkUp s = true →
      lstate s = 4 →
      t = { s with wdl := { s.wdl with peerLanes := l } } →
      live t pgWDL 0 = true →
      Nat.min n (widthOf (lanesFailed t)) ≠ 0 →
      exec (.narrow n l) s = .next (setWidth (Nat.min n (widthOf (lanesFailed t))) t)) ∧
  (∀ (n : Nat) (l : W32) (s t : State),
      lstate s = 3 →
      t = { s with wdl := { s.wdl with peerLanes := l } } →
      live t pgWDL 0 = true →
      Nat.min n (widthOf (lanesFailed t)) ≠ 0 →
      Nat.min n (widthOf (lanesFailed t)) < linkWidth t →
      exec (.narrow n l) s = .next (setWidth (Nat.min n (widthOf (lanesFailed t))) (emit (.ctl (narrowRecord t)) t))) ∧
  (∀ (s : State),
      lstate s = 3 →
      live s pgWDL 0 = true →
      linkWidth s < 4 →
      ∃ t, exec (.linkWiden 0xFFFFFFFF) s = .next t ∧ linkWidth t = 4 ∧ rd t pgWDL 0x10C = 0 ∧ t.wdl.peerLanes = 0) ∧
  (∀ (s : State),
      lstate s = 2 →
      exec .helloTimer s = .next (mayUp (emit (.ctl (helloRecord s)) { s with wdl := { s.wdl with sentSeen := s.wdl.sentSeen || s.wdl.gotHello } }))) ∧
  (∀ (b : List Byte) (s : State),
      lstate s = 2 →
      helloClean b = true →
      helloRefuse b s = 0 →
      exec (.hello b) s = .next (mayUp (noteHello b s))) ∧
  (∀ (k : Nat) (s : State),
      lstate s ≠ 5 →
      exec (.dropMsg k) s = .next (linkDown 3 s)) ∧
  (∀ (s : State),
      lstate s = 3 →
      exec .noFlitTimeout s = .next (linkDown 1 s))

/-- A slot, a journal record or a stripe entry that the partner asks for is sent, and what it sends is kept; a namespace is offered, accepted and handed over; heartbeats advance and are heard; a cause of takeover is acted on; and fencing preempts first the arbiter, then every other module, and ends. -/
def Obligations.CopiesAndTakeoversComplete : Prop :=
  (∀ (n : Nat) (s t : State),
      t = takeRx 0x41 s →
      (mirOf t n).st ≠ .free →
      exec (.fetchSlot n true) s = .next (sendW 4 0x42 n ((mirOf t n).header ++ memRead t (mirAddr t n) 8224) t)) ∧
  (∀ (n : Nat) (s : State),
      exec (.fetchSlot n false) s = .next (fetchNak 0x41 n (takeRx 0x41 s))) ∧
  (∀ (n : Nat) (h d : List Byte) (s t : State),
      t = takeRx 0x42 s →
      exec (.slotData n h d) s = .next { t with frg := { t.frg with copies := Tab.put t.frg.copies n (some d) } }) ∧
  (∀ (j n : Nat) (s t : State),
      t = takeRx 0x43 s →
      qstDown t = false →
      exec (.fetchLj j n) s = .next (if verifying t j n = [] then fetchNak 0x43 j t else sendW 4 0x44 j (verifying t j n).flatten t)) ∧
  (∀ (n : Nat) (s t : State) (b : List Byte),
      t = takeRx 0x45 s →
      qstDown t = false →
      b = qstRead t (qSJMIRROR + n * 512) 512 →
      exec (.fetchSj n) s = .next (if sjOk b then sendW 4 0x46 n b t else fetchNak 0x45 n t)) ∧
  (∀ (n : Nat) (s t : State),
      t = takeRx 0x47 s →
      exec (.fetchNak 0x41 n) s = .next { t with frg := { t.frg with copies := Tab.put t.frg.copies n none } }) ∧
  (∀ (j : Nat) (b : List Byte) (s t u v : State) (r : Replay),
      t = takeRx 0x44 s →
      t.ldg.ljWait = true →
      u = (List.range (b.length / 256)).foldl (fun s i => if recordOk (slice b (256 * i) 256) then { s with ldg := { s.ldg with ljPeer := Tab.put s.ldg.ljPeer (j + i) (slice b (256 * i) 256) } } else s) { t with ldg := { t.ldg with ljWait := false } } →
      r = replayWith (ljMerged u) u.ldg.ckpt.jfrom u.ldg.ckpt →
      v = u.ldg.ljPeer.foldl (fun s x => if x.1 < r.stop then qstWrite (qLJ + ljPlace x.1) x.2 s else s) u →
      exec (.ljData j b) s = .next (if r.stop ≤ (replayOwn u).stop then u else { v with ldg := { v.ldg with ljPeer := v.ldg.ljPeer.filter fun x => decide (r.stop ≤ x.1) } })) ∧
  (∀ (j : Nat) (b : List Byte) (s t : State),
      t = takeRx 0x46 s →
      exec (.sjData j b) s = .next { t with ing := { t.ing with fetched := Tab.put t.ing.fetched j b } }) ∧
  (∀ (v : W32) (s t : State),
      bits v 31 30 = 1 →
      clockStopped s pgWDL 0x158 = false →
      bit (rd s pgWDL 0x15C) 8 = false →
      t = commandWrite pgWDL 0x158 v s →
      linkUp t = true →
      tstate t = 0 →
      owns t (bits v 13 0) = true →
      exec (.handoverOffer v) s = .next (sendW 3 0x31 (bits v 13 0) [] (wr pgWDL 0x15C 0x100 { t with wdl := { t.wdl with offer := some (bits v 13 0) } }))) ∧
  (∀ (v : W32) (s t : State),
      bits v 31 30 = 2 →
      clockStopped s pgWDL 0x158 = false →
      bit (rd s pgWDL 0x15C) 8 = false →
      t = commandWrite pgWDL 0x158 v s →
      exec (.handoverAccept v) s = .next { t with wdl := { t.wdl with accepts := t.wdl.accepts.filter (· != bits v 13 0) ++ [bits v 13 0] } }) ∧
  (∀ (n : Nat) (s t : State),
      t = takeRx 0x31 s →
      owns t n = false →
      t.wdl.accepts.contains n = true →
      exec (.handover n) s = .next (sendW 3 0x32 (n + epochOpen t * 2 ^ 16) [] { t with wdl := { t.wdl with accepts := t.wdl.accepts.filter (· != n) }, ldg := { t.ldg with transfers := t.ldg.transfers ++ [(n, headId t, epochOpen t)] } })) ∧
  (∀ (n e : Nat) (s t u : State),
      t = takeRx 0x32 s →
      t.wdl.offer = some n →
      u = rplHandover n (wr pgWDL 0x15C 0 { t with wdl := { t.wdl with offer := none } }) →
      exec (.handoverAck n e) s = .next (if e < epochOpen u then transfer u (n, 1 - headId t, e) else { u with ldg := { u.ldg with transfers := u.ldg.transfers ++ [(n, 1 - headId t, e)] } })) ∧
  (∀ (n : Nat) (s t : State),
      t = takeRx 0x33 s →
      t.wdl.offer = some n →
      exec (.handoverNak n) s = .next (wr pgWDL 0x15C (pw hoREFUSED) { t with wdl := { t.wdl with offer := none } })) ∧
  (∀ (s : State) (n : Nat),
      linkUp s = true →
      fit s = true →
      n = (rdF s pgWDL 0x148 15 0 + 1) % 65536 →
      exec .heartbeatTimer s = .next (emit (.ctl (le 1 1 ++ zeros 1 ++ le 2 n ++ zeros 4)) (wrF pgWDL 0x148 15 0 n s))) ∧
  (∀ (a : Nat) (s : State),
      linkUp s = true →
      s.wdl.gotAlive = true →
      a = (rdF s pgWDL 0x148 31 16 + 1) % 65536 →
      exec (.heartbeat a) s = .next (wrF pgWDL 0x148 31 16 a { s with wdl := { s.wdl with gotAlive := true, aliveAt := s.time, repeats := 0 } })) ∧
  (∀ (s : State),
      linkUp s = true →
      exec .hbMissed s = .next (takeoverCause 1 s)) ∧
  (∀ (v : W32) (s t : State),
      clockStopped s pgWDL 0x144 = false →
      t = commandWrite pgWDL 0x144 v s →
      bit v 0 = true →
      exec (.hbKick v) s = .next { t with wdl := { t.wdl with kicked := true } }) ∧
  (∀ (s : State),
      exec .hbKickTimeout s = .next { s with wdl := { s.wdl with kicked := false } }) ∧
  (∀ (s : State),
      exec .stepDownMessage s = .next (takeoverCause 5 (takeRx 0x34 s))) ∧
  (∀ (s : State),
      s.wdl.fence = .delay →
      exec .fenceDelayExpiry s = .next (preemptArbiter s)) ∧
  (∀ (s : State),
      s.wdl.fence = .arbiter →
      exec (.arbiterPreemptDone true) s = .next (((List.range 96).filter fun m => m != rdF s pgWDL 0x154 22 16 && (portOn s m || s.resOwn.contains m)).foldl (fun s m => emit (.reservation m 2 s.fuses.deviceId) s) { s with wdl := { s.wdl with fence := .others } })) ∧
  (∀ (s : State),
      s.wdl.fence = .arbiter →
      exec (.arbiterPreemptDone false) s = .next (fenced (fenceEnd 3 { s with resOwn := [] }))) ∧
  (∀ (s t u v : State),
      s.wdl.fence = .others →
      t = fenceEnd 2 { s with resPeer := [] } →
      u = rplTakeover (startAdoption (adoptAll (wrF pgLDG 0x108 9 8 3 { t with ldg := { t.ldg with transfers := [] } }))) →
      v = (u.pln.zones.filter fun z => decide (z.2.st = .reclaim)).foldl (fun s z => reclaim z.1 s) u →
      exec .fencePreemptsDone s = .next (overBudget (ldgStat (tryClose (rebudget (match v.tin.cmd with | some k => { v with tin := { v.tin with cmd := some { k with acked := true } } } | none => v)))))) ∧
  (∀ (v : W32) (s t : State),
      bits v 2 0 = 1 →
      clockStopped s pgWDL 0x150 = false →
      bit (rd s pgWDL 0x154) 31 = false →
      t = commandWrite pgWDL 0x150 v s →
      bit (rd t pgWDL 0x154) 30 = true →
      fit t = true →
      exec (.take v) s = .next (startTakeover (rdF t pgWDL 0x154 10 8) t)) ∧
  (∀ (v : W32) (s t : State),
      bits v 2 0 = 2 →
      clockStopped s pgWDL 0x150 = false →
      bit (rd s pgWDL 0x154) 31 = false →
      t = commandWrite pgWDL 0x150 v s →
      tstate t ≠ 3 →
      fit t = true →
      exec (.force v) s = .next (startTakeover 6 t)) ∧
  (∀ (v : W32) (s t : State),
      bits v 2 0 = 3 →
      clockStopped s pgWDL 0x150 = false →
      bit (rd s pgWDL 0x154) 31 = false →
      t = commandWrite pgWDL 0x150 v s →
      tstate t = 0 →
      exec (.takeCmdStepDown v) s = .next (fenced (wrF pgWDL 0x154 2 0 3 (sendW 3 0x34 0 [] t))))

/-- A message that a unit covers is checked; a unit is armed and disarmed, and its result read with the high half latched; memory is read and written by its region; ways are retired and remapped; maintenance runs over the lines named; DRAM is scrubbed, gets hot, is lost and is trained; and a lost MRAM stack faults QST. -/
def Obligations.ChecksAndMemoryComplete : Prop :=
  (∀ (n : Nat) (b : List Byte) (s : State),
      cvuCovers s n = true →
      longEnough s n b = true →
      gatePasses s n b = true →
      exec (.cvuMessage n b) s = .next (followAlive n b (coverMessage n b s))) ∧
  (∀ (n : Nat) (v : W32) (s : State),
      exec (.cvuArm n v) s = .next (cvuCfgWrite n (putBits v 4 4 1) s) ∧ exec (.cvuDisarm n v) s = .next (cvuCfgWrite n (putBits v 4 4 0) s)) ∧
  (∀ (m n : Nat) (s : State) (x : Cvu),
      x = cvuOf s n →
      exec (.cvuResSeqRead m n) s = .next (emit (.csrData m (rd s (cvuPage n) 0x120)) (cvuPut n { x with latch := (m, rd64 s (cvuPage n) 0x128) :: x.latch.filter fun e => e.1 != m } s))) ∧
  (∀ (x : MemAcc) (s : State) (w : Nat) (b : List Byte),
      pgState s pgSC ≠ stFAULT →
      region s x.addr = some .scratch →
      region s (x.addr + (x.size - 1)) = some .scratch →
      s.msys.spWay[(x.addr - 0xE000000000) / 0x800000]? = some w →
      x.err = .none →
      x.wdata = some b →
      exec (.memoryAccess x) s = .next (memWrite x.addr b (clearPoison x.addr b.length s))) ∧
  (∀ (x : MemAcc) (s : State) (w : Nat),
      pgState s pgSC ≠ stFAULT →
      region s x.addr = some .scratch →
      region s (x.addr + (x.size - 1)) = some .scratch →
      s.msys.spWay[(x.addr - 0xE000000000) / 0x800000]? = some w →
      x.err = .none →
      x.wdata = none →
      poisoned s x.addr x.len = false →
      exec (.memoryAccess x) s = .next (emit (.memData x.master (memRead s x.addr x.len)) s)) ∧
  (∀ (x : MemAcc) (s : State),
      region s x.addr = some .ddr →
      region s (x.addr + (x.size - 1)) = some .ddr →
      spanLost s .ddr x.addr x.size = false →
      regionServes s .ddr = true →
      x.err = .none →
      exec (.memoryAccess x) s = .next (cachedAccess x s)) ∧
  (∀ (n : Nat) (s : State),
      bit (rd s pgSC 0x10C) 31 = false →
      wayState s n = wayCACHE →
      n < 16 →
      atFloor s = false →
      exec (.scRetire n) s = .next (wrF pgSC 0x10C 31 31 1 { s with msys := { s.msys with scOp := some (.retire n retFIRMWARE) } })) ∧
  (∀ (n k : Nat) (s : State),
      bit (rd s pgSC 0x10C) 31 = false →
      wayState s n = waySCRATCH →
      n < 16 →
      atFloor s = false →
      (cacheWays s).getLast? = some k →
      exec (.spRemap n) s = .next (wrF pgSC 0x10C 31 31 1 { s with msys := { s.msys with scOp := some (.remap n k) } })) ∧
  (∀ (n k : Nat) (s : State),
      inQ s = false →
      s.msys.scOp = some (.retire n k) →
      wayState s n ≠ wayRETIRED →
      exec .scCommandDone s = .next (scEnd 0 (finishRetire n k { s with msys := { s.msys with scOp := none } }))) ∧
  (∀ (n k : Nat) (s t u : State),
      inQ s = false →
      s.msys.scOp = some (.remap n k) →
      wayState s k = wayCACHE →
      t = { s with msys := { s.msys with scOp := none } } →
      u = setWay n wayRETIRED (setWay k waySCRATCH (cleanInvalWay k t)) →
      exec .scCommandDone s = .next (scEnd 0 { u with msys := { u.msys with spWay := u.msys.spWay.map fun x => if x = n then k else x } })) ∧
  (∀ (h : Nat) (s t : State) (a n : Nat),
      bit (rd s pgSC (maintReg h 0x14)) 31 = false →
      a = (rd64 s pgSC (maintReg h 0)).toNat →
      n = (rd64 s pgSC (maintReg h 8)).toNat →
      n ≠ 0 →
      a + n ≤ 2 ^ 48 →
      t = wr pgSC (maintReg h 0x14) 0x80000000 s →
      ∃ f : Nat → State, (∀ k, f k = { t with msys := { t.msys with maint := Tab.put t.msys.maint h ⟨k, a, n⟩ } }) ∧ exec (.maintClean h) s = .next (f 1) ∧ exec (.maintInval h) s = .next (f 2) ∧ exec (.maintCleanInval h) s = .next (f 3) ∧ exec (.maintCleanAll h) s = .next (f 4)) ∧
  (∀ (h : Nat) (s t : State) (m : Maint),
      Tab.find? s.msys.maint h = some m →
      m.op = 4 →
      inQ s = false →
      t = { s with msys := { s.msys with maint := Tab.erase s.msys.maint h } } →
      exec (.maintDone h) s = .next (wr pgSC (maintReg h 0x14) 0 (cleanLines (s.msys.lines.map (·.1)) t))) ∧
  (∀ (p n : Nat) (u : List Nat) (s : State),
      live s p 0 = true →
      running s p = true →
      exec (.patrolScrub p n u) s = .next (u.foldl (fun s a => dramUe p a 0 s) (bump p 0x120 n (bump p 0x128 1 s)))) ∧
  (∀ (p n : Nat) (s t : State),
      t = wrF p 0x108 31 24 n s →
      clsOf p = 6 →
      live t p 1 = true →
      95 < n →
      t.msys.hot.contains p = false →
      exec (.dimmThermal p n) s = .next (hallmark 0x0602 (instOf p) [pw (instOf p), pw n] (event p 2 (pw n) { t with msys := { t.msys with hot := p :: t.msys.hot } }))) ∧
  (∀ (p : Nat) (s : State),
      exec (.dimmLost p) s = .next (recordFault p 0x81 0 { s with msys := { s.msys with lost := p :: s.msys.lost.filter (· != p) } })) ∧
  (∀ (p g d r l : Nat) (s : State),
      pgState s p = stSTART →
      Tab.find? s.msys.trained p = none →
      exec (.memoryTrainingDone p true g d r l) s = .next (pageReady p (trainDone p g d r l s))) ∧
  (∀ (s : State),
      exec .mramStackLost s = .next (recordFault pgQST 0x80 0 s))

/-- An event's record enters its core's ring, is completed and masked; rings are consumed and enabled; hallmark records are kept, written out, scanned and exported; firmware posts its own; and Touchmark loads, commits, confirms and reverts a bank. -/
def Obligations.EventsAndLogsComplete : Prop :=
  (∀ (p l : Nat) (i : W32) (s : State),
      lineListed p l = true →
      exec (.eventOccurrence p l i) s = .next (if checkFails s p l i then fatal p (bits i 7 0) (bits i 19 8) s else event p l i s)) ∧
  (∀ (k x : Nat) (s : State),
      running s pgEQC = true →
      ringEn s k = true →
      inQ s = false →
      ringNext s k = some x →
      ringFull s k = false →
      exec (.eventRingWrite k) s = .next (advanceProd k (memWrite ((rd64 s pgEQC (ringReg k 0)).toNat + ringProd s k * 16) (srcRecord s x (!s.eqc.phase0.contains k)) (srcPut x { srcOf s x with st := .active } s)))) ∧
  (∀ (m : Nat) (v : W32) (s t : State),
      t = commandWrite pgEQC 0x600 v s →
      m < 32 →
      live t pgEQC 0 = true →
      exec (.signal m v) s = .next (occur (srcPrivate (bits v 20 16) (bits v 4 0)) (BitVec.ofNat 32 (2 ^ m)) t)) ∧
  (∀ (v : W32) (k : Nat) (s : State),
      doneSource v = some k →
      exec (.evqDone v) s = .next (evqDone k (commandWrite pgEQC 0x604 v s))) ∧
  (∀ (k : Nat) (v : W32) (s : State),
      exec (.srcMaskWrite (some k) v) s = .next (privMaskWrite k v s) ∧ exec (.srcMaskWrite none v) s = .next (srcCfgWrite v s)) ∧
  (∀ (k : Nat) (v : W32) (s : State),
      exec (.ringConsWrite k v) s = .next (wrF pgEQC (ringReg k 0x0C) 15 0 (bits v 15 0) s)) ∧
  (∀ (k : Nat) (v : W32) (s t : State),
      bit (rd s pgEQC (ringReg k 8)) 0 = false →
      t = blockWrite pgEQC (ringReg k 8) v s →
      bit (rd t pgEQC (ringReg k 8)) 0 = true →
      exec (.eventRingEnable k v) s = .next { t with eqc := { t.eqc with phase0 := t.eqc.phase0.filter (· != k) } }) ∧
  (∀ (h n : Nat) (p : List W32) (s : State),
      h ≠ 0x1203 ∨ 16 ≤ n →
      h ≠ 0x0806 →
      exec (.hallmarkOccurrence h n p) s = .next (hallmark h n p (unitOut h ((p[0]?).getD 0).toNat s))) ∧
  (∀ (s : State) (r : HlmRec) (l : List HlmRec) (q : Nat) (t : State),
      s.hlm.buf = r :: l →
      alive s pgQST = true →
      alive s pgHLM = true →
      s.hlm.scanned = true →
      q = (rd64 s pgHLM 0x140).toNat →
      t = qstWrite (hlmBase + hlmSlot q * 64) (hlmBytes q (hlmFlags s) r) s →
      exec .hallmarkWrite s = .next (reportDrops (setNextSeq (q + 1) { t with hlm := { t.hlm with buf := l, loss := false } }))) ∧
  (∀ (s : State),
      exec .rateWindowTick s = .next { s with hlm := { s.hlm with win := [] } }) ∧
  (∀ (s : State) (l : List (List Byte)) (n k : Nat) (t : State),
      s.hlm.scanned = false →
      alive s pgQST = true →
      l = (hlmTouched s).map (hlmSlotBytes s) →
      n = (l.filter hlmValid).foldl (fun n bs => Nat.max n (field bs 0 8 + 1)) 0 →
      k = (l.filter fun bs => !hlmValid bs && field bs 0x3C 4 != 0).length →
      pgState s pgHLM = stSTART →
      t = bump pgHLM 0x1C8 k (wr64 pgHLM 0x140 (BitVec.ofNat 64 n) s) →
      exec .hlmScan s = .next (hallmark 0x0902 0 (pw2 n ++ [pw k]) { t with hlm := { t.hlm with scanned := true } })) ∧
  (∀ (v : W32) (s : State) (b : List Byte),
      bit (rd s pgHLM 0x180) 31 = false →
      live s pgHLM 2 = true →
      b = (List.range (Nat.max 1 (Nat.min 65536 (bits v 16 0)))).flatMap (fun i => hlmSlotBytes s ((rdF s pgHLM 0x178 15 0 + i) % 65536)) →
      exec (.exportCmd v) s = .next (wrF pgHLM 0x180 31 31 1 (commandWrite pgHLM 0x17C v (memWrite (rd64 s pgHLM 0x170).toNat b s)))) ∧
  (∀ (s : State),
      exec .exportDone s = .next (wrF pgHLM 0x180 31 31 0 s)) ∧
  (∀ (v : W32) (s t : State),
      t = commandWrite pgHLM 0x1B0 v s →
      bit v 0 = true →
      live t pgHLM 1 = true →
      rdF t pgHLM 0x190 15 8 = 0 →
      exec (.fwPost v) s = .next (hallmark (rdF t pgHLM 0x190 15 0) (rdF t pgHLM 0x190 23 16) ((List.range 7).map fun i => rd t pgHLM (0x194 + 4 * i)) t)) ∧
  (∀ (v : W32) (s t : State) (b : Nat),
      t = commandWrite pgTMK 0x110 v s →
      bit (rd t pgTMK 0x114) 31 = false →
      alive t pgTMK = true →
      inQ t = false →
      rdF t pgTMK 0x108 17 0 ≤ tmkMaxLen →
      tmkCurrent t = some b →
      exec (.tmkLoad v) s = .next (tmkEnd 0 (memWrite (rd64 t pgTMK 0x100).toNat (qstRead t (tmkBase b + 0x40) (tmkLen t b)) t))) ∧
  (∀ (v : W32) (s t u : State),
      t = commandWrite pgTMK 0x110 v s →
      bit (rd t pgTMK 0x114) 31 = false →
      alive t pgTMK = true →
      inQ t = false →
      rdF t pgTMK 0x108 17 0 ≤ tmkMaxLen →
      bit (rd t pgTMK 0x114) 30 = false →
      tmkCurrent t = none →
      u = tmkStore 0 (zeros 4 ++ (tmkHeader (rdF t pgTMK 0x10C 15 0) 1 (rdF t pgTMK 0x108 17 0)).drop 4 ++ zeros 8 ++ memRead t (rd64 t pgTMK 0x100).toNat (rdF t pgTMK 0x108 17 0)) t →
      exec (.tmkCommit v) s = .next (wrF pgTMK 0x114 31 31 1 { u with tmk := ⟨some 0, 0, false⟩ })) ∧
  (∀ (b : Nat) (s t u : State),
      s.tmk.target = some b →
      u = tmkSeal b s →
      t = { u with tmk := { u.tmk with target := none } } →
      tmkValid t b = true →
      t.tmk.fromCurrent = false →
      exec (.tmkCommitDone []) s = .next (hallmark 0x0A02 0 ([pw b] ++ pw2 (tmkSeq t b) ++ [pw (tmkVersion t b), pw (tmkLen t b)]) (bump64 pgTMK 0x128 1 (tmkEnd 0 t)))) ∧
  (∀ (v : W32) (s t : State) (b : Nat),
      t = commandWrite pgTMK 0x110 v s →
      bit (rd t pgTMK 0x114) 31 = false →
      alive t pgTMK = true →
      inQ t = false →
      rdF t pgTMK 0x108 17 0 ≤ tmkMaxLen →
      bit (rd t pgTMK 0x114) 30 = true →
      tmkCurrent t = some b →
      exec (.tmkConfirm v) s = .next (hallmark 0x0A03 0 [pw (tmkVersion t (1 - b)), pw (tmkVersion t b), pw 3] (tmkEnd 0 (wrF pgTMK 0x114 30 30 0 t)))) ∧
  (∀ (v : W32) (s t : State),
      t = commandWrite pgTMK 0x110 v s →
      bit (rd t pgTMK 0x114) 31 = false →
      alive t pgTMK = true →
      inQ t = false →
      rdF t pgTMK 0x108 17 0 ≤ tmkMaxLen →
      bit (rd t pgTMK 0x114) 30 = true →
      exec (.tmkRevert v) s = .next (tmkRevert t))

/-- A PLL that loses lock is relocked or lost, and a loss of the core clock resets the chip; references are measured and the control frequency switched; power states are asked for, entered and left; voltage, temperature, power and hours are followed; and SerDes lanes and the standby supply report. -/
def Obligations.ClocksAndPowerComplete : Prop :=
  (∀ (d : Nat) (s t : State),
      relocks d = true →
      bit (rd s pgCLK 0x104) d = true →
      t = wrF pgCLK 0x104 d d 0 s →
      live t pgCLK 0 = true →
      exec (.pllLockLoss d) s = .next (stopDomain d { t with clk := { t.clk with relocking := d :: t.clk.relocking } })) ∧
  (∀ (s : State),
      exec (.pllLockLoss 0) s = .next (coreLoss 0 s) ∧ exec (.pllLockLoss 5) s = .next (coreLoss 5 s)) ∧
  (∀ (d n : Nat) (s t : State),
      s.clk.resetHeld = false →
      s.clk.relocking.contains d = true →
      t = { s with clk := { s.clk with relocking := s.clk.relocking.filter (· != d) } } →
      exec (.pllRelockDone d n) s = .next (settleFlushes (hallmark 0x0301 0 [pw d, pw n] (bump pgCLK 0x150 1 (domSet_ d (wrF pgCLK 0x104 d d 1 t)))))) ∧
  (∀ (d : Nat) (s : State),
      s.clk.relocking.contains d = true →
      exec (.pllRelockTimeout d) s = .next (pllLost d { s with clk := { s.clk with relocking := s.clk.relocking.filter (· != d) } })) ∧
  (∀ (s : State),
      s.clk.onDieOsc = false →
      exec .xtalLost s = .next (hallmark 0x0201 0 [] (wrF pgCLK 0x120 0 0 0 (wrF pgCLK 0x120 3 3 1 { s with clk := { s.clk with onDieOsc := true } })))) ∧
  (∀ (x a b : Option Nat) (k : Nat) (s t : State),
      alive s pgCLK = true →
      refOk x = true →
      refOk a = true →
      t = wrF pgCLK 0x100 dmDBG dmDBG 0 (wrF pgCLK 0x120 2 0 (b2n (!s.clk.onDieOsc) + 2 + 4 * b2n (refOk b)) s) →
      live t pgCLK 1 = true →
      exec (.refMeasure x a b k) s = .next (wr pgCLK 0x11C (pw k) t)) ∧
  (∀ (d : Nat) (s : State),
      d = 0 ∨ d = 5 ∨ d = 15 →
      exec (.coreClockLoss d) s = .next (coreLoss d s)) ∧
  (∀ (v : W32) (s : State),
      exec (.ctlFreqSwitch v) s = .next (applyFreq (blockWrite pgCLK 0x110 v s))) ∧
  (∀ (v : W32) (s t : State),
      t = commandWrite pgPWR 0x100 v s →
      exiting t = false →
      pwrState t = 1 →
      exec (.pwrP0 v) s = .next (bump pgPWR 0x144 1 (wrF pgPWR 0x104 27 24 wkCOMMAND (wrF pgPWR 0x104 31 31 1 (wrF pgPWR 0x104 10 8 0 t))))) ∧
  (∀ (v : W32) (s t : State),
      t = commandWrite pgPWR 0x100 v s →
      pwrState t = 0 →
      refuseP1 t 0 = none →
      exec (.pwrP1 v) s = .next (startEntry 1 t)) ∧
  (∀ (v : W32) (s t : State),
      t = commandWrite pgPWR 0x100 v s →
      pwrState t = 0 ∨ pwrState t = 1 →
      exiting t = false →
      refuseP2 t = none →
      exec (.pwrP2 v) s = .next (startEntry 2 t)) ∧
  (∀ (v : W32) (s : State),
      exec (.pwrQuench v) s = .next (startQuench qtCOMMAND (commandWrite pgPWR 0x100 v s))) ∧
  (∀ (n : Nat) (s : State),
      alive s pgPWR = true →
      inQ s = false →
      exec (.avsUpdate n true) s = .next (setVdd (applyFreq (setCap (wrF pgPWR 0x110 23 16 (if live s pgPWR 2 then Nat.min n 255 else 0) s))))) ∧
  (∀ (s t : State),
      pwrState s = psENTERING →
      exiting s = false →
      rdF s pgPWR 0x104 10 8 = 1 →
      s.pwr.fromState = 0 →
      t = (sleepy s).foldl (fun s n => laneSet n false s) (scPowerDown s) →
      exec .powerEntryDone s = .next (hallmark 0x3201 0 [pw 0, pw 1, 0] (wrF pgPWR 0x104 31 31 0 (wrF pgPWR 0x104 2 0 1 (setAsleep (idleLanes t) t))))) ∧
  (∀ (s : State),
      ∃ t, exec .pohTick s = .next t ∧ t.cells.poh = s.cells.poh + 1 ∧ t.cells.wear = s.cells.wear + BitVec.ofNat 64 (wearWeight (rdF s pgPWR 0x120 7 0) (rdF s pgPWR 0x110 9 0))) ∧
  (∀ (n : Nat) (s t : State),
      alive s pgPWR = true →
      t = wrF pgPWR 0x120 7 0 n s →
      n < 110 →
      n + 5 ≤ rdF t pgPWR 0x124 7 0 →
      exec (.thermalSample n) s = .next { t with pwr := { t.pwr with hot := false } }) ∧
  (∀ (s : State),
      inQ s = false →
      alive s pgPWR = true →
      s.pwr.hot = true →
      15 < s.pwr.freq →
      exec .throttleStep s = .next (slower s)) ∧
  (∀ (s : State),
      inQ s = false →
      alive s pgPWR = true →
      s.pwr.hot = false →
      s.pwr.capped = false →
      s.pwr.gated ≠ [] →
      exec .throttleStep s = .next { s with pwr := { s.pwr with gated := s.pwr.gated.dropLast } }) ∧
  (∀ (n : Nat) (s : State),
      alive s pgPWR = true →
      ∃ t u : State, exec (.powerSample n) s = .next t ∧ u = wrF pgPWR 0x118 9 0 n s ∧ t = { u with pwr := t.pwr } ∧ t.pwr.overMs = (if rdF u pgPWR 0x11C 9 0 < n then s.pwr.overMs + 1 else 0)) ∧
  (∀ (o l : Nat) (s : State),
      srdUse s o ≤ 1 →
      laneRuns s o = true →
      s.srd.lost.contains (o * 8 + l) = false →
      exec (.serdesLaneLockLoss o l) s = .next (hallmark 0x2401 o [pw o, pw l, pw (srdUse s o)] (bump (pgSRD + o) 0x124 1 { s with srd := { s.srd with lost := (o * 8 + l) :: s.srd.lost } }))) ∧
  (∀ (o : Nat) (s : State),
      pgState s (pgSRD + o) ≠ stOFF →
      pgState s (pgSRD + o) ≠ stFAULT →
      exec (.serdesLanePllLost o) s = .next (octetDown o (fatal (pgSRD + o) 0x80 0 s))) ∧
  (∀ (n : Nat) (s : State),
      alive s pgAON = true →
      exec (.vinAonLow n) s = .next (if n < 1600 then hallmark 0x0203 0 [pw n] (wrF pgAON 0x104 12 0 n s) else wrF pgAON 0x104 12 0 n s))

/-- A lifecycle command is armed and run; the owner lock is set; debug levels are granted, returned and won by a challenge; accesses run or wait; and the TAP's instructions select the pins. -/
def Obligations.LifecycleAndDebugComplete : Prop :=
  (∀ (v : W32) (s t : State),
      t = commandWrite pgTOP 0x114 v s →
      exec (.lcArm v) s = .next { t with top := { t.top with armed := some (bits v 2 0), armedAt := t.time } }) ∧
  (∀ (v : W32) (k : Option Nat) (s t : State),
      t = commandWrite pgTOP 0x118 v s →
      bit (rd t pgTOP 0x110) 31 = false →
      lcRefusal t .minted = none →
      exec (.lcMint v true k) s = .next (lcRun .minted k { t with top := { t.top with armed := none } })) ∧
  (∀ (v : W32) (k : Option Nat) (s t : State),
      t = commandWrite pgTOP 0x118 v s →
      bit (rd t pgTOP 0x110) 31 = false →
      lcRefusal t .owned = none →
      exec (.lcOwn v k) s = .next (lcRun .owned k { t with top := { t.top with armed := none } })) ∧
  (∀ (v : W32) (k : Option Nat) (s t : State),
      t = commandWrite pgTOP 0x118 v s →
      bit (rd t pgTOP 0x110) 31 = false →
      lcRefusal t .retired = none →
      exec (.lcRetire v k) s = .next (lcRun .retired k { t with top := { t.top with armed := none } })) ∧
  (∀ (v : W32) (s t : State),
      ownerLock s = false →
      t = blockWrite pgTOP 0x140 v s →
      ownerLock t = true →
      exec (.ownerLockSet v) s = .next (hallmark 0x0103 0 [pw 0] t)) ∧
  (∀ (v : W32) (s t : State),
      t = commandWrite pgDBG 0x104 v s →
      bit v 0 = true →
      live t pgDBG 0 = true →
      ownerLock t = false →
      dbgLevel t = 0 →
      exec (.d1Grant v) s = .next (setLevel 1 t)) ∧
  (∀ (v : W32) (s : State),
      bit v 1 = true →
      exec (.d0Return v) s = .next (setLevel 0 (commandWrite pgDBG 0x104 v s))) ∧
  (∀ (s t u : State),
      tapUp s = true →
      t = tapScan .dbgChallenge .normal s →
      t.dbg.refuseUntil ≤ t.time →
      u = wrF pgDBG 0x100 4 4 1 (draw t).2 →
      exec .dbgChallenge s = .next (emit (.tap 448 ((Config.nonce384 t.free).toNat * 2 ^ 64 + u.fuses.deviceId.toNat)) { u with dbg := { u.dbg with nonce := some (Config.nonce384 t.free) } })) ∧
  (∀ (g : BitVec 768) (n : BitVec 384) (s t u v : State),
      tapUp s = true →
      t = tapScan .dbgResponse .normal s →
      t.dbg.nonce = some n →
      t.fuses.lc = .minted →
      u = wrF pgDBG 0x100 4 4 0 { t with dbg := { t.dbg with nonce := none } } →
      v = hallmark 0x3002 0 (pw2 u.fuses.deviceId.toNat) (bump pgDBG 0x1A8 1 u) →
      exec (.dbgResponse g) s = .next (if Config.ecdsaP384 Config.vendorDebugKey (sha384 (challengeText n u.fuses.deviceId)) g then setLevel 2 u else { v with dbg := { v.dbg with refuseUntil := v.time + 1000000 } })) ∧
  (∀ (s : State),
      tapUp s = true →
      s.aon.resetN = false →
      exec .extest s = .next (tapScan .extest .extest s) ∧ exec .clamp s = .next (tapScan .clamp .clamp s) ∧ exec .highz s = .next (tapScan .highz .highz s)) ∧
  (∀ (a b : List Bool) (s t : State),
      tapUp s = true →
      t = tapScan .samplePreload .normal s →
      exec (.samplePreload a b) s = .next (emit (.tap a.length (a.foldr (fun b n => b2n b + 2 * n) 0)) { t with dbg := { t.dbg with bsr := b } })) ∧
  (∀ (s : State),
      exec .idcode s = .next (emit (.tap 32 (idcode s)) (tapScan .idcode .normal s)) ∧ exec .bypass s = .next (tapScan .bypass .normal s)) ∧
  (∀ (s : State),
      exec .trstNAssert s = .next (tapScan .idcode .normal (dbgAbandon { s with dbg := { s.dbg with bsr := [] } }))) ∧
  (∀ (a : Nat) (v : W32) (s : State),
      tapUp s = true →
      exec (.dbgAccessRead a) s = .next (dbgUpdate ⟨false, a, 0⟩ (dbgCapture s)) ∧ exec (.dbgAccessWrite a v) s = .next (dbgUpdate ⟨true, a, v⟩ (dbgCapture s))) ∧
  (∀ (s : State) (y : DbgAcc),
      s.dbg.waiting = [y] →
      dbgStopped s y.addr = false →
      exec .debugAccessResume s = .next (dbgPerform y { s with dbg := { s.dbg with waiting := [] } }))

/-- Firmware stages, verifies, activates and confirms an image; a trial not confirmed is reverted; a lost flash faults FWU; supplies, pins and causes reset the chip; the AON PLL locks; the boot ROM runs, retries and fails by its statuses; and a port that does not train in time is late or ejected. -/
def Obligations.FirmwareAndBootComplete : Prop :=
  (∀ (v : W32) (s t : State) (n : Nat) (u : State),
      t = commandWrite pgFWU 0x128 v s →
      fwuBusy s = false →
      running s pgFWU = true →
      fwuRefusal t false = none →
      stageSlot t = some n →
      u = fwuStage false (norWrite (slotBase n) (List.replicate 4096 0xFF) (fwuBegin .stage n t)) →
      exec (.fwuStage v) s = .next { u with cells := setSlot n .empty u.cells, fwu := { u.fwu with prev := slotSt t.cells n } }) ∧
  (∀ (v : W32) (s t : State),
      t = commandWrite pgFWU 0x128 v s →
      fwuBusy s = false →
      running s pgFWU = true →
      exec (.fwuVerify v) s = .next (fwuStage false (fwuBegin .verify (1 - runSlot t) t))) ∧
  (∀ (v : W32) (s t : State),
      t = commandWrite pgFWU 0x128 v s →
      fwuBusy s = false →
      running s pgFWU = true →
      fwuHolding t = false →
      fwuRefusal t true = none →
      exec (.fwuActivate v) s = .next (wrF pgFWU 0x12C 3 3 1 (holdStart (hqAsync aeACTIVATE (fwuBegin .activate (1 - runSlot t) t))))) ∧
  (∀ (v : W32) (s t : State),
      t = commandWrite pgFWU 0x128 v s →
      fwuBusy s = false →
      running s pgFWU = true →
      onTrial t = true →
      bit (rd t pgTMK 0x114) 30 = false →
      exec (.fwuConfirm v) s = .next (fwuDone (confirmSlot (runSlot t) t))) ∧
  (∀ (s : State) (n : Nat) (t : State),
      inQ s = false →
      s.fwu.op = some .stage →
      n = s.fwu.slot →
      t = norWrite (slotBase n) (memRead s (rd64 s pgFWU 0x108).toNat (rdF s pgFWU 0x110 27 0)) s →
      exec (.fwuCommandDone true) s = .next (fwuDone { t with cells := setSlot n t.fwu.prev t.cells })) ∧
  (∀ (s : State) (n : Nat) (t u : State),
      onTrial s = true →
      inQ s = false →
      live s pgFWU 0 = true →
      bit (rd s pgTMK 0x114) 30 = false →
      n = runSlot s →
      t = { s with cells := { setSlot n .empty s.cells with pref := 1 - n } } →
      u = (draw (hallmark 0x3105 0 [pw n, Config.free32 t.free] (bump pgFWU 0x168 1 t))).2 →
      exec .confirmTimeout s = .next (chipReset rsFWU_REVERT (flushHallmarks u.hlm.buf.length u))) ∧
  (∀ (s : State),
      exec .norLost s = .next (fwuAbandon (recordFault pgFWU 0x80 0 s))) ∧
  (∀ (s : State),
      exec .powerOnReset s = .next (powerOnReset s)) ∧
  (∀ (s t : State),
      t = chipReset rsPOWER_ON { s with regs := [], clk := { s.clk with onDieOsc := false } } →
      exec .vinAonLoss s = .next { t with aon := ⟨false, false, false, false, false⟩ }) ∧
  (∀ (s t : State),
      s.aon.vinPresent = true →
      t = wrF pgCLK 0x104 7 7 1 { s with aon := { s.aon with pllLocked := true } } →
      pgState t pgAON = stSTART →
      bit (rd t pgAON 0x044) 5 = false →
      exec .aonPllLock s = .next (pageReady pgAON t)) ∧
  (∀ (s t : State),
      s.aon.resetN = true →
      t = { s with aon := { s.aon with resetN := false } } →
      inQ s = false →
      running s pgWC = true →
      dirty s ≠ 0 →
      exec .resetNAssert s = .next (startQuench qtRESET_N t)) ∧
  (∀ (s t : State),
      s.aon.resetN = true →
      t = { s with aon := { s.aon with resetN := false } } →
      inQ s = false →
      running s pgWC = false →
      exec .resetNAssert s = .next (chipReset rsRESET_PIN t)) ∧
  (∀ (n : Nat) (s : State),
      inQ s = false →
      exec (.chipReset n) s = .next (chipReset n s)) ∧
  (∀ (k g d r n : Nat) (b e : List Nat) (s t u : State),
      s.boot.due ≠ 0 →
      s.aon.pllLocked = true →
      s.clk.resetHeld = false →
      inQ s = false →
      t = { s with aon := { s.aon with rails := true, resetN := true }, boot := { s.boot with due := 0, cause := s.boot.due, untold := true } } →
      u = romControl (romLifecycle (bump pgTOP 0x158 k (setIr t.dbg.ir .normal t))) →
      dimmsOk b = true →
      (b.any e.contains) = false →
      exec (.bootRomRun true k b e g d r n) s = .next (romBoot n (romRun pgFWU 0 (romMemory b.length g d r u)))) ∧
  (∀ (n : Nat) (s : State),
      s.boot.waiting = true →
      exec (.bootRetry n) s = .next (romBoot n s)) ∧
  (∀ (p : Nat) (s : State),
      portThere s p = true →
      pgState s (pgFLX + p) = stSTART →
      rdF s (pgFLX + p) 0x108 10 8 = 0 →
      running s pgING = false →
      exec (.portTrainTimeout p) s = .next { s with pln := { s.pln with late := p :: s.pln.late.filter (· != p) } })

/-- For every command c and state s, a step of s with c at the front of its queue is exec of c on s with the queue's rest. -/
def Obligations.StepRunsTheFrontCommand : Prop :=
  ∀ (c : Instr) (q : List Instr) (s : State), s.pending = c :: q → step s = exec c { s with pending := q }

/-- The model's choice (log entry 1, DESIGN CHOICE): no row of the table is the tick of EQC.TIME, so a step on an empty queue adds one microsecond to it and changes nothing else. -/
def Obligations.EmptyQueueCountsOneMicrosecond : Prop :=
  (∀ (s : State),
      s.pending = [] →
      step s = .next { s with time := s.time + 1 })

/-- After the first power-on reset: every page is OFF, every PG_REV reads 0x100, every queue of R49 holds its depth in credits and no entry, HOST_FLOOR reads 65,536 chunks and WP_HYST 0x4000, the debug level is D0, OWNER_LOCK is clear, nothing is stored in memory, the quench store or the NOR, every write-cache slot is FREE, and no command waits. That the die is BLANK with no fuse burned is the choice of the model for a die (log entry 6). -/
def Obligations.ResetLeavesTheSpecValues : Prop :=
  (∀ q : QueueId, queueOf_ State.reset q = ⟨q.depth, [], none⟩) ∧
  (∀ p, pageExists p = true → pgState State.reset p = stOFF ∧ rd State.reset p 0x004 = 0x100#32) ∧
  rd State.reset pgPLN 0x104 = 0x10000#32 ∧ rd State.reset pgPLN 0x108 = 0x4000#32 ∧ dbgLevel State.reset = 0 ∧
  rd State.reset pgTOP 0x140 = 0#32 ∧ State.reset.fuses = ⟨.blank, none, 0, 0, 0, 0, false, 0, 0⟩ ∧
  State.reset.mem = [] ∧ State.reset.qst = [] ∧ State.reset.nor = [] ∧ State.reset.wc.slots = [] ∧ State.reset.pending = []

/-- At reset the memory, the quench store, the NOR and the register file are in their canonical form, and the pending mark of the lifecycle fuses names no earlier state. -/
def Obligations.StoredAtReset : Prop :=
  Stored State.reset ∧ State.reset.fuses.ordered

/-- From every state whose memory, quench store, NOR and register file are in canonical form (addresses rise, no entry holds what an unlisted address reads as), a step that answers a next state leaves them in that form. -/
def Obligations.EveryStepKeepsWhatIsStored : Prop :=
  (∀ (s t : State),
      Stored s →
      step s = .next t →
      Stored t)

/-- Over every step, the fused secrets and the revoke fuses only gain bits, SVN_FUSE never falls, the permanent owner lock stays, and where the pending mark names no earlier state, it still does after and the lifecycle state never falls in the order BLANK, MINTED, OWNED, RETIRED. -/
def Obligations.EveryStepBurnsFusesOneWay : Prop :=
  (∀ (s t : State),
      step s = .next t →
      s.fuses.burnsTo t.fuses)

/-- From every state a step answers a next state: no command faults the model and none is refused. -/
def Obligations.EveryStepGoesOn : Prop :=
  ∀ s : State, SafeStep s

/-- What any command leaves has the queue of waiting commands it found. -/
def Obligations.NoCommandTouchesTheQueue : Prop :=
  ∀ (i : Instr) (s t : State), exec i s = .next t → t.pending = s.pending

/-- A page number whose class is not in the table or whose instance exceeds the block's count names no page: a read answers 0 to the master that asked and changes nothing else, at every offset (PG_ID among them); a write changes nothing, and no fault is recorded anywhere. -/
def Obligations.AbsentPagesReadZero : Prop :=
  (∀ (m p off : Nat) (s : State),
      pageExists p = false →
      exec (.csrAbsentPageAccess m p off false) s = .next { s with out := s.out ++ [.csrData m 0] } ∧ exec (.csrAbsentPageAccess m p off true) s = .next s)

/-- A narrow or misaligned access to a page that exists ends in a bus error to the master that asked; PG_FAULT takes BAD_ACCESS by the rule of the first cause, the page's fault count rises, and nothing else changes. -/
def Obligations.NarrowAccessIsABusError : Prop :=
  (∀ (m p off n : Nat) (w : Bool) (s : State),
      pageExists p = true →
      ¬(n = 4 ∧ off % 4 = 0) →
      ¬(n = 8 ∧ off % 8 = 0) →
      ∃ t, exec (.csrNarrowAccess m p off n w) s = .next t ∧ t.out = s.out ++ [.busError m] ∧ rd t p 0x048 = faultWord (rd s p 0x048) 0x05 off ∧ OnlyRegs p [0x048, 0x04C] s t)

/-- An aligned access to an offset of an existing page at which no register is defined: a read answers 0, a write answers nothing; both record BAD_ACCESS with the offset and change nothing else, and neither ends in a bus error. -/
def Obligations.UndefinedOffsetReadsZero : Prop :=
  (∀ (m p off : Nat) (s : State),
      pageExists p = true →
      clockStopped s p off = false →
      regAt p off = none →
      ∃ t, exec (.csrUndefinedOffsetAccess m p off false) s = .next t ∧ t.out = s.out ++ [.csrData m 0] ∧ rd t p 0x048 = faultWord (rd s p 0x048) 0x05 off ∧ OnlyRegs p [0x048, 0x04C] s t) ∧
  (∀ (m p off : Nat) (s : State),
      pageExists p = true →
      clockStopped s p off = false →
      regAt p off = none →
      ∃ t, exec (.csrUndefinedOffsetAccess m p off true) s = .next t ∧ t.out = s.out ∧ rd t p 0x048 = faultWord (rd s p 0x048) 0x05 off ∧ OnlyRegs p [0x048, 0x04C] s t)

/-- A write of FEAT_ASK to a page in OFF or START stores the word and changes no other register; in any other state it is ignored, and FEAT_LATE is recorded with the register's offset. A locked one records LOCKED_WRITE alone (R35; in a state that R41 refuses as well, the model's choice, log entry 165). -/
def Obligations.FeatureAskOnlyBeforeRun : Prop :=
  (∀ (p i : Nat) (v : W32) (s : State),
      i < 4 →
      pageExists p = true →
      clockStopped s p (0x018 + 4 * i) = false →
      locked s p 1 = false →
      pgState s p = stOFF ∨ pgState s p = stSTART →
      ∃ t, exec (.featAskWrite p i v) s = .next t ∧ rd t p (0x018 + 4 * i) = v ∧ t.out = s.out ∧ OnlyRegs p [0x018 + 4 * i] s t) ∧
  (∀ (p i : Nat) (v : W32) (s : State),
      i < 4 →
      pageExists p = true →
      clockStopped s p (0x018 + 4 * i) = false →
      locked s p 1 = false →
      pgState s p ≠ stOFF →
      pgState s p ≠ stSTART →
      ∃ t, exec (.featAskWrite p i v) s = .next t ∧ rd t p 0x048 = faultWord (rd s p 0x048) 0x02 (0x018 + 4 * i) ∧ t.out = s.out ∧ OnlyRegs p [0x048, 0x04C] s t) ∧
  (∀ (p i : Nat) (v : W32) (s : State),
      i < 4 →
      pageExists p = true →
      clockStopped s p (0x018 + 4 * i) = false →
      locked s p 1 = true →
      ∃ t, exec (.featAskWrite p i v) s = .next t ∧ rd t p 0x048 = faultWord (rd s p 0x048) 0x03 (0x018 + 4 * i) ∧ t.out = s.out ∧ OnlyRegs p [0x048, 0x04C] s t)

/-- An EP_ASK for an epoch older than the open one, so one whose EP_CLOSE has been sent, only leaves the receive queue. -/
def Obligations.LateAskIsDiscarded : Prop :=
  (∀ (e : Nat) (s : State),
      e < epochOpen (takeRx 0x22 s) →
      exec (.epAsk e) s = .next (takeRx 0x22 s))

/-- What recording a fault writes to PG_FAULT and PG_FAULTCNT: the cause and offset where none is held; a fatal cause over a non-fatal one with MORE; else MORE alone over what is held; every fault counts, and a non-fatal one changes nothing else. -/
def Obligations.FirstFaultStands : Prop :=
  (∀ (p n off : Nat) (s : State),
      0 < n →
      n < 0x40 →
      bits (rd s p 0x048) 7 0 = 0 →
      rd (recordFault p n off s) p 0x048 = BitVec.ofNat 32 (off * 256 + n) ∧ rd (recordFault p n off s) p 0x04C = BitVec.ofNat 32 (min ((rd s p 0x04C).toNat + 1) 0xFFFFFFFF) ∧ OnlyRegs p [0x048, 0x04C] s (recordFault p n off s)) ∧
  (∀ (p n off : Nat) (s : State),
      n < 0x40 →
      bits (rd s p 0x048) 7 0 ≠ 0 →
      rd (recordFault p n off s) p 0x048 = putBits (rd s p 0x048) 31 31 1 ∧ OnlyRegs p [0x048, 0x04C] s (recordFault p n off s)) ∧
  (∀ (p n off : Nat) (s : State),
      0x40 ≤ n →
      0 < bits (rd s p 0x048) 7 0 →
      bits (rd s p 0x048) 7 0 < 0x40 →
      rd (noteFault p n off s) p 0x048 = BitVec.ofNat 32 (2 ^ 31 + off * 256 + n))

/-- For each of these commands, named one by one: whenever it answers a next state, every part of State it does not name is unchanged; memory, the quench store, the NOR and the fuses are parts, and so is the own state of each block. Where a command names the registers or memory, the statement of what that command leaves gives them. -/
def Obligations.PageAndQueueCommandsLeaveTheRest : Prop :=
  (∀ x0 x1 x2 x3, Leaves (.csrRegisterWrite x0 x1 x2 x3) (faultParts ++ ([.held, .qst, .nor, .tmk, .clk, .fuses, .top, .cells, .aon, .boot, .dbg, .pwr, .fwu, .msys, .cvu, .srd, .ldg, .wdl, .net, .xpt, .hq, .pln, .anl, .rpl, .out] : List Part))) ∧
  (∀ x0 x1 x2 x3 x4, Leaves (.csrNarrowAccess x0 x1 x2 x3 x4) (faultParts ++ ([.out] : List Part))) ∧
  (∀ x0 x1 x2 x3, Leaves (.csrUndefinedOffsetAccess x0 x1 x2 x3) (faultParts ++ ([.latch, .held, .qst, .nor, .tmk, .clk, .fuses, .top, .cells, .aon, .boot, .dbg, .pwr, .fwu, .msys, .cvu, .srd, .ldg, .wdl, .net, .xpt, .hq, .pln, .anl, .rpl, .out] : List Part))) ∧
  (∀ x0 x1 x2 x3, Leaves (.csrAbsentPageAccess x0 x1 x2 x3) (faultParts ++ ([.latch, .held, .qst, .nor, .tmk, .clk, .fuses, .top, .cells, .aon, .boot, .dbg, .pwr, .fwu, .msys, .cvu, .srd, .ldg, .wdl, .net, .xpt, .hq, .pln, .anl, .rpl, .out] : List Part))) ∧
  (∀ x0 x1 x2, Leaves (.lowWordRead x0 x1 x2) (faultParts ++ ([.latch, .cvu, .ldg, .net, .out] : List Part))) ∧
  (∀ x0 x1 x2 x3, Leaves (.lowWordWrite x0 x1 x2 x3) (faultParts ++ ([.held, .qst, .nor, .tmk, .clk, .fuses, .top, .cells, .aon, .boot, .dbg, .pwr, .fwu, .msys, .cvu, .srd, .ldg, .wdl, .net, .xpt, .hq, .pln, .anl, .rpl, .out] : List Part))) ∧
  (∀ x0 x1 x2 x3, Leaves (.highWordWrite x0 x1 x2 x3) (faultParts ++ ([.held, .qst, .nor, .tmk, .clk, .fuses, .top, .cells, .aon, .boot, .dbg, .pwr, .fwu, .msys, .cvu, .srd, .ldg, .wdl, .net, .xpt, .hq, .pln, .anl, .rpl, .out] : List Part))) ∧
  (∀ x0 x1 x2, Leaves (.readClearCounterRead x0 x1 x2) (faultParts ++ ([.latch, .cvu, .ldg, .net, .out] : List Part))) ∧
  (∀ x0 x1 x2, Leaves (.clkStoppedTimeout x0 x1 x2) (faultParts ++ ([.out] : List Part))) ∧
  (∀ x0 x1, Leaves (.pgEnable x0 x1) (faultParts ++ ([.qst, .tmk, .boot, .dbg, .pwr, .fwu, .msys, .ldg, .wdl, .net, .xpt, .hq, .pln, .anl, .rpl, .out] : List Part))) ∧
  (∀ x0 x1, Leaves (.pgDisable x0 x1) (faultParts ++ ([.qst, .tmk, .boot, .dbg, .pwr, .fwu, .msys, .ldg, .wdl, .net, .xpt, .hq, .pln, .anl, .rpl, .out] : List Part))) ∧
  (∀ x0 x1, Leaves (.runReq x0 x1) (faultParts ++ ([.qst, .tmk, .boot, .dbg, .pwr, .fwu, .msys, .ldg, .wdl, .net, .xpt, .hq, .pln, .anl, .rpl, .out] : List Part))) ∧
  (∀ x0, Leaves (.pageReady x0) (faultParts ++ ([.qst, .boot, .pwr, .msys, .ldg, .wdl, .xpt, .hq, .pln, .out] : List Part))) ∧
  (∀ x0 x1, Leaves (.quiesceSet x0 x1) (faultParts ++ ([.qst, .tmk, .boot, .dbg, .pwr, .fwu, .msys, .ldg, .wdl, .net, .xpt, .hq, .pln, .anl, .rpl, .out] : List Part))) ∧
  (∀ x0 x1, Leaves (.quiesceClear x0 x1) (faultParts ++ ([.qst, .tmk, .boot, .dbg, .pwr, .fwu, .msys, .ldg, .wdl, .net, .xpt, .hq, .pln, .anl, .rpl, .out] : List Part))) ∧
  (∀ x0, Leaves (.pageDrainComplete x0) (faultParts ++ ([.qst, .tmk, .dbg, .pwr, .fwu, .msys, .ldg, .wdl, .net, .xpt, .hq, .pln, .anl, .rpl, .out] : List Part))) ∧
  (∀ x0, Leaves (.disableBoundExpiry x0) (faultParts ++ ([.qst, .tmk, .dbg, .pwr, .fwu, .msys, .ldg, .wdl, .net, .xpt, .hq, .pln, .anl, .rpl, .out] : List Part))) ∧
  (∀ x0 x1, Leaves (.softReset x0 x1) (faultParts ++ ([.qst, .tmk, .boot, .dbg, .pwr, .fwu, .msys, .ldg, .wdl, .net, .xpt, .hq, .pln, .anl, .rpl, .out] : List Part))) ∧
  (∀ x0, Leaves (.softResetComplete x0) (faultParts ++ ([.latch, .held, .qst, .queues, .tmk, .top, .dbg, .pwr, .fwu, .msys, .cvu, .srd, .ldg, .wdl, .net, .xpt, .hq, .pln, .anl, .rpl, .out] : List Part))) ∧
  (∀ x0 x1, Leaves (.faultClr x0 x1) (faultParts ++ ([.qst, .tmk, .boot, .dbg, .pwr, .fwu, .msys, .ldg, .wdl, .net, .xpt, .hq, .pln, .anl, .rpl, .out] : List Part))) ∧
  (∀ x0 x1 x2, Leaves (.featAskWrite x0 x1 x2) (faultParts ++ ([.out] : List Part))) ∧
  (∀ x0 x1, Leaves (.pgEvrouteWrite x0 x1) (faultParts ++ ([.out] : List Part))) ∧
  (∀ x0 x1, Leaves (.pgLockWrite x0 x1) (faultParts ++ ([.out] : List Part))) ∧
  (∀ x0 x1 x2, Leaves (.queueEntryArrive x0 x1 x2) (faultParts ++ ([.qst, .queues, .tmk, .dbg, .pwr, .fwu, .msys, .ldg, .wdl, .net, .xpt, .hq, .pln, .rpl, .out] : List Part))) ∧
  (∀ x0 x1, Leaves (.creditReturn x0 x1) (faultParts ++ ([.qst, .queues, .tmk, .dbg, .pwr, .fwu, .msys, .ldg, .wdl, .net, .xpt, .hq, .pln, .rpl, .out] : List Part))) ∧
  (∀ x0 x1 x2 x3, Leaves (.farSideReset x0 x1 x2 x3) [.regs, .queues]) ∧
  (∀ x0 x1 x2, Leaves (.crossingFlushTimeout x0 x1 x2) (faultParts ++ ([.qst, .tmk, .dbg, .pwr, .fwu, .msys, .ldg, .wdl, .net, .xpt, .hq, .pln, .rpl, .out] : List Part))) ∧
  (∀ x0 x1 x2, Leaves (.engineDoorbell x0 x1 x2) (faultParts ++ ([.out] : List Part))) ∧
  (∀ x0 x1, Leaves (.engineCompletionWrite x0 x1) [.regs, .mem, .eqc, .hlm, .eng, .asy, .tin, .free])

/-- For each of these commands, named one by one: whenever it answers a next state, every part of State it does not name is unchanged; memory, the quench store, the NOR and the fuses are parts, and so is the own state of each block. Where a command names the registers or memory, the statement of what that command leaves gives them. -/
def Obligations.LedgerAndHostCommandsLeaveTheRest : Prop :=
  (Leaves .epochTimerExpiry [.regs, .eqc, .hlm, .ldg, .ing, .wdl, .xpt, .hq, .out]) ∧
  (∀ x0, Leaves (.closeNow x0) (faultParts ++ ([.ldg, .wdl, .out] : List Part))) ∧
  (∀ x0, Leaves (.epClose x0) (faultParts ++ ([.ldg, .wdl, .xpt, .hq, .out] : List Part))) ∧
  (∀ x0, Leaves (.epAsk x0) [.ldg, .wdl, .out]) ∧
  (Leaves .epochDrainStart (faultParts ++ ([.ldg] : List Part))) ∧
  (∀ x0, Leaves (.epochDrainEnd x0) [.regs, .qst, .eqc, .hlm, .ldg, .ing, .wdl, .xpt, .hq, .pln, .out]) ∧
  (∀ x0, Leaves (.epDrained x0) (faultParts ++ ([.ldg, .wdl, .xpt, .hq, .out] : List Part))) ∧
  (Leaves .epochCommitRecord (faultParts ++ ([.qst, .ldg, .wdl, .xpt, .hq, .pln, .anl, .out] : List Part))) ∧
  (∀ x0 x1, Leaves (.epCommit x0 x1) (faultParts ++ ([.qst, .ldg, .wdl, .xpt, .hq, .out] : List Part))) ∧
  (∀ x0, Leaves (.epCommitAck x0) (faultParts ++ ([.qst, .ldg, .wdl, .xpt, .hq, .pln, .anl, .out] : List Part))) ∧
  (Leaves .ldgItemAccept [.regs, .qst, .hlm, .ldg, .wdl, .out]) ∧
  (Leaves .deallocateApply [.regs, .qst, .hlm, .ldg, .wdl, .out]) ∧
  (Leaves .checkpointComplete [.regs, .qst, .hlm, .ldg, .wdl, .frg, .pln, .out]) ∧
  (∀ x0, Leaves (.twinMismatch x0) [.regs, .eqc, .hlm]) ∧
  (∀ x0 x1 x2, Leaves (.judgeSelfCheckDone x0 x1 x2) (faultParts ++ ([.qst, .ldg, .wdl, .xpt, .hq, .out] : List Part))) ∧
  (∀ x0, Leaves (.repairA x0) (faultParts ++ ([.ldg] : List Part))) ∧
  (∀ x0, Leaves (.repairB x0) (faultParts ++ ([.ldg] : List Part))) ∧
  (∀ x0, Leaves (.repairSelfCheckDone x0) [.regs, .ldg]) ∧
  (∀ x0, Leaves (.snapArm x0) (faultParts ++ ([.ldg] : List Part))) ∧
  (∀ x0, Leaves (.snapTake x0) (faultParts ++ ([.ldg] : List Part))) ∧
  (∀ x0, Leaves (.snapDelete x0) (faultParts ++ ([.qst, .ldg, .wdl, .rpl, .out] : List Part))) ∧
  (∀ x0, Leaves (.snapClone x0) (faultParts ++ ([.qst, .ldg, .wdl, .out] : List Part))) ∧
  (∀ x0, Leaves (.snapDisarmAll x0) (faultParts ++ ([.ldg] : List Part))) ∧
  (∀ x0, Leaves (.slagEntryRead x0) [.ldg, .out]) ∧
  (∀ x0, Leaves (.ldgReplay x0) (faultParts ++ ([.ldg, .wdl, .out] : List Part))) ∧
  (Leaves .replayDone [.regs, .mem, .eqc, .hlm, .ldg, .wc]) ∧
  (∀ x0 x1 x2, Leaves (.capsuleArrival x0 x1 x2) [.regs, .xpt, .hq, .wc, .out]) ∧
  (∀ x0 x1, Leaves (.nvmeFlush x0 x1) [.regs, .ldg, .wdl, .xpt, .hq, .out]) ∧
  (∀ x0 x1, Leaves (.nvmeWrite x0 x1) [.regs, .mem, .qst, .hlm, .xpt, .hq, .wc, .out]) ∧
  (∀ x0 x1, Leaves (.nvmeRead x0 x1) [.regs, .mem, .hlm, .xpt, .hq, .wc, .out]) ∧
  (∀ x0 x1, Leaves (.nvmeCompare x0 x1) [.regs, .mem, .hlm, .xpt, .hq, .wc, .out]) ∧
  (∀ x0 x1, Leaves (.nvmeWriteZeroes x0 x1) [.regs, .mem, .qst, .xpt, .hq, .wc, .out]) ∧
  (∀ x0 x1, Leaves (.nvmeDatasetManagement x0 x1) [.regs, .hlm, .ldg, .xpt, .hq, .out]) ∧
  (∀ x0 x1, Leaves (.nvmeVerify x0 x1) [.regs, .mem, .hlm, .xpt, .hq, .wc, .out]) ∧
  (∀ x0 x1, Leaves (.invalidOpcode x0 x1) [.regs, .xpt, .hq, .out]) ∧
  (∀ x0 x1, Leaves (.fabricsConnect x0 x1) [.regs, .xpt, .hq, .out, .free]) ∧
  (∀ x0 x1, Leaves (.propertyGet x0 x1) [.regs, .xpt, .hq, .out]) ∧
  (∀ x0 x1, Leaves (.propertySet x0 x1) [.regs, .mem, .qst, .eqc, .hlm, .wdl, .xpt, .hq, .wc, .out]) ∧
  (∀ x0 x1, Leaves (.fabricsDisconnect x0 x1) [.regs, .mem, .qst, .eqc, .hlm, .wdl, .xpt, .hq, .wc, .out]) ∧
  (∀ x0 x1, Leaves (.getLogPage x0 x1) [.regs, .mem, .eqc, .hlm, .xpt, .hq, .out, .free]) ∧
  (∀ x0 x1, Leaves (.identify x0 x1) [.regs, .mem, .eqc, .hlm, .xpt, .hq, .out, .free]) ∧
  (∀ x0 x1, Leaves (.nvmeAbort x0 x1) [.regs, .xpt, .hq, .out]) ∧
  (∀ x0 x1, Leaves (.setFeatures x0 x1) [.regs, .mem, .eqc, .hlm, .xpt, .hq, .out, .free]) ∧
  (∀ x0 x1, Leaves (.getFeatures x0 x1) [.regs, .mem, .eqc, .hlm, .xpt, .hq, .out, .free]) ∧
  (∀ x0 x1, Leaves (.asynchronousEventRequest x0 x1) [.regs, .xpt, .hq, .out]) ∧
  (∀ x0 x1, Leaves (.keepAlive x0 x1) [.regs, .xpt, .hq, .out]) ∧
  (∀ x0, Leaves (.adminReply x0) (faultParts ++ ([.xpt, .hq, .out] : List Part))) ∧
  (∀ x0 x1, Leaves (.writeDataLanded x0 x1) [.regs, .mem, .qst, .eqc, .hlm, .wdl, .xpt, .hq, .wc, .out]) ∧
  (∀ x0, Leaves (.katoExpiry x0) [.regs, .mem, .qst, .eqc, .hlm, .wdl, .xpt, .hq, .wc, .out]) ∧
  (∀ x0, Leaves (.hqHoldWrite x0) (faultParts ++ ([.xpt, .hq, .out] : List Part))) ∧
  (Leaves .holdExpiry [.regs, .hlm, .xpt, .hq, .out]) ∧
  (Leaves .qosBucketRefill [.hq]) ∧
  (Leaves .qosWindowEnd [.regs, .hlm, .hq]) ∧
  (∀ x0, Leaves (.qosMinWrite x0) (faultParts ++ ([.hq] : List Part))) ∧
  (∀ x0, Leaves (.nsCfgWrite x0) (faultParts ++ ([.ldg, .hq] : List Part))) ∧
  (Leaves .powerExitComplete [.regs, .queues, .hlm, .clk, .pwr, .out])

/-- For each of these commands, named one by one: whenever it answers a next state, every part of State it does not name is unchanged; memory, the quench store, the NOR and the fuses are parts, and so is the own state of each block. Where a command names the registers or memory, the statement of what that command leaves gives them. -/
def Obligations.ForgeAndEngineCommandsLeaveTheRest : Prop :=
  (∀ x0 x1, Leaves (.forgeHandle x0 x1) (faultParts ++ ([.pwr] : List Part))) ∧
  (∀ x0 x1 x2, Leaves (.grainIntakeDone x0 x1 x2) (faultParts ++ ([.wdl, .out] : List Part))) ∧
  (∀ x0 x1, Leaves (.grainRefetchData x0 x1) faultParts) ∧
  (∀ x0 x1, Leaves (.refetchTimeout x0 x1) faultParts) ∧
  (∀ x0 x1, Leaves (.lookupAnswer x0 x1) (faultParts ++ ([.ldg] : List Part))) ∧
  (∀ x0 x1, Leaves (.pendingTimeout x0 x1) faultParts) ∧
  (∀ x0, Leaves (.indexPageFetchDone x0) (faultParts ++ ([.ldg] : List Part))) ∧
  (∀ x0 x1, Leaves (.lookupBudgetExpiry x0 x1) faultParts) ∧
  (∀ x0 x1, Leaves (.sealDone x0 x1) faultParts) ∧
  (∀ x0, Leaves (.keyWaitRetry x0) faultParts) ∧
  (∀ x0, Leaves (.billetGrant x0) faultParts) ∧
  (∀ x0 x1, Leaves (.verifyPlaintext x0 x1) (faultParts ++ ([.ldg] : List Part))) ∧
  (∀ x0 x1, Leaves (.verifyTimeout x0 x1) faultParts) ∧
  (∀ x0, Leaves (.handInBody x0) (faultParts ++ ([.ldg, .pln] : List Part))) ∧
  (∀ x0, Leaves (.handInRef x0) [.regs, .ldg, .frg]) ∧
  (∀ x0, Leaves (.handInZero x0) [.regs, .ldg, .frg]) ∧
  (∀ x0, Leaves (.handInSlag x0) [.regs, .eqc, .hlm, .ldg, .frg]) ∧
  (∀ x0, Leaves (.handInCull x0) [.regs, .ing, .frg]) ∧
  (∀ x0, Leaves (.fltClear x0) (faultParts ++ ([.out] : List Part))) ∧
  (∀ x0, Leaves (.domCfgWrite x0) (faultParts ++ ([.out] : List Part))) ∧
  (∀ x0 x1 x2 x3, Leaves (.asyHash x0 x1 x2 x3) [.regs, .mem, .hlm, .eng, .asy, .free]) ∧
  (∀ x0 x1 x2 x3, Leaves (.asyHmac x0 x1 x2 x3) [.regs, .mem, .hlm, .eng, .asy, .free]) ∧
  (∀ x0 x1 x2 x3 x4, Leaves (.asyHashCmp x0 x1 x2 x3 x4) [.regs, .mem, .hlm, .eng, .asy, .free]) ∧
  (∀ x0 x1 x2 x3 x4, Leaves (.asyHmacCmp x0 x1 x2 x3 x4) [.regs, .mem, .hlm, .eng, .asy, .free]) ∧
  (∀ x0 x1 x2, Leaves (.asyCtxExport x0 x1 x2) [.regs, .mem, .hlm, .eng, .asy, .free]) ∧
  (∀ x0 x1 x2, Leaves (.asyCtxImport x0 x1 x2) [.regs, .mem, .hlm, .eng, .asy, .free]) ∧
  (∀ x0 x1 x2, Leaves (.asyCtxClear x0 x1 x2) [.regs, .mem, .hlm, .eng, .asy, .free]) ∧
  (∀ x0, Leaves (.asyPreemptSave x0) [.regs, .eng, .asy]) ∧
  (∀ x0 x1, Leaves (.glaneRestore x0 x1) (faultParts ++ ([.out] : List Part))) ∧
  (∀ x0 x1, Leaves (.resSeqRead x0 x1) (faultParts ++ ([.out] : List Part))) ∧
  (∀ x0 x1 x2, Leaves (.ringDisable x0 x1 x2) (faultParts ++ ([.out] : List Part))) ∧
  (∀ x0 x1 x2 x3, Leaves (.cruCompress x0 x1 x2 x3) [.regs, .mem, .hlm, .eng, .free]) ∧
  (∀ x0 x1, Leaves (.cruDecompress x0 x1) [.regs, .mem, .hlm, .eng, .free]) ∧
  (∀ x0 x1, Leaves (.cruCtxClear x0 x1) [.regs, .mem, .hlm, .eng, .free]) ∧
  (∀ x0 x1, Leaves (.gunitRestore x0 x1) (faultParts ++ ([.out] : List Part))) ∧
  (∀ x0 x1 x2, Leaves (.gcmSeal x0 x1 x2) [.regs, .mem, .eqc, .hlm, .eng, .tin, .free]) ∧
  (∀ x0 x1 x2, Leaves (.gcmOpen x0 x1 x2) [.regs, .mem, .hlm, .eng, .tin, .free]) ∧
  (∀ x0 x1 x2, Leaves (.xtsEnc x0 x1 x2) [.regs, .mem, .eqc, .hlm, .eng, .tin, .free]) ∧
  (∀ x0 x1 x2, Leaves (.xtsDec x0 x1 x2) [.regs, .mem, .hlm, .eng, .tin, .free]) ∧
  (∀ x0 x1 x2, Leaves (.keyLoad x0 x1 x2) [.regs, .mem, .hlm, .eng, .tin, .free]) ∧
  (∀ x0 x1 x2, Leaves (.keyErase x0 x1 x2) [.regs, .mem, .hlm, .eng, .tin, .free]) ∧
  (∀ x0, Leaves (.keygenInstall x0) (faultParts ++ ([.wdl, .out] : List Part))) ∧
  (∀ x0, Leaves (.keygenRetire x0) (faultParts ++ ([.wdl, .out] : List Part))) ∧
  (Leaves .keygenEffect [.regs, .eqc, .hlm, .tin]) ∧
  (∀ x0 x1 x2 x3 x4 x5 x6, Leaves (.keygen x0 x1 x2 x3 x4 x5 x6) [.regs, .hlm, .wdl, .tin, .out]) ∧
  (∀ x0 x1 x2, Leaves (.useGrant x0 x1 x2) [.regs, .eqc, .hlm, .tin]) ∧
  (∀ x0, Leaves (.ceilingWriteDone x0) [.regs, .eqc, .hlm, .tin]) ∧
  (∀ x0 x1, Leaves (.tinUnitRestore x0 x1) (faultParts ++ ([.out] : List Part)))

/-- For each of these commands, named one by one: whenever it answers a next state, every part of State it does not name is unchanged; memory, the quench store, the NOR and the fuses are parts, and so is the own state of each block. Where a command names the registers or memory, the statement of what that command leaves gives them. -/
def Obligations.WriteCacheAndQuenchCommandsLeaveTheRest : Prop :=
  (∀ x0, Leaves (.slotLandingDone x0) [.regs, .mem, .wdl, .wc, .out]) ∧
  (∀ x0 x1 x2 x3, Leaves (.mirGrain x0 x1 x2 x3) [.regs, .mem, .wdl, .wc, .out]) ∧
  (∀ x0, Leaves (.mirAck x0) [.regs, .mem, .hlm, .wdl, .wc, .out]) ∧
  (∀ x0 x1, Leaves (.mirNak x0 x1) [.regs, .eqc, .hlm, .wdl, .wc, .out]) ∧
  (∀ x0, Leaves (.mirrorTimeout x0) [.regs, .mem, .eqc, .hlm, .wdl, .wc, .out]) ∧
  (∀ x0, Leaves (.slotReady x0) [.regs, .mem, .qst, .eqc, .hlm, .ldg, .wdl, .xpt, .hq, .wc, .out]) ∧
  (∀ x0 x1, Leaves (.mirStamp x0 x1) [.regs, .mem, .hlm, .wdl, .wc, .out]) ∧
  (∀ x0, Leaves (.mirRelease x0) [.regs, .mem, .hlm, .wdl, .wc, .out]) ∧
  (∀ x0, Leaves (.mirFree x0) [.regs, .mem, .hlm, .wdl, .wc, .out]) ∧
  (∀ x0 x1, Leaves (.mirHold x0 x1) [.regs, .eqc, .hlm, .wdl, .wc, .out]) ∧
  (Leaves .mirQuench [.regs, .eqc, .hlm, .wdl, .wc, .out]) ∧
  (∀ x0, Leaves (.writeThroughDone x0) [.mem, .qst, .wc]) ∧
  (∀ x0, Leaves (.mirrorResume x0) (faultParts ++ ([.wdl, .out] : List Part))) ∧
  (Leaves .overBudgetCloseTick [.regs, .ldg, .wdl, .out]) ∧
  (∀ x0, Leaves (.holdSenseSample x0) [.regs]) ∧
  (Leaves .holdEnergyRecompute [.regs, .eqc, .hlm, .wdl, .wc, .out]) ∧
  (Leaves .holdTestStart [.regs, .aon]) ∧
  (∀ x0, Leaves (.testNow x0) (faultParts ++ ([.aon] : List Part))) ∧
  (∀ x0, Leaves (.holdTestEnd x0) [.regs, .hlm, .aon, .free]) ∧
  (∀ x0, Leaves (.holdTrip x0) [.regs, .qst, .hlm, .clk, .aon, .dbg, .wdl, .wc, .frg, .out]) ∧
  (Leaves .adoptionComplete [.regs, .mem, .qst, .eqc, .hlm, .ldg, .xpt, .hq, .wc, .out]) ∧
  (Leaves .catchupDone [.mem, .qst, .wc]) ∧
  (Leaves .pwrfailNLow [.regs, .qst, .hlm, .clk, .aon, .dbg, .wdl, .wc, .frg, .out]) ∧
  (∀ x0, Leaves (.quenchStart x0) [.regs, .qst, .hlm, .clk, .aon, .dbg, .wdl, .wc, .frg, .out]) ∧
  (Leaves .quenchDirDone [.regs, .qst, .clk, .wc]) ∧
  (∀ x0, Leaves (.quenchDataDone x0) [.regs, .qst, .hlm, .wc]) ∧
  (∀ x0, Leaves (.quenchRailRelease x0) (faultParts ++ ([.time, .latch, .held, .queues, .tmk, .clk, .top, .aon, .boot, .dbg, .pwr, .fwu, .msys, .cvu, .srd, .ldg, .wdl, .net, .xpt, .hq, .pln, .anl, .rpl] : List Part))) ∧
  (Leaves .restoreLoad [.regs, .mem, .hlm, .wc]) ∧
  (Leaves .restoreDone [.regs, .mem, .qst, .eqc, .hlm, .wc])

/-- For each of these commands, named one by one: whenever it answers a next state, every part of State it does not name is unchanged; memory, the quench store, the NOR and the fuses are parts, and so is the own state of each block. Where a command names the registers or memory, the statement of what that command leaves gives them. -/
def Obligations.FlashCommandsLeaveTheRest : Prop :=
  (∀ x0, Leaves (.castStart x0) [.regs, .qst, .eqc, .hlm, .ldg, .ing, .wdl, .xpt, .hq, .pln, .out]) ∧
  (∀ x0 x1, Leaves (.sjEntry x0 x1) [.regs, .qst, .wdl, .out]) ∧
  (∀ x0 x1, Leaves (.sjMark x0 x1) [.regs, .qst, .wdl, .out]) ∧
  (∀ x0 x1, Leaves (.ljRecord x0 x1) [.regs, .qst, .ldg, .wdl, .out]) ∧
  (∀ x0 x1, Leaves (.jAck x0 x1) [.regs, .qst, .ldg, .ing, .wdl, .tin, .out]) ∧
  (∀ x0, Leaves (.journalAckTimeout x0) [.regs, .qst, .eqc, .hlm, .ing, .wdl, .wc, .out]) ∧
  (∀ x0 x1 x2, Leaves (.memberAppendDone x0 x1 x2) [.regs, .qst, .eqc, .hlm, .ldg, .ing, .wdl, .xpt, .hq, .pln, .out]) ∧
  (∀ x0 x1, Leaves (.appendFail x0 x1) [.regs, .qst, .eqc, .hlm, .ing, .wdl, .xpt, .hq, .pln, .out]) ∧
  (Leaves .amendRetryTick [.regs, .qst, .eqc, .hlm, .ing, .wdl, .xpt, .hq, .pln, .out]) ∧
  (∀ x0 x1, Leaves (.journalResolve x0 x1) [.regs, .qst, .hlm, .ldg, .ing, .wdl, .pln, .out]) ∧
  (∀ x0 x1 x2 x3, Leaves (.detourExpiry x0 x1 x2 x3) [.regs, .mem, .qst, .eqc, .hlm, .pwr, .ldg, .ing, .wdl, .xpt, .hq, .wc, .drp, .pln, .out]) ∧
  (∀ x0, Leaves (.ejectTimeout x0) [.regs, .mem, .qst, .eqc, .hlm, .pwr, .ldg, .ing, .wdl, .xpt, .hq, .wc, .drp, .pln, .out]) ∧
  (∀ x0, Leaves (.modEject x0) (faultParts ++ ([.qst, .pwr, .ldg, .wdl, .xpt, .hq, .pln, .out] : List Part))) ∧
  (∀ x0, Leaves (.deferredEject x0) [.regs, .mem, .qst, .eqc, .hlm, .pwr, .ldg, .ing, .wdl, .xpt, .hq, .wc, .drp, .pln, .out]) ∧
  (Leaves .rebuildScan [.regs, .eqc, .hlm, .ing]) ∧
  (Leaves .rebuildStart [.regs, .eqc, .hlm, .ing, .anl, .out]) ∧
  (∀ x0 x1, Leaves (.rebuildDecodeDone x0 x1) [.regs, .mem, .qst, .eqc, .hlm, .pwr, .ldg, .ing, .wdl, .xpt, .hq, .wc, .drp, .pln, .out]) ∧
  (∀ x0, Leaves (.rebuildAppendsDone x0) [.regs, .qst, .eqc, .hlm, .ldg, .ing, .wdl, .frg, .pln, .out]) ∧
  (Leaves .rebuildBucketRefill [.ing]) ∧
  (Leaves .sweepPassStart [.regs, .eqc, .hlm, .ldg]) ∧
  (Leaves .sweepPassEnd [.regs, .hlm, .ldg]) ∧
  (∀ x0 x1 x2 x3 x4, Leaves (.moduleLinkUp x0 x1 x2 x3 x4) [.regs, .hlm, .srd, .ing, .xpt, .hq, .pln, .out]) ∧
  (∀ x0, Leaves (.moduleAdmit x0) (faultParts ++ ([.ldg, .xpt, .hq, .pln, .out] : List Part))) ∧
  (∀ x0, Leaves (.moduleRetire x0) (faultParts ++ ([.xpt, .hq, .pln, .out] : List Part))) ∧
  (∀ x0, Leaves (.presenceLost x0) [.regs, .hlm, .pln, .free]) ∧
  (∀ x0, Leaves (.retrainTimeout x0) (faultParts ++ ([.qst, .pwr, .ldg, .wdl, .xpt, .hq, .pln, .out] : List Part))) ∧
  (∀ x0 x1 x2 x3, Leaves (.sidebandPoll x0 x1 x2 x3) [.regs, .hlm, .pln, .free]) ∧
  (∀ x0 x1 x2 x3, Leaves (.healthPoll x0 x1 x2 x3) [.regs, .hlm, .ldg, .ing, .xpt, .hq, .pln, .out]) ∧
  (∀ x0, Leaves (.chunkGrant x0) [.regs, .qst, .eqc, .hlm, .ldg, .ing, .wdl, .xpt, .hq, .pln, .out]) ∧
  (∀ x0 x1 x2, Leaves (.zoneResetDone x0 x1 x2) [.regs, .hlm, .ldg, .ing, .wdl, .xpt, .hq, .pln, .out]) ∧
  (∀ x0, Leaves (.zoneReturn x0) [.regs, .hlm, .wdl, .xpt, .hq, .pln, .out]) ∧
  (Leaves .anlWorkSelect [.regs, .hlm, .xpt, .hq, .pln, .anl, .out]) ∧
  (∀ x0, Leaves (.relocationClaim x0) [.regs, .ldg, .ing, .frg, .pln, .anl]) ∧
  (∀ x0 x1 x2 x3, Leaves (.relocationCopy x0 x1 x2 x3) [.regs, .eqc, .hlm, .ldg, .ing, .tin, .frg, .anl]) ∧
  (∀ x0 x1 x2, Leaves (.memberMove x0 x1 x2) [.regs, .qst, .hlm, .ing, .wdl, .xpt, .hq, .pln, .anl, .out]) ∧
  (Leaves .anlBucketRefill [.anl]) ∧
  (∀ x0, Leaves (.rekeyStart x0) (faultParts ++ ([.anl] : List Part))) ∧
  (Leaves .rekeyDone [.regs, .eqc, .hlm]) ∧
  (∀ x0 x1 x2, Leaves (.spineRead x0 x1 x2) (faultParts ++ ([.pln] : List Part))) ∧
  (∀ x0 x1, Leaves (.startupReconcile x0 x1) [.regs, .hlm, .ldg, .ing, .xpt, .hq, .frg, .pln, .out]) ∧
  (∀ x0 x1 x2 x3, Leaves (.nvmeCommandCompletion x0 x1 x2 x3) [.regs, .hlm, .ldg, .ing, .xpt, .hq, .pln, .out])

/-- For each of these commands, named one by one: whenever it answers a next state, every part of State it does not name is unchanged; memory, the quench store, the NOR and the fuses are parts, and so is the own state of each block. Where a command names the registers or memory, the statement of what that command leaves gives them. -/
def Obligations.ReadAndNetworkCommandsLeaveTheRest : Prop :=
  (∀ x0 x1 x2, Leaves (.reservationRegister x0 x1 x2) [.regs, .hlm, .ing, .pln, .resOwn, .resPeer, .out]) ∧
  (∀ x0 x1 x2 x3, Leaves (.hostRead x0 x1 x2 x3) [.regs, .mem, .eqc, .hlm, .pwr, .ldg, .ing, .wdl, .xpt, .hq, .wc, .frg, .drp, .pln, .out]) ∧
  (∀ x0 x1 x2 x3, Leaves (.hostVerify x0 x1 x2 x3) [.regs, .mem, .eqc, .hlm, .pwr, .ldg, .ing, .wdl, .xpt, .hq, .wc, .frg, .drp, .pln, .out]) ∧
  (∀ x0 x1 x2 x3, Leaves (.hostCompare x0 x1 x2 x3) [.regs, .mem, .eqc, .hlm, .pwr, .ldg, .ing, .wdl, .xpt, .hq, .wc, .frg, .drp, .pln, .out]) ∧
  (∀ x0 x1 x2, Leaves (.fill x0 x1 x2) [.regs, .mem, .wc]) ∧
  (∀ x0 x1, Leaves (.verifyHit x0 x1) [.regs, .mem, .hlm, .pwr, .ldg, .ing, .xpt, .hq, .wc, .drp, .pln, .out]) ∧
  (∀ x0 x1 x2 x3 x4 x5, Leaves (.page x0 x1 x2 x3 x4 x5) [.regs, .mem, .hlm, .ing]) ∧
  (∀ x0 x1 x2, Leaves (.reseal x0 x1 x2) [.regs, .hlm, .rpl]) ∧
  (∀ x0 x1 x2 x3 x4, Leaves (.memberReadDone x0 x1 x2 x3 x4) [.regs, .mem, .hlm, .pwr, .ldg, .ing, .xpt, .hq, .wc, .drp, .pln, .out]) ∧
  (∀ x0 x1 x2 x3 x4, Leaves (.reconstructReadsDone x0 x1 x2 x3 x4) [.regs, .mem, .hlm, .pwr, .ldg, .ing, .xpt, .hq, .wc, .drp, .pln, .out]) ∧
  (∀ x0 x1 x2, Leaves (.readLimitExpiry x0 x1 x2) [.regs, .mem, .hlm, .ldg, .ing, .xpt, .hq, .wc, .drp, .pln, .out]) ∧
  (Leaves .rcFilterClear [.drp]) ∧
  (∀ x0, Leaves (.rcClear x0) (faultParts ++ ([.out] : List Part))) ∧
  (∀ x0, Leaves (.netModeWrite x0) faultParts) ∧
  (∀ x0 x1, Leaves (.frameReceive x0 x1) [.regs, .mem, .qst, .eqc, .hlm, .wdl, .net, .xpt, .hq, .wc, .rpl, .out]) ∧
  (∀ x0, Leaves (.excTxSend x0) [.regs, .out]) ∧
  (∀ x0 x1, Leaves (.pfcXoffRefresh x0 x1) [.regs, .out]) ∧
  (∀ x0 x1 x2, Leaves (.pauseReceive x0 x1 x2) [.regs, .net, .xpt, .out]) ∧
  (∀ x0 x1, Leaves (.pauseExpiry x0 x1) [.regs, .net, .xpt, .out]) ∧
  (∀ x0 x1, Leaves (.pfcStormEntry x0 x1) [.regs, .hlm, .net, .xpt, .out]) ∧
  (∀ x0 x1, Leaves (.pfcStormExit x0 x1) [.regs, .hlm, .net, .xpt, .out]) ∧
  (∀ x0, Leaves (.temperRise x0) [.xpt]) ∧
  (∀ x0 x1, Leaves (.cnp x0 x1) [.regs, .mem, .qst, .eqc, .hlm, .wdl, .net, .xpt, .hq, .wc, .rpl, .out]) ∧
  (∀ x0 x1, Leaves (.roceSend x0 x1) [.regs, .mem, .qst, .eqc, .hlm, .wdl, .net, .xpt, .hq, .wc, .rpl, .out]) ∧
  (∀ x0 x1, Leaves (.rdmaWrite x0 x1) [.regs, .mem, .qst, .eqc, .hlm, .wdl, .net, .xpt, .hq, .wc, .rpl, .out]) ∧
  (∀ x0 x1, Leaves (.rdmaReadRequest x0 x1) [.regs, .mem, .qst, .eqc, .hlm, .wdl, .net, .xpt, .hq, .wc, .rpl, .out]) ∧
  (∀ x0 x1, Leaves (.rdmaReadResponse x0 x1) [.regs, .mem, .qst, .eqc, .hlm, .wdl, .net, .xpt, .hq, .wc, .rpl, .out]) ∧
  (∀ x0 x1, Leaves (.roceAck x0 x1) [.regs, .mem, .qst, .eqc, .hlm, .wdl, .net, .xpt, .hq, .wc, .rpl, .out]) ∧
  (∀ x0 x1, Leaves (.rnrNak x0 x1) [.regs, .mem, .qst, .eqc, .hlm, .wdl, .net, .xpt, .hq, .wc, .rpl, .out]) ∧
  (∀ x0 x1, Leaves (.compareAndSwap x0 x1) [.regs, .mem, .qst, .eqc, .hlm, .wdl, .net, .xpt, .hq, .wc, .rpl, .out]) ∧
  (∀ x0 x1, Leaves (.fetchAndAdd x0 x1) [.regs, .mem, .qst, .eqc, .hlm, .wdl, .net, .xpt, .hq, .wc, .rpl, .out]) ∧
  (∀ x0 x1, Leaves (.spWrite x0 x1) [.regs, .mem, .qst, .eqc, .hlm, .wdl, .net, .xpt, .hq, .wc, .rpl, .out]) ∧
  (∀ x0 x1, Leaves (.spSend x0 x1) [.regs, .mem, .qst, .eqc, .hlm, .wdl, .net, .xpt, .hq, .wc, .rpl, .out]) ∧
  (∀ x0 x1, Leaves (.spReadResp x0 x1) [.regs, .mem, .qst, .eqc, .hlm, .wdl, .net, .xpt, .hq, .wc, .rpl, .out]) ∧
  (∀ x0 x1, Leaves (.spNak x0 x1) [.regs, .mem, .qst, .eqc, .hlm, .wdl, .net, .xpt, .hq, .wc, .rpl, .out]) ∧
  (∀ x0 x1, Leaves (.spGapExpiry x0 x1) [.regs, .xpt, .out]) ∧
  (∀ x0, Leaves (.retransmitTimeout x0) [.regs, .mem, .qst, .eqc, .hlm, .wdl, .xpt, .hq, .wc, .rpl, .out]) ∧
  (∀ x0 x1, Leaves (.ctxFetchDone x0 x1) [.regs, .mem, .qst, .eqc, .hlm, .wdl, .xpt, .hq, .wc, .rpl, .out]) ∧
  (∀ x0, Leaves (.qpInit x0) (faultParts ++ ([.xpt] : List Part))) ∧
  (∀ x0, Leaves (.qpRtr x0) (faultParts ++ ([.xpt] : List Part))) ∧
  (∀ x0, Leaves (.qpRts x0) (faultParts ++ ([.xpt] : List Part))) ∧
  (∀ x0 x1, Leaves (.qpError x0 x1) [.regs, .mem, .qst, .eqc, .hlm, .wdl, .xpt, .hq, .wc, .rpl, .out]) ∧
  (∀ x0, Leaves (.qpReset x0) (faultParts ++ ([.qst, .wdl, .xpt, .hq, .rpl, .out] : List Part))) ∧
  (∀ x0, Leaves (.qpQuery x0) faultParts) ∧
  (∀ x0, Leaves (.qpTest x0) (faultParts ++ ([.xpt] : List Part))) ∧
  (∀ x0, Leaves (.winOpen x0) (faultParts ++ ([.xpt] : List Part))) ∧
  (∀ x0, Leaves (.winRevoke x0) (faultParts ++ ([.xpt] : List Part))) ∧
  (∀ x0, Leaves (.revokeDrained x0) [.xpt])

/-- For each of these commands, named one by one: whenever it answers a next state, every part of State it does not name is unchanged; memory, the quench store, the NOR and the fuses are parts, and so is the own state of each block. Where a command names the registers or memory, the statement of what that command leaves gives them. -/
def Obligations.ReplicationAndLinkCommandsLeaveTheRest : Prop :=
  (∀ x0, Leaves (.grpStart x0) (faultParts ++ ([.qst, .ldg, .wdl, .xpt, .rpl, .out] : List Part))) ∧
  (∀ x0, Leaves (.grpShipNow x0) (faultParts ++ ([.qst, .ldg, .wdl, .rpl, .out] : List Part))) ∧
  (∀ x0, Leaves (.grpResume x0) (faultParts ++ ([.xpt, .rpl, .out] : List Part))) ∧
  (∀ x0, Leaves (.grpStop x0) (faultParts ++ ([.rpl] : List Part))) ∧
  (∀ x0, Leaves (.grpFull x0) (faultParts ++ ([.rpl] : List Part))) ∧
  (∀ x0, Leaves (.grpNsAdd x0) (faultParts ++ ([.hq, .rpl] : List Part))) ∧
  (∀ x0, Leaves (.grpNsRemove x0) (faultParts ++ ([.hq, .rpl] : List Part))) ∧
  (∀ x0, Leaves (.deltaStart x0) [.regs, .qst, .hlm, .ldg, .wdl, .rpl, .out]) ∧
  (∀ x0, Leaves (.shipTimer x0) [.regs, .qst, .hlm, .ldg, .wdl, .rpl, .out]) ∧
  (∀ x0, Leaves (.segmentSealed x0) [.regs, .eqc, .hlm, .xpt, .tin, .rpl, .out]) ∧
  (∀ x0, Leaves (.segmentWriteAck x0) [.regs, .hlm, .xpt, .rpl, .out]) ∧
  (∀ x0, Leaves (.publishResult x0) [.regs, .hlm, .rpl]) ∧
  (∀ x0, Leaves (.controlPoll x0) [.regs, .qst, .eqc, .hlm, .ldg, .wdl, .xpt, .tin, .rpl, .out, .free]) ∧
  (∀ x0, Leaves (.segmentApply x0) [.regs, .mem, .qst, .eqc, .hlm, .ldg, .wdl, .wc, .rpl, .out]) ∧
  (∀ x0, Leaves (.segmentApplied x0) [.regs, .mem, .qst, .hlm, .ldg, .wdl, .rpl, .out]) ∧
  (∀ x0, Leaves (.leaseRenew x0) [.regs, .hlm, .xpt, .rpl, .out]) ∧
  (∀ x0, Leaves (.leaseCheck x0) [.mem, .rpl]) ∧
  (∀ x0 x1 x2, Leaves (.flitReceive x0 x1 x2) (faultParts ++ ([.ldg, .wdl, .out] : List Part))) ∧
  (Leaves .alignFlit [.regs, .wdl]) ∧
  (∀ x0, Leaves (.nak x0) (faultParts ++ ([.ldg, .wdl, .out] : List Part))) ∧
  (Leaves .ackTimer [.wdl, .out]) ∧
  (Leaves .retryTimeout (faultParts ++ ([.ldg, .wdl, .out] : List Part))) ∧
  (∀ x0, Leaves (.laneLock x0) [.regs, .out]) ∧
  (Leaves .helloTimer [.regs, .mem, .eqc, .hlm, .ldg, .ing, .wdl, .xpt, .hq, .wc, .tin, .pln, .out]) ∧
  (∀ x0, Leaves (.hello x0) [.regs, .mem, .eqc, .hlm, .ldg, .ing, .wdl, .xpt, .hq, .wc, .tin, .pln, .out, .free]) ∧
  (∀ x0, Leaves (.retrain x0) (faultParts ++ ([.wdl, .out] : List Part))) ∧
  (∀ x0, Leaves (.laneFail x0) (faultParts ++ ([.ldg, .wdl, .out] : List Part))) ∧
  (∀ x0 x1, Leaves (.narrow x0 x1) (faultParts ++ ([.ldg, .wdl, .out] : List Part))) ∧
  (∀ x0, Leaves (.linkWiden x0) [.regs, .wdl]) ∧
  (∀ x0, Leaves (.dropMsg x0) (faultParts ++ ([.ldg, .wdl, .out] : List Part))) ∧
  (Leaves .noFlitTimeout (faultParts ++ ([.ldg, .wdl, .out] : List Part))) ∧
  (∀ x0 x1, Leaves (.fetchSlot x0 x1) [.regs, .wdl, .out]) ∧
  (∀ x0 x1 x2, Leaves (.slotData x0 x1 x2) [.wdl, .frg, .out]) ∧
  (∀ x0 x1, Leaves (.fetchLj x0 x1) [.regs, .wdl, .out]) ∧
  (∀ x0 x1, Leaves (.ljData x0 x1) [.qst, .ldg, .wdl, .out]) ∧
  (∀ x0, Leaves (.fetchSj x0) [.regs, .wdl, .out]) ∧
  (∀ x0 x1, Leaves (.sjData x0 x1) [.ing, .wdl, .out]) ∧
  (∀ x0 x1, Leaves (.fetchNak x0 x1) [.ldg, .ing, .wdl, .frg, .out]) ∧
  (∀ x0, Leaves (.handoverOffer x0) (faultParts ++ ([.wdl, .out] : List Part))) ∧
  (∀ x0, Leaves (.handoverAccept x0) (faultParts ++ ([.wdl, .out] : List Part))) ∧
  (∀ x0, Leaves (.handover x0) (faultParts ++ ([.qst, .ldg, .wdl, .xpt, .hq, .out] : List Part))) ∧
  (∀ x0 x1, Leaves (.handoverAck x0 x1) [.regs, .hlm, .ldg, .wdl, .xpt, .hq, .rpl, .out, .free]) ∧
  (∀ x0, Leaves (.handoverNak x0) [.regs, .wdl, .out]) ∧
  (Leaves .stepDownMessage (faultParts ++ ([.ldg, .wdl, .out] : List Part))) ∧
  (Leaves .heartbeatTimer [.regs, .out]) ∧
  (∀ x0, Leaves (.heartbeat x0) (faultParts ++ ([.ldg, .wdl, .out] : List Part))) ∧
  (Leaves .hbMissed (faultParts ++ ([.ldg, .wdl, .out] : List Part))) ∧
  (∀ x0, Leaves (.hbKick x0) (faultParts ++ ([.wdl, .out] : List Part))) ∧
  (Leaves .hbKickTimeout [.wdl]) ∧
  (Leaves .fenceDelayExpiry [.regs, .wdl, .out]) ∧
  (∀ x0, Leaves (.arbiterPreemptDone x0) [.regs, .mem, .qst, .eqc, .hlm, .ldg, .wdl, .xpt, .hq, .wc, .tin, .resOwn, .out]) ∧
  (Leaves .fencePreemptsDone [.regs, .mem, .qst, .eqc, .hlm, .ldg, .ing, .wdl, .xpt, .hq, .wc, .tin, .pln, .rpl, .resPeer, .out]) ∧
  (∀ x0, Leaves (.take x0) (faultParts ++ ([.ldg, .wdl, .out] : List Part))) ∧
  (∀ x0, Leaves (.force x0) (faultParts ++ ([.ldg, .wdl, .out] : List Part))) ∧
  (∀ x0, Leaves (.takeCmdStepDown x0) (faultParts ++ ([.qst, .ldg, .wdl, .xpt, .hq, .out] : List Part)))

/-- For each of these commands, named one by one: whenever it answers a next state, every part of State it does not name is unchanged; memory, the quench store, the NOR and the fuses are parts, and so is the own state of each block. Where a command names the registers or memory, the statement of what that command leaves gives them. -/
def Obligations.InfrastructureCommandsLeaveTheRest : Prop :=
  (∀ x0 x1, Leaves (.cvuMessage x0 x1) [.regs, .eqc, .hlm, .cvu]) ∧
  (∀ x0 x1, Leaves (.cvuArm x0 x1) (faultParts ++ ([.cvu] : List Part))) ∧
  (∀ x0 x1, Leaves (.cvuDisarm x0 x1) (faultParts ++ ([.cvu] : List Part))) ∧
  (∀ x0 x1, Leaves (.cvuResSeqRead x0 x1) [.cvu, .out]) ∧
  (∀ x0, Leaves (.memoryAccess x0) (faultParts ++ ([.latch, .held, .qst, .nor, .tmk, .clk, .fuses, .top, .cells, .aon, .boot, .dbg, .pwr, .fwu, .msys, .cvu, .srd, .ldg, .wdl, .net, .xpt, .hq, .pln, .anl, .rpl, .out] : List Part))) ∧
  (∀ x0, Leaves (.scRetire x0) (faultParts ++ ([.msys] : List Part))) ∧
  (∀ x0, Leaves (.spRemap x0) (faultParts ++ ([.msys] : List Part))) ∧
  (Leaves .scCommandDone [.regs, .mem, .eqc, .hlm, .msys]) ∧
  (∀ x0, Leaves (.maintClean x0) (faultParts ++ ([.msys] : List Part))) ∧
  (∀ x0, Leaves (.maintInval x0) (faultParts ++ ([.msys] : List Part))) ∧
  (∀ x0, Leaves (.maintCleanInval x0) (faultParts ++ ([.msys] : List Part))) ∧
  (∀ x0, Leaves (.maintCleanAll x0) (faultParts ++ ([.msys] : List Part))) ∧
  (∀ x0, Leaves (.maintDone x0) [.regs, .mem, .msys]) ∧
  (∀ x0 x1 x2, Leaves (.patrolScrub x0 x1 x2) [.regs, .hlm, .msys]) ∧
  (∀ x0 x1, Leaves (.dimmThermal x0 x1) [.regs, .eqc, .hlm, .msys]) ∧
  (∀ x0 x1 x2 x3 x4 x5, Leaves (.memoryTrainingDone x0 x1 x2 x3 x4 x5) (faultParts ++ ([.qst, .tmk, .boot, .dbg, .pwr, .fwu, .msys, .ldg, .wdl, .net, .xpt, .hq, .pln, .rpl, .out] : List Part))) ∧
  (∀ x0, Leaves (.dimmLost x0) (faultParts ++ ([.msys] : List Part))) ∧
  (∀ x0 x1 x2, Leaves (.eventOccurrence x0 x1 x2) (faultParts ++ ([.qst, .tmk, .dbg, .pwr, .fwu, .msys, .ldg, .wdl, .net, .xpt, .hq, .pln, .rpl, .out] : List Part))) ∧
  (∀ x0, Leaves (.eventRingWrite x0) [.regs, .mem, .eqc, .hlm]) ∧
  (∀ x0 x1, Leaves (.signal x0 x1) faultParts) ∧
  (∀ x0, Leaves (.evqDone x0) faultParts) ∧
  (∀ x0 x1, Leaves (.srcMaskWrite x0 x1) faultParts) ∧
  (∀ x0 x1, Leaves (.ringConsWrite x0 x1) [.regs]) ∧
  (∀ x0 x1, Leaves (.eventRingEnable x0 x1) faultParts) ∧
  (∀ x0 x1 x2, Leaves (.hallmarkOccurrence x0 x1 x2) (faultParts ++ ([.qst, .tmk, .dbg, .pwr, .fwu, .msys, .ldg, .wdl, .net, .xpt, .hq, .pln, .rpl, .out] : List Part))) ∧
  (Leaves .hallmarkWrite [.regs, .qst, .hlm]) ∧
  (Leaves .rateWindowTick [.hlm]) ∧
  (Leaves .hlmScan [.regs, .hlm]) ∧
  (∀ x0, Leaves (.exportCmd x0) faultParts) ∧
  (Leaves .exportDone [.regs]) ∧
  (∀ x0, Leaves (.fwPost x0) faultParts) ∧
  (∀ x0, Leaves (.tmkLoad x0) faultParts) ∧
  (∀ x0, Leaves (.tmkCommit x0) (faultParts ++ ([.qst, .tmk] : List Part))) ∧
  (∀ x0, Leaves (.tmkCommitDone x0) [.regs, .qst, .hlm, .tmk]) ∧
  (∀ x0, Leaves (.tmkConfirm x0) faultParts) ∧
  (∀ x0, Leaves (.tmkRevert x0) (faultParts ++ ([.qst] : List Part))) ∧
  (∀ x0, Leaves (.pllLockLoss x0) (faultParts ++ ([.time, .latch, .held, .queues, .tmk, .clk, .top, .aon, .boot, .dbg, .pwr, .fwu, .msys, .cvu, .srd, .ldg, .wdl, .net, .xpt, .hq, .pln, .anl, .rpl, .out] : List Part))) ∧
  (∀ x0 x1, Leaves (.pllRelockDone x0 x1) [.regs, .queues, .hlm, .clk]) ∧
  (∀ x0, Leaves (.pllRelockTimeout x0) (faultParts ++ ([.clk] : List Part))) ∧
  (∀ x0 x1 x2 x3, Leaves (.refMeasure x0 x1 x2 x3) (faultParts ++ ([.time, .latch, .held, .queues, .tmk, .clk, .top, .aon, .boot, .dbg, .pwr, .fwu, .msys, .cvu, .srd, .ldg, .wdl, .net, .xpt, .hq, .pln, .anl, .rpl] : List Part))) ∧
  (∀ x0, Leaves (.coreClockLoss x0) (faultParts ++ ([.time, .latch, .held, .queues, .tmk, .clk, .top, .aon, .boot, .dbg, .pwr, .fwu, .msys, .cvu, .srd, .ldg, .wdl, .net, .xpt, .hq, .pln, .anl, .rpl] : List Part))) ∧
  (Leaves .xtalLost [.regs, .hlm, .clk]) ∧
  (∀ x0, Leaves (.ctlFreqSwitch x0) (faultParts ++ ([.pwr] : List Part)))

/-- For each of these commands, named one by one: whenever it answers a next state, every part of State it does not name is unchanged; memory, the quench store, the NOR and the fuses are parts, and so is the own state of each block. Where a command names the registers or memory, the statement of what that command leaves gives them. -/
def Obligations.SecurityAndPowerCommandsLeaveTheRest : Prop :=
  (Leaves .debugAccessResume (faultParts ++ ([.latch, .held, .qst, .nor, .tmk, .clk, .fuses, .top, .cells, .aon, .boot, .dbg, .pwr, .fwu, .msys, .cvu, .srd, .ldg, .wdl, .net, .xpt, .hq, .pln, .anl, .rpl, .out] : List Part))) ∧
  (∀ x0, Leaves (.lcArm x0) (faultParts ++ ([.top] : List Part))) ∧
  (∀ x0 x1 x2, Leaves (.lcMint x0 x1 x2) (faultParts ++ ([.qst, .fuses, .top] : List Part))) ∧
  (∀ x0 x1, Leaves (.lcOwn x0 x1) (faultParts ++ ([.qst, .fuses, .top] : List Part))) ∧
  (∀ x0 x1, Leaves (.lcRetire x0 x1) (faultParts ++ ([.qst, .fuses, .top] : List Part))) ∧
  (∀ x0, Leaves (.ownerLockSet x0) faultParts) ∧
  (∀ x0, Leaves (.d1Grant x0) faultParts) ∧
  (∀ x0, Leaves (.d0Return x0) faultParts) ∧
  (Leaves .dbgChallenge [.regs, .dbg, .out, .free]) ∧
  (∀ x0, Leaves (.dbgResponse x0) [.regs, .hlm, .dbg, .free]) ∧
  (∀ x0, Leaves (.dbgAccessRead x0) (faultParts ++ ([.latch, .held, .qst, .nor, .tmk, .clk, .fuses, .top, .cells, .aon, .boot, .dbg, .pwr, .fwu, .msys, .cvu, .srd, .ldg, .wdl, .net, .xpt, .hq, .pln, .anl, .rpl, .out] : List Part))) ∧
  (∀ x0 x1, Leaves (.dbgAccessWrite x0 x1) (faultParts ++ ([.latch, .held, .qst, .nor, .tmk, .clk, .fuses, .top, .cells, .aon, .boot, .dbg, .pwr, .fwu, .msys, .cvu, .srd, .ldg, .wdl, .net, .xpt, .hq, .pln, .anl, .rpl, .out] : List Part))) ∧
  (Leaves .extest [.regs, .dbg]) ∧
  (∀ x0 x1, Leaves (.samplePreload x0 x1) [.regs, .dbg, .out]) ∧
  (Leaves .idcode [.regs, .dbg, .out]) ∧
  (Leaves .clamp [.regs, .dbg]) ∧
  (Leaves .highz [.regs, .dbg]) ∧
  (Leaves .bypass [.regs, .dbg]) ∧
  (Leaves .trstNAssert [.regs, .dbg]) ∧
  (∀ x0, Leaves (.pwrP0 x0) faultParts) ∧
  (∀ x0, Leaves (.pwrP1 x0) (faultParts ++ ([.pwr] : List Part))) ∧
  (∀ x0, Leaves (.pwrP2 x0) (faultParts ++ ([.pwr] : List Part))) ∧
  (∀ x0, Leaves (.pwrQuench x0) (faultParts ++ ([.qst, .clk, .aon, .dbg, .wdl, .out] : List Part))) ∧
  (Leaves .powerEntryDone [.regs, .mem, .hlm, .clk, .pwr, .msys, .out]) ∧
  (∀ x0 x1, Leaves (.avsUpdate x0 x1) (faultParts ++ ([.pwr, .out] : List Part))) ∧
  (Leaves .pohTick [.regs, .hlm, .cells]) ∧
  (∀ x0, Leaves (.thermalSample x0) (faultParts ++ ([.qst, .clk, .aon, .dbg, .pwr, .wdl, .out] : List Part))) ∧
  (Leaves .throttleStep [.regs, .hlm, .pwr]) ∧
  (∀ x0, Leaves (.powerSample x0) [.regs, .pwr]) ∧
  (∀ x0, Leaves (.fwuStage x0) (faultParts ++ ([.nor, .cells, .fwu] : List Part))) ∧
  (∀ x0, Leaves (.fwuVerify x0) (faultParts ++ ([.fwu] : List Part))) ∧
  (∀ x0, Leaves (.fwuActivate x0) (faultParts ++ ([.fwu, .xpt, .hq, .out] : List Part))) ∧
  (∀ x0, Leaves (.fwuConfirm x0) (faultParts ++ ([.fuses, .cells, .fwu] : List Part))) ∧
  (∀ x0, Leaves (.fwuCommandDone x0) [.regs, .mem, .nor, .hlm, .fuses, .cells, .boot, .fwu, .xpt, .hq, .out]) ∧
  (Leaves .confirmTimeout (faultParts ++ ([.time, .latch, .held, .qst, .queues, .tmk, .clk, .top, .cells, .aon, .boot, .dbg, .pwr, .fwu, .msys, .cvu, .srd, .ldg, .wdl, .net, .xpt, .hq, .pln, .anl, .rpl] : List Part))) ∧
  (Leaves .powerOnReset (faultParts ++ ([.time, .latch, .held, .queues, .tmk, .clk, .top, .cells, .aon, .boot, .dbg, .pwr, .fwu, .msys, .cvu, .srd, .ldg, .wdl, .net, .xpt, .hq, .pln, .anl, .rpl] : List Part))) ∧
  (Leaves .aonPllLock (faultParts ++ ([.qst, .aon, .boot, .pwr, .msys, .ldg, .wdl, .xpt, .hq, .pln, .out] : List Part))) ∧
  (Leaves .resetNAssert (faultParts ++ ([.time, .latch, .held, .qst, .queues, .tmk, .clk, .top, .aon, .boot, .dbg, .pwr, .fwu, .msys, .cvu, .srd, .ldg, .wdl, .net, .xpt, .hq, .pln, .anl, .rpl, .out] : List Part))) ∧
  (∀ x0, Leaves (.chipReset x0) (faultParts ++ ([.time, .latch, .held, .queues, .tmk, .clk, .top, .aon, .boot, .dbg, .pwr, .fwu, .msys, .cvu, .srd, .ldg, .wdl, .net, .xpt, .hq, .pln, .anl, .rpl] : List Part))) ∧
  (∀ x0 x1 x2 x3 x4 x5 x6 x7, Leaves (.bootRomRun x0 x1 x2 x3 x4 x5 x6 x7) (faultParts ++ ([.qst, .tmk, .fuses, .cells, .aon, .boot, .dbg, .pwr, .fwu, .msys, .ldg, .wdl, .net, .xpt, .hq, .pln, .rpl, .out] : List Part))) ∧
  (∀ x0, Leaves (.bootRetry x0) [.regs, .mem, .cells, .boot, .fwu, .out]) ∧
  (∀ x0, Leaves (.portTrainTimeout x0) [.regs, .mem, .qst, .eqc, .hlm, .pwr, .ldg, .ing, .wdl, .xpt, .hq, .wc, .drp, .pln, .out]) ∧
  (Leaves .earlyCloseDue [.regs, .eqc, .hlm, .ldg, .ing, .wdl, .xpt, .hq, .out]) ∧
  (∀ x0, Leaves (.portLinkUp x0) [.regs, .hlm, .srd, .net]) ∧
  (∀ x0 x1, Leaves (.portLinkDown x0 x1) [.regs, .hlm, .net]) ∧
  (∀ x0, Leaves (.flashLinkDrop x0) [.regs, .hlm, .pln, .free]) ∧
  (∀ x0, Leaves (.completionTimeout x0) [.regs]) ∧
  (∀ x0, Leaves (.fatalAer x0) (faultParts ++ ([.qst, .pwr, .ldg, .wdl, .xpt, .hq, .pln, .out] : List Part))) ∧
  (∀ x0, Leaves (.dpcContainment x0) (faultParts ++ ([.qst, .pwr, .ldg, .wdl, .xpt, .hq, .pln, .out] : List Part))) ∧
  (∀ x0, Leaves (.controllerFatalStatus x0) [.regs, .mem, .qst, .eqc, .hlm, .pwr, .ldg, .ing, .wdl, .xpt, .hq, .wc, .drp, .pln, .out]) ∧
  (Leaves .mramStackLost faultParts) ∧
  (Leaves .norLost (faultParts ++ ([.fwu, .xpt, .hq, .out] : List Part))) ∧
  (∀ x0 x1, Leaves (.serdesLaneLockLoss x0 x1) [.regs, .hlm, .srd]) ∧
  (∀ x0, Leaves (.serdesLanePllLost x0) (faultParts ++ ([.qst, .tmk, .dbg, .pwr, .fwu, .msys, .ldg, .wdl, .net, .xpt, .hq, .pln, .rpl, .out] : List Part))) ∧
  (∀ x0, Leaves (.vinAonLow x0) [.regs, .hlm]) ∧
  (Leaves .vinAonLoss (faultParts ++ ([.time, .latch, .held, .queues, .tmk, .clk, .top, .aon, .boot, .dbg, .pwr, .fwu, .msys, .cvu, .srd, .ldg, .wdl, .net, .xpt, .hq, .pln, .anl, .rpl] : List Part)))
end

