-- ==== Sys2Proof/Laws/Tab.lean ====
section
/-! SUPPORT. Sparse tables and memories: what a read finds after a write, and that every operation keeps the canonical form. -/

namespace Sys2Proof.Tab

variable {α : Type}

theorem above_iff {k : Nat} {t : Tab α} : above k t = true ↔ ∀ e ∈ t, k < e.1 := by simp [above]

theorem wf_cons {e : Nat × α} {t : Tab α} : wf (e :: t) = true ↔ (∀ x ∈ t, e.1 < x.1) ∧ wf t = true := by
  simp [wf, above_iff]

theorem erase_eq_filter (t : Tab α) (k : Nat) : erase t k = t.filter fun e => decide (e.1 ≠ k) := by
  induction t with
  | nil => rfl
  | cons e t ih => by_cases h : e.1 = k <;> simp [erase, h, ih]

theorem wf_filter {t : Tab α} (f : Nat × α → Bool) (h : wf t = true) : wf (t.filter f) = true := by
  induction t with
  | nil => rfl
  | cons e t ih =>
    obtain ⟨a, b⟩ := wf_cons.mp h
    rw [List.filter_cons]
    split
    · exact wf_cons.mpr ⟨fun x hx => a x (List.mem_filter.mp hx).1, ih b⟩
    · exact ih b

theorem wf_erase {t : Tab α} (k : Nat) (h : wf t = true) : wf (erase t k) = true := by
  rw [erase_eq_filter]
  exact wf_filter _ h

theorem mem_ins {t : Tab α} {k : Nat} {v : α} {x : Nat × α} (h : x ∈ ins t k v) : x = (k, v) ∨ x ∈ t := by
  induction t with
  | nil => simpa [ins] using h
  | cons e t ih =>
    by_cases c : k < e.1
    · simpa [ins, c] using h
    · rw [ins, if_neg c] at h
      rcases List.mem_cons.mp h with rfl | h
      · exact .inr (List.mem_cons_self ..)
      · rcases ih h with r | r
        · exact .inl r
        · exact .inr (List.mem_cons_of_mem _ r)

theorem wf_ins {t : Tab α} {k : Nat} {v : α} (h : wf t = true) (n : ∀ x ∈ t, x.1 ≠ k) : wf (ins t k v) = true := by
  induction t with
  | nil => rfl
  | cons e t ih =>
    obtain ⟨a, b⟩ := wf_cons.mp h
    have hk := n e (List.mem_cons_self ..)
    by_cases c : k < e.1
    · rw [ins, if_pos c]
      refine wf_cons.mpr ⟨fun x hx => ?_, h⟩
      rcases List.mem_cons.mp hx with rfl | hx
      · exact c
      · exact Nat.lt_trans c (a x hx)
    · rw [ins, if_neg c]
      refine wf_cons.mpr ⟨fun x hx => ?_, ih b fun x hx => n x (List.mem_cons_of_mem _ hx)⟩
      rcases mem_ins hx with rfl | hx
      · exact Nat.lt_of_le_of_ne (Nat.not_lt.mp c) hk
      · exact a x hx

theorem not_mem_erase (t : Tab α) (k : Nat) : ∀ x ∈ erase t k, x.1 ≠ k := by
  intro x hx
  rw [erase_eq_filter] at hx
  simpa using (List.mem_filter.mp hx).2

theorem wf_put {t : Tab α} (k : Nat) (v : α) (h : wf t = true) : wf (put t k v) = true :=
  wf_ins (wf_erase k h) (not_mem_erase t k)

theorem wf_setD [DecidableEq α] {t : Tab α} (d : α) (k : Nat) (v : α) (h : wf t = true) : wf (setD t d k v) = true := by
  unfold setD
  split
  · exact wf_erase k h
  · exact wf_put k v h

theorem find?_erase (t : Tab α) (k j : Nat) : find? (erase t k) j = if j = k then none else find? t j := by
  induction t with
  | nil => simp [erase, find?]
  | cons e t ih =>
    by_cases h : e.1 = k
    · rw [erase, if_pos h, ih, find?]
      by_cases c : j = k
      · simp [c]
      · simp [c, show ¬ e.1 = j from fun x => c (x ▸ h)]
    · rw [erase, if_neg h, find?, find?, ih]
      by_cases c : e.1 = j
      · simp [c, show ¬ j = k from fun x => h (c.trans x)]
      · simp [c]

theorem find?_ins {t : Tab α} {k : Nat} {v : α} (n : ∀ x ∈ t, x.1 ≠ k) (j : Nat) :
    find? (ins t k v) j = if j = k then some v else find? t j := by
  induction t with
  | nil => simp [ins, find?, eq_comm]
  | cons e t ih =>
    have ih := ih fun x hx => n x (List.mem_cons_of_mem _ hx)
    have hk := n e (List.mem_cons_self ..)
    by_cases c : k < e.1
    · rw [ins, if_pos c, find?]
      by_cases h : j = k
      · simp [h]
      · simp [h, show ¬ k = j from fun x => h x.symm]
    · rw [ins, if_neg c, find?, find?, ih]
      by_cases h : e.1 = j
      · simp [h, show ¬ j = k from fun x => hk (h.trans x)]
      · simp [h]

/-- A read after a write: the value written, and every other key as before. -/
theorem find?_put (t : Tab α) (k : Nat) (v : α) (j : Nat) : find? (put t k v) j = if j = k then some v else find? t j := by
  rw [put, find?_ins (not_mem_erase t k), find?_erase]
  by_cases h : j = k <;> simp [h]

@[simp] theorem find?_put_self (t : Tab α) (k : Nat) (v : α) : find? (put t k v) k = some v := by simp [find?_put]

@[simp] theorem getD_setD_self [DecidableEq α] (t : Tab α) (d : α) (k : Nat) (v : α) : getD (setD t d k v) d k = v := by
  unfold getD setD
  split
  · next h => simp [find?_erase, h]
  · simp

theorem getD_setD_of_ne [DecidableEq α] {t : Tab α} {d e v : α} {k j : Nat} (h : j ≠ k) :
    getD (setD t d k v) e j = getD t e j := by
  unfold getD setD
  split
  · simp [find?_erase, h]
  · simp [find?_put, h]

end Sys2Proof.Tab

namespace Sys2Proof.Machine

theorem Memory.wf_iff {m : List Host.Cell} {d : Byte} : Memory.wf m d = true ↔ Tab.wf m = true ∧ ∀ c ∈ m, c.2 ≠ d := by
  simp [Memory.wf]

theorem Memory.wf_nil (d : Byte) : Memory.wf [] d = true := rfl

theorem Memory.wf_filter {m : List Host.Cell} {d : Byte} (f : Host.Cell → Bool) (h : Memory.wf m d = true) :
    Memory.wf (m.filter f) d = true := by
  obtain ⟨a, b⟩ := Memory.wf_iff.mp h
  exact Memory.wf_iff.mpr ⟨Tab.wf_filter f a, fun c hc => b c (List.mem_filter.mp hc).1⟩

/-- One byte stored keeps the canonical form. -/
theorem Memory.wf_setD {m : List Host.Cell} {d : Byte} (a : Nat) (v : Byte) (h : Memory.wf m d = true) :
    Memory.wf (Tab.setD m d a v) d = true := by
  obtain ⟨w, b⟩ := Memory.wf_iff.mp h
  refine Memory.wf_iff.mpr ⟨Tab.wf_setD d a v w, fun c hc => ?_⟩
  unfold Tab.setD at hc
  split at hc
  · rw [Tab.erase_eq_filter] at hc
    exact b c (List.mem_filter.mp hc).1
  · next hv =>
    rcases Tab.mem_ins hc with rfl | hc
    · exact hv
    · rw [Tab.erase_eq_filter] at hc
      exact b c (List.mem_filter.mp hc).1

/-- Bytes stored one after another keep the canonical form. -/
theorem Memory.wf_putCells {d : Byte} (bs : List Byte) :
    ∀ {m : List Host.Cell} (a : Nat), Memory.wf m d = true → Memory.wf (putCells m d a bs) d = true := by
  induction bs with
  | nil => intro m a h; exact h
  | cons b bs ih => intro m a h; exact ih (a + 1) (Memory.wf_setD a b h)

/-- What a byte reads as after bytes are stored from `a`. -/
theorem getD_putCells {d : Byte} (bs : List Byte) : ∀ (m : List Host.Cell) (a x : Nat),
    Tab.getD (putCells m d a bs) d x = if a ≤ x ∧ x < a + bs.length then bs.getD (x - a) d else Tab.getD m d x := by
  induction bs with
  | nil => intro m a x; simp [putCells]
  | cons b bs ih =>
    intro m a x
    rw [putCells, ih]
    by_cases h : x = a
    · subst h
      simp
    · rw [Tab.getD_setD_of_ne h]
      by_cases c : a + 1 ≤ x ∧ x < a + 1 + bs.length
      · rw [if_pos c, if_pos (by simp only [List.length_cons]; omega)]
        have : x - a = (x - (a + 1)) + 1 := by omega
        rw [this]
        rfl
      · rw [if_neg c, if_neg (by simp only [List.length_cons]; omega)]

/-- Bytes stored from `a` up are read back from there. -/
theorem cells_putCells_self {d : Byte} (bs : List Byte) (m : List Host.Cell) (a : Nat) :
    cells (putCells m d a bs) d a bs.length = bs := by
  refine List.ext_getElem (by simp [cells]) fun i _ h => ?_
  simp [cells, getD_putCells, h]

end Sys2Proof.Machine
end

