-- ==== Sys2Proof/Laws/Moves.lean ====
section
/-! SUPPORT. What a meaning may do to a state, as a preorder that composes along the calls of a meaning. -/

namespace Sys2Proof.Machine

theorem Fuses.burnsTo_refl (f : Fuses) : f.burnsTo f :=
  ⟨by simp, by simp, Nat.le_refl _, by simp, id, fun h => ⟨h, Nat.le_refl _⟩⟩

theorem Fuses.burnsTo_trans {f g h : Fuses} (a : f.burnsTo g) (b : g.burnsTo h) : f.burnsTo h where
  root := by rw [← b.root, ← BitVec.or_assoc, a.root]
  secret := by rw [← b.secret, ← BitVec.or_assoc, a.secret]
  svn := Nat.le_trans a.svn b.svn
  revoked := by rw [← b.revoked, ← Nat.or_assoc, a.revoked]
  lock := fun x => b.lock (a.lock x)
  lc := fun x => ⟨(b.lc (a.lc x).1).1, Nat.le_trans (a.lc x).2 (b.lc (a.lc x).1).2⟩

theorem Part.same_refl (p : Part) (s : State) : p.same s s := by cases p <;> rfl

theorem Part.same_trans {p : Part} {s t u : State} (h : p.same s t) (k : p.same t u) : p.same s u := by
  cases p <;> exact Eq.trans k h

/-- `t` comes from `s` by changes in the parts `m` alone, what is stored keeps its form, and no fuse is unburned. -/
structure Moves (m : Nat) (s t : State) : Prop where
  within : Within m s t
  stored : Stored s → Stored t
  burns : s.fuses.burnsTo t.fuses

theorem Moves.refl (m : Nat) (s : State) : Moves m s s :=
  ⟨fun p _ => p.same_refl s, id, s.fuses.burnsTo_refl⟩

theorem Moves.trans {m : Nat} {s t u : State} (h : Moves m s t) (k : Moves m t u) : Moves m s u :=
  ⟨fun p hp => Part.same_trans (h.within p hp) (k.within p hp), fun x => k.stored (h.stored x), Fuses.burnsTo_trans h.burns k.burns⟩

theorem Moves.mono {m n : Nat} {s t : State} (h : Moves m s t) (e : m &&& n = m) : Moves n s t :=
  ⟨fun p hp => h.within p (by rw [← e, Nat.testBit_land, hp, Bool.and_false]), h.stored, h.burns⟩

/-- A call whose parts are among those of the whole. -/
theorem Moves.after {m n : Nat} {s t u : State} (k : Moves m t u) (e : m &&& n = m) (h : Moves n s t) : Moves n s u :=
  h.trans (k.mono e)

theorem sub_trans {a b m : Nat} (h : a &&& b = a) (e : b &&& m = b) : a &&& m = a := by
  rw [← h, Nat.land_assoc, e]

theorem bit_of_sub {b m i : Nat} (h : b.testBit i = true) (e : b &&& m = b) : m.testBit i = true := by
  rw [← e, Nat.testBit_land, Bool.and_eq_true] at h
  exact h.2

theorem of_fun {α β : Type} {p : Prop} (_ : α → β) (h : p) : p := h

/-- A named intermediate state. -/
theorem Moves.bind {m : Nat} {s x y : State} (h : Moves m s x) (k : Moves m s x → Moves m s y) : Moves m s y := k h

theorem Moves.ite {m : Nat} {s x y : State} {c : Prop} [Decidable c] (h : Moves m s x) (k : Moves m s y) :
    Moves m s (if c then x else y) := by
  split
  · exact h
  · exact k

theorem Moves.foldl {α : Type} {m : Nat} {s t : State} {f : State → α → State} {l : List α}
    (k : ∀ u a, Moves m u (f u a)) (h : Moves m s t) : Moves m s (l.foldl f t) := by
  induction l generalizing t with
  | nil => exact h
  | cons a l ih => exact ih (h.trans (k t a))

theorem Moves.foldl2 {α β : Type} {m : Nat} {s : State} {t : β × State} {f : β × State → α → β × State} {l : List α}
    (k : ∀ u a, Moves m u.2 (f u a).2) (h : Moves m s t.2) : Moves m s (l.foldl f t).2 := by
  induction l generalizing t with
  | nil => exact h
  | cons a l ih => exact ih (h.trans (k t a))

theorem Moves.of_pair {α : Type} {m : Nat} {s t : State} {a : α} {p : α × State} (e : p = (a, t)) (h : Moves m s p.2) :
    Moves m s t := by subst e; exact h

/-- Where an outcome is a next state, it is one that `Moves` reaches. -/
def Ends (m : Nat) (s : State) (o : Outcome) : Prop := ∀ t, o = .next t → Moves m s t

theorem Moves.of_end {m : Nat} {s t : State} {o : Outcome} (e : o = .next t) (h : Ends m s o) : Moves m s t := h t e

theorem Ends.next {m : Nat} {s t : State} (h : Moves m s t) : Ends m s (.next t) := fun u e => by
  cases e
  exact h

theorem Ends.bind {m : Nat} {s x : State} {o : Outcome} (h : Moves m s x) (k : Moves m s x → Ends m s o) : Ends m s o := k h

theorem Ends.ite {m : Nat} {s : State} {x y : Outcome} {c : Prop} [Decidable c] (h : Ends m s x) (k : Ends m s y) :
    Ends m s (if c then x else y) := by
  split
  · exact h
  · exact k

theorem Ends.after {m n : Nat} {s t : State} {o : Outcome} (k : Ends m t o) (e : m &&& n = m) (h : Moves n s t) : Ends n s o :=
  fun u e' => (k u e').after e h

/-- Where an answer is there, it is a state that `Moves` reaches. -/
def Opts (m : Nat) (s : State) (o : Option State) : Prop := ∀ t, o = some t → Moves m s t

theorem Opts.some {m : Nat} {s t : State} (h : Moves m s t) : Opts m s (some t) := fun u e => by
  cases e
  exact h

theorem Opts.none {m : Nat} {s : State} : Opts m s none := fun _ e => nomatch e

theorem Opts.bind {m : Nat} {s x : State} {o : Option State} (h : Moves m s x) (k : Moves m s x → Opts m s o) : Opts m s o := k h

theorem Opts.ite {m : Nat} {s : State} {x y : Option State} {c : Prop} [Decidable c] (h : Opts m s x) (k : Opts m s y) :
    Opts m s (if c then x else y) := by
  split
  · exact h
  · exact k

theorem Opts.after {m n : Nat} {s t : State} {o : Option State} (k : Opts m t o) (e : m &&& n = m) (h : Moves n s t) : Opts n s o :=
  fun u e' => (k u e').after e h

theorem Moves.of_opt {m : Nat} {s t : State} {o : Option State} (e : o = some t) (h : Opts m s o) : Moves m s t := h t e

theorem Moves.getD {m : Nat} {s t : State} {o : Option State} (h : Opts m s o) (k : Moves m s t) : Moves m s (o.getD t) := by
  cases o with
  | none => exact k
  | some u => exact h u rfl

/-- Where an answer is there, its state is one that `Moves` reaches. -/
def Opts2 {α : Type} (m : Nat) (s : State) (o : Option (α × State)) : Prop := ∀ p, o = some p → Moves m s p.2

theorem Opts2.some {α : Type} {m : Nat} {s : State} {p : α × State} (h : Moves m s p.2) : Opts2 m s (some p) := fun u e => by
  cases e
  exact h

theorem Opts2.none {α : Type} {m : Nat} {s : State} : Opts2 (α := α) m s none := fun _ e => nomatch e

theorem Opts2.bind {α : Type} {m : Nat} {s x : State} {o : Option (α × State)} (h : Moves m s x) (k : Moves m s x → Opts2 m s o) :
    Opts2 m s o := k h

theorem Opts2.ite {α : Type} {m : Nat} {s : State} {x y : Option (α × State)} {c : Prop} [Decidable c] (h : Opts2 m s x)
    (k : Opts2 m s y) : Opts2 m s (if c then x else y) := by
  split
  · exact h
  · exact k

theorem Opts2.after {α : Type} {m n : Nat} {s t : State} {o : Option (α × State)} (k : Opts2 m t o) (e : m &&& n = m)
    (h : Moves n s t) : Opts2 n s o := fun u e' => (k u e').after e h

theorem Moves.of_opt2 {α : Type} {m : Nat} {s t : State} {a : α} {o : Option (α × State)} (e : o = .some (a, t)) (h : Opts2 m s o) :
    Moves m s t := h (a, t) e

theorem Moves.of_opt2' {α : Type} {m : Nat} {s : State} {p : α × State} {o : Option (α × State)} (e : o = .some p) (h : Opts2 m s o) :
    Moves m s p.2 := h p e

theorem Moves.pair_ite {α : Type} {m : Nat} {s : State} {x y : α × State} {c : Prop} [Decidable c] (h : Moves m s x.2) (k : Moves m s y.2) :
    Moves m s (if c then x else y).2 := by
  split
  · exact h
  · exact k

theorem Moves.pair_mk {α : Type} {m : Nat} {s t : State} {a : α} (h : Moves m s t) : Moves m s (a, t).2 := h

theorem Moves.pair_bind {α : Type} {m : Nat} {s x : State} {p : α × State} (h : Moves m s x) (k : Moves m s x → Moves m s p.2) :
    Moves m s p.2 := k h

theorem Moves.set_a0 {m : Nat} {s t : State} {x} (e : m.testBit 0 = true) (h : Moves m s t) : Moves m s { t with a0 := x } where
  within := fun p hp => by
    cases p
    case a0 => exact absurd (e.symm.trans hp) (by decide)
    all_goals exact h.within _ hp
  stored := fun k => ⟨(h.stored k).mem, (h.stored k).qst, (h.stored k).nor, (h.stored k).regs⟩
  burns := h.burns

theorem Moves.set_time {m : Nat} {s t : State} {x} (e : m.testBit 1 = true) (h : Moves m s t) : Moves m s { t with time := x } where
  within := fun p hp => by
    cases p
    case time => exact absurd (e.symm.trans hp) (by decide)
    all_goals exact h.within _ hp
  stored := fun k => ⟨(h.stored k).mem, (h.stored k).qst, (h.stored k).nor, (h.stored k).regs⟩
  burns := h.burns

theorem Moves.set_latch {m : Nat} {s t : State} {x} (e : m.testBit 3 = true) (h : Moves m s t) : Moves m s { t with latch := x } where
  within := fun p hp => by
    cases p
    case latch => exact absurd (e.symm.trans hp) (by decide)
    all_goals exact h.within _ hp
  stored := fun k => ⟨(h.stored k).mem, (h.stored k).qst, (h.stored k).nor, (h.stored k).regs⟩
  burns := h.burns

theorem Moves.set_held {m : Nat} {s t : State} {x} (e : m.testBit 4 = true) (h : Moves m s t) : Moves m s { t with held := x } where
  within := fun p hp => by
    cases p
    case held => exact absurd (e.symm.trans hp) (by decide)
    all_goals exact h.within _ hp
  stored := fun k => ⟨(h.stored k).mem, (h.stored k).qst, (h.stored k).nor, (h.stored k).regs⟩
  burns := h.burns

theorem Moves.set_queues {m : Nat} {s t : State} {x} (e : m.testBit 8 = true) (h : Moves m s t) : Moves m s { t with queues := x } where
  within := fun p hp => by
    cases p
    case queues => exact absurd (e.symm.trans hp) (by decide)
    all_goals exact h.within _ hp
  stored := fun k => ⟨(h.stored k).mem, (h.stored k).qst, (h.stored k).nor, (h.stored k).regs⟩
  burns := h.burns

theorem Moves.set_eqc {m : Nat} {s t : State} {x} (e : m.testBit 9 = true) (h : Moves m s t) : Moves m s { t with eqc := x } where
  within := fun p hp => by
    cases p
    case eqc => exact absurd (e.symm.trans hp) (by decide)
    all_goals exact h.within _ hp
  stored := fun k => ⟨(h.stored k).mem, (h.stored k).qst, (h.stored k).nor, (h.stored k).regs⟩
  burns := h.burns

theorem Moves.set_hlm {m : Nat} {s t : State} {x} (e : m.testBit 10 = true) (h : Moves m s t) : Moves m s { t with hlm := x } where
  within := fun p hp => by
    cases p
    case hlm => exact absurd (e.symm.trans hp) (by decide)
    all_goals exact h.within _ hp
  stored := fun k => ⟨(h.stored k).mem, (h.stored k).qst, (h.stored k).nor, (h.stored k).regs⟩
  burns := h.burns

theorem Moves.set_tmk {m : Nat} {s t : State} {x} (e : m.testBit 11 = true) (h : Moves m s t) : Moves m s { t with tmk := x } where
  within := fun p hp => by
    cases p
    case tmk => exact absurd (e.symm.trans hp) (by decide)
    all_goals exact h.within _ hp
  stored := fun k => ⟨(h.stored k).mem, (h.stored k).qst, (h.stored k).nor, (h.stored k).regs⟩
  burns := h.burns

theorem Moves.set_clk {m : Nat} {s t : State} {x} (e : m.testBit 12 = true) (h : Moves m s t) : Moves m s { t with clk := x } where
  within := fun p hp => by
    cases p
    case clk => exact absurd (e.symm.trans hp) (by decide)
    all_goals exact h.within _ hp
  stored := fun k => ⟨(h.stored k).mem, (h.stored k).qst, (h.stored k).nor, (h.stored k).regs⟩
  burns := h.burns

theorem Moves.set_top {m : Nat} {s t : State} {x} (e : m.testBit 14 = true) (h : Moves m s t) : Moves m s { t with top := x } where
  within := fun p hp => by
    cases p
    case top => exact absurd (e.symm.trans hp) (by decide)
    all_goals exact h.within _ hp
  stored := fun k => ⟨(h.stored k).mem, (h.stored k).qst, (h.stored k).nor, (h.stored k).regs⟩
  burns := h.burns

theorem Moves.set_cells {m : Nat} {s t : State} {x} (e : m.testBit 15 = true) (h : Moves m s t) : Moves m s { t with cells := x } where
  within := fun p hp => by
    cases p
    case cells => exact absurd (e.symm.trans hp) (by decide)
    all_goals exact h.within _ hp
  stored := fun k => ⟨(h.stored k).mem, (h.stored k).qst, (h.stored k).nor, (h.stored k).regs⟩
  burns := h.burns

theorem Moves.set_aon {m : Nat} {s t : State} {x} (e : m.testBit 16 = true) (h : Moves m s t) : Moves m s { t with aon := x } where
  within := fun p hp => by
    cases p
    case aon => exact absurd (e.symm.trans hp) (by decide)
    all_goals exact h.within _ hp
  stored := fun k => ⟨(h.stored k).mem, (h.stored k).qst, (h.stored k).nor, (h.stored k).regs⟩
  burns := h.burns

theorem Moves.set_boot {m : Nat} {s t : State} {x} (e : m.testBit 17 = true) (h : Moves m s t) : Moves m s { t with boot := x } where
  within := fun p hp => by
    cases p
    case boot => exact absurd (e.symm.trans hp) (by decide)
    all_goals exact h.within _ hp
  stored := fun k => ⟨(h.stored k).mem, (h.stored k).qst, (h.stored k).nor, (h.stored k).regs⟩
  burns := h.burns

theorem Moves.set_dbg {m : Nat} {s t : State} {x} (e : m.testBit 18 = true) (h : Moves m s t) : Moves m s { t with dbg := x } where
  within := fun p hp => by
    cases p
    case dbg => exact absurd (e.symm.trans hp) (by decide)
    all_goals exact h.within _ hp
  stored := fun k => ⟨(h.stored k).mem, (h.stored k).qst, (h.stored k).nor, (h.stored k).regs⟩
  burns := h.burns

theorem Moves.set_pwr {m : Nat} {s t : State} {x} (e : m.testBit 19 = true) (h : Moves m s t) : Moves m s { t with pwr := x } where
  within := fun p hp => by
    cases p
    case pwr => exact absurd (e.symm.trans hp) (by decide)
    all_goals exact h.within _ hp
  stored := fun k => ⟨(h.stored k).mem, (h.stored k).qst, (h.stored k).nor, (h.stored k).regs⟩
  burns := h.burns

theorem Moves.set_fwu {m : Nat} {s t : State} {x} (e : m.testBit 20 = true) (h : Moves m s t) : Moves m s { t with fwu := x } where
  within := fun p hp => by
    cases p
    case fwu => exact absurd (e.symm.trans hp) (by decide)
    all_goals exact h.within _ hp
  stored := fun k => ⟨(h.stored k).mem, (h.stored k).qst, (h.stored k).nor, (h.stored k).regs⟩
  burns := h.burns

theorem Moves.set_msys {m : Nat} {s t : State} {x} (e : m.testBit 21 = true) (h : Moves m s t) : Moves m s { t with msys := x } where
  within := fun p hp => by
    cases p
    case msys => exact absurd (e.symm.trans hp) (by decide)
    all_goals exact h.within _ hp
  stored := fun k => ⟨(h.stored k).mem, (h.stored k).qst, (h.stored k).nor, (h.stored k).regs⟩
  burns := h.burns

theorem Moves.set_cvu {m : Nat} {s t : State} {x} (e : m.testBit 22 = true) (h : Moves m s t) : Moves m s { t with cvu := x } where
  within := fun p hp => by
    cases p
    case cvu => exact absurd (e.symm.trans hp) (by decide)
    all_goals exact h.within _ hp
  stored := fun k => ⟨(h.stored k).mem, (h.stored k).qst, (h.stored k).nor, (h.stored k).regs⟩
  burns := h.burns

theorem Moves.set_srd {m : Nat} {s t : State} {x} (e : m.testBit 23 = true) (h : Moves m s t) : Moves m s { t with srd := x } where
  within := fun p hp => by
    cases p
    case srd => exact absurd (e.symm.trans hp) (by decide)
    all_goals exact h.within _ hp
  stored := fun k => ⟨(h.stored k).mem, (h.stored k).qst, (h.stored k).nor, (h.stored k).regs⟩
  burns := h.burns

theorem Moves.set_ldg {m : Nat} {s t : State} {x} (e : m.testBit 24 = true) (h : Moves m s t) : Moves m s { t with ldg := x } where
  within := fun p hp => by
    cases p
    case ldg => exact absurd (e.symm.trans hp) (by decide)
    all_goals exact h.within _ hp
  stored := fun k => ⟨(h.stored k).mem, (h.stored k).qst, (h.stored k).nor, (h.stored k).regs⟩
  burns := h.burns

theorem Moves.set_ing {m : Nat} {s t : State} {x} (e : m.testBit 25 = true) (h : Moves m s t) : Moves m s { t with ing := x } where
  within := fun p hp => by
    cases p
    case ing => exact absurd (e.symm.trans hp) (by decide)
    all_goals exact h.within _ hp
  stored := fun k => ⟨(h.stored k).mem, (h.stored k).qst, (h.stored k).nor, (h.stored k).regs⟩
  burns := h.burns

theorem Moves.set_wdl {m : Nat} {s t : State} {x} (e : m.testBit 26 = true) (h : Moves m s t) : Moves m s { t with wdl := x } where
  within := fun p hp => by
    cases p
    case wdl => exact absurd (e.symm.trans hp) (by decide)
    all_goals exact h.within _ hp
  stored := fun k => ⟨(h.stored k).mem, (h.stored k).qst, (h.stored k).nor, (h.stored k).regs⟩
  burns := h.burns

theorem Moves.set_net {m : Nat} {s t : State} {x} (e : m.testBit 27 = true) (h : Moves m s t) : Moves m s { t with net := x } where
  within := fun p hp => by
    cases p
    case net => exact absurd (e.symm.trans hp) (by decide)
    all_goals exact h.within _ hp
  stored := fun k => ⟨(h.stored k).mem, (h.stored k).qst, (h.stored k).nor, (h.stored k).regs⟩
  burns := h.burns

theorem Moves.set_xpt {m : Nat} {s t : State} {x} (e : m.testBit 28 = true) (h : Moves m s t) : Moves m s { t with xpt := x } where
  within := fun p hp => by
    cases p
    case xpt => exact absurd (e.symm.trans hp) (by decide)
    all_goals exact h.within _ hp
  stored := fun k => ⟨(h.stored k).mem, (h.stored k).qst, (h.stored k).nor, (h.stored k).regs⟩
  burns := h.burns

theorem Moves.set_hq {m : Nat} {s t : State} {x} (e : m.testBit 29 = true) (h : Moves m s t) : Moves m s { t with hq := x } where
  within := fun p hp => by
    cases p
    case hq => exact absurd (e.symm.trans hp) (by decide)
    all_goals exact h.within _ hp
  stored := fun k => ⟨(h.stored k).mem, (h.stored k).qst, (h.stored k).nor, (h.stored k).regs⟩
  burns := h.burns

theorem Moves.set_wc {m : Nat} {s t : State} {x} (e : m.testBit 30 = true) (h : Moves m s t) : Moves m s { t with wc := x } where
  within := fun p hp => by
    cases p
    case wc => exact absurd (e.symm.trans hp) (by decide)
    all_goals exact h.within _ hp
  stored := fun k => ⟨(h.stored k).mem, (h.stored k).qst, (h.stored k).nor, (h.stored k).regs⟩
  burns := h.burns

theorem Moves.set_eng {m : Nat} {s t : State} {x} (e : m.testBit 31 = true) (h : Moves m s t) : Moves m s { t with eng := x } where
  within := fun p hp => by
    cases p
    case eng => exact absurd (e.symm.trans hp) (by decide)
    all_goals exact h.within _ hp
  stored := fun k => ⟨(h.stored k).mem, (h.stored k).qst, (h.stored k).nor, (h.stored k).regs⟩
  burns := h.burns

theorem Moves.set_asy {m : Nat} {s t : State} {x} (e : m.testBit 32 = true) (h : Moves m s t) : Moves m s { t with asy := x } where
  within := fun p hp => by
    cases p
    case asy => exact absurd (e.symm.trans hp) (by decide)
    all_goals exact h.within _ hp
  stored := fun k => ⟨(h.stored k).mem, (h.stored k).qst, (h.stored k).nor, (h.stored k).regs⟩
  burns := h.burns

theorem Moves.set_tin {m : Nat} {s t : State} {x} (e : m.testBit 33 = true) (h : Moves m s t) : Moves m s { t with tin := x } where
  within := fun p hp => by
    cases p
    case tin => exact absurd (e.symm.trans hp) (by decide)
    all_goals exact h.within _ hp
  stored := fun k => ⟨(h.stored k).mem, (h.stored k).qst, (h.stored k).nor, (h.stored k).regs⟩
  burns := h.burns

theorem Moves.set_frg {m : Nat} {s t : State} {x} (e : m.testBit 34 = true) (h : Moves m s t) : Moves m s { t with frg := x } where
  within := fun p hp => by
    cases p
    case frg => exact absurd (e.symm.trans hp) (by decide)
    all_goals exact h.within _ hp
  stored := fun k => ⟨(h.stored k).mem, (h.stored k).qst, (h.stored k).nor, (h.stored k).regs⟩
  burns := h.burns

theorem Moves.set_drp {m : Nat} {s t : State} {x} (e : m.testBit 35 = true) (h : Moves m s t) : Moves m s { t with drp := x } where
  within := fun p hp => by
    cases p
    case drp => exact absurd (e.symm.trans hp) (by decide)
    all_goals exact h.within _ hp
  stored := fun k => ⟨(h.stored k).mem, (h.stored k).qst, (h.stored k).nor, (h.stored k).regs⟩
  burns := h.burns

theorem Moves.set_pln {m : Nat} {s t : State} {x} (e : m.testBit 36 = true) (h : Moves m s t) : Moves m s { t with pln := x } where
  within := fun p hp => by
    cases p
    case pln => exact absurd (e.symm.trans hp) (by decide)
    all_goals exact h.within _ hp
  stored := fun k => ⟨(h.stored k).mem, (h.stored k).qst, (h.stored k).nor, (h.stored k).regs⟩
  burns := h.burns

theorem Moves.set_anl {m : Nat} {s t : State} {x} (e : m.testBit 37 = true) (h : Moves m s t) : Moves m s { t with anl := x } where
  within := fun p hp => by
    cases p
    case anl => exact absurd (e.symm.trans hp) (by decide)
    all_goals exact h.within _ hp
  stored := fun k => ⟨(h.stored k).mem, (h.stored k).qst, (h.stored k).nor, (h.stored k).regs⟩
  burns := h.burns

theorem Moves.set_rpl {m : Nat} {s t : State} {x} (e : m.testBit 38 = true) (h : Moves m s t) : Moves m s { t with rpl := x } where
  within := fun p hp => by
    cases p
    case rpl => exact absurd (e.symm.trans hp) (by decide)
    all_goals exact h.within _ hp
  stored := fun k => ⟨(h.stored k).mem, (h.stored k).qst, (h.stored k).nor, (h.stored k).regs⟩
  burns := h.burns

theorem Moves.set_resOwn {m : Nat} {s t : State} {x} (e : m.testBit 39 = true) (h : Moves m s t) : Moves m s { t with resOwn := x } where
  within := fun p hp => by
    cases p
    case resOwn => exact absurd (e.symm.trans hp) (by decide)
    all_goals exact h.within _ hp
  stored := fun k => ⟨(h.stored k).mem, (h.stored k).qst, (h.stored k).nor, (h.stored k).regs⟩
  burns := h.burns

theorem Moves.set_resPeer {m : Nat} {s t : State} {x} (e : m.testBit 40 = true) (h : Moves m s t) : Moves m s { t with resPeer := x } where
  within := fun p hp => by
    cases p
    case resPeer => exact absurd (e.symm.trans hp) (by decide)
    all_goals exact h.within _ hp
  stored := fun k => ⟨(h.stored k).mem, (h.stored k).qst, (h.stored k).nor, (h.stored k).regs⟩
  burns := h.burns

theorem Moves.set_out {m : Nat} {s t : State} {x} (e : m.testBit 41 = true) (h : Moves m s t) : Moves m s { t with out := x } where
  within := fun p hp => by
    cases p
    case out => exact absurd (e.symm.trans hp) (by decide)
    all_goals exact h.within _ hp
  stored := fun k => ⟨(h.stored k).mem, (h.stored k).qst, (h.stored k).nor, (h.stored k).regs⟩
  burns := h.burns

theorem Moves.set_free {m : Nat} {s t : State} {x} (e : m.testBit 42 = true) (h : Moves m s t) : Moves m s { t with free := x } where
  within := fun p hp => by
    cases p
    case free => exact absurd (e.symm.trans hp) (by decide)
    all_goals exact h.within _ hp
  stored := fun k => ⟨(h.stored k).mem, (h.stored k).qst, (h.stored k).nor, (h.stored k).regs⟩
  burns := h.burns

theorem Moves.set_pending {m : Nat} {s t : State} {x} (e : m.testBit 43 = true) (h : Moves m s t) : Moves m s { t with pending := x } where
  within := fun p hp => by
    cases p
    case pending => exact absurd (e.symm.trans hp) (by decide)
    all_goals exact h.within _ hp
  stored := fun k => ⟨(h.stored k).mem, (h.stored k).qst, (h.stored k).nor, (h.stored k).regs⟩
  burns := h.burns

theorem Moves.set_mem {m : Nat} {s t : State} {x} (e : m.testBit 5 = true) (k : Stored t → Memory.wf x 0 = true) (h : Moves m s t) :
    Moves m s { t with mem := x } where
  within := fun p hp => by
    cases p
    case mem => exact absurd (e.symm.trans hp) (by decide)
    all_goals exact h.within _ hp
  stored := fun g => ⟨(k (h.stored g)), (h.stored g).qst, (h.stored g).nor, (h.stored g).regs⟩
  burns := h.burns

theorem Moves.set_qst {m : Nat} {s t : State} {x} (e : m.testBit 6 = true) (k : Stored t → Memory.wf x 0 = true) (h : Moves m s t) :
    Moves m s { t with qst := x } where
  within := fun p hp => by
    cases p
    case qst => exact absurd (e.symm.trans hp) (by decide)
    all_goals exact h.within _ hp
  stored := fun g => ⟨(h.stored g).mem, (k (h.stored g)), (h.stored g).nor, (h.stored g).regs⟩
  burns := h.burns

theorem Moves.set_nor {m : Nat} {s t : State} {x} (e : m.testBit 7 = true) (k : Stored t → Memory.wf x 0xFF = true) (h : Moves m s t) :
    Moves m s { t with nor := x } where
  within := fun p hp => by
    cases p
    case nor => exact absurd (e.symm.trans hp) (by decide)
    all_goals exact h.within _ hp
  stored := fun g => ⟨(h.stored g).mem, (h.stored g).qst, (k (h.stored g)), (h.stored g).regs⟩
  burns := h.burns

theorem Moves.set_regs {m : Nat} {s t : State} {x} (e : m.testBit 2 = true) (k : Stored t → Tab.wf x = true) (h : Moves m s t) :
    Moves m s { t with regs := x } where
  within := fun p hp => by
    cases p
    case regs => exact absurd (e.symm.trans hp) (by decide)
    all_goals exact h.within _ hp
  stored := fun g => ⟨(h.stored g).mem, (h.stored g).qst, (h.stored g).nor, (k (h.stored g))⟩
  burns := h.burns

theorem Moves.set_fuses {m : Nat} {s t : State} {x} (e : m.testBit 13 = true) (k : t.fuses.burnsTo x) (h : Moves m s t) :
    Moves m s { t with fuses := x } where
  within := fun p hp => by
    cases p
    case fuses => exact absurd (e.symm.trans hp) (by decide)
    all_goals exact h.within _ hp
  stored := fun k => ⟨(h.stored k).mem, (h.stored k).qst, (h.stored k).nor, (h.stored k).regs⟩
  burns := Fuses.burnsTo_trans h.burns k

end Sys2Proof.Machine
end

