-- ==== Sys2Proof/Laws/MovesBase.lean ====
section
/-! SUPPORT. What each definition may change. Registers, reports, faults, slots, windows, rings and the shared parts of the blocks. -/

namespace Sys2Proof.Machine

/-! Sys2Proof/Machine/Ops.lean. -/

theorem wr_moves {x0 x1 x2 x3} : Moves 4 x3 (wr x0 x1 x2 x3) := by
  exact Moves.set_regs rfl (fun h => Tab.wf_setD _ _ _ h.regs) (Moves.refl _ _)

theorem wrF_moves {x0 x1 x2 x3 x4 x5} : Moves 4 x5 (wrF x0 x1 x2 x3 x4 x5) := by
  unfold wrF
  repeat' first
    | with_reducible assumption
    | with_reducible apply Moves.refl
    | ((with_reducible apply Moves.after wr_moves ?e ?_); case e => rfl)

theorem wr64_moves {x0 x1 x2 x3} : Moves 4 x3 (wr64 x0 x1 x2 x3) := by
  unfold wr64
  repeat' first
    | with_reducible assumption
    | with_reducible apply Moves.refl
    | ((with_reducible apply Moves.after wr_moves ?e ?_); case e => rfl)

theorem bump_moves {x0 x1 x2 x3} : Moves 4 x3 (bump x0 x1 x2 x3) := by
  unfold bump
  repeat' first
    | with_reducible assumption
    | with_reducible apply Moves.refl
    | ((with_reducible apply Moves.after wr_moves ?e ?_); case e => rfl)

theorem bump64_moves {x0 x1 x2 x3} : Moves 4 x3 (bump64 x0 x1 x2 x3) := by
  unfold bump64
  repeat' first
    | with_reducible assumption
    | with_reducible apply Moves.refl
    | ((with_reducible apply Moves.after wr64_moves ?e ?_); case e => rfl)

theorem memWrite_moves {x0 x1 x2} : Moves 32 x2 (memWrite x0 x1 x2) := by
  exact Moves.set_mem rfl (fun h => Memory.wf_putCells _ _ h.mem) (Moves.refl _ _)

theorem qstWrite_moves {x0 x1 x2} : Moves 64 x2 (qstWrite x0 x1 x2) := by
  exact Moves.set_qst rfl (fun h => Memory.wf_putCells _ _ h.qst) (Moves.refl _ _)

theorem norWrite_moves {x0 x1 x2} : Moves 128 x2 (norWrite x0 x1 x2) := by
  exact Moves.set_nor rfl (fun h => Memory.wf_putCells _ _ h.nor) (Moves.refl _ _)

theorem emit_moves {x0 x1} : Moves 2199023255552 x1 (emit x0 x1) := by
  unfold emit
  repeat' first
    | with_reducible assumption
    | with_reducible apply Moves.refl
    | fail_if_no_progress ((with_reducible apply Moves.set_out ?e ?_); case e => rfl)

theorem draw_moves {x0} : Moves 4398046511104 x0 (draw x0).2 := by
  unfold draw
  repeat' first
    | with_reducible assumption
    | with_reducible apply Moves.refl
    | fail_if_no_progress ((with_reducible apply Moves.set_free ?e ?_); case e => rfl)

theorem lanesLocked_moves {x0 x1 x2} : Moves 8388608 x2 (lanesLocked x0 x1 x2) := by
  unfold lanesLocked
  repeat' first
    | (extract_lets +onlyGivenNames y; first | clear_value y | subst y)
    | with_reducible assumption
    | with_reducible apply Moves.refl
    | fail_if_no_progress ((with_reducible apply Moves.set_srd ?e ?_); case e => rfl)

/-! Sys2Proof/Machine/PowerCore.lean. -/

theorem wake_moves {x0 x1} : Moves 4 x1 (wake x0 x1) := by
  unfold wake
  repeat' first
    | with_reducible assumption
    | with_reducible apply Moves.refl
    | ((with_reducible apply Moves.after wrF_moves ?e ?_); case e => rfl)
    | ((with_reducible apply Moves.after bump_moves ?e ?_); case e => rfl)
    | with_reducible apply Moves.ite ?_ ?_

theorem ungate_moves {x0 x1} : Moves 524288 x1 (ungate x0 x1) := by
  unfold ungate
  repeat' first
    | (extract_lets +onlyGivenNames y; first | clear_value y | subst y)
    | with_reducible assumption
    | with_reducible apply Moves.refl
    | fail_if_no_progress ((with_reducible apply Moves.set_pwr ?e ?_); case e => rfl)

/-! Sys2Proof/Machine/Report.lean. -/

theorem hlmAccept_moves {x0 x1 x2 x3} : Moves 1028 x3 (hlmAccept x0 x1 x2 x3) := by
  unfold hlmAccept
  repeat' first
    | (extract_lets +onlyGivenNames y; first | clear_value y | subst y)
    | with_reducible assumption
    | with_reducible apply Moves.refl
    | ((with_reducible apply Moves.after bump_moves ?e ?_); case e => rfl)
    | fail_if_no_progress ((with_reducible apply Moves.set_hlm ?e ?_); case e => rfl)
    | with_reducible apply Moves.ite ?_ ?_

theorem hallmark_moves {x0 x1 x2 x3} : Moves 1028 x3 (hallmark x0 x1 x2 x3) := by
  unfold hallmark
  repeat' first
    | (extract_lets +onlyGivenNames y; first | clear_value y | subst y)
    | with_reducible assumption
    | with_reducible apply Moves.refl
    | ((with_reducible apply Moves.after bump_moves ?e ?_); case e => rfl)
    | ((with_reducible apply Moves.after hlmAccept_moves ?e ?_); case e => rfl)
    | fail_if_no_progress ((with_reducible apply Moves.set_hlm ?e ?_); case e => rfl)
    | with_reducible apply Moves.ite ?_ ?_

theorem srcPut_moves {x0 x1 x2} : Moves 512 x2 (srcPut x0 x1 x2) := by
  unfold srcPut
  repeat' first
    | (extract_lets +onlyGivenNames y; first | clear_value y | subst y)
    | with_reducible assumption
    | with_reducible apply Moves.refl
    | fail_if_no_progress ((with_reducible apply Moves.set_eqc ?e ?_); case e => rfl)

theorem noteFull_moves {x0 x1} : Moves 1540 x1 (noteFull x0 x1) := by
  unfold noteFull
  repeat' first
    | (extract_lets +onlyGivenNames y; first | clear_value y | subst y)
    | with_reducible assumption
    | with_reducible apply Moves.refl
    | ((with_reducible apply Moves.after bump_moves ?e ?_); case e => rfl)
    | ((with_reducible apply Moves.after hallmark_moves ?e ?_); case e => rfl)
    | ((with_reducible apply Moves.after srcPut_moves ?e ?_); case e => rfl)
    | with_reducible apply Moves.ite ?_ ?_

theorem srcForm_moves {x0 x1 x2} : Moves 1540 x2 (srcForm x0 x1 x2) := by
  unfold srcForm
  repeat' first
    | (extract_lets +onlyGivenNames y; first | (refine Moves.bind (x := y) ?_ fun _ => ?_; (on_goal 2 => clear_value y); subst y) | clear_value y | subst y)
    | with_reducible assumption
    | with_reducible apply Moves.refl
    | ((with_reducible apply Moves.after srcPut_moves ?e ?_); case e => rfl)
    | ((with_reducible apply Moves.after noteFull_moves ?e ?_); case e => rfl)
    | fail_if_no_progress ((with_reducible apply Moves.set_eqc ?e ?_); case e => rfl)

theorem occur_moves {x0 x1 x2} : Moves 1540 x2 (occur x0 x1 x2) := by
  unfold occur
  repeat' first
    | (extract_lets +onlyGivenNames y; first | clear_value y | subst y)
    | with_reducible assumption
    | with_reducible apply Moves.refl
    | ((with_reducible apply Moves.after bump_moves ?e ?_); case e => rfl)
    | ((with_reducible apply Moves.after srcPut_moves ?e ?_); case e => rfl)
    | ((with_reducible apply Moves.after srcForm_moves ?e ?_); case e => rfl)
    | with_reducible apply Moves.ite ?_ ?_
    | split

theorem event_moves {x0 x1 x2 x3} : Moves 1540 x3 (event x0 x1 x2 x3) := by
  unfold event
  repeat' first
    | with_reducible assumption
    | with_reducible apply Moves.refl
    | ((with_reducible apply Moves.after occur_moves ?e ?_); case e => rfl)

/-! Sys2Proof/Machine/Slots.lean. -/

theorem slotPut_moves {x0 x1 x2} : Moves 1073741856 x2 (slotPut x0 x1 x2) := by
  unfold slotPut
  repeat' first
    | (extract_lets +onlyGivenNames y; first | clear_value y | subst y)
    | with_reducible assumption
    | with_reducible apply Moves.refl
    | ((with_reducible apply Moves.after memWrite_moves ?e ?_); case e => rfl)
    | fail_if_no_progress ((with_reducible apply Moves.set_wc ?e ?_); case e => rfl)

theorem mirPut_moves {x0 x1 x2} : Moves 1073741856 x2 (mirPut x0 x1 x2) := by
  unfold mirPut
  repeat' first
    | (extract_lets +onlyGivenNames y; first | clear_value y | subst y)
    | with_reducible assumption
    | with_reducible apply Moves.refl
    | ((with_reducible apply Moves.after memWrite_moves ?e ?_); case e => rfl)
    | fail_if_no_progress ((with_reducible apply Moves.set_wc ?e ?_); case e => rfl)

/-! Sys2Proof/Machine/Rings.lean. -/

theorem rgPut_moves {x0 x1 x2 x3} : Moves 2147483648 x3 (rgPut x0 x1 x2 x3) := by
  unfold rgPut
  repeat' first
    | (extract_lets +onlyGivenNames y; first | clear_value y | subst y)
    | with_reducible assumption
    | with_reducible apply Moves.refl
    | fail_if_no_progress ((with_reducible apply Moves.set_eng ?e ?_); case e => rfl)

theorem engTick_moves {x0} : Moves 2147483648 x0 (engTick x0) := by
  unfold engTick
  repeat' first
    | (extract_lets +onlyGivenNames y; first | clear_value y | subst y)
    | with_reducible assumption
    | with_reducible apply Moves.refl
    | fail_if_no_progress ((with_reducible apply Moves.set_eng ?e ?_); case e => rfl)

theorem missAt_moves {x0 x1 x2} : Moves 4398046512132 x2 (missAt x0 x1 x2) := by
  unfold missAt
  repeat' first
    | (extract_lets +onlyGivenNames y; first | (refine Moves.bind (x := y) ?_ fun _ => ?_; (on_goal 2 => clear_value y); subst y) | clear_value y | subst y)
    | with_reducible assumption
    | with_reducible apply Moves.refl
    | ((with_reducible apply Moves.after bump_moves ?e ?_); case e => rfl)
    | ((with_reducible apply Moves.after draw_moves ?e ?_); case e => rfl)
    | ((with_reducible apply Moves.after (Moves.of_pair ?p draw_moves) ?e ?_); (case p => assumption); case e => rfl)
    | ((with_reducible apply Moves.after hallmark_moves ?e ?_); case e => rfl)
    | with_reducible apply Moves.ite ?_ ?_

theorem busFault_moves {x0 x1} : Moves 4398046512132 x1 (busFault x0 x1) := by
  unfold busFault
  repeat' first
    | with_reducible assumption
    | with_reducible apply Moves.refl
    | ((with_reducible apply Moves.after missAt_moves ?e ?_); case e => rfl)
    | split

theorem spansWrite_moves {x0 x1 x2} : Moves 32 x2 (spansWrite x0 x1 x2) := by
  induction' x0 with a l ih generalizing x1 x2
  all_goals unfold spansWrite
  all_goals repeat' first
    | with_reducible assumption
    | with_reducible apply Moves.refl
    | ((with_reducible apply Moves.after memWrite_moves ?e ?_); case e => rfl)
    | with_reducible apply Moves.trans ?_ ih

theorem undefOut_moves {x0 x1} : Moves 4398046511136 x1 (undefOut x0 x1) := by
  unfold undefOut
  repeat' first
    | with_reducible assumption
    | with_reducible apply Moves.refl
    | ((with_reducible apply Moves.after draw_moves ?e ?_); case e => rfl)
    | ((with_reducible apply Moves.after (Moves.of_pair ?p draw_moves) ?e ?_); (case p => assumption); case e => rfl)
    | ((with_reducible apply Moves.after spansWrite_moves ?e ?_); case e => rfl)

theorem joinQueue_moves {x0 x1 x2} : Moves 2147483648 x1 (joinQueue x0 x1 x2) := by
  unfold joinQueue
  repeat' first
    | (extract_lets +onlyGivenNames y; first | clear_value y | subst y)
    | with_reducible assumption
    | with_reducible apply Moves.refl
    | ((with_reducible apply Moves.after rgPut_moves ?e ?_); case e => rfl)
    | ((with_reducible apply Moves.after engTick_moves ?e ?_); case e => rfl)
    | with_reducible apply Moves.ite ?_ ?_

theorem joinQueues_moves {x0 x1} : Moves 2147483648 x1 (joinQueues x0 x1) := by
  unfold joinQueues
  repeat' first
    | with_reducible assumption
    | with_reducible apply Moves.refl
    | ((with_reducible apply Moves.after joinQueue_moves ?e ?_); case e => rfl)
    | with_reducible apply Moves.foldl (fun _ _ => ?_) ?_

theorem joinFront_moves {x0 x1 x2} : Moves 2147483648 x2 (joinFront x0 x1 x2) := by
  unfold joinFront
  repeat' first
    | (extract_lets +onlyGivenNames y; first | (refine Moves.bind (x := y) ?_ fun _ => ?_; (on_goal 2 => clear_value y); subst y) | clear_value y | subst y)
    | with_reducible assumption
    | with_reducible apply Moves.refl
    | ((with_reducible apply Moves.after rgPut_moves ?e ?_); case e => rfl)
    | fail_if_no_progress ((with_reducible apply Moves.set_eng ?e ?_); case e => rfl)

theorem leaveQueue_moves {x0 x1 x2} : Moves 2147483648 x2 (leaveQueue x0 x1 x2) := by
  unfold leaveQueue
  repeat' first
    | (extract_lets +onlyGivenNames y; first | clear_value y | subst y)
    | with_reducible assumption
    | with_reducible apply Moves.refl
    | ((with_reducible apply Moves.after rgPut_moves ?e ?_); case e => rfl)

theorem nextSeq_moves {x0 x1 x2} : Moves 2147483648 x2 (nextSeq x0 x1 x2).2 := by
  unfold nextSeq
  repeat' first
    | (extract_lets +onlyGivenNames y; first | clear_value y | subst y)
    | with_reducible assumption
    | with_reducible apply Moves.refl
    | fail_if_no_progress ((with_reducible apply Moves.set_eng ?e ?_); case e => rfl)

theorem advanceSq_moves {x0 x1 x2} : Moves 2147483652 x2 (advanceSq x0 x1 x2) := by
  unfold advanceSq
  repeat' first
    | with_reducible assumption
    | with_reducible apply Moves.refl
    | ((with_reducible apply Moves.after wrF_moves ?e ?_); case e => rfl)
    | ((with_reducible apply Moves.after leaveQueue_moves ?e ?_); case e => rfl)

theorem finishDsc_moves {x0 x1 x2 x3 x4} : Moves 2147483648 x4 (finishDsc x0 x1 x2 x3 x4) := by
  unfold finishDsc
  repeat' first
    | (extract_lets +onlyGivenNames y; first | (refine Moves.bind (x := y.2) ?_ fun _ => ?_; (on_goal 2 => clear_value y); subst y) | clear_value y | subst y)
    | with_reducible assumption
    | with_reducible apply Moves.refl
    | ((with_reducible apply Moves.after rgPut_moves ?e ?_); case e => rfl)
    | ((with_reducible apply Moves.after nextSeq_moves ?e ?_); case e => rfl)

theorem writeRec_moves {x0 x1 x2 x3} : Moves 2147485220 x3 (writeRec x0 x1 x2 x3) := by
  unfold writeRec
  repeat' first
    | (extract_lets +onlyGivenNames y; first | (refine Moves.bind (x := y) ?_ fun _ => ?_; (on_goal 2 => clear_value y); subst y) | clear_value y | subst y)
    | with_reducible assumption
    | with_reducible apply Moves.refl
    | ((with_reducible apply Moves.after wrF_moves ?e ?_); case e => rfl)
    | ((with_reducible apply Moves.after memWrite_moves ?e ?_); case e => rfl)
    | ((with_reducible apply Moves.after event_moves ?e ?_); case e => rfl)
    | ((with_reducible apply Moves.after rgPut_moves ?e ?_); case e => rfl)
    | with_reducible apply Moves.ite ?_ ?_

theorem flushRecs_moves {x0 x1 x2 x3} : Moves 2147485220 x3 (flushRecs x0 x1 x2 x3) := by
  induction' x2 with n ih generalizing x0 x1 x3
  all_goals unfold flushRecs
  all_goals repeat' first
    | (extract_lets +onlyGivenNames y; first | (refine Moves.bind (x := y) ?_ fun _ => ?_; (on_goal 2 => clear_value y); subst y) | clear_value y | subst y)
    | with_reducible assumption
    | with_reducible apply Moves.refl
    | ((with_reducible apply Moves.after rgPut_moves ?e ?_); case e => rfl)
    | ((with_reducible apply Moves.after writeRec_moves ?e ?_); case e => rfl)
    | with_reducible apply Moves.ite ?_ ?_
    | with_reducible apply Moves.trans ?_ ih
    | split

theorem abortPosted_moves {x0 x1 x2 x3 x4} : Moves 4400193994756 x4 (abortPosted x0 x1 x2 x3 x4) := by
  induction' x3 with n ih generalizing x0 x1 x2 x4
  all_goals unfold abortPosted
  all_goals repeat' first
    | (extract_lets +onlyGivenNames y; first | (refine Moves.bind (x := y) ?_ fun _ => ?_; (on_goal 2 => clear_value y); subst y) | clear_value y | subst y)
    | with_reducible assumption
    | with_reducible apply Moves.refl
    | ((with_reducible apply Moves.after draw_moves ?e ?_); case e => rfl)
    | ((with_reducible apply Moves.after (Moves.of_pair ?p draw_moves) ?e ?_); (case p => assumption); case e => rfl)
    | ((with_reducible apply Moves.after rgPut_moves ?e ?_); case e => rfl)
    | ((with_reducible apply Moves.after advanceSq_moves ?e ?_); case e => rfl)
    | with_reducible apply Moves.ite ?_ ?_
    | with_reducible apply Moves.trans ?_ ih

theorem abortJob_moves {x0 x1 x2 x3 x4 x5 x6 x7 x8 x9} : Moves 4400193994784 x9 (abortJob x0 x1 x2 x3 x4 x5 x6 x7 x8 x9) := by
  unfold abortJob
  repeat' first
    | with_reducible assumption
    | with_reducible apply Moves.refl
    | ((with_reducible apply Moves.after undefOut_moves ?e ?_); case e => rfl)
    | ((with_reducible apply Moves.after finishDsc_moves ?e ?_); case e => rfl)

theorem abortPart_moves {x0 x1 x2} : Moves 4400193994784 x2 (abortPart x0 x1 x2) := by
  unfold abortPart
  repeat' first
    | (extract_lets +onlyGivenNames y; first | clear_value y | subst y)
    | with_reducible assumption
    | with_reducible apply Moves.refl
    | ((with_reducible apply Moves.after draw_moves ?e ?_); case e => rfl)
    | ((with_reducible apply Moves.after (Moves.of_pair ?p draw_moves) ?e ?_); (case p => assumption); case e => rfl)
    | ((with_reducible apply Moves.after rgPut_moves ?e ?_); case e => rfl)
    | ((with_reducible apply Moves.after abortJob_moves ?e ?_); case e => rfl)
    | split

theorem abortCur_moves {x0 x1 x2 x3} : Moves 4400193994784 x3 (abortCur x0 x1 x2 x3) := by
  unfold abortCur
  repeat' first
    | with_reducible assumption
    | with_reducible apply Moves.refl
    | ((with_reducible apply Moves.after abortJob_moves ?e ?_); case e => rfl)
    | split

theorem settleOff_moves {x0 x1 x2} : Moves 4400193996324 x2 (settleOff x0 x1 x2) := by
  unfold settleOff
  repeat' first
    | (extract_lets +onlyGivenNames y; first | (refine Moves.bind (x := y) ?_ fun _ => ?_; (on_goal 2 => clear_value y); subst y) | clear_value y | subst y)
    | with_reducible assumption
    | with_reducible apply Moves.refl
    | ((with_reducible apply Moves.after rgPut_moves ?e ?_); case e => rfl)
    | ((with_reducible apply Moves.after flushRecs_moves ?e ?_); case e => rfl)
    | ((with_reducible apply Moves.after abortPosted_moves ?e ?_); case e => rfl)
    | with_reducible apply Moves.ite ?_ ?_

theorem abortRing_moves {x0 x1 x2 x3} : Moves 4404488963620 x2 (abortRing x0 x1 x2 x3) := by
  unfold abortRing
  repeat' first
    | (extract_lets +onlyGivenNames y; first | (refine Moves.bind (x := y) ?_ fun _ => ?_; (on_goal 2 => clear_value y); subst y) | clear_value y | subst y)
    | with_reducible assumption
    | with_reducible apply Moves.refl
    | ((with_reducible apply Moves.after rgPut_moves ?e ?_); case e => rfl)
    | ((with_reducible apply Moves.after flushRecs_moves ?e ?_); case e => rfl)
    | ((with_reducible apply Moves.after abortPosted_moves ?e ?_); case e => rfl)
    | ((with_reducible apply Moves.after abortPart_moves ?e ?_); case e => rfl)
    | ((with_reducible apply Moves.after abortCur_moves ?e ?_); case e => rfl)
    | fail_if_no_progress ((with_reducible apply Moves.set_asy ?e ?_); case e => rfl)
    | with_reducible apply Moves.ite ?_ ?_

theorem abortRings_moves {x0 x1 x2} : Moves 4404488963620 x2 (abortRings x0 x1 x2) := by
  unfold abortRings
  repeat' first
    | with_reducible assumption
    | with_reducible apply Moves.refl
    | ((with_reducible apply Moves.after abortRing_moves ?e ?_); case e => rfl)
    | with_reducible apply Moves.foldl (fun _ _ => ?_) ?_

/-! Sys2Proof/Machine/RplCore.lean. -/

theorem grpPut_moves {x0 x1 x2} : Moves 274877906944 x2 (grpPut x0 x1 x2) := by
  unfold grpPut
  repeat' first
    | (extract_lets +onlyGivenNames y; first | clear_value y | subst y)
    | with_reducible assumption
    | with_reducible apply Moves.refl
    | fail_if_no_progress ((with_reducible apply Moves.set_rpl ?e ?_); case e => rfl)

theorem gwr_moves {x0 x1 x2 x3} : Moves 274877906944 x3 (gwr x0 x1 x2 x3) := by
  unfold gwr
  repeat' first
    | (extract_lets +onlyGivenNames y; first | clear_value y | subst y)
    | with_reducible assumption
    | with_reducible apply Moves.refl
    | fail_if_no_progress ((with_reducible apply Moves.set_rpl ?e ?_); case e => rfl)

theorem rplAck_moves {x0 x1} : Moves 274877906944 x1 (rplAck x0 x1) := by
  unfold rplAck
  repeat' first
    | (extract_lets +onlyGivenNames y; first | clear_value y | subst y)
    | with_reducible assumption
    | with_reducible apply Moves.refl
    | ((with_reducible apply Moves.after grpPut_moves ?e ?_); case e => rfl)
    | with_reducible apply Moves.ite ?_ ?_
    | split

theorem rplAtomic_moves {x0 x1 x2} : Moves 274877906944 x2 (rplAtomic x0 x1 x2) := by
  unfold rplAtomic
  repeat' first
    | (extract_lets +onlyGivenNames y; first | clear_value y | subst y)
    | with_reducible assumption
    | with_reducible apply Moves.refl
    | ((with_reducible apply Moves.after grpPut_moves ?e ?_); case e => rfl)
    | with_reducible apply Moves.ite ?_ ?_

theorem rplRead_moves {x0 x1 x2} : Moves 274877906944 x2 (rplRead x0 x1 x2) := by
  unfold rplRead
  repeat' first
    | (extract_lets +onlyGivenNames y; first | clear_value y | subst y)
    | with_reducible assumption
    | with_reducible apply Moves.refl
    | ((with_reducible apply Moves.after grpPut_moves ?e ?_); case e => rfl)
    | with_reducible apply Moves.ite ?_ ?_

theorem rplQpLost_moves {x0 x1} : Moves 274877906944 x1 (rplQpLost x0 x1) := by
  unfold rplQpLost
  repeat' first
    | (extract_lets +onlyGivenNames y; first | clear_value y | subst y)
    | with_reducible assumption
    | with_reducible apply Moves.refl
    | ((with_reducible apply Moves.after grpPut_moves ?e ?_); case e => rfl)
    | with_reducible apply Moves.foldl (fun _ _ => ?_) ?_

theorem rplHalt_moves {x0 x1} : Moves 274877907972 x1 (rplHalt x0 x1) := by
  unfold rplHalt
  repeat' first
    | (extract_lets +onlyGivenNames y; first | clear_value y | subst y)
    | with_reducible assumption
    | with_reducible apply Moves.refl
    | ((with_reducible apply Moves.after hallmark_moves ?e ?_); case e => rfl)
    | ((with_reducible apply Moves.after grpPut_moves ?e ?_); case e => rfl)

theorem fullResync_moves {x0 x1} : Moves 4398046512132 x1 (fullResync x0 x1) := by
  unfold fullResync
  repeat' first
    | (extract_lets +onlyGivenNames y; first | (refine Moves.bind (x := y) ?_ fun _ => ?_; (on_goal 2 => clear_value y); subst y) | clear_value y | subst y)
    | with_reducible assumption
    | with_reducible apply Moves.refl
    | ((with_reducible apply Moves.after bump_moves ?e ?_); case e => rfl)
    | ((with_reducible apply Moves.after draw_moves ?e ?_); case e => rfl)
    | ((with_reducible apply Moves.after (Moves.of_pair ?p draw_moves) ?e ?_); (case p => assumption); case e => rfl)
    | ((with_reducible apply Moves.after hallmark_moves ?e ?_); case e => rfl)

theorem rplHandover_moves {x0 x1} : Moves 4672924419076 x1 (rplHandover x0 x1) := by
  unfold rplHandover
  repeat' first
    | with_reducible assumption
    | with_reducible apply Moves.refl
    | ((with_reducible apply Moves.after rplHalt_moves ?e ?_); case e => rfl)
    | ((with_reducible apply Moves.after fullResync_moves ?e ?_); case e => rfl)
    | with_reducible apply Moves.foldl (fun _ _ => ?_) ?_

theorem rplTakeover_moves {x0} : Moves 274877906944 x0 (rplTakeover x0) := by
  unfold rplTakeover
  repeat' first
    | (extract_lets +onlyGivenNames y; first | (refine Moves.bind (x := y) ?_ fun _ => ?_; (on_goal 2 => clear_value y); subst y) | clear_value y | subst y)
    | with_reducible assumption
    | with_reducible apply Moves.refl
    | ((with_reducible apply Moves.after grpPut_moves ?e ?_); case e => rfl)
    | fail_if_no_progress ((with_reducible apply Moves.set_rpl ?e ?_); case e => rfl)
    | with_reducible apply Moves.ite ?_ ?_
    | with_reducible apply Moves.foldl (fun _ _ => ?_) ?_

theorem rplFull_moves {x0 x1} : Moves 4672924419076 x1 (rplFull x0 x1) := by
  unfold rplFull
  repeat' first
    | (extract_lets +onlyGivenNames y; first | clear_value y | subst y)
    | with_reducible assumption
    | with_reducible apply Moves.refl
    | ((with_reducible apply Moves.after grpPut_moves ?e ?_); case e => rfl)
    | ((with_reducible apply Moves.after fullResync_moves ?e ?_); case e => rfl)

theorem rplSnapGone_moves {x0 x1 x2} : Moves 4672924419076 x2 (rplSnapGone x0 x1 x2) := by
  unfold rplSnapGone
  repeat' first
    | (extract_lets +onlyGivenNames y; first | (refine Moves.bind (x := y) ?_ fun _ => ?_; (on_goal 2 => clear_value y); subst y) | (refine of_fun y ?_; subst y) | clear_value y | subst y)
    | with_reducible assumption
    | with_reducible apply Moves.refl
    | ((with_reducible apply Moves.after rplFull_moves ?e ?_); case e => rfl)
    | with_reducible apply Moves.foldl (fun _ _ => ?_) ?_

theorem updateTargets_moves {x0} : Moves 536870912 x0 (updateTargets x0) := by
  unfold updateTargets
  repeat' first
    | (extract_lets +onlyGivenNames y; first | clear_value y | subst y)
    | with_reducible assumption
    | with_reducible apply Moves.refl
    | fail_if_no_progress ((with_reducible apply Moves.set_hq ?e ?_); case e => rfl)

/-! Sys2Proof/Machine/TinCore.lean. -/

theorem slotKPut_moves {x0 x1 x2} : Moves 8589934592 x2 (slotKPut x0 x1 x2) := by
  unfold slotKPut
  repeat' first
    | (extract_lets +onlyGivenNames y; first | clear_value y | subst y)
    | with_reducible assumption
    | with_reducible apply Moves.refl
    | fail_if_no_progress ((with_reducible apply Moves.set_tin ?e ?_); case e => rfl)

theorem genPut_moves {x0 x1 x2 x3 x4} : Moves 8589934592 x4 (genPut x0 x1 x2 x3 x4) := by
  unfold genPut
  repeat' first
    | (extract_lets +onlyGivenNames y; first | clear_value y | subst y)
    | with_reducible assumption
    | with_reducible apply Moves.refl
    | fail_if_no_progress ((with_reducible apply Moves.set_tin ?e ?_); case e => rfl)

theorem keyWarn_moves {x0 x1 x2} : Moves 8589936132 x2 (keyWarn x0 x1 x2) := by
  unfold keyWarn
  repeat' first
    | (extract_lets +onlyGivenNames y; first | clear_value y | subst y)
    | with_reducible assumption
    | with_reducible apply Moves.refl
    | ((with_reducible apply Moves.after bump_moves ?e ?_); case e => rfl)
    | ((with_reducible apply Moves.after hallmark_moves ?e ?_); case e => rfl)
    | ((with_reducible apply Moves.after event_moves ?e ?_); case e => rfl)
    | ((with_reducible apply Moves.after slotKPut_moves ?e ?_); case e => rfl)
    | with_reducible apply Moves.ite ?_ ?_

theorem keyExhausted_moves {x0 x1 x2} : Moves 8589936132 x2 (keyExhausted x0 x1 x2) := by
  unfold keyExhausted
  repeat' first
    | (extract_lets +onlyGivenNames y; first | (refine Moves.bind (x := y) ?_ fun _ => ?_; (on_goal 2 => clear_value y); subst y) | clear_value y | subst y)
    | with_reducible assumption
    | with_reducible apply Moves.refl
    | ((with_reducible apply Moves.after bump_moves ?e ?_); case e => rfl)
    | ((with_reducible apply Moves.after hallmark_moves ?e ?_); case e => rfl)
    | ((with_reducible apply Moves.after event_moves ?e ?_); case e => rfl)
    | ((with_reducible apply Moves.after slotKPut_moves ?e ?_); case e => rfl)
    | with_reducible apply Moves.ite ?_ ?_

theorem grantUses_moves {x0 x1 x2 x3} : Opts2 8589936132 x3 (grantUses x0 x1 x2 x3) := by
  unfold grantUses
  repeat' first
    | (extract_lets +onlyGivenNames y; first | (refine Opts2.bind (x := y) ?_ fun _ => ?_; (on_goal 2 => clear_value y); subst y) | (refine Moves.bind (x := y) ?_ fun _ => ?_; (on_goal 2 => clear_value y); subst y) | clear_value y | subst y)
    | with_reducible assumption
    | with_reducible apply Moves.refl
    | ((with_reducible apply Moves.after slotKPut_moves ?e ?_); case e => rfl)
    | ((with_reducible apply Moves.after keyWarn_moves ?e ?_); case e => rfl)
    | ((with_reducible apply Moves.after keyExhausted_moves ?e ?_); case e => rfl)
    | with_reducible apply Opts2.some ?_
    | exact Opts2.none
    | with_reducible apply Opts2.ite ?_ ?_
    | with_reducible apply Moves.ite ?_ ?_

theorem serveUses_moves {x0 x1 x2} : Moves 8589936132 x2 (serveUses x0 x1 x2) := by
  induction' x1 with n ih generalizing x0 x2
  all_goals unfold serveUses
  all_goals repeat' first
    | (extract_lets +onlyGivenNames y; first | clear_value y | subst y)
    | with_reducible assumption
    | with_reducible apply Moves.refl
    | ((with_reducible apply Moves.after (Moves.of_opt2 ?p grantUses_moves) ?e ?_); (case p => assumption); case e => rfl)
    | fail_if_no_progress ((with_reducible apply Moves.set_tin ?e ?_); case e => rfl)
    | with_reducible apply Moves.trans ?_ ih
    | split

theorem askUses_moves {x0 x1 x2 x3} : Moves 8589936132 x3 (askUses x0 x1 x2 x3) := by
  unfold askUses
  repeat' first
    | (extract_lets +onlyGivenNames y; first | (refine Moves.bind (x := y) ?_ fun _ => ?_; (on_goal 2 => clear_value y); subst y) | clear_value y | subst y)
    | with_reducible assumption
    | with_reducible apply Moves.refl
    | ((with_reducible apply Moves.after serveUses_moves ?e ?_); case e => rfl)
    | fail_if_no_progress ((with_reducible apply Moves.set_tin ?e ?_); case e => rfl)
    | with_reducible apply Moves.ite ?_ ?_

theorem takeGrant_moves {x0 x1} : Opts2 8589934592 x1 (takeGrant x0 x1) := by
  intro p h
  simp only [takeGrant, Option.map_eq_some_iff] at h
  obtain ⟨g, _, rfl⟩ := h
  exact Moves.set_tin rfl (Moves.refl _ _)

theorem dropReq_moves {x0 x1} : Moves 8589934592 x1 (dropReq x0 x1) := by
  unfold dropReq
  repeat' first
    | (extract_lets +onlyGivenNames y; first | clear_value y | subst y)
    | with_reducible assumption
    | with_reducible apply Moves.refl
    | fail_if_no_progress ((with_reducible apply Moves.set_tin ?e ?_); case e => rfl)

theorem sealUse_moves {x0 x1 x2 x3} : Moves 8589936132 x3 (sealUse x0 x1 x2 x3).2 := by
  unfold sealUse
  repeat' first
    | (extract_lets +onlyGivenNames y; first | (refine Moves.pair_bind (x := y) ?_ fun _ => ?_; (on_goal 2 => clear_value y); subst y) | (refine Moves.bind (x := y) ?_ fun _ => ?_; (on_goal 2 => clear_value y); subst y) | clear_value y | subst y)
    | with_reducible assumption
    | with_reducible apply Moves.refl
    | ((with_reducible apply Moves.after keyWarn_moves ?e ?_); case e => rfl)
    | ((with_reducible apply Moves.after keyExhausted_moves ?e ?_); case e => rfl)
    | ((with_reducible apply Moves.after askUses_moves ?e ?_); case e => rfl)
    | ((with_reducible apply Moves.after (Moves.of_opt2 ?p takeGrant_moves) ?e ?_); (case p => assumption); case e => rfl)
    | fail_if_no_progress ((with_reducible apply Moves.set_tin ?e ?_); case e => rfl)
    | fail_if_no_progress (with_reducible apply Moves.pair_ite ?_ ?_)
    | with_reducible apply Moves.ite ?_ ?_
    | with_reducible apply Moves.getD ?_ ?_
    | dsimp -zeta only
    | split

/-! Sys2Proof/Machine/Window.lean. -/

theorem fwinPut_moves {x0 x1 x2} : Moves 17179869184 x2 (fwinPut x0 x1 x2) := by
  unfold fwinPut
  repeat' first
    | (extract_lets +onlyGivenNames y; first | clear_value y | subst y)
    | with_reducible assumption
    | with_reducible apply Moves.refl
    | fail_if_no_progress ((with_reducible apply Moves.set_frg ?e ?_); case e => rfl)

theorem grainPut_moves {x0 x1 x2} : Moves 17179869184 x2 (grainPut x0 x1 x2) := by
  unfold grainPut
  repeat' first
    | with_reducible assumption
    | with_reducible apply Moves.refl
    | ((with_reducible apply Moves.after fwinPut_moves ?e ?_); case e => rfl)

theorem grainDrop_moves {x0 x1 x2} : Moves 17179869184 x2 (grainDrop x0 x1 x2) := by
  unfold grainDrop
  repeat' first
    | with_reducible assumption
    | with_reducible apply Moves.refl
    | ((with_reducible apply Moves.after fwinPut_moves ?e ?_); case e => rfl)

theorem frgStat_moves {x0 x1} : Moves 4 x1 (frgStat x0 x1) := by
  unfold frgStat
  repeat' first
    | (extract_lets +onlyGivenNames y; first | clear_value y | subst y)
    | with_reducible assumption
    | with_reducible apply Moves.refl
    | ((with_reducible apply Moves.after wr_moves ?e ?_); case e => rfl)

theorem fltPut_moves {x0 x1} : Moves 17179869188 x1 (fltPut x0 x1) := by
  unfold fltPut
  repeat' first
    | (extract_lets +onlyGivenNames y; first | clear_value y | subst y)
    | with_reducible assumption
    | with_reducible apply Moves.refl
    | ((with_reducible apply Moves.after wrF_moves ?e ?_); case e => rfl)
    | fail_if_no_progress ((with_reducible apply Moves.set_frg ?e ?_); case e => rfl)

theorem fltDrop_moves {x0 x1 x2 x3} : Moves 17179869188 x3 (fltDrop x0 x1 x2 x3) := by
  unfold fltDrop
  repeat' first
    | with_reducible assumption
    | with_reducible apply Moves.refl
    | ((with_reducible apply Moves.after fltPut_moves ?e ?_); case e => rfl)
    | split

theorem fltWrite_moves {x0 x1 x2 x3} : Moves 17179869188 x3 (fltWrite x0 x1 x2 x3) := by
  unfold fltWrite
  repeat' first
    | (extract_lets +onlyGivenNames y; first | clear_value y | subst y)
    | with_reducible assumption
    | with_reducible apply Moves.refl
    | ((with_reducible apply Moves.after fltPut_moves ?e ?_); case e => rfl)

theorem fltFill_moves {x0 x1 x2 x3} : Moves 17179869188 x3 (fltFill x0 x1 x2 x3) := by
  unfold fltFill
  repeat' first
    | (extract_lets +onlyGivenNames y; first | clear_value y | subst y)
    | with_reducible assumption
    | with_reducible apply Moves.refl
    | ((with_reducible apply Moves.after fltWrite_moves ?e ?_); case e => rfl)
    | with_reducible apply Moves.ite ?_ ?_
    | with_reducible apply Moves.foldl (fun _ _ => ?_) ?_
    | with_reducible apply Moves.foldl2 (fun _ _ => ?_) ?_
    | split

theorem idxPut_moves {x0 x1 x2} : Moves 17179869188 x2 (idxPut x0 x1 x2) := by
  unfold idxPut
  repeat' first
    | (extract_lets +onlyGivenNames y; first | clear_value y | subst y)
    | with_reducible assumption
    | with_reducible apply Moves.refl
    | ((with_reducible apply Moves.after wr64_moves ?e ?_); case e => rfl)
    | fail_if_no_progress ((with_reducible apply Moves.set_frg ?e ?_); case e => rfl)

theorem idxLoad_moves {x0 x1} : Moves 17179869188 x1 (idxLoad x0 x1) := by
  unfold idxLoad
  repeat' first
    | with_reducible assumption
    | with_reducible apply Moves.refl
    | ((with_reducible apply Moves.after idxPut_moves ?e ?_); case e => rfl)
    | with_reducible apply Moves.ite ?_ ?_

theorem idxDrop_moves {x0 x1 x2} : Moves 17179869188 x2 (idxDrop x0 x1 x2) := by
  unfold idxDrop
  repeat' first
    | with_reducible assumption
    | with_reducible apply Moves.refl
    | ((with_reducible apply Moves.after fltDrop_moves ?e ?_); case e => rfl)
    | ((with_reducible apply Moves.after idxPut_moves ?e ?_); case e => rfl)

theorem idxSet_moves {x0 x1 x2 x3} : Moves 17179869188 x3 (idxSet x0 x1 x2 x3) := by
  unfold idxSet
  repeat' first
    | with_reducible assumption
    | with_reducible apply Moves.refl
    | ((with_reducible apply Moves.after idxPut_moves ?e ?_); case e => rfl)

theorem pendingGone_moves {x0 x1} : Moves 17179869184 x1 (pendingGone x0 x1) := by
  unfold pendingGone
  repeat' first
    | with_reducible assumption
    | with_reducible apply Moves.refl
    | ((with_reducible apply Moves.after fwinPut_moves ?e ?_); case e => rfl)
    | with_reducible apply Moves.ite ?_ ?_
    | with_reducible apply Moves.foldl (fun _ _ => ?_) ?_

theorem dropPending_moves {x0 x1 x2} : Moves 17179869188 x2 (dropPending x0 x1 x2) := by
  unfold dropPending
  repeat' first
    | with_reducible assumption
    | with_reducible apply Moves.refl
    | ((with_reducible apply Moves.after idxDrop_moves ?e ?_); case e => rfl)
    | ((with_reducible apply Moves.after pendingGone_moves ?e ?_); case e => rfl)
    | with_reducible apply Moves.ite ?_ ?_
    | split

theorem drpStat_moves {x0 x1} : Moves 4 x1 (drpStat x0 x1) := by
  unfold drpStat
  repeat' first
    | (extract_lets +onlyGivenNames y; first | clear_value y | subst y)
    | with_reducible assumption
    | with_reducible apply Moves.refl
    | ((with_reducible apply Moves.after wr_moves ?e ?_); case e => rfl)

theorem dropVerify_moves {x0 x1 x2} : Moves 34359738372 x2 (dropVerify x0 x1 x2) := by
  unfold dropVerify
  repeat' first
    | (extract_lets +onlyGivenNames y; first | clear_value y | subst y)
    | with_reducible assumption
    | with_reducible apply Moves.refl
    | ((with_reducible apply Moves.after drpStat_moves ?e ?_); case e => rfl)
    | fail_if_no_progress ((with_reducible apply Moves.set_drp ?e ?_); case e => rfl)

theorem abandonUnits_moves {x0 x1 x2 x3 x4} : Moves 33554432 x4 (abandonUnits x0 x1 x2 x3 x4) := by
  unfold abandonUnits
  repeat' first
    | (extract_lets +onlyGivenNames y; first | clear_value y | subst y)
    | with_reducible assumption
    | with_reducible apply Moves.refl
    | fail_if_no_progress ((with_reducible apply Moves.set_ing ?e ?_); case e => rfl)

theorem returnGrain_moves {x0 x1 x2} : Moves 52646903844 x2 (returnGrain x0 x1 x2) := by
  unfold returnGrain
  repeat' first
    | (extract_lets +onlyGivenNames y; first | (refine Moves.bind (x := y) ?_ fun _ => ?_; (on_goal 2 => clear_value y); subst y) | clear_value y | subst y)
    | with_reducible assumption
    | with_reducible apply Moves.refl
    | ((with_reducible apply Moves.after slotPut_moves ?e ?_); case e => rfl)
    | ((with_reducible apply Moves.after dropPending_moves ?e ?_); case e => rfl)
    | ((with_reducible apply Moves.after dropVerify_moves ?e ?_); case e => rfl)
    | ((with_reducible apply Moves.after abandonUnits_moves ?e ?_); case e => rfl)
    | with_reducible apply Moves.ite ?_ ?_
    | split

theorem returnWindow_moves {x0 x1 x2} : Moves 61236839460 x2 (returnWindow x0 x1 x2) := by
  unfold returnWindow
  repeat' first
    | (extract_lets +onlyGivenNames y; first | (refine Moves.bind (x := y) ?_ fun _ => ?_; (on_goal 2 => clear_value y); subst y) | clear_value y | subst y)
    | with_reducible assumption
    | with_reducible apply Moves.refl
    | ((with_reducible apply Moves.after bump_moves ?e ?_); case e => rfl)
    | ((with_reducible apply Moves.after hallmark_moves ?e ?_); case e => rfl)
    | ((with_reducible apply Moves.after fwinPut_moves ?e ?_); case e => rfl)
    | ((with_reducible apply Moves.after frgStat_moves ?e ?_); case e => rfl)
    | ((with_reducible apply Moves.after returnGrain_moves ?e ?_); case e => rfl)
    | fail_if_no_progress ((with_reducible apply Moves.set_tin ?e ?_); case e => rfl)
    | with_reducible apply Moves.ite ?_ ?_
    | with_reducible apply Moves.foldl (fun _ _ => ?_) ?_

theorem returnReads_moves {x0 x1} : Moves 42949672964 x1 (returnReads x0 x1) := by
  unfold returnReads
  repeat' first
    | (extract_lets +onlyGivenNames y; first | (refine Moves.bind (x := y) ?_ fun _ => ?_; (on_goal 2 => clear_value y); subst y) | clear_value y | subst y)
    | with_reducible assumption
    | with_reducible apply Moves.refl
    | ((with_reducible apply Moves.after wrF_moves ?e ?_); case e => rfl)
    | ((with_reducible apply Moves.after bump_moves ?e ?_); case e => rfl)
    | fail_if_no_progress ((with_reducible apply Moves.set_drp ?e ?_); case e => rfl)
    | fail_if_no_progress ((with_reducible apply Moves.set_tin ?e ?_); case e => rfl)
    | with_reducible apply Moves.ite ?_ ?_

/-! Sys2Proof/Machine/XptCore.lean. -/

theorem qpPut_moves {x0 x1 x2} : Moves 268435456 x2 (qpPut x0 x1 x2) := by
  unfold qpPut
  repeat' first
    | (extract_lets +onlyGivenNames y; first | clear_value y | subst y)
    | with_reducible assumption
    | with_reducible apply Moves.refl
    | fail_if_no_progress ((with_reducible apply Moves.set_xpt ?e ?_); case e => rfl)

theorem touch_moves {x0 x1} : Moves 268435456 x1 (touch x0 x1) := by
  unfold touch
  repeat' first
    | (extract_lets +onlyGivenNames y; first | clear_value y | subst y)
    | with_reducible assumption
    | with_reducible apply Moves.refl
    | fail_if_no_progress ((with_reducible apply Moves.set_xpt ?e ?_); case e => rfl)

theorem makeResident_moves {x0 x1} : Opts 268435456 x1 (makeResident x0 x1) := by
  unfold makeResident
  repeat' first
    | (extract_lets +onlyGivenNames y; first | clear_value y | subst y)
    | with_reducible assumption
    | with_reducible apply Moves.refl
    | ((with_reducible apply Moves.after touch_moves ?e ?_); case e => rfl)
    | fail_if_no_progress ((with_reducible apply Moves.set_xpt ?e ?_); case e => rfl)
    | with_reducible apply Opts.some ?_
    | exact Opts.none
    | with_reducible apply Opts.ite ?_ ?_
    | with_reducible apply Moves.ite ?_ ?_
    | split

theorem nwr_moves {x0 x1 x2 x3} : Moves 134217732 x3 (nwr x0 x1 x2 x3) := by
  unfold nwr
  repeat' first
    | (extract_lets +onlyGivenNames y; first | clear_value y | subst y)
    | with_reducible assumption
    | with_reducible apply Moves.refl
    | ((with_reducible apply Moves.after wr_moves ?e ?_); case e => rfl)
    | fail_if_no_progress ((with_reducible apply Moves.set_net ?e ?_); case e => rfl)
    | with_reducible apply Moves.ite ?_ ?_

theorem nwrF_moves {x0 x1 x2 x3 x4 x5} : Moves 134217732 x5 (nwrF x0 x1 x2 x3 x4 x5) := by
  unfold nwrF
  repeat' first
    | with_reducible assumption
    | with_reducible apply Moves.refl
    | ((with_reducible apply Moves.after nwr_moves ?e ?_); case e => rfl)

theorem putPkt_moves {x0 x1 x2} : Moves 2199023255556 x2 (putPkt x0 x1 x2) := by
  unfold putPkt
  repeat' first
    | (extract_lets +onlyGivenNames y; first | clear_value y | subst y)
    | with_reducible assumption
    | with_reducible apply Moves.refl
    | ((with_reducible apply Moves.after bump64_moves ?e ?_); case e => rfl)
    | ((with_reducible apply Moves.after emit_moves ?e ?_); case e => rfl)
    | with_reducible apply Moves.ite ?_ ?_

theorem sendOne_moves {x0 x1} : Opts 2199291691012 x1 (sendOne x0 x1) := by
  unfold sendOne
  repeat' first
    | (extract_lets +onlyGivenNames y; first | clear_value y | subst y)
    | with_reducible assumption
    | with_reducible apply Moves.refl
    | ((with_reducible apply Moves.after qpPut_moves ?e ?_); case e => rfl)
    | ((with_reducible apply Moves.after putPkt_moves ?e ?_); case e => rfl)
    | with_reducible apply Opts.some ?_
    | exact Opts.none
    | with_reducible apply Opts.ite ?_ ?_
    | with_reducible apply Moves.ite ?_ ?_
    | split

theorem pumpQp_moves {x0 x1 x2} : Moves 2199291691012 x2 (pumpQp x0 x1 x2) := by
  induction' x0 with n ih generalizing x1 x2
  all_goals unfold pumpQp
  all_goals repeat' first
    | with_reducible assumption
    | with_reducible apply Moves.refl
    | ((with_reducible apply Moves.after (Moves.of_opt ?p sendOne_moves) ?e ?_); (case p => assumption); case e => rfl)
    | with_reducible apply Moves.trans ?_ ih
    | split

theorem pumpAll_moves {x0 x1} : Moves 2199291691012 x1 (pumpAll x0 x1) := by
  unfold pumpAll
  repeat' first
    | with_reducible assumption
    | with_reducible apply Moves.refl
    | ((with_reducible apply Moves.after pumpQp_moves ?e ?_); case e => rfl)

theorem xptPost_moves {x0 x1 x2} : Moves 2199291691012 x2 (xptPost x0 x1 x2) := by
  unfold xptPost
  repeat' first
    | (extract_lets +onlyGivenNames y; first | clear_value y | subst y)
    | with_reducible assumption
    | with_reducible apply Moves.refl
    | ((with_reducible apply Moves.after qpPut_moves ?e ?_); case e => rfl)
    | ((with_reducible apply Moves.after pumpAll_moves ?e ?_); case e => rfl)
    | with_reducible apply Moves.ite ?_ ?_

theorem postRx_moves {x0 x1} : Moves 268435456 x1 (postRx x0 x1) := by
  unfold postRx
  repeat' first
    | (extract_lets +onlyGivenNames y; first | clear_value y | subst y)
    | with_reducible assumption
    | with_reducible apply Moves.refl
    | ((with_reducible apply Moves.after qpPut_moves ?e ?_); case e => rfl)

theorem qpFail_moves {x0 x1 x2} : Moves 268436484 x2 (qpFail x0 x1 x2) := by
  unfold qpFail
  repeat' first
    | (extract_lets +onlyGivenNames y; first | clear_value y | subst y)
    | with_reducible assumption
    | with_reducible apply Moves.refl
    | ((with_reducible apply Moves.after bump_moves ?e ?_); case e => rfl)
    | ((with_reducible apply Moves.after hallmark_moves ?e ?_); case e => rfl)
    | ((with_reducible apply Moves.after qpPut_moves ?e ?_); case e => rfl)
    | with_reducible apply Moves.ite ?_ ?_

/-! Sys2Proof/Machine/Abort.lean. -/

theorem dropGeneral_moves {x0} : Moves 8589934592 x0 (dropGeneral x0) := by
  unfold dropGeneral
  repeat' first
    | (extract_lets +onlyGivenNames y; first | clear_value y | subst y)
    | with_reducible assumption
    | with_reducible apply Moves.refl
    | fail_if_no_progress ((with_reducible apply Moves.set_tin ?e ?_); case e => rfl)

theorem abortPage_moves {x0 x1 x2} : Moves 4465725802020 x2 (abortPage x0 x1 x2) := by
  unfold abortPage
  repeat' first
    | with_reducible assumption
    | with_reducible apply Moves.refl
    | ((with_reducible apply Moves.after abortRings_moves ?e ?_); case e => rfl)
    | ((with_reducible apply Moves.after returnWindow_moves ?e ?_); case e => rfl)
    | ((with_reducible apply Moves.after returnReads_moves ?e ?_); case e => rfl)
    | ((with_reducible apply Moves.after dropGeneral_moves ?e ?_); case e => rfl)
    | split

/-! Sys2Proof/Machine/HqCore.lean. -/

theorem cmdPut_moves {x0 x1} : Moves 536870912 x1 (cmdPut x0 x1) := by
  unfold cmdPut
  repeat' first
    | (extract_lets +onlyGivenNames y; first | clear_value y | subst y)
    | with_reducible assumption
    | with_reducible apply Moves.refl
    | fail_if_no_progress ((with_reducible apply Moves.set_hq ?e ?_); case e => rfl)

theorem cmdDrop_moves {x0 x1 x2} : Moves 536870912 x2 (cmdDrop x0 x1 x2) := by
  unfold cmdDrop
  repeat' first
    | (extract_lets +onlyGivenNames y; first | clear_value y | subst y)
    | with_reducible assumption
    | with_reducible apply Moves.refl
    | fail_if_no_progress ((with_reducible apply Moves.set_hq ?e ?_); case e => rfl)

theorem nsPut_moves {x0 x1 x2} : Moves 536870912 x2 (nsPut x0 x1 x2) := by
  unfold nsPut
  repeat' first
    | (extract_lets +onlyGivenNames y; first | clear_value y | subst y)
    | with_reducible assumption
    | with_reducible apply Moves.refl
    | fail_if_no_progress ((with_reducible apply Moves.set_hq ?e ?_); case e => rfl)

theorem pushPieces_moves {x0 x1 x2 x3} : Moves 2199291691012 x3 (pushPieces x0 x1 x2 x3) := by
  induction' x1 with a l ih generalizing x0 x2 x3
  all_goals unfold pushPieces
  all_goals repeat' first
    | with_reducible assumption
    | with_reducible apply Moves.refl
    | ((with_reducible apply Moves.after xptPost_moves ?e ?_); case e => rfl)
    | with_reducible apply Moves.trans ?_ ih

theorem hostWrite_moves {x0 x1 x2 x3} : Moves 2199291691012 x3 (hostWrite x0 x1 x2 x3) := by
  unfold hostWrite
  repeat' first
    | with_reducible assumption
    | with_reducible apply Moves.refl
    | ((with_reducible apply Moves.after pushPieces_moves ?e ?_); case e => rfl)

theorem hostRead_moves {x0 x1 x2 x3} : Moves 2199291691012 x3 (hostRead x0 x1 x2 x3) := by
  unfold hostRead
  repeat' first
    | with_reducible assumption
    | with_reducible apply Moves.refl
    | ((with_reducible apply Moves.after xptPost_moves ?e ?_); case e => rfl)
    | with_reducible apply Moves.foldl (fun _ _ => ?_) ?_
    | with_reducible apply Moves.foldl2 (fun _ _ => ?_) ?_

theorem piFailed_moves {x0 x1 x2 x3} : Moves 1028 x3 (piFailed x0 x1 x2 x3) := by
  unfold piFailed
  repeat' first
    | with_reducible assumption
    | with_reducible apply Moves.refl
    | ((with_reducible apply Moves.after bump_moves ?e ?_); case e => rfl)
    | ((with_reducible apply Moves.after hallmark_moves ?e ?_); case e => rfl)

theorem sendCqe_moves {x0 x1 x2} : Moves 2199291691012 x2 (sendCqe x0 x1 x2) := by
  unfold sendCqe
  repeat' first
    | (extract_lets +onlyGivenNames y; first | clear_value y | subst y)
    | with_reducible assumption
    | with_reducible apply Moves.refl
    | ((with_reducible apply Moves.after xptPost_moves ?e ?_); case e => rfl)
    | ((with_reducible apply Moves.after postRx_moves ?e ?_); case e => rfl)

theorem postCqe_moves {x0 x1 x2} : Moves 2199828561924 x2 (postCqe x0 x1 x2) := by
  unfold postCqe
  repeat' first
    | (extract_lets +onlyGivenNames y; first | (refine Moves.bind (x := y) ?_ fun _ => ?_; (on_goal 2 => clear_value y); subst y) | clear_value y | subst y)
    | with_reducible assumption
    | with_reducible apply Moves.refl
    | ((with_reducible apply Moves.after bump_moves ?e ?_); case e => rfl)
    | ((with_reducible apply Moves.after bump64_moves ?e ?_); case e => rfl)
    | ((with_reducible apply Moves.after cmdDrop_moves ?e ?_); case e => rfl)
    | ((with_reducible apply Moves.after nsPut_moves ?e ?_); case e => rfl)
    | ((with_reducible apply Moves.after sendCqe_moves ?e ?_); case e => rfl)
    | with_reducible apply Moves.ite ?_ ?_

theorem hqFinish_moves {x0 x1 x2 x3} : Moves 2199828561924 x3 (hqFinish x0 x1 x2 x3) := by
  unfold hqFinish
  repeat' first
    | (extract_lets +onlyGivenNames y; first | (refine Moves.bind (x := y) ?_ fun _ => ?_; (on_goal 2 => clear_value y); subst y) | clear_value y | subst y)
    | with_reducible assumption
    | with_reducible apply Moves.refl
    | ((with_reducible apply Moves.after cmdPut_moves ?e ?_); case e => rfl)
    | ((with_reducible apply Moves.after postCqe_moves ?e ?_); case e => rfl)
    | fail_if_no_progress ((with_reducible apply Moves.set_hq ?e ?_); case e => rfl)
    | with_reducible apply Moves.ite ?_ ?_
    | split

theorem hqFinishDw_moves {x0 x1 x2 x3 x4 x5} : Moves 2199828561924 x5 (hqFinishDw x0 x1 x2 x3 x4 x5) := by
  unfold hqFinishDw
  repeat' first
    | with_reducible assumption
    | with_reducible apply Moves.refl
    | ((with_reducible apply Moves.after cmdPut_moves ?e ?_); case e => rfl)
    | ((with_reducible apply Moves.after hqFinish_moves ?e ?_); case e => rfl)
    | split

theorem postHeld_moves {x0 x1} : Moves 2199828561924 x1 (postHeld x0 x1) := by
  induction' x0 with n ih generalizing x1
  all_goals unfold postHeld
  all_goals repeat' first
    | with_reducible assumption
    | with_reducible apply Moves.refl
    | ((with_reducible apply Moves.after postCqe_moves ?e ?_); case e => rfl)
    | with_reducible apply Moves.trans ?_ ih
    | split

theorem aeSend_moves {x0 x1 x2} : Moves 2199828561924 x2 (aeSend x0 x1 x2) := by
  unfold aeSend
  repeat' first
    | (extract_lets +onlyGivenNames y; first | clear_value y | subst y)
    | with_reducible assumption
    | with_reducible apply Moves.refl
    | ((with_reducible apply Moves.after hqFinishDw_moves ?e ?_); case e => rfl)
    | fail_if_no_progress ((with_reducible apply Moves.set_hq ?e ?_); case e => rfl)
    | split

theorem hqAsync_moves {x0 x1} : Moves 2199828561924 x1 (hqAsync x0 x1) := by
  unfold hqAsync
  repeat' first
    | with_reducible assumption
    | with_reducible apply Moves.refl
    | ((with_reducible apply Moves.after aeSend_moves ?e ?_); case e => rfl)
    | with_reducible apply Moves.foldl (fun _ _ => ?_) ?_

/-! Sys2Proof/Machine/Fault.lean. -/

theorem setState_moves {x0 x1 x2} : Moves 4 x2 (setState x0 x1 x2) := by
  unfold setState
  repeat' first
    | (extract_lets +onlyGivenNames y; first | (refine Moves.bind (x := y) ?_ fun _ => ?_; (on_goal 2 => clear_value y); subst y) | clear_value y | subst y)
    | with_reducible assumption
    | with_reducible apply Moves.refl
    | ((with_reducible apply Moves.after wr_moves ?e ?_); case e => rfl)
    | ((with_reducible apply Moves.after wrF_moves ?e ?_); case e => rfl)
    | with_reducible apply Moves.ite ?_ ?_

theorem faultPage_moves {x0 x1 x2} : Moves 4465725802020 x2 (faultPage x0 x1 x2) := by
  unfold faultPage
  repeat' first
    | (extract_lets +onlyGivenNames y; first | (refine Moves.bind (x := y) ?_ fun _ => ?_; (on_goal 2 => clear_value y); subst y) | clear_value y | subst y)
    | with_reducible assumption
    | with_reducible apply Moves.refl
    | ((with_reducible apply Moves.after hallmark_moves ?e ?_); case e => rfl)
    | ((with_reducible apply Moves.after event_moves ?e ?_); case e => rfl)
    | ((with_reducible apply Moves.after abortPage_moves ?e ?_); case e => rfl)
    | ((with_reducible apply Moves.after setState_moves ?e ?_); case e => rfl)
    | with_reducible apply Moves.ite ?_ ?_

theorem noteFault_moves {x0 x1 x2 x3} : Moves 4 x3 (noteFault x0 x1 x2 x3) := by
  unfold noteFault
  repeat' first
    | with_reducible assumption
    | with_reducible apply Moves.refl
    | ((with_reducible apply Moves.after wr_moves ?e ?_); case e => rfl)
    | ((with_reducible apply Moves.after bump_moves ?e ?_); case e => rfl)

theorem enterFault_moves {x0 x1 x2} : Moves 4465725802020 x2 (enterFault x0 x1 x2) := by
  unfold enterFault
  repeat' first
    | with_reducible assumption
    | with_reducible apply Moves.refl
    | ((with_reducible apply Moves.after faultPage_moves ?e ?_); case e => rfl)
    | ((with_reducible apply Moves.after noteFault_moves ?e ?_); case e => rfl)
    | with_reducible apply Moves.ite ?_ ?_
    | with_reducible apply Moves.foldl (fun _ _ => ?_) ?_

theorem recordFault_moves {x0 x1 x2 x3} : Moves 4465725802020 x3 (recordFault x0 x1 x2 x3) := by
  unfold recordFault
  repeat' first
    | (extract_lets +onlyGivenNames y; first | (refine Moves.bind (x := y) ?_ fun _ => ?_; (on_goal 2 => clear_value y); subst y) | clear_value y | subst y)
    | with_reducible assumption
    | with_reducible apply Moves.refl
    | ((with_reducible apply Moves.after noteFault_moves ?e ?_); case e => rfl)
    | ((with_reducible apply Moves.after enterFault_moves ?e ?_); case e => rfl)
    | with_reducible apply Moves.ite ?_ ?_

theorem conflict_moves {x0 x1 x2} : Moves 4465725802020 x2 (conflict x0 x1 x2) := by
  unfold conflict
  repeat' first
    | with_reducible assumption
    | with_reducible apply Moves.refl
    | ((with_reducible apply Moves.after recordFault_moves ?e ?_); case e => rfl)

/-! Sys2Proof/Machine/CsrCore.lean. -/

theorem stopTimeout_moves {x0 x1 x2 x3} : Moves 6664749057572 x3 (stopTimeout x0 x1 x2 x3) := by
  unfold stopTimeout
  repeat' first
    | (extract_lets +onlyGivenNames y; first | (refine Moves.bind (x := y) ?_ fun _ => ?_; (on_goal 2 => clear_value y); subst y) | clear_value y | subst y)
    | with_reducible assumption
    | with_reducible apply Moves.refl
    | ((with_reducible apply Moves.after bump_moves ?e ?_); case e => rfl)
    | ((with_reducible apply Moves.after emit_moves ?e ?_); case e => rfl)
    | ((with_reducible apply Moves.after hallmark_moves ?e ?_); case e => rfl)
    | ((with_reducible apply Moves.after recordFault_moves ?e ?_); case e => rfl)

theorem atRegister_moves {m : Nat} {x0 x1 x2 x3 x4} (e : 6664749057572 &&& m = 6664749057572) (kx3 : ∀ a0, Moves m a0 (x3 a0)) : Moves m x4 (atRegister x0 x1 x2 x3 x4) := by
  unfold atRegister
  repeat' first
    | with_reducible assumption
    | with_reducible apply Moves.refl
    | with_reducible apply Moves.trans ?_ (kx3 _)
    | ((with_reducible apply Moves.after stopTimeout_moves ?e ?_); case e => exact sub_trans rfl e)
    | with_reducible apply Moves.ite ?_ ?_

theorem noteRsvd_moves {x0 x1 x2 x3 x4} : Moves 4465725802020 x4 (noteRsvd x0 x1 x2 x3 x4) := by
  unfold noteRsvd
  repeat' first
    | with_reducible assumption
    | with_reducible apply Moves.refl
    | ((with_reducible apply Moves.after recordFault_moves ?e ?_); case e => rfl)
    | with_reducible apply Moves.ite ?_ ?_

theorem gatedWrite_moves {x0 x1 x2 x3 x4} : Moves 4465725802020 x4 (gatedWrite x0 x1 x2 x3 x4) := by
  unfold gatedWrite
  repeat' first
    | with_reducible assumption
    | with_reducible apply Moves.refl
    | ((with_reducible apply Moves.after wr_moves ?e ?_); case e => rfl)
    | ((with_reducible apply Moves.after recordFault_moves ?e ?_); case e => rfl)
    | ((with_reducible apply Moves.after conflict_moves ?e ?_); case e => rfl)
    | ((with_reducible apply Moves.after noteRsvd_moves ?e ?_); case e => rfl)
    | with_reducible apply Moves.ite ?_ ?_
    | split

theorem blockWrite_moves {x0 x1 x2 x3} : Moves 4465725802020 x3 (blockWrite x0 x1 x2 x3) := by
  unfold blockWrite
  repeat' first
    | with_reducible assumption
    | with_reducible apply Moves.refl
    | ((with_reducible apply Moves.after gatedWrite_moves ?e ?_); case e => rfl)

theorem commandWrite_moves {x0 x1 x2 x3} : Moves 4465725802020 x3 (commandWrite x0 x1 x2 x3) := by
  unfold commandWrite
  repeat' first
    | with_reducible assumption
    | with_reducible apply Moves.refl
    | ((with_reducible apply Moves.after noteRsvd_moves ?e ?_); case e => rfl)
    | split

/-! Sys2Proof/Machine/Pair.lean. -/

theorem transmit_moves {x0 x1 x2} : Moves 2199090364420 x2 (transmit x0 x1 x2) := by
  unfold transmit
  repeat' first
    | (extract_lets +onlyGivenNames y; first | clear_value y | subst y)
    | with_reducible assumption
    | with_reducible apply Moves.refl
    | ((with_reducible apply Moves.after bump64_moves ?e ?_); case e => rfl)
    | ((with_reducible apply Moves.after emit_moves ?e ?_); case e => rfl)
    | fail_if_no_progress ((with_reducible apply Moves.set_wdl ?e ?_); case e => rfl)

theorem pump_moves {x0 x1} : Moves 2199090364420 x1 (pump x0 x1) := by
  induction' x0 with n ih generalizing x1
  all_goals unfold pump
  all_goals repeat' first
    | (extract_lets +onlyGivenNames y; first | clear_value y | subst y)
    | with_reducible assumption
    | with_reducible apply Moves.refl
    | ((with_reducible apply Moves.after transmit_moves ?e ?_); case e => rfl)
    | fail_if_no_progress ((with_reducible apply Moves.set_wdl ?e ?_); case e => rfl)
    | with_reducible apply Moves.trans ?_ ih
    | split

theorem sendW_moves {x0 x1 x2 x3 x4} : Moves 2199090364420 x4 (sendW x0 x1 x2 x3 x4) := by
  unfold sendW
  repeat' first
    | (extract_lets +onlyGivenNames y; first | (refine Moves.bind (x := y) ?_ fun _ => ?_; (on_goal 2 => clear_value y); subst y) | clear_value y | subst y)
    | with_reducible assumption
    | with_reducible apply Moves.refl
    | ((with_reducible apply Moves.after pump_moves ?e ?_); case e => rfl)
    | fail_if_no_progress ((with_reducible apply Moves.set_wdl ?e ?_); case e => rfl)
    | with_reducible apply Moves.ite ?_ ?_

theorem takeRx_moves {x0 x1} : Moves 2199090364416 x1 (takeRx x0 x1) := by
  unfold takeRx
  repeat' first
    | (extract_lets +onlyGivenNames y; first | clear_value y | subst y)
    | with_reducible assumption
    | with_reducible apply Moves.refl
    | ((with_reducible apply Moves.after emit_moves ?e ?_); case e => rfl)
    | fail_if_no_progress ((with_reducible apply Moves.set_wdl ?e ?_); case e => rfl)
    | split

theorem linkDrop_moves {x0 x1} : Moves 67110404 x1 (linkDrop x0 x1) := by
  unfold linkDrop
  repeat' first
    | (extract_lets +onlyGivenNames y; first | (refine Moves.bind (x := y) ?_ fun _ => ?_; (on_goal 2 => clear_value y); subst y) | clear_value y | subst y)
    | with_reducible assumption
    | with_reducible apply Moves.refl
    | ((with_reducible apply Moves.after wr_moves ?e ?_); case e => rfl)
    | ((with_reducible apply Moves.after wrF_moves ?e ?_); case e => rfl)
    | ((with_reducible apply Moves.after hallmark_moves ?e ?_); case e => rfl)
    | ((with_reducible apply Moves.after event_moves ?e ?_); case e => rfl)
    | fail_if_no_progress ((with_reducible apply Moves.set_wdl ?e ?_); case e => rfl)
    | with_reducible apply Moves.ite ?_ ?_

theorem preemptArbiter_moves {x0} : Moves 2199090364420 x0 (preemptArbiter x0) := by
  unfold preemptArbiter
  repeat' first
    | (extract_lets +onlyGivenNames y; first | (refine Moves.bind (x := y) ?_ fun _ => ?_; (on_goal 2 => clear_value y); subst y) | clear_value y | subst y)
    | with_reducible assumption
    | with_reducible apply Moves.refl
    | ((with_reducible apply Moves.after wrF_moves ?e ?_); case e => rfl)
    | ((with_reducible apply Moves.after emit_moves ?e ?_); case e => rfl)
    | fail_if_no_progress ((with_reducible apply Moves.set_wdl ?e ?_); case e => rfl)
    | split

theorem startTakeover_moves {x0 x1} : Moves 6664832943652 x1 (startTakeover x0 x1) := by
  unfold startTakeover
  repeat' first
    | (extract_lets +onlyGivenNames y; first | (refine Moves.bind (x := y) ?_ fun _ => ?_; (on_goal 2 => clear_value y); subst y) | clear_value y | subst y)
    | with_reducible assumption
    | with_reducible apply Moves.refl
    | ((with_reducible apply Moves.after wrF_moves ?e ?_); case e => rfl)
    | ((with_reducible apply Moves.after hallmark_moves ?e ?_); case e => rfl)
    | ((with_reducible apply Moves.after event_moves ?e ?_); case e => rfl)
    | ((with_reducible apply Moves.after recordFault_moves ?e ?_); case e => rfl)
    | ((with_reducible apply Moves.after linkDrop_moves ?e ?_); case e => rfl)
    | ((with_reducible apply Moves.after preemptArbiter_moves ?e ?_); case e => rfl)
    | fail_if_no_progress ((with_reducible apply Moves.set_wdl ?e ?_); case e => rfl)
    | fail_if_no_progress ((with_reducible apply Moves.set_ldg ?e ?_); case e => rfl)
    | with_reducible apply Moves.ite ?_ ?_

theorem takeoverCause_moves {x0 x1} : Moves 6664832943652 x1 (takeoverCause x0 x1) := by
  unfold takeoverCause
  repeat' first
    | (extract_lets +onlyGivenNames y; first | (refine Moves.bind (x := y) ?_ fun _ => ?_; (on_goal 2 => clear_value y); subst y) | clear_value y | subst y)
    | with_reducible assumption
    | with_reducible apply Moves.refl
    | ((with_reducible apply Moves.after wrF_moves ?e ?_); case e => rfl)
    | ((with_reducible apply Moves.after event_moves ?e ?_); case e => rfl)
    | ((with_reducible apply Moves.after startTakeover_moves ?e ?_); case e => rfl)
    | with_reducible apply Moves.ite ?_ ?_

theorem linkDown_moves {x0 x1} : Moves 6664832943652 x1 (linkDown x0 x1) := by
  unfold linkDown
  repeat' first
    | with_reducible assumption
    | with_reducible apply Moves.refl
    | ((with_reducible apply Moves.after linkDrop_moves ?e ?_); case e => rfl)
    | ((with_reducible apply Moves.after takeoverCause_moves ?e ?_); case e => rfl)
    | with_reducible apply Moves.ite ?_ ?_

end Sys2Proof.Machine
end

