-- ==== Sys2Proof/Laws/MovesControl.lean ====
section
/-! SUPPORT. What each definition may change. Memory system, check-value units, event queues, hallmark log, credit queues and reset. -/

namespace Sys2Proof.Machine

/-! Sys2Proof/Machine/MemorySystem.lean. -/

theorem setWay_moves {x0 x1 x2} : Moves 4 x2 (setWay x0 x1 x2) := by
  unfold setWay
  repeat' first
    | (extract_lets +onlyGivenNames y; first | (refine Moves.bind (x := y) ?_ fun _ => ?_; (on_goal 2 => clear_value y); subst y) | clear_value y | subst y)
    | with_reducible assumption
    | with_reducible apply Moves.refl
    | ((with_reducible apply Moves.after wrF_moves ?e ?_); case e => rfl)

theorem cleanLines_moves {x0 x1} : Moves 2097152 x1 (cleanLines x0 x1) := by
  unfold cleanLines
  repeat' first
    | (extract_lets +onlyGivenNames y; first | clear_value y | subst y)
    | with_reducible assumption
    | with_reducible apply Moves.refl
    | fail_if_no_progress ((with_reducible apply Moves.set_msys ?e ?_); case e => rfl)

theorem invalLines_moves {x0 x1} : Moves 2097184 x1 (invalLines x0 x1) := by
  unfold invalLines
  apply Moves.set_msys rfl
  refine Moves.set_mem rfl (fun h => ?_) (Moves.refl _ _)
  have k : ∀ (l : List Host.Cell) (m : List Host.Cell), Memory.wf m 0 = true →
      Memory.wf (l.foldl (fun m c => Tab.setD m 0 c.1 c.2) m) 0 = true := by
    intro l
    induction l with
    | nil => exact fun m h => h
    | cons c l ih => exact fun m h => ih _ (Memory.wf_setD _ _ h)
  exact k _ _ h.mem

theorem cleanInvalWay_moves {x0 x1} : Moves 2097184 x1 (cleanInvalWay x0 x1) := by
  unfold cleanInvalWay
  repeat' first
    | with_reducible assumption
    | with_reducible apply Moves.refl
    | ((with_reducible apply Moves.after cleanLines_moves ?e ?_); case e => rfl)
    | ((with_reducible apply Moves.after invalLines_moves ?e ?_); case e => rfl)

theorem refuseWorn_moves {x0 x1} : Moves 1540 x1 (refuseWorn x0 x1) := by
  unfold refuseWorn
  repeat' first
    | with_reducible assumption
    | with_reducible apply Moves.refl
    | ((with_reducible apply Moves.after wrF_moves ?e ?_); case e => rfl)
    | ((with_reducible apply Moves.after hallmark_moves ?e ?_); case e => rfl)
    | ((with_reducible apply Moves.after event_moves ?e ?_); case e => rfl)

theorem finishRetire_moves {x0 x1 x2} : Moves 2098724 x2 (finishRetire x0 x1 x2) := by
  unfold finishRetire
  repeat' first
    | with_reducible assumption
    | with_reducible apply Moves.refl
    | ((with_reducible apply Moves.after bump_moves ?e ?_); case e => rfl)
    | ((with_reducible apply Moves.after hallmark_moves ?e ?_); case e => rfl)
    | ((with_reducible apply Moves.after event_moves ?e ?_); case e => rfl)
    | ((with_reducible apply Moves.after setWay_moves ?e ?_); case e => rfl)
    | ((with_reducible apply Moves.after cleanInvalWay_moves ?e ?_); case e => rfl)

theorem autoRetire_moves {x0 x1 x2} : Moves 2098724 x2 (autoRetire x0 x1 x2) := by
  unfold autoRetire
  repeat' first
    | with_reducible assumption
    | with_reducible apply Moves.refl
    | ((with_reducible apply Moves.after refuseWorn_moves ?e ?_); case e => rfl)
    | ((with_reducible apply Moves.after finishRetire_moves ?e ?_); case e => rfl)
    | with_reducible apply Moves.ite ?_ ?_

theorem spWayFail_moves {x0 x1} : Moves 1540 x1 (spWayFail x0 x1) := by
  unfold spWayFail
  repeat' first
    | with_reducible assumption
    | with_reducible apply Moves.refl
    | ((with_reducible apply Moves.after hallmark_moves ?e ?_); case e => rfl)
    | ((with_reducible apply Moves.after event_moves ?e ?_); case e => rfl)

theorem correctedError_moves {x0 x1} : Moves 2098724 x1 (correctedError x0 x1) := by
  unfold correctedError
  repeat' first
    | (extract_lets +onlyGivenNames y; first | (refine Moves.bind (x := y) ?_ fun _ => ?_; (on_goal 2 => clear_value y); subst y) | clear_value y | subst y)
    | with_reducible assumption
    | with_reducible apply Moves.refl
    | ((with_reducible apply Moves.after bump_moves ?e ?_); case e => rfl)
    | ((with_reducible apply Moves.after autoRetire_moves ?e ?_); case e => rfl)
    | ((with_reducible apply Moves.after spWayFail_moves ?e ?_); case e => rfl)
    | fail_if_no_progress ((with_reducible apply Moves.set_msys ?e ?_); case e => rfl)
    | with_reducible apply Moves.ite ?_ ?_

theorem poisonBurst_moves {x0 x1} : Moves 2097152 x1 (poisonBurst x0 x1) := by
  unfold poisonBurst
  repeat' first
    | (extract_lets +onlyGivenNames y; first | clear_value y | subst y)
    | with_reducible assumption
    | with_reducible apply Moves.refl
    | fail_if_no_progress ((with_reducible apply Moves.set_msys ?e ?_); case e => rfl)

theorem dramUe_moves {x0 x1 x2 x3} : Moves 2098180 x3 (dramUe x0 x1 x2 x3) := by
  unfold dramUe
  repeat' first
    | with_reducible assumption
    | with_reducible apply Moves.refl
    | ((with_reducible apply Moves.after wr64_moves ?e ?_); case e => rfl)
    | ((with_reducible apply Moves.after bump_moves ?e ?_); case e => rfl)
    | ((with_reducible apply Moves.after hallmark_moves ?e ?_); case e => rfl)
    | ((with_reducible apply Moves.after poisonBurst_moves ?e ?_); case e => rfl)

theorem clearPoison_moves {x0 x1 x2} : Moves 2097152 x2 (clearPoison x0 x1 x2) := by
  unfold clearPoison
  repeat' first
    | (extract_lets +onlyGivenNames y; first | clear_value y | subst y)
    | with_reducible assumption
    | with_reducible apply Moves.refl
    | fail_if_no_progress ((with_reducible apply Moves.set_msys ?e ?_); case e => rfl)

theorem dirtyWrite_moves {x0 x1 x2} : Moves 2097184 x2 (dirtyWrite x0 x1 x2) := by
  unfold dirtyWrite
  repeat' first
    | (extract_lets +onlyGivenNames y; first | clear_value y | subst y)
    | with_reducible assumption
    | with_reducible apply Moves.refl
    | ((with_reducible apply Moves.after memWrite_moves ?e ?_); case e => rfl)
    | fail_if_no_progress ((with_reducible apply Moves.set_msys ?e ?_); case e => rfl)

theorem allocLine_moves {x0 x1 x2} : Moves 2097152 x1 (allocLine x0 x1 x2) := by
  unfold allocLine
  repeat' first
    | (extract_lets +onlyGivenNames y; first | clear_value y | subst y)
    | with_reducible assumption
    | with_reducible apply Moves.refl
    | fail_if_no_progress ((with_reducible apply Moves.set_msys ?e ?_); case e => rfl)
    | with_reducible apply Moves.ite ?_ ?_
    | split

theorem lineWrite_moves {x0 x1 x2 x3} : Moves 2097184 x2 (lineWrite x0 x1 x2 x3) := by
  unfold lineWrite
  repeat' first
    | (extract_lets +onlyGivenNames y; first | clear_value y | subst y)
    | with_reducible assumption
    | with_reducible apply Moves.refl
    | ((with_reducible apply Moves.after memWrite_moves ?e ?_); case e => rfl)
    | ((with_reducible apply Moves.after dirtyWrite_moves ?e ?_); case e => rfl)
    | with_reducible apply Moves.ite ?_ ?_

theorem cachedAccess_moves {x0 x1} : Moves 2199025352736 x1 (cachedAccess x0 x1) := by
  unfold cachedAccess
  repeat' first
    | (extract_lets +onlyGivenNames y; first | (refine Moves.bind (x := y) ?_ fun _ => ?_; (on_goal 2 => clear_value y); subst y) | clear_value y | subst y)
    | with_reducible assumption
    | with_reducible apply Moves.refl
    | ((with_reducible apply Moves.after emit_moves ?e ?_); case e => rfl)
    | ((with_reducible apply Moves.after clearPoison_moves ?e ?_); case e => rfl)
    | ((with_reducible apply Moves.after allocLine_moves ?e ?_); case e => rfl)
    | ((with_reducible apply Moves.after lineWrite_moves ?e ?_); case e => rfl)
    | with_reducible apply Moves.ite ?_ ?_
    | with_reducible apply Moves.foldl (fun _ _ => ?_) ?_
    | with_reducible apply Moves.foldl2 (fun _ _ => ?_) ?_
    | split

theorem erringAccess_moves {x0 x1 x2} : Moves 6664751154724 x2 (erringAccess x0 x1 x2) := by
  unfold erringAccess
  repeat' first
    | (extract_lets +onlyGivenNames y; first | clear_value y | subst y)
    | with_reducible assumption
    | with_reducible apply Moves.refl
    | ((with_reducible apply Moves.after bump_moves ?e ?_); case e => rfl)
    | ((with_reducible apply Moves.after emit_moves ?e ?_); case e => rfl)
    | ((with_reducible apply Moves.after recordFault_moves ?e ?_); case e => rfl)
    | ((with_reducible apply Moves.after cleanLines_moves ?e ?_); case e => rfl)
    | ((with_reducible apply Moves.after invalLines_moves ?e ?_); case e => rfl)
    | ((with_reducible apply Moves.after autoRetire_moves ?e ?_); case e => rfl)
    | ((with_reducible apply Moves.after correctedError_moves ?e ?_); case e => rfl)
    | ((with_reducible apply Moves.after poisonBurst_moves ?e ?_); case e => rfl)
    | ((with_reducible apply Moves.after dramUe_moves ?e ?_); case e => rfl)
    | ((with_reducible apply Moves.after cachedAccess_moves ?e ?_); case e => rfl)
    | with_reducible apply Moves.ite ?_ ?_
    | split

theorem scratchAccess_moves {x0 x1} : Moves 6664751154724 x1 (scratchAccess x0 x1) := by
  unfold scratchAccess
  repeat' first
    | (extract_lets +onlyGivenNames y; first | (refine of_fun y ?_; subst y) | clear_value y | subst y)
    | with_reducible assumption
    | with_reducible apply Moves.refl
    | ((with_reducible apply Moves.after bump_moves ?e ?_); case e => rfl)
    | ((with_reducible apply Moves.after memWrite_moves ?e ?_); case e => rfl)
    | ((with_reducible apply Moves.after emit_moves ?e ?_); case e => rfl)
    | ((with_reducible apply Moves.after hallmark_moves ?e ?_); case e => rfl)
    | ((with_reducible apply Moves.after recordFault_moves ?e ?_); case e => rfl)
    | ((with_reducible apply Moves.after spWayFail_moves ?e ?_); case e => rfl)
    | ((with_reducible apply Moves.after correctedError_moves ?e ?_); case e => rfl)
    | ((with_reducible apply Moves.after poisonBurst_moves ?e ?_); case e => rfl)
    | ((with_reducible apply Moves.after clearPoison_moves ?e ?_); case e => rfl)
    | with_reducible apply Moves.ite ?_ ?_
    | split

theorem memAccess_moves {x0 x1} : Moves 6664751154724 x1 (memAccess x0 x1) := by
  unfold memAccess
  repeat' first
    | with_reducible assumption
    | with_reducible apply Moves.refl
    | ((with_reducible apply Moves.after bump_moves ?e ?_); case e => rfl)
    | ((with_reducible apply Moves.after memWrite_moves ?e ?_); case e => rfl)
    | ((with_reducible apply Moves.after emit_moves ?e ?_); case e => rfl)
    | ((with_reducible apply Moves.after erringAccess_moves ?e ?_); case e => rfl)
    | ((with_reducible apply Moves.after scratchAccess_moves ?e ?_); case e => rfl)
    | with_reducible apply Moves.ite ?_ ?_
    | split

theorem scEnd_moves {x0 x1} : Moves 4 x1 (scEnd x0 x1) := by
  unfold scEnd
  repeat' first
    | with_reducible assumption
    | with_reducible apply Moves.refl
    | ((with_reducible apply Moves.after wrF_moves ?e ?_); case e => rfl)

theorem execScRetire_moves {x0 x1} : Ends 4465727899172 x1 (execScRetire x0 x1) := by
  unfold execScRetire
  repeat' first
    | (extract_lets +onlyGivenNames y; first | clear_value y | subst y)
    | with_reducible assumption
    | with_reducible apply Moves.refl
    | ((with_reducible apply Moves.after wrF_moves ?e ?_); case e => rfl)
    | ((with_reducible apply Moves.after conflict_moves ?e ?_); case e => rfl)
    | ((with_reducible apply Moves.after refuseWorn_moves ?e ?_); case e => rfl)
    | ((with_reducible apply Moves.after scEnd_moves ?e ?_); case e => rfl)
    | fail_if_no_progress ((with_reducible apply Moves.set_msys ?e ?_); case e => rfl)
    | with_reducible apply Ends.next ?_
    | with_reducible apply Ends.ite ?_ ?_
    | with_reducible apply Moves.ite ?_ ?_

theorem execSpRemap_moves {x0 x1} : Ends 4465727899172 x1 (execSpRemap x0 x1) := by
  unfold execSpRemap
  repeat' first
    | (extract_lets +onlyGivenNames y; first | clear_value y | subst y)
    | with_reducible assumption
    | with_reducible apply Moves.refl
    | ((with_reducible apply Moves.after wrF_moves ?e ?_); case e => rfl)
    | ((with_reducible apply Moves.after conflict_moves ?e ?_); case e => rfl)
    | ((with_reducible apply Moves.after scEnd_moves ?e ?_); case e => rfl)
    | fail_if_no_progress ((with_reducible apply Moves.set_msys ?e ?_); case e => rfl)
    | with_reducible apply Ends.next ?_
    | with_reducible apply Ends.ite ?_ ?_
    | with_reducible apply Moves.ite ?_ ?_
    | split

theorem execScCommandDone_moves {x0} : Ends 2098724 x0 (execScCommandDone x0) := by
  unfold execScCommandDone
  repeat' first
    | (extract_lets +onlyGivenNames y; first | (refine Ends.bind (x := y) ?_ fun _ => ?_; (on_goal 2 => clear_value y); subst y) | (refine Moves.bind (x := y) ?_ fun _ => ?_; (on_goal 2 => clear_value y); subst y) | clear_value y | subst y)
    | with_reducible assumption
    | with_reducible apply Moves.refl
    | ((with_reducible apply Moves.after setWay_moves ?e ?_); case e => rfl)
    | ((with_reducible apply Moves.after cleanInvalWay_moves ?e ?_); case e => rfl)
    | ((with_reducible apply Moves.after finishRetire_moves ?e ?_); case e => rfl)
    | ((with_reducible apply Moves.after scEnd_moves ?e ?_); case e => rfl)
    | fail_if_no_progress ((with_reducible apply Moves.set_msys ?e ?_); case e => rfl)
    | with_reducible apply Ends.next ?_
    | with_reducible apply Ends.ite ?_ ?_
    | with_reducible apply Moves.ite ?_ ?_
    | split

theorem maintStart_moves {x0 x1 x2} : Moves 4465727899172 x2 (maintStart x0 x1 x2) := by
  unfold maintStart
  repeat' first
    | (extract_lets +onlyGivenNames y; first | clear_value y | subst y)
    | with_reducible assumption
    | with_reducible apply Moves.refl
    | ((with_reducible apply Moves.after wr_moves ?e ?_); case e => rfl)
    | ((with_reducible apply Moves.after wrF_moves ?e ?_); case e => rfl)
    | ((with_reducible apply Moves.after conflict_moves ?e ?_); case e => rfl)
    | fail_if_no_progress ((with_reducible apply Moves.set_msys ?e ?_); case e => rfl)
    | with_reducible apply Moves.ite ?_ ?_

theorem execMaintClean_moves {x0 x1} : Ends 4465727899172 x1 (execMaintClean x0 x1) := by
  unfold execMaintClean
  repeat' first
    | with_reducible assumption
    | with_reducible apply Moves.refl
    | ((with_reducible apply Moves.after maintStart_moves ?e ?_); case e => rfl)
    | with_reducible apply Ends.next ?_

theorem execMaintInval_moves {x0 x1} : Ends 4465727899172 x1 (execMaintInval x0 x1) := by
  unfold execMaintInval
  repeat' first
    | with_reducible assumption
    | with_reducible apply Moves.refl
    | ((with_reducible apply Moves.after maintStart_moves ?e ?_); case e => rfl)
    | with_reducible apply Ends.next ?_

theorem execMaintCleanInval_moves {x0 x1} : Ends 4465727899172 x1 (execMaintCleanInval x0 x1) := by
  unfold execMaintCleanInval
  repeat' first
    | with_reducible assumption
    | with_reducible apply Moves.refl
    | ((with_reducible apply Moves.after maintStart_moves ?e ?_); case e => rfl)
    | with_reducible apply Ends.next ?_

theorem execMaintCleanAll_moves {x0 x1} : Ends 4465727899172 x1 (execMaintCleanAll x0 x1) := by
  unfold execMaintCleanAll
  repeat' first
    | with_reducible assumption
    | with_reducible apply Moves.refl
    | ((with_reducible apply Moves.after maintStart_moves ?e ?_); case e => rfl)
    | with_reducible apply Ends.next ?_

theorem execMaintDone_moves {x0 x1} : Ends 2097188 x1 (execMaintDone x0 x1) := by
  unfold execMaintDone
  repeat' first
    | (extract_lets +onlyGivenNames y; first | (refine Ends.bind (x := y) ?_ fun _ => ?_; (on_goal 2 => clear_value y); subst y) | (refine Moves.bind (x := y) ?_ fun _ => ?_; (on_goal 2 => clear_value y); subst y) | clear_value y | subst y)
    | with_reducible assumption
    | with_reducible apply Moves.refl
    | ((with_reducible apply Moves.after wr_moves ?e ?_); case e => rfl)
    | ((with_reducible apply Moves.after bump_moves ?e ?_); case e => rfl)
    | ((with_reducible apply Moves.after cleanLines_moves ?e ?_); case e => rfl)
    | ((with_reducible apply Moves.after invalLines_moves ?e ?_); case e => rfl)
    | fail_if_no_progress ((with_reducible apply Moves.set_msys ?e ?_); case e => rfl)
    | with_reducible apply Ends.next ?_
    | with_reducible apply Ends.ite ?_ ?_
    | with_reducible apply Moves.ite ?_ ?_
    | split

theorem execPatrolScrub_moves {x0 x1 x2 x3} : Ends 2098180 x3 (execPatrolScrub x0 x1 x2 x3) := by
  unfold execPatrolScrub
  repeat' first
    | with_reducible assumption
    | with_reducible apply Moves.refl
    | ((with_reducible apply Moves.after bump_moves ?e ?_); case e => rfl)
    | ((with_reducible apply Moves.after dramUe_moves ?e ?_); case e => rfl)
    | with_reducible apply Ends.next ?_
    | with_reducible apply Ends.ite ?_ ?_
    | with_reducible apply Moves.ite ?_ ?_
    | with_reducible apply Moves.foldl (fun _ _ => ?_) ?_

theorem execDimmThermal_moves {x0 x1 x2} : Ends 2098692 x2 (execDimmThermal x0 x1 x2) := by
  unfold execDimmThermal
  repeat' first
    | (extract_lets +onlyGivenNames y; first | (refine Ends.bind (x := y) ?_ fun _ => ?_; (on_goal 2 => clear_value y); subst y) | clear_value y | subst y)
    | with_reducible assumption
    | with_reducible apply Moves.refl
    | ((with_reducible apply Moves.after wrF_moves ?e ?_); case e => rfl)
    | ((with_reducible apply Moves.after hallmark_moves ?e ?_); case e => rfl)
    | ((with_reducible apply Moves.after event_moves ?e ?_); case e => rfl)
    | fail_if_no_progress ((with_reducible apply Moves.set_msys ?e ?_); case e => rfl)
    | with_reducible apply Ends.next ?_
    | with_reducible apply Ends.ite ?_ ?_
    | with_reducible apply Moves.ite ?_ ?_

theorem execDimmLost_moves {x0 x1} : Ends 4465727899172 x1 (execDimmLost x0 x1) := by
  unfold execDimmLost
  repeat' first
    | (extract_lets +onlyGivenNames y; first | clear_value y | subst y)
    | with_reducible assumption
    | with_reducible apply Moves.refl
    | ((with_reducible apply Moves.after recordFault_moves ?e ?_); case e => rfl)
    | fail_if_no_progress ((with_reducible apply Moves.set_msys ?e ?_); case e => rfl)
    | with_reducible apply Ends.next ?_

theorem scRun_moves {x0} : Moves 2097188 x0 (scRun x0) := by
  unfold scRun
  extract_lets
  apply Moves.set_msys rfl
  refine Moves.set_mem rfl (fun h => Memory.wf_filter _ h.mem) ?_
  repeat' first
    | (extract_lets +onlyGivenNames y; first | (refine Moves.bind (x := y) ?_ fun _ => ?_; (on_goal 2 => clear_value y); subst y) | (refine of_fun y ?_; subst y) | clear_value y | subst y)
    | with_reducible assumption
    | with_reducible apply Moves.refl
    | ((with_reducible apply Moves.after cleanInvalWay_moves ?e ?_); case e => rfl)
    | ((with_reducible apply Moves.after setWay_moves ?e ?_); case e => rfl)
    | fail_if_no_progress ((with_reducible apply Moves.set_msys ?e ?_); case e => rfl)
    | with_reducible apply Moves.ite ?_ ?_
    | with_reducible apply Moves.foldl (fun _ _ => ?_) ?_
    | split

theorem scPowerDown_moves {x0} : Moves 2097188 x0 (scPowerDown x0) := by
  unfold scPowerDown
  repeat' first
    | (extract_lets +onlyGivenNames y; first | clear_value y | subst y)
    | with_reducible assumption
    | with_reducible apply Moves.refl
    | ((with_reducible apply Moves.after setWay_moves ?e ?_); case e => rfl)
    | ((with_reducible apply Moves.after cleanInvalWay_moves ?e ?_); case e => rfl)
    | with_reducible apply Moves.ite ?_ ?_
    | with_reducible apply Moves.foldl (fun _ _ => ?_) ?_

theorem scPowerUp_moves {x0} : Moves 4 x0 (scPowerUp x0) := by
  unfold scPowerUp
  repeat' first
    | with_reducible assumption
    | with_reducible apply Moves.refl
    | ((with_reducible apply Moves.after setWay_moves ?e ?_); case e => rfl)
    | with_reducible apply Moves.ite ?_ ?_
    | with_reducible apply Moves.foldl (fun _ _ => ?_) ?_

/-! Sys2Proof/Machine/CheckUnits.lean. -/

theorem cvuPut_moves {x0 x1 x2} : Moves 4194304 x2 (cvuPut x0 x1 x2) := by
  unfold cvuPut
  repeat' first
    | with_reducible assumption
    | with_reducible apply Moves.refl
    | fail_if_no_progress ((with_reducible apply Moves.set_cvu ?e ?_); case e => rfl)

theorem aliveFault_moves {x0 x1 x2 x3 x4} : Moves 1540 x4 (aliveFault x0 x1 x2 x3 x4) := by
  unfold aliveFault
  repeat' first
    | (extract_lets +onlyGivenNames y; first | clear_value y | subst y)
    | with_reducible assumption
    | with_reducible apply Moves.refl
    | ((with_reducible apply Moves.after hallmark_moves ?e ?_); case e => rfl)
    | ((with_reducible apply Moves.after event_moves ?e ?_); case e => rfl)

theorem followAlive_moves {x0 x1 x2} : Moves 1540 x2 (followAlive x0 x1 x2) := by
  unfold followAlive
  repeat' first
    | (extract_lets +onlyGivenNames y; first | (refine Moves.bind (x := y) ?_ fun _ => ?_; (on_goal 2 => clear_value y); subst y) | clear_value y | subst y)
    | with_reducible assumption
    | with_reducible apply Moves.refl
    | ((with_reducible apply Moves.after wr_moves ?e ?_); case e => rfl)
    | ((with_reducible apply Moves.after wrF_moves ?e ?_); case e => rfl)
    | ((with_reducible apply Moves.after bump_moves ?e ?_); case e => rfl)
    | ((with_reducible apply Moves.after aliveFault_moves ?e ?_); case e => rfl)
    | with_reducible apply Moves.ite ?_ ?_

theorem checkMessage_moves {x0 x1 x2 x3} : Moves 1540 x3 (checkMessage x0 x1 x2 x3) := by
  unfold checkMessage
  repeat' first
    | (extract_lets +onlyGivenNames y; first | (refine of_fun y ?_; subst y) | clear_value y | subst y)
    | with_reducible assumption
    | with_reducible apply Moves.refl
    | ((with_reducible apply Moves.after bump_moves ?e ?_); case e => rfl)
    | ((with_reducible apply Moves.after hallmark_moves ?e ?_); case e => rfl)
    | ((with_reducible apply Moves.after event_moves ?e ?_); case e => rfl)
    | with_reducible apply Moves.ite ?_ ?_

theorem coverMessage_moves {x0 x1 x2} : Moves 4195844 x2 (coverMessage x0 x1 x2) := by
  unfold coverMessage
  repeat' first
    | (extract_lets +onlyGivenNames y; first | (refine Moves.bind (x := y) ?_ fun _ => ?_; (on_goal 2 => clear_value y); subst y) | clear_value y | subst y)
    | with_reducible assumption
    | with_reducible apply Moves.refl
    | ((with_reducible apply Moves.after wr_moves ?e ?_); case e => rfl)
    | ((with_reducible apply Moves.after wr64_moves ?e ?_); case e => rfl)
    | ((with_reducible apply Moves.after bump64_moves ?e ?_); case e => rfl)
    | ((with_reducible apply Moves.after cvuPut_moves ?e ?_); case e => rfl)
    | ((with_reducible apply Moves.after checkMessage_moves ?e ?_); case e => rfl)
    | with_reducible apply Moves.ite ?_ ?_

theorem execCvuMessage_moves {x0 x1 x2} : Ends 4195844 x2 (execCvuMessage x0 x1 x2) := by
  unfold execCvuMessage
  repeat' first
    | with_reducible assumption
    | with_reducible apply Moves.refl
    | ((with_reducible apply Moves.after bump_moves ?e ?_); case e => rfl)
    | ((with_reducible apply Moves.after followAlive_moves ?e ?_); case e => rfl)
    | ((with_reducible apply Moves.after coverMessage_moves ?e ?_); case e => rfl)
    | with_reducible apply Ends.next ?_
    | with_reducible apply Ends.ite ?_ ?_
    | with_reducible apply Moves.ite ?_ ?_

theorem cvuCfgWrite_moves {x0 x1 x2} : Moves 4465729996324 x2 (cvuCfgWrite x0 x1 x2) := by
  unfold cvuCfgWrite
  repeat' first
    | (extract_lets +onlyGivenNames y; first | (refine Moves.bind (x := y) ?_ fun _ => ?_; (on_goal 2 => clear_value y); subst y) | clear_value y | subst y)
    | with_reducible assumption
    | with_reducible apply Moves.refl
    | ((with_reducible apply Moves.after wr_moves ?e ?_); case e => rfl)
    | ((with_reducible apply Moves.after wrF_moves ?e ?_); case e => rfl)
    | ((with_reducible apply Moves.after wr64_moves ?e ?_); case e => rfl)
    | ((with_reducible apply Moves.after recordFault_moves ?e ?_); case e => rfl)
    | ((with_reducible apply Moves.after conflict_moves ?e ?_); case e => rfl)
    | ((with_reducible apply Moves.after blockWrite_moves ?e ?_); case e => rfl)
    | ((with_reducible apply Moves.after cvuPut_moves ?e ?_); case e => rfl)
    | with_reducible apply Moves.ite ?_ ?_

theorem cvuTapWrite_moves {x0 x1 x2} : Moves 4465725802020 x2 (cvuTapWrite x0 x1 x2) := by
  unfold cvuTapWrite
  repeat' first
    | with_reducible assumption
    | with_reducible apply Moves.refl
    | ((with_reducible apply Moves.after gatedWrite_moves ?e ?_); case e => rfl)

theorem execCvuArm_moves {x0 x1 x2} : Ends 4465729996324 x2 (execCvuArm x0 x1 x2) := by
  unfold execCvuArm
  repeat' first
    | with_reducible assumption
    | with_reducible apply Moves.refl
    | ((with_reducible apply Moves.after cvuCfgWrite_moves ?e ?_); case e => rfl)
    | with_reducible apply Ends.next ?_

theorem execCvuDisarm_moves {x0 x1 x2} : Ends 4465729996324 x2 (execCvuDisarm x0 x1 x2) := by
  unfold execCvuDisarm
  repeat' first
    | with_reducible assumption
    | with_reducible apply Moves.refl
    | ((with_reducible apply Moves.after cvuCfgWrite_moves ?e ?_); case e => rfl)
    | with_reducible apply Ends.next ?_

theorem execCvuResSeqRead_moves {x0 x1 x2} : Ends 2199027449856 x2 (execCvuResSeqRead x0 x1 x2) := by
  unfold execCvuResSeqRead
  repeat' first
    | (extract_lets +onlyGivenNames y; first | clear_value y | subst y)
    | with_reducible assumption
    | with_reducible apply Moves.refl
    | ((with_reducible apply Moves.after emit_moves ?e ?_); case e => rfl)
    | ((with_reducible apply Moves.after cvuPut_moves ?e ?_); case e => rfl)
    | with_reducible apply Ends.next ?_

theorem cvuFarReset_moves {x0 x1} : Moves 4 x1 (cvuFarReset x0 x1) := by
  unfold cvuFarReset
  repeat' first
    | with_reducible assumption
    | with_reducible apply Moves.refl
    | ((with_reducible apply Moves.after wrF_moves ?e ?_); case e => rfl)
    | with_reducible apply Moves.ite ?_ ?_
    | with_reducible apply Moves.foldl (fun _ _ => ?_) ?_
    | with_reducible apply Moves.foldl2 (fun _ _ => ?_) ?_
    | split

/-! Sys2Proof/Machine/EventQueues.lean. -/

theorem advanceProd_moves {x0 x1} : Moves 516 x1 (advanceProd x0 x1) := by
  unfold advanceProd
  repeat' first
    | (extract_lets +onlyGivenNames y; first | (refine Moves.bind (x := y) ?_ fun _ => ?_; (on_goal 2 => clear_value y); subst y) | clear_value y | subst y)
    | with_reducible assumption
    | with_reducible apply Moves.refl
    | ((with_reducible apply Moves.after wrF_moves ?e ?_); case e => rfl)
    | fail_if_no_progress ((with_reducible apply Moves.set_eqc ?e ?_); case e => rfl)
    | with_reducible apply Moves.ite ?_ ?_

theorem ringWrite_moves {x0 x1} : Moves 1572 x1 (ringWrite x0 x1) := by
  unfold ringWrite
  repeat' first
    | (extract_lets +onlyGivenNames y; first | clear_value y | subst y)
    | with_reducible assumption
    | with_reducible apply Moves.refl
    | ((with_reducible apply Moves.after memWrite_moves ?e ?_); case e => rfl)
    | ((with_reducible apply Moves.after srcPut_moves ?e ?_); case e => rfl)
    | ((with_reducible apply Moves.after noteFull_moves ?e ?_); case e => rfl)
    | ((with_reducible apply Moves.after advanceProd_moves ?e ?_); case e => rfl)
    | with_reducible apply Moves.ite ?_ ?_
    | split

theorem evqDone_moves {x0 x1} : Moves 1540 x1 (evqDone x0 x1) := by
  unfold evqDone
  repeat' first
    | (extract_lets +onlyGivenNames y; first | clear_value y | subst y)
    | with_reducible assumption
    | with_reducible apply Moves.refl
    | ((with_reducible apply Moves.after bump_moves ?e ?_); case e => rfl)
    | ((with_reducible apply Moves.after srcPut_moves ?e ?_); case e => rfl)
    | ((with_reducible apply Moves.after srcForm_moves ?e ?_); case e => rfl)
    | with_reducible apply Moves.ite ?_ ?_

theorem maskSet_moves {x0 x1} : Moves 516 x1 (maskSet x0 x1) := by
  unfold maskSet
  repeat' first
    | (extract_lets +onlyGivenNames y; first | clear_value y | subst y)
    | with_reducible assumption
    | with_reducible apply Moves.refl
    | ((with_reducible apply Moves.after bump_moves ?e ?_); case e => rfl)
    | ((with_reducible apply Moves.after srcPut_moves ?e ?_); case e => rfl)
    | with_reducible apply Moves.ite ?_ ?_

theorem maskClear_moves {x0 x1} : Moves 1540 x1 (maskClear x0 x1) := by
  unfold maskClear
  repeat' first
    | (extract_lets +onlyGivenNames y; first | clear_value y | subst y)
    | with_reducible assumption
    | with_reducible apply Moves.refl
    | ((with_reducible apply Moves.after srcPut_moves ?e ?_); case e => rfl)
    | ((with_reducible apply Moves.after srcForm_moves ?e ?_); case e => rfl)
    | with_reducible apply Moves.ite ?_ ?_
    | split

theorem srcCfgWrite_moves {x0 x1} : Moves 4465725802020 x1 (srcCfgWrite x0 x1) := by
  unfold srcCfgWrite
  repeat' first
    | (extract_lets +onlyGivenNames y; first | (refine Moves.bind (x := y) ?_ fun _ => ?_; (on_goal 2 => clear_value y); subst y) | clear_value y | subst y)
    | with_reducible assumption
    | with_reducible apply Moves.refl
    | ((with_reducible apply Moves.after srcPut_moves ?e ?_); case e => rfl)
    | ((with_reducible apply Moves.after commandWrite_moves ?e ?_); case e => rfl)
    | ((with_reducible apply Moves.after maskSet_moves ?e ?_); case e => rfl)
    | ((with_reducible apply Moves.after maskClear_moves ?e ?_); case e => rfl)
    | with_reducible apply Moves.ite ?_ ?_

theorem privMaskOne_moves {x0 x1 x2 x3 x4} : Moves 1540 x3 (privMaskOne x0 x1 x2 x3 x4) := by
  unfold privMaskOne
  repeat' first
    | with_reducible assumption
    | with_reducible apply Moves.refl
    | ((with_reducible apply Moves.after maskSet_moves ?e ?_); case e => rfl)
    | ((with_reducible apply Moves.after maskClear_moves ?e ?_); case e => rfl)
    | with_reducible apply Moves.ite ?_ ?_

theorem privMaskWrite_moves {x0 x1 x2} : Moves 1540 x2 (privMaskWrite x0 x1 x2) := by
  unfold privMaskWrite
  repeat' first
    | (extract_lets +onlyGivenNames y; first | clear_value y | subst y)
    | with_reducible assumption
    | with_reducible apply Moves.refl
    | ((with_reducible apply Moves.after wr_moves ?e ?_); case e => rfl)
    | ((with_reducible apply Moves.after privMaskOne_moves ?e ?_); case e => rfl)
    | with_reducible apply Moves.foldl (fun _ _ => ?_) ?_

theorem ringCfgWrite_moves {x0 x1 x2} : Moves 4465725802020 x2 (ringCfgWrite x0 x1 x2) := by
  unfold ringCfgWrite
  repeat' first
    | (extract_lets +onlyGivenNames y; first | (refine Moves.bind (x := y) ?_ fun _ => ?_; (on_goal 2 => clear_value y); subst y) | clear_value y | subst y)
    | with_reducible assumption
    | with_reducible apply Moves.refl
    | ((with_reducible apply Moves.after wrF_moves ?e ?_); case e => rfl)
    | ((with_reducible apply Moves.after conflict_moves ?e ?_); case e => rfl)
    | ((with_reducible apply Moves.after blockWrite_moves ?e ?_); case e => rfl)
    | fail_if_no_progress ((with_reducible apply Moves.set_eqc ?e ?_); case e => rfl)
    | with_reducible apply Moves.ite ?_ ?_

theorem execEventRingWrite_moves {x0 x1} : Ends 1572 x1 (execEventRingWrite x0 x1) := by
  unfold execEventRingWrite
  repeat' first
    | with_reducible assumption
    | with_reducible apply Moves.refl
    | ((with_reducible apply Moves.after ringWrite_moves ?e ?_); case e => rfl)
    | with_reducible apply Ends.next ?_

theorem execSignal_moves {x0 x1 x2} : Ends 4465725802020 x2 (execSignal x0 x1 x2) := by
  unfold execSignal
  repeat' first
    | (extract_lets +onlyGivenNames y; first | (refine Ends.bind (x := y) ?_ fun _ => ?_; (on_goal 2 => clear_value y); subst y) | (refine Moves.bind (x := y) ?_ fun _ => ?_; (on_goal 2 => clear_value y); subst y) | clear_value y | subst y)
    | with_reducible assumption
    | with_reducible apply Moves.refl
    | ((with_reducible apply Moves.after bump_moves ?e ?_); case e => rfl)
    | ((with_reducible apply Moves.after occur_moves ?e ?_); case e => rfl)
    | ((with_reducible apply Moves.after conflict_moves ?e ?_); case e => rfl)
    | ((with_reducible apply Moves.after commandWrite_moves ?e ?_); case e => rfl)
    | with_reducible apply Ends.next ?_
    | with_reducible apply Ends.ite ?_ ?_
    | with_reducible apply Moves.ite ?_ ?_

theorem execEvqDone_moves {x0 x1} : Ends 4465725802020 x1 (execEvqDone x0 x1) := by
  unfold execEvqDone
  repeat' first
    | (extract_lets +onlyGivenNames y; first | (refine Ends.bind (x := y) ?_ fun _ => ?_; (on_goal 2 => clear_value y); subst y) | (refine Moves.bind (x := y) ?_ fun _ => ?_; (on_goal 2 => clear_value y); subst y) | clear_value y | subst y)
    | with_reducible assumption
    | with_reducible apply Moves.refl
    | ((with_reducible apply Moves.after bump_moves ?e ?_); case e => rfl)
    | ((with_reducible apply Moves.after commandWrite_moves ?e ?_); case e => rfl)
    | ((with_reducible apply Moves.after evqDone_moves ?e ?_); case e => rfl)
    | with_reducible apply Ends.next ?_
    | split

theorem execSrcMaskWrite_moves {x0 x1 x2} : Ends 4465725802020 x2 (execSrcMaskWrite x0 x1 x2) := by
  unfold execSrcMaskWrite
  repeat' first
    | with_reducible assumption
    | with_reducible apply Moves.refl
    | ((with_reducible apply Moves.after srcCfgWrite_moves ?e ?_); case e => rfl)
    | ((with_reducible apply Moves.after privMaskWrite_moves ?e ?_); case e => rfl)
    | with_reducible apply Ends.next ?_
    | split

theorem execRingConsWrite_moves {x0 x1 x2} : Ends 4 x2 (execRingConsWrite x0 x1 x2) := by
  unfold execRingConsWrite
  repeat' first
    | with_reducible assumption
    | with_reducible apply Moves.refl
    | ((with_reducible apply Moves.after wrF_moves ?e ?_); case e => rfl)
    | with_reducible apply Ends.next ?_

theorem execEventRingEnable_moves {x0 x1 x2} : Ends 4465725802020 x2 (execEventRingEnable x0 x1 x2) := by
  unfold execEventRingEnable
  repeat' first
    | with_reducible assumption
    | with_reducible apply Moves.refl
    | ((with_reducible apply Moves.after ringCfgWrite_moves ?e ?_); case e => rfl)
    | with_reducible apply Ends.next ?_

theorem eqcClear_moves {x0} : Moves 512 x0 (eqcClear x0) := by
  unfold eqcClear
  repeat' first
    | (extract_lets +onlyGivenNames y; first | clear_value y | subst y)
    | with_reducible assumption
    | with_reducible apply Moves.refl
    | fail_if_no_progress ((with_reducible apply Moves.set_eqc ?e ?_); case e => rfl)

theorem eqcDiscard_moves {x0} : Moves 516 x0 (eqcDiscard x0) := by
  unfold eqcDiscard
  repeat' first
    | (extract_lets +onlyGivenNames y; first | clear_value y | subst y)
    | with_reducible assumption
    | with_reducible apply Moves.refl
    | ((with_reducible apply Moves.after bump_moves ?e ?_); case e => rfl)
    | fail_if_no_progress ((with_reducible apply Moves.set_eqc ?e ?_); case e => rfl)

/-! Sys2Proof/Machine/HallmarkLog.lean. -/

theorem setNextSeq_moves {x0 x1} : Moves 4 x1 (setNextSeq x0 x1) := by
  unfold setNextSeq
  repeat' first
    | with_reducible assumption
    | with_reducible apply Moves.refl
    | ((with_reducible apply Moves.after wr64_moves ?e ?_); case e => rfl)

theorem reportDrops_moves {x0} : Moves 1028 x0 (reportDrops x0) := by
  unfold reportDrops
  repeat' first
    | (extract_lets +onlyGivenNames y; first | clear_value y | subst y)
    | with_reducible assumption
    | with_reducible apply Moves.refl
    | ((with_reducible apply Moves.after hallmark_moves ?e ?_); case e => rfl)
    | fail_if_no_progress ((with_reducible apply Moves.set_hlm ?e ?_); case e => rfl)
    | with_reducible apply Moves.ite ?_ ?_

theorem execHallmarkWrite_moves {x0} : Ends 1092 x0 (execHallmarkWrite x0) := by
  unfold execHallmarkWrite
  repeat' first
    | (extract_lets +onlyGivenNames y; first | (refine Moves.bind (x := y) ?_ fun _ => ?_; (on_goal 2 => clear_value y); subst y) | clear_value y | subst y)
    | with_reducible assumption
    | with_reducible apply Moves.refl
    | ((with_reducible apply Moves.after qstWrite_moves ?e ?_); case e => rfl)
    | ((with_reducible apply Moves.after setNextSeq_moves ?e ?_); case e => rfl)
    | ((with_reducible apply Moves.after reportDrops_moves ?e ?_); case e => rfl)
    | fail_if_no_progress ((with_reducible apply Moves.set_hlm ?e ?_); case e => rfl)
    | with_reducible apply Ends.next ?_
    | with_reducible apply Ends.ite ?_ ?_
    | with_reducible apply Moves.ite ?_ ?_
    | split

theorem execRateWindowTick_moves {x0} : Ends 1024 x0 (execRateWindowTick x0) := by
  unfold execRateWindowTick
  repeat' first
    | (extract_lets +onlyGivenNames y; first | clear_value y | subst y)
    | with_reducible assumption
    | with_reducible apply Moves.refl
    | fail_if_no_progress ((with_reducible apply Moves.set_hlm ?e ?_); case e => rfl)
    | with_reducible apply Ends.next ?_

theorem execHlmScan_moves {x0} : Ends 1028 x0 (execHlmScan x0) := by
  unfold execHlmScan
  repeat' first
    | (extract_lets +onlyGivenNames y; first | (refine Ends.bind (x := y) ?_ fun _ => ?_; (on_goal 2 => clear_value y); subst y) | clear_value y | subst y)
    | with_reducible assumption
    | with_reducible apply Moves.refl
    | ((with_reducible apply Moves.after wr64_moves ?e ?_); case e => rfl)
    | ((with_reducible apply Moves.after bump_moves ?e ?_); case e => rfl)
    | ((with_reducible apply Moves.after hallmark_moves ?e ?_); case e => rfl)
    | fail_if_no_progress ((with_reducible apply Moves.set_hlm ?e ?_); case e => rfl)
    | with_reducible apply Ends.next ?_
    | with_reducible apply Ends.ite ?_ ?_

theorem execExportCmd_moves {x0 x1} : Ends 4465725802020 x1 (execExportCmd x0 x1) := by
  unfold execExportCmd
  repeat' first
    | (extract_lets +onlyGivenNames y; first | clear_value y | subst y)
    | with_reducible assumption
    | with_reducible apply Moves.refl
    | ((with_reducible apply Moves.after wrF_moves ?e ?_); case e => rfl)
    | ((with_reducible apply Moves.after memWrite_moves ?e ?_); case e => rfl)
    | ((with_reducible apply Moves.after conflict_moves ?e ?_); case e => rfl)
    | ((with_reducible apply Moves.after commandWrite_moves ?e ?_); case e => rfl)
    | with_reducible apply Ends.next ?_
    | with_reducible apply Ends.ite ?_ ?_

theorem execExportDone_moves {x0} : Ends 4 x0 (execExportDone x0) := by
  unfold execExportDone
  repeat' first
    | with_reducible assumption
    | with_reducible apply Moves.refl
    | ((with_reducible apply Moves.after wrF_moves ?e ?_); case e => rfl)
    | with_reducible apply Ends.next ?_

theorem execFwPost_moves {x0 x1} : Ends 4465725802020 x1 (execFwPost x0 x1) := by
  unfold execFwPost
  repeat' first
    | (extract_lets +onlyGivenNames y; first | (refine Ends.bind (x := y) ?_ fun _ => ?_; (on_goal 2 => clear_value y); subst y) | (refine Moves.bind (x := y) ?_ fun _ => ?_; (on_goal 2 => clear_value y); subst y) | clear_value y | subst y)
    | with_reducible assumption
    | with_reducible apply Moves.refl
    | ((with_reducible apply Moves.after hallmark_moves ?e ?_); case e => rfl)
    | ((with_reducible apply Moves.after conflict_moves ?e ?_); case e => rfl)
    | ((with_reducible apply Moves.after commandWrite_moves ?e ?_); case e => rfl)
    | with_reducible apply Ends.next ?_
    | with_reducible apply Ends.ite ?_ ?_
    | with_reducible apply Moves.ite ?_ ?_

theorem hlmDropBuffer_moves {x0} : Moves 1028 x0 (hlmDropBuffer x0) := by
  unfold hlmDropBuffer
  repeat' first
    | (extract_lets +onlyGivenNames y; first | clear_value y | subst y)
    | with_reducible assumption
    | with_reducible apply Moves.refl
    | ((with_reducible apply Moves.after bump_moves ?e ?_); case e => rfl)
    | ((with_reducible apply Moves.after reportDrops_moves ?e ?_); case e => rfl)
    | fail_if_no_progress ((with_reducible apply Moves.set_hlm ?e ?_); case e => rfl)
    | with_reducible apply Moves.ite ?_ ?_

theorem tmkJudge_moves {x0} : Moves 4 x0 (tmkJudge x0) := by
  unfold tmkJudge
  repeat' first
    | (extract_lets +onlyGivenNames y; first | (refine Moves.bind (x := y) ?_ fun _ => ?_; (on_goal 2 => clear_value y); subst y) | clear_value y | subst y)
    | with_reducible assumption
    | with_reducible apply Moves.refl
    | ((with_reducible apply Moves.after wr_moves ?e ?_); case e => rfl)
    | ((with_reducible apply Moves.after wrF_moves ?e ?_); case e => rfl)
    | ((with_reducible apply Moves.after wr64_moves ?e ?_); case e => rfl)
    | split

theorem tmkReady_moves {x0} : Moves 1028 x0 (tmkReady x0) := by
  unfold tmkReady
  repeat' first
    | (extract_lets +onlyGivenNames y; first | (refine of_fun y ?_; subst y) | clear_value y | subst y)
    | with_reducible assumption
    | with_reducible apply Moves.refl
    | ((with_reducible apply Moves.after hallmark_moves ?e ?_); case e => rfl)
    | ((with_reducible apply Moves.after tmkJudge_moves ?e ?_); case e => rfl)
    | with_reducible apply Moves.ite ?_ ?_

theorem tmkEnd_moves {x0 x1} : Moves 4 x1 (tmkEnd x0 x1) := by
  unfold tmkEnd
  repeat' first
    | with_reducible assumption
    | with_reducible apply Moves.refl
    | ((with_reducible apply Moves.after wrF_moves ?e ?_); case e => rfl)
    | ((with_reducible apply Moves.after tmkJudge_moves ?e ?_); case e => rfl)

theorem tmkGuard_moves {m : Nat} {x0 x1 x2} (e : 4465725802020 &&& m = 4465725802020) (kx2 : ∀ a0, Moves m a0 (x2 a0)) : Moves m x1 (tmkGuard x0 x1 x2) := by
  unfold tmkGuard
  repeat' first
    | (extract_lets +onlyGivenNames y; first | (refine Moves.bind (x := y) ?_ fun _ => ?_; (on_goal 2 => clear_value y); subst y) | clear_value y | subst y)
    | with_reducible assumption
    | with_reducible apply Moves.refl
    | with_reducible apply Moves.trans ?_ (kx2 _)
    | ((with_reducible apply Moves.after conflict_moves ?e ?_); case e => exact sub_trans rfl e)
    | ((with_reducible apply Moves.after commandWrite_moves ?e ?_); case e => exact sub_trans rfl e)
    | ((with_reducible apply Moves.after tmkEnd_moves ?e ?_); case e => exact sub_trans rfl e)
    | with_reducible apply Moves.ite ?_ ?_

theorem execTmkLoad_moves {x0 x1} : Ends 4465725802020 x1 (execTmkLoad x0 x1) := by
  unfold execTmkLoad
  repeat' first
    | with_reducible assumption
    | with_reducible apply Moves.refl
    | ((with_reducible apply Moves.after memWrite_moves ?e ?_); case e => rfl)
    | ((with_reducible apply Moves.after tmkEnd_moves ?e ?_); case e => rfl)
    | ((with_reducible apply Moves.trans ?_ (tmkGuard_moves ?e (fun _ => ?_))); case e => rfl)
    | with_reducible apply Ends.next ?_
    | split

theorem tmkStore_moves {x0 x1 x2} : Moves 64 x2 (tmkStore x0 x1 x2) := by
  unfold tmkStore
  exact Moves.after qstWrite_moves rfl (Moves.set_qst rfl (fun h => Memory.wf_filter _ h.qst) (Moves.refl _ _))

theorem execTmkCommit_moves {x0 x1} : Ends 4465725804132 x1 (execTmkCommit x0 x1) := by
  unfold execTmkCommit
  repeat' first
    | (extract_lets +onlyGivenNames y; first | (refine Moves.bind (x := y) ?_ fun _ => ?_; (on_goal 2 => clear_value y); subst y) | clear_value y | subst y)
    | with_reducible assumption
    | with_reducible apply Moves.refl
    | ((with_reducible apply Moves.after wrF_moves ?e ?_); case e => rfl)
    | ((with_reducible apply Moves.after tmkEnd_moves ?e ?_); case e => rfl)
    | ((with_reducible apply Moves.trans ?_ (tmkGuard_moves ?e (fun _ => ?_))); case e => rfl)
    | ((with_reducible apply Moves.after tmkStore_moves ?e ?_); case e => rfl)
    | fail_if_no_progress ((with_reducible apply Moves.set_tmk ?e ?_); case e => rfl)
    | with_reducible apply Ends.next ?_
    | with_reducible apply Ends.ite ?_ ?_
    | with_reducible apply Moves.ite ?_ ?_

theorem tmkSeal_moves {x0 x1} : Moves 64 x1 (tmkSeal x0 x1) := by
  unfold tmkSeal
  repeat' first
    | (extract_lets +onlyGivenNames y; first | (refine Moves.bind (x := y) ?_ fun _ => ?_; (on_goal 2 => clear_value y); subst y) | clear_value y | subst y)
    | with_reducible assumption
    | with_reducible apply Moves.refl
    | ((with_reducible apply Moves.after qstWrite_moves ?e ?_); case e => rfl)

theorem execTmkCommitDone_moves {x0 x1} : Ends 3140 x1 (execTmkCommitDone x0 x1) := by
  unfold execTmkCommitDone
  repeat' first
    | (extract_lets +onlyGivenNames y; first | (refine Moves.bind (x := y) ?_ fun _ => ?_; (on_goal 2 => clear_value y); subst y) | clear_value y | subst y)
    | with_reducible assumption
    | with_reducible apply Moves.refl
    | ((with_reducible apply Moves.after wrF_moves ?e ?_); case e => rfl)
    | ((with_reducible apply Moves.after bump64_moves ?e ?_); case e => rfl)
    | ((with_reducible apply Moves.after qstWrite_moves ?e ?_); case e => rfl)
    | ((with_reducible apply Moves.after hallmark_moves ?e ?_); case e => rfl)
    | ((with_reducible apply Moves.after tmkEnd_moves ?e ?_); case e => rfl)
    | ((with_reducible apply Moves.after tmkSeal_moves ?e ?_); case e => rfl)
    | fail_if_no_progress ((with_reducible apply Moves.set_tmk ?e ?_); case e => rfl)
    | with_reducible apply Ends.next ?_
    | with_reducible apply Ends.ite ?_ ?_
    | with_reducible apply Moves.ite ?_ ?_
    | with_reducible apply Moves.foldl (fun _ _ => ?_) ?_
    | with_reducible apply Moves.foldl2 (fun _ _ => ?_) ?_
    | split

theorem execTmkConfirm_moves {x0 x1} : Ends 4465725802020 x1 (execTmkConfirm x0 x1) := by
  unfold execTmkConfirm
  repeat' first
    | (extract_lets +onlyGivenNames y; first | clear_value y | subst y)
    | with_reducible assumption
    | with_reducible apply Moves.refl
    | ((with_reducible apply Moves.after wrF_moves ?e ?_); case e => rfl)
    | ((with_reducible apply Moves.after hallmark_moves ?e ?_); case e => rfl)
    | ((with_reducible apply Moves.after tmkEnd_moves ?e ?_); case e => rfl)
    | ((with_reducible apply Moves.trans ?_ (tmkGuard_moves ?e (fun _ => ?_))); case e => rfl)
    | with_reducible apply Ends.next ?_
    | with_reducible apply Ends.ite ?_ ?_
    | with_reducible apply Moves.ite ?_ ?_

theorem tmkRevert_moves {x0} : Moves 1092 x0 (tmkRevert x0) := by
  unfold tmkRevert
  repeat' first
    | (extract_lets +onlyGivenNames y; first | (refine Moves.bind (x := y) ?_ fun _ => ?_; (on_goal 2 => clear_value y); subst y) | clear_value y | subst y)
    | with_reducible assumption
    | with_reducible apply Moves.refl
    | ((with_reducible apply Moves.after wrF_moves ?e ?_); case e => rfl)
    | ((with_reducible apply Moves.after qstWrite_moves ?e ?_); case e => rfl)
    | ((with_reducible apply Moves.after hallmark_moves ?e ?_); case e => rfl)
    | ((with_reducible apply Moves.after tmkEnd_moves ?e ?_); case e => rfl)
    | split

theorem execTmkRevert_moves {x0 x1} : Ends 4465725802084 x1 (execTmkRevert x0 x1) := by
  unfold execTmkRevert
  repeat' first
    | with_reducible assumption
    | with_reducible apply Moves.refl
    | ((with_reducible apply Moves.after tmkEnd_moves ?e ?_); case e => rfl)
    | ((with_reducible apply Moves.trans ?_ (tmkGuard_moves ?e (fun _ => ?_))); case e => rfl)
    | ((with_reducible apply Moves.after tmkRevert_moves ?e ?_); case e => rfl)
    | with_reducible apply Ends.next ?_
    | with_reducible apply Ends.ite ?_ ?_
    | with_reducible apply Moves.ite ?_ ?_

/-! Sys2Proof/Machine/Queues.lean. -/

theorem queuePut_moves {x0 x1 x2} : Moves 256 x2 (queuePut x0 x1 x2) := by
  unfold queuePut
  repeat' first
    | with_reducible assumption
    | with_reducible apply Moves.refl
    | fail_if_no_progress ((with_reducible apply Moves.set_queues ?e ?_); case e => rfl)

theorem flushQueue_moves {x0 x1 x2} : Moves 260 x2 (flushQueue x0 x1 x2) := by
  unfold flushQueue
  repeat' first
    | (extract_lets +onlyGivenNames y; first | (refine Moves.bind (x := y) ?_ fun _ => ?_; (on_goal 2 => clear_value y); subst y) | clear_value y | subst y)
    | with_reducible assumption
    | with_reducible apply Moves.refl
    | ((with_reducible apply Moves.after wrF_moves ?e ?_); case e => rfl)
    | ((with_reducible apply Moves.after bump_moves ?e ?_); case e => rfl)
    | ((with_reducible apply Moves.after queuePut_moves ?e ?_); case e => rfl)
    | with_reducible apply Moves.ite ?_ ?_

theorem settleFlushes_moves {x0} : Moves 260 x0 (settleFlushes x0) := by
  unfold settleFlushes
  repeat' first
    | with_reducible assumption
    | with_reducible apply Moves.refl
    | ((with_reducible apply Moves.after flushQueue_moves ?e ?_); case e => rfl)
    | with_reducible apply Moves.ite ?_ ?_
    | with_reducible apply Moves.foldl (fun _ _ => ?_) ?_
    | with_reducible apply Moves.foldl2 (fun _ _ => ?_) ?_
    | split

theorem farReset_moves {x0 x1 x2 x3} : Moves 260 x3 (farReset x0 x1 x2 x3) := by
  unfold farReset
  repeat' first
    | (extract_lets +onlyGivenNames y; first | (refine Moves.bind (x := y) ?_ fun _ => ?_; (on_goal 2 => clear_value y); subst y) | clear_value y | subst y)
    | with_reducible assumption
    | with_reducible apply Moves.refl
    | ((with_reducible apply Moves.after wrF_moves ?e ?_); case e => rfl)
    | ((with_reducible apply Moves.after cvuFarReset_moves ?e ?_); case e => rfl)
    | ((with_reducible apply Moves.after queuePut_moves ?e ?_); case e => rfl)
    | ((with_reducible apply Moves.after flushQueue_moves ?e ?_); case e => rfl)
    | with_reducible apply Moves.ite ?_ ?_

theorem queueReset_moves {x0 x1 x2} : Moves 260 x1 (queueReset x0 x1 x2) := by
  unfold queueReset
  repeat' first
    | (extract_lets +onlyGivenNames y; first | (refine Moves.bind (x := y) ?_ fun _ => ?_; (on_goal 2 => clear_value y); subst y) | clear_value y | subst y)
    | with_reducible assumption
    | with_reducible apply Moves.refl
    | ((with_reducible apply Moves.after queuePut_moves ?e ?_); case e => rfl)
    | ((with_reducible apply Moves.after flushQueue_moves ?e ?_); case e => rfl)
    | ((with_reducible apply Moves.after farReset_moves ?e ?_); case e => rfl)
    | with_reducible apply Moves.ite ?_ ?_

theorem queuesReset_moves {x0 x1} : Moves 260 x1 (queuesReset x0 x1) := by
  unfold queuesReset
  repeat' first
    | with_reducible assumption
    | with_reducible apply Moves.refl
    | ((with_reducible apply Moves.after queueReset_moves ?e ?_); case e => rfl)
    | with_reducible apply Moves.foldl (fun _ _ => ?_) ?_

/-! Sys2Proof/Machine/Reset.lean. -/

theorem loadOwnerLock_moves {x0} : Moves 1028 x0 (loadOwnerLock x0) := by
  unfold loadOwnerLock
  repeat' first
    | with_reducible assumption
    | with_reducible apply Moves.refl
    | ((with_reducible apply Moves.after wr_moves ?e ?_); case e => rfl)
    | ((with_reducible apply Moves.after hallmark_moves ?e ?_); case e => rfl)
    | with_reducible apply Moves.ite ?_ ?_

theorem chipReset_moves {x0 x1} : Moves 4947802283838 x1 (chipReset x0 x1) := by
  unfold chipReset
  apply Moves.after loadOwnerLock_moves rfl
  refine ⟨fun p hp => ?_, fun h => ⟨Memory.wf_nil _, h.qst, h.nor, ?_⟩, Fuses.burnsTo_refl _⟩
  · cases p <;> first | rfl | exact absurd hp (by decide)
  · change Tab.wf (keptRegs x1) = true
    unfold keptRegs
    extract_lets
    split
    · exact Tab.wf_filter _ h.regs
    · exact Tab.wf_put _ _ (Tab.wf_filter _ h.regs)

theorem powerOnReset_moves {x0} : Moves 4947802316606 x0 (powerOnReset x0) := by
  unfold powerOnReset
  apply Moves.after chipReset_moves rfl
  refine ⟨fun p hp => ?_, fun h => ⟨h.mem, h.qst, h.nor, rfl⟩, Fuses.burnsTo_refl _⟩
  cases p <;> first | rfl | exact absurd hp (by decide)

theorem flushHallmarks_moves {x0 x1} : Moves 1092 x1 (flushHallmarks x0 x1) := by
  induction' x0 with n ih generalizing x1
  all_goals unfold flushHallmarks
  all_goals repeat' first
    | with_reducible assumption
    | with_reducible apply Moves.refl
    | ((with_reducible apply Moves.after (Moves.of_end ?p execHallmarkWrite_moves) ?e ?_); (case p => assumption); case e => rfl)
    | with_reducible apply Moves.ite ?_ ?_
    | with_reducible apply Moves.trans ?_ ih
    | split

end Sys2Proof.Machine
end

