-- ==== Sys2Proof/Laws/MovesEngines.lean ====
section
/-! SUPPORT. What each definition may change. Assay, Crucible, Tinning and what the engines share. -/

namespace Sys2Proof.Machine

/-! Sys2Proof/Machine/Assay.lean. -/

theorem ctxPut_moves {x0 x1 x2} : Moves 4294967300 x2 (ctxPut x0 x1 x2) := by
  unfold ctxPut
  repeat' first
    | (extract_lets +onlyGivenNames y; first | clear_value y | subst y)
    | with_reducible assumption
    | with_reducible apply Moves.refl
    | ((with_reducible apply Moves.after wr64_moves ?e ?_); case e => rfl)
    | fail_if_no_progress ((with_reducible apply Moves.set_asy ?e ?_); case e => rfl)
    | split

theorem openPut_moves {x0 x1 x2} : Moves 4294967296 x2 (openPut x0 x1 x2) := by
  unfold openPut
  repeat' first
    | (extract_lets +onlyGivenNames y; first | clear_value y | subst y)
    | with_reducible assumption
    | with_reducible apply Moves.refl
    | fail_if_no_progress ((with_reducible apply Moves.set_asy ?e ?_); case e => rfl)

theorem openDrop_moves {x0 x1} : Moves 4294967296 x1 (openDrop x0 x1) := by
  unfold openDrop
  repeat' first
    | (extract_lets +onlyGivenNames y; first | clear_value y | subst y)
    | with_reducible assumption
    | with_reducible apply Moves.refl
    | fail_if_no_progress ((with_reducible apply Moves.set_asy ?e ?_); case e => rfl)

theorem putResult_moves {x0 x1 x2 x3 x4 x5} : Moves 4 x5 (putResult x0 x1 x2 x3 x4 x5) := by
  unfold putResult
  repeat' first
    | (extract_lets +onlyGivenNames y; first | (refine Moves.bind (x := y) ?_ fun _ => ?_; (on_goal 2 => clear_value y); subst y) | clear_value y | subst y)
    | with_reducible assumption
    | with_reducible apply Moves.refl
    | ((with_reducible apply Moves.after wr_moves ?e ?_); case e => rfl)
    | with_reducible apply Moves.foldl (fun _ _ => ?_) ?_

theorem abandonOpen_moves {x0 x1 x2} : Moves 4294967300 x2 (abandonOpen x0 x1 x2) := by
  unfold abandonOpen
  repeat' first
    | (extract_lets +onlyGivenNames y; first | (refine Moves.bind (x := y) ?_ fun _ => ?_; (on_goal 2 => clear_value y); subst y) | clear_value y | subst y)
    | with_reducible assumption
    | with_reducible apply Moves.refl
    | ((with_reducible apply Moves.after bump_moves ?e ?_); case e => rfl)
    | ((with_reducible apply Moves.after ctxPut_moves ?e ?_); case e => rfl)
    | ((with_reducible apply Moves.after openDrop_moves ?e ?_); case e => rfl)
    | with_reducible apply Moves.ite ?_ ?_
    | split

theorem endDsc_moves {x0 x1 x2 x3} : Moves 2147483648 x3 (endDsc x0 x1 x2 x3) := by
  unfold endDsc
  repeat' first
    | with_reducible assumption
    | with_reducible apply Moves.refl
    | ((with_reducible apply Moves.after finishDsc_moves ?e ?_); case e => rfl)

theorem laneDown_moves {x0 x1 x2} : Moves 1028 x2 (laneDown x0 x1 x2) := by
  unfold laneDown
  repeat' first
    | with_reducible assumption
    | with_reducible apply Moves.refl
    | ((with_reducible apply Moves.after wrF_moves ?e ?_); case e => rfl)
    | ((with_reducible apply Moves.after hallmark_moves ?e ?_); case e => rfl)

theorem laneFail_moves {x0 x1 x2 x3 x4 x5 x6 x7 x8} : Moves 4404488963108 x8 (laneFail x0 x1 x2 x3 x4 x5 x6 x7 x8) := by
  unfold laneFail
  repeat' first
    | with_reducible assumption
    | with_reducible apply Moves.refl
    | ((with_reducible apply Moves.after undefOut_moves ?e ?_); case e => rfl)
    | ((with_reducible apply Moves.after abandonOpen_moves ?e ?_); case e => rfl)
    | ((with_reducible apply Moves.after endDsc_moves ?e ?_); case e => rfl)
    | ((with_reducible apply Moves.after laneDown_moves ?e ?_); case e => rfl)

theorem compareEnd_moves {x0 x1 x2 x3 x4 x5 x6 x7} : Moves 4404488963108 x7 (compareEnd x0 x1 x2 x3 x4 x5 x6 x7) := by
  unfold compareEnd
  repeat' first
    | (extract_lets +onlyGivenNames y; first | (refine Moves.bind (x := y) ?_ fun _ => ?_; (on_goal 2 => clear_value y); subst y) | clear_value y | subst y)
    | with_reducible assumption
    | with_reducible apply Moves.refl
    | ((with_reducible apply Moves.after bump_moves ?e ?_); case e => rfl)
    | ((with_reducible apply Moves.after hallmark_moves ?e ?_); case e => rfl)
    | ((with_reducible apply Moves.after openDrop_moves ?e ?_); case e => rfl)
    | ((with_reducible apply Moves.after putResult_moves ?e ?_); case e => rfl)
    | ((with_reducible apply Moves.after endDsc_moves ?e ?_); case e => rfl)
    | ((with_reducible apply Moves.after laneFail_moves ?e ?_); case e => rfl)
    | with_reducible apply Moves.ite ?_ ?_

theorem digestEnd_moves {x0 x1 x2 x3 x4 x5 x6} : Moves 4404488963108 x6 (digestEnd x0 x1 x2 x3 x4 x5 x6) := by
  unfold digestEnd
  repeat' first
    | (extract_lets +onlyGivenNames y; first | (refine Moves.bind (x := y) ?_ fun _ => ?_; (on_goal 2 => clear_value y); subst y) | clear_value y | subst y)
    | with_reducible assumption
    | with_reducible apply Moves.refl
    | ((with_reducible apply Moves.after memWrite_moves ?e ?_); case e => rfl)
    | ((with_reducible apply Moves.after busFault_moves ?e ?_); case e => rfl)
    | ((with_reducible apply Moves.after undefOut_moves ?e ?_); case e => rfl)
    | ((with_reducible apply Moves.after openDrop_moves ?e ?_); case e => rfl)
    | ((with_reducible apply Moves.after putResult_moves ?e ?_); case e => rfl)
    | ((with_reducible apply Moves.after endDsc_moves ?e ?_); case e => rfl)
    | with_reducible apply Moves.ite ?_ ?_

theorem asyEnd_moves {x0 x1 x2 x3 x4 x5 x6} : Moves 4404488963108 x6 (asyEnd x0 x1 x2 x3 x4 x5 x6) := by
  unfold asyEnd
  repeat' first
    | (extract_lets +onlyGivenNames y; first | (refine Moves.bind (x := y) ?_ fun _ => ?_; (on_goal 2 => clear_value y); subst y) | clear_value y | subst y)
    | with_reducible assumption
    | with_reducible apply Moves.refl
    | ((with_reducible apply Moves.after bump_moves ?e ?_); case e => rfl)
    | ((with_reducible apply Moves.after busFault_moves ?e ?_); case e => rfl)
    | ((with_reducible apply Moves.after ctxPut_moves ?e ?_); case e => rfl)
    | ((with_reducible apply Moves.after openPut_moves ?e ?_); case e => rfl)
    | ((with_reducible apply Moves.after openDrop_moves ?e ?_); case e => rfl)
    | ((with_reducible apply Moves.after putResult_moves ?e ?_); case e => rfl)
    | ((with_reducible apply Moves.after endDsc_moves ?e ?_); case e => rfl)
    | ((with_reducible apply Moves.after compareEnd_moves ?e ?_); case e => rfl)
    | ((with_reducible apply Moves.after digestEnd_moves ?e ?_); case e => rfl)
    | with_reducible apply Moves.ite ?_ ?_

theorem asyAbsorb_moves {x0 x1 x2 x3 x4 x5 x6 x7 x8} : Moves 4404488963108 x8 (asyAbsorb x0 x1 x2 x3 x4 x5 x6 x7 x8) := by
  unfold asyAbsorb
  repeat' first
    | (extract_lets +onlyGivenNames y; first | clear_value y | subst y)
    | with_reducible assumption
    | with_reducible apply Moves.refl
    | ((with_reducible apply Moves.after busFault_moves ?e ?_); case e => rfl)
    | ((with_reducible apply Moves.after undefOut_moves ?e ?_); case e => rfl)
    | ((with_reducible apply Moves.after openPut_moves ?e ?_); case e => rfl)
    | ((with_reducible apply Moves.after openDrop_moves ?e ?_); case e => rfl)
    | ((with_reducible apply Moves.after endDsc_moves ?e ?_); case e => rfl)
    | ((with_reducible apply Moves.after asyEnd_moves ?e ?_); case e => rfl)
    | with_reducible apply Moves.ite ?_ ?_

theorem clearFlags_moves {x0 x1 x2} : Moves 4 x2 (clearFlags x0 x1 x2) := by
  unfold clearFlags
  repeat' first
    | with_reducible assumption
    | with_reducible apply Moves.refl
    | ((with_reducible apply Moves.after wr_moves ?e ?_); case e => rfl)
    | with_reducible apply Moves.ite ?_ ?_

theorem reload_moves {x0 x1} : Moves 4294967300 x1 (reload x0 x1) := by
  unfold reload
  repeat' first
    | with_reducible assumption
    | with_reducible apply Moves.refl
    | ((with_reducible apply Moves.after ctxPut_moves ?e ?_); case e => rfl)
    | with_reducible apply Moves.ite ?_ ?_
    | split

theorem asyBegin_moves {x0 x1 x2 x3 x4 x5 x6} : Moves 4404488963108 x6 (asyBegin x0 x1 x2 x3 x4 x5 x6) := by
  unfold asyBegin
  repeat' first
    | (extract_lets +onlyGivenNames y; first | (refine Moves.bind (x := y) ?_ fun _ => ?_; (on_goal 2 => clear_value y); subst y) | (refine of_fun y ?_; subst y) | clear_value y | subst y)
    | with_reducible assumption
    | with_reducible apply Moves.refl
    | ((with_reducible apply Moves.after bump_moves ?e ?_); case e => rfl)
    | ((with_reducible apply Moves.after engTick_moves ?e ?_); case e => rfl)
    | ((with_reducible apply Moves.after undefOut_moves ?e ?_); case e => rfl)
    | ((with_reducible apply Moves.after ctxPut_moves ?e ?_); case e => rfl)
    | ((with_reducible apply Moves.after openPut_moves ?e ?_); case e => rfl)
    | ((with_reducible apply Moves.after abandonOpen_moves ?e ?_); case e => rfl)
    | ((with_reducible apply Moves.after endDsc_moves ?e ?_); case e => rfl)
    | ((with_reducible apply Moves.after asyAbsorb_moves ?e ?_); case e => rfl)
    | ((with_reducible apply Moves.after clearFlags_moves ?e ?_); case e => rfl)
    | ((with_reducible apply Moves.after reload_moves ?e ?_); case e => rfl)
    | with_reducible apply Moves.ite ?_ ?_

theorem asyBadInput_moves {x0 x1 x2 x3 x4 x5} : Moves 6442450948 x5 (asyBadInput x0 x1 x2 x3 x4 x5) := by
  unfold asyBadInput
  repeat' first
    | (extract_lets +onlyGivenNames y; first | (refine Moves.bind (x := y) ?_ fun _ => ?_; (on_goal 2 => clear_value y); subst y) | clear_value y | subst y)
    | with_reducible assumption
    | with_reducible apply Moves.refl
    | ((with_reducible apply Moves.after abandonOpen_moves ?e ?_); case e => rfl)
    | ((with_reducible apply Moves.after endDsc_moves ?e ?_); case e => rfl)
    | with_reducible apply Moves.ite ?_ ?_

theorem startOut_moves {x0 x1 x2 x3 x4} : Moves 4400193994756 x4 (startOut x0 x1 x2 x3 x4) := by
  unfold startOut
  repeat' first
    | (extract_lets +onlyGivenNames y; first | clear_value y | subst y)
    | with_reducible assumption
    | with_reducible apply Moves.refl
    | ((with_reducible apply Moves.after draw_moves ?e ?_); case e => rfl)
    | ((with_reducible apply Moves.after (Moves.of_pair ?p draw_moves) ?e ?_); (case p => assumption); case e => rfl)
    | ((with_reducible apply Moves.after rgPut_moves ?e ?_); case e => rfl)
    | ((with_reducible apply Moves.after advanceSq_moves ?e ?_); case e => rfl)

theorem asyRun_moves {x0 x1 x2 x3 x4 x5 x6} : Moves 4404488963108 x6 (asyRun x0 x1 x2 x3 x4 x5 x6) := by
  unfold asyRun
  repeat' first
    | (extract_lets +onlyGivenNames y; first | (refine Moves.bind (x := y) ?_ fun _ => ?_; (on_goal 2 => clear_value y); subst y) | clear_value y | subst y)
    | with_reducible assumption
    | with_reducible apply Moves.refl
    | ((with_reducible apply Moves.after engTick_moves ?e ?_); case e => rfl)
    | ((with_reducible apply Moves.after leaveQueue_moves ?e ?_); case e => rfl)
    | ((with_reducible apply Moves.after advanceSq_moves ?e ?_); case e => rfl)
    | ((with_reducible apply Moves.after openPut_moves ?e ?_); case e => rfl)
    | ((with_reducible apply Moves.after laneFail_moves ?e ?_); case e => rfl)
    | ((with_reducible apply Moves.after asyAbsorb_moves ?e ?_); case e => rfl)
    | ((with_reducible apply Moves.after reload_moves ?e ?_); case e => rfl)
    | ((with_reducible apply Moves.after asyBegin_moves ?e ?_); case e => rfl)
    | ((with_reducible apply Moves.after asyBadInput_moves ?e ?_); case e => rfl)
    | ((with_reducible apply Moves.after startOut_moves ?e ?_); case e => rfl)
    | with_reducible apply Moves.ite ?_ ?_
    | with_reducible apply Moves.getD ?_ ?_
    | split

theorem execAsyHash_moves {x0 x1 x2 x3 x4} : Ends 4404488963108 x4 (execAsyHash x0 x1 x2 x3 x4) := by
  unfold execAsyHash
  repeat' first
    | with_reducible assumption
    | with_reducible apply Moves.refl
    | ((with_reducible apply Moves.after asyRun_moves ?e ?_); case e => rfl)
    | with_reducible apply Ends.next ?_

theorem execAsyHmac_moves {x0 x1 x2 x3 x4} : Ends 4404488963108 x4 (execAsyHmac x0 x1 x2 x3 x4) := by
  unfold execAsyHmac
  repeat' first
    | with_reducible assumption
    | with_reducible apply Moves.refl
    | ((with_reducible apply Moves.after asyRun_moves ?e ?_); case e => rfl)
    | with_reducible apply Ends.next ?_

theorem execAsyHashCmp_moves {x0 x1 x2 x3 x4 x5} : Ends 4404488963108 x5 (execAsyHashCmp x0 x1 x2 x3 x4 x5) := by
  unfold execAsyHashCmp
  repeat' first
    | with_reducible assumption
    | with_reducible apply Moves.refl
    | ((with_reducible apply Moves.after asyRun_moves ?e ?_); case e => rfl)
    | with_reducible apply Ends.next ?_

theorem execAsyHmacCmp_moves {x0 x1 x2 x3 x4 x5} : Ends 4404488963108 x5 (execAsyHmacCmp x0 x1 x2 x3 x4 x5) := by
  unfold execAsyHmacCmp
  repeat' first
    | with_reducible assumption
    | with_reducible apply Moves.refl
    | ((with_reducible apply Moves.after asyRun_moves ?e ?_); case e => rfl)
    | with_reducible apply Ends.next ?_

theorem asyCtxRun_moves {m : Nat} {x0 x1 x2 x3 x4 x5} (e : 4404488963108 &&& m = 4404488963108) (kx4 : ∀ a0 a1 a2 a3, Moves m a3 (x4 a0 a1 a2 a3)) : Moves m x5 (asyCtxRun x0 x1 x2 x3 x4 x5) := by
  unfold asyCtxRun
  repeat' first
    | (extract_lets +onlyGivenNames y; first | (refine Moves.bind (x := y) ?_ fun _ => ?_; (on_goal 2 => clear_value y); subst y) | clear_value y | subst y)
    | with_reducible assumption
    | with_reducible apply Moves.refl
    | with_reducible apply Moves.trans ?_ (kx4 _ _ _ _)
    | ((with_reducible apply Moves.after undefOut_moves ?e ?_); case e => exact sub_trans rfl e)
    | ((with_reducible apply Moves.after advanceSq_moves ?e ?_); case e => exact sub_trans rfl e)
    | ((with_reducible apply Moves.after laneFail_moves ?e ?_); case e => exact sub_trans rfl e)
    | ((with_reducible apply Moves.after asyBadInput_moves ?e ?_); case e => exact sub_trans rfl e)
    | ((with_reducible apply Moves.after startOut_moves ?e ?_); case e => exact sub_trans rfl e)
    | with_reducible apply Moves.ite ?_ ?_
    | split

theorem ctxExport_moves {x0 x1 x2 x3 x4} : Moves 4400193995812 x4 (ctxExport x0 x1 x2 x3 x4) := by
  unfold ctxExport
  repeat' first
    | (extract_lets +onlyGivenNames y; first | clear_value y | subst y)
    | with_reducible assumption
    | with_reducible apply Moves.refl
    | ((with_reducible apply Moves.after memWrite_moves ?e ?_); case e => rfl)
    | ((with_reducible apply Moves.after busFault_moves ?e ?_); case e => rfl)
    | ((with_reducible apply Moves.after undefOut_moves ?e ?_); case e => rfl)
    | ((with_reducible apply Moves.after endDsc_moves ?e ?_); case e => rfl)
    | with_reducible apply Moves.ite ?_ ?_

theorem ctxImport_moves {x0 x1 x2 x3 x4} : Moves 4404488963076 x4 (ctxImport x0 x1 x2 x3 x4) := by
  unfold ctxImport
  repeat' first
    | (extract_lets +onlyGivenNames y; first | clear_value y | subst y)
    | with_reducible assumption
    | with_reducible apply Moves.refl
    | ((with_reducible apply Moves.after bump_moves ?e ?_); case e => rfl)
    | ((with_reducible apply Moves.after hallmark_moves ?e ?_); case e => rfl)
    | ((with_reducible apply Moves.after busFault_moves ?e ?_); case e => rfl)
    | ((with_reducible apply Moves.after ctxPut_moves ?e ?_); case e => rfl)
    | ((with_reducible apply Moves.after endDsc_moves ?e ?_); case e => rfl)
    | with_reducible apply Moves.ite ?_ ?_
    | split

theorem execAsyCtxExport_moves {x0 x1 x2 x3} : Ends 4404488963108 x3 (execAsyCtxExport x0 x1 x2 x3) := by
  unfold execAsyCtxExport
  repeat' first
    | with_reducible assumption
    | with_reducible apply Moves.refl
    | ((with_reducible apply Moves.trans ?_ (asyCtxRun_moves ?e (fun _ _ _ _ => ?_))); case e => rfl)
    | ((with_reducible apply Moves.after ctxExport_moves ?e ?_); case e => rfl)
    | with_reducible apply Ends.next ?_

theorem execAsyCtxImport_moves {x0 x1 x2 x3} : Ends 4404488963108 x3 (execAsyCtxImport x0 x1 x2 x3) := by
  unfold execAsyCtxImport
  repeat' first
    | with_reducible assumption
    | with_reducible apply Moves.refl
    | ((with_reducible apply Moves.trans ?_ (asyCtxRun_moves ?e (fun _ _ _ _ => ?_))); case e => rfl)
    | ((with_reducible apply Moves.after ctxImport_moves ?e ?_); case e => rfl)
    | with_reducible apply Ends.next ?_

theorem execAsyCtxClear_moves {x0 x1 x2 x3} : Ends 4404488963108 x3 (execAsyCtxClear x0 x1 x2 x3) := by
  unfold execAsyCtxClear
  repeat' first
    | with_reducible assumption
    | with_reducible apply Moves.refl
    | ((with_reducible apply Moves.after ctxPut_moves ?e ?_); case e => rfl)
    | ((with_reducible apply Moves.after endDsc_moves ?e ?_); case e => rfl)
    | ((with_reducible apply Moves.trans ?_ (asyCtxRun_moves ?e (fun _ _ _ _ => ?_))); case e => rfl)
    | with_reducible apply Ends.next ?_

theorem execAsyPreemptSave_moves {x0 x1} : Ends 6442450948 x1 (execAsyPreemptSave x0 x1) := by
  unfold execAsyPreemptSave
  repeat' first
    | (extract_lets +onlyGivenNames y; first | (refine Moves.bind (x := y) ?_ fun _ => ?_; (on_goal 2 => clear_value y); subst y) | clear_value y | subst y)
    | with_reducible assumption
    | with_reducible apply Moves.refl
    | ((with_reducible apply Moves.after bump_moves ?e ?_); case e => rfl)
    | ((with_reducible apply Moves.after joinQueue_moves ?e ?_); case e => rfl)
    | ((with_reducible apply Moves.after joinFront_moves ?e ?_); case e => rfl)
    | ((with_reducible apply Moves.after finishDsc_moves ?e ?_); case e => rfl)
    | ((with_reducible apply Moves.after ctxPut_moves ?e ?_); case e => rfl)
    | ((with_reducible apply Moves.after openPut_moves ?e ?_); case e => rfl)
    | with_reducible apply Ends.next ?_
    | with_reducible apply Ends.ite ?_ ?_
    | with_reducible apply Moves.ite ?_ ?_
    | split

theorem execGlaneRestore_moves {x0 x1 x2} : Ends 6664749057572 x2 (execGlaneRestore x0 x1 x2) := by
  unfold execGlaneRestore
  repeat' first
    | (extract_lets +onlyGivenNames y; first | (refine Moves.bind (x := y) ?_ fun _ => ?_; (on_goal 2 => clear_value y); subst y) | clear_value y | subst y)
    | with_reducible assumption
    | with_reducible apply Moves.refl
    | ((with_reducible apply Moves.after wrF_moves ?e ?_); case e => rfl)
    | ((with_reducible apply Moves.trans ?_ (atRegister_moves ?e (fun _ => ?_))); case e => rfl)
    | ((with_reducible apply Moves.after commandWrite_moves ?e ?_); case e => rfl)
    | with_reducible apply Ends.next ?_

theorem execResSeqRead_moves {x0 x1 x2} : Ends 6664749057572 x2 (execResSeqRead x0 x1 x2) := by
  unfold execResSeqRead
  repeat' first
    | (extract_lets +onlyGivenNames y; first | clear_value y | subst y)
    | with_reducible assumption
    | with_reducible apply Moves.refl
    | ((with_reducible apply Moves.after emit_moves ?e ?_); case e => rfl)
    | ((with_reducible apply Moves.trans ?_ (atRegister_moves ?e (fun _ => ?_))); case e => rfl)
    | fail_if_no_progress ((with_reducible apply Moves.set_asy ?e ?_); case e => rfl)
    | with_reducible apply Ends.next ?_

theorem execRingDisable_moves {x0 x1 x2 x3} : Ends 6664749057572 x3 (execRingDisable x0 x1 x2 x3) := by
  unfold execRingDisable
  repeat' first
    | (extract_lets +onlyGivenNames y; first | (refine Moves.bind (x := y) ?_ fun _ => ?_; (on_goal 2 => clear_value y); subst y) | clear_value y | subst y)
    | with_reducible assumption
    | with_reducible apply Moves.refl
    | ((with_reducible apply Moves.after rgPut_moves ?e ?_); case e => rfl)
    | ((with_reducible apply Moves.after settleOff_moves ?e ?_); case e => rfl)
    | ((with_reducible apply Moves.after conflict_moves ?e ?_); case e => rfl)
    | ((with_reducible apply Moves.trans ?_ (atRegister_moves ?e (fun _ => ?_))); case e => rfl)
    | ((with_reducible apply Moves.after blockWrite_moves ?e ?_); case e => rfl)
    | with_reducible apply Ends.next ?_
    | with_reducible apply Ends.ite ?_ ?_
    | with_reducible apply Moves.ite ?_ ?_

/-! Sys2Proof/Machine/Crucible.lean. -/

theorem cctxMark_moves {x0 x1 x2} : Moves 4 x2 (cctxMark x0 x1 x2) := by
  unfold cctxMark
  repeat' first
    | (extract_lets +onlyGivenNames y; first | clear_value y | subst y)
    | with_reducible assumption
    | with_reducible apply Moves.refl
    | ((with_reducible apply Moves.after wr64_moves ?e ?_); case e => rfl)

theorem histWrite_moves {x0 x1 x2 x3} : Moves 32 x3 (histWrite x0 x1 x2 x3) := by
  unfold histWrite
  repeat' first
    | (extract_lets +onlyGivenNames y; first | clear_value y | subst y)
    | with_reducible assumption
    | with_reducible apply Moves.refl
    | ((with_reducible apply Moves.after memWrite_moves ?e ?_); case e => rfl)
    | with_reducible apply Moves.foldl (fun _ _ => ?_) ?_

theorem saveStream_moves {x0 x1 x2 x3} : Moves 36 x3 (saveStream x0 x1 x2 x3) := by
  unfold saveStream
  repeat' first
    | (extract_lets +onlyGivenNames y; first | (refine Moves.bind (x := y) ?_ fun _ => ?_; (on_goal 2 => clear_value y); subst y) | clear_value y | subst y)
    | with_reducible assumption
    | with_reducible apply Moves.refl
    | ((with_reducible apply Moves.after bump_moves ?e ?_); case e => rfl)
    | ((with_reducible apply Moves.after memWrite_moves ?e ?_); case e => rfl)
    | ((with_reducible apply Moves.after cctxMark_moves ?e ?_); case e => rfl)
    | ((with_reducible apply Moves.after histWrite_moves ?e ?_); case e => rfl)
    | with_reducible apply Moves.ite ?_ ?_

theorem overLimit_moves {x0 x1 x2 x3 x4 x5} : Moves 2147484676 x5 (overLimit x0 x1 x2 x3 x4 x5) := by
  unfold overLimit
  repeat' first
    | (extract_lets +onlyGivenNames y; first | (refine Moves.bind (x := y) ?_ fun _ => ?_; (on_goal 2 => clear_value y); subst y) | clear_value y | subst y)
    | with_reducible assumption
    | with_reducible apply Moves.refl
    | ((with_reducible apply Moves.after bump_moves ?e ?_); case e => rfl)
    | ((with_reducible apply Moves.after hallmark_moves ?e ?_); case e => rfl)
    | ((with_reducible apply Moves.after finishDsc_moves ?e ?_); case e => rfl)
    | ((with_reducible apply Moves.after cctxMark_moves ?e ?_); case e => rfl)
    | with_reducible apply Moves.ite ?_ ?_

theorem partialEnd_moves {x0 x1 x2 x3 x4 x5 x6} : Moves 2147483684 x6 (partialEnd x0 x1 x2 x3 x4 x5 x6) := by
  unfold partialEnd
  repeat' first
    | (extract_lets +onlyGivenNames y; first | (refine Moves.bind (x := y) ?_ fun _ => ?_; (on_goal 2 => clear_value y); subst y) | clear_value y | subst y)
    | with_reducible assumption
    | with_reducible apply Moves.refl
    | ((with_reducible apply Moves.after bump_moves ?e ?_); case e => rfl)
    | ((with_reducible apply Moves.after finishDsc_moves ?e ?_); case e => rfl)
    | ((with_reducible apply Moves.after saveStream_moves ?e ?_); case e => rfl)
    | with_reducible apply Moves.ite ?_ ?_

theorem okEnd_moves {x0 x1 x2 x3 x4 x5 x6} : Moves 2147483684 x6 (okEnd x0 x1 x2 x3 x4 x5 x6) := by
  unfold okEnd
  repeat' first
    | (extract_lets +onlyGivenNames y; first | (refine Moves.bind (x := y) ?_ fun _ => ?_; (on_goal 2 => clear_value y); subst y) | clear_value y | subst y)
    | with_reducible assumption
    | with_reducible apply Moves.refl
    | ((with_reducible apply Moves.after finishDsc_moves ?e ?_); case e => rfl)
    | ((with_reducible apply Moves.after saveStream_moves ?e ?_); case e => rfl)
    | with_reducible apply Moves.ite ?_ ?_

theorem cruEnd_moves {x0 x1 x2 x3 x4 x5 x6 x7 x8} : Moves 2147484708 x8 (cruEnd x0 x1 x2 x3 x4 x5 x6 x7 x8) := by
  unfold cruEnd
  repeat' first
    | (extract_lets +onlyGivenNames y; first | (refine Moves.bind (x := y) ?_ fun _ => ?_; (on_goal 2 => clear_value y); subst y) | clear_value y | subst y)
    | with_reducible assumption
    | with_reducible apply Moves.refl
    | ((with_reducible apply Moves.after bump_moves ?e ?_); case e => rfl)
    | ((with_reducible apply Moves.after spansWrite_moves ?e ?_); case e => rfl)
    | ((with_reducible apply Moves.after finishDsc_moves ?e ?_); case e => rfl)
    | ((with_reducible apply Moves.after overLimit_moves ?e ?_); case e => rfl)
    | ((with_reducible apply Moves.after partialEnd_moves ?e ?_); case e => rfl)
    | ((with_reducible apply Moves.after okEnd_moves ?e ?_); case e => rfl)
    | with_reducible apply Moves.ite ?_ ?_
    | split

theorem gunitFail_moves {x0 x1 x2 x3 x4 x5} : Moves 4400193995812 x5 (gunitFail x0 x1 x2 x3 x4 x5) := by
  unfold gunitFail
  repeat' first
    | (extract_lets +onlyGivenNames y; first | (refine Moves.bind (x := y) ?_ fun _ => ?_; (on_goal 2 => clear_value y); subst y) | clear_value y | subst y)
    | with_reducible assumption
    | with_reducible apply Moves.refl
    | ((with_reducible apply Moves.after wrF_moves ?e ?_); case e => rfl)
    | ((with_reducible apply Moves.after bump_moves ?e ?_); case e => rfl)
    | ((with_reducible apply Moves.after hallmark_moves ?e ?_); case e => rfl)
    | ((with_reducible apply Moves.after undefOut_moves ?e ?_); case e => rfl)
    | ((with_reducible apply Moves.after finishDsc_moves ?e ?_); case e => rfl)

theorem cruWork_moves {x0 x1 x2 x3 x4 x5 x6} : Moves 4400193995812 x6 (cruWork x0 x1 x2 x3 x4 x5 x6) := by
  unfold cruWork
  repeat' first
    | (extract_lets +onlyGivenNames y; first | (refine Moves.bind (x := y) ?_ fun _ => ?_; (on_goal 2 => clear_value y); subst y) | clear_value y | subst y)
    | with_reducible assumption
    | with_reducible apply Moves.refl
    | ((with_reducible apply Moves.after bump_moves ?e ?_); case e => rfl)
    | ((with_reducible apply Moves.after busFault_moves ?e ?_); case e => rfl)
    | ((with_reducible apply Moves.after spansWrite_moves ?e ?_); case e => rfl)
    | ((with_reducible apply Moves.after undefOut_moves ?e ?_); case e => rfl)
    | ((with_reducible apply Moves.after finishDsc_moves ?e ?_); case e => rfl)
    | ((with_reducible apply Moves.after cctxMark_moves ?e ?_); case e => rfl)
    | ((with_reducible apply Moves.after okEnd_moves ?e ?_); case e => rfl)
    | ((with_reducible apply Moves.after cruEnd_moves ?e ?_); case e => rfl)
    | ((with_reducible apply Moves.after gunitFail_moves ?e ?_); case e => rfl)
    | with_reducible apply Moves.ite ?_ ?_

theorem cruRun_moves {m : Nat} {x0 x1 x2 x3 x4} (e : 4400193995812 &&& m = 4400193995812) (kx3 : ∀ a0 a1 a2, Moves m a2 (x3 a0 a1 a2)) : Moves m x4 (cruRun x0 x1 x2 x3 x4) := by
  unfold cruRun
  repeat' first
    | (extract_lets +onlyGivenNames y; first | (refine Moves.bind (x := y) ?_ fun _ => ?_; (on_goal 2 => clear_value y); subst y) | clear_value y | subst y)
    | with_reducible assumption
    | with_reducible apply Moves.refl
    | with_reducible apply Moves.trans ?_ (kx3 _ _ _)
    | ((with_reducible apply Moves.after busFault_moves ?e ?_); case e => exact sub_trans rfl e)
    | ((with_reducible apply Moves.after undefOut_moves ?e ?_); case e => exact sub_trans rfl e)
    | ((with_reducible apply Moves.after advanceSq_moves ?e ?_); case e => exact sub_trans rfl e)
    | ((with_reducible apply Moves.after finishDsc_moves ?e ?_); case e => exact sub_trans rfl e)
    | ((with_reducible apply Moves.after startOut_moves ?e ?_); case e => exact sub_trans rfl e)
    | ((with_reducible apply Moves.after cctxMark_moves ?e ?_); case e => exact sub_trans rfl e)
    | with_reducible apply Moves.ite ?_ ?_

theorem execCruCompress_moves {x0 x1 x2 x3 x4} : Ends 4400193995812 x4 (execCruCompress x0 x1 x2 x3 x4) := by
  unfold execCruCompress
  repeat' first
    | with_reducible assumption
    | with_reducible apply Moves.refl
    | ((with_reducible apply Moves.after cruWork_moves ?e ?_); case e => rfl)
    | ((with_reducible apply Moves.trans ?_ (cruRun_moves ?e (fun _ _ _ => ?_))); case e => rfl)
    | with_reducible apply Ends.next ?_

theorem execCruDecompress_moves {x0 x1 x2} : Ends 4400193995812 x2 (execCruDecompress x0 x1 x2) := by
  unfold execCruDecompress
  repeat' first
    | with_reducible assumption
    | with_reducible apply Moves.refl
    | ((with_reducible apply Moves.after cruWork_moves ?e ?_); case e => rfl)
    | ((with_reducible apply Moves.trans ?_ (cruRun_moves ?e (fun _ _ _ => ?_))); case e => rfl)
    | with_reducible apply Ends.next ?_

theorem execCruCtxClear_moves {x0 x1 x2} : Ends 4400193995812 x2 (execCruCtxClear x0 x1 x2) := by
  unfold execCruCtxClear
  repeat' first
    | (extract_lets +onlyGivenNames y; first | clear_value y | subst y)
    | with_reducible assumption
    | with_reducible apply Moves.refl
    | ((with_reducible apply Moves.after memWrite_moves ?e ?_); case e => rfl)
    | ((with_reducible apply Moves.after finishDsc_moves ?e ?_); case e => rfl)
    | ((with_reducible apply Moves.after cctxMark_moves ?e ?_); case e => rfl)
    | ((with_reducible apply Moves.trans ?_ (cruRun_moves ?e (fun _ _ _ => ?_))); case e => rfl)
    | with_reducible apply Ends.next ?_

theorem execGunitRestore_moves {x0 x1 x2} : Ends 6664749057572 x2 (execGunitRestore x0 x1 x2) := by
  unfold execGunitRestore
  repeat' first
    | (extract_lets +onlyGivenNames y; first | (refine Moves.bind (x := y) ?_ fun _ => ?_; (on_goal 2 => clear_value y); subst y) | clear_value y | subst y)
    | with_reducible assumption
    | with_reducible apply Moves.refl
    | ((with_reducible apply Moves.after wrF_moves ?e ?_); case e => rfl)
    | ((with_reducible apply Moves.trans ?_ (atRegister_moves ?e (fun _ => ?_))); case e => rfl)
    | ((with_reducible apply Moves.after commandWrite_moves ?e ?_); case e => rfl)
    | with_reducible apply Ends.next ?_

/-! Sys2Proof/Machine/Tinning.lean. -/

theorem tinEnd_moves {x0 x1 x2 x3} : Moves 2147483648 x3 (tinEnd x0 x1 x2 x3) := by
  unfold tinEnd
  repeat' first
    | with_reducible assumption
    | with_reducible apply Moves.refl
    | ((with_reducible apply Moves.after finishDsc_moves ?e ?_); case e => rfl)

theorem tinMemory_moves {x0 x1 x2 x3 x4 x5} : Moves 4400193995812 x5 (tinMemory x0 x1 x2 x3 x4 x5) := by
  unfold tinMemory
  repeat' first
    | with_reducible assumption
    | with_reducible apply Moves.refl
    | ((with_reducible apply Moves.after busFault_moves ?e ?_); case e => rfl)
    | ((with_reducible apply Moves.after undefOut_moves ?e ?_); case e => rfl)
    | ((with_reducible apply Moves.after tinEnd_moves ?e ?_); case e => rfl)

theorem tunitFail_moves {x0 x1 x2 x3 x4} : Moves 4400193995812 x4 (tunitFail x0 x1 x2 x3 x4) := by
  unfold tunitFail
  repeat' first
    | (extract_lets +onlyGivenNames y; first | (refine Moves.bind (x := y) ?_ fun _ => ?_; (on_goal 2 => clear_value y); subst y) | clear_value y | subst y)
    | with_reducible assumption
    | with_reducible apply Moves.refl
    | ((with_reducible apply Moves.after wrF_moves ?e ?_); case e => rfl)
    | ((with_reducible apply Moves.after bump_moves ?e ?_); case e => rfl)
    | ((with_reducible apply Moves.after hallmark_moves ?e ?_); case e => rfl)
    | ((with_reducible apply Moves.after undefOut_moves ?e ?_); case e => rfl)
    | ((with_reducible apply Moves.after tinEnd_moves ?e ?_); case e => rfl)

theorem tinRun_moves {m : Nat} {x0 x1 x2 x3 x4 x5} (e : 4408783930404 &&& m = 4408783930404) (kx4 : ∀ a0 a1 a2 a3, Moves m a3 (x4 a0 a1 a2 a3)) : Moves m x5 (tinRun x0 x1 x2 x3 x4 x5) := by
  unfold tinRun
  repeat' first
    | (extract_lets +onlyGivenNames y; first | (refine Moves.bind (x := y) ?_ fun _ => ?_; (on_goal 2 => clear_value y); subst y) | clear_value y | subst y)
    | with_reducible assumption
    | with_reducible apply Moves.refl
    | with_reducible apply Moves.trans ?_ (kx4 _ _ _ _)
    | ((with_reducible apply Moves.after advanceSq_moves ?e ?_); case e => exact sub_trans rfl e)
    | ((with_reducible apply Moves.after dropReq_moves ?e ?_); case e => exact sub_trans rfl e)
    | ((with_reducible apply Moves.after startOut_moves ?e ?_); case e => exact sub_trans rfl e)
    | ((with_reducible apply Moves.after tinEnd_moves ?e ?_); case e => exact sub_trans rfl e)
    | ((with_reducible apply Moves.after tunitFail_moves ?e ?_); case e => exact sub_trans rfl e)
    | with_reducible apply Moves.ite ?_ ?_
    | split

theorem withUses_moves {m : Nat} {x0 x1 x2 x3 x4 x5 x6} (e : 10737419780 &&& m = 10737419780) (kx5 : ∀ a0 a1, Moves m a1 (x5 a0 a1)) : Moves m x6 (withUses x0 x1 x2 x3 x4 x5 x6) := by
  unfold withUses
  repeat' first
    | (extract_lets +onlyGivenNames y; first | (refine Moves.bind (x := y) ?_ fun _ => ?_; (on_goal 2 => clear_value y); subst y) | clear_value y | subst y)
    | with_reducible assumption
    | with_reducible apply Moves.refl
    | with_reducible apply Moves.trans ?_ (kx5 _ _)
    | ((with_reducible apply Moves.after rgPut_moves ?e ?_); case e => exact sub_trans rfl e)
    | ((with_reducible apply Moves.after askUses_moves ?e ?_); case e => exact sub_trans rfl e)
    | ((with_reducible apply Moves.after (Moves.of_opt2 ?p takeGrant_moves) ?e ?_); (case p => assumption); case e => exact sub_trans rfl e)
    | ((with_reducible apply Moves.after tinEnd_moves ?e ?_); case e => exact sub_trans rfl e)
    | split

theorem gcmSealRun_moves {x0 x1 x2 x3 x4} : Moves 4408783930916 x4 (gcmSealRun x0 x1 x2 x3 x4) := by
  unfold gcmSealRun
  repeat' first
    | (extract_lets +onlyGivenNames y; first | clear_value y | subst y)
    | with_reducible assumption
    | with_reducible apply Moves.refl
    | ((with_reducible apply Moves.after memWrite_moves ?e ?_); case e => rfl)
    | ((with_reducible apply Moves.after tinEnd_moves ?e ?_); case e => rfl)
    | ((with_reducible apply Moves.after tinMemory_moves ?e ?_); case e => rfl)
    | ((with_reducible apply Moves.trans ?_ (withUses_moves ?e (fun _ _ => ?_))); case e => rfl)
    | with_reducible apply Moves.ite ?_ ?_

theorem gcmOpenRun_moves {x0 x1 x2 x3 x4} : Moves 4400193995812 x4 (gcmOpenRun x0 x1 x2 x3 x4) := by
  unfold gcmOpenRun
  repeat' first
    | (extract_lets +onlyGivenNames y; first | (refine Moves.bind (x := y) ?_ fun _ => ?_; (on_goal 2 => clear_value y); subst y) | clear_value y | subst y)
    | with_reducible assumption
    | with_reducible apply Moves.refl
    | ((with_reducible apply Moves.after bump_moves ?e ?_); case e => rfl)
    | ((with_reducible apply Moves.after memWrite_moves ?e ?_); case e => rfl)
    | ((with_reducible apply Moves.after hallmark_moves ?e ?_); case e => rfl)
    | ((with_reducible apply Moves.after tinEnd_moves ?e ?_); case e => rfl)
    | ((with_reducible apply Moves.after tinMemory_moves ?e ?_); case e => rfl)
    | with_reducible apply Moves.ite ?_ ?_

theorem xtsWrite_moves {x0 x1 x2 x3 x4 x5} : Moves 2147483680 x5 (xtsWrite x0 x1 x2 x3 x4 x5) := by
  unfold xtsWrite
  repeat' first
    | (extract_lets +onlyGivenNames y; first | clear_value y | subst y)
    | with_reducible assumption
    | with_reducible apply Moves.refl
    | ((with_reducible apply Moves.after memWrite_moves ?e ?_); case e => rfl)
    | ((with_reducible apply Moves.after tinEnd_moves ?e ?_); case e => rfl)

theorem xtsEncRun_moves {x0 x1 x2 x3 x4} : Moves 4408783930916 x4 (xtsEncRun x0 x1 x2 x3 x4) := by
  unfold xtsEncRun
  repeat' first
    | with_reducible assumption
    | with_reducible apply Moves.refl
    | ((with_reducible apply Moves.after tinMemory_moves ?e ?_); case e => rfl)
    | ((with_reducible apply Moves.trans ?_ (withUses_moves ?e (fun _ _ => ?_))); case e => rfl)
    | ((with_reducible apply Moves.after xtsWrite_moves ?e ?_); case e => rfl)
    | with_reducible apply Moves.ite ?_ ?_

theorem xtsDecRun_moves {x0 x1 x2 x3 x4} : Moves 4400193995812 x4 (xtsDecRun x0 x1 x2 x3 x4) := by
  unfold xtsDecRun
  repeat' first
    | with_reducible assumption
    | with_reducible apply Moves.refl
    | ((with_reducible apply Moves.after tinMemory_moves ?e ?_); case e => rfl)
    | ((with_reducible apply Moves.after xtsWrite_moves ?e ?_); case e => rfl)
    | with_reducible apply Moves.ite ?_ ?_

theorem loadKey_moves {x0 x1 x2 x3 x4 x5} : Moves 10737418244 x5 (loadKey x0 x1 x2 x3 x4 x5) := by
  unfold loadKey
  repeat' first
    | (extract_lets +onlyGivenNames y; first | (refine Moves.bind (x := y) ?_ fun _ => ?_; (on_goal 2 => clear_value y); subst y) | clear_value y | subst y)
    | with_reducible assumption
    | with_reducible apply Moves.refl
    | ((with_reducible apply Moves.after wr_moves ?e ?_); case e => rfl)
    | ((with_reducible apply Moves.after slotKPut_moves ?e ?_); case e => rfl)
    | ((with_reducible apply Moves.after tinEnd_moves ?e ?_); case e => rfl)
    | fail_if_no_progress ((with_reducible apply Moves.set_tin ?e ?_); case e => rfl)
    | with_reducible apply Moves.ite ?_ ?_

theorem keyLoadRun_moves {x0 x1 x2 x3 x4} : Moves 4408783930372 x4 (keyLoadRun x0 x1 x2 x3 x4) := by
  unfold keyLoadRun
  repeat' first
    | with_reducible assumption
    | with_reducible apply Moves.refl
    | ((with_reducible apply Moves.after bump_moves ?e ?_); case e => rfl)
    | ((with_reducible apply Moves.after hallmark_moves ?e ?_); case e => rfl)
    | ((with_reducible apply Moves.after busFault_moves ?e ?_); case e => rfl)
    | ((with_reducible apply Moves.after tinEnd_moves ?e ?_); case e => rfl)
    | ((with_reducible apply Moves.after loadKey_moves ?e ?_); case e => rfl)
    | with_reducible apply Moves.ite ?_ ?_
    | split

theorem keyEraseRun_moves {x0 x1 x2 x3 x4} : Moves 10737418244 x4 (keyEraseRun x0 x1 x2 x3 x4) := by
  unfold keyEraseRun
  repeat' first
    | (extract_lets +onlyGivenNames y; first | (refine Moves.bind (x := y) ?_ fun _ => ?_; (on_goal 2 => clear_value y); subst y) | clear_value y | subst y)
    | with_reducible assumption
    | with_reducible apply Moves.refl
    | ((with_reducible apply Moves.after wr_moves ?e ?_); case e => rfl)
    | ((with_reducible apply Moves.after slotKPut_moves ?e ?_); case e => rfl)
    | ((with_reducible apply Moves.after tinEnd_moves ?e ?_); case e => rfl)
    | fail_if_no_progress ((with_reducible apply Moves.set_tin ?e ?_); case e => rfl)
    | with_reducible apply Moves.ite ?_ ?_

theorem execGcmSeal_moves {x0 x1 x2 x3} : Ends 4408783930916 x3 (execGcmSeal x0 x1 x2 x3) := by
  unfold execGcmSeal
  repeat' first
    | with_reducible assumption
    | with_reducible apply Moves.refl
    | ((with_reducible apply Moves.trans ?_ (tinRun_moves ?e (fun _ _ _ _ => ?_))); case e => rfl)
    | ((with_reducible apply Moves.after gcmSealRun_moves ?e ?_); case e => rfl)
    | with_reducible apply Ends.next ?_

theorem execGcmOpen_moves {x0 x1 x2 x3} : Ends 4408783930404 x3 (execGcmOpen x0 x1 x2 x3) := by
  unfold execGcmOpen
  repeat' first
    | with_reducible assumption
    | with_reducible apply Moves.refl
    | ((with_reducible apply Moves.trans ?_ (tinRun_moves ?e (fun _ _ _ _ => ?_))); case e => rfl)
    | ((with_reducible apply Moves.after gcmOpenRun_moves ?e ?_); case e => rfl)
    | with_reducible apply Ends.next ?_

theorem execXtsEnc_moves {x0 x1 x2 x3} : Ends 4408783930916 x3 (execXtsEnc x0 x1 x2 x3) := by
  unfold execXtsEnc
  repeat' first
    | with_reducible assumption
    | with_reducible apply Moves.refl
    | ((with_reducible apply Moves.trans ?_ (tinRun_moves ?e (fun _ _ _ _ => ?_))); case e => rfl)
    | ((with_reducible apply Moves.after xtsEncRun_moves ?e ?_); case e => rfl)
    | with_reducible apply Ends.next ?_

theorem execXtsDec_moves {x0 x1 x2 x3} : Ends 4408783930404 x3 (execXtsDec x0 x1 x2 x3) := by
  unfold execXtsDec
  repeat' first
    | with_reducible assumption
    | with_reducible apply Moves.refl
    | ((with_reducible apply Moves.trans ?_ (tinRun_moves ?e (fun _ _ _ _ => ?_))); case e => rfl)
    | ((with_reducible apply Moves.after xtsDecRun_moves ?e ?_); case e => rfl)
    | with_reducible apply Ends.next ?_

theorem execKeyLoad_moves {x0 x1 x2 x3} : Ends 4408783930404 x3 (execKeyLoad x0 x1 x2 x3) := by
  unfold execKeyLoad
  repeat' first
    | with_reducible assumption
    | with_reducible apply Moves.refl
    | ((with_reducible apply Moves.trans ?_ (tinRun_moves ?e (fun _ _ _ _ => ?_))); case e => rfl)
    | ((with_reducible apply Moves.after keyLoadRun_moves ?e ?_); case e => rfl)
    | with_reducible apply Ends.next ?_

theorem execKeyErase_moves {x0 x1 x2 x3} : Ends 4408783930404 x3 (execKeyErase x0 x1 x2 x3) := by
  unfold execKeyErase
  repeat' first
    | with_reducible assumption
    | with_reducible apply Moves.refl
    | ((with_reducible apply Moves.trans ?_ (tinRun_moves ?e (fun _ _ _ _ => ?_))); case e => rfl)
    | ((with_reducible apply Moves.after keyEraseRun_moves ?e ?_); case e => rfl)
    | with_reducible apply Ends.next ?_

theorem keygenEnd_moves {x0 x1} : Moves 8589936132 x1 (keygenEnd x0 x1) := by
  unfold keygenEnd
  repeat' first
    | (extract_lets +onlyGivenNames y; first | (refine Moves.bind (x := y) ?_ fun _ => ?_; (on_goal 2 => clear_value y); subst y) | clear_value y | subst y)
    | with_reducible assumption
    | with_reducible apply Moves.refl
    | ((with_reducible apply Moves.after wr_moves ?e ?_); case e => rfl)
    | ((with_reducible apply Moves.after event_moves ?e ?_); case e => rfl)
    | fail_if_no_progress ((with_reducible apply Moves.set_tin ?e ?_); case e => rfl)

theorem keygenRefuse_moves {x0 x1} : Moves 4465725802020 x1 (keygenRefuse x0 x1) := by
  unfold keygenRefuse
  repeat' first
    | with_reducible assumption
    | with_reducible apply Moves.refl
    | ((with_reducible apply Moves.after conflict_moves ?e ?_); case e => rfl)
    | ((with_reducible apply Moves.after keygenEnd_moves ?e ?_); case e => rfl)

theorem keygenStart_moves {x0 x1} : Moves 2207680299012 x1 (keygenStart x0 x1) := by
  unfold keygenStart
  repeat' first
    | (extract_lets +onlyGivenNames y; first | (refine Moves.bind (x := y) ?_ fun _ => ?_; (on_goal 2 => clear_value y); subst y) | clear_value y | subst y)
    | with_reducible assumption
    | with_reducible apply Moves.refl
    | ((with_reducible apply Moves.after wrF_moves ?e ?_); case e => rfl)
    | ((with_reducible apply Moves.after sendW_moves ?e ?_); case e => rfl)
    | fail_if_no_progress ((with_reducible apply Moves.set_tin ?e ?_); case e => rfl)
    | with_reducible apply Moves.ite ?_ ?_

theorem execKeygenInstall_moves {x0 x1} : Ends 6664816166436 x1 (execKeygenInstall x0 x1) := by
  unfold execKeygenInstall
  repeat' first
    | (extract_lets +onlyGivenNames y; first | (refine Moves.bind (x := y) ?_ fun _ => ?_; (on_goal 2 => clear_value y); subst y) | clear_value y | subst y)
    | with_reducible assumption
    | with_reducible apply Moves.refl
    | ((with_reducible apply Moves.after conflict_moves ?e ?_); case e => rfl)
    | ((with_reducible apply Moves.trans ?_ (atRegister_moves ?e (fun _ => ?_))); case e => rfl)
    | ((with_reducible apply Moves.after commandWrite_moves ?e ?_); case e => rfl)
    | ((with_reducible apply Moves.after keygenRefuse_moves ?e ?_); case e => rfl)
    | ((with_reducible apply Moves.after keygenStart_moves ?e ?_); case e => rfl)
    | with_reducible apply Ends.next ?_
    | with_reducible apply Ends.ite ?_ ?_
    | with_reducible apply Moves.ite ?_ ?_
    | with_reducible apply Moves.getD ?_ ?_
    | split

theorem execKeygenRetire_moves {x0 x1} : Ends 6664816166436 x1 (execKeygenRetire x0 x1) := by
  unfold execKeygenRetire
  repeat' first
    | (extract_lets +onlyGivenNames y; first | (refine Moves.bind (x := y) ?_ fun _ => ?_; (on_goal 2 => clear_value y); subst y) | clear_value y | subst y)
    | with_reducible assumption
    | with_reducible apply Moves.refl
    | ((with_reducible apply Moves.after conflict_moves ?e ?_); case e => rfl)
    | ((with_reducible apply Moves.trans ?_ (atRegister_moves ?e (fun _ => ?_))); case e => rfl)
    | ((with_reducible apply Moves.after commandWrite_moves ?e ?_); case e => rfl)
    | ((with_reducible apply Moves.after keygenRefuse_moves ?e ?_); case e => rfl)
    | ((with_reducible apply Moves.after keygenStart_moves ?e ?_); case e => rfl)
    | with_reducible apply Ends.next ?_
    | with_reducible apply Ends.ite ?_ ?_
    | with_reducible apply Moves.ite ?_ ?_
    | split

theorem execKeygenEffect_moves {x0} : Ends 8589936132 x0 (execKeygenEffect x0) := by
  unfold execKeygenEffect
  repeat' first
    | (extract_lets +onlyGivenNames y; first | (refine Moves.bind (x := y) ?_ fun _ => ?_; (on_goal 2 => clear_value y); subst y) | clear_value y | subst y)
    | with_reducible assumption
    | with_reducible apply Moves.refl
    | ((with_reducible apply Moves.after hallmark_moves ?e ?_); case e => rfl)
    | ((with_reducible apply Moves.after genPut_moves ?e ?_); case e => rfl)
    | ((with_reducible apply Moves.after keygenEnd_moves ?e ?_); case e => rfl)
    | with_reducible apply Ends.next ?_
    | with_reducible apply Ends.ite ?_ ?_
    | with_reducible apply Moves.ite ?_ ?_
    | split

theorem execKeygen_moves {x0 x1 x2 x3 x4 x5 x6 x7} : Ends 2207680300036 x7 (execKeygen x0 x1 x2 x3 x4 x5 x6 x7) := by
  unfold execKeygen
  repeat' first
    | (extract_lets +onlyGivenNames y; first | (refine Ends.bind (x := y) ?_ fun _ => ?_; (on_goal 2 => clear_value y); subst y) | (refine Moves.bind (x := y) ?_ fun _ => ?_; (on_goal 2 => clear_value y); subst y) | clear_value y | subst y)
    | with_reducible assumption
    | with_reducible apply Moves.refl
    | ((with_reducible apply Moves.after hallmark_moves ?e ?_); case e => rfl)
    | ((with_reducible apply Moves.after sendW_moves ?e ?_); case e => rfl)
    | ((with_reducible apply Moves.after takeRx_moves ?e ?_); case e => rfl)
    | ((with_reducible apply Moves.after genPut_moves ?e ?_); case e => rfl)
    | fail_if_no_progress ((with_reducible apply Moves.set_tin ?e ?_); case e => rfl)
    | with_reducible apply Ends.next ?_
    | with_reducible apply Ends.ite ?_ ?_
    | with_reducible apply Moves.ite ?_ ?_

theorem execUseGrant_moves {x0 x1 x2 x3} : Ends 8589936132 x3 (execUseGrant x0 x1 x2 x3) := by
  unfold execUseGrant
  repeat' first
    | with_reducible assumption
    | with_reducible apply Moves.refl
    | ((with_reducible apply Moves.after askUses_moves ?e ?_); case e => rfl)
    | with_reducible apply Ends.next ?_
    | with_reducible apply Ends.ite ?_ ?_
    | with_reducible apply Moves.ite ?_ ?_

theorem execCeilingWriteDone_moves {x0 x1} : Ends 8589936132 x1 (execCeilingWriteDone x0 x1) := by
  unfold execCeilingWriteDone
  repeat' first
    | (extract_lets +onlyGivenNames y; first | clear_value y | subst y)
    | with_reducible assumption
    | with_reducible apply Moves.refl
    | ((with_reducible apply Moves.after serveUses_moves ?e ?_); case e => rfl)
    | fail_if_no_progress ((with_reducible apply Moves.set_tin ?e ?_); case e => rfl)
    | with_reducible apply Ends.next ?_
    | with_reducible apply Ends.ite ?_ ?_
    | with_reducible apply Moves.ite ?_ ?_
    | split

theorem execTinUnitRestore_moves {x0 x1 x2} : Ends 6664749057572 x2 (execTinUnitRestore x0 x1 x2) := by
  unfold execTinUnitRestore
  repeat' first
    | (extract_lets +onlyGivenNames y; first | (refine Moves.bind (x := y) ?_ fun _ => ?_; (on_goal 2 => clear_value y); subst y) | clear_value y | subst y)
    | with_reducible assumption
    | with_reducible apply Moves.refl
    | ((with_reducible apply Moves.after wrF_moves ?e ?_); case e => rfl)
    | ((with_reducible apply Moves.trans ?_ (atRegister_moves ?e (fun _ => ?_))); case e => rfl)
    | ((with_reducible apply Moves.after commandWrite_moves ?e ?_); case e => rfl)
    | with_reducible apply Ends.next ?_

/-! Sys2Proof/Machine/Engines.lean. -/

theorem runUnknown_moves {x0 x1 x2} : Moves 4413078897700 x1 (runUnknown x0 x1 x2) := by
  unfold runUnknown
  repeat' first
    | (extract_lets +onlyGivenNames y; first | clear_value y | subst y)
    | with_reducible assumption
    | with_reducible apply Moves.refl
    | ((with_reducible apply Moves.after startOut_moves ?e ?_); case e => rfl)
    | ((with_reducible apply Moves.trans ?_ (asyCtxRun_moves ?e (fun _ _ _ _ => ?_))); case e => rfl)
    | ((with_reducible apply Moves.trans ?_ (cruRun_moves ?e (fun _ _ _ => ?_))); case e => rfl)
    | ((with_reducible apply Moves.trans ?_ (tinRun_moves ?e (fun _ _ _ _ => ?_))); case e => rfl)
    | with_reducible apply Moves.ite ?_ ?_
    | split

theorem settleUnknown_moves {x0 x1} : Moves 4413078897700 x1 (settleUnknown x0 x1) := by
  unfold settleUnknown
  repeat' first
    | with_reducible assumption
    | with_reducible apply Moves.refl
    | ((with_reducible apply Moves.after runUnknown_moves ?e ?_); case e => rfl)
    | with_reducible apply Moves.foldl (fun _ _ => ?_) ?_

theorem execEngineDoorbell_moves {x0 x1 x2 x3} : Ends 6664749057572 x3 (execEngineDoorbell x0 x1 x2 x3) := by
  unfold execEngineDoorbell
  repeat' first
    | with_reducible assumption
    | with_reducible apply Moves.refl
    | ((with_reducible apply Moves.after joinQueues_moves ?e ?_); case e => rfl)
    | ((with_reducible apply Moves.trans ?_ (atRegister_moves ?e (fun _ => ?_))); case e => rfl)
    | ((with_reducible apply Moves.after blockWrite_moves ?e ?_); case e => rfl)
    | ((with_reducible apply Moves.after settleUnknown_moves ?e ?_); case e => rfl)
    | with_reducible apply Ends.next ?_
    | with_reducible apply Ends.ite ?_ ?_
    | with_reducible apply Moves.ite ?_ ?_

theorem execEngineCompletionWrite_moves {x0 x1 x2} : Ends 4413078898212 x2 (execEngineCompletionWrite x0 x1 x2) := by
  unfold execEngineCompletionWrite
  repeat' first
    | (extract_lets +onlyGivenNames y; first | (refine Ends.bind (x := y) ?_ fun _ => ?_; (on_goal 2 => clear_value y); subst y) | (refine Moves.bind (x := y) ?_ fun _ => ?_; (on_goal 2 => clear_value y); subst y) | clear_value y | subst y)
    | with_reducible assumption
    | with_reducible apply Moves.refl
    | ((with_reducible apply Moves.after joinQueues_moves ?e ?_); case e => rfl)
    | ((with_reducible apply Moves.after flushRecs_moves ?e ?_); case e => rfl)
    | ((with_reducible apply Moves.after settleOff_moves ?e ?_); case e => rfl)
    | ((with_reducible apply Moves.after settleUnknown_moves ?e ?_); case e => rfl)
    | with_reducible apply Ends.next ?_
    | with_reducible apply Ends.ite ?_ ?_
    | with_reducible apply Moves.ite ?_ ?_

end Sys2Proof.Machine
end

