-- ==== Sys2Proof/Laws/MovesStoreCore.lean ====
section
/-! SUPPORT. What each definition may change. The shared parts of ingots, write cache and forges, the write cache, the checkpoint writer and register reads. -/

namespace Sys2Proof.Machine

/-! Sys2Proof/Machine/IngotCore.lean. -/

theorem modPut_moves {x0 x1 x2} : Moves 33554432 x2 (modPut x0 x1 x2) := by
  unfold modPut
  repeat' first
    | (extract_lets +onlyGivenNames y; first | clear_value y | subst y)
    | with_reducible assumption
    | with_reducible apply Moves.refl
    | fail_if_no_progress ((with_reducible apply Moves.set_ing ?e ?_); case e => rfl)

theorem castingPut_moves {x0 x1} : Moves 33554432 x1 (castingPut x0 x1) := by
  unfold castingPut
  repeat' first
    | (extract_lets +onlyGivenNames y; first | clear_value y | subst y)
    | with_reducible assumption
    | with_reducible apply Moves.refl
    | fail_if_no_progress ((with_reducible apply Moves.set_ing ?e ?_); case e => rfl)

theorem workUp_moves {x0 x1} : Moves 16777216 x1 (workUp x0 x1) := by
  unfold workUp
  repeat' first
    | (extract_lets +onlyGivenNames y; first | clear_value y | subst y)
    | with_reducible assumption
    | with_reducible apply Moves.refl
    | fail_if_no_progress ((with_reducible apply Moves.set_ldg ?e ?_); case e => rfl)

theorem zonePut_moves {x0 x1 x2} : Moves 68719476736 x2 (zonePut x0 x1 x2) := by
  unfold zonePut
  repeat' first
    | (extract_lets +onlyGivenNames y; first | clear_value y | subst y)
    | with_reducible assumption
    | with_reducible apply Moves.refl
    | fail_if_no_progress ((with_reducible apply Moves.set_pln ?e ?_); case e => rfl)

theorem pmodPut_moves {x0 x1 x2} : Moves 68719476736 x2 (pmodPut x0 x1 x2) := by
  unfold pmodPut
  repeat' first
    | (extract_lets +onlyGivenNames y; first | clear_value y | subst y)
    | with_reducible assumption
    | with_reducible apply Moves.refl
    | fail_if_no_progress ((with_reducible apply Moves.set_pln ?e ?_); case e => rfl)

theorem critWarn_moves {x0 x1} : Moves 536870912 x1 (critWarn x0 x1) := by
  unfold critWarn
  repeat' first
    | (extract_lets +onlyGivenNames y; first | clear_value y | subst y)
    | with_reducible assumption
    | with_reducible apply Moves.refl
    | fail_if_no_progress ((with_reducible apply Moves.set_hq ?e ?_); case e => rfl)

theorem floorUpdate_moves {x0} : Moves 2268548039684 x0 (floorUpdate x0) := by
  unfold floorUpdate
  repeat' first
    | (extract_lets +onlyGivenNames y; first | (refine Moves.bind (x := y) ?_ fun _ => ?_; (on_goal 2 => clear_value y); subst y) | clear_value y | subst y)
    | with_reducible assumption
    | with_reducible apply Moves.refl
    | ((with_reducible apply Moves.after wrF_moves ?e ?_); case e => rfl)
    | ((with_reducible apply Moves.after hallmark_moves ?e ?_); case e => rfl)
    | ((with_reducible apply Moves.after hqAsync_moves ?e ?_); case e => rfl)
    | ((with_reducible apply Moves.after critWarn_moves ?e ?_); case e => rfl)
    | fail_if_no_progress ((with_reducible apply Moves.set_pln ?e ?_); case e => rfl)
    | with_reducible apply Moves.ite ?_ ?_

theorem grantOn_moves {x0 x1} : Moves 68719476736 x1 (grantOn x0 x1).2 := by
  unfold grantOn
  repeat' first
    | (extract_lets +onlyGivenNames y; first | clear_value y | subst y)
    | with_reducible assumption
    | with_reducible apply Moves.refl
    | ((with_reducible apply Moves.after zonePut_moves ?e ?_); case e => rfl)
    | fail_if_no_progress (with_reducible apply Moves.pair_ite ?_ ?_)
    | with_reducible apply Moves.ite ?_ ?_
    | dsimp -zeta only
    | split

theorem grantAll_moves {x0 x1} : Moves 68719476736 x1 (grantAll x0 x1).2 := by
  induction' x0 with a l ih generalizing x1
  all_goals unfold grantAll
  all_goals repeat' first
    | (extract_lets +onlyGivenNames y; first | (refine Moves.pair_bind (x := y.2) ?_ fun _ => ?_; (on_goal 2 => clear_value y); subst y) | (refine Moves.bind (x := y.2) ?_ fun _ => ?_; (on_goal 2 => clear_value y); subst y) | clear_value y | subst y)
    | with_reducible assumption
    | with_reducible apply Moves.refl
    | ((with_reducible apply Moves.after grantOn_moves ?e ?_); case e => rfl)
    | ((with_reducible apply Moves.after (Moves.of_pair ?p grantOn_moves) ?e ?_); (case p => assumption); case e => rfl)
    | with_reducible apply Moves.trans ?_ ih

theorem grantChunks_moves {x0 x1 x2 x3} : Moves 2268548039684 x3 (grantChunks x0 x1 x2 x3).2 := by
  unfold grantChunks
  repeat' first
    | (extract_lets +onlyGivenNames y; first | (refine Moves.pair_bind (x := y) ?_ fun _ => ?_; (on_goal 2 => clear_value y); subst y) | (refine Moves.pair_bind (x := y.2) ?_ fun _ => ?_; (on_goal 2 => clear_value y); subst y) | (refine Moves.bind (x := y) ?_ fun _ => ?_; (on_goal 2 => clear_value y); subst y) | clear_value y | subst y)
    | with_reducible assumption
    | with_reducible apply Moves.refl
    | ((with_reducible apply Moves.after wrF_moves ?e ?_); case e => rfl)
    | ((with_reducible apply Moves.after bump_moves ?e ?_); case e => rfl)
    | ((with_reducible apply Moves.after floorUpdate_moves ?e ?_); case e => rfl)
    | ((with_reducible apply Moves.after grantAll_moves ?e ?_); case e => rfl)
    | ((with_reducible apply Moves.after (Moves.of_pair ?p grantAll_moves) ?e ?_); (case p => assumption); case e => rfl)
    | fail_if_no_progress ((with_reducible apply Moves.set_pln ?e ?_); case e => rfl)
    | fail_if_no_progress (with_reducible apply Moves.pair_ite ?_ ?_)

theorem reclaim_moves {x0 x1} : Moves 2267742733316 x1 (reclaim x0 x1) := by
  unfold reclaim
  repeat' first
    | (extract_lets +onlyGivenNames y; first | clear_value y | subst y)
    | with_reducible assumption
    | with_reducible apply Moves.refl
    | ((with_reducible apply Moves.after bump_moves ?e ?_); case e => rfl)
    | ((with_reducible apply Moves.after emit_moves ?e ?_); case e => rfl)
    | ((with_reducible apply Moves.after hallmark_moves ?e ?_); case e => rfl)
    | ((with_reducible apply Moves.after zonePut_moves ?e ?_); case e => rfl)
    | with_reducible apply Moves.ite ?_ ?_

theorem chunkFree_moves {x0 x1} : Moves 2267742733316 x1 (chunkFree x0 x1) := by
  unfold chunkFree
  repeat' first
    | (extract_lets +onlyGivenNames y; first | clear_value y | subst y)
    | with_reducible assumption
    | with_reducible apply Moves.refl
    | ((with_reducible apply Moves.after zonePut_moves ?e ?_); case e => rfl)
    | ((with_reducible apply Moves.after reclaim_moves ?e ?_); case e => rfl)

theorem freeIngot_moves {x0 x1 x2} : Moves 2267793064964 x2 (freeIngot x0 x1 x2) := by
  unfold freeIngot
  repeat' first
    | (extract_lets +onlyGivenNames y; first | (refine Moves.bind (x := y) ?_ fun _ => ?_; (on_goal 2 => clear_value y); subst y) | clear_value y | subst y)
    | with_reducible assumption
    | with_reducible apply Moves.refl
    | ((with_reducible apply Moves.after chunkFree_moves ?e ?_); case e => rfl)
    | fail_if_no_progress ((with_reducible apply Moves.set_ldg ?e ?_); case e => rfl)
    | fail_if_no_progress ((with_reducible apply Moves.set_ing ?e ?_); case e => rfl)
    | with_reducible apply Moves.foldl (fun _ _ => ?_) ?_

theorem freeDead_moves {x0} : Moves 2267793064964 x0 (freeDead x0) := by
  unfold freeDead
  repeat' first
    | with_reducible assumption
    | with_reducible apply Moves.refl
    | ((with_reducible apply Moves.after freeIngot_moves ?e ?_); case e => rfl)
    | with_reducible apply Moves.foldl (fun _ _ => ?_) ?_

theorem settleFences_moves {x0} : Moves 2267793064964 x0 (settleFences x0) := by
  unfold settleFences
  repeat' first
    | (extract_lets +onlyGivenNames y; first | (refine Moves.bind (x := y) ?_ fun _ => ?_; (on_goal 2 => clear_value y); subst y) | clear_value y | subst y)
    | with_reducible assumption
    | with_reducible apply Moves.refl
    | ((with_reducible apply Moves.after chunkFree_moves ?e ?_); case e => rfl)
    | ((with_reducible apply Moves.after freeDead_moves ?e ?_); case e => rfl)
    | fail_if_no_progress ((with_reducible apply Moves.set_pln ?e ?_); case e => rfl)
    | with_reducible apply Moves.foldl (fun _ _ => ?_) ?_

theorem releaseChunk_moves {x0 x1 x2} : Moves 68719476736 x2 (releaseChunk x0 x1 x2) := by
  unfold releaseChunk
  repeat' first
    | (extract_lets +onlyGivenNames y; first | clear_value y | subst y)
    | with_reducible assumption
    | with_reducible apply Moves.refl
    | fail_if_no_progress ((with_reducible apply Moves.set_pln ?e ?_); case e => rfl)

theorem chunkDone_moves {x0 x1} : Moves 2267742733316 x1 (chunkDone x0 x1) := by
  unfold chunkDone
  repeat' first
    | (extract_lets +onlyGivenNames y; first | clear_value y | subst y)
    | with_reducible assumption
    | with_reducible apply Moves.refl
    | ((with_reducible apply Moves.after emit_moves ?e ?_); case e => rfl)
    | ((with_reducible apply Moves.after zonePut_moves ?e ?_); case e => rfl)
    | ((with_reducible apply Moves.after reclaim_moves ?e ?_); case e => rfl)
    | with_reducible apply Moves.ite ?_ ?_

theorem finishZone_moves {x0 x1} : Moves 2267742732288 x1 (finishZone x0 x1) := by
  unfold finishZone
  repeat' first
    | (extract_lets +onlyGivenNames y; first | clear_value y | subst y)
    | with_reducible assumption
    | with_reducible apply Moves.refl
    | ((with_reducible apply Moves.after emit_moves ?e ?_); case e => rfl)
    | ((with_reducible apply Moves.after zonePut_moves ?e ?_); case e => rfl)
    | with_reducible apply Moves.ite ?_ ?_

theorem ingStat_moves {x0} : Moves 4 x0 (ingStat x0) := by
  unfold ingStat
  repeat' first
    | (extract_lets +onlyGivenNames y; first | clear_value y | subst y)
    | with_reducible assumption
    | with_reducible apply Moves.refl
    | ((with_reducible apply Moves.after wr_moves ?e ?_); case e => rfl)

theorem castGoes_moves {x0} : Moves 4 x0 (castGoes x0) := by
  unfold castGoes
  repeat' first
    | with_reducible assumption
    | with_reducible apply Moves.refl
    | ((with_reducible apply Moves.after wrF_moves ?e ?_); case e => rfl)
    | with_reducible apply Moves.ite ?_ ?_

theorem openIngot_moves {x0 x1 x2 x3} : Opts 33554436 x3 (openIngot x0 x1 x2 x3) := by
  unfold openIngot
  repeat' first
    | (extract_lets +onlyGivenNames y; first | clear_value y | subst y)
    | with_reducible assumption
    | with_reducible apply Moves.refl
    | ((with_reducible apply Moves.after wr64_moves ?e ?_); case e => rfl)
    | ((with_reducible apply Moves.after ingStat_moves ?e ?_); case e => rfl)
    | ((with_reducible apply Moves.after castGoes_moves ?e ?_); case e => rfl)
    | fail_if_no_progress ((with_reducible apply Moves.set_ing ?e ?_); case e => rfl)
    | with_reducible apply Opts.some ?_
    | exact Opts.none
    | with_reducible apply Opts.ite ?_ ?_
    | with_reducible apply Moves.ite ?_ ?_
    | split

theorem billetPut_moves {x0 x1 x2 x3} : Moves 33554432 x3 (billetPut x0 x1 x2 x3) := by
  unfold billetPut
  repeat' first
    | with_reducible assumption
    | with_reducible apply Moves.refl
    | ((with_reducible apply Moves.after castingPut_moves ?e ?_); case e => rfl)

theorem sjWrite_moves {x0 x1 x2 x3 x4 x5} : Opts2 2199123918916 x5 (sjWrite x0 x1 x2 x3 x4 x5) := by
  unfold sjWrite
  repeat' first
    | (extract_lets +onlyGivenNames y; first | (refine Opts2.bind (x := y) ?_ fun _ => ?_; (on_goal 2 => clear_value y); subst y) | (refine Moves.bind (x := y) ?_ fun _ => ?_; (on_goal 2 => clear_value y); subst y) | clear_value y | subst y)
    | with_reducible assumption
    | with_reducible apply Moves.refl
    | ((with_reducible apply Moves.after qstWrite_moves ?e ?_); case e => rfl)
    | ((with_reducible apply Moves.after sendW_moves ?e ?_); case e => rfl)
    | fail_if_no_progress ((with_reducible apply Moves.set_ing ?e ?_); case e => rfl)
    | with_reducible apply Opts2.some ?_
    | exact Opts2.none
    | with_reducible apply Opts2.ite ?_ ?_
    | with_reducible apply Moves.ite ?_ ?_

theorem sjMark_moves {x0 x1 x2} : Moves 2199123918916 x2 (sjMark x0 x1 x2) := by
  unfold sjMark
  repeat' first
    | (extract_lets +onlyGivenNames y; first | (refine Moves.bind (x := y) ?_ fun _ => ?_; (on_goal 2 => clear_value y); subst y) | clear_value y | subst y)
    | with_reducible assumption
    | with_reducible apply Moves.refl
    | ((with_reducible apply Moves.after qstWrite_moves ?e ?_); case e => rfl)
    | ((with_reducible apply Moves.after sendW_moves ?e ?_); case e => rfl)
    | fail_if_no_progress ((with_reducible apply Moves.set_ing ?e ?_); case e => rfl)
    | with_reducible apply Moves.ite ?_ ?_

theorem issueAppends_moves {x0 x1} : Moves 2199056809984 x1 (issueAppends x0 x1) := by
  induction' x0 with n ih generalizing x1
  all_goals unfold issueAppends
  all_goals repeat' first
    | (extract_lets +onlyGivenNames y; first | (refine Moves.bind (x := y) ?_ fun _ => ?_; (on_goal 2 => clear_value y); subst y) | clear_value y | subst y)
    | with_reducible assumption
    | with_reducible apply Moves.refl
    | ((with_reducible apply Moves.after emit_moves ?e ?_); case e => rfl)
    | ((with_reducible apply Moves.after modPut_moves ?e ?_); case e => rfl)
    | fail_if_no_progress ((with_reducible apply Moves.set_ing ?e ?_); case e => rfl)
    | with_reducible apply Moves.ite ?_ ?_
    | with_reducible apply Moves.getD ?_ ?_
    | with_reducible apply Moves.trans ?_ ih
    | split

theorem issueAll_moves {x0} : Moves 2199056809984 x0 (issueAll x0) := by
  unfold issueAll
  repeat' first
    | with_reducible assumption
    | with_reducible apply Moves.refl
    | ((with_reducible apply Moves.after issueAppends_moves ?e ?_); case e => rfl)

theorem dropAppend_moves {x0 x1} : Moves 33554432 x1 (dropAppend x0 x1) := by
  unfold dropAppend
  repeat' first
    | (extract_lets +onlyGivenNames y; first | (refine Moves.bind (x := y) ?_ fun _ => ?_; (on_goal 2 => clear_value y); subst y) | clear_value y | subst y)
    | with_reducible assumption
    | with_reducible apply Moves.refl
    | ((with_reducible apply Moves.after modPut_moves ?e ?_); case e => rfl)
    | fail_if_no_progress ((with_reducible apply Moves.set_ing ?e ?_); case e => rfl)
    | with_reducible apply Moves.ite ?_ ?_

theorem toLedger_moves {x0 x1} : Moves 16777216 x1 (toLedger x0 x1) := by
  unfold toLedger
  repeat' first
    | (extract_lets +onlyGivenNames y; first | clear_value y | subst y)
    | with_reducible assumption
    | with_reducible apply Moves.refl
    | fail_if_no_progress ((with_reducible apply Moves.set_ldg ?e ?_); case e => rfl)

/-! Sys2Proof/Machine/WcCore.lean. -/

theorem writeEntry_moves {x0 x1 x2 x3 x4} : Moves 64 x4 (writeEntry x0 x1 x2 x3 x4) := by
  unfold writeEntry
  repeat' first
    | with_reducible assumption
    | with_reducible apply Moves.refl
    | ((with_reducible apply Moves.after qstWrite_moves ?e ?_); case e => rfl)

theorem overBudget_moves {x0} : Moves 1540 x0 (overBudget x0) := by
  unfold overBudget
  repeat' first
    | (extract_lets +onlyGivenNames y; first | (refine Moves.bind (x := y) ?_ fun _ => ?_; (on_goal 2 => clear_value y); subst y) | clear_value y | subst y)
    | with_reducible assumption
    | with_reducible apply Moves.refl
    | ((with_reducible apply Moves.after wrF_moves ?e ?_); case e => rfl)
    | ((with_reducible apply Moves.after hallmark_moves ?e ?_); case e => rfl)
    | ((with_reducible apply Moves.after event_moves ?e ?_); case e => rfl)
    | with_reducible apply Moves.ite ?_ ?_

theorem rebudget_moves {x0} : Moves 1540 x0 (rebudget x0) := by
  unfold rebudget
  repeat' first
    | (extract_lets +onlyGivenNames y; first | (refine Moves.bind (x := y) ?_ fun _ => ?_; (on_goal 2 => clear_value y); subst y) | clear_value y | subst y)
    | with_reducible assumption
    | with_reducible apply Moves.refl
    | ((with_reducible apply Moves.after wr_moves ?e ?_); case e => rfl)
    | ((with_reducible apply Moves.after wrF_moves ?e ?_); case e => rfl)
    | ((with_reducible apply Moves.after overBudget_moves ?e ?_); case e => rfl)

theorem sendHold_moves {x0} : Moves 2199090364420 x0 (sendHold x0) := by
  unfold sendHold
  repeat' first
    | with_reducible assumption
    | with_reducible apply Moves.refl
    | ((with_reducible apply Moves.after sendW_moves ?e ?_); case e => rfl)
    | with_reducible apply Moves.ite ?_ ?_

theorem updateHold_moves {x0} : Moves 2199090365956 x0 (updateHold x0) := by
  unfold updateHold
  repeat' first
    | (extract_lets +onlyGivenNames y; first | (refine Moves.bind (x := y) ?_ fun _ => ?_; (on_goal 2 => clear_value y); subst y) | clear_value y | subst y)
    | with_reducible assumption
    | with_reducible apply Moves.refl
    | ((with_reducible apply Moves.after wrF_moves ?e ?_); case e => rfl)
    | ((with_reducible apply Moves.after rebudget_moves ?e ?_); case e => rfl)
    | ((with_reducible apply Moves.after sendHold_moves ?e ?_); case e => rfl)
    | with_reducible apply Moves.ite ?_ ?_

theorem clearEntry_moves {x0 x1} : Moves 1073741888 x1 (clearEntry x0 x1) := by
  unfold clearEntry
  repeat' first
    | (extract_lets +onlyGivenNames y; first | (refine Moves.bind (x := y) ?_ fun _ => ?_; (on_goal 2 => clear_value y); subst y) | clear_value y | subst y)
    | with_reducible assumption
    | with_reducible apply Moves.refl
    | ((with_reducible apply Moves.after writeEntry_moves ?e ?_); case e => rfl)
    | fail_if_no_progress ((with_reducible apply Moves.set_wc ?e ?_); case e => rfl)
    | with_reducible apply Moves.ite ?_ ?_

theorem wcAlloc_moves {x0 x1} : Opts2 1073741888 x1 (wcAlloc x0 x1) := by
  unfold wcAlloc
  repeat' first
    | (extract_lets +onlyGivenNames y; first | clear_value y | subst y)
    | with_reducible assumption
    | with_reducible apply Moves.refl
    | ((with_reducible apply Moves.after clearEntry_moves ?e ?_); case e => rfl)
    | with_reducible apply Opts2.some ?_
    | exact Opts2.none
    | with_reducible apply Opts2.ite ?_ ?_
    | with_reducible apply Moves.ite ?_ ?_
    | with_reducible apply Moves.foldl (fun _ _ => ?_) ?_

theorem freeSlot_moves {x0 x1} : Moves 1073741856 x1 (freeSlot x0 x1) := by
  unfold freeSlot
  repeat' first
    | (extract_lets +onlyGivenNames y; first | clear_value y | subst y)
    | with_reducible assumption
    | with_reducible apply Moves.refl
    | ((with_reducible apply Moves.after slotPut_moves ?e ?_); case e => rfl)

theorem sendSlots_moves {x0 x1 x2 x3 x4} : Moves 2199090364420 x4 (sendSlots x0 x1 x2 x3 x4) := by
  induction' x2 with n ih generalizing x0 x1 x3 x4
  all_goals unfold sendSlots
  all_goals repeat' first
    | with_reducible assumption
    | with_reducible apply Moves.refl
    | ((with_reducible apply Moves.after sendW_moves ?e ?_); case e => rfl)
    | with_reducible apply Moves.ite ?_ ?_
    | with_reducible apply Moves.trans ?_ ih

theorem uncover_moves {x0 x1} : Moves 1073741856 x1 (uncover x0 x1) := by
  unfold uncover
  repeat' first
    | (extract_lets +onlyGivenNames y; first | clear_value y | subst y)
    | with_reducible assumption
    | with_reducible apply Moves.refl
    | ((with_reducible apply Moves.after slotPut_moves ?e ?_); case e => rfl)
    | with_reducible apply Moves.ite ?_ ?_
    | split

theorem releaseSlot_moves {x0 x1} : Moves 1073741920 x0 (releaseSlot x0 x1) := by
  unfold releaseSlot
  repeat' first
    | (extract_lets +onlyGivenNames y; first | (refine Moves.bind (x := y) ?_ fun _ => ?_; (on_goal 2 => clear_value y); subst y) | clear_value y | subst y)
    | with_reducible assumption
    | with_reducible apply Moves.refl
    | ((with_reducible apply Moves.after writeEntry_moves ?e ?_); case e => rfl)
    | ((with_reducible apply Moves.after freeSlot_moves ?e ?_); case e => rfl)
    | ((with_reducible apply Moves.after uncover_moves ?e ?_); case e => rfl)
    | with_reducible apply Moves.ite ?_ ?_

theorem releaseSlots_moves {x0 x1} : Moves 2200164107876 x1 (releaseSlots x0 x1) := by
  unfold releaseSlots
  repeat' first
    | (extract_lets +onlyGivenNames y; first | (refine Moves.bind (x := y) ?_ fun _ => ?_; (on_goal 2 => clear_value y); subst y) | clear_value y | subst y)
    | with_reducible assumption
    | with_reducible apply Moves.refl
    | ((with_reducible apply Moves.after bump_moves ?e ?_); case e => rfl)
    | ((with_reducible apply Moves.after overBudget_moves ?e ?_); case e => rfl)
    | ((with_reducible apply Moves.after sendSlots_moves ?e ?_); case e => rfl)
    | ((with_reducible apply Moves.after releaseSlot_moves ?e ?_); case e => rfl)
    | with_reducible apply Moves.ite ?_ ?_
    | with_reducible apply Moves.foldl (fun _ _ => ?_) ?_

theorem wcRelease_moves {x0 x1} : Moves 2200164107876 x1 (wcRelease x0 x1) := by
  unfold wcRelease
  repeat' first
    | with_reducible assumption
    | with_reducible apply Moves.refl
    | ((with_reducible apply Moves.after releaseSlots_moves ?e ?_); case e => rfl)
    | with_reducible apply Moves.ite ?_ ?_

theorem wcReleaseHeld_moves {x0 x1} : Moves 2200164107876 x1 (wcReleaseHeld x0 x1) := by
  unfold wcReleaseHeld
  repeat' first
    | with_reducible assumption
    | with_reducible apply Moves.refl
    | ((with_reducible apply Moves.after releaseSlots_moves ?e ?_); case e => rfl)

theorem sendGrain_moves {x0 x1} : Moves 2199090364420 x1 (sendGrain x0 x1) := by
  unfold sendGrain
  repeat' first
    | with_reducible assumption
    | with_reducible apply Moves.refl
    | ((with_reducible apply Moves.after sendW_moves ?e ?_); case e => rfl)

theorem degrade_moves {x0 x1 x2} : Moves 1073743364 x2 (degrade x0 x1 x2) := by
  unfold degrade
  repeat' first
    | (extract_lets +onlyGivenNames y; first | clear_value y | subst y)
    | with_reducible assumption
    | with_reducible apply Moves.refl
    | ((with_reducible apply Moves.after hallmark_moves ?e ?_); case e => rfl)
    | ((with_reducible apply Moves.after event_moves ?e ?_); case e => rfl)
    | fail_if_no_progress ((with_reducible apply Moves.set_wc ?e ?_); case e => rfl)
    | with_reducible apply Moves.ite ?_ ?_

theorem peerViolation_moves {x0 x1 x2} : Moves 1028 x2 (peerViolation x0 x1 x2) := by
  unfold peerViolation
  repeat' first
    | with_reducible assumption
    | with_reducible apply Moves.refl
    | ((with_reducible apply Moves.after bump_moves ?e ?_); case e => rfl)
    | ((with_reducible apply Moves.after hallmark_moves ?e ?_); case e => rfl)

theorem slagCount_moves {x0 x1} : Moves 4 x1 (slagCount x0 x1) := by
  unfold slagCount
  repeat' first
    | with_reducible assumption
    | with_reducible apply Moves.refl
    | ((with_reducible apply Moves.after wr_moves ?e ?_); case e => rfl)
    | ((with_reducible apply Moves.after bump_moves ?e ?_); case e => rfl)

theorem slagAdd_moves {x0 x1} : Moves 16778756 x1 (slagAdd x0 x1) := by
  unfold slagAdd
  repeat' first
    | (extract_lets +onlyGivenNames y; first | (refine Moves.bind (x := y) ?_ fun _ => ?_; (on_goal 2 => clear_value y); subst y) | clear_value y | subst y)
    | with_reducible assumption
    | with_reducible apply Moves.refl
    | ((with_reducible apply Moves.after bump_moves ?e ?_); case e => rfl)
    | ((with_reducible apply Moves.after hallmark_moves ?e ?_); case e => rfl)
    | ((with_reducible apply Moves.after event_moves ?e ?_); case e => rfl)
    | ((with_reducible apply Moves.after slagCount_moves ?e ?_); case e => rfl)
    | fail_if_no_progress ((with_reducible apply Moves.set_ldg ?e ?_); case e => rfl)
    | with_reducible apply Moves.ite ?_ ?_

theorem loseSlot_moves {x0 x1} : Moves 1090520612 x1 (loseSlot x0 x1) := by
  unfold loseSlot
  repeat' first
    | (extract_lets +onlyGivenNames y; first | clear_value y | subst y)
    | with_reducible assumption
    | with_reducible apply Moves.refl
    | ((with_reducible apply Moves.after bump_moves ?e ?_); case e => rfl)
    | ((with_reducible apply Moves.after hallmark_moves ?e ?_); case e => rfl)
    | ((with_reducible apply Moves.after slotPut_moves ?e ?_); case e => rfl)
    | ((with_reducible apply Moves.after slagAdd_moves ?e ?_); case e => rfl)
    | with_reducible apply Moves.ite ?_ ?_

theorem readHeader_moves {x0 x1} : Moves 1090520612 x1 (readHeader x0 x1) := by
  unfold readHeader
  repeat' first
    | with_reducible assumption
    | with_reducible apply Moves.refl
    | ((with_reducible apply Moves.after loseSlot_moves ?e ?_); case e => rfl)
    | with_reducible apply Moves.ite ?_ ?_

theorem rebuildSlot_moves {x0 x1} : Moves 1090520612 x1 (rebuildSlot x0 x1) := by
  unfold rebuildSlot
  repeat' first
    | (extract_lets +onlyGivenNames y; first | clear_value y | subst y)
    | with_reducible assumption
    | with_reducible apply Moves.refl
    | ((with_reducible apply Moves.after loseSlot_moves ?e ?_); case e => rfl)
    | fail_if_no_progress ((with_reducible apply Moves.set_wc ?e ?_); case e => rfl)
    | with_reducible apply Moves.ite ?_ ?_

theorem askClose_moves {x0} : Moves 2199107141636 x0 (askClose x0) := by
  unfold askClose
  repeat' first
    | (extract_lets +onlyGivenNames y; first | (refine Moves.bind (x := y) ?_ fun _ => ?_; (on_goal 2 => clear_value y); subst y) | clear_value y | subst y)
    | with_reducible assumption
    | with_reducible apply Moves.refl
    | ((with_reducible apply Moves.after sendW_moves ?e ?_); case e => rfl)
    | fail_if_no_progress ((with_reducible apply Moves.set_ldg ?e ?_); case e => rfl)
    | with_reducible apply Moves.ite ?_ ?_

/-! Sys2Proof/Machine/ForgeCore.lean. -/

theorem handIn_moves {x0 x1 x2} : Moves 17179870724 x2 (handIn x0 x1 x2) := by
  unfold handIn
  repeat' first
    | (extract_lets +onlyGivenNames y; first | (refine Moves.bind (x := y) ?_ fun _ => ?_; (on_goal 2 => clear_value y); subst y) | clear_value y | subst y)
    | with_reducible assumption
    | with_reducible apply Moves.refl
    | ((with_reducible apply Moves.after bump_moves ?e ?_); case e => rfl)
    | ((with_reducible apply Moves.after bump64_moves ?e ?_); case e => rfl)
    | ((with_reducible apply Moves.after event_moves ?e ?_); case e => rfl)
    | fail_if_no_progress ((with_reducible apply Moves.set_frg ?e ?_); case e => rfl)
    | with_reducible apply Moves.ite ?_ ?_

theorem cullBillet_moves {x0 x1} : Moves 17213425156 x1 (cullBillet x0 x1) := by
  unfold cullBillet
  repeat' first
    | (extract_lets +onlyGivenNames y; first | (refine Moves.bind (x := y) ?_ fun _ => ?_; (on_goal 2 => clear_value y); subst y) | clear_value y | subst y)
    | with_reducible assumption
    | with_reducible apply Moves.refl
    | ((with_reducible apply Moves.after billetPut_moves ?e ?_); case e => rfl)
    | ((with_reducible apply Moves.after handIn_moves ?e ?_); case e => rfl)
    | with_reducible apply Moves.ite ?_ ?_
    | split

theorem reserve_moves {x0 x1 x2 x3} : Moves 17213425156 x3 (reserve x0 x1 x2 x3).2 := by
  unfold reserve
  repeat' first
    | with_reducible assumption
    | with_reducible apply Moves.refl
    | ((with_reducible apply Moves.after billetPut_moves ?e ?_); case e => rfl)
    | ((with_reducible apply Moves.after cullBillet_moves ?e ?_); case e => rfl)
    | fail_if_no_progress (with_reducible apply Moves.pair_ite ?_ ?_)
    | with_reducible apply Moves.ite ?_ ?_
    | dsimp -zeta only
    | split

theorem slagGrainIn_moves {x0 x1 x2} : Moves 17179870724 x2 (slagGrainIn x0 x1 x2) := by
  unfold slagGrainIn
  repeat' first
    | with_reducible assumption
    | with_reducible apply Moves.refl
    | ((with_reducible apply Moves.after grainDrop_moves ?e ?_); case e => rfl)
    | ((with_reducible apply Moves.after dropPending_moves ?e ?_); case e => rfl)
    | ((with_reducible apply Moves.after handIn_moves ?e ?_); case e => rfl)

theorem postLooks_moves {x0 x1 x2} : Moves 17179869184 x2 (postLooks x0 x1 x2) := by
  induction' x1 with n ih generalizing x0 x2
  all_goals unfold postLooks
  all_goals repeat' first
    | with_reducible assumption
    | with_reducible apply Moves.refl
    | ((with_reducible apply Moves.after grainPut_moves ?e ?_); case e => rfl)
    | with_reducible apply Moves.ite ?_ ?_
    | with_reducible apply Moves.trans ?_ ih
    | split

theorem fillPending_moves {x0 x1 x2} : Moves 17179869188 x2 (fillPending x0 x1 x2) := by
  unfold fillPending
  repeat' first
    | with_reducible assumption
    | with_reducible apply Moves.refl
    | ((with_reducible apply Moves.after idxSet_moves ?e ?_); case e => rfl)
    | split

theorem keyHold_moves {x0 x1 x2 x3} : Moves 17179870724 x3 (keyHold x0 x1 x2 x3) := by
  unfold keyHold
  repeat' first
    | with_reducible assumption
    | with_reducible apply Moves.refl
    | ((with_reducible apply Moves.after hallmark_moves ?e ?_); case e => rfl)
    | ((with_reducible apply Moves.after event_moves ?e ?_); case e => rfl)
    | ((with_reducible apply Moves.after grainPut_moves ?e ?_); case e => rfl)

theorem trySeals_moves {x0 x1 x2} : Moves 4465725802020 x2 (trySeals x0 x1 x2) := by
  induction' x1 with n ih generalizing x0 x2
  all_goals unfold trySeals
  all_goals repeat' first
    | with_reducible assumption
    | with_reducible apply Moves.refl
    | ((with_reducible apply Moves.after grainPut_moves ?e ?_); case e => rfl)
    | ((with_reducible apply Moves.after recordFault_moves ?e ?_); case e => rfl)
    | ((with_reducible apply Moves.after (Moves.of_pair ?p sealUse_moves) ?e ?_); (case p => assumption); case e => rfl)
    | ((with_reducible apply Moves.after keyHold_moves ?e ?_); case e => rfl)
    | with_reducible apply Moves.ite ?_ ?_
    | with_reducible apply Moves.getD ?_ ?_
    | with_reducible apply Moves.trans ?_ ih
    | split

theorem startSeal_moves {x0 x1 x2} : Moves 17213425156 x2 (startSeal x0 x1 x2) := by
  unfold startSeal
  repeat' first
    | (extract_lets +onlyGivenNames y; first | (refine Moves.bind (x := y) ?_ fun _ => ?_; (on_goal 2 => clear_value y); subst y) | clear_value y | subst y)
    | with_reducible assumption
    | with_reducible apply Moves.refl
    | ((with_reducible apply Moves.after hallmark_moves ?e ?_); case e => rfl)
    | ((with_reducible apply Moves.after grainPut_moves ?e ?_); case e => rfl)
    | ((with_reducible apply Moves.after (Moves.of_pair ?p reserve_moves) ?e ?_); (case p => assumption); case e => rfl)
    | ((with_reducible apply Moves.after fillPending_moves ?e ?_); case e => rfl)
    | split

theorem settleMiss_moves {x0 x1 x2} : Moves 17213425156 x2 (settleMiss x0 x1 x2) := by
  unfold settleMiss
  repeat' first
    | (extract_lets +onlyGivenNames y; first | clear_value y | subst y)
    | with_reducible assumption
    | with_reducible apply Moves.refl
    | ((with_reducible apply Moves.after grainPut_moves ?e ?_); case e => rfl)
    | ((with_reducible apply Moves.after grainDrop_moves ?e ?_); case e => rfl)
    | ((with_reducible apply Moves.after handIn_moves ?e ?_); case e => rfl)
    | ((with_reducible apply Moves.after startSeal_moves ?e ?_); case e => rfl)
    | with_reducible apply Moves.getD ?_ ?_
    | split

theorem settleHit_moves {x0 x1 x2 x3 x4} : Moves 25769805316 x4 (settleHit x0 x1 x2 x3 x4) := by
  unfold settleHit
  repeat' first
    | (extract_lets +onlyGivenNames y; first | (refine Moves.bind (x := y) ?_ fun _ => ?_; (on_goal 2 => clear_value y); subst y) | clear_value y | subst y)
    | with_reducible assumption
    | with_reducible apply Moves.refl
    | ((with_reducible apply Moves.after bump_moves ?e ?_); case e => rfl)
    | ((with_reducible apply Moves.after grainDrop_moves ?e ?_); case e => rfl)
    | ((with_reducible apply Moves.after dropPending_moves ?e ?_); case e => rfl)
    | ((with_reducible apply Moves.after handIn_moves ?e ?_); case e => rfl)
    | fail_if_no_progress ((with_reducible apply Moves.set_tin ?e ?_); case e => rfl)
    | with_reducible apply Moves.ite ?_ ?_
    | split

theorem frgTurn_moves {x0 x1} : Moves 4465725802020 x1 (frgTurn x0 x1) := by
  unfold frgTurn
  repeat' first
    | (extract_lets +onlyGivenNames y; first | (refine Moves.bind (x := y) ?_ fun _ => ?_; (on_goal 2 => clear_value y); subst y) | clear_value y | subst y)
    | with_reducible assumption
    | with_reducible apply Moves.refl
    | ((with_reducible apply Moves.after frgStat_moves ?e ?_); case e => rfl)
    | ((with_reducible apply Moves.after cullBillet_moves ?e ?_); case e => rfl)
    | ((with_reducible apply Moves.after postLooks_moves ?e ?_); case e => rfl)
    | ((with_reducible apply Moves.after trySeals_moves ?e ?_); case e => rfl)
    | with_reducible apply Moves.ite ?_ ?_

theorem keepPage_moves {x0 x1} : Moves 17179869188 x1 (keepPage x0 x1) := by
  unfold keepPage
  repeat' first
    | (extract_lets +onlyGivenNames y; first | (refine Moves.bind (x := y) ?_ fun _ => ?_; (on_goal 2 => clear_value y); subst y) | clear_value y | subst y)
    | with_reducible assumption
    | with_reducible apply Moves.refl
    | ((with_reducible apply Moves.after idxLoad_moves ?e ?_); case e => rfl)
    | fail_if_no_progress ((with_reducible apply Moves.set_frg ?e ?_); case e => rfl)

theorem insertPending_moves {x0 x1 x2} : Moves 17179869188 x2 (insertPending x0 x1 x2).2 := by
  unfold insertPending
  repeat' first
    | (extract_lets +onlyGivenNames y; first | (refine Moves.pair_bind (x := y) ?_ fun _ => ?_; (on_goal 2 => clear_value y); subst y) | (refine Moves.bind (x := y) ?_ fun _ => ?_; (on_goal 2 => clear_value y); subst y) | clear_value y | subst y)
    | with_reducible assumption
    | with_reducible apply Moves.refl
    | ((with_reducible apply Moves.after bump_moves ?e ?_); case e => rfl)
    | ((with_reducible apply Moves.after idxPut_moves ?e ?_); case e => rfl)
    | ((with_reducible apply Moves.after idxDrop_moves ?e ?_); case e => rfl)
    | fail_if_no_progress (with_reducible apply Moves.pair_ite ?_ ?_)
    | with_reducible apply Moves.ite ?_ ?_
    | with_reducible apply Moves.getD ?_ ?_
    | dsimp -zeta only
    | split

theorem missSettled_moves {x0 x1 x2 x3} : Moves 17213425156 x3 (missSettled x0 x1 x2 x3) := by
  unfold missSettled
  repeat' first
    | (extract_lets +onlyGivenNames y; first | (refine Moves.bind (x := y) ?_ fun _ => ?_; (on_goal 2 => clear_value y); subst y) | (refine Moves.bind (x := y.2) ?_ fun _ => ?_; (on_goal 2 => clear_value y); subst y) | clear_value y | subst y)
    | with_reducible assumption
    | with_reducible apply Moves.refl
    | ((with_reducible apply Moves.after bump_moves ?e ?_); case e => rfl)
    | ((with_reducible apply Moves.after fltDrop_moves ?e ?_); case e => rfl)
    | ((with_reducible apply Moves.after settleMiss_moves ?e ?_); case e => rfl)
    | ((with_reducible apply Moves.after insertPending_moves ?e ?_); case e => rfl)
    | ((with_reducible apply Moves.after (Moves.of_pair ?p insertPending_moves) ?e ?_); (case p => assumption); case e => rfl)
    | with_reducible apply Moves.ite ?_ ?_
    | split

theorem verifyMiss_moves {x0 x1 x2} : Moves 51573163524 x2 (verifyMiss x0 x1 x2) := by
  unfold verifyMiss
  repeat' first
    | with_reducible assumption
    | with_reducible apply Moves.refl
    | ((with_reducible apply Moves.after dropVerify_moves ?e ?_); case e => rfl)
    | ((with_reducible apply Moves.after missSettled_moves ?e ?_); case e => rfl)

theorem hitSettled_moves {x0 x1 x2 x3} : Moves 25786582532 x3 (hitSettled x0 x1 x2 x3) := by
  unfold hitSettled
  repeat' first
    | (extract_lets +onlyGivenNames y; first | (refine Moves.bind (x := y) ?_ fun _ => ?_; (on_goal 2 => clear_value y); subst y) | clear_value y | subst y)
    | with_reducible assumption
    | with_reducible apply Moves.refl
    | ((with_reducible apply Moves.after bump_moves ?e ?_); case e => rfl)
    | ((with_reducible apply Moves.after fltFill_moves ?e ?_); case e => rfl)
    | ((with_reducible apply Moves.after workUp_moves ?e ?_); case e => rfl)
    | ((with_reducible apply Moves.after settleHit_moves ?e ?_); case e => rfl)
    | with_reducible apply Moves.ite ?_ ?_

theorem refRefused_moves {x0 x1} : Moves 1028 x1 (refRefused x0 x1) := by
  unfold refRefused
  repeat' first
    | with_reducible assumption
    | with_reducible apply Moves.refl
    | ((with_reducible apply Moves.after bump_moves ?e ?_); case e => rfl)
    | ((with_reducible apply Moves.after hallmark_moves ?e ?_); case e => rfl)

theorem dropStale_moves {x0 x1 x2} : Moves 17179869188 x2 (dropStale x0 x1 x2) := by
  unfold dropStale
  repeat' first
    | with_reducible assumption
    | with_reducible apply Moves.refl
    | ((with_reducible apply Moves.after bump_moves ?e ?_); case e => rfl)
    | ((with_reducible apply Moves.after idxDrop_moves ?e ?_); case e => rfl)

theorem evalLook_moves {x0 x1 x2} : Moves 60179875332 x2 (evalLook x0 x1 x2) := by
  unfold evalLook
  repeat' first
    | with_reducible assumption
    | with_reducible apply Moves.refl
    | ((with_reducible apply Moves.after grainPut_moves ?e ?_); case e => rfl)
    | ((with_reducible apply Moves.after settleMiss_moves ?e ?_); case e => rfl)
    | ((with_reducible apply Moves.after missSettled_moves ?e ?_); case e => rfl)
    | ((with_reducible apply Moves.after verifyMiss_moves ?e ?_); case e => rfl)
    | ((with_reducible apply Moves.after hitSettled_moves ?e ?_); case e => rfl)
    | ((with_reducible apply Moves.after refRefused_moves ?e ?_); case e => rfl)
    | ((with_reducible apply Moves.after dropStale_moves ?e ?_); case e => rfl)
    | with_reducible apply Moves.ite ?_ ?_
    | split

theorem askIndex_moves {x0 x1 x2} : Moves 60179875332 x2 (askIndex x0 x1 x2) := by
  unfold askIndex
  repeat' first
    | with_reducible assumption
    | with_reducible apply Moves.refl
    | ((with_reducible apply Moves.after bump_moves ?e ?_); case e => rfl)
    | ((with_reducible apply Moves.after grainPut_moves ?e ?_); case e => rfl)
    | ((with_reducible apply Moves.after settleMiss_moves ?e ?_); case e => rfl)
    | ((with_reducible apply Moves.after keepPage_moves ?e ?_); case e => rfl)
    | ((with_reducible apply Moves.after evalLook_moves ?e ?_); case e => rfl)
    | with_reducible apply Moves.ite ?_ ?_

theorem wakePending_moves {x0 x1} : Moves 4465742579236 x1 (wakePending x0 x1) := by
  unfold wakePending
  repeat' first
    | with_reducible assumption
    | with_reducible apply Moves.refl
    | ((with_reducible apply Moves.after frgTurn_moves ?e ?_); case e => rfl)
    | ((with_reducible apply Moves.after evalLook_moves ?e ?_); case e => rfl)
    | with_reducible apply Moves.ite ?_ ?_
    | with_reducible apply Moves.foldl (fun _ _ => ?_) ?_
    | with_reducible apply Moves.foldl2 (fun _ _ => ?_) ?_
    | split

theorem intakeGood_moves {x0 x1 x2 x3 x4} : Moves 17213425156 x4 (intakeGood x0 x1 x2 x3 x4) := by
  unfold intakeGood
  repeat' first
    | (extract_lets +onlyGivenNames y; first | (refine Moves.bind (x := y) ?_ fun _ => ?_; (on_goal 2 => clear_value y); subst y) | clear_value y | subst y)
    | with_reducible assumption
    | with_reducible apply Moves.refl
    | ((with_reducible apply Moves.after bump_moves ?e ?_); case e => rfl)
    | ((with_reducible apply Moves.after grainPut_moves ?e ?_); case e => rfl)
    | ((with_reducible apply Moves.after grainDrop_moves ?e ?_); case e => rfl)
    | ((with_reducible apply Moves.after handIn_moves ?e ?_); case e => rfl)
    | ((with_reducible apply Moves.after startSeal_moves ?e ?_); case e => rfl)
    | ((with_reducible apply Moves.after settleMiss_moves ?e ?_); case e => rfl)
    | with_reducible apply Moves.ite ?_ ?_

/-! Sys2Proof/Machine/WriteCache.lean. -/

theorem genPi_moves {x0 x1 x2 x3} : Moves 32 x3 (genPi x0 x1 x2 x3) := by
  unfold genPi
  repeat' first
    | (extract_lets +onlyGivenNames y; first | clear_value y | subst y)
    | with_reducible assumption
    | with_reducible apply Moves.refl
    | ((with_reducible apply Moves.after memWrite_moves ?e ?_); case e => rfl)
    | with_reducible apply Moves.ite ?_ ?_

theorem copyBlock_moves {x0 x1 x2 x3} : Moves 1073741856 x3 (copyBlock x0 x1 x2 x3) := by
  unfold copyBlock
  repeat' first
    | (extract_lets +onlyGivenNames y; first | (refine Moves.bind (x := y) ?_ fun _ => ?_; (on_goal 2 => clear_value y); subst y) | clear_value y | subst y)
    | with_reducible assumption
    | with_reducible apply Moves.refl
    | ((with_reducible apply Moves.after memWrite_moves ?e ?_); case e => rfl)
    | ((with_reducible apply Moves.after slotPut_moves ?e ?_); case e => rfl)

theorem execSlotLandingDone_moves {x0 x1} : Ends 2200164106276 x1 (execSlotLandingDone x0 x1) := by
  unfold execSlotLandingDone
  repeat' first
    | (extract_lets +onlyGivenNames y; first | (refine Moves.bind (x := y) ?_ fun _ => ?_; (on_goal 2 => clear_value y); subst y) | clear_value y | subst y)
    | with_reducible assumption
    | with_reducible apply Moves.refl
    | ((with_reducible apply Moves.after slotPut_moves ?e ?_); case e => rfl)
    | ((with_reducible apply Moves.after sendGrain_moves ?e ?_); case e => rfl)
    | ((with_reducible apply Moves.after genPi_moves ?e ?_); case e => rfl)
    | ((with_reducible apply Moves.after copyBlock_moves ?e ?_); case e => rfl)
    | with_reducible apply Ends.next ?_
    | with_reducible apply Ends.ite ?_ ?_
    | with_reducible apply Moves.ite ?_ ?_
    | split

theorem execMirGrain_moves {x0 x1 x2 x3 x4} : Ends 2200164106276 x4 (execMirGrain x0 x1 x2 x3 x4) := by
  unfold execMirGrain
  repeat' first
    | (extract_lets +onlyGivenNames y; first | (refine Ends.bind (x := y) ?_ fun _ => ?_; (on_goal 2 => clear_value y); subst y) | (refine Moves.bind (x := y) ?_ fun _ => ?_; (on_goal 2 => clear_value y); subst y) | (refine of_fun y ?_; subst y) | clear_value y | subst y)
    | with_reducible assumption
    | with_reducible apply Moves.refl
    | ((with_reducible apply Moves.after memWrite_moves ?e ?_); case e => rfl)
    | ((with_reducible apply Moves.after mirPut_moves ?e ?_); case e => rfl)
    | ((with_reducible apply Moves.after sendW_moves ?e ?_); case e => rfl)
    | ((with_reducible apply Moves.after takeRx_moves ?e ?_); case e => rfl)
    | with_reducible apply Ends.next ?_
    | with_reducible apply Ends.ite ?_ ?_
    | with_reducible apply Moves.ite ?_ ?_

theorem execMirAck_moves {x0 x1} : Ends 2200164107300 x1 (execMirAck x0 x1) := by
  unfold execMirAck
  repeat' first
    | (extract_lets +onlyGivenNames y; first | (refine Ends.bind (x := y) ?_ fun _ => ?_; (on_goal 2 => clear_value y); subst y) | clear_value y | subst y)
    | with_reducible assumption
    | with_reducible apply Moves.refl
    | ((with_reducible apply Moves.after slotPut_moves ?e ?_); case e => rfl)
    | ((with_reducible apply Moves.after takeRx_moves ?e ?_); case e => rfl)
    | ((with_reducible apply Moves.after peerViolation_moves ?e ?_); case e => rfl)
    | with_reducible apply Ends.next ?_
    | with_reducible apply Ends.ite ?_ ?_
    | with_reducible apply Moves.ite ?_ ?_

theorem execMirNak_moves {x0 x1 x2} : Ends 2200164107780 x2 (execMirNak x0 x1 x2) := by
  unfold execMirNak
  repeat' first
    | (extract_lets +onlyGivenNames y; first | (refine Ends.bind (x := y) ?_ fun _ => ?_; (on_goal 2 => clear_value y); subst y) | (refine Moves.bind (x := y) ?_ fun _ => ?_; (on_goal 2 => clear_value y); subst y) | clear_value y | subst y)
    | with_reducible assumption
    | with_reducible apply Moves.refl
    | ((with_reducible apply Moves.after bump_moves ?e ?_); case e => rfl)
    | ((with_reducible apply Moves.after takeRx_moves ?e ?_); case e => rfl)
    | ((with_reducible apply Moves.after degrade_moves ?e ?_); case e => rfl)
    | ((with_reducible apply Moves.after peerViolation_moves ?e ?_); case e => rfl)
    | with_reducible apply Ends.next ?_
    | with_reducible apply Ends.ite ?_ ?_
    | with_reducible apply Moves.ite ?_ ?_

theorem execMirrorTimeout_moves {x0 x1} : Ends 2200164107812 x1 (execMirrorTimeout x0 x1) := by
  unfold execMirrorTimeout
  repeat' first
    | (extract_lets +onlyGivenNames y; first | clear_value y | subst y)
    | with_reducible assumption
    | with_reducible apply Moves.refl
    | ((with_reducible apply Moves.after bump_moves ?e ?_); case e => rfl)
    | ((with_reducible apply Moves.after slotPut_moves ?e ?_); case e => rfl)
    | ((with_reducible apply Moves.after sendGrain_moves ?e ?_); case e => rfl)
    | ((with_reducible apply Moves.after degrade_moves ?e ?_); case e => rfl)
    | with_reducible apply Ends.next ?_
    | with_reducible apply Ends.ite ?_ ?_
    | with_reducible apply Moves.ite ?_ ?_

theorem supersede_moves {x0 x1} : Moves 1073741856 x1 (supersede x0 x1) := by
  unfold supersede
  repeat' first
    | (extract_lets +onlyGivenNames y; first | clear_value y | subst y)
    | with_reducible assumption
    | with_reducible apply Moves.refl
    | ((with_reducible apply Moves.after slotPut_moves ?e ?_); case e => rfl)
    | with_reducible apply Moves.foldl (fun _ _ => ?_) ?_

theorem freeSuperseded_moves {x0} : Moves 1073741856 x0 (freeSuperseded x0) := by
  unfold freeSuperseded
  repeat' first
    | with_reducible assumption
    | with_reducible apply Moves.refl
    | ((with_reducible apply Moves.after freeSlot_moves ?e ?_); case e => rfl)
    | with_reducible apply Moves.foldl (fun _ _ => ?_) ?_

theorem stamp_moves {x0 x1} : Moves 1073741920 x1 (stamp x0 x1) := by
  unfold stamp
  repeat' first
    | (extract_lets +onlyGivenNames y; first | (refine Moves.bind (x := y) ?_ fun _ => ?_; (on_goal 2 => clear_value y); subst y) | clear_value y | subst y)
    | with_reducible assumption
    | with_reducible apply Moves.refl
    | ((with_reducible apply Moves.after slotPut_moves ?e ?_); case e => rfl)
    | ((with_reducible apply Moves.after writeEntry_moves ?e ?_); case e => rfl)
    | ((with_reducible apply Moves.after supersede_moves ?e ?_); case e => rfl)
    | ((with_reducible apply Moves.after freeSuperseded_moves ?e ?_); case e => rfl)
    | with_reducible apply Moves.ite ?_ ?_

theorem writeProgress_moves {x0 x1} : Moves 2199912448004 x1 (writeProgress x0 x1) := by
  unfold writeProgress
  repeat' first
    | (extract_lets +onlyGivenNames y; first | (refine Moves.bind (x := y) ?_ fun _ => ?_; (on_goal 2 => clear_value y); subst y) | clear_value y | subst y)
    | with_reducible assumption
    | with_reducible apply Moves.refl
    | ((with_reducible apply Moves.after cmdPut_moves ?e ?_); case e => rfl)
    | ((with_reducible apply Moves.after hqFinish_moves ?e ?_); case e => rfl)
    | ((with_reducible apply Moves.after askClose_moves ?e ?_); case e => rfl)
    | with_reducible apply Moves.ite ?_ ?_
    | with_reducible apply Moves.foldl (fun _ _ => ?_) ?_
    | with_reducible apply Moves.foldl2 (fun _ _ => ?_) ?_
    | with_reducible apply Moves.getD ?_ ?_
    | split

theorem execSlotReady_moves {x0 x1} : Ends 2200986191460 x1 (execSlotReady x0 x1) := by
  unfold execSlotReady
  repeat' first
    | (extract_lets +onlyGivenNames y; first | (refine Ends.bind (x := y) ?_ fun _ => ?_; (on_goal 2 => clear_value y); subst y) | (refine Moves.bind (x := y) ?_ fun _ => ?_; (on_goal 2 => clear_value y); subst y) | clear_value y | subst y)
    | with_reducible assumption
    | with_reducible apply Moves.refl
    | ((with_reducible apply Moves.after cmdPut_moves ?e ?_); case e => rfl)
    | ((with_reducible apply Moves.after sendW_moves ?e ?_); case e => rfl)
    | ((with_reducible apply Moves.after overBudget_moves ?e ?_); case e => rfl)
    | ((with_reducible apply Moves.after readHeader_moves ?e ?_); case e => rfl)
    | ((with_reducible apply Moves.after stamp_moves ?e ?_); case e => rfl)
    | ((with_reducible apply Moves.after writeProgress_moves ?e ?_); case e => rfl)
    | with_reducible apply Ends.next ?_
    | with_reducible apply Ends.ite ?_ ?_
    | with_reducible apply Moves.ite ?_ ?_
    | split

theorem execMirStamp_moves {x0 x1 x2} : Ends 2200164107300 x2 (execMirStamp x0 x1 x2) := by
  unfold execMirStamp
  repeat' first
    | (extract_lets +onlyGivenNames y; first | (refine Ends.bind (x := y) ?_ fun _ => ?_; (on_goal 2 => clear_value y); subst y) | (refine Moves.bind (x := y) ?_ fun _ => ?_; (on_goal 2 => clear_value y); subst y) | clear_value y | subst y)
    | with_reducible assumption
    | with_reducible apply Moves.refl
    | ((with_reducible apply Moves.after mirPut_moves ?e ?_); case e => rfl)
    | ((with_reducible apply Moves.after takeRx_moves ?e ?_); case e => rfl)
    | ((with_reducible apply Moves.after peerViolation_moves ?e ?_); case e => rfl)
    | with_reducible apply Ends.next ?_
    | with_reducible apply Ends.ite ?_ ?_
    | with_reducible apply Moves.ite ?_ ?_
    | with_reducible apply Moves.foldl (fun _ _ => ?_) ?_

theorem execMirRelease_moves {x0 x1} : Ends 2200164107300 x1 (execMirRelease x0 x1) := by
  unfold execMirRelease
  repeat' first
    | (extract_lets +onlyGivenNames y; first | (refine Ends.bind (x := y) ?_ fun _ => ?_; (on_goal 2 => clear_value y); subst y) | (refine Moves.bind (x := y) ?_ fun _ => ?_; (on_goal 2 => clear_value y); subst y) | clear_value y | subst y)
    | with_reducible assumption
    | with_reducible apply Moves.refl
    | ((with_reducible apply Moves.after mirPut_moves ?e ?_); case e => rfl)
    | ((with_reducible apply Moves.after takeRx_moves ?e ?_); case e => rfl)
    | ((with_reducible apply Moves.after peerViolation_moves ?e ?_); case e => rfl)
    | with_reducible apply Ends.next ?_
    | with_reducible apply Ends.ite ?_ ?_
    | with_reducible apply Moves.ite ?_ ?_
    | with_reducible apply Moves.foldl (fun _ _ => ?_) ?_

theorem execMirFree_moves {x0 x1} : Ends 2200164107300 x1 (execMirFree x0 x1) := by
  unfold execMirFree
  repeat' first
    | (extract_lets +onlyGivenNames y; first | (refine Ends.bind (x := y) ?_ fun _ => ?_; (on_goal 2 => clear_value y); subst y) | (refine Moves.bind (x := y) ?_ fun _ => ?_; (on_goal 2 => clear_value y); subst y) | clear_value y | subst y)
    | with_reducible assumption
    | with_reducible apply Moves.refl
    | ((with_reducible apply Moves.after mirPut_moves ?e ?_); case e => rfl)
    | ((with_reducible apply Moves.after takeRx_moves ?e ?_); case e => rfl)
    | ((with_reducible apply Moves.after peerViolation_moves ?e ?_); case e => rfl)
    | with_reducible apply Ends.next ?_
    | with_reducible apply Ends.ite ?_ ?_
    | with_reducible apply Moves.ite ?_ ?_
    | with_reducible apply Moves.foldl (fun _ _ => ?_) ?_

theorem execMirHold_moves {x0 x1 x2} : Ends 2200164107780 x2 (execMirHold x0 x1 x2) := by
  unfold execMirHold
  repeat' first
    | (extract_lets +onlyGivenNames y; first | (refine Ends.bind (x := y) ?_ fun _ => ?_; (on_goal 2 => clear_value y); subst y) | (refine Moves.bind (x := y) ?_ fun _ => ?_; (on_goal 2 => clear_value y); subst y) | clear_value y | subst y)
    | with_reducible assumption
    | with_reducible apply Moves.refl
    | ((with_reducible apply Moves.after hallmark_moves ?e ?_); case e => rfl)
    | ((with_reducible apply Moves.after takeRx_moves ?e ?_); case e => rfl)
    | ((with_reducible apply Moves.after rebudget_moves ?e ?_); case e => rfl)
    | fail_if_no_progress ((with_reducible apply Moves.set_wc ?e ?_); case e => rfl)
    | with_reducible apply Ends.next ?_
    | with_reducible apply Ends.ite ?_ ?_
    | with_reducible apply Moves.ite ?_ ?_

theorem execMirQuench_moves {x0} : Ends 2200164107780 x0 (execMirQuench x0) := by
  unfold execMirQuench
  repeat' first
    | (extract_lets +onlyGivenNames y; first | (refine Ends.bind (x := y) ?_ fun _ => ?_; (on_goal 2 => clear_value y); subst y) | clear_value y | subst y)
    | with_reducible assumption
    | with_reducible apply Moves.refl
    | ((with_reducible apply Moves.after takeRx_moves ?e ?_); case e => rfl)
    | ((with_reducible apply Moves.after degrade_moves ?e ?_); case e => rfl)
    | fail_if_no_progress ((with_reducible apply Moves.set_wc ?e ?_); case e => rfl)
    | with_reducible apply Ends.next ?_

theorem execWriteThroughDone_moves {x0 x1} : Ends 1073741920 x1 (execWriteThroughDone x0 x1) := by
  unfold execWriteThroughDone
  repeat' first
    | (extract_lets +onlyGivenNames y; first | (refine Ends.bind (x := y) ?_ fun _ => ?_; (on_goal 2 => clear_value y); subst y) | (refine Moves.bind (x := y) ?_ fun _ => ?_; (on_goal 2 => clear_value y); subst y) | clear_value y | subst y)
    | with_reducible assumption
    | with_reducible apply Moves.refl
    | ((with_reducible apply Moves.after qstWrite_moves ?e ?_); case e => rfl)
    | ((with_reducible apply Moves.after slotPut_moves ?e ?_); case e => rfl)
    | ((with_reducible apply Moves.after writeEntry_moves ?e ?_); case e => rfl)
    | with_reducible apply Ends.next ?_
    | with_reducible apply Ends.ite ?_ ?_
    | with_reducible apply Moves.ite ?_ ?_

theorem execMirrorResume_moves {x0 x1} : Ends 6664816166436 x1 (execMirrorResume x0 x1) := by
  unfold execMirrorResume
  repeat' first
    | (extract_lets +onlyGivenNames y; first | (refine Ends.bind (x := y) ?_ fun _ => ?_; (on_goal 2 => clear_value y); subst y) | clear_value y | subst y)
    | with_reducible assumption
    | with_reducible apply Moves.refl
    | ((with_reducible apply Moves.after commandWrite_moves ?e ?_); case e => rfl)
    | ((with_reducible apply Moves.after rebudget_moves ?e ?_); case e => rfl)
    | ((with_reducible apply Moves.after sendHold_moves ?e ?_); case e => rfl)
    | fail_if_no_progress ((with_reducible apply Moves.set_wc ?e ?_); case e => rfl)
    | with_reducible apply Ends.next ?_
    | with_reducible apply Ends.ite ?_ ?_
    | with_reducible apply Moves.ite ?_ ?_

theorem execOverBudgetCloseTick_moves {x0} : Ends 2199107141636 x0 (execOverBudgetCloseTick x0) := by
  unfold execOverBudgetCloseTick
  repeat' first
    | with_reducible assumption
    | with_reducible apply Moves.refl
    | ((with_reducible apply Moves.after askClose_moves ?e ?_); case e => rfl)
    | with_reducible apply Ends.next ?_
    | with_reducible apply Ends.ite ?_ ?_
    | with_reducible apply Moves.ite ?_ ?_

theorem execHoldSenseSample_moves {x0 x1} : Ends 4 x1 (execHoldSenseSample x0 x1) := by
  unfold execHoldSenseSample
  repeat' first
    | with_reducible assumption
    | with_reducible apply Moves.refl
    | ((with_reducible apply Moves.after wr_moves ?e ?_); case e => rfl)
    | with_reducible apply Ends.next ?_

theorem execHoldEnergyRecompute_moves {x0} : Ends 2200164107780 x0 (execHoldEnergyRecompute x0) := by
  unfold execHoldEnergyRecompute
  repeat' first
    | (extract_lets +onlyGivenNames y; first | clear_value y | subst y)
    | with_reducible assumption
    | with_reducible apply Moves.refl
    | ((with_reducible apply Moves.after wr_moves ?e ?_); case e => rfl)
    | ((with_reducible apply Moves.after updateHold_moves ?e ?_); case e => rfl)
    | fail_if_no_progress ((with_reducible apply Moves.set_wc ?e ?_); case e => rfl)
    | with_reducible apply Ends.next ?_
    | with_reducible apply Ends.ite ?_ ?_
    | with_reducible apply Moves.ite ?_ ?_

theorem holdTest_moves {x0} : Moves 65540 x0 (holdTest x0) := by
  unfold holdTest
  repeat' first
    | (extract_lets +onlyGivenNames y; first | (refine Moves.bind (x := y) ?_ fun _ => ?_; (on_goal 2 => clear_value y); subst y) | clear_value y | subst y)
    | with_reducible assumption
    | with_reducible apply Moves.refl
    | ((with_reducible apply Moves.after wrF_moves ?e ?_); case e => rfl)
    | fail_if_no_progress ((with_reducible apply Moves.set_aon ?e ?_); case e => rfl)
    | with_reducible apply Moves.ite ?_ ?_

theorem execHoldTestStart_moves {x0} : Ends 65540 x0 (execHoldTestStart x0) := by
  unfold execHoldTestStart
  repeat' first
    | with_reducible assumption
    | with_reducible apply Moves.refl
    | ((with_reducible apply Moves.after holdTest_moves ?e ?_); case e => rfl)
    | with_reducible apply Ends.next ?_

theorem execTestNow_moves {x0 x1} : Ends 4465725867556 x1 (execTestNow x0 x1) := by
  unfold execTestNow
  repeat' first
    | (extract_lets +onlyGivenNames y; first | (refine Ends.bind (x := y) ?_ fun _ => ?_; (on_goal 2 => clear_value y); subst y) | (refine Moves.bind (x := y) ?_ fun _ => ?_; (on_goal 2 => clear_value y); subst y) | clear_value y | subst y)
    | with_reducible assumption
    | with_reducible apply Moves.refl
    | ((with_reducible apply Moves.after commandWrite_moves ?e ?_); case e => rfl)
    | ((with_reducible apply Moves.after holdTest_moves ?e ?_); case e => rfl)
    | with_reducible apply Ends.next ?_
    | with_reducible apply Ends.ite ?_ ?_
    | with_reducible apply Moves.ite ?_ ?_

theorem execHoldTestEnd_moves {x0 x1} : Ends 4398046577668 x1 (execHoldTestEnd x0 x1) := by
  unfold execHoldTestEnd
  repeat' first
    | (extract_lets +onlyGivenNames y; first | (refine Ends.bind (x := y) ?_ fun _ => ?_; (on_goal 2 => clear_value y); subst y) | clear_value y | subst y)
    | with_reducible assumption
    | with_reducible apply Moves.refl
    | ((with_reducible apply Moves.after wr_moves ?e ?_); case e => rfl)
    | ((with_reducible apply Moves.after wrF_moves ?e ?_); case e => rfl)
    | ((with_reducible apply Moves.after draw_moves ?e ?_); case e => rfl)
    | ((with_reducible apply Moves.after (Moves.of_pair ?p draw_moves) ?e ?_); (case p => assumption); case e => rfl)
    | ((with_reducible apply Moves.after hallmark_moves ?e ?_); case e => rfl)
    | fail_if_no_progress ((with_reducible apply Moves.set_aon ?e ?_); case e => rfl)
    | with_reducible apply Ends.next ?_
    | with_reducible apply Ends.ite ?_ ?_
    | with_reducible apply Moves.ite ?_ ?_

theorem startAdoption_moves {x0} : Moves 1073741920 x0 (startAdoption x0) := by
  unfold startAdoption
  repeat' first
    | (extract_lets +onlyGivenNames y; first | (refine Moves.bind (x := y) ?_ fun _ => ?_; (on_goal 2 => clear_value y); subst y) | clear_value y | subst y)
    | with_reducible assumption
    | with_reducible apply Moves.refl
    | ((with_reducible apply Moves.after slotPut_moves ?e ?_); case e => rfl)
    | ((with_reducible apply Moves.after mirPut_moves ?e ?_); case e => rfl)
    | ((with_reducible apply Moves.after clearEntry_moves ?e ?_); case e => rfl)
    | fail_if_no_progress ((with_reducible apply Moves.set_wc ?e ?_); case e => rfl)
    | with_reducible apply Moves.ite ?_ ?_
    | with_reducible apply Moves.foldl (fun _ _ => ?_) ?_

theorem adoptOne_moves {x0 x1} : Moves 1073741920 x0 (adoptOne x0 x1) := by
  unfold adoptOne
  repeat' first
    | (extract_lets +onlyGivenNames y; first | (refine Moves.bind (x := y) ?_ fun _ => ?_; (on_goal 2 => clear_value y); subst y) | clear_value y | subst y)
    | with_reducible assumption
    | with_reducible apply Moves.refl
    | ((with_reducible apply Moves.after memWrite_moves ?e ?_); case e => rfl)
    | ((with_reducible apply Moves.after slotPut_moves ?e ?_); case e => rfl)
    | ((with_reducible apply Moves.after mirPut_moves ?e ?_); case e => rfl)
    | ((with_reducible apply Moves.after stamp_moves ?e ?_); case e => rfl)
    | fail_if_no_progress ((with_reducible apply Moves.set_wc ?e ?_); case e => rfl)

theorem execAdoptionComplete_moves {x0} : Ends 2200919082596 x0 (execAdoptionComplete x0) := by
  unfold execAdoptionComplete
  repeat' first
    | (extract_lets +onlyGivenNames y; first | (refine Ends.bind (x := y) ?_ fun _ => ?_; (on_goal 2 => clear_value y); subst y) | (refine Moves.bind (x := y) ?_ fun _ => ?_; (on_goal 2 => clear_value y); subst y) | clear_value y | subst y)
    | with_reducible assumption
    | with_reducible apply Moves.refl
    | ((with_reducible apply Moves.after hallmark_moves ?e ?_); case e => rfl)
    | ((with_reducible apply Moves.after hqAsync_moves ?e ?_); case e => rfl)
    | ((with_reducible apply Moves.after overBudget_moves ?e ?_); case e => rfl)
    | ((with_reducible apply Moves.after adoptOne_moves ?e ?_); case e => rfl)
    | fail_if_no_progress ((with_reducible apply Moves.set_wc ?e ?_); case e => rfl)
    | fail_if_no_progress ((with_reducible apply Moves.set_ldg ?e ?_); case e => rfl)
    | with_reducible apply Ends.next ?_
    | with_reducible apply Ends.ite ?_ ?_
    | with_reducible apply Moves.ite ?_ ?_
    | with_reducible apply Moves.foldl (fun _ _ => ?_) ?_

theorem execCatchupDone_moves {x0} : Ends 1073741920 x0 (execCatchupDone x0) := by
  unfold execCatchupDone
  repeat' first
    | (extract_lets +onlyGivenNames y; first | (refine Ends.bind (x := y) ?_ fun _ => ?_; (on_goal 2 => clear_value y); subst y) | clear_value y | subst y)
    | with_reducible assumption
    | with_reducible apply Moves.refl
    | ((with_reducible apply Moves.after qstWrite_moves ?e ?_); case e => rfl)
    | ((with_reducible apply Moves.after slotPut_moves ?e ?_); case e => rfl)
    | ((with_reducible apply Moves.after writeEntry_moves ?e ?_); case e => rfl)
    | fail_if_no_progress ((with_reducible apply Moves.set_wc ?e ?_); case e => rfl)
    | with_reducible apply Ends.next ?_
    | with_reducible apply Ends.ite ?_ ?_
    | with_reducible apply Moves.ite ?_ ?_
    | with_reducible apply Moves.foldl (fun _ _ => ?_) ?_

theorem loadSlot_moves {x0 x1} : Moves 1073741856 x0 (loadSlot x0 x1) := by
  unfold loadSlot
  repeat' first
    | (extract_lets +onlyGivenNames y; first | (refine Moves.bind (x := y) ?_ fun _ => ?_; (on_goal 2 => clear_value y); subst y) | clear_value y | subst y)
    | with_reducible assumption
    | with_reducible apply Moves.refl
    | ((with_reducible apply Moves.after memWrite_moves ?e ?_); case e => rfl)
    | ((with_reducible apply Moves.after slotPut_moves ?e ?_); case e => rfl)
    | fail_if_no_progress ((with_reducible apply Moves.set_wc ?e ?_); case e => rfl)

theorem execRestoreLoad_moves {x0} : Ends 1073742884 x0 (execRestoreLoad x0) := by
  unfold execRestoreLoad
  repeat' first
    | (extract_lets +onlyGivenNames y; first | (refine Ends.bind (x := y) ?_ fun _ => ?_; (on_goal 2 => clear_value y); subst y) | (refine Moves.bind (x := y) ?_ fun _ => ?_; (on_goal 2 => clear_value y); subst y) | clear_value y | subst y)
    | with_reducible assumption
    | with_reducible apply Moves.refl
    | ((with_reducible apply Moves.after wr_moves ?e ?_); case e => rfl)
    | ((with_reducible apply Moves.after hallmark_moves ?e ?_); case e => rfl)
    | ((with_reducible apply Moves.after loadSlot_moves ?e ?_); case e => rfl)
    | fail_if_no_progress ((with_reducible apply Moves.set_wc ?e ?_); case e => rfl)
    | with_reducible apply Ends.next ?_
    | with_reducible apply Ends.ite ?_ ?_
    | with_reducible apply Moves.ite ?_ ?_
    | with_reducible apply Moves.foldl (fun _ _ => ?_) ?_

theorem loseRestored_moves {x0 x1} : Moves 1090520612 x0 (loseRestored x0 x1) := by
  unfold loseRestored
  repeat' first
    | (extract_lets +onlyGivenNames y; first | (refine Moves.bind (x := y) ?_ fun _ => ?_; (on_goal 2 => clear_value y); subst y) | clear_value y | subst y)
    | with_reducible assumption
    | with_reducible apply Moves.refl
    | ((with_reducible apply Moves.after bump_moves ?e ?_); case e => rfl)
    | ((with_reducible apply Moves.after hallmark_moves ?e ?_); case e => rfl)
    | ((with_reducible apply Moves.after slotPut_moves ?e ?_); case e => rfl)
    | ((with_reducible apply Moves.after slagAdd_moves ?e ?_); case e => rfl)

theorem execReplayDone_moves {x0} : Ends 1090520612 x0 (execReplayDone x0) := by
  unfold execReplayDone
  repeat' first
    | (extract_lets +onlyGivenNames y; first | (refine Ends.bind (x := y) ?_ fun _ => ?_; (on_goal 2 => clear_value y); subst y) | (refine Moves.bind (x := y) ?_ fun _ => ?_; (on_goal 2 => clear_value y); subst y) | clear_value y | subst y)
    | with_reducible assumption
    | with_reducible apply Moves.refl
    | ((with_reducible apply Moves.after bump_moves ?e ?_); case e => rfl)
    | ((with_reducible apply Moves.after freeSlot_moves ?e ?_); case e => rfl)
    | ((with_reducible apply Moves.after loseRestored_moves ?e ?_); case e => rfl)
    | with_reducible apply Ends.next ?_
    | with_reducible apply Ends.ite ?_ ?_
    | with_reducible apply Moves.ite ?_ ?_
    | with_reducible apply Moves.foldl (fun _ _ => ?_) ?_

theorem execRestoreDone_moves {x0} : Ends 1073743460 x0 (execRestoreDone x0) := by
  unfold execRestoreDone
  repeat' first
    | (extract_lets +onlyGivenNames y; first | (refine Ends.bind (x := y) ?_ fun _ => ?_; (on_goal 2 => clear_value y); subst y) | (refine Moves.bind (x := y) ?_ fun _ => ?_; (on_goal 2 => clear_value y); subst y) | clear_value y | subst y)
    | with_reducible assumption
    | with_reducible apply Moves.refl
    | ((with_reducible apply Moves.after wr_moves ?e ?_); case e => rfl)
    | ((with_reducible apply Moves.after wrF_moves ?e ?_); case e => rfl)
    | ((with_reducible apply Moves.after qstWrite_moves ?e ?_); case e => rfl)
    | ((with_reducible apply Moves.after hallmark_moves ?e ?_); case e => rfl)
    | ((with_reducible apply Moves.after overBudget_moves ?e ?_); case e => rfl)
    | ((with_reducible apply Moves.after stamp_moves ?e ?_); case e => rfl)
    | fail_if_no_progress ((with_reducible apply Moves.set_wc ?e ?_); case e => rfl)
    | with_reducible apply Ends.next ?_
    | with_reducible apply Ends.ite ?_ ?_
    | with_reducible apply Moves.ite ?_ ?_
    | with_reducible apply Moves.foldl (fun _ _ => ?_) ?_

theorem recrc_moves {x0 x1} : Moves 1073741856 x1 (recrc x0 x1) := by
  unfold recrc
  repeat' first
    | with_reducible assumption
    | with_reducible apply Moves.refl
    | ((with_reducible apply Moves.after slotPut_moves ?e ?_); case e => rfl)

theorem execFill_moves {x0 x1 x2 x3} : Ends 1073741860 x3 (execFill x0 x1 x2 x3) := by
  unfold execFill
  repeat' first
    | (extract_lets +onlyGivenNames y; first | (refine Moves.bind (x := y) ?_ fun _ => ?_; (on_goal 2 => clear_value y); subst y) | clear_value y | subst y)
    | with_reducible assumption
    | with_reducible apply Moves.refl
    | ((with_reducible apply Moves.after bump_moves ?e ?_); case e => rfl)
    | ((with_reducible apply Moves.after memWrite_moves ?e ?_); case e => rfl)
    | ((with_reducible apply Moves.after slotPut_moves ?e ?_); case e => rfl)
    | ((with_reducible apply Moves.after recrc_moves ?e ?_); case e => rfl)
    | with_reducible apply Ends.next ?_
    | with_reducible apply Ends.ite ?_ ?_
    | with_reducible apply Moves.ite ?_ ?_
    | split

theorem execMramStackLost_moves {x0} : Ends 4465725802020 x0 (execMramStackLost x0) := by
  unfold execMramStackLost
  repeat' first
    | with_reducible assumption
    | with_reducible apply Moves.refl
    | ((with_reducible apply Moves.after recordFault_moves ?e ?_); case e => rfl)
    | with_reducible apply Ends.next ?_

/-! Sys2Proof/Machine/Checkpoint.lean. -/

theorem ckptStat_moves {x0 x1 x2} : Moves 4 x2 (ckptStat x0 x1 x2) := by
  unfold ckptStat
  repeat' first
    | (extract_lets +onlyGivenNames y; first | clear_value y | subst y)
    | with_reducible assumption
    | with_reducible apply Moves.refl
    | ((with_reducible apply Moves.after wr_moves ?e ?_); case e => rfl)

theorem ckptPost_moves {x0} : Moves 85932901892 x0 (ckptPost x0) := by
  unfold ckptPost
  repeat' first
    | (extract_lets +onlyGivenNames y; first | (refine Moves.bind (x := y) ?_ fun _ => ?_; (on_goal 2 => clear_value y); subst y) | clear_value y | subst y)
    | with_reducible assumption
    | with_reducible apply Moves.refl
    | ((with_reducible apply Moves.after billetPut_moves ?e ?_); case e => rfl)
    | ((with_reducible apply Moves.after handIn_moves ?e ?_); case e => rfl)
    | ((with_reducible apply Moves.after cullBillet_moves ?e ?_); case e => rfl)
    | ((with_reducible apply Moves.after ckptStat_moves ?e ?_); case e => rfl)
    | fail_if_no_progress ((with_reducible apply Moves.set_pln ?e ?_); case e => rfl)
    | with_reducible apply Moves.ite ?_ ?_
    | split

theorem grantSpine_moves {x0 x1} : Moves 68719476736 x1 (grantSpine x0 x1).2 := by
  unfold grantSpine
  repeat' first
    | (extract_lets +onlyGivenNames y; first | clear_value y | subst y)
    | with_reducible assumption
    | with_reducible apply Moves.refl
    | ((with_reducible apply Moves.after zonePut_moves ?e ?_); case e => rfl)
    | fail_if_no_progress (with_reducible apply Moves.pair_ite ?_ ?_)
    | with_reducible apply Moves.ite ?_ ?_
    | dsimp -zeta only
    | split

theorem grantSpines_moves {x0 x1} : Moves 68719476736 x1 (grantSpines x0 x1).2 := by
  induction' x0 with a l ih generalizing x1
  all_goals unfold grantSpines
  all_goals repeat' first
    | (extract_lets +onlyGivenNames y; first | (refine Moves.pair_bind (x := y.2) ?_ fun _ => ?_; (on_goal 2 => clear_value y); subst y) | (refine Moves.bind (x := y.2) ?_ fun _ => ?_; (on_goal 2 => clear_value y); subst y) | clear_value y | subst y)
    | with_reducible assumption
    | with_reducible apply Moves.refl
    | ((with_reducible apply Moves.after grantSpine_moves ?e ?_); case e => rfl)
    | ((with_reducible apply Moves.after (Moves.of_pair ?p grantSpine_moves) ?e ?_); (case p => assumption); case e => rfl)
    | with_reducible apply Moves.trans ?_ ih

theorem spineChunks_moves {x0 x1} : Moves 68719476736 x1 (spineChunks x0 x1).2 := by
  induction' x0 with n ih generalizing x1
  all_goals unfold spineChunks
  all_goals repeat' first
    | (extract_lets +onlyGivenNames y; first | (refine Moves.pair_bind (x := y.2) ?_ fun _ => ?_; (on_goal 2 => clear_value y); subst y) | (refine Moves.bind (x := y.2) ?_ fun _ => ?_; (on_goal 2 => clear_value y); subst y) | clear_value y | subst y)
    | with_reducible assumption
    | with_reducible apply Moves.refl
    | ((with_reducible apply Moves.after grantSpines_moves ?e ?_); case e => rfl)
    | ((with_reducible apply Moves.after (Moves.of_pair ?p grantSpines_moves) ?e ?_); (case p => assumption); case e => rfl)
    | (first | exact Moves.of_pair ‹_› (Moves.trans ‹_› ih))
    | fail_if_no_progress (with_reducible apply Moves.pair_ite ?_ ?_)
    | with_reducible apply Moves.ite ?_ ?_
    | with_reducible apply Moves.trans ?_ ih
    | dsimp -zeta only
    | split

theorem appendSpine_moves {x0 x1 x2 x3} : Moves 2267742732288 x3 (appendSpine x0 x1 x2 x3) := by
  unfold appendSpine
  repeat' first
    | (extract_lets +onlyGivenNames y; first | clear_value y | subst y)
    | with_reducible assumption
    | with_reducible apply Moves.refl
    | ((with_reducible apply Moves.after emit_moves ?e ?_); case e => rfl)
    | ((with_reducible apply Moves.after zonePut_moves ?e ?_); case e => rfl)
    | with_reducible apply Moves.foldl (fun _ _ => ?_) ?_

theorem writeSpine_moves {x0 x1 x2} : Moves 2267742732292 x2 (writeSpine x0 x1 x2).2 := by
  unfold writeSpine
  repeat' first
    | (extract_lets +onlyGivenNames y; first | clear_value y | subst y)
    | with_reducible assumption
    | with_reducible apply Moves.refl
    | ((with_reducible apply Moves.after wrF_moves ?e ?_); case e => rfl)
    | ((with_reducible apply Moves.after bump_moves ?e ?_); case e => rfl)
    | ((with_reducible apply Moves.after (Moves.of_pair ?p spineChunks_moves) ?e ?_); (case p => assumption); case e => rfl)
    | ((with_reducible apply Moves.after appendSpine_moves ?e ?_); case e => rfl)
    | with_reducible apply Moves.foldl (fun _ _ => ?_) ?_
    | with_reducible apply Moves.foldl2 (fun _ _ => ?_) ?_
    | dsimp -zeta only
    | split

theorem freeSpine_moves {x0 x1} : Moves 2267742733316 x1 (freeSpine x0 x1) := by
  unfold freeSpine
  repeat' first
    | with_reducible assumption
    | with_reducible apply Moves.refl
    | ((with_reducible apply Moves.after chunkFree_moves ?e ?_); case e => rfl)
    | with_reducible apply Moves.foldl (fun _ _ => ?_) ?_

theorem remarkPages_moves {x0 x1} : Moves 68719476736 x1 (remarkPages x0 x1) := by
  unfold remarkPages
  repeat' first
    | (extract_lets +onlyGivenNames y; first | clear_value y | subst y)
    | with_reducible assumption
    | with_reducible apply Moves.refl
    | fail_if_no_progress ((with_reducible apply Moves.set_pln ?e ?_); case e => rfl)

/-! Sys2Proof/Machine/CsrRead.lean. -/

theorem clearRead_moves {x0 x1 x2 x3} : Moves 167772164 x3 (clearRead x0 x1 x2 x3) := by
  unfold clearRead
  repeat' first
    | (extract_lets +onlyGivenNames y; first | clear_value y | subst y)
    | with_reducible assumption
    | with_reducible apply Moves.refl
    | ((with_reducible apply Moves.after wr_moves ?e ?_); case e => rfl)
    | ((with_reducible apply Moves.after nwr_moves ?e ?_); case e => rfl)
    | ((with_reducible apply Moves.after modPut_moves ?e ?_); case e => rfl)
    | with_reducible apply Moves.ite ?_ ?_

theorem latchBlock_moves {x0 x1 x2 x3} : Moves 4315938816 x3 (latchBlock x0 x1 x2 x3) := by
  unfold latchBlock
  repeat' first
    | (extract_lets +onlyGivenNames y; first | clear_value y | subst y)
    | with_reducible assumption
    | with_reducible apply Moves.refl
    | ((with_reducible apply Moves.after cvuPut_moves ?e ?_); case e => rfl)
    | fail_if_no_progress ((with_reducible apply Moves.set_asy ?e ?_); case e => rfl)
    | fail_if_no_progress ((with_reducible apply Moves.set_ldg ?e ?_); case e => rfl)
    | with_reducible apply Moves.ite ?_ ?_

theorem readReg_moves {x0 x1 x2 x3 x4} : Moves 4483710988 x4 (readReg x0 x1 x2 x3 x4).2 := by
  unfold readReg
  repeat' first
    | (extract_lets +onlyGivenNames y; first | (refine Moves.pair_bind (x := y) ?_ fun _ => ?_; (on_goal 2 => clear_value y); subst y) | (refine Moves.bind (x := y) ?_ fun _ => ?_; (on_goal 2 => clear_value y); subst y) | clear_value y | subst y)
    | with_reducible assumption
    | with_reducible apply Moves.refl
    | ((with_reducible apply Moves.after clearRead_moves ?e ?_); case e => rfl)
    | ((with_reducible apply Moves.after latchBlock_moves ?e ?_); case e => rfl)
    | fail_if_no_progress ((with_reducible apply Moves.set_latch ?e ?_); case e => rfl)
    | with_reducible apply Moves.getD ?_ ?_
    | dsimp -zeta only
    | split

theorem readWord_moves {x0 x1 x2 x3} : Moves 6664904246828 x3 (readWord x0 x1 x2 x3).2 := by
  unfold readWord
  repeat' first
    | with_reducible assumption
    | with_reducible apply Moves.refl
    | ((with_reducible apply Moves.after recordFault_moves ?e ?_); case e => rfl)
    | ((with_reducible apply Moves.after stopTimeout_moves ?e ?_); case e => rfl)
    | ((with_reducible apply Moves.after readReg_moves ?e ?_); case e => rfl)
    | ((with_reducible apply Moves.after (Moves.of_pair ?p readReg_moves) ?e ?_); (case p => assumption); case e => rfl)
    | fail_if_no_progress (with_reducible apply Moves.pair_ite ?_ ?_)
    | with_reducible apply Moves.ite ?_ ?_
    | dsimp -zeta only
    | split

theorem csrRead_moves {x0 x1 x2 x3} : Moves 6664904246828 x3 (csrRead x0 x1 x2 x3) := by
  unfold csrRead
  repeat' first
    | with_reducible assumption
    | with_reducible apply Moves.refl
    | ((with_reducible apply Moves.after emit_moves ?e ?_); case e => rfl)
    | ((with_reducible apply Moves.after readWord_moves ?e ?_); case e => rfl)

theorem execLowWordRead_moves {x0 x1 x2 x3} : Ends 6664904246828 x3 (execLowWordRead x0 x1 x2 x3) := by
  unfold execLowWordRead
  repeat' first
    | with_reducible assumption
    | with_reducible apply Moves.refl
    | ((with_reducible apply Moves.after csrRead_moves ?e ?_); case e => rfl)
    | with_reducible apply Ends.next ?_

theorem execReadClearCounterRead_moves {x0 x1 x2 x3} : Ends 6664904246828 x3 (execReadClearCounterRead x0 x1 x2 x3) := by
  unfold execReadClearCounterRead
  repeat' first
    | with_reducible assumption
    | with_reducible apply Moves.refl
    | ((with_reducible apply Moves.after csrRead_moves ?e ?_); case e => rfl)
    | with_reducible apply Ends.next ?_

theorem execClkStoppedTimeout_moves {x0 x1 x2 x3} : Ends 6664749057572 x3 (execClkStoppedTimeout x0 x1 x2 x3) := by
  unfold execClkStoppedTimeout
  repeat' first
    | with_reducible assumption
    | with_reducible apply Moves.refl
    | ((with_reducible apply Moves.after emit_moves ?e ?_); case e => rfl)
    | ((with_reducible apply Moves.after stopTimeout_moves ?e ?_); case e => rfl)
    | with_reducible apply Ends.next ?_
    | with_reducible apply Ends.ite ?_ ?_
    | with_reducible apply Moves.ite ?_ ?_

end Sys2Proof.Machine
end

