-- ==== Sys2Proof/Laws/MovesHost.lean ====
section
/-! SUPPORT. What each definition may change. Host queues and firmware update. -/

namespace Sys2Proof.Machine

/-! Sys2Proof/Machine/HostQueues.lean. -/

theorem unbind_moves {x0 x1} : Moves 1073741856 x1 (unbind x0 x1) := by
  unfold unbind
  repeat' first
    | (extract_lets +onlyGivenNames y; first | clear_value y | subst y)
    | with_reducible assumption
    | with_reducible apply Moves.refl
    | ((with_reducible apply Moves.after slotPut_moves ?e ?_); case e => rfl)
    | ((with_reducible apply Moves.after freeSlot_moves ?e ?_); case e => rfl)
    | with_reducible apply Moves.ite ?_ ?_
    | with_reducible apply Moves.foldl (fun _ _ => ?_) ?_
    | with_reducible apply Moves.foldl2 (fun _ _ => ?_) ?_
    | split

theorem deleteCmd_moves {x0 x1} : Moves 2200969414244 x0 (deleteCmd x0 x1) := by
  unfold deleteCmd
  repeat' first
    | (extract_lets +onlyGivenNames y; first | (refine Moves.bind (x := y) ?_ fun _ => ?_; (on_goal 2 => clear_value y); subst y) | clear_value y | subst y)
    | with_reducible assumption
    | with_reducible apply Moves.refl
    | ((with_reducible apply Moves.after bump_moves ?e ?_); case e => rfl)
    | ((with_reducible apply Moves.after cmdDrop_moves ?e ?_); case e => rfl)
    | ((with_reducible apply Moves.after postCqe_moves ?e ?_); case e => rfl)
    | ((with_reducible apply Moves.after wcRelease_moves ?e ?_); case e => rfl)
    | ((with_reducible apply Moves.after unbind_moves ?e ?_); case e => rfl)
    | with_reducible apply Moves.ite ?_ ?_

theorem deleteQueue_moves {x0 x1 x2} : Moves 2200969414244 x2 (deleteQueue x0 x1 x2) := by
  unfold deleteQueue
  repeat' first
    | (extract_lets +onlyGivenNames y; first | (refine Moves.bind (x := y) ?_ fun _ => ?_; (on_goal 2 => clear_value y); subst y) | clear_value y | subst y)
    | with_reducible assumption
    | with_reducible apply Moves.refl
    | ((with_reducible apply Moves.after hallmark_moves ?e ?_); case e => rfl)
    | ((with_reducible apply Moves.after deleteCmd_moves ?e ?_); case e => rfl)
    | fail_if_no_progress ((with_reducible apply Moves.set_hq ?e ?_); case e => rfl)
    | with_reducible apply Moves.foldl (fun _ _ => ?_) ?_
    | with_reducible apply Moves.foldl2 (fun _ _ => ?_) ?_
    | split

theorem deleteCtrlQueues_moves {x0 x1 x2} : Moves 2200969414244 x2 (deleteCtrlQueues x0 x1 x2) := by
  unfold deleteCtrlQueues
  repeat' first
    | with_reducible assumption
    | with_reducible apply Moves.refl
    | ((with_reducible apply Moves.after deleteQueue_moves ?e ?_); case e => rfl)
    | with_reducible apply Moves.foldl (fun _ _ => ?_) ?_

theorem hqAbort_moves {x0 x1} : Moves 2200969414244 x1 (hqAbort x0 x1) := by
  unfold hqAbort
  repeat' first
    | (extract_lets +onlyGivenNames y; first | (refine Moves.bind (x := y) ?_ fun _ => ?_; (on_goal 2 => clear_value y); subst y) | clear_value y | subst y)
    | with_reducible assumption
    | with_reducible apply Moves.refl
    | ((with_reducible apply Moves.after postCqe_moves ?e ?_); case e => rfl)
    | ((with_reducible apply Moves.after wcRelease_moves ?e ?_); case e => rfl)
    | ((with_reducible apply Moves.after unbind_moves ?e ?_); case e => rfl)
    | with_reducible apply Moves.ite ?_ ?_
    | with_reducible apply Moves.foldl (fun _ _ => ?_) ?_

theorem hqFatal_moves {x0 x1} : Moves 6665621472868 x1 (hqFatal x0 x1) := by
  unfold hqFatal
  repeat' first
    | with_reducible assumption
    | with_reducible apply Moves.refl
    | ((with_reducible apply Moves.after recordFault_moves ?e ?_); case e => rfl)
    | ((with_reducible apply Moves.after hqAbort_moves ?e ?_); case e => rfl)
    | with_reducible apply Moves.ite ?_ ?_

theorem refuse_moves {x0 x1 x2} : Moves 2199828561924 x2 (refuse x0 x1 x2) := by
  unfold refuse
  repeat' first
    | with_reducible assumption
    | with_reducible apply Moves.refl
    | ((with_reducible apply Moves.after bump_moves ?e ?_); case e => rfl)
    | ((with_reducible apply Moves.after hqFinish_moves ?e ?_); case e => rfl)
    | with_reducible apply Moves.ite ?_ ?_

theorem offered_moves {x0 x1} : Moves 536870912 x1 (offered x0 x1) := by
  unfold offered
  repeat' first
    | (extract_lets +onlyGivenNames y; first | clear_value y | subst y)
    | with_reducible assumption
    | with_reducible apply Moves.refl
    | ((with_reducible apply Moves.after nsPut_moves ?e ?_); case e => rfl)

theorem execCapsuleArrival_moves {x0 x1 x2 x3} : Ends 2200902303748 x3 (execCapsuleArrival x0 x1 x2 x3) := by
  unfold execCapsuleArrival
  repeat' first
    | (extract_lets +onlyGivenNames y; first | (refine Ends.bind (x := y) ?_ fun _ => ?_; (on_goal 2 => clear_value y); subst y) | (refine Moves.bind (x := y) ?_ fun _ => ?_; (on_goal 2 => clear_value y); subst y) | clear_value y | subst y)
    | with_reducible assumption
    | with_reducible apply Moves.refl
    | ((with_reducible apply Moves.after wrF_moves ?e ?_); case e => rfl)
    | ((with_reducible apply Moves.after wake_moves ?e ?_); case e => rfl)
    | ((with_reducible apply Moves.after refuse_moves ?e ?_); case e => rfl)
    | ((with_reducible apply Moves.after offered_moves ?e ?_); case e => rfl)
    | fail_if_no_progress ((with_reducible apply Moves.set_xpt ?e ?_); case e => rfl)
    | fail_if_no_progress ((with_reducible apply Moves.set_hq ?e ?_); case e => rfl)
    | fail_if_no_progress ((with_reducible apply Moves.set_wc ?e ?_); case e => rfl)
    | with_reducible apply Ends.next ?_
    | with_reducible apply Ends.ite ?_ ?_
    | with_reducible apply Moves.ite ?_ ?_
    | split

theorem ioRow_moves {m : Nat} {x0 x1 x2 x3 x4} (e : 2199828561924 &&& m = 2199828561924) (kx3 : ∀ a0 a1, Moves m a1 (x3 a0 a1)) : Moves m x4 (ioRow x0 x1 x2 x3 x4) := by
  unfold ioRow
  repeat' first
    | with_reducible assumption
    | with_reducible apply Moves.refl
    | with_reducible apply Moves.trans ?_ (kx3 _ _)
    | ((with_reducible apply Moves.after refuse_moves ?e ?_); case e => exact sub_trans rfl e)
    | with_reducible apply Moves.ite ?_ ?_
    | split

theorem adminRow_moves {m : Nat} {x0 x1 x2 x3 x4} (e : 2199828561924 &&& m = 2199828561924) (kx3 : ∀ a0 a1, Moves m a1 (x3 a0 a1)) : Moves m x4 (adminRow x0 x1 x2 x3 x4) := by
  unfold adminRow
  repeat' first
    | with_reducible assumption
    | with_reducible apply Moves.refl
    | with_reducible apply Moves.trans ?_ (kx3 _ _)
    | ((with_reducible apply Moves.after refuse_moves ?e ?_); case e => exact sub_trans rfl e)
    | with_reducible apply Moves.ite ?_ ?_
    | split

theorem charge_moves {x0 x1} : Moves 536870912 x1 (charge x0 x1) := by
  unfold charge
  repeat' first
    | (extract_lets +onlyGivenNames y; first | clear_value y | subst y)
    | with_reducible assumption
    | with_reducible apply Moves.refl
    | ((with_reducible apply Moves.after nsPut_moves ?e ?_); case e => rfl)
    | fail_if_no_progress ((with_reducible apply Moves.set_hq ?e ?_); case e => rfl)

theorem lenMark_moves {x0 x1 x2 x3} : Moves 1028 x3 (lenMark x0 x1 x2 x3) := by
  unfold lenMark
  repeat' first
    | (extract_lets +onlyGivenNames y; first | clear_value y | subst y)
    | with_reducible assumption
    | with_reducible apply Moves.refl
    | ((with_reducible apply Moves.after hallmark_moves ?e ?_); case e => rfl)

theorem lenExcess_moves {x0 x1 x2} : Moves 1028 x2 (lenExcess x0 x1 x2) := by
  unfold lenExcess
  repeat' first
    | with_reducible assumption
    | with_reducible apply Moves.refl
    | ((with_reducible apply Moves.after bump_moves ?e ?_); case e => rfl)
    | ((with_reducible apply Moves.after lenMark_moves ?e ?_); case e => rfl)

theorem lenShort_moves {x0 x1 x2 x3} : Moves 1028 x3 (lenShort x0 x1 x2 x3) := by
  unfold lenShort
  repeat' first
    | with_reducible assumption
    | with_reducible apply Moves.refl
    | ((with_reducible apply Moves.after bump_moves ?e ?_); case e => rfl)
    | ((with_reducible apply Moves.after lenMark_moves ?e ?_); case e => rfl)

theorem sglFail_moves {x0 x1 x2 x3} : Moves 2199828562948 x3 (sglFail x0 x1 x2 x3) := by
  unfold sglFail
  repeat' first
    | with_reducible assumption
    | with_reducible apply Moves.refl
    | ((with_reducible apply Moves.after hqFinish_moves ?e ?_); case e => rfl)
    | ((with_reducible apply Moves.after lenShort_moves ?e ?_); case e => rfl)
    | with_reducible apply Moves.ite ?_ ?_

theorem sglExcess_moves {x0 x1 x2} : Moves 1028 x2 (sglExcess x0 x1 x2) := by
  unfold sglExcess
  repeat' first
    | (extract_lets +onlyGivenNames y; first | (refine Moves.bind (x := y) ?_ fun _ => ?_; (on_goal 2 => clear_value y); subst y) | clear_value y | subst y)
    | with_reducible assumption
    | with_reducible apply Moves.refl
    | ((with_reducible apply Moves.after lenExcess_moves ?e ?_); case e => rfl)
    | with_reducible apply Moves.ite ?_ ?_

theorem landBytes_moves {x0 x1 x2 x3} : Moves 32 x3 (landBytes x0 x1 x2 x3) := by
  induction' x2 with a l ih generalizing x1 x3
  · exact Moves.refl _ _
  · exact Moves.trans memWrite_moves ih

theorem hqLand_moves {x0 x1 x2 x3 x4} : Moves 536870944 x4 (hqLand x0 x1 x2 x3 x4) := by
  unfold hqLand
  repeat' first
    | with_reducible assumption
    | with_reducible apply Moves.refl
    | ((with_reducible apply Moves.after cmdPut_moves ?e ?_); case e => rfl)
    | ((with_reducible apply Moves.after landBytes_moves ?e ?_); case e => rfl)
    | with_reducible apply Moves.ite ?_ ?_
    | split

theorem hqShort_moves {x0 x1 x2} : Moves 2200969414244 x2 (hqShort x0 x1 x2) := by
  unfold hqShort
  repeat' first
    | (extract_lets +onlyGivenNames y; first | (refine Moves.bind (x := y) ?_ fun _ => ?_; (on_goal 2 => clear_value y); subst y) | clear_value y | subst y)
    | with_reducible assumption
    | with_reducible apply Moves.refl
    | ((with_reducible apply Moves.after hqFinish_moves ?e ?_); case e => rfl)
    | ((with_reducible apply Moves.after wcRelease_moves ?e ?_); case e => rfl)
    | ((with_reducible apply Moves.after unbind_moves ?e ?_); case e => rfl)
    | ((with_reducible apply Moves.after lenShort_moves ?e ?_); case e => rfl)
    | with_reducible apply Moves.ite ?_ ?_
    | split

theorem enterLanding_moves {x0 x1} : Moves 1073741856 x1 (enterLanding x0 x1) := by
  unfold enterLanding
  repeat' first
    | (extract_lets +onlyGivenNames y; first | clear_value y | subst y)
    | with_reducible assumption
    | with_reducible apply Moves.refl
    | ((with_reducible apply Moves.after memWrite_moves ?e ?_); case e => rfl)
    | ((with_reducible apply Moves.after slotPut_moves ?e ?_); case e => rfl)
    | with_reducible apply Moves.foldl (fun _ _ => ?_) ?_

theorem startWrite_moves {x0 x1 x2} : Moves 2200902303780 x2 (startWrite x0 x1 x2) := by
  unfold startWrite
  repeat' first
    | (extract_lets +onlyGivenNames y; first | (refine Moves.bind (x := y) ?_ fun _ => ?_; (on_goal 2 => clear_value y); subst y) | clear_value y | subst y)
    | with_reducible assumption
    | with_reducible apply Moves.refl
    | ((with_reducible apply Moves.after cmdPut_moves ?e ?_); case e => rfl)
    | ((with_reducible apply Moves.after hostRead_moves ?e ?_); case e => rfl)
    | ((with_reducible apply Moves.after landBytes_moves ?e ?_); case e => rfl)
    | ((with_reducible apply Moves.after enterLanding_moves ?e ?_); case e => rfl)
    | with_reducible apply Moves.ite ?_ ?_

theorem execNvmeWrite_moves {x0 x1 x2} : Ends 2200902304868 x2 (execNvmeWrite x0 x1 x2) := by
  unfold execNvmeWrite
  repeat' first
    | with_reducible assumption
    | with_reducible apply Moves.refl
    | ((with_reducible apply Moves.after (Moves.of_opt2 ?p wcAlloc_moves) ?e ?_); (case p => assumption); case e => rfl)
    | ((with_reducible apply Moves.trans ?_ (ioRow_moves ?e (fun _ _ => ?_))); case e => rfl)
    | ((with_reducible apply Moves.after charge_moves ?e ?_); case e => rfl)
    | ((with_reducible apply Moves.after sglFail_moves ?e ?_); case e => rfl)
    | ((with_reducible apply Moves.after sglExcess_moves ?e ?_); case e => rfl)
    | ((with_reducible apply Moves.after startWrite_moves ?e ?_); case e => rfl)
    | with_reducible apply Ends.next ?_
    | with_reducible apply Ends.ite ?_ ?_
    | with_reducible apply Moves.ite ?_ ?_
    | split

theorem execNvmeWriteZeroes_moves {x0 x1 x2} : Ends 2200902303844 x2 (execNvmeWriteZeroes x0 x1 x2) := by
  unfold execNvmeWriteZeroes
  repeat' first
    | with_reducible assumption
    | with_reducible apply Moves.refl
    | ((with_reducible apply Moves.after (Moves.of_opt2 ?p wcAlloc_moves) ?e ?_); (case p => assumption); case e => rfl)
    | ((with_reducible apply Moves.trans ?_ (ioRow_moves ?e (fun _ _ => ?_))); case e => rfl)
    | ((with_reducible apply Moves.after charge_moves ?e ?_); case e => rfl)
    | ((with_reducible apply Moves.after startWrite_moves ?e ?_); case e => rfl)
    | with_reducible apply Ends.next ?_
    | with_reducible apply Ends.ite ?_ ?_
    | with_reducible apply Moves.ite ?_ ?_
    | split

theorem execWriteDataLanded_moves {x0 x1 x2} : Ends 2200969414244 x2 (execWriteDataLanded x0 x1 x2) := by
  unfold execWriteDataLanded
  repeat' first
    | (extract_lets +onlyGivenNames y; first | clear_value y | subst y)
    | with_reducible assumption
    | with_reducible apply Moves.refl
    | ((with_reducible apply Moves.after slotPut_moves ?e ?_); case e => rfl)
    | ((with_reducible apply Moves.after cmdPut_moves ?e ?_); case e => rfl)
    | ((with_reducible apply Moves.after piFailed_moves ?e ?_); case e => rfl)
    | ((with_reducible apply Moves.after hqFinish_moves ?e ?_); case e => rfl)
    | ((with_reducible apply Moves.after wcRelease_moves ?e ?_); case e => rfl)
    | with_reducible apply Ends.next ?_
    | with_reducible apply Ends.ite ?_ ?_
    | with_reducible apply Moves.ite ?_ ?_
    | with_reducible apply Moves.foldl (fun _ _ => ?_) ?_
    | with_reducible apply Moves.foldl2 (fun _ _ => ?_) ?_
    | split

theorem execNvmeFlush_moves {x0 x1 x2} : Ends 2199912448004 x2 (execNvmeFlush x0 x1 x2) := by
  unfold execNvmeFlush
  repeat' first
    | (extract_lets +onlyGivenNames y; first | (refine Moves.bind (x := y) ?_ fun _ => ?_; (on_goal 2 => clear_value y); subst y) | clear_value y | subst y)
    | with_reducible assumption
    | with_reducible apply Moves.refl
    | ((with_reducible apply Moves.after cmdPut_moves ?e ?_); case e => rfl)
    | ((with_reducible apply Moves.after hqFinish_moves ?e ?_); case e => rfl)
    | ((with_reducible apply Moves.after askClose_moves ?e ?_); case e => rfl)
    | ((with_reducible apply Moves.trans ?_ (ioRow_moves ?e (fun _ _ => ?_))); case e => rfl)
    | ((with_reducible apply Moves.after charge_moves ?e ?_); case e => rfl)
    | with_reducible apply Ends.next ?_
    | with_reducible apply Ends.ite ?_ ?_
    | with_reducible apply Moves.ite ?_ ?_

theorem bindAll_moves {x0 x1} : Moves 1610612768 x1 (bindAll x0 x1) := by
  unfold bindAll
  repeat' first
    | (extract_lets +onlyGivenNames y; first | (refine Moves.bind (x := y) ?_ fun _ => ?_; (on_goal 2 => clear_value y); subst y) | clear_value y | subst y)
    | with_reducible assumption
    | with_reducible apply Moves.refl
    | ((with_reducible apply Moves.after slotPut_moves ?e ?_); case e => rfl)
    | ((with_reducible apply Moves.after cmdPut_moves ?e ?_); case e => rfl)
    | with_reducible apply Moves.foldl (fun _ _ => ?_) ?_
    | with_reducible apply Moves.foldl2 (fun _ _ => ?_) ?_
    | split

theorem dispatchRead_moves {x0 x1 x2 x3} : Moves 2200902304804 x3 (dispatchRead x0 x1 x2 x3) := by
  unfold dispatchRead
  repeat' first
    | (extract_lets +onlyGivenNames y; first | (refine Moves.bind (x := y) ?_ fun _ => ?_; (on_goal 2 => clear_value y); subst y) | clear_value y | subst y)
    | with_reducible assumption
    | with_reducible apply Moves.refl
    | ((with_reducible apply Moves.after cmdPut_moves ?e ?_); case e => rfl)
    | ((with_reducible apply Moves.after hostRead_moves ?e ?_); case e => rfl)
    | ((with_reducible apply Moves.trans ?_ (ioRow_moves ?e (fun _ _ => ?_))); case e => rfl)
    | ((with_reducible apply Moves.after charge_moves ?e ?_); case e => rfl)
    | ((with_reducible apply Moves.after sglFail_moves ?e ?_); case e => rfl)
    | ((with_reducible apply Moves.after sglExcess_moves ?e ?_); case e => rfl)
    | ((with_reducible apply Moves.after bindAll_moves ?e ?_); case e => rfl)
    | with_reducible apply Moves.ite ?_ ?_
    | split

theorem execNvmeCompare_moves {x0 x1 x2} : Ends 2200902304804 x2 (execNvmeCompare x0 x1 x2) := by
  unfold execNvmeCompare
  repeat' first
    | with_reducible assumption
    | with_reducible apply Moves.refl
    | ((with_reducible apply Moves.after dispatchRead_moves ?e ?_); case e => rfl)
    | with_reducible apply Ends.next ?_

theorem execNvmeVerify_moves {x0 x1 x2} : Ends 2200902304804 x2 (execNvmeVerify x0 x1 x2) := by
  unfold execNvmeVerify
  repeat' first
    | with_reducible assumption
    | with_reducible apply Moves.refl
    | ((with_reducible apply Moves.after dispatchRead_moves ?e ?_); case e => rfl)
    | with_reducible apply Ends.next ?_

theorem execNvmeRead_moves {x0 x1 x2} : Ends 2200902304804 x2 (execNvmeRead x0 x1 x2) := by
  unfold execNvmeRead
  repeat' first
    | with_reducible assumption
    | with_reducible apply Moves.refl
    | ((with_reducible apply Moves.after dispatchRead_moves ?e ?_); case e => rfl)
    | with_reducible apply Ends.next ?_

theorem dsmDone_moves {x0 x1 x2} : Moves 2199845339140 x2 (dsmDone x0 x1 x2) := by
  unfold dsmDone
  repeat' first
    | (extract_lets +onlyGivenNames y; first | clear_value y | subst y)
    | with_reducible assumption
    | with_reducible apply Moves.refl
    | ((with_reducible apply Moves.after hqFinish_moves ?e ?_); case e => rfl)
    | fail_if_no_progress ((with_reducible apply Moves.set_ldg ?e ?_); case e => rfl)
    | with_reducible apply Moves.ite ?_ ?_

theorem execNvmeDatasetManagement_moves {x0 x1 x2} : Ends 2199845340164 x2 (execNvmeDatasetManagement x0 x1 x2) := by
  unfold execNvmeDatasetManagement
  repeat' first
    | (extract_lets +onlyGivenNames y; first | clear_value y | subst y)
    | with_reducible assumption
    | with_reducible apply Moves.refl
    | ((with_reducible apply Moves.after cmdPut_moves ?e ?_); case e => rfl)
    | ((with_reducible apply Moves.after hostRead_moves ?e ?_); case e => rfl)
    | ((with_reducible apply Moves.trans ?_ (ioRow_moves ?e (fun _ _ => ?_))); case e => rfl)
    | ((with_reducible apply Moves.after charge_moves ?e ?_); case e => rfl)
    | ((with_reducible apply Moves.after sglFail_moves ?e ?_); case e => rfl)
    | ((with_reducible apply Moves.after sglExcess_moves ?e ?_); case e => rfl)
    | ((with_reducible apply Moves.after dsmDone_moves ?e ?_); case e => rfl)
    | with_reducible apply Ends.next ?_
    | with_reducible apply Ends.ite ?_ ?_
    | with_reducible apply Moves.ite ?_ ?_
    | split

theorem execInvalidOpcode_moves {x0 x1 x2} : Ends 2199828561924 x2 (execInvalidOpcode x0 x1 x2) := by
  unfold execInvalidOpcode
  repeat' first
    | with_reducible assumption
    | with_reducible apply Moves.refl
    | ((with_reducible apply Moves.after hqFinish_moves ?e ?_); case e => rfl)
    | with_reducible apply Ends.next ?_
    | with_reducible apply Ends.ite ?_ ?_
    | with_reducible apply Moves.ite ?_ ?_
    | split

theorem openQueue_moves {x0 x1 x2} : Moves 805306368 x2 (openQueue x0 x1 x2) := by
  unfold openQueue
  repeat' first
    | (extract_lets +onlyGivenNames y; first | clear_value y | subst y)
    | with_reducible assumption
    | with_reducible apply Moves.refl
    | ((with_reducible apply Moves.after qpPut_moves ?e ?_); case e => rfl)
    | fail_if_no_progress ((with_reducible apply Moves.set_hq ?e ?_); case e => rfl)

theorem connect_moves {x0 x1 x2} : Moves 6597875073028 x2 (connect x0 x1 x2) := by
  unfold connect
  repeat' first
    | (extract_lets +onlyGivenNames y; first | (refine Moves.bind (x := y) ?_ fun _ => ?_; (on_goal 2 => clear_value y); subst y) | (refine of_fun y ?_; subst y) | clear_value y | subst y)
    | with_reducible assumption
    | with_reducible apply Moves.refl
    | ((with_reducible apply Moves.after draw_moves ?e ?_); case e => rfl)
    | ((with_reducible apply Moves.after (Moves.of_pair ?p draw_moves) ?e ?_); (case p => assumption); case e => rfl)
    | ((with_reducible apply Moves.after hqFinish_moves ?e ?_); case e => rfl)
    | ((with_reducible apply Moves.after hqFinishDw_moves ?e ?_); case e => rfl)
    | ((with_reducible apply Moves.after openQueue_moves ?e ?_); case e => rfl)
    | fail_if_no_progress ((with_reducible apply Moves.set_hq ?e ?_); case e => rfl)
    | with_reducible apply Moves.ite ?_ ?_
    | split

theorem pullData_moves {x0 x1} : Moves 2199828561924 x1 (pullData x0 x1) := by
  unfold pullData
  repeat' first
    | with_reducible assumption
    | with_reducible apply Moves.refl
    | ((with_reducible apply Moves.after cmdPut_moves ?e ?_); case e => rfl)
    | ((with_reducible apply Moves.after hostRead_moves ?e ?_); case e => rfl)

theorem execFabricsConnect_moves {x0 x1 x2} : Ends 6597875073028 x2 (execFabricsConnect x0 x1 x2) := by
  unfold execFabricsConnect
  repeat' first
    | with_reducible assumption
    | with_reducible apply Moves.refl
    | ((with_reducible apply Moves.trans ?_ (adminRow_moves ?e (fun _ _ => ?_))); case e => rfl)
    | ((with_reducible apply Moves.after connect_moves ?e ?_); case e => rfl)
    | ((with_reducible apply Moves.after pullData_moves ?e ?_); case e => rfl)
    | with_reducible apply Ends.next ?_
    | with_reducible apply Ends.ite ?_ ?_
    | with_reducible apply Moves.ite ?_ ?_
    | split

theorem execPropertyGet_moves {x0 x1 x2} : Ends 2199828561924 x2 (execPropertyGet x0 x1 x2) := by
  unfold execPropertyGet
  repeat' first
    | (extract_lets +onlyGivenNames y; first | clear_value y | subst y)
    | with_reducible assumption
    | with_reducible apply Moves.refl
    | ((with_reducible apply Moves.after hqFinishDw_moves ?e ?_); case e => rfl)
    | ((with_reducible apply Moves.trans ?_ (adminRow_moves ?e (fun _ _ => ?_))); case e => rfl)
    | with_reducible apply Ends.next ?_
    | with_reducible apply Ends.ite ?_ ?_
    | with_reducible apply Moves.ite ?_ ?_
    | split

theorem execPropertySet_moves {x0 x1 x2} : Ends 2200969414244 x2 (execPropertySet x0 x1 x2) := by
  unfold execPropertySet
  repeat' first
    | (extract_lets +onlyGivenNames y; first | (refine Moves.bind (x := y) ?_ fun _ => ?_; (on_goal 2 => clear_value y); subst y) | clear_value y | subst y)
    | with_reducible assumption
    | with_reducible apply Moves.refl
    | ((with_reducible apply Moves.after hqFinish_moves ?e ?_); case e => rfl)
    | ((with_reducible apply Moves.after deleteCtrlQueues_moves ?e ?_); case e => rfl)
    | ((with_reducible apply Moves.trans ?_ (adminRow_moves ?e (fun _ _ => ?_))); case e => rfl)
    | fail_if_no_progress ((with_reducible apply Moves.set_hq ?e ?_); case e => rfl)
    | with_reducible apply Ends.next ?_
    | with_reducible apply Ends.ite ?_ ?_
    | with_reducible apply Moves.ite ?_ ?_
    | split

theorem execFabricsDisconnect_moves {x0 x1 x2} : Ends 2200969414244 x2 (execFabricsDisconnect x0 x1 x2) := by
  unfold execFabricsDisconnect
  repeat' first
    | with_reducible assumption
    | with_reducible apply Moves.refl
    | ((with_reducible apply Moves.after hqFinish_moves ?e ?_); case e => rfl)
    | ((with_reducible apply Moves.after deleteQueue_moves ?e ?_); case e => rfl)
    | ((with_reducible apply Moves.trans ?_ (adminRow_moves ?e (fun _ _ => ?_))); case e => rfl)
    | with_reducible apply Ends.next ?_
    | with_reducible apply Ends.ite ?_ ?_
    | with_reducible apply Moves.ite ?_ ?_

theorem handOff_moves {x0 x1} : Moves 4398583383588 x1 (handOff x0 x1) := by
  unfold handOff
  repeat' first
    | (extract_lets +onlyGivenNames y; first | (refine Moves.bind (x := y) ?_ fun _ => ?_; (on_goal 2 => clear_value y); subst y) | clear_value y | subst y)
    | with_reducible assumption
    | with_reducible apply Moves.refl
    | ((with_reducible apply Moves.after wrF_moves ?e ?_); case e => rfl)
    | ((with_reducible apply Moves.after memWrite_moves ?e ?_); case e => rfl)
    | ((with_reducible apply Moves.after draw_moves ?e ?_); case e => rfl)
    | ((with_reducible apply Moves.after (Moves.of_pair ?p draw_moves) ?e ?_); (case p => assumption); case e => rfl)
    | ((with_reducible apply Moves.after event_moves ?e ?_); case e => rfl)
    | ((with_reducible apply Moves.after cmdPut_moves ?e ?_); case e => rfl)
    | fail_if_no_progress ((with_reducible apply Moves.set_hq ?e ?_); case e => rfl)
    | with_reducible apply Moves.ite ?_ ?_

theorem adminRefill_moves {x0 x1} : Moves 4398583383588 x1 (adminRefill x0 x1) := by
  induction' x0 with n ih generalizing x1
  all_goals unfold adminRefill
  all_goals repeat' first
    | (extract_lets +onlyGivenNames y; first | clear_value y | subst y)
    | with_reducible assumption
    | with_reducible apply Moves.refl
    | ((with_reducible apply Moves.after handOff_moves ?e ?_); case e => rfl)
    | fail_if_no_progress ((with_reducible apply Moves.set_hq ?e ?_); case e => rfl)
    | with_reducible apply Moves.ite ?_ ?_
    | with_reducible apply Moves.trans ?_ ih
    | split

theorem toFirmware_moves {x0 x1 x2 x3} : Moves 6597875074596 x3 (toFirmware x0 x1 x2 x3) := by
  unfold toFirmware
  repeat' first
    | with_reducible assumption
    | with_reducible apply Moves.refl
    | ((with_reducible apply Moves.trans ?_ (adminRow_moves ?e (fun _ _ => ?_))); case e => rfl)
    | ((with_reducible apply Moves.after pullData_moves ?e ?_); case e => rfl)
    | ((with_reducible apply Moves.after handOff_moves ?e ?_); case e => rfl)
    | with_reducible apply Moves.ite ?_ ?_
    | split

theorem execGetLogPage_moves {x0 x1 x2} : Ends 6597875074596 x2 (execGetLogPage x0 x1 x2) := by
  unfold execGetLogPage
  repeat' first
    | with_reducible assumption
    | with_reducible apply Moves.refl
    | ((with_reducible apply Moves.after toFirmware_moves ?e ?_); case e => rfl)
    | with_reducible apply Ends.next ?_

theorem execIdentify_moves {x0 x1 x2} : Ends 6597875074596 x2 (execIdentify x0 x1 x2) := by
  unfold execIdentify
  repeat' first
    | with_reducible assumption
    | with_reducible apply Moves.refl
    | ((with_reducible apply Moves.after toFirmware_moves ?e ?_); case e => rfl)
    | with_reducible apply Ends.next ?_

theorem execSetFeatures_moves {x0 x1 x2} : Ends 6597875074596 x2 (execSetFeatures x0 x1 x2) := by
  unfold execSetFeatures
  repeat' first
    | with_reducible assumption
    | with_reducible apply Moves.refl
    | ((with_reducible apply Moves.after toFirmware_moves ?e ?_); case e => rfl)
    | with_reducible apply Ends.next ?_

theorem execGetFeatures_moves {x0 x1 x2} : Ends 6597875074596 x2 (execGetFeatures x0 x1 x2) := by
  unfold execGetFeatures
  repeat' first
    | with_reducible assumption
    | with_reducible apply Moves.refl
    | ((with_reducible apply Moves.after toFirmware_moves ?e ?_); case e => rfl)
    | with_reducible apply Ends.next ?_

theorem execNvmeAbort_moves {x0 x1 x2} : Ends 2199828561924 x2 (execNvmeAbort x0 x1 x2) := by
  unfold execNvmeAbort
  repeat' first
    | with_reducible assumption
    | with_reducible apply Moves.refl
    | ((with_reducible apply Moves.after bump_moves ?e ?_); case e => rfl)
    | ((with_reducible apply Moves.after hqFinishDw_moves ?e ?_); case e => rfl)
    | ((with_reducible apply Moves.trans ?_ (adminRow_moves ?e (fun _ _ => ?_))); case e => rfl)
    | with_reducible apply Ends.next ?_

theorem execAsynchronousEventRequest_moves {x0 x1 x2} : Ends 2199828561924 x2 (execAsynchronousEventRequest x0 x1 x2) := by
  unfold execAsynchronousEventRequest
  repeat' first
    | (extract_lets +onlyGivenNames y; first | clear_value y | subst y)
    | with_reducible assumption
    | with_reducible apply Moves.refl
    | ((with_reducible apply Moves.after cmdPut_moves ?e ?_); case e => rfl)
    | ((with_reducible apply Moves.after hqFinish_moves ?e ?_); case e => rfl)
    | ((with_reducible apply Moves.after hqFinishDw_moves ?e ?_); case e => rfl)
    | ((with_reducible apply Moves.trans ?_ (adminRow_moves ?e (fun _ _ => ?_))); case e => rfl)
    | fail_if_no_progress ((with_reducible apply Moves.set_hq ?e ?_); case e => rfl)
    | with_reducible apply Ends.next ?_
    | with_reducible apply Ends.ite ?_ ?_
    | with_reducible apply Moves.ite ?_ ?_
    | split

theorem execKeepAlive_moves {x0 x1 x2} : Ends 2199828561924 x2 (execKeepAlive x0 x1 x2) := by
  unfold execKeepAlive
  repeat' first
    | with_reducible assumption
    | with_reducible apply Moves.refl
    | ((with_reducible apply Moves.after hqFinish_moves ?e ?_); case e => rfl)
    | with_reducible apply Ends.next ?_
    | with_reducible apply Ends.ite ?_ ?_
    | with_reducible apply Moves.ite ?_ ?_
    | split

theorem noteFeature_moves {x0 x1 x2} : Moves 536870912 x2 (noteFeature x0 x1 x2) := by
  unfold noteFeature
  repeat' first
    | (extract_lets +onlyGivenNames y; first | clear_value y | subst y)
    | with_reducible assumption
    | with_reducible apply Moves.refl
    | fail_if_no_progress ((with_reducible apply Moves.set_hq ?e ?_); case e => rfl)
    | with_reducible apply Moves.ite ?_ ?_
    | split

theorem execAdminReply_moves {x0 x1} : Ends 6665554363940 x1 (execAdminReply x0 x1) := by
  unfold execAdminReply
  repeat' first
    | (extract_lets +onlyGivenNames y; first | (refine Ends.bind (x := y) ?_ fun _ => ?_; (on_goal 2 => clear_value y); subst y) | (refine Moves.bind (x := y) ?_ fun _ => ?_; (on_goal 2 => clear_value y); subst y) | clear_value y | subst y)
    | with_reducible assumption
    | with_reducible apply Moves.refl
    | ((with_reducible apply Moves.after conflict_moves ?e ?_); case e => rfl)
    | ((with_reducible apply Moves.after commandWrite_moves ?e ?_); case e => rfl)
    | ((with_reducible apply Moves.after cmdPut_moves ?e ?_); case e => rfl)
    | ((with_reducible apply Moves.after hostWrite_moves ?e ?_); case e => rfl)
    | ((with_reducible apply Moves.after postCqe_moves ?e ?_); case e => rfl)
    | ((with_reducible apply Moves.after noteFeature_moves ?e ?_); case e => rfl)
    | fail_if_no_progress ((with_reducible apply Moves.set_hq ?e ?_); case e => rfl)
    | with_reducible apply Ends.next ?_
    | with_reducible apply Ends.ite ?_ ?_
    | with_reducible apply Moves.ite ?_ ?_
    | split

theorem execKatoExpiry_moves {x0 x1} : Ends 2200969414244 x1 (execKatoExpiry x0 x1) := by
  unfold execKatoExpiry
  repeat' first
    | (extract_lets +onlyGivenNames y; first | (refine Ends.bind (x := y) ?_ fun _ => ?_; (on_goal 2 => clear_value y); subst y) | clear_value y | subst y)
    | with_reducible assumption
    | with_reducible apply Moves.refl
    | ((with_reducible apply Moves.after hallmark_moves ?e ?_); case e => rfl)
    | ((with_reducible apply Moves.after deleteCtrlQueues_moves ?e ?_); case e => rfl)
    | fail_if_no_progress ((with_reducible apply Moves.set_hq ?e ?_); case e => rfl)
    | with_reducible apply Ends.next ?_
    | with_reducible apply Ends.ite ?_ ?_
    | with_reducible apply Moves.ite ?_ ?_
    | split

theorem holdStart_moves {x0} : Moves 536870916 x0 (holdStart x0) := by
  unfold holdStart
  repeat' first
    | (extract_lets +onlyGivenNames y; first | clear_value y | subst y)
    | with_reducible assumption
    | with_reducible apply Moves.refl
    | ((with_reducible apply Moves.after wrF_moves ?e ?_); case e => rfl)
    | fail_if_no_progress ((with_reducible apply Moves.set_hq ?e ?_); case e => rfl)

theorem holdEnd_moves {x0} : Moves 2199828561924 x0 (holdEnd x0) := by
  unfold holdEnd
  repeat' first
    | (extract_lets +onlyGivenNames y; first | (refine Moves.bind (x := y) ?_ fun _ => ?_; (on_goal 2 => clear_value y); subst y) | clear_value y | subst y)
    | with_reducible assumption
    | with_reducible apply Moves.refl
    | ((with_reducible apply Moves.after wrF_moves ?e ?_); case e => rfl)
    | ((with_reducible apply Moves.after postHeld_moves ?e ?_); case e => rfl)
    | with_reducible apply Moves.ite ?_ ?_

theorem execHqHoldWrite_moves {x0 x1} : Ends 6665554363940 x1 (execHqHoldWrite x0 x1) := by
  unfold execHqHoldWrite
  repeat' first
    | (extract_lets +onlyGivenNames y; first | (refine Ends.bind (x := y) ?_ fun _ => ?_; (on_goal 2 => clear_value y); subst y) | (refine Moves.bind (x := y) ?_ fun _ => ?_; (on_goal 2 => clear_value y); subst y) | clear_value y | subst y)
    | with_reducible assumption
    | with_reducible apply Moves.refl
    | ((with_reducible apply Moves.after blockWrite_moves ?e ?_); case e => rfl)
    | ((with_reducible apply Moves.after holdStart_moves ?e ?_); case e => rfl)
    | ((with_reducible apply Moves.after holdEnd_moves ?e ?_); case e => rfl)
    | with_reducible apply Ends.next ?_
    | with_reducible apply Ends.ite ?_ ?_
    | with_reducible apply Moves.ite ?_ ?_

theorem execHoldExpiry_moves {x0} : Ends 2199828562948 x0 (execHoldExpiry x0) := by
  unfold execHoldExpiry
  repeat' first
    | (extract_lets +onlyGivenNames y; first | clear_value y | subst y)
    | with_reducible assumption
    | with_reducible apply Moves.refl
    | ((with_reducible apply Moves.after wrF_moves ?e ?_); case e => rfl)
    | ((with_reducible apply Moves.after hallmark_moves ?e ?_); case e => rfl)
    | ((with_reducible apply Moves.after holdEnd_moves ?e ?_); case e => rfl)
    | with_reducible apply Ends.next ?_
    | with_reducible apply Ends.ite ?_ ?_
    | with_reducible apply Moves.ite ?_ ?_

theorem execQosBucketRefill_moves {x0} : Ends 536870912 x0 (execQosBucketRefill x0) := by
  unfold execQosBucketRefill
  repeat' first
    | (extract_lets +onlyGivenNames y; first | clear_value y | subst y)
    | with_reducible assumption
    | with_reducible apply Moves.refl
    | fail_if_no_progress ((with_reducible apply Moves.set_hq ?e ?_); case e => rfl)
    | with_reducible apply Ends.next ?_
    | with_reducible apply Ends.ite ?_ ?_
    | with_reducible apply Moves.ite ?_ ?_

theorem qosMiss_moves {x0 x1} : Moves 1028 x0 (qosMiss x0 x1) := by
  unfold qosMiss
  repeat' first
    | (extract_lets +onlyGivenNames y; first | (refine of_fun y ?_; subst y) | clear_value y | subst y)
    | with_reducible assumption
    | with_reducible apply Moves.refl
    | ((with_reducible apply Moves.after bump_moves ?e ?_); case e => rfl)
    | ((with_reducible apply Moves.after hallmark_moves ?e ?_); case e => rfl)
    | with_reducible apply Moves.ite ?_ ?_

theorem execQosWindowEnd_moves {x0} : Ends 536871940 x0 (execQosWindowEnd x0) := by
  unfold execQosWindowEnd
  repeat' first
    | (extract_lets +onlyGivenNames y; first | (refine Ends.bind (x := y) ?_ fun _ => ?_; (on_goal 2 => clear_value y); subst y) | clear_value y | subst y)
    | with_reducible assumption
    | with_reducible apply Moves.refl
    | ((with_reducible apply Moves.after qosMiss_moves ?e ?_); case e => rfl)
    | fail_if_no_progress ((with_reducible apply Moves.set_hq ?e ?_); case e => rfl)
    | with_reducible apply Ends.next ?_
    | with_reducible apply Ends.ite ?_ ?_
    | with_reducible apply Moves.ite ?_ ?_
    | with_reducible apply Moves.foldl (fun _ _ => ?_) ?_

theorem execQosMinWrite_moves {x0 x1} : Ends 4466262672932 x1 (execQosMinWrite x0 x1) := by
  unfold execQosMinWrite
  repeat' first
    | (extract_lets +onlyGivenNames y; first | (refine Ends.bind (x := y) ?_ fun _ => ?_; (on_goal 2 => clear_value y); subst y) | clear_value y | subst y)
    | with_reducible assumption
    | with_reducible apply Moves.refl
    | ((with_reducible apply Moves.after wr_moves ?e ?_); case e => rfl)
    | ((with_reducible apply Moves.after bump_moves ?e ?_); case e => rfl)
    | ((with_reducible apply Moves.after commandWrite_moves ?e ?_); case e => rfl)
    | ((with_reducible apply Moves.after nsPut_moves ?e ?_); case e => rfl)
    | with_reducible apply Ends.next ?_
    | with_reducible apply Ends.ite ?_ ?_
    | with_reducible apply Moves.ite ?_ ?_

theorem claimNs_moves {x0 x1} : Moves 16777216 x1 (claimNs x0 x1) := by
  unfold claimNs
  repeat' first
    | (extract_lets +onlyGivenNames y; first | clear_value y | subst y)
    | with_reducible assumption
    | with_reducible apply Moves.refl
    | fail_if_no_progress ((with_reducible apply Moves.set_ldg ?e ?_); case e => rfl)
    | with_reducible apply Moves.ite ?_ ?_

theorem execNsCfgWrite_moves {x0 x1} : Ends 4466279450148 x1 (execNsCfgWrite x0 x1) := by
  unfold execNsCfgWrite
  repeat' first
    | (extract_lets +onlyGivenNames y; first | (refine Ends.bind (x := y) ?_ fun _ => ?_; (on_goal 2 => clear_value y); subst y) | (refine Moves.bind (x := y) ?_ fun _ => ?_; (on_goal 2 => clear_value y); subst y) | clear_value y | subst y)
    | with_reducible assumption
    | with_reducible apply Moves.refl
    | ((with_reducible apply Moves.after conflict_moves ?e ?_); case e => rfl)
    | ((with_reducible apply Moves.after commandWrite_moves ?e ?_); case e => rfl)
    | ((with_reducible apply Moves.after nsPut_moves ?e ?_); case e => rfl)
    | ((with_reducible apply Moves.after claimNs_moves ?e ?_); case e => rfl)
    | with_reducible apply Ends.next ?_
    | with_reducible apply Ends.ite ?_ ?_
    | with_reducible apply Moves.ite ?_ ?_

/-! Sys2Proof/Machine/Firmware.lean. -/

theorem fwuStage_moves {x0 x1} : Moves 4 x1 (fwuStage x0 x1) := by
  unfold fwuStage
  repeat' first
    | with_reducible assumption
    | with_reducible apply Moves.refl
    | ((with_reducible apply Moves.after wrF_moves ?e ?_); case e => rfl)

theorem fwuPct_moves {x0 x1} : Moves 4 x1 (fwuPct x0 x1) := by
  unfold fwuPct
  repeat' first
    | with_reducible assumption
    | with_reducible apply Moves.refl
    | ((with_reducible apply Moves.after wrF_moves ?e ?_); case e => rfl)

theorem fwuBegin_moves {x0 x1 x2} : Moves 1048580 x2 (fwuBegin x0 x1 x2) := by
  unfold fwuBegin
  repeat' first
    | (extract_lets +onlyGivenNames y; first | clear_value y | subst y)
    | with_reducible assumption
    | with_reducible apply Moves.refl
    | ((with_reducible apply Moves.after wrF_moves ?e ?_); case e => rfl)
    | ((with_reducible apply Moves.after fwuPct_moves ?e ?_); case e => rfl)
    | fail_if_no_progress ((with_reducible apply Moves.set_fwu ?e ?_); case e => rfl)

theorem fwuIdle_moves {x0} : Moves 1048580 x0 (fwuIdle x0) := by
  unfold fwuIdle
  repeat' first
    | (extract_lets +onlyGivenNames y; first | clear_value y | subst y)
    | with_reducible assumption
    | with_reducible apply Moves.refl
    | ((with_reducible apply Moves.after wrF_moves ?e ?_); case e => rfl)
    | fail_if_no_progress ((with_reducible apply Moves.set_fwu ?e ?_); case e => rfl)

theorem fwuDone_moves {x0} : Moves 1048580 x0 (fwuDone x0) := by
  unfold fwuDone
  repeat' first
    | with_reducible assumption
    | with_reducible apply Moves.refl
    | ((with_reducible apply Moves.after wrF_moves ?e ?_); case e => rfl)
    | ((with_reducible apply Moves.after fwuPct_moves ?e ?_); case e => rfl)
    | ((with_reducible apply Moves.after fwuIdle_moves ?e ?_); case e => rfl)

theorem fwuFail_moves {x0 x1 x2} : Moves 1049604 x2 (fwuFail x0 x1 x2) := by
  unfold fwuFail
  repeat' first
    | with_reducible assumption
    | with_reducible apply Moves.refl
    | ((with_reducible apply Moves.after wrF_moves ?e ?_); case e => rfl)
    | ((with_reducible apply Moves.after bump_moves ?e ?_); case e => rfl)
    | ((with_reducible apply Moves.after hallmark_moves ?e ?_); case e => rfl)
    | ((with_reducible apply Moves.after fwuIdle_moves ?e ?_); case e => rfl)

theorem fwuCmd_moves {m : Nat} {x0 x1 x2} (e : 4465725802020 &&& m = 4465725802020) (kx2 : ∀ a0, Moves m a0 (x2 a0)) : Ends m x1 (fwuCmd x0 x1 x2) := by
  unfold fwuCmd
  repeat' first
    | (extract_lets +onlyGivenNames y; first | (refine Ends.bind (x := y) ?_ fun _ => ?_; (on_goal 2 => clear_value y); subst y) | (refine Moves.bind (x := y) ?_ fun _ => ?_; (on_goal 2 => clear_value y); subst y) | clear_value y | subst y)
    | with_reducible assumption
    | with_reducible apply Moves.refl
    | with_reducible apply Moves.trans ?_ (kx2 _)
    | ((with_reducible apply Moves.after conflict_moves ?e ?_); case e => exact sub_trans rfl e)
    | ((with_reducible apply Moves.after commandWrite_moves ?e ?_); case e => exact sub_trans rfl e)
    | with_reducible apply Ends.next ?_
    | with_reducible apply Ends.ite ?_ ?_
    | with_reducible apply Moves.ite ?_ ?_

theorem execFwuStage_moves {x0 x1} : Ends 4465726883492 x1 (execFwuStage x0 x1) := by
  unfold execFwuStage
  repeat' first
    | (extract_lets +onlyGivenNames y; first | (refine Moves.bind (x := y) ?_ fun _ => ?_; (on_goal 2 => clear_value y); subst y) | clear_value y | subst y)
    | with_reducible assumption
    | with_reducible apply Moves.refl
    | ((with_reducible apply Moves.after norWrite_moves ?e ?_); case e => rfl)
    | ((with_reducible apply Moves.after conflict_moves ?e ?_); case e => rfl)
    | ((with_reducible apply Moves.after fwuStage_moves ?e ?_); case e => rfl)
    | ((with_reducible apply Moves.after fwuBegin_moves ?e ?_); case e => rfl)
    | ((with_reducible apply Moves.after fwuFail_moves ?e ?_); case e => rfl)
    | ((with_reducible apply Ends.after (fwuCmd_moves (m := 4465726883492) ?e (fun _ => ?_)) ?e2 ?_); (case e => rfl); case e2 => first | rfl | exact Nat.and_self _)
    | fail_if_no_progress ((with_reducible apply Moves.set_cells ?e ?_); case e => rfl)
    | fail_if_no_progress ((with_reducible apply Moves.set_fwu ?e ?_); case e => rfl)
    | with_reducible apply Ends.next ?_
    | split

theorem execFwuVerify_moves {x0 x1} : Ends 4465726850596 x1 (execFwuVerify x0 x1) := by
  unfold execFwuVerify
  repeat' first
    | with_reducible assumption
    | with_reducible apply Moves.refl
    | ((with_reducible apply Moves.after fwuStage_moves ?e ?_); case e => rfl)
    | ((with_reducible apply Moves.after fwuBegin_moves ?e ?_); case e => rfl)
    | ((with_reducible apply Ends.after (fwuCmd_moves (m := 4465726850596) ?e (fun _ => ?_)) ?e2 ?_); (case e => rfl); case e2 => first | rfl | exact Nat.and_self _)

theorem execFwuActivate_moves {x0 x1} : Ends 6665555412516 x1 (execFwuActivate x0 x1) := by
  unfold execFwuActivate
  repeat' first
    | with_reducible assumption
    | with_reducible apply Moves.refl
    | ((with_reducible apply Moves.after wrF_moves ?e ?_); case e => rfl)
    | ((with_reducible apply Moves.after conflict_moves ?e ?_); case e => rfl)
    | ((with_reducible apply Moves.after hqAsync_moves ?e ?_); case e => rfl)
    | ((with_reducible apply Moves.after holdStart_moves ?e ?_); case e => rfl)
    | ((with_reducible apply Moves.after fwuBegin_moves ?e ?_); case e => rfl)
    | ((with_reducible apply Moves.after fwuFail_moves ?e ?_); case e => rfl)
    | ((with_reducible apply Ends.after (fwuCmd_moves (m := 6665555412516) ?e (fun _ => ?_)) ?e2 ?_); (case e => rfl); case e2 => first | rfl | exact Nat.and_self _)
    | with_reducible apply Ends.next ?_
    | with_reducible apply Ends.ite ?_ ?_
    | with_reducible apply Moves.ite ?_ ?_
    | split

theorem confirmSlot_moves {x0 x1} : Moves 41988 x1 (confirmSlot x0 x1) := by
  unfold confirmSlot
  extract_lets h svn revoke
  apply Moves.after hallmark_moves rfl
  refine Moves.set_fuses rfl ⟨?_, ?_, Nat.le_max_left _ _, ?_, id, fun h => ⟨h, Nat.le_refl _⟩⟩ (Moves.set_cells rfl (Moves.refl _ _))
  · exact BitVec.or_self (x := x1.fuses.deviceRoot)
  · exact BitVec.or_self (x := x1.fuses.ownerSecret)
  · change x1.fuses.keyRevoked ||| (x1.fuses.keyRevoked ||| revoke) = x1.fuses.keyRevoked ||| revoke
    rw [← Nat.or_assoc, Nat.or_self]

theorem execFwuConfirm_moves {x0 x1} : Ends 4465726891556 x1 (execFwuConfirm x0 x1) := by
  unfold execFwuConfirm
  repeat' first
    | with_reducible assumption
    | with_reducible apply Moves.refl
    | ((with_reducible apply Moves.after fwuDone_moves ?e ?_); case e => rfl)
    | ((with_reducible apply Moves.after fwuFail_moves ?e ?_); case e => rfl)
    | ((with_reducible apply Ends.after (fwuCmd_moves (m := 4465726891556) ?e (fun _ => ?_)) ?e2 ?_); (case e => rfl); case e2 => first | rfl | exact Nat.and_self _)
    | ((with_reducible apply Moves.after confirmSlot_moves ?e ?_); case e => rfl)
    | with_reducible apply Ends.next ?_
    | with_reducible apply Ends.ite ?_ ?_
    | with_reducible apply Moves.ite ?_ ?_

theorem stageDone_moves {x0 x1} : Moves 1082500 x1 (stageDone x0 x1) := by
  unfold stageDone
  repeat' first
    | (extract_lets +onlyGivenNames y; first | (refine Moves.bind (x := y) ?_ fun _ => ?_; (on_goal 2 => clear_value y); subst y) | clear_value y | subst y)
    | with_reducible assumption
    | with_reducible apply Moves.refl
    | ((with_reducible apply Moves.after norWrite_moves ?e ?_); case e => rfl)
    | ((with_reducible apply Moves.after fwuDone_moves ?e ?_); case e => rfl)
    | ((with_reducible apply Moves.after fwuFail_moves ?e ?_); case e => rfl)
    | fail_if_no_progress ((with_reducible apply Moves.set_cells ?e ?_); case e => rfl)
    | with_reducible apply Moves.ite ?_ ?_

theorem verifyDone_moves {x0 x1} : Moves 1049636 x1 (verifyDone x0 x1) := by
  unfold verifyDone
  repeat' first
    | (extract_lets +onlyGivenNames y; first | (refine Moves.bind (x := y) ?_ fun _ => ?_; (on_goal 2 => clear_value y); subst y) | clear_value y | subst y)
    | with_reducible assumption
    | with_reducible apply Moves.refl
    | ((with_reducible apply Moves.after bump_moves ?e ?_); case e => rfl)
    | ((with_reducible apply Moves.after memWrite_moves ?e ?_); case e => rfl)
    | ((with_reducible apply Moves.after hallmark_moves ?e ?_); case e => rfl)
    | ((with_reducible apply Moves.after fwuStage_moves ?e ?_); case e => rfl)
    | ((with_reducible apply Moves.after fwuDone_moves ?e ?_); case e => rfl)
    | ((with_reducible apply Moves.after fwuFail_moves ?e ?_); case e => rfl)
    | with_reducible apply Moves.ite ?_ ?_

theorem activateStep_moves {x0} : Moves 2199829783588 x0 (activateStep x0) := by
  unfold activateStep
  repeat' first
    | (extract_lets +onlyGivenNames y; first | (refine Moves.bind (x := y) ?_ fun _ => ?_; (on_goal 2 => clear_value y); subst y) | clear_value y | subst y)
    | with_reducible assumption
    | with_reducible apply Moves.refl
    | ((with_reducible apply Moves.after memWrite_moves ?e ?_); case e => rfl)
    | ((with_reducible apply Moves.after emit_moves ?e ?_); case e => rfl)
    | ((with_reducible apply Moves.after hallmark_moves ?e ?_); case e => rfl)
    | ((with_reducible apply Moves.after holdEnd_moves ?e ?_); case e => rfl)
    | ((with_reducible apply Moves.after fwuStage_moves ?e ?_); case e => rfl)
    | ((with_reducible apply Moves.after fwuDone_moves ?e ?_); case e => rfl)
    | ((with_reducible apply Moves.after fwuFail_moves ?e ?_); case e => rfl)
    | ((with_reducible apply Moves.after confirmSlot_moves ?e ?_); case e => rfl)
    | fail_if_no_progress ((with_reducible apply Moves.set_fwu ?e ?_); case e => rfl)
    | fail_if_no_progress ((with_reducible apply Moves.set_cells ?e ?_); case e => rfl)
    | fail_if_no_progress ((with_reducible apply Moves.set_boot ?e ?_); case e => rfl)
    | with_reducible apply Moves.ite ?_ ?_

theorem execFwuCommandDone_moves {x0 x1} : Ends 2199829783716 x1 (execFwuCommandDone x0 x1) := by
  unfold execFwuCommandDone
  repeat' first
    | with_reducible assumption
    | with_reducible apply Moves.refl
    | ((with_reducible apply Moves.after stageDone_moves ?e ?_); case e => rfl)
    | ((with_reducible apply Moves.after verifyDone_moves ?e ?_); case e => rfl)
    | ((with_reducible apply Moves.after activateStep_moves ?e ?_); case e => rfl)
    | with_reducible apply Ends.next ?_
    | with_reducible apply Ends.ite ?_ ?_
    | with_reducible apply Moves.ite ?_ ?_
    | split

theorem execConfirmTimeout_moves {x0} : Ends 4947802316670 x0 (execConfirmTimeout x0) := by
  unfold execConfirmTimeout
  repeat' first
    | (extract_lets +onlyGivenNames y; first | (refine Ends.bind (x := y) ?_ fun _ => ?_; (on_goal 2 => clear_value y); subst y) | (refine Moves.bind (x := y) ?_ fun _ => ?_; (on_goal 2 => clear_value y); subst y) | clear_value y | subst y)
    | with_reducible assumption
    | with_reducible apply Moves.refl
    | ((with_reducible apply Moves.after bump_moves ?e ?_); case e => rfl)
    | ((with_reducible apply Moves.after draw_moves ?e ?_); case e => rfl)
    | ((with_reducible apply Moves.after (Moves.of_pair ?p draw_moves) ?e ?_); (case p => assumption); case e => rfl)
    | ((with_reducible apply Moves.after hallmark_moves ?e ?_); case e => rfl)
    | ((with_reducible apply Moves.after tmkRevert_moves ?e ?_); case e => rfl)
    | ((with_reducible apply Moves.after chipReset_moves ?e ?_); case e => rfl)
    | ((with_reducible apply Moves.after flushHallmarks_moves ?e ?_); case e => rfl)
    | fail_if_no_progress ((with_reducible apply Moves.set_cells ?e ?_); case e => rfl)
    | with_reducible apply Ends.next ?_
    | with_reducible apply Ends.ite ?_ ?_
    | with_reducible apply Moves.ite ?_ ?_

theorem fwuAbandon_moves {x0} : Moves 2199829610500 x0 (fwuAbandon x0) := by
  unfold fwuAbandon
  repeat' first
    | with_reducible assumption
    | with_reducible apply Moves.refl
    | ((with_reducible apply Moves.after holdEnd_moves ?e ?_); case e => rfl)
    | ((with_reducible apply Moves.after fwuIdle_moves ?e ?_); case e => rfl)
    | split

theorem execNorLost_moves {x0} : Ends 6665555412516 x0 (execNorLost x0) := by
  unfold execNorLost
  repeat' first
    | with_reducible assumption
    | with_reducible apply Moves.refl
    | ((with_reducible apply Moves.after recordFault_moves ?e ?_); case e => rfl)
    | ((with_reducible apply Moves.after fwuAbandon_moves ?e ?_); case e => rfl)
    | with_reducible apply Ends.next ?_

end Sys2Proof.Machine
end

