-- ==== Sys2Proof/Laws/MovesForges.lean ====
section
/-! SUPPORT. What each definition may change. Forges, drawplates and the ingot caster. -/

namespace Sys2Proof.Machine

/-! Sys2Proof/Machine/Forges.lean. -/

theorem withGrain_moves {m : Nat} {x0 x1 x2 x3} (e : 4465725802020 &&& m = 4465725802020) (kx2 : ∀ a0 a1, Moves m a1 (x2 a0 a1)) : Moves m x3 (withGrain x0 x1 x2 x3) := by
  unfold withGrain
  repeat' first
    | with_reducible assumption
    | with_reducible apply Moves.refl
    | with_reducible apply Moves.trans ?_ (kx2 _ _)
    | ((with_reducible apply Moves.after frgTurn_moves ?e ?_); case e => exact sub_trans rfl e)
    | with_reducible apply Moves.ite ?_ ?_
    | split

theorem startEpoch_moves {x0 x1} : Moves 17179869184 x1 (startEpoch x0 x1) := by
  unfold startEpoch
  repeat' first
    | (extract_lets +onlyGivenNames y; first | clear_value y | subst y)
    | with_reducible assumption
    | with_reducible apply Moves.refl
    | fail_if_no_progress ((with_reducible apply Moves.set_frg ?e ?_); case e => rfl)
    | with_reducible apply Moves.ite ?_ ?_

theorem execForgeHandle_moves {x0 x1 x2} : Ends 4465726326308 x2 (execForgeHandle x0 x1 x2) := by
  unfold execForgeHandle
  repeat' first
    | (extract_lets +onlyGivenNames y; first | (refine Ends.bind (x := y) ?_ fun _ => ?_; (on_goal 2 => clear_value y); subst y) | (refine Moves.bind (x := y) ?_ fun _ => ?_; (on_goal 2 => clear_value y); subst y) | clear_value y | subst y)
    | with_reducible assumption
    | with_reducible apply Moves.refl
    | ((with_reducible apply Moves.after slotPut_moves ?e ?_); case e => rfl)
    | ((with_reducible apply Moves.after fwinPut_moves ?e ?_); case e => rfl)
    | ((with_reducible apply Moves.after frgStat_moves ?e ?_); case e => rfl)
    | ((with_reducible apply Moves.after recordFault_moves ?e ?_); case e => rfl)
    | ((with_reducible apply Moves.after ungate_moves ?e ?_); case e => rfl)
    | ((with_reducible apply Moves.after startEpoch_moves ?e ?_); case e => rfl)
    | with_reducible apply Ends.next ?_
    | with_reducible apply Ends.ite ?_ ?_
    | with_reducible apply Moves.ite ?_ ?_

theorem crcSlag_moves {x0 x1 x2} : Moves 17179870724 x2 (crcSlag x0 x1 x2) := by
  unfold crcSlag
  repeat' first
    | with_reducible assumption
    | with_reducible apply Moves.refl
    | ((with_reducible apply Moves.after bump_moves ?e ?_); case e => rfl)
    | ((with_reducible apply Moves.after hallmark_moves ?e ?_); case e => rfl)
    | ((with_reducible apply Moves.after slagGrainIn_moves ?e ?_); case e => rfl)

theorem refetch_moves {x0 x1 x2} : Moves 2216270235140 x2 (refetch x0 x1 x2) := by
  unfold refetch
  repeat' first
    | with_reducible assumption
    | with_reducible apply Moves.refl
    | ((with_reducible apply Moves.after grainPut_moves ?e ?_); case e => rfl)
    | ((with_reducible apply Moves.after sendW_moves ?e ?_); case e => rfl)
    | ((with_reducible apply Moves.after crcSlag_moves ?e ?_); case e => rfl)
    | with_reducible apply Moves.ite ?_ ?_

theorem execGrainIntakeDone_moves {x0 x1 x2 x3} : Ends 6664816166436 x3 (execGrainIntakeDone x0 x1 x2 x3) := by
  unfold execGrainIntakeDone
  repeat' first
    | (extract_lets +onlyGivenNames y; first | clear_value y | subst y)
    | with_reducible assumption
    | with_reducible apply Moves.refl
    | ((with_reducible apply Moves.after intakeGood_moves ?e ?_); case e => rfl)
    | ((with_reducible apply Moves.trans ?_ (withGrain_moves ?e (fun _ _ => ?_))); case e => rfl)
    | ((with_reducible apply Moves.after refetch_moves ?e ?_); case e => rfl)
    | with_reducible apply Ends.next ?_
    | with_reducible apply Ends.ite ?_ ?_
    | with_reducible apply Moves.ite ?_ ?_

theorem execGrainRefetchData_moves {x0 x1 x2} : Ends 4465725802020 x2 (execGrainRefetchData x0 x1 x2) := by
  unfold execGrainRefetchData
  repeat' first
    | (extract_lets +onlyGivenNames y; first | (refine Moves.bind (x := y) ?_ fun _ => ?_; (on_goal 2 => clear_value y); subst y) | clear_value y | subst y)
    | with_reducible assumption
    | with_reducible apply Moves.refl
    | ((with_reducible apply Moves.after bump_moves ?e ?_); case e => rfl)
    | ((with_reducible apply Moves.after hallmark_moves ?e ?_); case e => rfl)
    | ((with_reducible apply Moves.after intakeGood_moves ?e ?_); case e => rfl)
    | ((with_reducible apply Moves.trans ?_ (withGrain_moves ?e (fun _ _ => ?_))); case e => rfl)
    | ((with_reducible apply Moves.after crcSlag_moves ?e ?_); case e => rfl)
    | fail_if_no_progress ((with_reducible apply Moves.set_frg ?e ?_); case e => rfl)
    | with_reducible apply Ends.next ?_
    | with_reducible apply Ends.ite ?_ ?_
    | with_reducible apply Moves.ite ?_ ?_
    | split

theorem execRefetchTimeout_moves {x0 x1 x2} : Ends 4465725802020 x2 (execRefetchTimeout x0 x1 x2) := by
  unfold execRefetchTimeout
  repeat' first
    | with_reducible assumption
    | with_reducible apply Moves.refl
    | ((with_reducible apply Moves.trans ?_ (withGrain_moves ?e (fun _ _ => ?_))); case e => rfl)
    | ((with_reducible apply Moves.after crcSlag_moves ?e ?_); case e => rfl)
    | with_reducible apply Ends.next ?_
    | with_reducible apply Ends.ite ?_ ?_
    | with_reducible apply Moves.ite ?_ ?_

theorem execLookupAnswer_moves {x0 x1 x2} : Ends 4465742579236 x2 (execLookupAnswer x0 x1 x2) := by
  unfold execLookupAnswer
  repeat' first
    | with_reducible assumption
    | with_reducible apply Moves.refl
    | ((with_reducible apply Moves.after missSettled_moves ?e ?_); case e => rfl)
    | ((with_reducible apply Moves.after askIndex_moves ?e ?_); case e => rfl)
    | ((with_reducible apply Moves.trans ?_ (withGrain_moves ?e (fun _ _ => ?_))); case e => rfl)
    | with_reducible apply Ends.next ?_
    | with_reducible apply Ends.ite ?_ ?_
    | with_reducible apply Moves.ite ?_ ?_

theorem execPendingTimeout_moves {x0 x1 x2} : Ends 4465725802020 x2 (execPendingTimeout x0 x1 x2) := by
  unfold execPendingTimeout
  repeat' first
    | (extract_lets +onlyGivenNames y; first | (refine Moves.bind (x := y) ?_ fun _ => ?_; (on_goal 2 => clear_value y); subst y) | clear_value y | subst y)
    | with_reducible assumption
    | with_reducible apply Moves.refl
    | ((with_reducible apply Moves.after bump_moves ?e ?_); case e => rfl)
    | ((with_reducible apply Moves.after hallmark_moves ?e ?_); case e => rfl)
    | ((with_reducible apply Moves.after idxDrop_moves ?e ?_); case e => rfl)
    | ((with_reducible apply Moves.after pendingGone_moves ?e ?_); case e => rfl)
    | ((with_reducible apply Moves.after settleMiss_moves ?e ?_); case e => rfl)
    | ((with_reducible apply Moves.trans ?_ (withGrain_moves ?e (fun _ _ => ?_))); case e => rfl)
    | with_reducible apply Ends.next ?_
    | with_reducible apply Ends.ite ?_ ?_
    | with_reducible apply Moves.ite ?_ ?_
    | with_reducible apply Moves.getD ?_ ?_
    | split

theorem execIndexPageFetchDone_moves {x0 x1} : Ends 4465742579236 x1 (execIndexPageFetchDone x0 x1) := by
  unfold execIndexPageFetchDone
  repeat' first
    | with_reducible assumption
    | with_reducible apply Moves.refl
    | ((with_reducible apply Moves.after keepPage_moves ?e ?_); case e => rfl)
    | ((with_reducible apply Moves.after evalLook_moves ?e ?_); case e => rfl)
    | ((with_reducible apply Moves.trans ?_ (withGrain_moves ?e (fun _ _ => ?_))); case e => rfl)
    | with_reducible apply Ends.next ?_
    | with_reducible apply Ends.ite ?_ ?_
    | with_reducible apply Moves.ite ?_ ?_
    | with_reducible apply Moves.foldl (fun _ _ => ?_) ?_

theorem execLookupBudgetExpiry_moves {x0 x1 x2} : Ends 4465725802020 x2 (execLookupBudgetExpiry x0 x1 x2) := by
  unfold execLookupBudgetExpiry
  repeat' first
    | with_reducible assumption
    | with_reducible apply Moves.refl
    | ((with_reducible apply Moves.after bump_moves ?e ?_); case e => rfl)
    | ((with_reducible apply Moves.after settleMiss_moves ?e ?_); case e => rfl)
    | ((with_reducible apply Moves.trans ?_ (withGrain_moves ?e (fun _ _ => ?_))); case e => rfl)
    | with_reducible apply Ends.next ?_
    | with_reducible apply Ends.ite ?_ ?_
    | with_reducible apply Moves.ite ?_ ?_

theorem sealLands_moves {x0 x1 x2} : Moves 17213425156 x2 (sealLands x0 x1 x2) := by
  unfold sealLands
  repeat' first
    | with_reducible assumption
    | with_reducible apply Moves.refl
    | ((with_reducible apply Moves.after grainPut_moves ?e ?_); case e => rfl)
    | ((with_reducible apply Moves.after settleMiss_moves ?e ?_); case e => rfl)
    | split

theorem sealEnds_moves {x0 x1 x2} : Moves 17213425156 x2 (sealEnds x0 x1 x2) := by
  unfold sealEnds
  repeat' first
    | with_reducible assumption
    | with_reducible apply Moves.refl
    | ((with_reducible apply Moves.after sealLands_moves ?e ?_); case e => rfl)
    | with_reducible apply Moves.getD ?_ ?_
    | split

theorem execSealDone_moves {x0 x1 x2} : Ends 4465725802020 x2 (execSealDone x0 x1 x2) := by
  unfold execSealDone
  repeat' first
    | (extract_lets +onlyGivenNames y; first | (refine Moves.bind (x := y) ?_ fun _ => ?_; (on_goal 2 => clear_value y); subst y) | clear_value y | subst y)
    | with_reducible assumption
    | with_reducible apply Moves.refl
    | ((with_reducible apply Moves.after frgTurn_moves ?e ?_); case e => rfl)
    | ((with_reducible apply Moves.trans ?_ (withGrain_moves ?e (fun _ _ => ?_))); case e => rfl)
    | ((with_reducible apply Moves.after sealEnds_moves ?e ?_); case e => rfl)
    | with_reducible apply Ends.next ?_

theorem execKeyWaitRetry_moves {x0 x1} : Ends 4465725802020 x1 (execKeyWaitRetry x0 x1) := by
  unfold execKeyWaitRetry
  repeat' first
    | with_reducible assumption
    | with_reducible apply Moves.refl
    | ((with_reducible apply Moves.after fwinPut_moves ?e ?_); case e => rfl)
    | ((with_reducible apply Moves.after frgTurn_moves ?e ?_); case e => rfl)
    | with_reducible apply Ends.next ?_
    | with_reducible apply Ends.ite ?_ ?_
    | with_reducible apply Moves.ite ?_ ?_

theorem resumeSeals_moves {x0 x1 x2} : Moves 17213425156 x2 (resumeSeals x0 x1 x2) := by
  induction' x1 with a l ih generalizing x0 x2
  all_goals unfold resumeSeals
  all_goals repeat' first
    | with_reducible assumption
    | with_reducible apply Moves.refl
    | ((with_reducible apply Moves.after startSeal_moves ?e ?_); case e => rfl)
    | with_reducible apply Moves.ite ?_ ?_
    | with_reducible apply Moves.trans ?_ ih
    | split

theorem execBilletGrant_moves {x0 x1} : Ends 4465725802020 x1 (execBilletGrant x0 x1) := by
  unfold execBilletGrant
  extract_lets +onlyGivenNames epoch
  clear_value epoch
  refine Ends.next (Moves.ite (Moves.refl _ _) ?_)
  extract_lets +onlyGivenNames o
  have ho : Opts 4465725802020 x1 o := by
    subst o
    split
    · exact Opts.some (Moves.refl _ _)
    · exact Opts.after openIngot_moves rfl (Moves.refl _ _)
  clear_value o
  cases o with
  | none =>
    dsimp -zeta only
    repeat' first
    | (extract_lets +onlyGivenNames y; first | (refine Ends.bind (x := y) ?_ fun _ => ?_; (on_goal 2 => clear_value y); subst y) | (refine Moves.bind (x := y) ?_ fun _ => ?_; (on_goal 2 => clear_value y); subst y) | (refine of_fun y ?_; subst y) | clear_value y | subst y)
    | with_reducible assumption
    | with_reducible apply Moves.refl
    | ((with_reducible apply Moves.after wrF_moves ?e ?_); case e => rfl)
    | ((with_reducible apply Moves.after hallmark_moves ?e ?_); case e => rfl)
    | ((with_reducible apply Moves.after castingPut_moves ?e ?_); case e => rfl)
    | ((with_reducible apply Opts.after openIngot_moves ?e ?_); case e => rfl)
    | ((with_reducible apply Moves.after (Moves.of_opt ?p openIngot_moves) ?e ?_); (case p => assumption); case e => rfl)
    | ((with_reducible apply Moves.after frgTurn_moves ?e ?_); case e => rfl)
    | ((with_reducible apply Moves.after resumeSeals_moves ?e ?_); case e => rfl)
    | with_reducible apply Ends.next ?_
    | with_reducible apply Ends.ite ?_ ?_
    | with_reducible apply Moves.ite ?_ ?_
    | split
  | some t =>
    have ht : Moves 4465725802020 x1 t := ho t rfl
    dsimp -zeta only
    repeat' first
    | (extract_lets +onlyGivenNames y; first | (refine Ends.bind (x := y) ?_ fun _ => ?_; (on_goal 2 => clear_value y); subst y) | (refine Moves.bind (x := y) ?_ fun _ => ?_; (on_goal 2 => clear_value y); subst y) | (refine of_fun y ?_; subst y) | clear_value y | subst y)
    | with_reducible assumption
    | with_reducible apply Moves.refl
    | ((with_reducible apply Moves.after wrF_moves ?e ?_); case e => rfl)
    | ((with_reducible apply Moves.after hallmark_moves ?e ?_); case e => rfl)
    | ((with_reducible apply Moves.after castingPut_moves ?e ?_); case e => rfl)
    | ((with_reducible apply Opts.after openIngot_moves ?e ?_); case e => rfl)
    | ((with_reducible apply Moves.after (Moves.of_opt ?p openIngot_moves) ?e ?_); (case p => assumption); case e => rfl)
    | ((with_reducible apply Moves.after frgTurn_moves ?e ?_); case e => rfl)
    | ((with_reducible apply Moves.after resumeSeals_moves ?e ?_); case e => rfl)
    | with_reducible apply Ends.next ?_
    | with_reducible apply Ends.ite ?_ ?_
    | with_reducible apply Moves.ite ?_ ?_
    | split

theorem verifyTake_moves {x0 x1 x2 x3} : Moves 25820136964 x3 (verifyTake x0 x1 x2 x3) := by
  unfold verifyTake
  repeat' first
    | with_reducible assumption
    | with_reducible apply Moves.refl
    | ((with_reducible apply Moves.after settleMiss_moves ?e ?_); case e => rfl)
    | ((with_reducible apply Moves.after missSettled_moves ?e ?_); case e => rfl)
    | ((with_reducible apply Moves.after hitSettled_moves ?e ?_); case e => rfl)
    | ((with_reducible apply Moves.after refRefused_moves ?e ?_); case e => rfl)
    | ((with_reducible apply Moves.after dropStale_moves ?e ?_); case e => rfl)
    | with_reducible apply Moves.ite ?_ ?_
    | split

theorem execVerifyPlaintext_moves {x0 x1 x2} : Ends 4465742579236 x2 (execVerifyPlaintext x0 x1 x2) := by
  unfold execVerifyPlaintext
  repeat' first
    | (extract_lets +onlyGivenNames y; first | (refine Moves.bind (x := y) ?_ fun _ => ?_; (on_goal 2 => clear_value y); subst y) | clear_value y | subst y)
    | with_reducible assumption
    | with_reducible apply Moves.refl
    | ((with_reducible apply Moves.after bump_moves ?e ?_); case e => rfl)
    | ((with_reducible apply Moves.after hallmark_moves ?e ?_); case e => rfl)
    | ((with_reducible apply Moves.after dropVerify_moves ?e ?_); case e => rfl)
    | ((with_reducible apply Moves.after verifyMiss_moves ?e ?_); case e => rfl)
    | ((with_reducible apply Moves.trans ?_ (withGrain_moves ?e (fun _ _ => ?_))); case e => rfl)
    | ((with_reducible apply Moves.after verifyTake_moves ?e ?_); case e => rfl)
    | with_reducible apply Ends.next ?_
    | with_reducible apply Ends.ite ?_ ?_
    | with_reducible apply Moves.ite ?_ ?_
    | split

theorem execVerifyTimeout_moves {x0 x1 x2} : Ends 4465725802020 x2 (execVerifyTimeout x0 x1 x2) := by
  unfold execVerifyTimeout
  repeat' first
    | with_reducible assumption
    | with_reducible apply Moves.refl
    | ((with_reducible apply Moves.after verifyMiss_moves ?e ?_); case e => rfl)
    | ((with_reducible apply Moves.trans ?_ (withGrain_moves ?e (fun _ _ => ?_))); case e => rfl)
    | with_reducible apply Ends.next ?_
    | split

theorem execFltClear_moves {x0 x1} : Ends 6664749057572 x1 (execFltClear x0 x1) := by
  unfold execFltClear
  repeat' first
    | (extract_lets +onlyGivenNames y; first | (refine Moves.bind (x := y) ?_ fun _ => ?_; (on_goal 2 => clear_value y); subst y) | clear_value y | subst y)
    | with_reducible assumption
    | with_reducible apply Moves.refl
    | ((with_reducible apply Moves.after fltPut_moves ?e ?_); case e => rfl)
    | ((with_reducible apply Moves.trans ?_ (atRegister_moves ?e (fun _ => ?_))); case e => rfl)
    | ((with_reducible apply Moves.after commandWrite_moves ?e ?_); case e => rfl)
    | with_reducible apply Ends.next ?_
    | with_reducible apply Ends.ite ?_ ?_
    | with_reducible apply Moves.ite ?_ ?_

theorem execDomCfgWrite_moves {x0 x1} : Ends 6664749057572 x1 (execDomCfgWrite x0 x1) := by
  unfold execDomCfgWrite
  repeat' first
    | (extract_lets +onlyGivenNames y; first | clear_value y | subst y)
    | with_reducible assumption
    | with_reducible apply Moves.refl
    | ((with_reducible apply Moves.after recordFault_moves ?e ?_); case e => rfl)
    | ((with_reducible apply Moves.trans ?_ (atRegister_moves ?e (fun _ => ?_))); case e => rfl)
    | ((with_reducible apply Moves.after noteRsvd_moves ?e ?_); case e => rfl)
    | fail_if_no_progress ((with_reducible apply Moves.set_frg ?e ?_); case e => rfl)
    | with_reducible apply Ends.next ?_
    | with_reducible apply Ends.ite ?_ ?_
    | with_reducible apply Moves.ite ?_ ?_
    | split

/-! Sys2Proof/Machine/ReadCore.lean. -/

theorem reqPut_moves {x0 x1} : Moves 34360262660 x1 (reqPut x0 x1) := by
  unfold reqPut
  repeat' first
    | (extract_lets +onlyGivenNames y; first | clear_value y | subst y)
    | with_reducible assumption
    | with_reducible apply Moves.refl
    | ((with_reducible apply Moves.after drpStat_moves ?e ?_); case e => rfl)
    | ((with_reducible apply Moves.after ungate_moves ?e ?_); case e => rfl)
    | fail_if_no_progress ((with_reducible apply Moves.set_drp ?e ?_); case e => rfl)

theorem reqDrop_moves {x0 x1} : Moves 2302152803332 x1 (reqDrop x0 x1) := by
  unfold reqDrop
  repeat' first
    | (extract_lets +onlyGivenNames y; first | clear_value y | subst y)
    | with_reducible assumption
    | with_reducible apply Moves.refl
    | ((with_reducible apply Moves.after drpStat_moves ?e ?_); case e => rfl)
    | ((with_reducible apply Moves.after settleFences_moves ?e ?_); case e => rfl)
    | fail_if_no_progress ((with_reducible apply Moves.set_drp ?e ?_); case e => rfl)

theorem grainDone_moves {x0 x1 x2 x3 x4} : Moves 2200902303780 x4 (grainDone x0 x1 x2 x3 x4) := by
  unfold grainDone
  repeat' first
    | (extract_lets +onlyGivenNames y; first | (refine Moves.bind (x := y) ?_ fun _ => ?_; (on_goal 2 => clear_value y); subst y) | clear_value y | subst y)
    | with_reducible assumption
    | with_reducible apply Moves.refl
    | ((with_reducible apply Moves.after cmdPut_moves ?e ?_); case e => rfl)
    | ((with_reducible apply Moves.after hqFinish_moves ?e ?_); case e => rfl)
    | ((with_reducible apply Moves.after unbind_moves ?e ?_); case e => rfl)
    | with_reducible apply Moves.ite ?_ ?_
    | split

theorem serveBlocks_moves {x0 x1 x2 x3 x4 x5 x6} : Moves 2199291692036 x6 (serveBlocks x0 x1 x2 x3 x4 x5 x6).2 := by
  unfold serveBlocks
  repeat' first
    | (extract_lets +onlyGivenNames y; first | (refine Moves.pair_bind (x := y) ?_ fun _ => ?_; (on_goal 2 => clear_value y); subst y) | clear_value y | subst y)
    | with_reducible assumption
    | with_reducible apply Moves.refl
    | ((with_reducible apply Moves.after hostWrite_moves ?e ?_); case e => rfl)
    | ((with_reducible apply Moves.after piFailed_moves ?e ?_); case e => rfl)
    | fail_if_no_progress (with_reducible apply Moves.pair_ite ?_ ?_)
    | with_reducible apply Moves.ite ?_ ?_
    | with_reducible apply Moves.foldl (fun _ _ => ?_) ?_
    | with_reducible apply Moves.foldl2 (fun _ _ => ?_) ?_

theorem grainLost_moves {x0 x1 x2 x3} : Moves 2304031851556 x3 (grainLost x0 x1 x2 x3) := by
  unfold grainLost
  repeat' first
    | (extract_lets +onlyGivenNames y; first | (refine Moves.bind (x := y) ?_ fun _ => ?_; (on_goal 2 => clear_value y); subst y) | clear_value y | subst y)
    | with_reducible assumption
    | with_reducible apply Moves.refl
    | ((with_reducible apply Moves.after bump_moves ?e ?_); case e => rfl)
    | ((with_reducible apply Moves.after hallmark_moves ?e ?_); case e => rfl)
    | ((with_reducible apply Moves.after reqDrop_moves ?e ?_); case e => rfl)
    | ((with_reducible apply Moves.after grainDone_moves ?e ?_); case e => rfl)
    | fail_if_no_progress ((with_reducible apply Moves.set_drp ?e ?_); case e => rfl)
    | with_reducible apply Moves.ite ?_ ?_

theorem serveZero_moves {x0 x1 x2} : Moves 2304031851556 x2 (serveZero x0 x1 x2) := by
  unfold serveZero
  repeat' first
    | (extract_lets +onlyGivenNames y; first | (refine Moves.bind (x := y.2) ?_ fun _ => ?_; (on_goal 2 => clear_value y); subst y) | clear_value y | subst y)
    | with_reducible assumption
    | with_reducible apply Moves.refl
    | ((with_reducible apply Moves.after bump64_moves ?e ?_); case e => rfl)
    | ((with_reducible apply Moves.after reqDrop_moves ?e ?_); case e => rfl)
    | ((with_reducible apply Moves.after grainDone_moves ?e ?_); case e => rfl)
    | ((with_reducible apply Moves.after serveBlocks_moves ?e ?_); case e => rfl)
    | ((with_reducible apply Moves.after (Moves.of_pair ?p serveBlocks_moves) ?e ?_); (case p => assumption); case e => rfl)
    | with_reducible apply Moves.ite ?_ ?_
    | split

theorem rcPut_moves {x0 x1} : Moves 34359738372 x1 (rcPut x0 x1) := by
  unfold rcPut
  repeat' first
    | (extract_lets +onlyGivenNames y; first | clear_value y | subst y)
    | with_reducible assumption
    | with_reducible apply Moves.refl
    | ((with_reducible apply Moves.after wr_moves ?e ?_); case e => rfl)
    | fail_if_no_progress ((with_reducible apply Moves.set_drp ?e ?_); case e => rfl)

theorem rcLookup_moves {x0 x1} : Moves 34359738372 x1 (rcLookup x0 x1).2 := by
  unfold rcLookup
  repeat' first
    | (extract_lets +onlyGivenNames y; first | clear_value y | subst y)
    | with_reducible assumption
    | with_reducible apply Moves.refl
    | ((with_reducible apply Moves.after bump_moves ?e ?_); case e => rfl)
    | ((with_reducible apply Moves.after rcPut_moves ?e ?_); case e => rfl)
    | fail_if_no_progress ((with_reducible apply Moves.set_drp ?e ?_); case e => rfl)
    | fail_if_no_progress (with_reducible apply Moves.pair_ite ?_ ?_)
    | with_reducible apply Moves.ite ?_ ?_
    | dsimp -zeta only
    | split

theorem rcStore_moves {x0 x1 x2 x3 x4 x5} : Moves 34359738404 x5 (rcStore x0 x1 x2 x3 x4 x5) := by
  unfold rcStore
  repeat' first
    | with_reducible assumption
    | with_reducible apply Moves.refl
    | ((with_reducible apply Moves.after memWrite_moves ?e ?_); case e => rfl)
    | ((with_reducible apply Moves.after rcPut_moves ?e ?_); case e => rfl)

theorem rcInsert_moves {x0 x1 x2 x3} : Moves 34359738404 x3 (rcInsert x0 x1 x2 x3) := by
  unfold rcInsert
  repeat' first
    | (extract_lets +onlyGivenNames y; first | (refine Moves.bind (x := y) ?_ fun _ => ?_; (on_goal 2 => clear_value y); subst y) | clear_value y | subst y)
    | with_reducible assumption
    | with_reducible apply Moves.refl
    | ((with_reducible apply Moves.after bump_moves ?e ?_); case e => rfl)
    | ((with_reducible apply Moves.after rcStore_moves ?e ?_); case e => rfl)
    | fail_if_no_progress ((with_reducible apply Moves.set_drp ?e ?_); case e => rfl)
    | split

theorem rcMiss_moves {x0 x1 x2 x3} : Moves 34359738404 x3 (rcMiss x0 x1 x2 x3) := by
  unfold rcMiss
  repeat' first
    | (extract_lets +onlyGivenNames y; first | clear_value y | subst y)
    | with_reducible assumption
    | with_reducible apply Moves.refl
    | ((with_reducible apply Moves.after rcInsert_moves ?e ?_); case e => rfl)
    | fail_if_no_progress ((with_reducible apply Moves.set_drp ?e ?_); case e => rfl)
    | with_reducible apply Moves.ite ?_ ?_
    | split

theorem openGrain_moves {x0 x1 x2 x3} : Moves 1028 x3 (openGrain x0 x1 x2 x3).2 := by
  unfold openGrain
  repeat' first
    | (extract_lets +onlyGivenNames y; first | (refine Moves.pair_bind (x := y) ?_ fun _ => ?_; (on_goal 2 => clear_value y); subst y) | (refine Moves.bind (x := y) ?_ fun _ => ?_; (on_goal 2 => clear_value y); subst y) | clear_value y | subst y)
    | with_reducible assumption
    | with_reducible apply Moves.refl
    | ((with_reducible apply Moves.after bump_moves ?e ?_); case e => rfl)
    | ((with_reducible apply Moves.after hallmark_moves ?e ?_); case e => rfl)
    | fail_if_no_progress (with_reducible apply Moves.pair_ite ?_ ?_)
    | with_reducible apply Moves.ite ?_ ?_
    | dsimp -zeta only
    | split

theorem serveBody_moves {x0 x1 x2 x3 x4 x5} : Opts 2304031851556 x5 (serveBody x0 x1 x2 x3 x4 x5) := by
  unfold serveBody
  repeat' first
    | (extract_lets +onlyGivenNames y; first | (refine Opts.bind (x := y) ?_ fun _ => ?_; (on_goal 2 => clear_value y); subst y) | (refine Opts.bind (x := y.2) ?_ fun _ => ?_; (on_goal 2 => clear_value y); subst y) | (refine Moves.bind (x := y) ?_ fun _ => ?_; (on_goal 2 => clear_value y); subst y) | (refine Moves.bind (x := y.2) ?_ fun _ => ?_; (on_goal 2 => clear_value y); subst y) | clear_value y | subst y)
    | with_reducible assumption
    | with_reducible apply Moves.refl
    | ((with_reducible apply Moves.after bump64_moves ?e ?_); case e => rfl)
    | ((with_reducible apply Moves.after reqDrop_moves ?e ?_); case e => rfl)
    | ((with_reducible apply Moves.after grainDone_moves ?e ?_); case e => rfl)
    | ((with_reducible apply Moves.after serveBlocks_moves ?e ?_); case e => rfl)
    | ((with_reducible apply Moves.after (Moves.of_pair ?p serveBlocks_moves) ?e ?_); (case p => assumption); case e => rfl)
    | fail_if_no_progress ((with_reducible apply Moves.set_drp ?e ?_); case e => rfl)
    | with_reducible apply Opts.some ?_
    | exact Opts.none
    | with_reducible apply Opts.ite ?_ ?_
    | with_reducible apply Moves.ite ?_ ?_
    | split

theorem piBad_moves {x0 x1 x2 x3 x4} : Moves 2199291692036 x4 (piBad x0 x1 x2 x3 x4) := by
  unfold piBad
  repeat' first
    | (extract_lets +onlyGivenNames y; first | (refine Moves.bind (x := y) ?_ fun _ => ?_; (on_goal 2 => clear_value y); subst y) | clear_value y | subst y)
    | with_reducible assumption
    | with_reducible apply Moves.refl
    | ((with_reducible apply Moves.after bump_moves ?e ?_); case e => rfl)
    | ((with_reducible apply Moves.after serveBlocks_moves ?e ?_); case e => rfl)
    | ((with_reducible apply Moves.after (Moves.of_pair ?p serveBlocks_moves) ?e ?_); (case p => assumption); case e => rfl)
    | split

theorem reportMember_moves {x0 x1} : Moves 33554432 x1 (reportMember x0 x1) := by
  unfold reportMember
  repeat' first
    | (extract_lets +onlyGivenNames y; first | (refine Moves.bind (x := y) ?_ fun _ => ?_; (on_goal 2 => clear_value y); subst y) | clear_value y | subst y)
    | with_reducible assumption
    | with_reducible apply Moves.refl
    | ((with_reducible apply Moves.after modPut_moves ?e ?_); case e => rfl)
    | fail_if_no_progress ((with_reducible apply Moves.set_ing ?e ?_); case e => rfl)

theorem fileSeal_moves {x0 x1} : Moves 33554432 x1 (fileSeal x0 x1) := by
  unfold fileSeal
  repeat' first
    | (extract_lets +onlyGivenNames y; first | clear_value y | subst y)
    | with_reducible assumption
    | with_reducible apply Moves.refl
    | fail_if_no_progress ((with_reducible apply Moves.set_ing ?e ?_); case e => rfl)
    | with_reducible apply Moves.ite ?_ ?_

theorem askRows_moves {x0 x1 x2 x3} : Moves 2199056809984 x3 (askRows x0 x1 x2 x3) := by
  unfold askRows
  repeat' first
    | (extract_lets +onlyGivenNames y; first | (refine Moves.bind (x := y) ?_ fun _ => ?_; (on_goal 2 => clear_value y); subst y) | clear_value y | subst y)
    | with_reducible assumption
    | with_reducible apply Moves.refl
    | ((with_reducible apply Moves.after emit_moves ?e ?_); case e => rfl)
    | ((with_reducible apply Moves.after modPut_moves ?e ?_); case e => rfl)
    | with_reducible apply Moves.foldl (fun _ _ => ?_) ?_

theorem reconEnd_moves {x0 x1 x2 x3 x4} : Moves 1028 x4 (reconEnd x0 x1 x2 x3 x4) := by
  unfold reconEnd
  repeat' first
    | with_reducible assumption
    | with_reducible apply Moves.refl
    | ((with_reducible apply Moves.after hallmark_moves ?e ?_); case e => rfl)

theorem startRecon_moves {x0 x1 x2 x3} : Moves 2304032375844 x3 (startRecon x0 x1 x2 x3) := by
  unfold startRecon
  repeat' first
    | (extract_lets +onlyGivenNames y; first | (refine Moves.bind (x := y) ?_ fun _ => ?_; (on_goal 2 => clear_value y); subst y) | clear_value y | subst y)
    | with_reducible assumption
    | with_reducible apply Moves.refl
    | ((with_reducible apply Moves.after bump_moves ?e ?_); case e => rfl)
    | ((with_reducible apply Moves.after reqPut_moves ?e ?_); case e => rfl)
    | ((with_reducible apply Moves.after grainLost_moves ?e ?_); case e => rfl)
    | ((with_reducible apply Moves.after reportMember_moves ?e ?_); case e => rfl)
    | ((with_reducible apply Moves.after fileSeal_moves ?e ?_); case e => rfl)
    | ((with_reducible apply Moves.after askRows_moves ?e ?_); case e => rfl)
    | ((with_reducible apply Moves.after reconEnd_moves ?e ?_); case e => rfl)
    | with_reducible apply Moves.ite ?_ ?_

theorem openAndServe_moves {x0 x1 x2 x3} : Moves 2304032375844 x3 (openAndServe x0 x1 x2 x3) := by
  unfold openAndServe
  repeat' first
    | with_reducible assumption
    | with_reducible apply Moves.refl
    | ((with_reducible apply Moves.after grainLost_moves ?e ?_); case e => rfl)
    | ((with_reducible apply Moves.after rcMiss_moves ?e ?_); case e => rfl)
    | ((with_reducible apply Moves.after (Moves.of_pair ?p openGrain_moves) ?e ?_); (case p => assumption); case e => rfl)
    | ((with_reducible apply Moves.after (Moves.of_opt ?p serveBody_moves) ?e ?_); (case p => assumption); case e => rfl)
    | ((with_reducible apply Moves.after piBad_moves ?e ?_); case e => rfl)
    | ((with_reducible apply Moves.after startRecon_moves ?e ?_); case e => rfl)
    | with_reducible apply Moves.ite ?_ ?_
    | split

theorem readMember_moves {x0 x1 x2} : Moves 2304032375844 x2 (readMember x0 x1 x2) := by
  unfold readMember
  repeat' first
    | (extract_lets +onlyGivenNames y; first | clear_value y | subst y)
    | with_reducible assumption
    | with_reducible apply Moves.refl
    | ((with_reducible apply Moves.after reqPut_moves ?e ?_); case e => rfl)
    | ((with_reducible apply Moves.after grainLost_moves ?e ?_); case e => rfl)
    | ((with_reducible apply Moves.after askRows_moves ?e ?_); case e => rfl)
    | ((with_reducible apply Moves.after startRecon_moves ?e ?_); case e => rfl)
    | with_reducible apply Moves.ite ?_ ?_

theorem serveEntry_moves {x0 x1 x2} : Moves 2304032375844 x2 (serveEntry x0 x1 x2) := by
  unfold serveEntry
  repeat' first
    | (extract_lets +onlyGivenNames y; first | clear_value y | subst y)
    | with_reducible assumption
    | with_reducible apply Moves.refl
    | ((with_reducible apply Moves.after grainLost_moves ?e ?_); case e => rfl)
    | ((with_reducible apply Moves.after serveZero_moves ?e ?_); case e => rfl)
    | ((with_reducible apply Moves.after (Moves.of_pair ?p rcLookup_moves) ?e ?_); (case p => assumption); case e => rfl)
    | ((with_reducible apply Moves.after (Moves.of_opt ?p serveBody_moves) ?e ?_); (case p => assumption); case e => rfl)
    | ((with_reducible apply Moves.after piBad_moves ?e ?_); case e => rfl)
    | ((with_reducible apply Moves.after readMember_moves ?e ?_); case e => rfl)
    | with_reducible apply Moves.ite ?_ ?_
    | split

/-! Sys2Proof/Machine/Caster.lean. -/

theorem epPut_moves {x0 x1 x2} : Moves 16777216 x2 (epPut x0 x1 x2) := by
  unfold epPut
  repeat' first
    | (extract_lets +onlyGivenNames y; first | clear_value y | subst y)
    | with_reducible assumption
    | with_reducible apply Moves.refl
    | fail_if_no_progress ((with_reducible apply Moves.set_ldg ?e ?_); case e => rfl)

theorem castStall_moves {x0 x1 x2} : Moves 1540 x2 (castStall x0 x1 x2) := by
  unfold castStall
  repeat' first
    | with_reducible assumption
    | with_reducible apply Moves.refl
    | ((with_reducible apply Moves.after wrF_moves ?e ?_); case e => rfl)
    | ((with_reducible apply Moves.after hallmark_moves ?e ?_); case e => rfl)
    | ((with_reducible apply Moves.after event_moves ?e ?_); case e => rfl)
    | with_reducible apply Moves.ite ?_ ?_

theorem sjFlags_moves {x0} : Moves 4 x0 (sjFlags x0) := by
  unfold sjFlags
  repeat' first
    | with_reducible assumption
    | with_reducible apply Moves.refl
    | ((with_reducible apply Moves.after wrF_moves ?e ?_); case e => rfl)

theorem castIngot_moves {x0 x1} : Moves 2268665480772 x1 (castIngot x0 x1) := by
  unfold castIngot
  repeat' first
    | (extract_lets +onlyGivenNames y; first | (refine Moves.bind (x := y) ?_ fun _ => ?_; (on_goal 2 => clear_value y); subst y) | clear_value y | subst y)
    | with_reducible assumption
    | with_reducible apply Moves.refl
    | ((with_reducible apply Moves.after bump_moves ?e ?_); case e => rfl)
    | ((with_reducible apply Moves.after castingPut_moves ?e ?_); case e => rfl)
    | ((with_reducible apply Moves.after (Moves.of_pair ?p grantChunks_moves) ?e ?_); (case p => assumption); case e => rfl)
    | ((with_reducible apply Moves.after ingStat_moves ?e ?_); case e => rfl)
    | ((with_reducible apply Moves.after castGoes_moves ?e ?_); case e => rfl)
    | ((with_reducible apply Moves.after (Moves.of_opt2 ?p sjWrite_moves) ?e ?_); (case p => assumption); case e => rfl)
    | ((with_reducible apply Moves.after issueAll_moves ?e ?_); case e => rfl)
    | ((with_reducible apply Moves.after epPut_moves ?e ?_); case e => rfl)
    | ((with_reducible apply Moves.after castStall_moves ?e ?_); case e => rfl)
    | ((with_reducible apply Moves.after sjFlags_moves ?e ?_); case e => rfl)
    | fail_if_no_progress ((with_reducible apply Moves.set_ing ?e ?_); case e => rfl)
    | with_reducible apply Moves.ite ?_ ?_
    | split

theorem retire_moves {x0 x1} : Moves 2199140696132 x1 (retire x0 x1) := by
  unfold retire
  repeat' first
    | (extract_lets +onlyGivenNames y; first | (refine Moves.bind (x := y) ?_ fun _ => ?_; (on_goal 2 => clear_value y); subst y) | clear_value y | subst y)
    | with_reducible assumption
    | with_reducible apply Moves.refl
    | ((with_reducible apply Moves.after wrF_moves ?e ?_); case e => rfl)
    | ((with_reducible apply Moves.after bump64_moves ?e ?_); case e => rfl)
    | ((with_reducible apply Moves.after ingStat_moves ?e ?_); case e => rfl)
    | ((with_reducible apply Moves.after sjMark_moves ?e ?_); case e => rfl)
    | ((with_reducible apply Moves.after epPut_moves ?e ?_); case e => rfl)
    | ((with_reducible apply Moves.after sjFlags_moves ?e ?_); case e => rfl)
    | fail_if_no_progress ((with_reducible apply Moves.set_ing ?e ?_); case e => rfl)
    | fail_if_no_progress ((with_reducible apply Moves.set_ldg ?e ?_); case e => rfl)
    | with_reducible apply Moves.ite ?_ ?_
    | split

theorem retireIfDone_moves {x0 x1} : Moves 2199140696132 x1 (retireIfDone x0 x1) := by
  unfold retireIfDone
  repeat' first
    | with_reducible assumption
    | with_reducible apply Moves.refl
    | ((with_reducible apply Moves.after retire_moves ?e ?_); case e => rfl)
    | with_reducible apply Moves.ite ?_ ?_
    | split

theorem amend_moves {x0 x1 x2} : Moves 2268648703556 x2 (amend x0 x1 x2) := by
  unfold amend
  repeat' first
    | (extract_lets +onlyGivenNames y; first | (refine Moves.bind (x := y) ?_ fun _ => ?_; (on_goal 2 => clear_value y); subst y) | clear_value y | subst y)
    | with_reducible assumption
    | with_reducible apply Moves.refl
    | ((with_reducible apply Moves.after bump_moves ?e ?_); case e => rfl)
    | ((with_reducible apply Moves.after hallmark_moves ?e ?_); case e => rfl)
    | ((with_reducible apply Moves.after castingPut_moves ?e ?_); case e => rfl)
    | ((with_reducible apply Moves.after (Moves.of_pair ?p grantChunks_moves) ?e ?_); (case p => assumption); case e => rfl)
    | ((with_reducible apply Moves.after castGoes_moves ?e ?_); case e => rfl)
    | ((with_reducible apply Moves.after (Moves.of_opt2 ?p sjWrite_moves) ?e ?_); (case p => assumption); case e => rfl)
    | ((with_reducible apply Moves.after sjMark_moves ?e ?_); case e => rfl)
    | ((with_reducible apply Moves.after issueAll_moves ?e ?_); case e => rfl)
    | ((with_reducible apply Moves.after castStall_moves ?e ?_); case e => rfl)
    | ((with_reducible apply Moves.after sjFlags_moves ?e ?_); case e => rfl)
    | fail_if_no_progress ((with_reducible apply Moves.set_ing ?e ?_); case e => rfl)
    | with_reducible apply Moves.ite ?_ ?_
    | with_reducible apply Moves.getD ?_ ?_
    | split

theorem rebuildStat_moves {x0} : Moves 1540 x0 (rebuildStat x0) := by
  unfold rebuildStat
  repeat' first
    | (extract_lets +onlyGivenNames y; first | (refine Moves.bind (x := y) ?_ fun _ => ?_; (on_goal 2 => clear_value y); subst y) | (refine of_fun y ?_; subst y) | clear_value y | subst y)
    | with_reducible assumption
    | with_reducible apply Moves.refl
    | ((with_reducible apply Moves.after wr_moves ?e ?_); case e => rfl)
    | ((with_reducible apply Moves.after event_moves ?e ?_); case e => rfl)
    | with_reducible apply Moves.ite ?_ ?_
    | with_reducible apply Moves.foldl (fun _ _ => ?_) ?_

theorem fileIngot_moves {x0 x1} : Moves 33554436 x1 (fileIngot x0 x1) := by
  unfold fileIngot
  repeat' first
    | (extract_lets +onlyGivenNames y; first | clear_value y | subst y)
    | with_reducible assumption
    | with_reducible apply Moves.refl
    | ((with_reducible apply Moves.after wrF_moves ?e ?_); case e => rfl)
    | fail_if_no_progress ((with_reducible apply Moves.set_ing ?e ?_); case e => rfl)
    | with_reducible apply Moves.ite ?_ ?_

theorem dropAttempt_moves {x0 x1} : Moves 2267843395652 x1 (dropAttempt x0 x1) := by
  unfold dropAttempt
  repeat' first
    | (extract_lets +onlyGivenNames y; first | (refine Moves.bind (x := y) ?_ fun _ => ?_; (on_goal 2 => clear_value y); subst y) | clear_value y | subst y)
    | with_reducible assumption
    | with_reducible apply Moves.refl
    | ((with_reducible apply Moves.after releaseChunk_moves ?e ?_); case e => rfl)
    | ((with_reducible apply Moves.after finishZone_moves ?e ?_); case e => rfl)
    | ((with_reducible apply Moves.after sjMark_moves ?e ?_); case e => rfl)
    | fail_if_no_progress ((with_reducible apply Moves.set_ing ?e ?_); case e => rfl)
    | with_reducible apply Moves.foldl (fun _ _ => ?_) ?_
    | with_reducible apply Moves.foldl2 (fun _ _ => ?_) ?_
    | split

theorem abandonAttempt_moves {x0 x1 x2} : Moves 2267843397188 x2 (abandonAttempt x0 x1 x2) := by
  unfold abandonAttempt
  repeat' first
    | (extract_lets +onlyGivenNames y; first | (refine Moves.bind (x := y) ?_ fun _ => ?_; (on_goal 2 => clear_value y); subst y) | clear_value y | subst y)
    | with_reducible assumption
    | with_reducible apply Moves.refl
    | ((with_reducible apply Moves.after bump_moves ?e ?_); case e => rfl)
    | ((with_reducible apply Moves.after hallmark_moves ?e ?_); case e => rfl)
    | ((with_reducible apply Moves.after ingStat_moves ?e ?_); case e => rfl)
    | ((with_reducible apply Moves.after rebuildStat_moves ?e ?_); case e => rfl)
    | ((with_reducible apply Moves.after fileIngot_moves ?e ?_); case e => rfl)
    | ((with_reducible apply Moves.after dropAttempt_moves ?e ?_); case e => rfl)
    | with_reducible apply Moves.ite ?_ ?_

theorem stallAttempt_moves {x0 x1} : Moves 2267843397188 x1 (stallAttempt x0 x1) := by
  unfold stallAttempt
  repeat' first
    | (extract_lets +onlyGivenNames y; first | (refine Moves.bind (x := y) ?_ fun _ => ?_; (on_goal 2 => clear_value y); subst y) | clear_value y | subst y)
    | with_reducible assumption
    | with_reducible apply Moves.refl
    | ((with_reducible apply Moves.after wrF_moves ?e ?_); case e => rfl)
    | ((with_reducible apply Moves.after ingStat_moves ?e ?_); case e => rfl)
    | ((with_reducible apply Moves.after rebuildStat_moves ?e ?_); case e => rfl)
    | ((with_reducible apply Moves.after fileIngot_moves ?e ?_); case e => rfl)
    | ((with_reducible apply Moves.after dropAttempt_moves ?e ?_); case e => rfl)
    | with_reducible apply Moves.ite ?_ ?_

theorem deadAttempts_moves {x0} : Moves 2267843397188 x0 (deadAttempts x0) := by
  unfold deadAttempts
  repeat' first
    | with_reducible assumption
    | with_reducible apply Moves.refl
    | ((with_reducible apply Moves.after abandonAttempt_moves ?e ?_); case e => rfl)
    | with_reducible apply Moves.foldl (fun _ _ => ?_) ?_

theorem placeAgain_moves {x0 x1 x2} : Moves 2268648703556 x2 (placeAgain x0 x1 x2) := by
  unfold placeAgain
  repeat' first
    | (extract_lets +onlyGivenNames y; first | (refine Moves.bind (x := y) ?_ fun _ => ?_; (on_goal 2 => clear_value y); subst y) | clear_value y | subst y)
    | with_reducible assumption
    | with_reducible apply Moves.refl
    | ((with_reducible apply Moves.after (Moves.of_pair ?p grantChunks_moves) ?e ?_); (case p => assumption); case e => rfl)
    | ((with_reducible apply Moves.after (Moves.of_opt2 ?p sjWrite_moves) ?e ?_); (case p => assumption); case e => rfl)
    | ((with_reducible apply Moves.after sjMark_moves ?e ?_); case e => rfl)
    | ((with_reducible apply Moves.after sjFlags_moves ?e ?_); case e => rfl)
    | ((with_reducible apply Moves.after stallAttempt_moves ?e ?_); case e => rfl)
    | fail_if_no_progress ((with_reducible apply Moves.set_ing ?e ?_); case e => rfl)
    | with_reducible apply Moves.ite ?_ ?_
    | with_reducible apply Moves.foldl (fun _ _ => ?_) ?_
    | with_reducible apply Moves.foldl2 (fun _ _ => ?_) ?_
    | split

theorem appendFailed_moves {x0 x1} : Moves 2268648703556 x1 (appendFailed x0 x1) := by
  unfold appendFailed
  repeat' first
    | (extract_lets +onlyGivenNames y; first | (refine Moves.bind (x := y) ?_ fun _ => ?_; (on_goal 2 => clear_value y); subst y) | clear_value y | subst y)
    | with_reducible assumption
    | with_reducible apply Moves.refl
    | ((with_reducible apply Moves.after modPut_moves ?e ?_); case e => rfl)
    | ((with_reducible apply Moves.after castingPut_moves ?e ?_); case e => rfl)
    | ((with_reducible apply Moves.after finishZone_moves ?e ?_); case e => rfl)
    | ((with_reducible apply Moves.after issueAll_moves ?e ?_); case e => rfl)
    | ((with_reducible apply Moves.after dropAppend_moves ?e ?_); case e => rfl)
    | ((with_reducible apply Moves.after amend_moves ?e ?_); case e => rfl)
    | ((with_reducible apply Moves.after placeAgain_moves ?e ?_); case e => rfl)
    | split

theorem ejectNow_moves {x0 x1 x2} : Moves 2304099485284 x2 (ejectNow x0 x1 x2) := by
  unfold ejectNow
  repeat' first
    | (extract_lets +onlyGivenNames y; first | (refine Moves.bind (x := y) ?_ fun _ => ?_; (on_goal 2 => clear_value y); subst y) | clear_value y | subst y)
    | with_reducible assumption
    | with_reducible apply Moves.refl
    | ((with_reducible apply Moves.after wrF_moves ?e ?_); case e => rfl)
    | ((with_reducible apply Moves.after hallmark_moves ?e ?_); case e => rfl)
    | ((with_reducible apply Moves.after event_moves ?e ?_); case e => rfl)
    | ((with_reducible apply Moves.after modPut_moves ?e ?_); case e => rfl)
    | ((with_reducible apply Moves.after castingPut_moves ?e ?_); case e => rfl)
    | ((with_reducible apply Moves.after pmodPut_moves ?e ?_); case e => rfl)
    | ((with_reducible apply Moves.after issueAll_moves ?e ?_); case e => rfl)
    | ((with_reducible apply Moves.after dropAppend_moves ?e ?_); case e => rfl)
    | ((with_reducible apply Moves.after toLedger_moves ?e ?_); case e => rfl)
    | ((with_reducible apply Moves.after startRecon_moves ?e ?_); case e => rfl)
    | ((with_reducible apply Moves.after amend_moves ?e ?_); case e => rfl)
    | ((with_reducible apply Moves.after abandonAttempt_moves ?e ?_); case e => rfl)
    | fail_if_no_progress ((with_reducible apply Moves.set_ing ?e ?_); case e => rfl)
    | with_reducible apply Moves.ite ?_ ?_
    | with_reducible apply Moves.foldl (fun _ _ => ?_) ?_
    | with_reducible apply Moves.foldl2 (fun _ _ => ?_) ?_
    | split

theorem ejectSlow_moves {x0 x1 x2} : Moves 2304099485284 x2 (ejectSlow x0 x1 x2) := by
  unfold ejectSlow
  repeat' first
    | (extract_lets +onlyGivenNames y; first | clear_value y | subst y)
    | with_reducible assumption
    | with_reducible apply Moves.refl
    | ((with_reducible apply Moves.after bump_moves ?e ?_); case e => rfl)
    | ((with_reducible apply Moves.after hallmark_moves ?e ?_); case e => rfl)
    | ((with_reducible apply Moves.after modPut_moves ?e ?_); case e => rfl)
    | ((with_reducible apply Moves.after ejectNow_moves ?e ?_); case e => rfl)
    | with_reducible apply Moves.ite ?_ ?_

theorem askChunks_moves {x0 x1 x2} : Moves 2199056809984 x2 (askChunks x0 x1 x2) := by
  unfold askChunks
  repeat' first
    | (extract_lets +onlyGivenNames y; first | clear_value y | subst y)
    | with_reducible assumption
    | with_reducible apply Moves.refl
    | ((with_reducible apply Moves.after emit_moves ?e ?_); case e => rfl)
    | ((with_reducible apply Moves.after modPut_moves ?e ?_); case e => rfl)
    | with_reducible apply Moves.foldl (fun _ _ => ?_) ?_

theorem dropIndex_moves {x0 x1 x2} : Moves 17179869188 x2 (dropIndex x0 x1 x2) := by
  unfold dropIndex
  repeat' first
    | with_reducible assumption
    | with_reducible apply Moves.refl
    | ((with_reducible apply Moves.after idxDrop_moves ?e ?_); case e => rfl)
    | with_reducible apply Moves.foldl (fun _ _ => ?_) ?_

theorem sweepStat_moves {x0} : Moves 4 x0 (sweepStat x0) := by
  unfold sweepStat
  repeat' first
    | with_reducible assumption
    | with_reducible apply Moves.refl
    | ((with_reducible apply Moves.after wrF_moves ?e ?_); case e => rfl)

theorem attemptsCommitted_moves {x0} : Moves 68753032708 x0 (attemptsCommitted x0) := by
  unfold attemptsCommitted
  repeat' first
    | (extract_lets +onlyGivenNames y; first | (refine Moves.bind (x := y) ?_ fun _ => ?_; (on_goal 2 => clear_value y); subst y) | clear_value y | subst y)
    | with_reducible assumption
    | with_reducible apply Moves.refl
    | ((with_reducible apply Moves.after wrF_moves ?e ?_); case e => rfl)
    | ((with_reducible apply Moves.after bump64_moves ?e ?_); case e => rfl)
    | ((with_reducible apply Moves.after hallmark_moves ?e ?_); case e => rfl)
    | ((with_reducible apply Moves.after releaseChunk_moves ?e ?_); case e => rfl)
    | ((with_reducible apply Moves.after ingStat_moves ?e ?_); case e => rfl)
    | ((with_reducible apply Moves.after rebuildStat_moves ?e ?_); case e => rfl)
    | fail_if_no_progress ((with_reducible apply Moves.set_ing ?e ?_); case e => rfl)
    | with_reducible apply Moves.ite ?_ ?_
    | with_reducible apply Moves.foldl (fun _ _ => ?_) ?_

/-! Sys2Proof/Machine/ReadPath.lean. -/

theorem serveCopy_moves {x0 x1 x2 x3 x4 x5} : Moves 2304031851556 x5 (serveCopy x0 x1 x2 x3 x4 x5) := by
  unfold serveCopy
  repeat' first
    | (extract_lets +onlyGivenNames y; first | (refine Moves.bind (x := y) ?_ fun _ => ?_; (on_goal 2 => clear_value y); subst y) | (refine Moves.bind (x := y.2) ?_ fun _ => ?_; (on_goal 2 => clear_value y); subst y) | clear_value y | subst y)
    | with_reducible assumption
    | with_reducible apply Moves.refl
    | ((with_reducible apply Moves.after bump_moves ?e ?_); case e => rfl)
    | ((with_reducible apply Moves.after bump64_moves ?e ?_); case e => rfl)
    | ((with_reducible apply Moves.after reqDrop_moves ?e ?_); case e => rfl)
    | ((with_reducible apply Moves.after grainDone_moves ?e ?_); case e => rfl)
    | ((with_reducible apply Moves.after serveBlocks_moves ?e ?_); case e => rfl)
    | ((with_reducible apply Moves.after (Moves.of_pair ?p serveBlocks_moves) ?e ?_); (case p => assumption); case e => rfl)
    | with_reducible apply Moves.ite ?_ ?_

theorem slotCopiesBad_moves {x0 x1 x2 x3} : Moves 2304031852068 x3 (slotCopiesBad x0 x1 x2 x3) := by
  unfold slotCopiesBad
  repeat' first
    | with_reducible assumption
    | with_reducible apply Moves.refl
    | ((with_reducible apply Moves.after loseSlot_moves ?e ?_); case e => rfl)
    | ((with_reducible apply Moves.after grainLost_moves ?e ?_); case e => rfl)

theorem serveSlot_moves {x0 x1 x2 x3 x4} : Moves 2321279354404 x4 (serveSlot x0 x1 x2 x3 x4) := by
  unfold serveSlot
  repeat' first
    | (extract_lets +onlyGivenNames y; first | (refine Moves.bind (x := y) ?_ fun _ => ?_; (on_goal 2 => clear_value y); subst y) | clear_value y | subst y)
    | with_reducible assumption
    | with_reducible apply Moves.refl
    | ((with_reducible apply Moves.after bump_moves ?e ?_); case e => rfl)
    | ((with_reducible apply Moves.after sendW_moves ?e ?_); case e => rfl)
    | ((with_reducible apply Moves.after reqPut_moves ?e ?_); case e => rfl)
    | ((with_reducible apply Moves.after grainLost_moves ?e ?_); case e => rfl)
    | ((with_reducible apply Moves.after serveCopy_moves ?e ?_); case e => rfl)
    | ((with_reducible apply Moves.after slotCopiesBad_moves ?e ?_); case e => rfl)
    | fail_if_no_progress ((with_reducible apply Moves.set_frg ?e ?_); case e => rfl)
    | with_reducible apply Moves.ite ?_ ?_
    | with_reducible apply Moves.getD ?_ ?_
    | split

theorem hostGrain_moves {x0 x1 x2 x3 x4 x5 x6} : Moves 2321279354404 x6 (hostGrain x0 x1 x2 x3 x4 x5 x6) := by
  unfold hostGrain
  repeat' first
    | (extract_lets +onlyGivenNames y; first | clear_value y | subst y)
    | with_reducible assumption
    | with_reducible apply Moves.refl
    | ((with_reducible apply Moves.after serveZero_moves ?e ?_); case e => rfl)
    | ((with_reducible apply Moves.after serveEntry_moves ?e ?_); case e => rfl)
    | ((with_reducible apply Moves.after serveSlot_moves ?e ?_); case e => rfl)
    | with_reducible apply Moves.ite ?_ ?_
    | with_reducible apply Moves.getD ?_ ?_
    | split

theorem execHostRead_moves {x0 x1 x2 x3 x4} : Ends 2321279354404 x4 (execHostRead x0 x1 x2 x3 x4) := by
  unfold execHostRead
  repeat' first
    | with_reducible assumption
    | with_reducible apply Moves.refl
    | ((with_reducible apply Moves.after hostGrain_moves ?e ?_); case e => rfl)
    | with_reducible apply Ends.next ?_

theorem execHostVerify_moves {x0 x1 x2 x3 x4} : Ends 2321279354404 x4 (execHostVerify x0 x1 x2 x3 x4) := by
  unfold execHostVerify
  repeat' first
    | with_reducible assumption
    | with_reducible apply Moves.refl
    | ((with_reducible apply Moves.after hostGrain_moves ?e ?_); case e => rfl)
    | with_reducible apply Ends.next ?_

theorem execHostCompare_moves {x0 x1 x2 x3 x4} : Ends 2321279354404 x4 (execHostCompare x0 x1 x2 x3 x4) := by
  unfold execHostCompare
  repeat' first
    | with_reducible assumption
    | with_reducible apply Moves.refl
    | ((with_reducible apply Moves.after hostGrain_moves ?e ?_); case e => rfl)
    | with_reducible apply Ends.next ?_

theorem execVerifyHit_moves {x0 x1 x2} : Ends 2304032375844 x2 (execVerifyHit x0 x1 x2) := by
  unfold execVerifyHit
  repeat' first
    | (extract_lets +onlyGivenNames y; first | clear_value y | subst y)
    | with_reducible assumption
    | with_reducible apply Moves.refl
    | ((with_reducible apply Moves.after (Moves.of_pair ?p openGrain_moves) ?e ?_); (case p => assumption); case e => rfl)
    | ((with_reducible apply Moves.after readMember_moves ?e ?_); case e => rfl)
    | fail_if_no_progress ((with_reducible apply Moves.set_drp ?e ?_); case e => rfl)
    | with_reducible apply Ends.next ?_
    | with_reducible apply Ends.ite ?_ ?_
    | with_reducible apply Moves.ite ?_ ?_
    | split

theorem execPage_moves {x0 x1 x2 x3 x4 x5 x6} : Ends 33555492 x6 (execPage x0 x1 x2 x3 x4 x5 x6) := by
  unfold execPage
  repeat' first
    | (extract_lets +onlyGivenNames y; first | (refine Ends.bind (x := y) ?_ fun _ => ?_; (on_goal 2 => clear_value y); subst y) | (refine Moves.bind (x := y) ?_ fun _ => ?_; (on_goal 2 => clear_value y); subst y) | clear_value y | subst y)
    | with_reducible assumption
    | with_reducible apply Moves.refl
    | ((with_reducible apply Moves.after bump_moves ?e ?_); case e => rfl)
    | ((with_reducible apply Moves.after memWrite_moves ?e ?_); case e => rfl)
    | ((with_reducible apply Moves.after hallmark_moves ?e ?_); case e => rfl)
    | ((with_reducible apply Moves.after reportMember_moves ?e ?_); case e => rfl)
    | with_reducible apply Ends.next ?_
    | with_reducible apply Ends.ite ?_ ?_
    | with_reducible apply Moves.ite ?_ ?_
    | split

theorem answered_moves {x0 x1} : Moves 33554432 x1 (answered x0 x1) := by
  unfold answered
  repeat' first
    | (extract_lets +onlyGivenNames y; first | clear_value y | subst y)
    | with_reducible assumption
    | with_reducible apply Moves.refl
    | ((with_reducible apply Moves.after modPut_moves ?e ?_); case e => rfl)

theorem execMemberReadDone_moves {x0 x1 x2 x3 x4 x5} : Ends 2304032375844 x5 (execMemberReadDone x0 x1 x2 x3 x4 x5) := by
  unfold execMemberReadDone
  repeat' first
    | (extract_lets +onlyGivenNames y; first | (refine Moves.bind (x := y) ?_ fun _ => ?_; (on_goal 2 => clear_value y); subst y) | clear_value y | subst y)
    | with_reducible assumption
    | with_reducible apply Moves.refl
    | ((with_reducible apply Moves.after startRecon_moves ?e ?_); case e => rfl)
    | ((with_reducible apply Moves.after openAndServe_moves ?e ?_); case e => rfl)
    | ((with_reducible apply Moves.after answered_moves ?e ?_); case e => rfl)
    | with_reducible apply Ends.next ?_
    | with_reducible apply Ends.ite ?_ ?_
    | with_reducible apply Moves.ite ?_ ?_
    | split

theorem execReconstructReadsDone_moves {x0 x1 x2 x3 x4 x5} : Ends 2304032375844 x5 (execReconstructReadsDone x0 x1 x2 x3 x4 x5) := by
  unfold execReconstructReadsDone
  repeat' first
    | (extract_lets +onlyGivenNames y; first | (refine Moves.bind (x := y) ?_ fun _ => ?_; (on_goal 2 => clear_value y); subst y) | clear_value y | subst y)
    | with_reducible assumption
    | with_reducible apply Moves.refl
    | ((with_reducible apply Moves.after reqPut_moves ?e ?_); case e => rfl)
    | ((with_reducible apply Moves.after grainLost_moves ?e ?_); case e => rfl)
    | ((with_reducible apply Moves.after rcMiss_moves ?e ?_); case e => rfl)
    | ((with_reducible apply Moves.after (Moves.of_pair ?p openGrain_moves) ?e ?_); (case p => assumption); case e => rfl)
    | ((with_reducible apply Moves.after (Moves.of_opt ?p serveBody_moves) ?e ?_); (case p => assumption); case e => rfl)
    | ((with_reducible apply Moves.after piBad_moves ?e ?_); case e => rfl)
    | ((with_reducible apply Moves.after fileSeal_moves ?e ?_); case e => rfl)
    | ((with_reducible apply Moves.after askRows_moves ?e ?_); case e => rfl)
    | ((with_reducible apply Moves.after reconEnd_moves ?e ?_); case e => rfl)
    | ((with_reducible apply Moves.after answered_moves ?e ?_); case e => rfl)
    | with_reducible apply Ends.next ?_
    | with_reducible apply Ends.ite ?_ ?_
    | with_reducible apply Moves.ite ?_ ?_
    | with_reducible apply Moves.foldl (fun _ _ => ?_) ?_
    | with_reducible apply Moves.foldl2 (fun _ _ => ?_) ?_
    | split

theorem execReadLimitExpiry_moves {x0 x1 x2 x3} : Ends 2304031851556 x3 (execReadLimitExpiry x0 x1 x2 x3) := by
  unfold execReadLimitExpiry
  repeat' first
    | (extract_lets +onlyGivenNames y; first | (refine Moves.bind (x := y) ?_ fun _ => ?_; (on_goal 2 => clear_value y); subst y) | clear_value y | subst y)
    | with_reducible assumption
    | with_reducible apply Moves.refl
    | ((with_reducible apply Moves.after bump_moves ?e ?_); case e => rfl)
    | ((with_reducible apply Moves.after hallmark_moves ?e ?_); case e => rfl)
    | ((with_reducible apply Moves.after grainDone_moves ?e ?_); case e => rfl)
    | ((with_reducible apply Moves.after grainLost_moves ?e ?_); case e => rfl)
    | with_reducible apply Ends.next ?_
    | with_reducible apply Ends.ite ?_ ?_
    | with_reducible apply Moves.ite ?_ ?_
    | split

theorem execRcFilterClear_moves {x0} : Ends 34359738368 x0 (execRcFilterClear x0) := by
  unfold execRcFilterClear
  repeat' first
    | (extract_lets +onlyGivenNames y; first | clear_value y | subst y)
    | with_reducible assumption
    | with_reducible apply Moves.refl
    | fail_if_no_progress ((with_reducible apply Moves.set_drp ?e ?_); case e => rfl)
    | with_reducible apply Ends.next ?_

theorem execRcClear_moves {x0 x1} : Ends 6664749057572 x1 (execRcClear x0 x1) := by
  unfold execRcClear
  repeat' first
    | (extract_lets +onlyGivenNames y; first | (refine Moves.bind (x := y) ?_ fun _ => ?_; (on_goal 2 => clear_value y); subst y) | clear_value y | subst y)
    | with_reducible assumption
    | with_reducible apply Moves.refl
    | ((with_reducible apply Moves.trans ?_ (atRegister_moves ?e (fun _ => ?_))); case e => rfl)
    | ((with_reducible apply Moves.after commandWrite_moves ?e ?_); case e => rfl)
    | ((with_reducible apply Moves.after rcPut_moves ?e ?_); case e => rfl)
    | with_reducible apply Ends.next ?_
    | with_reducible apply Ends.ite ?_ ?_
    | with_reducible apply Moves.ite ?_ ?_

/-! Sys2Proof/Machine/Ingots.lean. -/

theorem takeIn_moves {x0 x1 x2} : Opts2 17179869188 x2 (takeIn x0 x1 x2) := by
  unfold takeIn
  repeat' first
    | (extract_lets +onlyGivenNames y; first | (refine Opts2.bind (x := y) ?_ fun _ => ?_; (on_goal 2 => clear_value y); subst y) | (refine Moves.bind (x := y) ?_ fun _ => ?_; (on_goal 2 => clear_value y); subst y) | clear_value y | subst y)
    | with_reducible assumption
    | with_reducible apply Moves.refl
    | ((with_reducible apply Moves.after frgStat_moves ?e ?_); case e => rfl)
    | fail_if_no_progress ((with_reducible apply Moves.set_frg ?e ?_); case e => rfl)
    | with_reducible apply Opts2.some ?_
    | exact Opts2.none
    | with_reducible apply Opts2.ite ?_ ?_
    | with_reducible apply Moves.ite ?_ ?_
    | split

theorem placeIn_moves {x0 x1} : Moves 33554432 x1 (placeIn x0 x1) := by
  unfold placeIn
  repeat' first
    | with_reducible assumption
    | with_reducible apply Moves.refl
    | ((with_reducible apply Moves.after castingPut_moves ?e ?_); case e => rfl)
    | split

theorem publish_moves {x0 x1} : Moves 4465742579236 x1 (publish x0 x1) := by
  unfold publish
  repeat' first
    | (extract_lets +onlyGivenNames y; first | (refine of_fun y ?_; subst y) | clear_value y | subst y)
    | with_reducible assumption
    | with_reducible apply Moves.refl
    | ((with_reducible apply Moves.after fltFill_moves ?e ?_); case e => rfl)
    | ((with_reducible apply Moves.after idxSet_moves ?e ?_); case e => rfl)
    | ((with_reducible apply Moves.after wakePending_moves ?e ?_); case e => rfl)
    | with_reducible apply Moves.ite ?_ ?_
    | split

theorem execHandInBody_moves {x0 x1} : Ends 4534462055972 x1 (execHandInBody x0 x1) := by
  unfold execHandInBody
  repeat' first
    | (extract_lets +onlyGivenNames y; first | (refine Ends.bind (x := y) ?_ fun _ => ?_; (on_goal 2 => clear_value y); subst y) | (refine Moves.bind (x := y) ?_ fun _ => ?_; (on_goal 2 => clear_value y); subst y) | clear_value y | subst y)
    | with_reducible assumption
    | with_reducible apply Moves.refl
    | ((with_reducible apply Moves.after workUp_moves ?e ?_); case e => rfl)
    | ((with_reducible apply Moves.after ckptPost_moves ?e ?_); case e => rfl)
    | ((with_reducible apply Moves.after (Moves.of_opt2 ?p takeIn_moves) ?e ?_); (case p => assumption); case e => rfl)
    | ((with_reducible apply Moves.after placeIn_moves ?e ?_); case e => rfl)
    | ((with_reducible apply Moves.after publish_moves ?e ?_); case e => rfl)
    | with_reducible apply Ends.next ?_
    | with_reducible apply Ends.ite ?_ ?_
    | with_reducible apply Moves.ite ?_ ?_
    | split

theorem execHandInRef_moves {x0 x1} : Ends 17196646404 x1 (execHandInRef x0 x1) := by
  unfold execHandInRef
  repeat' first
    | with_reducible assumption
    | with_reducible apply Moves.refl
    | ((with_reducible apply Moves.after toLedger_moves ?e ?_); case e => rfl)
    | ((with_reducible apply Moves.after (Moves.of_opt2 ?p takeIn_moves) ?e ?_); (case p => assumption); case e => rfl)
    | with_reducible apply Ends.next ?_
    | split

theorem execHandInZero_moves {x0 x1} : Ends 17196646404 x1 (execHandInZero x0 x1) := by
  unfold execHandInZero
  repeat' first
    | with_reducible assumption
    | with_reducible apply Moves.refl
    | ((with_reducible apply Moves.after toLedger_moves ?e ?_); case e => rfl)
    | ((with_reducible apply Moves.after (Moves.of_opt2 ?p takeIn_moves) ?e ?_); (case p => assumption); case e => rfl)
    | with_reducible apply Ends.next ?_
    | split

theorem execHandInSlag_moves {x0 x1} : Ends 17196647940 x1 (execHandInSlag x0 x1) := by
  unfold execHandInSlag
  repeat' first
    | with_reducible assumption
    | with_reducible apply Moves.refl
    | ((with_reducible apply Moves.after slagAdd_moves ?e ?_); case e => rfl)
    | ((with_reducible apply Moves.after toLedger_moves ?e ?_); case e => rfl)
    | ((with_reducible apply Moves.after (Moves.of_opt2 ?p takeIn_moves) ?e ?_); (case p => assumption); case e => rfl)
    | with_reducible apply Ends.next ?_
    | split

theorem execHandInCull_moves {x0 x1} : Ends 17213423620 x1 (execHandInCull x0 x1) := by
  unfold execHandInCull
  repeat' first
    | with_reducible assumption
    | with_reducible apply Moves.refl
    | ((with_reducible apply Moves.after (Moves.of_opt2 ?p takeIn_moves) ?e ?_); (case p => assumption); case e => rfl)
    | ((with_reducible apply Moves.after placeIn_moves ?e ?_); case e => rfl)
    | with_reducible apply Ends.next ?_
    | split

theorem execCastStart_moves {x0 x1} : Ends 2268665480772 x1 (execCastStart x0 x1) := by
  unfold execCastStart
  repeat' first
    | with_reducible assumption
    | with_reducible apply Moves.refl
    | ((with_reducible apply Moves.after castIngot_moves ?e ?_); case e => rfl)
    | with_reducible apply Ends.next ?_
    | with_reducible apply Ends.ite ?_ ?_
    | with_reducible apply Moves.ite ?_ ?_
    | split

theorem sjAcked_moves {x0 x1} : Moves 2199123918916 x1 (sjAcked x0 x1) := by
  unfold sjAcked
  repeat' first
    | (extract_lets +onlyGivenNames y; first | (refine Moves.bind (x := y) ?_ fun _ => ?_; (on_goal 2 => clear_value y); subst y) | clear_value y | subst y)
    | with_reducible assumption
    | with_reducible apply Moves.refl
    | ((with_reducible apply Moves.after sjMark_moves ?e ?_); case e => rfl)
    | ((with_reducible apply Moves.after issueAll_moves ?e ?_); case e => rfl)
    | fail_if_no_progress ((with_reducible apply Moves.set_ing ?e ?_); case e => rfl)
    | with_reducible apply Moves.ite ?_ ?_
    | with_reducible apply Moves.foldl (fun _ _ => ?_) ?_
    | with_reducible apply Moves.foldl2 (fun _ _ => ?_) ?_
    | split

theorem execJournalAckTimeout_moves {x0 x1} : Ends 2200197662276 x1 (execJournalAckTimeout x0 x1) := by
  unfold execJournalAckTimeout
  repeat' first
    | (extract_lets +onlyGivenNames y; first | (refine Ends.bind (x := y) ?_ fun _ => ?_; (on_goal 2 => clear_value y); subst y) | (refine Moves.bind (x := y) ?_ fun _ => ?_; (on_goal 2 => clear_value y); subst y) | clear_value y | subst y)
    | with_reducible assumption
    | with_reducible apply Moves.refl
    | ((with_reducible apply Moves.after sendW_moves ?e ?_); case e => rfl)
    | ((with_reducible apply Moves.after degrade_moves ?e ?_); case e => rfl)
    | ((with_reducible apply Moves.after sjAcked_moves ?e ?_); case e => rfl)
    | fail_if_no_progress ((with_reducible apply Moves.set_ing ?e ?_); case e => rfl)
    | with_reducible apply Ends.next ?_
    | with_reducible apply Ends.ite ?_ ?_
    | with_reducible apply Moves.ite ?_ ?_
    | with_reducible apply Moves.foldl (fun _ _ => ?_) ?_
    | with_reducible apply Moves.foldl2 (fun _ _ => ?_) ?_
    | split

theorem execMemberAppendDone_moves {x0 x1 x2 x3} : Ends 2268665480772 x3 (execMemberAppendDone x0 x1 x2 x3) := by
  unfold execMemberAppendDone
  repeat' first
    | (extract_lets +onlyGivenNames y; first | (refine Moves.bind (x := y) ?_ fun _ => ?_; (on_goal 2 => clear_value y); subst y) | clear_value y | subst y)
    | with_reducible assumption
    | with_reducible apply Moves.refl
    | ((with_reducible apply Moves.after bump_moves ?e ?_); case e => rfl)
    | ((with_reducible apply Moves.after hallmark_moves ?e ?_); case e => rfl)
    | ((with_reducible apply Moves.after castingPut_moves ?e ?_); case e => rfl)
    | ((with_reducible apply Moves.after chunkDone_moves ?e ?_); case e => rfl)
    | ((with_reducible apply Moves.after issueAll_moves ?e ?_); case e => rfl)
    | ((with_reducible apply Moves.after dropAppend_moves ?e ?_); case e => rfl)
    | ((with_reducible apply Moves.after retireIfDone_moves ?e ?_); case e => rfl)
    | ((with_reducible apply Moves.after appendFailed_moves ?e ?_); case e => rfl)
    | with_reducible apply Ends.next ?_
    | with_reducible apply Ends.ite ?_ ?_
    | with_reducible apply Moves.ite ?_ ?_
    | split

theorem execAppendFail_moves {x0 x1 x2} : Ends 2268648703556 x2 (execAppendFail x0 x1 x2) := by
  unfold execAppendFail
  repeat' first
    | with_reducible assumption
    | with_reducible apply Moves.refl
    | ((with_reducible apply Moves.after appendFailed_moves ?e ?_); case e => rfl)
    | with_reducible apply Ends.next ?_
    | with_reducible apply Ends.ite ?_ ?_
    | with_reducible apply Moves.ite ?_ ?_
    | split

theorem execAmendRetryTick_moves {x0} : Ends 2268648703556 x0 (execAmendRetryTick x0) := by
  unfold execAmendRetryTick
  repeat' first
    | with_reducible assumption
    | with_reducible apply Moves.refl
    | ((with_reducible apply Moves.after amend_moves ?e ?_); case e => rfl)
    | with_reducible apply Ends.next ?_
    | with_reducible apply Ends.ite ?_ ?_
    | with_reducible apply Moves.ite ?_ ?_
    | with_reducible apply Moves.foldl (fun _ _ => ?_) ?_
    | with_reducible apply Moves.foldl2 (fun _ _ => ?_) ?_
    | split

theorem resolveMark_moves {x0 x1 x2 x3 x4} : Moves 33554496 x4 (resolveMark x0 x1 x2 x3 x4) := by
  unfold resolveMark
  repeat' first
    | (extract_lets +onlyGivenNames y; first | (refine Moves.bind (x := y) ?_ fun _ => ?_; (on_goal 2 => clear_value y); subst y) | clear_value y | subst y)
    | with_reducible assumption
    | with_reducible apply Moves.refl
    | ((with_reducible apply Moves.after qstWrite_moves ?e ?_); case e => rfl)
    | fail_if_no_progress ((with_reducible apply Moves.set_ing ?e ?_); case e => rfl)
    | with_reducible apply Moves.ite ?_ ?_

theorem resolveMark_stay {x0 x1 x2 x3 x4} : Moves 2267860173892 x4 (resolveMark x0 x1 x2 x3 x4) := resolveMark_moves.mono rfl

theorem resolveEntry_moves {x0 x1 x2 x3 x4 x5} : Moves 2267860173892 x3.s (resolveEntry x0 x1 x2 x3 x4 x5).s := by
  unfold resolveEntry
  extract_lets +onlyGivenNames j n locs x y
  have hy : Moves 2267860173892 x3.s y.s :=
    Moves.foldl (fun _ _ => releaseChunk_moves.mono rfl) (Moves.after bump_moves rfl resolveMark_stay)
  clear_value y
  split
  · extract_lets w
    split
    · exact resolveMark_stay
    · exact Moves.foldl (fun _ _ => releaseChunk_moves.mono rfl) (Moves.after bump_moves rfl resolveMark_stay)
  · split
    · extract_lets ms z s
      exact Moves.set_ldg rfl resolveMark_stay
    · exact hy

theorem resolveSlot_moves {x0 x1 x2 x3 x4} : Moves 2267860173892 x3.s (resolveSlot x0 x1 x2 x3 x4).s := by
  unfold resolveSlot
  split
  · rename_i b peer _
    split
    · exact resolveEntry_moves (x0 := x0) (x1 := x1) (x2 := x2) (x3 := { x3 with partner := x3.partner || peer }) (x4 := x4) (x5 := b)
    · exact Moves.refl _ _
  · exact Moves.refl _ _

theorem resolveAll_moves {x0 x1 x2} (l : List Nat) :
    ∀ r : Resolved, Moves 2267860173892 r.s (l.foldl (resolveSlot x0 x1 x2) r).s := by
  induction l with
  | nil => exact fun r => Moves.refl _ _
  | cons a l ih =>
    intro r
    rw [List.foldl_cons]
    exact Moves.trans resolveSlot_moves (ih _)

theorem execJournalResolve_moves {x0 x1 x2} : Ends 2267860173892 x2 (execJournalResolve x0 x1 x2) := by
  unfold execJournalResolve
  extract_lets +onlyGivenNames base committed slots missing
  refine Ends.next (Moves.ite (Moves.refl _ _) (Moves.ite ?_ ?_))
  · exact Moves.foldl (fun _ _ => sendW_moves.mono rfl) (Moves.refl _ _)
  extract_lets +onlyGivenNames none_ r
  have hr : Moves 2267860173892 x2 r.s := resolveAll_moves slots { s := x2 }
  clear_value r
  repeat' first
    | (extract_lets +onlyGivenNames y; first | (refine Ends.bind (x := y) ?_ fun _ => ?_; (on_goal 2 => clear_value y); subst y) | (refine Ends.bind (x := y.2) ?_ fun _ => ?_; (on_goal 2 => clear_value y); subst y) | (refine Moves.bind (x := y) ?_ fun _ => ?_; (on_goal 2 => clear_value y); subst y) | (refine Moves.bind (x := y.2) ?_ fun _ => ?_; (on_goal 2 => clear_value y); subst y) | (refine of_fun y ?_; subst y) | clear_value y | subst y)
    | with_reducible assumption
    | with_reducible apply Moves.refl
    | ((with_reducible apply Moves.after wrF_moves ?e ?_); case e => rfl)
    | ((with_reducible apply Moves.after bump_moves ?e ?_); case e => rfl)
    | ((with_reducible apply Moves.after hallmark_moves ?e ?_); case e => rfl)
    | ((with_reducible apply Moves.after sendW_moves ?e ?_); case e => rfl)
    | ((with_reducible apply Moves.after modPut_moves ?e ?_); case e => rfl)
    | ((with_reducible apply Moves.after settleFences_moves ?e ?_); case e => rfl)
    | ((with_reducible apply Moves.after releaseChunk_moves ?e ?_); case e => rfl)
    | ((with_reducible apply Moves.after resolveMark_moves ?e ?_); case e => rfl)
    | fail_if_no_progress ((with_reducible apply Moves.set_ldg ?e ?_); case e => rfl)
    | fail_if_no_progress ((with_reducible apply Moves.set_ing ?e ?_); case e => rfl)
    | with_reducible apply Ends.next ?_
    | with_reducible apply Ends.ite ?_ ?_
    | with_reducible apply Moves.ite ?_ ?_
    | with_reducible apply Moves.foldl (fun _ _ => ?_) ?_
    | with_reducible apply Moves.foldl2 (fun _ _ => ?_) ?_
    | split

theorem execSjData_moves {x0 x1 x2} : Ends 2199123918848 x2 (execSjData x0 x1 x2) := by
  unfold execSjData
  repeat' first
    | (extract_lets +onlyGivenNames y; first | (refine Ends.bind (x := y) ?_ fun _ => ?_; (on_goal 2 => clear_value y); subst y) | clear_value y | subst y)
    | with_reducible assumption
    | with_reducible apply Moves.refl
    | ((with_reducible apply Moves.after takeRx_moves ?e ?_); case e => rfl)
    | fail_if_no_progress ((with_reducible apply Moves.set_ing ?e ?_); case e => rfl)
    | with_reducible apply Ends.next ?_

theorem countDetour_moves {x0 x1} : Moves 2304099485284 x1 (countDetour x0 x1) := by
  unfold countDetour
  repeat' first
    | (extract_lets +onlyGivenNames y; first | (refine Moves.bind (x := y) ?_ fun _ => ?_; (on_goal 2 => clear_value y); subst y) | clear_value y | subst y)
    | with_reducible assumption
    | with_reducible apply Moves.refl
    | ((with_reducible apply Moves.after modPut_moves ?e ?_); case e => rfl)
    | ((with_reducible apply Moves.after ejectSlow_moves ?e ?_); case e => rfl)
    | with_reducible apply Moves.ite ?_ ?_

theorem execDetourExpiry_moves {x0 x1 x2 x3 x4} : Ends 2304099485284 x4 (execDetourExpiry x0 x1 x2 x3 x4) := by
  unfold execDetourExpiry
  repeat' first
    | (extract_lets +onlyGivenNames y; first | clear_value y | subst y)
    | with_reducible assumption
    | with_reducible apply Moves.refl
    | ((with_reducible apply Moves.after bump_moves ?e ?_); case e => rfl)
    | ((with_reducible apply Moves.after startRecon_moves ?e ?_); case e => rfl)
    | ((with_reducible apply Moves.after countDetour_moves ?e ?_); case e => rfl)
    | with_reducible apply Ends.next ?_
    | with_reducible apply Ends.ite ?_ ?_
    | with_reducible apply Moves.ite ?_ ?_
    | split

theorem execEjectTimeout_moves {x0 x1} : Ends 2304099485284 x1 (execEjectTimeout x0 x1) := by
  unfold execEjectTimeout
  repeat' first
    | with_reducible assumption
    | with_reducible apply Moves.refl
    | ((with_reducible apply Moves.after ejectSlow_moves ?e ?_); case e => rfl)
    | with_reducible apply Ends.next ?_
    | with_reducible apply Ends.ite ?_ ?_
    | with_reducible apply Moves.ite ?_ ?_

theorem execModEject_moves {x0 x1} : Ends 6734358251108 x1 (execModEject x0 x1) := by
  unfold execModEject
  repeat' first
    | (extract_lets +onlyGivenNames y; first | (refine Moves.bind (x := y) ?_ fun _ => ?_; (on_goal 2 => clear_value y); subst y) | clear_value y | subst y)
    | with_reducible assumption
    | with_reducible apply Moves.refl
    | ((with_reducible apply Moves.trans ?_ (atRegister_moves ?e (fun _ => ?_))); case e => rfl)
    | ((with_reducible apply Moves.after commandWrite_moves ?e ?_); case e => rfl)
    | ((with_reducible apply Moves.after ejectNow_moves ?e ?_); case e => rfl)
    | with_reducible apply Ends.next ?_
    | with_reducible apply Ends.ite ?_ ?_
    | with_reducible apply Moves.ite ?_ ?_

theorem execDeferredEject_moves {x0 x1} : Ends 2304099485284 x1 (execDeferredEject x0 x1) := by
  unfold execDeferredEject
  repeat' first
    | (extract_lets +onlyGivenNames y; first | clear_value y | subst y)
    | with_reducible assumption
    | with_reducible apply Moves.refl
    | ((with_reducible apply Moves.after ejectNow_moves ?e ?_); case e => rfl)
    | with_reducible apply Ends.next ?_
    | with_reducible apply Ends.ite ?_ ?_
    | with_reducible apply Moves.ite ?_ ?_

theorem execControllerFatalStatus_moves {x0 x1} : Ends 2304099485284 x1 (execControllerFatalStatus x0 x1) := by
  unfold execControllerFatalStatus
  repeat' first
    | with_reducible assumption
    | with_reducible apply Moves.refl
    | ((with_reducible apply Moves.after ejectNow_moves ?e ?_); case e => rfl)
    | with_reducible apply Ends.next ?_
    | with_reducible apply Ends.ite ?_ ?_
    | with_reducible apply Moves.ite ?_ ?_

theorem execRebuildScan_moves {x0} : Ends 33555972 x0 (execRebuildScan x0) := by
  unfold execRebuildScan
  repeat' first
    | (extract_lets +onlyGivenNames y; first | (refine Ends.bind (x := y) ?_ fun _ => ?_; (on_goal 2 => clear_value y); subst y) | (refine Moves.bind (x := y) ?_ fun _ => ?_; (on_goal 2 => clear_value y); subst y) | clear_value y | subst y)
    | with_reducible assumption
    | with_reducible apply Moves.refl
    | ((with_reducible apply Moves.after wrF_moves ?e ?_); case e => rfl)
    | ((with_reducible apply Moves.after rebuildStat_moves ?e ?_); case e => rfl)
    | ((with_reducible apply Moves.after fileIngot_moves ?e ?_); case e => rfl)
    | fail_if_no_progress ((with_reducible apply Moves.set_ing ?e ?_); case e => rfl)
    | with_reducible apply Ends.next ?_
    | with_reducible apply Ends.ite ?_ ?_
    | with_reducible apply Moves.ite ?_ ?_
    | with_reducible apply Moves.foldl (fun _ _ => ?_) ?_

theorem execRebuildStart_moves {x0} : Ends 2336495764996 x0 (execRebuildStart x0) := by
  unfold execRebuildStart
  repeat' first
    | (extract_lets +onlyGivenNames y; first | (refine Moves.bind (x := y) ?_ fun _ => ?_; (on_goal 2 => clear_value y); subst y) | clear_value y | subst y)
    | with_reducible assumption
    | with_reducible apply Moves.refl
    | ((with_reducible apply Moves.after ingStat_moves ?e ?_); case e => rfl)
    | ((with_reducible apply Moves.after rebuildStat_moves ?e ?_); case e => rfl)
    | ((with_reducible apply Moves.after fileIngot_moves ?e ?_); case e => rfl)
    | ((with_reducible apply Moves.after askChunks_moves ?e ?_); case e => rfl)
    | fail_if_no_progress ((with_reducible apply Moves.set_ing ?e ?_); case e => rfl)
    | fail_if_no_progress ((with_reducible apply Moves.set_anl ?e ?_); case e => rfl)
    | with_reducible apply Ends.next ?_
    | with_reducible apply Ends.ite ?_ ?_
    | with_reducible apply Moves.ite ?_ ?_
    | split

theorem decodeAttempt_moves {x0 x1 x2} : Moves 2268648703556 x2 (decodeAttempt x0 x1 x2) := by
  unfold decodeAttempt
  repeat' first
    | (extract_lets +onlyGivenNames y; first | (refine Moves.bind (x := y) ?_ fun _ => ?_; (on_goal 2 => clear_value y); subst y) | clear_value y | subst y)
    | with_reducible assumption
    | with_reducible apply Moves.refl
    | ((with_reducible apply Moves.after wrF_moves ?e ?_); case e => rfl)
    | ((with_reducible apply Moves.after modPut_moves ?e ?_); case e => rfl)
    | ((with_reducible apply Moves.after (Moves.of_pair ?p grantChunks_moves) ?e ?_); (case p => assumption); case e => rfl)
    | ((with_reducible apply Moves.after (Moves.of_opt2 ?p sjWrite_moves) ?e ?_); (case p => assumption); case e => rfl)
    | ((with_reducible apply Moves.after issueAll_moves ?e ?_); case e => rfl)
    | ((with_reducible apply Moves.after stallAttempt_moves ?e ?_); case e => rfl)
    | fail_if_no_progress ((with_reducible apply Moves.set_ing ?e ?_); case e => rfl)
    | with_reducible apply Moves.ite ?_ ?_
    | with_reducible apply Moves.foldl (fun _ _ => ?_) ?_
    | with_reducible apply Moves.foldl2 (fun _ _ => ?_) ?_
    | split

theorem execRebuildDecodeDone_moves {x0 x1 x2} : Ends 2304099485284 x2 (execRebuildDecodeDone x0 x1 x2) := by
  unfold execRebuildDecodeDone
  repeat' first
    | (extract_lets +onlyGivenNames y; first | (refine Ends.bind (x := y) ?_ fun _ => ?_; (on_goal 2 => clear_value y); subst y) | (refine Moves.bind (x := y) ?_ fun _ => ?_; (on_goal 2 => clear_value y); subst y) | clear_value y | subst y)
    | with_reducible assumption
    | with_reducible apply Moves.refl
    | ((with_reducible apply Moves.after answered_moves ?e ?_); case e => rfl)
    | ((with_reducible apply Moves.after sjFlags_moves ?e ?_); case e => rfl)
    | ((with_reducible apply Moves.after countDetour_moves ?e ?_); case e => rfl)
    | ((with_reducible apply Moves.after decodeAttempt_moves ?e ?_); case e => rfl)
    | with_reducible apply Ends.next ?_
    | with_reducible apply Ends.ite ?_ ?_
    | with_reducible apply Moves.ite ?_ ?_
    | with_reducible apply Moves.foldl (fun _ _ => ?_) ?_
    | with_reducible apply Moves.foldl2 (fun _ _ => ?_) ?_
    | split

theorem execRebuildAppendsDone_moves {x0 x1} : Ends 2285040043588 x1 (execRebuildAppendsDone x0 x1) := by
  unfold execRebuildAppendsDone
  repeat' first
    | (extract_lets +onlyGivenNames y; first | (refine Moves.bind (x := y) ?_ fun _ => ?_; (on_goal 2 => clear_value y); subst y) | clear_value y | subst y)
    | with_reducible assumption
    | with_reducible apply Moves.refl
    | ((with_reducible apply Moves.after hallmark_moves ?e ?_); case e => rfl)
    | ((with_reducible apply Moves.after slagAdd_moves ?e ?_); case e => rfl)
    | ((with_reducible apply Moves.after sjMark_moves ?e ?_); case e => rfl)
    | ((with_reducible apply Moves.after toLedger_moves ?e ?_); case e => rfl)
    | ((with_reducible apply Moves.after sjFlags_moves ?e ?_); case e => rfl)
    | ((with_reducible apply Moves.after abandonAttempt_moves ?e ?_); case e => rfl)
    | ((with_reducible apply Moves.after dropIndex_moves ?e ?_); case e => rfl)
    | ((with_reducible apply Moves.after sweepStat_moves ?e ?_); case e => rfl)
    | fail_if_no_progress ((with_reducible apply Moves.set_ing ?e ?_); case e => rfl)
    | with_reducible apply Ends.next ?_
    | with_reducible apply Ends.ite ?_ ?_
    | with_reducible apply Moves.ite ?_ ?_
    | with_reducible apply Moves.foldl (fun _ _ => ?_) ?_
    | with_reducible apply Moves.foldl2 (fun _ _ => ?_) ?_
    | split

theorem execRebuildBucketRefill_moves {x0} : Ends 33554432 x0 (execRebuildBucketRefill x0) := by
  unfold execRebuildBucketRefill
  repeat' first
    | (extract_lets +onlyGivenNames y; first | clear_value y | subst y)
    | with_reducible assumption
    | with_reducible apply Moves.refl
    | fail_if_no_progress ((with_reducible apply Moves.set_ing ?e ?_); case e => rfl)
    | with_reducible apply Ends.next ?_

theorem execSweepPassStart_moves {x0} : Ends 16778756 x0 (execSweepPassStart x0) := by
  unfold execSweepPassStart
  repeat' first
    | (extract_lets +onlyGivenNames y; first | (refine Ends.bind (x := y) ?_ fun _ => ?_; (on_goal 2 => clear_value y); subst y) | (refine Moves.bind (x := y) ?_ fun _ => ?_; (on_goal 2 => clear_value y); subst y) | clear_value y | subst y)
    | with_reducible assumption
    | with_reducible apply Moves.refl
    | ((with_reducible apply Moves.after wrF_moves ?e ?_); case e => rfl)
    | ((with_reducible apply Moves.after slagAdd_moves ?e ?_); case e => rfl)
    | ((with_reducible apply Moves.after toLedger_moves ?e ?_); case e => rfl)
    | ((with_reducible apply Moves.after sweepStat_moves ?e ?_); case e => rfl)
    | fail_if_no_progress ((with_reducible apply Moves.set_ldg ?e ?_); case e => rfl)
    | with_reducible apply Ends.next ?_
    | with_reducible apply Ends.ite ?_ ?_
    | with_reducible apply Moves.ite ?_ ?_
    | with_reducible apply Moves.foldl (fun _ _ => ?_) ?_

theorem execSweepPassEnd_moves {x0} : Ends 16778244 x0 (execSweepPassEnd x0) := by
  unfold execSweepPassEnd
  repeat' first
    | (extract_lets +onlyGivenNames y; first | (refine Moves.bind (x := y) ?_ fun _ => ?_; (on_goal 2 => clear_value y); subst y) | clear_value y | subst y)
    | with_reducible assumption
    | with_reducible apply Moves.refl
    | ((with_reducible apply Moves.after wrF_moves ?e ?_); case e => rfl)
    | ((with_reducible apply Moves.after hallmark_moves ?e ?_); case e => rfl)
    | ((with_reducible apply Moves.after slagCount_moves ?e ?_); case e => rfl)
    | ((with_reducible apply Moves.after sweepStat_moves ?e ?_); case e => rfl)
    | fail_if_no_progress ((with_reducible apply Moves.set_ldg ?e ?_); case e => rfl)
    | with_reducible apply Ends.next ?_
    | split

end Sys2Proof.Machine
end

