-- ==== Sys2Proof/Laws/MovesLedger.lean ====
section
/-! SUPPORT. What each definition may change. The ledger, its copies and the Wadun link. -/

namespace Sys2Proof.Machine

/-! Sys2Proof/Machine/LedgerFlow.lean. -/

theorem coreSet_moves {x0 x1 x2} : Moves 4 x2 (coreSet x0 x1 x2) := by
  unfold coreSet
  repeat' first
    | with_reducible assumption
    | with_reducible apply Moves.refl
    | ((with_reducible apply Moves.after wrF_moves ?e ?_); case e => rfl)

theorem ldgStat_moves {x0} : Moves 4 x0 (ldgStat x0) := by
  unfold ldgStat
  repeat' first
    | with_reducible assumption
    | with_reducible apply Moves.refl
    | ((with_reducible apply Moves.after wrF_moves ?e ?_); case e => rfl)

theorem journalFill_moves {x0} : Moves 16778244 x0 (journalFill x0) := by
  unfold journalFill
  repeat' first
    | (extract_lets +onlyGivenNames y; first | (refine Moves.bind (x := y) ?_ fun _ => ?_; (on_goal 2 => clear_value y); subst y) | clear_value y | subst y)
    | with_reducible assumption
    | with_reducible apply Moves.refl
    | ((with_reducible apply Moves.after wrF_moves ?e ?_); case e => rfl)
    | ((with_reducible apply Moves.after hallmark_moves ?e ?_); case e => rfl)
    | fail_if_no_progress ((with_reducible apply Moves.set_ldg ?e ?_); case e => rfl)
    | with_reducible apply Moves.ite ?_ ?_

theorem tailPut_moves {x0 x1} : Moves 16778308 x1 (tailPut x0 x1) := by
  unfold tailPut
  repeat' first
    | (extract_lets +onlyGivenNames y; first | clear_value y | subst y)
    | with_reducible assumption
    | with_reducible apply Moves.refl
    | ((with_reducible apply Moves.after wr64_moves ?e ?_); case e => rfl)
    | ((with_reducible apply Moves.after qstWrite_moves ?e ?_); case e => rfl)
    | ((with_reducible apply Moves.after journalFill_moves ?e ?_); case e => rfl)

theorem writeRecord_moves {x0 x1 x2} : Moves 2199107142724 x2 (writeRecord x0 x1 x2) := by
  unfold writeRecord
  repeat' first
    | (extract_lets +onlyGivenNames y; first | (refine Moves.bind (x := y) ?_ fun _ => ?_; (on_goal 2 => clear_value y); subst y) | clear_value y | subst y)
    | with_reducible assumption
    | with_reducible apply Moves.refl
    | ((with_reducible apply Moves.after sendW_moves ?e ?_); case e => rfl)
    | ((with_reducible apply Moves.after epPut_moves ?e ?_); case e => rfl)
    | ((with_reducible apply Moves.after tailPut_moves ?e ?_); case e => rfl)
    | with_reducible apply Moves.ite ?_ ?_

theorem writeRun_moves {x0 x1} : Moves 2199107142724 x1 (writeRun x0 x1) := by
  unfold writeRun
  repeat' first
    | (extract_lets +onlyGivenNames y; first | (refine Moves.bind (x := y) ?_ fun _ => ?_; (on_goal 2 => clear_value y); subst y) | clear_value y | subst y)
    | with_reducible assumption
    | with_reducible apply Moves.refl
    | ((with_reducible apply Moves.after epPut_moves ?e ?_); case e => rfl)
    | ((with_reducible apply Moves.after writeRecord_moves ?e ?_); case e => rfl)
    | split

theorem flushItems_moves {x0 x1} : Moves 2199107142724 x1 (flushItems x0 x1) := by
  unfold flushItems
  repeat' first
    | with_reducible assumption
    | with_reducible apply Moves.refl
    | ((with_reducible apply Moves.after writeRun_moves ?e ?_); case e => rfl)
    | with_reducible apply Moves.foldl (fun _ _ => ?_) ?_

theorem flushFull_moves {x0 x1} : Moves 2199107142724 x1 (flushFull x0 x1) := by
  unfold flushFull
  repeat' first
    | with_reducible assumption
    | with_reducible apply Moves.refl
    | ((with_reducible apply Moves.after writeRun_moves ?e ?_); case e => rfl)
    | with_reducible apply Moves.ite ?_ ?_
    | with_reducible apply Moves.foldl (fun _ _ => ?_) ?_

theorem placeItem_moves {x0 x1 x2 x3 x4} : Moves 2199107142724 x4 (placeItem x0 x1 x2 x3 x4) := by
  unfold placeItem
  repeat' first
    | (extract_lets +onlyGivenNames y; first | (refine Moves.bind (x := y) ?_ fun _ => ?_; (on_goal 2 => clear_value y); subst y) | clear_value y | subst y)
    | with_reducible assumption
    | with_reducible apply Moves.refl
    | ((with_reducible apply Moves.after epPut_moves ?e ?_); case e => rfl)
    | ((with_reducible apply Moves.after flushFull_moves ?e ?_); case e => rfl)
    | with_reducible apply Moves.ite ?_ ?_

theorem forgeBits_moves {x0 x1 x2} : Moves 4 x2 (forgeBits x0 x1 x2) := by
  unfold forgeBits
  repeat' first
    | with_reducible assumption
    | with_reducible apply Moves.refl
    | ((with_reducible apply Moves.after wrF_moves ?e ?_); case e => rfl)
    | with_reducible apply Moves.foldl (fun _ _ => ?_) ?_

theorem transfer_moves {x0 x1} : Moves 2199845339140 x0 (transfer x0 x1) := by
  unfold transfer
  repeat' first
    | (extract_lets +onlyGivenNames y; first | clear_value y | subst y)
    | with_reducible assumption
    | with_reducible apply Moves.refl
    | ((with_reducible apply Moves.after hqAsync_moves ?e ?_); case e => rfl)
    | fail_if_no_progress ((with_reducible apply Moves.set_ldg ?e ?_); case e => rfl)
    | with_reducible apply Moves.ite ?_ ?_

theorem closeTo_moves {x0 x1 x2} : Moves 2199878893572 x2 (closeTo x0 x1 x2) := by
  unfold closeTo
  repeat' first
    | (extract_lets +onlyGivenNames y; first | (refine Moves.bind (x := y) ?_ fun _ => ?_; (on_goal 2 => clear_value y); subst y) | clear_value y | subst y)
    | with_reducible assumption
    | with_reducible apply Moves.refl
    | ((with_reducible apply Moves.after wr64_moves ?e ?_); case e => rfl)
    | ((with_reducible apply Moves.after epPut_moves ?e ?_); case e => rfl)
    | ((with_reducible apply Moves.after ldgStat_moves ?e ?_); case e => rfl)
    | ((with_reducible apply Moves.after forgeBits_moves ?e ?_); case e => rfl)
    | ((with_reducible apply Moves.after transfer_moves ?e ?_); case e => rfl)
    | fail_if_no_progress ((with_reducible apply Moves.set_ldg ?e ?_); case e => rfl)
    | fail_if_no_progress ((with_reducible apply Moves.set_ing ?e ?_); case e => rfl)
    | with_reducible apply Moves.ite ?_ ?_
    | with_reducible apply Moves.foldl (fun _ _ => ?_) ?_

theorem doClose_moves {x0 x1} : Moves 2199878893572 x1 (doClose x0 x1) := by
  unfold doClose
  repeat' first
    | with_reducible assumption
    | with_reducible apply Moves.refl
    | ((with_reducible apply Moves.after closeTo_moves ?e ?_); case e => rfl)

theorem tryClose_moves {x0} : Moves 2199946003972 x0 (tryClose x0) := by
  unfold tryClose
  repeat' first
    | (extract_lets +onlyGivenNames y; first | (refine Moves.bind (x := y) ?_ fun _ => ?_; (on_goal 2 => clear_value y); subst y) | clear_value y | subst y)
    | with_reducible assumption
    | with_reducible apply Moves.refl
    | ((with_reducible apply Moves.after hallmark_moves ?e ?_); case e => rfl)
    | ((with_reducible apply Moves.after event_moves ?e ?_); case e => rfl)
    | ((with_reducible apply Moves.after sendW_moves ?e ?_); case e => rfl)
    | ((with_reducible apply Moves.after doClose_moves ?e ?_); case e => rfl)
    | fail_if_no_progress ((with_reducible apply Moves.set_ldg ?e ?_); case e => rfl)
    | with_reducible apply Moves.ite ?_ ?_

theorem epochSkew_moves {x0} : Moves 6664832943652 x0 (epochSkew x0) := by
  unfold epochSkew
  repeat' first
    | with_reducible assumption
    | with_reducible apply Moves.refl
    | ((with_reducible apply Moves.after recordFault_moves ?e ?_); case e => rfl)
    | ((with_reducible apply Moves.after takeoverCause_moves ?e ?_); case e => rfl)

theorem endWaits_moves {x0 x1 x2} : Moves 51573163524 x2 (endWaits x0 x1 x2) := by
  unfold endWaits
  repeat' first
    | with_reducible assumption
    | with_reducible apply Moves.refl
    | ((with_reducible apply Moves.after bump_moves ?e ?_); case e => rfl)
    | ((with_reducible apply Moves.after settleMiss_moves ?e ?_); case e => rfl)
    | ((with_reducible apply Moves.after verifyMiss_moves ?e ?_); case e => rfl)
    | split

theorem forgeDrain_moves {x0 x1} : Moves 4465725802020 x1 (forgeDrain x0 x1) := by
  unfold forgeDrain
  repeat' first
    | with_reducible assumption
    | with_reducible apply Moves.refl
    | ((with_reducible apply Moves.after frgTurn_moves ?e ?_); case e => rfl)
    | ((with_reducible apply Moves.after endWaits_moves ?e ?_); case e => rfl)
    | with_reducible apply Moves.foldl (fun _ _ => ?_) ?_

theorem castOpen_moves {x0 x1} : Moves 2268665480772 x1 (castOpen x0 x1) := by
  unfold castOpen
  repeat' first
    | (extract_lets +onlyGivenNames y; first | (refine Moves.bind (x := y) ?_ fun _ => ?_; (on_goal 2 => clear_value y); subst y) | clear_value y | subst y)
    | with_reducible assumption
    | with_reducible apply Moves.refl
    | ((with_reducible apply Moves.after castingPut_moves ?e ?_); case e => rfl)
    | ((with_reducible apply Moves.after castIngot_moves ?e ?_); case e => rfl)
    | with_reducible apply Moves.ite ?_ ?_
    | with_reducible apply Moves.foldl (fun _ _ => ?_) ?_

theorem resyncDone_moves {x0 x1} : Moves 1028 x1 (resyncDone x0 x1) := by
  unfold resyncDone
  repeat' first
    | with_reducible assumption
    | with_reducible apply Moves.refl
    | ((with_reducible apply Moves.after wrF_moves ?e ?_); case e => rfl)
    | ((with_reducible apply Moves.after hallmark_moves ?e ?_); case e => rfl)
    | ((with_reducible apply Moves.after coreSet_moves ?e ?_); case e => rfl)
    | with_reducible apply Moves.ite ?_ ?_

theorem resyncEnd_moves {x0} : Moves 16778244 x0 (resyncEnd x0) := by
  unfold resyncEnd
  repeat' first
    | (extract_lets +onlyGivenNames y; first | (refine Moves.bind (x := y) ?_ fun _ => ?_; (on_goal 2 => clear_value y); subst y) | clear_value y | subst y)
    | with_reducible assumption
    | with_reducible apply Moves.refl
    | ((with_reducible apply Moves.after resyncDone_moves ?e ?_); case e => rfl)
    | fail_if_no_progress ((with_reducible apply Moves.set_ldg ?e ?_); case e => rfl)

/-! Sys2Proof/Machine/Commit.lean. -/

theorem completeEpoch_moves {x0 x1} : Moves 2199107142724 x1 (completeEpoch x0 x1) := by
  unfold completeEpoch
  repeat' first
    | (extract_lets +onlyGivenNames y; first | (refine Moves.bind (x := y) ?_ fun _ => ?_; (on_goal 2 => clear_value y); subst y) | clear_value y | subst y)
    | with_reducible assumption
    | with_reducible apply Moves.refl
    | ((with_reducible apply Moves.after bump_moves ?e ?_); case e => rfl)
    | ((with_reducible apply Moves.after epPut_moves ?e ?_); case e => rfl)
    | ((with_reducible apply Moves.after flushItems_moves ?e ?_); case e => rfl)
    | ((with_reducible apply Moves.after placeItem_moves ?e ?_); case e => rfl)
    | with_reducible apply Moves.ite ?_ ?_
    | with_reducible apply Moves.foldl (fun _ _ => ?_) ?_

theorem freeEpoch_moves {x0 x1 x2} : Moves 2200164107812 x2 (freeEpoch x0 x1 x2) := by
  unfold freeEpoch
  repeat' first
    | (extract_lets +onlyGivenNames y; first | (refine Moves.bind (x := y) ?_ fun _ => ?_; (on_goal 2 => clear_value y); subst y) | clear_value y | subst y)
    | with_reducible assumption
    | with_reducible apply Moves.refl
    | ((with_reducible apply Moves.after slotPut_moves ?e ?_); case e => rfl)
    | ((with_reducible apply Moves.after sendW_moves ?e ?_); case e => rfl)
    | ((with_reducible apply Moves.after overBudget_moves ?e ?_); case e => rfl)
    | ((with_reducible apply Moves.after freeSlot_moves ?e ?_); case e => rfl)
    | with_reducible apply Moves.ite ?_ ?_
    | with_reducible apply Moves.foldl (fun _ _ => ?_) ?_

theorem wakeCommands_moves {x0 x1} : Moves 2199912448004 x1 (wakeCommands x0 x1) := by
  unfold wakeCommands
  repeat' first
    | with_reducible assumption
    | with_reducible apply Moves.refl
    | ((with_reducible apply Moves.after hqFinish_moves ?e ?_); case e => rfl)
    | ((with_reducible apply Moves.after writeProgress_moves ?e ?_); case e => rfl)
    | with_reducible apply Moves.ite ?_ ?_
    | with_reducible apply Moves.foldl (fun _ _ => ?_) ?_

theorem wakeSnaps_moves {x0 x1} : Moves 16778756 x1 (wakeSnaps x0 x1) := by
  unfold wakeSnaps
  repeat' first
    | (extract_lets +onlyGivenNames y; first | (refine Moves.bind (x := y) ?_ fun _ => ?_; (on_goal 2 => clear_value y); subst y) | clear_value y | subst y)
    | with_reducible assumption
    | with_reducible apply Moves.refl
    | ((with_reducible apply Moves.after wrF_moves ?e ?_); case e => rfl)
    | ((with_reducible apply Moves.after wr64_moves ?e ?_); case e => rfl)
    | ((with_reducible apply Moves.after event_moves ?e ?_); case e => rfl)
    | fail_if_no_progress ((with_reducible apply Moves.set_ldg ?e ?_); case e => rfl)
    | with_reducible apply Moves.ite ?_ ?_
    | with_reducible apply Moves.foldl (fun _ _ => ?_) ?_
    | with_reducible apply Moves.foldl2 (fun _ _ => ?_) ?_
    | split

theorem anlStat_moves {x0} : Moves 4 x0 (anlStat x0) := by
  unfold anlStat
  repeat' first
    | with_reducible assumption
    | with_reducible apply Moves.refl
    | ((with_reducible apply Moves.after wrF_moves ?e ?_); case e => rfl)

theorem moveIndex_moves {x0 x1 x2} : Moves 17179869188 x2 (moveIndex x0 x1 x2) := by
  unfold moveIndex
  repeat' first
    | (extract_lets +onlyGivenNames y; first | clear_value y | subst y)
    | with_reducible assumption
    | with_reducible apply Moves.refl
    | ((with_reducible apply Moves.after idxDrop_moves ?e ?_); case e => rfl)
    | ((with_reducible apply Moves.after idxSet_moves ?e ?_); case e => rfl)
    | with_reducible apply Moves.ite ?_ ?_
    | with_reducible apply Moves.foldl (fun _ _ => ?_) ?_

theorem unmark_moves {x0 x1} : Moves 17179869188 x1 (unmark x0 x1) := by
  unfold unmark
  repeat' first
    | (extract_lets +onlyGivenNames y; first | clear_value y | subst y)
    | with_reducible assumption
    | with_reducible apply Moves.refl
    | ((with_reducible apply Moves.after idxSet_moves ?e ?_); case e => rfl)
    | with_reducible apply Moves.foldl (fun _ _ => ?_) ?_

theorem endJob_moves {x0 x1} : Moves 154669155332 x1 (endJob x0 x1) := by
  unfold endJob
  repeat' first
    | (extract_lets +onlyGivenNames y; first | (refine Moves.bind (x := y) ?_ fun _ => ?_; (on_goal 2 => clear_value y); subst y) | clear_value y | subst y)
    | with_reducible assumption
    | with_reducible apply Moves.refl
    | ((with_reducible apply Moves.after bump_moves ?e ?_); case e => rfl)
    | ((with_reducible apply Moves.after hallmark_moves ?e ?_); case e => rfl)
    | ((with_reducible apply Moves.after toLedger_moves ?e ?_); case e => rfl)
    | ((with_reducible apply Moves.after anlStat_moves ?e ?_); case e => rfl)
    | ((with_reducible apply Moves.after unmark_moves ?e ?_); case e => rfl)
    | fail_if_no_progress ((with_reducible apply Moves.set_anl ?e ?_); case e => rfl)
    | fail_if_no_progress ((with_reducible apply Moves.set_ing ?e ?_); case e => rfl)
    | fail_if_no_progress ((with_reducible apply Moves.set_ldg ?e ?_); case e => rfl)
    | with_reducible apply Moves.ite ?_ ?_

theorem evacuate_moves {x0} : Moves 68719477764 x0 (evacuate x0) := by
  unfold evacuate
  repeat' first
    | (extract_lets +onlyGivenNames y; first | clear_value y | subst y)
    | with_reducible assumption
    | with_reducible apply Moves.refl
    | ((with_reducible apply Moves.after hallmark_moves ?e ?_); case e => rfl)
    | ((with_reducible apply Moves.after pmodPut_moves ?e ?_); case e => rfl)
    | with_reducible apply Moves.foldl (fun _ _ => ?_) ?_

theorem beginCkpt_moves {x0 x1} : Moves 68736253956 x1 (beginCkpt x0 x1) := by
  unfold beginCkpt
  repeat' first
    | (extract_lets +onlyGivenNames y; first | (refine Moves.bind (x := y) ?_ fun _ => ?_; (on_goal 2 => clear_value y); subst y) | clear_value y | subst y)
    | with_reducible assumption
    | with_reducible apply Moves.refl
    | ((with_reducible apply Moves.after wr_moves ?e ?_); case e => rfl)
    | ((with_reducible apply Moves.after wake_moves ?e ?_); case e => rfl)
    | fail_if_no_progress ((with_reducible apply Moves.set_pln ?e ?_); case e => rfl)
    | fail_if_no_progress ((with_reducible apply Moves.set_ldg ?e ?_); case e => rfl)

theorem commitEpoch_moves {x0 x1} : Moves 2424358045284 x1 (commitEpoch x0 x1) := by
  unfold commitEpoch
  repeat' first
    | (extract_lets +onlyGivenNames y; first | (refine Moves.bind (x := y) ?_ fun _ => ?_; (on_goal 2 => clear_value y); subst y) | clear_value y | subst y)
    | with_reducible assumption
    | with_reducible apply Moves.refl
    | ((with_reducible apply Moves.after wr64_moves ?e ?_); case e => rfl)
    | ((with_reducible apply Moves.after bump64_moves ?e ?_); case e => rfl)
    | ((with_reducible apply Moves.after slagCount_moves ?e ?_); case e => rfl)
    | ((with_reducible apply Moves.after floorUpdate_moves ?e ?_); case e => rfl)
    | ((with_reducible apply Moves.after settleFences_moves ?e ?_); case e => rfl)
    | ((with_reducible apply Moves.after freeSpine_moves ?e ?_); case e => rfl)
    | ((with_reducible apply Moves.after deadAttempts_moves ?e ?_); case e => rfl)
    | ((with_reducible apply Moves.after attemptsCommitted_moves ?e ?_); case e => rfl)
    | ((with_reducible apply Moves.after ldgStat_moves ?e ?_); case e => rfl)
    | ((with_reducible apply Moves.after tryClose_moves ?e ?_); case e => rfl)
    | ((with_reducible apply Moves.after freeEpoch_moves ?e ?_); case e => rfl)
    | ((with_reducible apply Moves.after wakeCommands_moves ?e ?_); case e => rfl)
    | ((with_reducible apply Moves.after wakeSnaps_moves ?e ?_); case e => rfl)
    | ((with_reducible apply Moves.after moveIndex_moves ?e ?_); case e => rfl)
    | ((with_reducible apply Moves.after endJob_moves ?e ?_); case e => rfl)
    | ((with_reducible apply Moves.after evacuate_moves ?e ?_); case e => rfl)
    | ((with_reducible apply Moves.after beginCkpt_moves ?e ?_); case e => rfl)
    | fail_if_no_progress ((with_reducible apply Moves.set_ldg ?e ?_); case e => rfl)
    | fail_if_no_progress ((with_reducible apply Moves.set_ing ?e ?_); case e => rfl)
    | with_reducible apply Moves.ite ?_ ?_
    | with_reducible apply Moves.foldl (fun _ _ => ?_) ?_

theorem writeCommit_moves {x0 x1} : Moves 6871796680292 x1 (writeCommit x0 x1) := by
  unfold writeCommit
  repeat' first
    | (extract_lets +onlyGivenNames y; first | (refine Moves.bind (x := y) ?_ fun _ => ?_; (on_goal 2 => clear_value y); subst y) | clear_value y | subst y)
    | with_reducible assumption
    | with_reducible apply Moves.refl
    | ((with_reducible apply Moves.after hallmark_moves ?e ?_); case e => rfl)
    | ((with_reducible apply Moves.after recordFault_moves ?e ?_); case e => rfl)
    | ((with_reducible apply Moves.after sendW_moves ?e ?_); case e => rfl)
    | ((with_reducible apply Moves.after epPut_moves ?e ?_); case e => rfl)
    | ((with_reducible apply Moves.after tailPut_moves ?e ?_); case e => rfl)
    | ((with_reducible apply Moves.after commitEpoch_moves ?e ?_); case e => rfl)
    | fail_if_no_progress ((with_reducible apply Moves.set_ldg ?e ?_); case e => rfl)
    | with_reducible apply Moves.ite ?_ ?_

/-! Sys2Proof/Machine/Copies.lean. -/

theorem mirrorFill_moves {x0} : Moves 4 x0 (mirrorFill x0) := by
  unfold mirrorFill
  repeat' first
    | with_reducible assumption
    | with_reducible apply Moves.refl
    | ((with_reducible apply Moves.after wrF_moves ?e ?_); case e => rfl)

theorem mirrorPut_moves {x0 x1 x2} : Moves 16777284 x2 (mirrorPut x0 x1 x2) := by
  unfold mirrorPut
  repeat' first
    | (extract_lets +onlyGivenNames y; first | (refine Moves.bind (x := y) ?_ fun _ => ?_; (on_goal 2 => clear_value y); subst y) | clear_value y | subst y)
    | with_reducible assumption
    | with_reducible apply Moves.refl
    | ((with_reducible apply Moves.after qstWrite_moves ?e ?_); case e => rfl)
    | ((with_reducible apply Moves.after mirrorFill_moves ?e ?_); case e => rfl)
    | fail_if_no_progress ((with_reducible apply Moves.set_ldg ?e ?_); case e => rfl)

theorem mirrorRelease_moves {x0 x1} : Moves 16777216 x1 (mirrorRelease x0 x1) := by
  unfold mirrorRelease
  repeat' first
    | (extract_lets +onlyGivenNames y; first | clear_value y | subst y)
    | with_reducible assumption
    | with_reducible apply Moves.refl
    | fail_if_no_progress ((with_reducible apply Moves.set_ldg ?e ?_); case e => rfl)

theorem execEpCommit_moves {x0 x1 x2} : Ends 6665638250084 x2 (execEpCommit x0 x1 x2) := by
  unfold execEpCommit
  repeat' first
    | (extract_lets +onlyGivenNames y; first | (refine Ends.bind (x := y) ?_ fun _ => ?_; (on_goal 2 => clear_value y); subst y) | (refine Moves.bind (x := y) ?_ fun _ => ?_; (on_goal 2 => clear_value y); subst y) | clear_value y | subst y)
    | with_reducible assumption
    | with_reducible apply Moves.refl
    | ((with_reducible apply Moves.after sendW_moves ?e ?_); case e => rfl)
    | ((with_reducible apply Moves.after takeRx_moves ?e ?_); case e => rfl)
    | ((with_reducible apply Moves.after tryClose_moves ?e ?_); case e => rfl)
    | ((with_reducible apply Moves.after epochSkew_moves ?e ?_); case e => rfl)
    | ((with_reducible apply Moves.after mirrorPut_moves ?e ?_); case e => rfl)
    | fail_if_no_progress ((with_reducible apply Moves.set_ldg ?e ?_); case e => rfl)
    | with_reducible apply Ends.next ?_
    | with_reducible apply Ends.ite ?_ ?_
    | with_reducible apply Moves.ite ?_ ?_

theorem execEpCommitAck_moves {x0 x1} : Ends 6871796680292 x1 (execEpCommitAck x0 x1) := by
  unfold execEpCommitAck
  repeat' first
    | (extract_lets +onlyGivenNames y; first | (refine Ends.bind (x := y) ?_ fun _ => ?_; (on_goal 2 => clear_value y); subst y) | clear_value y | subst y)
    | with_reducible assumption
    | with_reducible apply Moves.refl
    | ((with_reducible apply Moves.after takeRx_moves ?e ?_); case e => rfl)
    | ((with_reducible apply Moves.after epPut_moves ?e ?_); case e => rfl)
    | ((with_reducible apply Moves.after epochSkew_moves ?e ?_); case e => rfl)
    | ((with_reducible apply Moves.after commitEpoch_moves ?e ?_); case e => rfl)
    | with_reducible apply Ends.next ?_
    | with_reducible apply Ends.ite ?_ ?_
    | with_reducible apply Moves.ite ?_ ?_

theorem execLjRecord_moves {x0 x1 x2} : Ends 2199107141700 x2 (execLjRecord x0 x1 x2) := by
  unfold execLjRecord
  repeat' first
    | (extract_lets +onlyGivenNames y; first | (refine Ends.bind (x := y) ?_ fun _ => ?_; (on_goal 2 => clear_value y); subst y) | (refine Moves.bind (x := y) ?_ fun _ => ?_; (on_goal 2 => clear_value y); subst y) | clear_value y | subst y)
    | with_reducible assumption
    | with_reducible apply Moves.refl
    | ((with_reducible apply Moves.after sendW_moves ?e ?_); case e => rfl)
    | ((with_reducible apply Moves.after takeRx_moves ?e ?_); case e => rfl)
    | ((with_reducible apply Moves.after mirrorFill_moves ?e ?_); case e => rfl)
    | ((with_reducible apply Moves.after mirrorPut_moves ?e ?_); case e => rfl)
    | ((with_reducible apply Moves.after mirrorRelease_moves ?e ?_); case e => rfl)
    | fail_if_no_progress ((with_reducible apply Moves.set_ldg ?e ?_); case e => rfl)
    | with_reducible apply Ends.next ?_
    | with_reducible apply Ends.ite ?_ ?_
    | with_reducible apply Moves.ite ?_ ?_

theorem execSjEntry_moves {x0 x1 x2} : Ends 2199090364484 x2 (execSjEntry x0 x1 x2) := by
  unfold execSjEntry
  repeat' first
    | (extract_lets +onlyGivenNames y; first | (refine Ends.bind (x := y) ?_ fun _ => ?_; (on_goal 2 => clear_value y); subst y) | (refine Moves.bind (x := y) ?_ fun _ => ?_; (on_goal 2 => clear_value y); subst y) | clear_value y | subst y)
    | with_reducible assumption
    | with_reducible apply Moves.refl
    | ((with_reducible apply Moves.after qstWrite_moves ?e ?_); case e => rfl)
    | ((with_reducible apply Moves.after sendW_moves ?e ?_); case e => rfl)
    | ((with_reducible apply Moves.after takeRx_moves ?e ?_); case e => rfl)
    | with_reducible apply Ends.next ?_
    | with_reducible apply Ends.ite ?_ ?_
    | with_reducible apply Moves.ite ?_ ?_

theorem execSjMark_moves {x0 x1 x2} : Ends 2199090364484 x2 (execSjMark x0 x1 x2) := by
  unfold execSjMark
  repeat' first
    | (extract_lets +onlyGivenNames y; first | (refine Ends.bind (x := y) ?_ fun _ => ?_; (on_goal 2 => clear_value y); subst y) | (refine Moves.bind (x := y) ?_ fun _ => ?_; (on_goal 2 => clear_value y); subst y) | clear_value y | subst y)
    | with_reducible assumption
    | with_reducible apply Moves.refl
    | ((with_reducible apply Moves.after qstWrite_moves ?e ?_); case e => rfl)
    | ((with_reducible apply Moves.after sendW_moves ?e ?_); case e => rfl)
    | ((with_reducible apply Moves.after takeRx_moves ?e ?_); case e => rfl)
    | with_reducible apply Ends.next ?_
    | with_reducible apply Ends.ite ?_ ?_
    | with_reducible apply Moves.ite ?_ ?_

theorem execJAck_moves {x0 x1 x2} : Ends 2207730630724 x2 (execJAck x0 x1 x2) := by
  unfold execJAck
  repeat' first
    | (extract_lets +onlyGivenNames y; first | (refine Ends.bind (x := y) ?_ fun _ => ?_; (on_goal 2 => clear_value y); subst y) | clear_value y | subst y)
    | with_reducible assumption
    | with_reducible apply Moves.refl
    | ((with_reducible apply Moves.after takeRx_moves ?e ?_); case e => rfl)
    | ((with_reducible apply Moves.after sjAcked_moves ?e ?_); case e => rfl)
    | fail_if_no_progress ((with_reducible apply Moves.set_ldg ?e ?_); case e => rfl)
    | fail_if_no_progress ((with_reducible apply Moves.set_tin ?e ?_); case e => rfl)
    | with_reducible apply Ends.next ?_
    | with_reducible apply Ends.ite ?_ ?_
    | with_reducible apply Moves.ite ?_ ?_
    | split

theorem fetchNak_moves {x0 x1 x2} : Moves 2199090364420 x2 (fetchNak x0 x1 x2) := by
  unfold fetchNak
  repeat' first
    | with_reducible assumption
    | with_reducible apply Moves.refl
    | ((with_reducible apply Moves.after sendW_moves ?e ?_); case e => rfl)

theorem execFetchSlot_moves {x0 x1 x2} : Ends 2199090364420 x2 (execFetchSlot x0 x1 x2) := by
  unfold execFetchSlot
  repeat' first
    | (extract_lets +onlyGivenNames y; first | (refine Ends.bind (x := y) ?_ fun _ => ?_; (on_goal 2 => clear_value y); subst y) | clear_value y | subst y)
    | with_reducible assumption
    | with_reducible apply Moves.refl
    | ((with_reducible apply Moves.after sendW_moves ?e ?_); case e => rfl)
    | ((with_reducible apply Moves.after takeRx_moves ?e ?_); case e => rfl)
    | ((with_reducible apply Moves.after fetchNak_moves ?e ?_); case e => rfl)
    | with_reducible apply Ends.next ?_
    | with_reducible apply Ends.ite ?_ ?_
    | with_reducible apply Moves.ite ?_ ?_

theorem execSlotData_moves {x0 x1 x2 x3} : Ends 2216270233600 x3 (execSlotData x0 x1 x2 x3) := by
  unfold execSlotData
  repeat' first
    | (extract_lets +onlyGivenNames y; first | (refine Ends.bind (x := y) ?_ fun _ => ?_; (on_goal 2 => clear_value y); subst y) | clear_value y | subst y)
    | with_reducible assumption
    | with_reducible apply Moves.refl
    | ((with_reducible apply Moves.after takeRx_moves ?e ?_); case e => rfl)
    | fail_if_no_progress ((with_reducible apply Moves.set_frg ?e ?_); case e => rfl)
    | with_reducible apply Ends.next ?_

theorem execFetchLj_moves {x0 x1 x2} : Ends 2199090364420 x2 (execFetchLj x0 x1 x2) := by
  unfold execFetchLj
  repeat' first
    | (extract_lets +onlyGivenNames y; first | (refine Ends.bind (x := y) ?_ fun _ => ?_; (on_goal 2 => clear_value y); subst y) | clear_value y | subst y)
    | with_reducible assumption
    | with_reducible apply Moves.refl
    | ((with_reducible apply Moves.after sendW_moves ?e ?_); case e => rfl)
    | ((with_reducible apply Moves.after takeRx_moves ?e ?_); case e => rfl)
    | ((with_reducible apply Moves.after fetchNak_moves ?e ?_); case e => rfl)
    | with_reducible apply Ends.next ?_
    | with_reducible apply Ends.ite ?_ ?_
    | with_reducible apply Moves.ite ?_ ?_

theorem execFetchSj_moves {x0 x1} : Ends 2199090364420 x1 (execFetchSj x0 x1) := by
  unfold execFetchSj
  repeat' first
    | (extract_lets +onlyGivenNames y; first | (refine Ends.bind (x := y) ?_ fun _ => ?_; (on_goal 2 => clear_value y); subst y) | clear_value y | subst y)
    | with_reducible assumption
    | with_reducible apply Moves.refl
    | ((with_reducible apply Moves.after sendW_moves ?e ?_); case e => rfl)
    | ((with_reducible apply Moves.after takeRx_moves ?e ?_); case e => rfl)
    | ((with_reducible apply Moves.after fetchNak_moves ?e ?_); case e => rfl)
    | with_reducible apply Ends.next ?_
    | with_reducible apply Ends.ite ?_ ?_
    | with_reducible apply Moves.ite ?_ ?_

theorem execFetchNak_moves {x0 x1 x2} : Ends 2216320565248 x2 (execFetchNak x0 x1 x2) := by
  unfold execFetchNak
  repeat' first
    | (extract_lets +onlyGivenNames y; first | (refine Ends.bind (x := y) ?_ fun _ => ?_; (on_goal 2 => clear_value y); subst y) | clear_value y | subst y)
    | with_reducible assumption
    | with_reducible apply Moves.refl
    | ((with_reducible apply Moves.after takeRx_moves ?e ?_); case e => rfl)
    | fail_if_no_progress ((with_reducible apply Moves.set_frg ?e ?_); case e => rfl)
    | fail_if_no_progress ((with_reducible apply Moves.set_ldg ?e ?_); case e => rfl)
    | fail_if_no_progress ((with_reducible apply Moves.set_ing ?e ?_); case e => rfl)
    | with_reducible apply Ends.next ?_
    | with_reducible apply Ends.ite ?_ ?_
    | with_reducible apply Moves.ite ?_ ?_

/-! Sys2Proof/Machine/Ledger.lean. -/

theorem execEpochTimerExpiry_moves {x0} : Ends 2199946003972 x0 (execEpochTimerExpiry x0) := by
  unfold execEpochTimerExpiry
  repeat' first
    | (extract_lets +onlyGivenNames y; first | clear_value y | subst y)
    | with_reducible assumption
    | with_reducible apply Moves.refl
    | ((with_reducible apply Moves.after tryClose_moves ?e ?_); case e => rfl)
    | fail_if_no_progress ((with_reducible apply Moves.set_ldg ?e ?_); case e => rfl)
    | with_reducible apply Ends.next ?_
    | with_reducible apply Ends.ite ?_ ?_
    | with_reducible apply Moves.ite ?_ ?_

theorem execCloseNow_moves {x0 x1} : Ends 6664832943652 x1 (execCloseNow x0 x1) := by
  unfold execCloseNow
  repeat' first
    | (extract_lets +onlyGivenNames y; first | (refine Ends.bind (x := y) ?_ fun _ => ?_; (on_goal 2 => clear_value y); subst y) | (refine Moves.bind (x := y) ?_ fun _ => ?_; (on_goal 2 => clear_value y); subst y) | clear_value y | subst y)
    | with_reducible assumption
    | with_reducible apply Moves.refl
    | ((with_reducible apply Moves.after commandWrite_moves ?e ?_); case e => rfl)
    | ((with_reducible apply Moves.after askClose_moves ?e ?_); case e => rfl)
    | with_reducible apply Ends.next ?_
    | with_reducible apply Ends.ite ?_ ?_
    | with_reducible apply Moves.ite ?_ ?_

theorem execEarlyCloseDue_moves {x0} : Ends 2199946003972 x0 (execEarlyCloseDue x0) := by
  unfold execEarlyCloseDue
  repeat' first
    | (extract_lets +onlyGivenNames y; first | clear_value y | subst y)
    | with_reducible assumption
    | with_reducible apply Moves.refl
    | ((with_reducible apply Moves.after tryClose_moves ?e ?_); case e => rfl)
    | fail_if_no_progress ((with_reducible apply Moves.set_ldg ?e ?_); case e => rfl)
    | with_reducible apply Ends.next ?_
    | with_reducible apply Ends.ite ?_ ?_
    | with_reducible apply Moves.ite ?_ ?_

theorem execEpClose_moves {x0 x1} : Ends 6665638250020 x1 (execEpClose x0 x1) := by
  unfold execEpClose
  repeat' first
    | (extract_lets +onlyGivenNames y; first | (refine Ends.bind (x := y) ?_ fun _ => ?_; (on_goal 2 => clear_value y); subst y) | (refine Moves.bind (x := y) ?_ fun _ => ?_; (on_goal 2 => clear_value y); subst y) | clear_value y | subst y)
    | with_reducible assumption
    | with_reducible apply Moves.refl
    | ((with_reducible apply Moves.after takeRx_moves ?e ?_); case e => rfl)
    | ((with_reducible apply Moves.after doClose_moves ?e ?_); case e => rfl)
    | ((with_reducible apply Moves.after epochSkew_moves ?e ?_); case e => rfl)
    | with_reducible apply Ends.next ?_
    | with_reducible apply Ends.ite ?_ ?_
    | with_reducible apply Moves.ite ?_ ?_

theorem execEpAsk_moves {x0 x1} : Ends 2199107141632 x1 (execEpAsk x0 x1) := by
  unfold execEpAsk
  repeat' first
    | (extract_lets +onlyGivenNames y; first | (refine Ends.bind (x := y) ?_ fun _ => ?_; (on_goal 2 => clear_value y); subst y) | clear_value y | subst y)
    | with_reducible assumption
    | with_reducible apply Moves.refl
    | ((with_reducible apply Moves.after takeRx_moves ?e ?_); case e => rfl)
    | fail_if_no_progress ((with_reducible apply Moves.set_ldg ?e ?_); case e => rfl)
    | with_reducible apply Ends.next ?_
    | with_reducible apply Ends.ite ?_ ?_
    | with_reducible apply Moves.ite ?_ ?_

theorem execEpDrained_moves {x0 x1} : Ends 6665638250020 x1 (execEpDrained x0 x1) := by
  unfold execEpDrained
  repeat' first
    | (extract_lets +onlyGivenNames y; first | (refine Ends.bind (x := y) ?_ fun _ => ?_; (on_goal 2 => clear_value y); subst y) | clear_value y | subst y)
    | with_reducible assumption
    | with_reducible apply Moves.refl
    | ((with_reducible apply Moves.after takeRx_moves ?e ?_); case e => rfl)
    | ((with_reducible apply Moves.after ldgStat_moves ?e ?_); case e => rfl)
    | ((with_reducible apply Moves.after tryClose_moves ?e ?_); case e => rfl)
    | ((with_reducible apply Moves.after epochSkew_moves ?e ?_); case e => rfl)
    | fail_if_no_progress ((with_reducible apply Moves.set_ldg ?e ?_); case e => rfl)
    | with_reducible apply Ends.next ?_
    | with_reducible apply Ends.ite ?_ ?_
    | with_reducible apply Moves.ite ?_ ?_

theorem execEpochDrainStart_moves {x0} : Ends 4465742579236 x0 (execEpochDrainStart x0) := by
  unfold execEpochDrainStart
  repeat' first
    | (extract_lets +onlyGivenNames y; first | (refine Moves.bind (x := y) ?_ fun _ => ?_; (on_goal 2 => clear_value y); subst y) | clear_value y | subst y)
    | with_reducible assumption
    | with_reducible apply Moves.refl
    | ((with_reducible apply Moves.after epPut_moves ?e ?_); case e => rfl)
    | ((with_reducible apply Moves.after ldgStat_moves ?e ?_); case e => rfl)
    | ((with_reducible apply Moves.after forgeBits_moves ?e ?_); case e => rfl)
    | ((with_reducible apply Moves.after forgeDrain_moves ?e ?_); case e => rfl)
    | with_reducible apply Ends.next ?_
    | with_reducible apply Ends.ite ?_ ?_
    | with_reducible apply Moves.ite ?_ ?_
    | with_reducible apply Moves.foldl (fun _ _ => ?_) ?_
    | with_reducible apply Moves.foldl2 (fun _ _ => ?_) ?_
    | split

theorem execEpochDrainEnd_moves {x0 x1} : Ends 2268665480772 x1 (execEpochDrainEnd x0 x1) := by
  unfold execEpochDrainEnd
  repeat' first
    | (extract_lets +onlyGivenNames y; first | (refine Moves.bind (x := y) ?_ fun _ => ?_; (on_goal 2 => clear_value y); subst y) | clear_value y | subst y)
    | with_reducible assumption
    | with_reducible apply Moves.refl
    | ((with_reducible apply Moves.after wrF_moves ?e ?_); case e => rfl)
    | ((with_reducible apply Moves.after wr64_moves ?e ?_); case e => rfl)
    | ((with_reducible apply Moves.after sendW_moves ?e ?_); case e => rfl)
    | ((with_reducible apply Moves.after epPut_moves ?e ?_); case e => rfl)
    | ((with_reducible apply Moves.after ldgStat_moves ?e ?_); case e => rfl)
    | ((with_reducible apply Moves.after forgeBits_moves ?e ?_); case e => rfl)
    | ((with_reducible apply Moves.after tryClose_moves ?e ?_); case e => rfl)
    | ((with_reducible apply Moves.after castOpen_moves ?e ?_); case e => rfl)
    | ((with_reducible apply Moves.after resyncEnd_moves ?e ?_); case e => rfl)
    | with_reducible apply Ends.next ?_
    | with_reducible apply Ends.ite ?_ ?_
    | with_reducible apply Moves.ite ?_ ?_
    | with_reducible apply Moves.foldl (fun _ _ => ?_) ?_
    | with_reducible apply Moves.foldl2 (fun _ _ => ?_) ?_
    | split

theorem execLdgItemAccept_moves {x0} : Ends 2199107142724 x0 (execLdgItemAccept x0) := by
  unfold execLdgItemAccept
  repeat' first
    | (extract_lets +onlyGivenNames y; first | clear_value y | subst y)
    | with_reducible assumption
    | with_reducible apply Moves.refl
    | ((with_reducible apply Moves.after placeItem_moves ?e ?_); case e => rfl)
    | fail_if_no_progress ((with_reducible apply Moves.set_ldg ?e ?_); case e => rfl)
    | with_reducible apply Ends.next ?_
    | with_reducible apply Ends.ite ?_ ?_
    | with_reducible apply Moves.ite ?_ ?_
    | with_reducible apply Moves.getD ?_ ?_
    | split

theorem execEpochCommitRecord_moves {x0} : Ends 6871796680292 x0 (execEpochCommitRecord x0) := by
  unfold execEpochCommitRecord
  repeat' first
    | (extract_lets +onlyGivenNames y; first | (refine Moves.bind (x := y) ?_ fun _ => ?_; (on_goal 2 => clear_value y); subst y) | clear_value y | subst y)
    | with_reducible assumption
    | with_reducible apply Moves.refl
    | ((with_reducible apply Moves.after completeEpoch_moves ?e ?_); case e => rfl)
    | ((with_reducible apply Moves.after commitEpoch_moves ?e ?_); case e => rfl)
    | ((with_reducible apply Moves.after writeCommit_moves ?e ?_); case e => rfl)
    | with_reducible apply Ends.next ?_
    | with_reducible apply Ends.ite ?_ ?_
    | with_reducible apply Moves.ite ?_ ?_
    | split

theorem unmapGrain_moves {x0 x1 x2 x3 x4} : Moves 2199107142724 x4 (unmapGrain x0 x1 x2 x3 x4) := by
  unfold unmapGrain
  repeat' first
    | (extract_lets +onlyGivenNames y; first | clear_value y | subst y)
    | with_reducible assumption
    | with_reducible apply Moves.refl
    | ((with_reducible apply Moves.after placeItem_moves ?e ?_); case e => rfl)
    | with_reducible apply Moves.ite ?_ ?_

theorem execDeallocateApply_moves {x0} : Ends 2199107142724 x0 (execDeallocateApply x0) := by
  unfold execDeallocateApply
  repeat' first
    | (extract_lets +onlyGivenNames y; first | (refine Moves.bind (x := y) ?_ fun _ => ?_; (on_goal 2 => clear_value y); subst y) | clear_value y | subst y)
    | with_reducible assumption
    | with_reducible apply Moves.refl
    | ((with_reducible apply Moves.after unmapGrain_moves ?e ?_); case e => rfl)
    | fail_if_no_progress ((with_reducible apply Moves.set_ldg ?e ?_); case e => rfl)
    | with_reducible apply Ends.next ?_
    | with_reducible apply Ends.ite ?_ ?_
    | with_reducible apply Moves.ite ?_ ?_
    | with_reducible apply Moves.foldl (fun _ _ => ?_) ?_
    | with_reducible apply Moves.foldl2 (fun _ _ => ?_) ?_
    | split

theorem execTwinMismatch_moves {x0 x1} : Ends 1540 x1 (execTwinMismatch x0 x1) := by
  unfold execTwinMismatch
  repeat' first
    | (extract_lets +onlyGivenNames y; first | (refine Ends.bind (x := y) ?_ fun _ => ?_; (on_goal 2 => clear_value y); subst y) | (refine Moves.bind (x := y) ?_ fun _ => ?_; (on_goal 2 => clear_value y); subst y) | clear_value y | subst y)
    | with_reducible assumption
    | with_reducible apply Moves.refl
    | ((with_reducible apply Moves.after wrF_moves ?e ?_); case e => rfl)
    | ((with_reducible apply Moves.after bump_moves ?e ?_); case e => rfl)
    | ((with_reducible apply Moves.after hallmark_moves ?e ?_); case e => rfl)
    | ((with_reducible apply Moves.after event_moves ?e ?_); case e => rfl)
    | ((with_reducible apply Moves.after ldgStat_moves ?e ?_); case e => rfl)
    | with_reducible apply Ends.next ?_
    | with_reducible apply Ends.ite ?_ ?_
    | with_reducible apply Moves.ite ?_ ?_

theorem coreOut_moves {x0 x1} : Moves 1028 x1 (coreOut x0 x1) := by
  unfold coreOut
  repeat' first
    | with_reducible assumption
    | with_reducible apply Moves.refl
    | ((with_reducible apply Moves.after wrF_moves ?e ?_); case e => rfl)
    | ((with_reducible apply Moves.after hallmark_moves ?e ?_); case e => rfl)
    | ((with_reducible apply Moves.after coreSet_moves ?e ?_); case e => rfl)

theorem execJudgeSelfCheckDone_moves {x0 x1 x2 x3} : Ends 6665638250084 x3 (execJudgeSelfCheckDone x0 x1 x2 x3) := by
  unfold execJudgeSelfCheckDone
  repeat' first
    | (extract_lets +onlyGivenNames y; first | (refine Ends.bind (x := y) ?_ fun _ => ?_; (on_goal 2 => clear_value y); subst y) | (refine Moves.bind (x := y) ?_ fun _ => ?_; (on_goal 2 => clear_value y); subst y) | clear_value y | subst y)
    | with_reducible assumption
    | with_reducible apply Moves.refl
    | ((with_reducible apply Moves.after wr_moves ?e ?_); case e => rfl)
    | ((with_reducible apply Moves.after wrF_moves ?e ?_); case e => rfl)
    | ((with_reducible apply Moves.after recordFault_moves ?e ?_); case e => rfl)
    | ((with_reducible apply Moves.after ldgStat_moves ?e ?_); case e => rfl)
    | ((with_reducible apply Moves.after flushFull_moves ?e ?_); case e => rfl)
    | ((with_reducible apply Moves.after tryClose_moves ?e ?_); case e => rfl)
    | ((with_reducible apply Moves.after coreOut_moves ?e ?_); case e => rfl)
    | fail_if_no_progress ((with_reducible apply Moves.set_ldg ?e ?_); case e => rfl)
    | with_reducible apply Ends.next ?_
    | with_reducible apply Ends.ite ?_ ?_
    | with_reducible apply Moves.ite ?_ ?_
    | with_reducible apply Moves.foldl (fun _ _ => ?_) ?_
    | with_reducible apply Moves.foldl2 (fun _ _ => ?_) ?_
    | split

theorem repair_moves {x0 x1 x2} : Moves 4465742579236 x2 (repair x0 x1 x2) := by
  unfold repair
  repeat' first
    | (extract_lets +onlyGivenNames y; first | (refine Moves.bind (x := y) ?_ fun _ => ?_; (on_goal 2 => clear_value y); subst y) | clear_value y | subst y)
    | with_reducible assumption
    | with_reducible apply Moves.refl
    | ((with_reducible apply Moves.after wrF_moves ?e ?_); case e => rfl)
    | ((with_reducible apply Moves.after commandWrite_moves ?e ?_); case e => rfl)
    | fail_if_no_progress ((with_reducible apply Moves.set_ldg ?e ?_); case e => rfl)
    | with_reducible apply Moves.ite ?_ ?_

theorem execRepairA_moves {x0 x1} : Ends 4465742579236 x1 (execRepairA x0 x1) := by
  unfold execRepairA
  repeat' first
    | with_reducible assumption
    | with_reducible apply Moves.refl
    | ((with_reducible apply Moves.after repair_moves ?e ?_); case e => rfl)
    | with_reducible apply Ends.next ?_

theorem execRepairB_moves {x0 x1} : Ends 4465742579236 x1 (execRepairB x0 x1) := by
  unfold execRepairB
  repeat' first
    | with_reducible assumption
    | with_reducible apply Moves.refl
    | ((with_reducible apply Moves.after repair_moves ?e ?_); case e => rfl)
    | with_reducible apply Ends.next ?_

theorem execRepairSelfCheckDone_moves {x0 x1} : Ends 16777220 x1 (execRepairSelfCheckDone x0 x1) := by
  unfold execRepairSelfCheckDone
  repeat' first
    | (extract_lets +onlyGivenNames y; first | (refine Ends.bind (x := y) ?_ fun _ => ?_; (on_goal 2 => clear_value y); subst y) | clear_value y | subst y)
    | with_reducible assumption
    | with_reducible apply Moves.refl
    | ((with_reducible apply Moves.after wrF_moves ?e ?_); case e => rfl)
    | ((with_reducible apply Moves.after coreSet_moves ?e ?_); case e => rfl)
    | fail_if_no_progress ((with_reducible apply Moves.set_ldg ?e ?_); case e => rfl)
    | with_reducible apply Ends.next ?_
    | with_reducible apply Ends.ite ?_ ?_
    | with_reducible apply Moves.ite ?_ ?_
    | split

theorem snapResult_moves {x0 x1 x2 x3} : Moves 4 x3 (snapResult x0 x1 x2 x3) := by
  unfold snapResult
  repeat' first
    | with_reducible assumption
    | with_reducible apply Moves.refl
    | ((with_reducible apply Moves.after wr_moves ?e ?_); case e => rfl)

theorem snapWaits_moves {x0 x1 x2 x3} : Moves 16777220 x3 (snapWaits x0 x1 x2 x3) := by
  unfold snapWaits
  repeat' first
    | (extract_lets +onlyGivenNames y; first | clear_value y | subst y)
    | with_reducible assumption
    | with_reducible apply Moves.refl
    | ((with_reducible apply Moves.after snapResult_moves ?e ?_); case e => rfl)
    | fail_if_no_progress ((with_reducible apply Moves.set_ldg ?e ?_); case e => rfl)

theorem takePairs_moves {x0 x1 x2} : Moves 16777220 x2 (takePairs x0 x1 x2) := by
  unfold takePairs
  repeat' first
    | (extract_lets +onlyGivenNames y; first | clear_value y | subst y)
    | with_reducible assumption
    | with_reducible apply Moves.refl
    | ((with_reducible apply Moves.after snapWaits_moves ?e ?_); case e => rfl)
    | fail_if_no_progress ((with_reducible apply Moves.set_ldg ?e ?_); case e => rfl)

theorem deleteSnap_moves {x0 x1 x2} : Moves 2199107142724 x2 (deleteSnap x0 x1 x2).2 := by
  unfold deleteSnap
  repeat' first
    | (extract_lets +onlyGivenNames y; first | (refine Moves.pair_bind (x := y) ?_ fun _ => ?_; (on_goal 2 => clear_value y); subst y) | clear_value y | subst y)
    | with_reducible assumption
    | with_reducible apply Moves.refl
    | ((with_reducible apply Moves.after placeItem_moves ?e ?_); case e => rfl)
    | fail_if_no_progress ((with_reducible apply Moves.set_ldg ?e ?_); case e => rfl)
    | fail_if_no_progress (with_reducible apply Moves.pair_ite ?_ ?_)

theorem snapCmd_moves {m : Nat} {x0 x1 x2 x3 x4} (e : 4465725802020 &&& m = 4465725802020) (kx3 : ∀ a0 a1 a2, Moves m a2 (x3 a0 a1 a2)) : Moves m x4 (snapCmd x0 x1 x2 x3 x4) := by
  unfold snapCmd
  repeat' first
    | (extract_lets +onlyGivenNames y; first | (refine Moves.bind (x := y) ?_ fun _ => ?_; (on_goal 2 => clear_value y); subst y) | clear_value y | subst y)
    | with_reducible assumption
    | with_reducible apply Moves.refl
    | with_reducible apply Moves.trans ?_ (kx3 _ _ _)
    | ((with_reducible apply Moves.after conflict_moves ?e ?_); case e => exact sub_trans rfl e)
    | ((with_reducible apply Moves.after commandWrite_moves ?e ?_); case e => exact sub_trans rfl e)
    | with_reducible apply Moves.ite ?_ ?_

theorem execSnapArm_moves {x0 x1} : Ends 4465742579236 x1 (execSnapArm x0 x1) := by
  unfold execSnapArm
  repeat' first
    | (extract_lets +onlyGivenNames y; first | (refine Moves.bind (x := y) ?_ fun _ => ?_; (on_goal 2 => clear_value y); subst y) | clear_value y | subst y)
    | with_reducible assumption
    | with_reducible apply Moves.refl
    | ((with_reducible apply Moves.after snapResult_moves ?e ?_); case e => rfl)
    | ((with_reducible apply Moves.trans ?_ (snapCmd_moves ?e (fun _ _ _ => ?_))); case e => rfl)
    | fail_if_no_progress ((with_reducible apply Moves.set_ldg ?e ?_); case e => rfl)
    | with_reducible apply Ends.next ?_
    | with_reducible apply Ends.ite ?_ ?_
    | with_reducible apply Moves.ite ?_ ?_

theorem execSnapTake_moves {x0 x1} : Ends 4465742579236 x1 (execSnapTake x0 x1) := by
  unfold execSnapTake
  repeat' first
    | (extract_lets +onlyGivenNames y; first | (refine Moves.bind (x := y) ?_ fun _ => ?_; (on_goal 2 => clear_value y); subst y) | clear_value y | subst y)
    | with_reducible assumption
    | with_reducible apply Moves.refl
    | ((with_reducible apply Moves.after snapResult_moves ?e ?_); case e => rfl)
    | ((with_reducible apply Moves.after takePairs_moves ?e ?_); case e => rfl)
    | ((with_reducible apply Moves.trans ?_ (snapCmd_moves ?e (fun _ _ _ => ?_))); case e => rfl)
    | fail_if_no_progress ((with_reducible apply Moves.set_ldg ?e ?_); case e => rfl)
    | with_reducible apply Ends.next ?_
    | with_reducible apply Ends.ite ?_ ?_
    | with_reducible apply Moves.ite ?_ ?_

theorem execSnapDelete_moves {x0 x1} : Ends 6939710850660 x1 (execSnapDelete x0 x1) := by
  unfold execSnapDelete
  repeat' first
    | (extract_lets +onlyGivenNames y; first | clear_value y | subst y)
    | with_reducible assumption
    | with_reducible apply Moves.refl
    | ((with_reducible apply Moves.after rplSnapGone_moves ?e ?_); case e => rfl)
    | ((with_reducible apply Moves.after snapResult_moves ?e ?_); case e => rfl)
    | ((with_reducible apply Moves.after snapWaits_moves ?e ?_); case e => rfl)
    | ((with_reducible apply Moves.after (Moves.of_pair ?p deleteSnap_moves) ?e ?_); (case p => assumption); case e => rfl)
    | ((with_reducible apply Moves.trans ?_ (snapCmd_moves ?e (fun _ _ _ => ?_))); case e => rfl)
    | with_reducible apply Ends.next ?_
    | with_reducible apply Ends.ite ?_ ?_
    | with_reducible apply Moves.ite ?_ ?_
    | split

theorem execSnapClone_moves {x0 x1} : Ends 6664832943716 x1 (execSnapClone x0 x1) := by
  unfold execSnapClone
  repeat' first
    | (extract_lets +onlyGivenNames y; first | (refine Moves.bind (x := y) ?_ fun _ => ?_; (on_goal 2 => clear_value y); subst y) | clear_value y | subst y)
    | with_reducible assumption
    | with_reducible apply Moves.refl
    | ((with_reducible apply Moves.after placeItem_moves ?e ?_); case e => rfl)
    | ((with_reducible apply Moves.after snapResult_moves ?e ?_); case e => rfl)
    | ((with_reducible apply Moves.after snapWaits_moves ?e ?_); case e => rfl)
    | ((with_reducible apply Moves.trans ?_ (snapCmd_moves ?e (fun _ _ _ => ?_))); case e => rfl)
    | fail_if_no_progress ((with_reducible apply Moves.set_ldg ?e ?_); case e => rfl)
    | with_reducible apply Ends.next ?_
    | with_reducible apply Ends.ite ?_ ?_
    | with_reducible apply Moves.ite ?_ ?_

theorem execSnapDisarmAll_moves {x0 x1} : Ends 4465742579236 x1 (execSnapDisarmAll x0 x1) := by
  unfold execSnapDisarmAll
  repeat' first
    | (extract_lets +onlyGivenNames y; first | clear_value y | subst y)
    | with_reducible assumption
    | with_reducible apply Moves.refl
    | ((with_reducible apply Moves.after snapResult_moves ?e ?_); case e => rfl)
    | ((with_reducible apply Moves.trans ?_ (snapCmd_moves ?e (fun _ _ _ => ?_))); case e => rfl)
    | fail_if_no_progress ((with_reducible apply Moves.set_ldg ?e ?_); case e => rfl)
    | with_reducible apply Ends.next ?_

theorem execSlagEntryRead_moves {x0 x1} : Ends 2199040032768 x1 (execSlagEntryRead x0 x1) := by
  unfold execSlagEntryRead
  repeat' first
    | (extract_lets +onlyGivenNames y; first | clear_value y | subst y)
    | with_reducible assumption
    | with_reducible apply Moves.refl
    | ((with_reducible apply Moves.after emit_moves ?e ?_); case e => rfl)
    | fail_if_no_progress ((with_reducible apply Moves.set_ldg ?e ?_); case e => rfl)
    | with_reducible apply Ends.next ?_

theorem replayed_moves {x0 x1} : Moves 50332676 x1 (replayed x0 x1) := by
  unfold replayed
  repeat' first
    | (extract_lets +onlyGivenNames y; first | (refine Moves.bind (x := y) ?_ fun _ => ?_; (on_goal 2 => clear_value y); subst y) | clear_value y | subst y)
    | with_reducible assumption
    | with_reducible apply Moves.refl
    | ((with_reducible apply Moves.after wr_moves ?e ?_); case e => rfl)
    | ((with_reducible apply Moves.after wr64_moves ?e ?_); case e => rfl)
    | ((with_reducible apply Moves.after hallmark_moves ?e ?_); case e => rfl)
    | ((with_reducible apply Moves.after ldgStat_moves ?e ?_); case e => rfl)
    | ((with_reducible apply Moves.after journalFill_moves ?e ?_); case e => rfl)
    | fail_if_no_progress ((with_reducible apply Moves.set_ldg ?e ?_); case e => rfl)
    | fail_if_no_progress ((with_reducible apply Moves.set_ing ?e ?_); case e => rfl)
    | with_reducible apply Moves.ite ?_ ?_
    | with_reducible apply Moves.foldl (fun _ _ => ?_) ?_

theorem execLdgReplay_moves {x0 x1} : Ends 6664832943652 x1 (execLdgReplay x0 x1) := by
  unfold execLdgReplay
  repeat' first
    | (extract_lets +onlyGivenNames y; first | (refine Ends.bind (x := y) ?_ fun _ => ?_; (on_goal 2 => clear_value y); subst y) | (refine Moves.bind (x := y) ?_ fun _ => ?_; (on_goal 2 => clear_value y); subst y) | clear_value y | subst y)
    | with_reducible assumption
    | with_reducible apply Moves.refl
    | ((with_reducible apply Moves.after hallmark_moves ?e ?_); case e => rfl)
    | ((with_reducible apply Moves.after recordFault_moves ?e ?_); case e => rfl)
    | ((with_reducible apply Moves.after sendW_moves ?e ?_); case e => rfl)
    | ((with_reducible apply Moves.after slagCount_moves ?e ?_); case e => rfl)
    | ((with_reducible apply Moves.after replayed_moves ?e ?_); case e => rfl)
    | fail_if_no_progress ((with_reducible apply Moves.set_ldg ?e ?_); case e => rfl)
    | with_reducible apply Ends.next ?_
    | with_reducible apply Ends.ite ?_ ?_
    | with_reducible apply Moves.ite ?_ ?_
    | split

theorem execLjData_moves {x0 x1 x2} : Ends 2199107141696 x2 (execLjData x0 x1 x2) := by
  unfold execLjData
  repeat' first
    | (extract_lets +onlyGivenNames y; first | (refine Ends.bind (x := y) ?_ fun _ => ?_; (on_goal 2 => clear_value y); subst y) | clear_value y | subst y)
    | with_reducible assumption
    | with_reducible apply Moves.refl
    | ((with_reducible apply Moves.after qstWrite_moves ?e ?_); case e => rfl)
    | ((with_reducible apply Moves.after takeRx_moves ?e ?_); case e => rfl)
    | fail_if_no_progress ((with_reducible apply Moves.set_ldg ?e ?_); case e => rfl)
    | with_reducible apply Ends.next ?_
    | with_reducible apply Ends.ite ?_ ?_
    | with_reducible apply Moves.ite ?_ ?_
    | with_reducible apply Moves.foldl (fun _ _ => ?_) ?_

/-! Sys2Proof/Machine/Wadun.lean. -/

theorem peerViol_moves {x0 x1 x2 x3} : Moves 2199023256580 x3 (peerViol x0 x1 x2 x3) := by
  unfold peerViol
  repeat' first
    | (extract_lets +onlyGivenNames y; first | (refine Moves.bind (x := y) ?_ fun _ => ?_; (on_goal 2 => clear_value y); subst y) | clear_value y | subst y)
    | with_reducible assumption
    | with_reducible apply Moves.refl
    | ((with_reducible apply Moves.after bump_moves ?e ?_); case e => rfl)
    | ((with_reducible apply Moves.after emit_moves ?e ?_); case e => rfl)
    | ((with_reducible apply Moves.after hallmark_moves ?e ?_); case e => rfl)

theorem msgWhole_moves {x0 x1 x2 x3} : Moves 2199090365444 x3 (msgWhole x0 x1 x2 x3) := by
  unfold msgWhole
  repeat' first
    | (extract_lets +onlyGivenNames y; first | (refine Moves.bind (x := y) ?_ fun _ => ?_; (on_goal 2 => clear_value y); subst y) | clear_value y | subst y)
    | with_reducible assumption
    | with_reducible apply Moves.refl
    | ((with_reducible apply Moves.after wake_moves ?e ?_); case e => rfl)
    | ((with_reducible apply Moves.after peerViol_moves ?e ?_); case e => rfl)
    | fail_if_no_progress ((with_reducible apply Moves.set_wdl ?e ?_); case e => rfl)
    | with_reducible apply Moves.ite ?_ ?_

theorem acceptFlit_moves {x0 x1} : Moves 6664832943652 x1 (acceptFlit x0 x1) := by
  unfold acceptFlit
  repeat' first
    | (extract_lets +onlyGivenNames y; first | (refine Moves.bind (x := y) ?_ fun _ => ?_; (on_goal 2 => clear_value y); subst y) | clear_value y | subst y)
    | with_reducible assumption
    | with_reducible apply Moves.refl
    | ((with_reducible apply Moves.after bump64_moves ?e ?_); case e => rfl)
    | ((with_reducible apply Moves.after recordFault_moves ?e ?_); case e => rfl)
    | ((with_reducible apply Moves.after linkDown_moves ?e ?_); case e => rfl)
    | ((with_reducible apply Moves.after peerViol_moves ?e ?_); case e => rfl)
    | ((with_reducible apply Moves.after msgWhole_moves ?e ?_); case e => rfl)
    | fail_if_no_progress ((with_reducible apply Moves.set_wdl ?e ?_); case e => rfl)
    | with_reducible apply Moves.ite ?_ ?_
    | split

theorem sendNak_moves {x0} : Moves 2199090364420 x0 (sendNak x0) := by
  unfold sendNak
  repeat' first
    | (extract_lets +onlyGivenNames y; first | clear_value y | subst y)
    | with_reducible assumption
    | with_reducible apply Moves.refl
    | ((with_reducible apply Moves.after bump_moves ?e ?_); case e => rfl)
    | ((with_reducible apply Moves.after emit_moves ?e ?_); case e => rfl)
    | fail_if_no_progress ((with_reducible apply Moves.set_wdl ?e ?_); case e => rfl)
    | with_reducible apply Moves.ite ?_ ?_

theorem ackSeq_moves {x0 x1} : Moves 67108868 x1 (ackSeq x0 x1) := by
  unfold ackSeq
  repeat' first
    | (extract_lets +onlyGivenNames y; first | clear_value y | subst y)
    | with_reducible assumption
    | with_reducible apply Moves.refl
    | ((with_reducible apply Moves.after bump_moves ?e ?_); case e => rfl)
    | fail_if_no_progress ((with_reducible apply Moves.set_wdl ?e ?_); case e => rfl)
    | with_reducible apply Moves.ite ?_ ?_
    | split

theorem creditBack_moves {x0 x1 x2} : Moves 6664832943652 x2 (creditBack x0 x1 x2) := by
  unfold creditBack
  repeat' first
    | (extract_lets +onlyGivenNames y; first | clear_value y | subst y)
    | with_reducible assumption
    | with_reducible apply Moves.refl
    | ((with_reducible apply Moves.after recordFault_moves ?e ?_); case e => rfl)
    | ((with_reducible apply Moves.after linkDown_moves ?e ?_); case e => rfl)
    | fail_if_no_progress ((with_reducible apply Moves.set_wdl ?e ?_); case e => rfl)
    | with_reducible apply Moves.ite ?_ ?_

theorem execFlitReceive_moves {x0 x1 x2 x3} : Ends 6664832943652 x3 (execFlitReceive x0 x1 x2 x3) := by
  unfold execFlitReceive
  repeat' first
    | (extract_lets +onlyGivenNames y; first | (refine Ends.bind (x := y) ?_ fun _ => ?_; (on_goal 2 => clear_value y); subst y) | (refine Moves.bind (x := y) ?_ fun _ => ?_; (on_goal 2 => clear_value y); subst y) | clear_value y | subst y)
    | with_reducible assumption
    | with_reducible apply Moves.refl
    | ((with_reducible apply Moves.after bump_moves ?e ?_); case e => rfl)
    | ((with_reducible apply Moves.after pump_moves ?e ?_); case e => rfl)
    | ((with_reducible apply Moves.after acceptFlit_moves ?e ?_); case e => rfl)
    | ((with_reducible apply Moves.after sendNak_moves ?e ?_); case e => rfl)
    | ((with_reducible apply Moves.after ackSeq_moves ?e ?_); case e => rfl)
    | ((with_reducible apply Moves.after creditBack_moves ?e ?_); case e => rfl)
    | with_reducible apply Ends.next ?_
    | with_reducible apply Ends.ite ?_ ?_
    | with_reducible apply Moves.ite ?_ ?_

theorem resend_moves {x0 x1} : Moves 6664832943652 x1 (resend x0 x1) := by
  unfold resend
  repeat' first
    | (extract_lets +onlyGivenNames y; first | (refine Moves.bind (x := y) ?_ fun _ => ?_; (on_goal 2 => clear_value y); subst y) | clear_value y | subst y)
    | with_reducible assumption
    | with_reducible apply Moves.refl
    | ((with_reducible apply Moves.after bump_moves ?e ?_); case e => rfl)
    | ((with_reducible apply Moves.after emit_moves ?e ?_); case e => rfl)
    | ((with_reducible apply Moves.after linkDown_moves ?e ?_); case e => rfl)
    | fail_if_no_progress ((with_reducible apply Moves.set_wdl ?e ?_); case e => rfl)
    | with_reducible apply Moves.ite ?_ ?_
    | with_reducible apply Moves.foldl (fun _ _ => ?_) ?_

theorem execNak_moves {x0 x1} : Ends 6664832943652 x1 (execNak x0 x1) := by
  unfold execNak
  repeat' first
    | (extract_lets +onlyGivenNames y; first | clear_value y | subst y)
    | with_reducible assumption
    | with_reducible apply Moves.refl
    | ((with_reducible apply Moves.after resend_moves ?e ?_); case e => rfl)
    | fail_if_no_progress ((with_reducible apply Moves.set_wdl ?e ?_); case e => rfl)
    | with_reducible apply Ends.next ?_
    | with_reducible apply Ends.ite ?_ ?_
    | with_reducible apply Moves.ite ?_ ?_
    | split

theorem execRetryTimeout_moves {x0} : Ends 6664832943652 x0 (execRetryTimeout x0) := by
  unfold execRetryTimeout
  repeat' first
    | with_reducible assumption
    | with_reducible apply Moves.refl
    | ((with_reducible apply Moves.after resend_moves ?e ?_); case e => rfl)
    | with_reducible apply Ends.next ?_
    | with_reducible apply Ends.ite ?_ ?_
    | with_reducible apply Moves.ite ?_ ?_

theorem execAckTimer_moves {x0} : Ends 2199090364416 x0 (execAckTimer x0) := by
  unfold execAckTimer
  repeat' first
    | (extract_lets +onlyGivenNames y; first | clear_value y | subst y)
    | with_reducible assumption
    | with_reducible apply Moves.refl
    | ((with_reducible apply Moves.after emit_moves ?e ?_); case e => rfl)
    | fail_if_no_progress ((with_reducible apply Moves.set_wdl ?e ?_); case e => rfl)
    | with_reducible apply Ends.next ?_
    | with_reducible apply Ends.ite ?_ ?_
    | with_reducible apply Moves.ite ?_ ?_

theorem trainLink_moves {x0} : Moves 67108868 x0 (trainLink x0) := by
  unfold trainLink
  repeat' first
    | (extract_lets +onlyGivenNames y; first | clear_value y | subst y)
    | with_reducible assumption
    | with_reducible apply Moves.refl
    | ((with_reducible apply Moves.after wr_moves ?e ?_); case e => rfl)
    | fail_if_no_progress ((with_reducible apply Moves.set_wdl ?e ?_); case e => rfl)

theorem execLaneLock_moves {x0 x1} : Ends 2199023255556 x1 (execLaneLock x0 x1) := by
  unfold execLaneLock
  repeat' first
    | (extract_lets +onlyGivenNames y; first | clear_value y | subst y)
    | with_reducible assumption
    | with_reducible apply Moves.refl
    | ((with_reducible apply Moves.after wr_moves ?e ?_); case e => rfl)
    | ((with_reducible apply Moves.after wrF_moves ?e ?_); case e => rfl)
    | ((with_reducible apply Moves.after emit_moves ?e ?_); case e => rfl)
    | with_reducible apply Ends.next ?_
    | with_reducible apply Ends.ite ?_ ?_
    | with_reducible apply Moves.ite ?_ ?_

theorem execAlignFlit_moves {x0} : Ends 67108868 x0 (execAlignFlit x0) := by
  unfold execAlignFlit
  repeat' first
    | (extract_lets +onlyGivenNames y; first | clear_value y | subst y)
    | with_reducible assumption
    | with_reducible apply Moves.refl
    | ((with_reducible apply Moves.after wrF_moves ?e ?_); case e => rfl)
    | fail_if_no_progress ((with_reducible apply Moves.set_wdl ?e ?_); case e => rfl)
    | with_reducible apply Ends.next ?_
    | with_reducible apply Ends.ite ?_ ?_
    | with_reducible apply Moves.ite ?_ ?_

theorem execRetrain_moves {x0 x1} : Ends 6664816166436 x1 (execRetrain x0 x1) := by
  unfold execRetrain
  repeat' first
    | (extract_lets +onlyGivenNames y; first | (refine Moves.bind (x := y) ?_ fun _ => ?_; (on_goal 2 => clear_value y); subst y) | clear_value y | subst y)
    | with_reducible assumption
    | with_reducible apply Moves.refl
    | ((with_reducible apply Moves.trans ?_ (atRegister_moves ?e (fun _ => ?_))); case e => rfl)
    | ((with_reducible apply Moves.after commandWrite_moves ?e ?_); case e => rfl)
    | ((with_reducible apply Moves.after trainLink_moves ?e ?_); case e => rfl)
    | with_reducible apply Ends.next ?_
    | with_reducible apply Ends.ite ?_ ?_
    | with_reducible apply Moves.ite ?_ ?_

theorem setWidth_moves {x0 x1} : Moves 2199023256580 x1 (setWidth x0 x1) := by
  unfold setWidth
  repeat' first
    | (extract_lets +onlyGivenNames y; first | (refine Moves.bind (x := y) ?_ fun _ => ?_; (on_goal 2 => clear_value y); subst y) | clear_value y | subst y)
    | with_reducible assumption
    | with_reducible apply Moves.refl
    | ((with_reducible apply Moves.after wrF_moves ?e ?_); case e => rfl)
    | ((with_reducible apply Moves.after bump_moves ?e ?_); case e => rfl)
    | ((with_reducible apply Moves.after emit_moves ?e ?_); case e => rfl)
    | ((with_reducible apply Moves.after hallmark_moves ?e ?_); case e => rfl)
    | with_reducible apply Moves.ite ?_ ?_
    | with_reducible apply Moves.foldl (fun _ _ => ?_) ?_

theorem failLanes_moves {x0 x1} : Moves 6664832943652 x1 (failLanes x0 x1) := by
  unfold failLanes
  repeat' first
    | (extract_lets +onlyGivenNames y; first | (refine Moves.bind (x := y) ?_ fun _ => ?_; (on_goal 2 => clear_value y); subst y) | clear_value y | subst y)
    | with_reducible assumption
    | with_reducible apply Moves.refl
    | ((with_reducible apply Moves.after wr_moves ?e ?_); case e => rfl)
    | ((with_reducible apply Moves.after wrF_moves ?e ?_); case e => rfl)
    | ((with_reducible apply Moves.after emit_moves ?e ?_); case e => rfl)
    | ((with_reducible apply Moves.after linkDown_moves ?e ?_); case e => rfl)
    | with_reducible apply Moves.ite ?_ ?_

theorem execLaneFail_moves {x0 x1} : Ends 6664832943652 x1 (execLaneFail x0 x1) := by
  unfold execLaneFail
  repeat' first
    | with_reducible assumption
    | with_reducible apply Moves.refl
    | ((with_reducible apply Moves.after failLanes_moves ?e ?_); case e => rfl)
    | with_reducible apply Ends.next ?_

theorem execNarrow_moves {x0 x1 x2} : Ends 6664832943652 x2 (execNarrow x0 x1 x2) := by
  unfold execNarrow
  repeat' first
    | (extract_lets +onlyGivenNames y; first | (refine Ends.bind (x := y) ?_ fun _ => ?_; (on_goal 2 => clear_value y); subst y) | clear_value y | subst y)
    | with_reducible assumption
    | with_reducible apply Moves.refl
    | ((with_reducible apply Moves.after emit_moves ?e ?_); case e => rfl)
    | ((with_reducible apply Moves.after linkDown_moves ?e ?_); case e => rfl)
    | ((with_reducible apply Moves.after setWidth_moves ?e ?_); case e => rfl)
    | fail_if_no_progress ((with_reducible apply Moves.set_wdl ?e ?_); case e => rfl)
    | with_reducible apply Ends.next ?_
    | with_reducible apply Ends.ite ?_ ?_
    | with_reducible apply Moves.ite ?_ ?_

theorem execLinkWiden_moves {x0 x1} : Ends 67108868 x1 (execLinkWiden x0 x1) := by
  unfold execLinkWiden
  repeat' first
    | (extract_lets +onlyGivenNames y; first | clear_value y | subst y)
    | with_reducible assumption
    | with_reducible apply Moves.refl
    | ((with_reducible apply Moves.after wr_moves ?e ?_); case e => rfl)
    | ((with_reducible apply Moves.after wrF_moves ?e ?_); case e => rfl)
    | fail_if_no_progress ((with_reducible apply Moves.set_wdl ?e ?_); case e => rfl)
    | with_reducible apply Ends.next ?_
    | with_reducible apply Ends.ite ?_ ?_
    | with_reducible apply Moves.ite ?_ ?_

theorem sendGens_moves {x0} : Moves 2207680299012 x0 (sendGens x0) := by
  unfold sendGens
  repeat' first
    | (extract_lets +onlyGivenNames y; first | (refine Moves.bind (x := y) ?_ fun _ => ?_; (on_goal 2 => clear_value y); subst y) | clear_value y | subst y)
    | with_reducible assumption
    | with_reducible apply Moves.refl
    | ((with_reducible apply Moves.after sendW_moves ?e ?_); case e => rfl)
    | fail_if_no_progress ((with_reducible apply Moves.set_tin ?e ?_); case e => rfl)
    | with_reducible apply Moves.foldl (fun _ _ => ?_) ?_

theorem returnEmpty_moves {x0} : Moves 2267809841156 x0 (returnEmpty x0) := by
  unfold returnEmpty
  repeat' first
    | (extract_lets +onlyGivenNames y; first | clear_value y | subst y)
    | with_reducible assumption
    | with_reducible apply Moves.refl
    | ((with_reducible apply Moves.after sendW_moves ?e ?_); case e => rfl)
    | ((with_reducible apply Moves.after zonePut_moves ?e ?_); case e => rfl)
    | with_reducible apply Moves.foldl (fun _ _ => ?_) ?_

theorem ownNothing_moves {x0} : Moves 69809995812 x0 (ownNothing x0) := by
  unfold ownNothing
  repeat' first
    | (extract_lets +onlyGivenNames y; first | (refine Moves.bind (x := y) ?_ fun _ => ?_; (on_goal 2 => clear_value y); subst y) | clear_value y | subst y)
    | with_reducible assumption
    | with_reducible apply Moves.refl
    | ((with_reducible apply Moves.after bump_moves ?e ?_); case e => rfl)
    | ((with_reducible apply Moves.after freeSlot_moves ?e ?_); case e => rfl)
    | fail_if_no_progress ((with_reducible apply Moves.set_ldg ?e ?_); case e => rfl)
    | fail_if_no_progress ((with_reducible apply Moves.set_pln ?e ?_); case e => rfl)
    | with_reducible apply Moves.ite ?_ ?_
    | with_reducible apply Moves.foldl (fun _ _ => ?_) ?_

theorem sendOpen_moves {x0 x1} : Moves 2199090364420 x1 (sendOpen x0 x1) := by
  unfold sendOpen
  repeat' first
    | (extract_lets +onlyGivenNames y; first | clear_value y | subst y)
    | with_reducible assumption
    | with_reducible apply Moves.refl
    | ((with_reducible apply Moves.after sendW_moves ?e ?_); case e => rfl)
    | with_reducible apply Moves.ite ?_ ?_
    | with_reducible apply Moves.foldl (fun _ _ => ?_) ?_

theorem alignEpochs_moves {x0} : Moves 2199878893572 x0 (alignEpochs x0) := by
  unfold alignEpochs
  repeat' first
    | (extract_lets +onlyGivenNames y; first | (refine Moves.bind (x := y) ?_ fun _ => ?_; (on_goal 2 => clear_value y); subst y) | clear_value y | subst y)
    | with_reducible assumption
    | with_reducible apply Moves.refl
    | ((with_reducible apply Moves.after wr64_moves ?e ?_); case e => rfl)
    | ((with_reducible apply Moves.after closeTo_moves ?e ?_); case e => rfl)
    | fail_if_no_progress ((with_reducible apply Moves.set_ldg ?e ?_); case e => rfl)
    | with_reducible apply Moves.ite ?_ ?_

theorem pairUp_moves {x0} : Moves 4 x0 (pairUp x0) := by
  unfold pairUp
  repeat' first
    | (extract_lets +onlyGivenNames y; first | clear_value y | subst y)
    | with_reducible assumption
    | with_reducible apply Moves.refl
    | ((with_reducible apply Moves.after wrF_moves ?e ?_); case e => rfl)

theorem linkUpNow_moves {x0} : Moves 2278329157156 x0 (linkUpNow x0) := by
  unfold linkUpNow
  repeat' first
    | (extract_lets +onlyGivenNames y; first | (refine Moves.bind (x := y) ?_ fun _ => ?_; (on_goal 2 => clear_value y); subst y) | clear_value y | subst y)
    | with_reducible assumption
    | with_reducible apply Moves.refl
    | ((with_reducible apply Moves.after wrF_moves ?e ?_); case e => rfl)
    | ((with_reducible apply Moves.after hallmark_moves ?e ?_); case e => rfl)
    | ((with_reducible apply Moves.after event_moves ?e ?_); case e => rfl)
    | ((with_reducible apply Moves.after sendHold_moves ?e ?_); case e => rfl)
    | ((with_reducible apply Moves.after ldgStat_moves ?e ?_); case e => rfl)
    | ((with_reducible apply Moves.after tryClose_moves ?e ?_); case e => rfl)
    | ((with_reducible apply Moves.after sendGens_moves ?e ?_); case e => rfl)
    | ((with_reducible apply Moves.after returnEmpty_moves ?e ?_); case e => rfl)
    | ((with_reducible apply Moves.after ownNothing_moves ?e ?_); case e => rfl)
    | ((with_reducible apply Moves.after sendOpen_moves ?e ?_); case e => rfl)
    | ((with_reducible apply Moves.after alignEpochs_moves ?e ?_); case e => rfl)
    | ((with_reducible apply Moves.after pairUp_moves ?e ?_); case e => rfl)
    | fail_if_no_progress ((with_reducible apply Moves.set_wdl ?e ?_); case e => rfl)
    | with_reducible apply Moves.ite ?_ ?_

theorem mayUp_moves {x0} : Moves 2278329157156 x0 (mayUp x0) := by
  unfold mayUp
  repeat' first
    | with_reducible assumption
    | with_reducible apply Moves.refl
    | ((with_reducible apply Moves.after linkUpNow_moves ?e ?_); case e => rfl)
    | with_reducible apply Moves.ite ?_ ?_

theorem execHelloTimer_moves {x0} : Ends 2278329157156 x0 (execHelloTimer x0) := by
  unfold execHelloTimer
  repeat' first
    | (extract_lets +onlyGivenNames y; first | clear_value y | subst y)
    | with_reducible assumption
    | with_reducible apply Moves.refl
    | ((with_reducible apply Moves.after emit_moves ?e ?_); case e => rfl)
    | ((with_reducible apply Moves.after mayUp_moves ?e ?_); case e => rfl)
    | fail_if_no_progress ((with_reducible apply Moves.set_wdl ?e ?_); case e => rfl)
    | with_reducible apply Ends.next ?_
    | with_reducible apply Ends.ite ?_ ?_
    | with_reducible apply Moves.ite ?_ ?_

theorem noteHello_moves {x0 x1} : Moves 67108868 x1 (noteHello x0 x1) := by
  unfold noteHello
  repeat' first
    | (extract_lets +onlyGivenNames y; first | (refine Moves.bind (x := y) ?_ fun _ => ?_; (on_goal 2 => clear_value y); subst y) | clear_value y | subst y)
    | with_reducible assumption
    | with_reducible apply Moves.refl
    | ((with_reducible apply Moves.after wr_moves ?e ?_); case e => rfl)
    | fail_if_no_progress ((with_reducible apply Moves.set_wdl ?e ?_); case e => rfl)
    | with_reducible apply Moves.foldl (fun _ _ => ?_) ?_

theorem execHello_moves {x0 x1} : Ends 6676375668260 x1 (execHello x0 x1) := by
  unfold execHello
  repeat' first
    | (extract_lets +onlyGivenNames y; first | (refine Ends.bind (x := y) ?_ fun _ => ?_; (on_goal 2 => clear_value y); subst y) | (refine Moves.bind (x := y) ?_ fun _ => ?_; (on_goal 2 => clear_value y); subst y) | clear_value y | subst y)
    | with_reducible assumption
    | with_reducible apply Moves.refl
    | ((with_reducible apply Moves.after wrF_moves ?e ?_); case e => rfl)
    | ((with_reducible apply Moves.after bump_moves ?e ?_); case e => rfl)
    | ((with_reducible apply Moves.after emit_moves ?e ?_); case e => rfl)
    | ((with_reducible apply Moves.after draw_moves ?e ?_); case e => rfl)
    | ((with_reducible apply Moves.after (Moves.of_pair ?p draw_moves) ?e ?_); (case p => assumption); case e => rfl)
    | ((with_reducible apply Moves.after hallmark_moves ?e ?_); case e => rfl)
    | ((with_reducible apply Moves.after mayUp_moves ?e ?_); case e => rfl)
    | ((with_reducible apply Moves.after noteHello_moves ?e ?_); case e => rfl)
    | with_reducible apply Ends.next ?_
    | with_reducible apply Ends.ite ?_ ?_
    | with_reducible apply Moves.ite ?_ ?_

theorem execDropMsg_moves {x0 x1} : Ends 6664832943652 x1 (execDropMsg x0 x1) := by
  unfold execDropMsg
  repeat' first
    | (extract_lets +onlyGivenNames y; first | clear_value y | subst y)
    | with_reducible assumption
    | with_reducible apply Moves.refl
    | ((with_reducible apply Moves.after linkDown_moves ?e ?_); case e => rfl)
    | with_reducible apply Ends.next ?_
    | with_reducible apply Ends.ite ?_ ?_
    | with_reducible apply Moves.ite ?_ ?_

theorem execNoFlitTimeout_moves {x0} : Ends 6664832943652 x0 (execNoFlitTimeout x0) := by
  unfold execNoFlitTimeout
  repeat' first
    | with_reducible assumption
    | with_reducible apply Moves.refl
    | ((with_reducible apply Moves.after linkDown_moves ?e ?_); case e => rfl)
    | with_reducible apply Ends.next ?_
    | with_reducible apply Ends.ite ?_ ?_
    | with_reducible apply Moves.ite ?_ ?_

end Sys2Proof.Machine
end

