-- ==== Sys2Proof/Laws/MovesFlash.lean ====
section
/-! SUPPORT. What each definition may change. Planish, Anneal, replication and takeover. -/

namespace Sys2Proof.Machine

/-! Sys2Proof/Machine/FlashCore.lean. -/

theorem portDown_moves {x0 x1} : Moves 4466765988868 x1 (portDown x0 x1) := by
  unfold portDown
  repeat' first
    | (extract_lets +onlyGivenNames y; first | clear_value y | subst y)
    | with_reducible assumption
    | with_reducible apply Moves.refl
    | ((with_reducible apply Moves.after wr_moves ?e ?_); case e => rfl)
    | ((with_reducible apply Moves.after draw_moves ?e ?_); case e => rfl)
    | ((with_reducible apply Moves.after (Moves.of_pair ?p draw_moves) ?e ?_); (case p => assumption); case e => rfl)
    | ((with_reducible apply Moves.after hallmark_moves ?e ?_); case e => rfl)
    | fail_if_no_progress ((with_reducible apply Moves.set_pln ?e ?_); case e => rfl)

theorem presenceLost_moves {x0 x1} : Moves 4466765988868 x1 (presenceLost x0 x1) := by
  unfold presenceLost
  repeat' first
    | (extract_lets +onlyGivenNames y; first | (refine Moves.bind (x := y) ?_ fun _ => ?_; (on_goal 2 => clear_value y); subst y) | clear_value y | subst y)
    | with_reducible assumption
    | with_reducible apply Moves.refl
    | ((with_reducible apply Moves.after wrF_moves ?e ?_); case e => rfl)
    | ((with_reducible apply Moves.after pmodPut_moves ?e ?_); case e => rfl)
    | ((with_reducible apply Moves.after portDown_moves ?e ?_); case e => rfl)
    | with_reducible apply Moves.ite ?_ ?_

theorem portFault_moves {x0 x1 x2} : Moves 6734358251108 x2 (portFault x0 x1 x2) := by
  unfold portFault
  repeat' first
    | (extract_lets +onlyGivenNames y; first | (refine Moves.bind (x := y) ?_ fun _ => ?_; (on_goal 2 => clear_value y); subst y) | clear_value y | subst y)
    | with_reducible assumption
    | with_reducible apply Moves.refl
    | ((with_reducible apply Moves.after recordFault_moves ?e ?_); case e => rfl)
    | ((with_reducible apply Moves.after ejectNow_moves ?e ?_); case e => rfl)
    | with_reducible apply Moves.ite ?_ ?_

theorem zoneOffline_moves {x0 x1 x2} : Moves 2268598371332 x2 (zoneOffline x0 x1 x2) := by
  unfold zoneOffline
  repeat' first
    | (extract_lets +onlyGivenNames y; first | (refine Moves.bind (x := y) ?_ fun _ => ?_; (on_goal 2 => clear_value y); subst y) | clear_value y | subst y)
    | with_reducible assumption
    | with_reducible apply Moves.refl
    | ((with_reducible apply Moves.after wrF_moves ?e ?_); case e => rfl)
    | ((with_reducible apply Moves.after bump_moves ?e ?_); case e => rfl)
    | ((with_reducible apply Moves.after hallmark_moves ?e ?_); case e => rfl)
    | ((with_reducible apply Moves.after zonePut_moves ?e ?_); case e => rfl)
    | ((with_reducible apply Moves.after floorUpdate_moves ?e ?_); case e => rfl)
    | fail_if_no_progress ((with_reducible apply Moves.set_ldg ?e ?_); case e => rfl)
    | fail_if_no_progress ((with_reducible apply Moves.set_ing ?e ?_); case e => rfl)
    | with_reducible apply Moves.ite ?_ ?_

theorem zoneWorn_moves {x0 x1} : Moves 2268548039684 x1 (zoneWorn x0 x1) := by
  unfold zoneWorn
  repeat' first
    | (extract_lets +onlyGivenNames y; first | clear_value y | subst y)
    | with_reducible assumption
    | with_reducible apply Moves.refl
    | ((with_reducible apply Moves.after zonePut_moves ?e ?_); case e => rfl)
    | ((with_reducible apply Moves.after floorUpdate_moves ?e ?_); case e => rfl)
    | ((with_reducible apply Moves.after reclaim_moves ?e ?_); case e => rfl)
    | with_reducible apply Moves.ite ?_ ?_

theorem readOnly_moves {x0 x1 x2} : Moves 2268548039684 x2 (readOnly x0 x1 x2) := by
  unfold readOnly
  repeat' first
    | (extract_lets +onlyGivenNames y; first | clear_value y | subst y)
    | with_reducible assumption
    | with_reducible apply Moves.refl
    | ((with_reducible apply Moves.after hallmark_moves ?e ?_); case e => rfl)
    | ((with_reducible apply Moves.after pmodPut_moves ?e ?_); case e => rfl)
    | ((with_reducible apply Moves.after floorUpdate_moves ?e ?_); case e => rfl)
    | ((with_reducible apply Moves.after evacuate_moves ?e ?_); case e => rfl)
    | with_reducible apply Moves.ite ?_ ?_

theorem zoneReset_moves {x0 x1} : Moves 2268615148548 x1 (zoneReset x0 x1) := by
  unfold zoneReset
  repeat' first
    | (extract_lets +onlyGivenNames y; first | (refine Moves.bind (x := y) ?_ fun _ => ?_; (on_goal 2 => clear_value y); subst y) | clear_value y | subst y)
    | with_reducible assumption
    | with_reducible apply Moves.refl
    | ((with_reducible apply Moves.after bump_moves ?e ?_); case e => rfl)
    | ((with_reducible apply Moves.after sendW_moves ?e ?_); case e => rfl)
    | ((with_reducible apply Moves.after zonePut_moves ?e ?_); case e => rfl)
    | ((with_reducible apply Moves.after floorUpdate_moves ?e ?_); case e => rfl)
    | with_reducible apply Moves.ite ?_ ?_

theorem zoneFinished_moves {x0 x1} : Moves 2268548039684 x1 (zoneFinished x0 x1) := by
  unfold zoneFinished
  repeat' first
    | (extract_lets +onlyGivenNames y; first | clear_value y | subst y)
    | with_reducible assumption
    | with_reducible apply Moves.refl
    | ((with_reducible apply Moves.after zonePut_moves ?e ?_); case e => rfl)
    | ((with_reducible apply Moves.after floorUpdate_moves ?e ?_); case e => rfl)
    | ((with_reducible apply Moves.after reclaim_moves ?e ?_); case e => rfl)
    | with_reducible apply Moves.ite ?_ ?_

theorem reserveModule_moves {x0 x1 x2 x3} : Moves 3848290697216 x3 (reserveModule x0 x1 x2 x3) := by
  unfold reserveModule
  repeat' first
    | (extract_lets +onlyGivenNames y; first | (refine Moves.bind (x := y) ?_ fun _ => ?_; (on_goal 2 => clear_value y); subst y) | clear_value y | subst y)
    | with_reducible assumption
    | with_reducible apply Moves.refl
    | ((with_reducible apply Moves.after emit_moves ?e ?_); case e => rfl)
    | fail_if_no_progress ((with_reducible apply Moves.set_resOwn ?e ?_); case e => rfl)
    | fail_if_no_progress ((with_reducible apply Moves.set_resPeer ?e ?_); case e => rfl)
    | with_reducible apply Moves.ite ?_ ?_

theorem castOnModule_moves {x0 x1} : Moves 33554432 x1 (castOnModule x0 x1) := by
  unfold castOnModule
  repeat' first
    | (extract_lets +onlyGivenNames y; first | clear_value y | subst y)
    | with_reducible assumption
    | with_reducible apply Moves.refl
    | ((with_reducible apply Moves.after modPut_moves ?e ?_); case e => rfl)
    | with_reducible apply Moves.ite ?_ ?_

theorem moduleSeen_moves {x0 x1 x2} : Moves 2268581594116 x2 (moduleSeen x0 x1 x2) := by
  unfold moduleSeen
  repeat' first
    | (extract_lets +onlyGivenNames y; first | clear_value y | subst y)
    | with_reducible assumption
    | with_reducible apply Moves.refl
    | ((with_reducible apply Moves.after pmodPut_moves ?e ?_); case e => rfl)
    | ((with_reducible apply Moves.after floorUpdate_moves ?e ?_); case e => rfl)
    | ((with_reducible apply Moves.after castOnModule_moves ?e ?_); case e => rfl)
    | with_reducible apply Moves.ite ?_ ?_

theorem moduleIdentified_moves {x0 x1 x2} : Moves 2268581594116 x2 (moduleIdentified x0 x1 x2) := by
  unfold moduleIdentified
  repeat' first
    | (extract_lets +onlyGivenNames y; first | (refine Moves.bind (x := y) ?_ fun _ => ?_; (on_goal 2 => clear_value y); subst y) | (refine of_fun y ?_; subst y) | clear_value y | subst y)
    | with_reducible assumption
    | with_reducible apply Moves.refl
    | ((with_reducible apply Moves.after hallmark_moves ?e ?_); case e => rfl)
    | ((with_reducible apply Moves.after pmodPut_moves ?e ?_); case e => rfl)
    | ((with_reducible apply Moves.after moduleSeen_moves ?e ?_); case e => rfl)
    | with_reducible apply Moves.ite ?_ ?_
    | split

theorem plnMeets_moves {x0} : Moves 2268581594116 x0 (plnMeets x0) := by
  unfold plnMeets
  repeat' first
    | (extract_lets +onlyGivenNames y; first | (refine Moves.bind (x := y) ?_ fun _ => ?_; (on_goal 2 => clear_value y); subst y) | (refine of_fun y ?_; subst y) | clear_value y | subst y)
    | with_reducible assumption
    | with_reducible apply Moves.refl
    | ((with_reducible apply Moves.after pmodPut_moves ?e ?_); case e => rfl)
    | ((with_reducible apply Moves.after moduleIdentified_moves ?e ?_); case e => rfl)
    | with_reducible apply Moves.ite ?_ ?_
    | with_reducible apply Moves.foldl (fun _ _ => ?_) ?_
    | with_reducible apply Moves.foldl2 (fun _ _ => ?_) ?_
    | split

theorem admitModule_moves {x0 x1} : Moves 2267793063936 x1 (admitModule x0 x1) := by
  unfold admitModule
  repeat' first
    | (extract_lets +onlyGivenNames y; first | (refine Moves.bind (x := y) ?_ fun _ => ?_; (on_goal 2 => clear_value y); subst y) | clear_value y | subst y)
    | with_reducible assumption
    | with_reducible apply Moves.refl
    | ((with_reducible apply Moves.after emit_moves ?e ?_); case e => rfl)
    | ((with_reducible apply Moves.after modPut_moves ?e ?_); case e => rfl)
    | ((with_reducible apply Moves.after zonePut_moves ?e ?_); case e => rfl)
    | ((with_reducible apply Moves.after pmodPut_moves ?e ?_); case e => rfl)
    | fail_if_no_progress ((with_reducible apply Moves.set_ldg ?e ?_); case e => rfl)
    | with_reducible apply Moves.ite ?_ ?_
    | with_reducible apply Moves.foldl (fun _ _ => ?_) ?_

/-! Sys2Proof/Machine/Flash.lean. -/

theorem ckptTaken_moves {x0 x1 x2 x3} : Moves 17196646400 x3 (ckptTaken x0 x1 x2 x3) := by
  unfold ckptTaken
  repeat' first
    | (extract_lets +onlyGivenNames y; first | (refine Moves.bind (x := y) ?_ fun _ => ?_; (on_goal 2 => clear_value y); subst y) | (refine of_fun y ?_; subst y) | clear_value y | subst y)
    | with_reducible assumption
    | with_reducible apply Moves.refl
    | fail_if_no_progress ((with_reducible apply Moves.set_ldg ?e ?_); case e => rfl)
    | fail_if_no_progress ((with_reducible apply Moves.set_frg ?e ?_); case e => rfl)

theorem ckptMapped_moves {x0 x1 x2 x3 x4 x5} : Moves 68719476736 x5 (ckptMapped x0 x1 x2 x3 x4 x5) := by
  unfold ckptMapped
  repeat' first
    | (extract_lets +onlyGivenNames y; first | (refine Moves.bind (x := y) ?_ fun _ => ?_; (on_goal 2 => clear_value y); subst y) | (refine of_fun y ?_; subst y) | clear_value y | subst y)
    | with_reducible assumption
    | with_reducible apply Moves.refl
    | fail_if_no_progress ((with_reducible apply Moves.set_pln ?e ?_); case e => rfl)

theorem execCheckpointComplete_moves {x0} : Ends 2285006488644 x0 (execCheckpointComplete x0) := by
  unfold execCheckpointComplete
  repeat' first
    | (extract_lets +onlyGivenNames y; first | (refine Moves.bind (x := y) ?_ fun _ => ?_; (on_goal 2 => clear_value y); subst y) | clear_value y | subst y)
    | with_reducible assumption
    | with_reducible apply Moves.refl
    | ((with_reducible apply Moves.after wr_moves ?e ?_); case e => rfl)
    | ((with_reducible apply Moves.after wr64_moves ?e ?_); case e => rfl)
    | ((with_reducible apply Moves.after hallmark_moves ?e ?_); case e => rfl)
    | ((with_reducible apply Moves.after (Moves.of_pair ?p writeSpine_moves) ?e ?_); (case p => assumption); case e => rfl)
    | ((with_reducible apply Moves.after journalFill_moves ?e ?_); case e => rfl)
    | ((with_reducible apply Moves.after writeRecord_moves ?e ?_); case e => rfl)
    | ((with_reducible apply Moves.after flushItems_moves ?e ?_); case e => rfl)
    | ((with_reducible apply Moves.after ckptTaken_moves ?e ?_); case e => rfl)
    | ((with_reducible apply Moves.after ckptMapped_moves ?e ?_); case e => rfl)
    | with_reducible apply Ends.next ?_
    | with_reducible apply Ends.ite ?_ ?_
    | with_reducible apply Moves.ite ?_ ?_
    | split

theorem execModuleLinkUp_moves {x0 x1 x2 x3 x4 x5} : Ends 2268589982724 x5 (execModuleLinkUp x0 x1 x2 x3 x4 x5) := by
  unfold execModuleLinkUp
  repeat' first
    | (extract_lets +onlyGivenNames y; first | (refine Ends.bind (x := y) ?_ fun _ => ?_; (on_goal 2 => clear_value y); subst y) | clear_value y | subst y)
    | with_reducible assumption
    | with_reducible apply Moves.refl
    | ((with_reducible apply Moves.after wr_moves ?e ?_); case e => rfl)
    | ((with_reducible apply Moves.after wrF_moves ?e ?_); case e => rfl)
    | ((with_reducible apply Moves.after lanesLocked_moves ?e ?_); case e => rfl)
    | ((with_reducible apply Moves.after hallmark_moves ?e ?_); case e => rfl)
    | ((with_reducible apply Moves.after pmodPut_moves ?e ?_); case e => rfl)
    | ((with_reducible apply Moves.after moduleIdentified_moves ?e ?_); case e => rfl)
    | fail_if_no_progress ((with_reducible apply Moves.set_pln ?e ?_); case e => rfl)
    | with_reducible apply Ends.next ?_
    | with_reducible apply Ends.ite ?_ ?_
    | with_reducible apply Moves.ite ?_ ?_

theorem execModuleAdmit_moves {x0 x1} : Ends 6734290617892 x1 (execModuleAdmit x0 x1) := by
  unfold execModuleAdmit
  repeat' first
    | (extract_lets +onlyGivenNames y; first | (refine Ends.bind (x := y) ?_ fun _ => ?_; (on_goal 2 => clear_value y); subst y) | clear_value y | subst y)
    | with_reducible assumption
    | with_reducible apply Moves.refl
    | ((with_reducible apply Moves.after conflict_moves ?e ?_); case e => rfl)
    | ((with_reducible apply Moves.after commandWrite_moves ?e ?_); case e => rfl)
    | ((with_reducible apply Moves.after floorUpdate_moves ?e ?_); case e => rfl)
    | ((with_reducible apply Moves.after admitModule_moves ?e ?_); case e => rfl)
    | with_reducible apply Ends.next ?_
    | with_reducible apply Ends.ite ?_ ?_
    | with_reducible apply Moves.ite ?_ ?_

theorem execModuleRetire_moves {x0 x1} : Ends 6734273840676 x1 (execModuleRetire x0 x1) := by
  unfold execModuleRetire
  repeat' first
    | (extract_lets +onlyGivenNames y; first | (refine Ends.bind (x := y) ?_ fun _ => ?_; (on_goal 2 => clear_value y); subst y) | (refine Moves.bind (x := y) ?_ fun _ => ?_; (on_goal 2 => clear_value y); subst y) | clear_value y | subst y)
    | with_reducible assumption
    | with_reducible apply Moves.refl
    | ((with_reducible apply Moves.after commandWrite_moves ?e ?_); case e => rfl)
    | ((with_reducible apply Moves.after readOnly_moves ?e ?_); case e => rfl)
    | with_reducible apply Ends.next ?_
    | with_reducible apply Ends.ite ?_ ?_
    | with_reducible apply Moves.ite ?_ ?_

theorem execPresenceLost_moves {x0 x1} : Ends 4466765988868 x1 (execPresenceLost x0 x1) := by
  unfold execPresenceLost
  repeat' first
    | with_reducible assumption
    | with_reducible apply Moves.refl
    | ((with_reducible apply Moves.after presenceLost_moves ?e ?_); case e => rfl)
    | with_reducible apply Ends.next ?_
    | with_reducible apply Ends.ite ?_ ?_
    | with_reducible apply Moves.ite ?_ ?_

theorem execRetrainTimeout_moves {x0 x1} : Ends 6734358251108 x1 (execRetrainTimeout x0 x1) := by
  unfold execRetrainTimeout
  repeat' first
    | with_reducible assumption
    | with_reducible apply Moves.refl
    | ((with_reducible apply Moves.after portFault_moves ?e ?_); case e => rfl)
    | with_reducible apply Ends.next ?_
    | with_reducible apply Ends.ite ?_ ?_
    | with_reducible apply Moves.ite ?_ ?_

theorem execSidebandPoll_moves {x0 x1 x2 x3 x4} : Ends 4466765988868 x4 (execSidebandPoll x0 x1 x2 x3 x4) := by
  unfold execSidebandPoll
  repeat' first
    | (extract_lets +onlyGivenNames y; first | (refine Ends.bind (x := y) ?_ fun _ => ?_; (on_goal 2 => clear_value y); subst y) | (refine Moves.bind (x := y) ?_ fun _ => ?_; (on_goal 2 => clear_value y); subst y) | clear_value y | subst y)
    | with_reducible assumption
    | with_reducible apply Moves.refl
    | ((with_reducible apply Moves.after wr_moves ?e ?_); case e => rfl)
    | ((with_reducible apply Moves.after presenceLost_moves ?e ?_); case e => rfl)
    | with_reducible apply Ends.next ?_
    | with_reducible apply Ends.ite ?_ ?_
    | with_reducible apply Moves.ite ?_ ?_

theorem execHealthPoll_moves {x0 x1 x2 x3 x4} : Ends 2268598371332 x4 (execHealthPoll x0 x1 x2 x3 x4) := by
  unfold execHealthPoll
  repeat' first
    | (extract_lets +onlyGivenNames y; first | (refine Ends.bind (x := y) ?_ fun _ => ?_; (on_goal 2 => clear_value y); subst y) | (refine Moves.bind (x := y) ?_ fun _ => ?_; (on_goal 2 => clear_value y); subst y) | (refine of_fun y ?_; subst y) | clear_value y | subst y)
    | with_reducible assumption
    | with_reducible apply Moves.refl
    | ((with_reducible apply Moves.after zoneOffline_moves ?e ?_); case e => rfl)
    | ((with_reducible apply Moves.after zoneWorn_moves ?e ?_); case e => rfl)
    | ((with_reducible apply Moves.after readOnly_moves ?e ?_); case e => rfl)
    | with_reducible apply Ends.next ?_
    | with_reducible apply Ends.ite ?_ ?_
    | with_reducible apply Moves.ite ?_ ?_
    | with_reducible apply Moves.foldl (fun _ _ => ?_) ?_

theorem execChunkGrant_moves {x0 x1} : Ends 2268665480772 x1 (execChunkGrant x0 x1) := by
  unfold execChunkGrant
  repeat' first
    | with_reducible assumption
    | with_reducible apply Moves.refl
    | ((with_reducible apply Moves.after castIngot_moves ?e ?_); case e => rfl)
    | with_reducible apply Ends.next ?_
    | with_reducible apply Ends.ite ?_ ?_
    | with_reducible apply Moves.ite ?_ ?_
    | split

theorem execZoneResetDone_moves {x0 x1 x2 x3} : Ends 2268665480196 x3 (execZoneResetDone x0 x1 x2 x3) := by
  unfold execZoneResetDone
  repeat' first
    | with_reducible assumption
    | with_reducible apply Moves.refl
    | ((with_reducible apply Moves.after zoneOffline_moves ?e ?_); case e => rfl)
    | ((with_reducible apply Moves.after zoneReset_moves ?e ?_); case e => rfl)
    | with_reducible apply Ends.next ?_
    | with_reducible apply Ends.ite ?_ ?_
    | with_reducible apply Moves.ite ?_ ?_

theorem execZoneReturn_moves {x0 x1} : Ends 2268615148548 x1 (execZoneReturn x0 x1) := by
  unfold execZoneReturn
  repeat' first
    | (extract_lets +onlyGivenNames y; first | (refine Ends.bind (x := y) ?_ fun _ => ?_; (on_goal 2 => clear_value y); subst y) | clear_value y | subst y)
    | with_reducible assumption
    | with_reducible apply Moves.refl
    | ((with_reducible apply Moves.after takeRx_moves ?e ?_); case e => rfl)
    | ((with_reducible apply Moves.after zonePut_moves ?e ?_); case e => rfl)
    | ((with_reducible apply Moves.after floorUpdate_moves ?e ?_); case e => rfl)
    | fail_if_no_progress ((with_reducible apply Moves.set_pln ?e ?_); case e => rfl)
    | with_reducible apply Ends.next ?_
    | with_reducible apply Ends.ite ?_ ?_
    | with_reducible apply Moves.ite ?_ ?_

theorem execAnlWorkSelect_moves {x0} : Ends 2405986993156 x0 (execAnlWorkSelect x0) := by
  unfold execAnlWorkSelect
  repeat' first
    | (extract_lets +onlyGivenNames y; first | (refine Ends.bind (x := y) ?_ fun _ => ?_; (on_goal 2 => clear_value y); subst y) | (refine Moves.bind (x := y) ?_ fun _ => ?_; (on_goal 2 => clear_value y); subst y) | clear_value y | subst y)
    | with_reducible assumption
    | with_reducible apply Moves.refl
    | ((with_reducible apply Moves.after wrF_moves ?e ?_); case e => rfl)
    | ((with_reducible apply Moves.after hallmark_moves ?e ?_); case e => rfl)
    | ((with_reducible apply Moves.after floorUpdate_moves ?e ?_); case e => rfl)
    | ((with_reducible apply Moves.after anlStat_moves ?e ?_); case e => rfl)
    | fail_if_no_progress ((with_reducible apply Moves.set_anl ?e ?_); case e => rfl)
    | with_reducible apply Ends.next ?_
    | with_reducible apply Ends.ite ?_ ?_
    | with_reducible apply Moves.ite ?_ ?_
    | split

theorem execRelocationClaim_moves {x0 x1} : Ends 223388631044 x1 (execRelocationClaim x0 x1) := by
  unfold execRelocationClaim
  repeat' first
    | (extract_lets +onlyGivenNames y; first | (refine Ends.bind (x := y) ?_ fun _ => ?_; (on_goal 2 => clear_value y); subst y) | (refine Moves.bind (x := y) ?_ fun _ => ?_; (on_goal 2 => clear_value y); subst y) | clear_value y | subst y)
    | with_reducible assumption
    | with_reducible apply Moves.refl
    | ((with_reducible apply Moves.after bump_moves ?e ?_); case e => rfl)
    | ((with_reducible apply Moves.after idxSet_moves ?e ?_); case e => rfl)
    | ((with_reducible apply Moves.after toLedger_moves ?e ?_); case e => rfl)
    | ((with_reducible apply Moves.after remarkPages_moves ?e ?_); case e => rfl)
    | ((with_reducible apply Moves.after anlStat_moves ?e ?_); case e => rfl)
    | fail_if_no_progress ((with_reducible apply Moves.set_ing ?e ?_); case e => rfl)
    | fail_if_no_progress ((with_reducible apply Moves.set_anl ?e ?_); case e => rfl)
    | with_reducible apply Ends.next ?_
    | with_reducible apply Ends.ite ?_ ?_
    | with_reducible apply Moves.ite ?_ ?_
    | with_reducible apply Moves.foldl (fun _ _ => ?_) ?_

theorem startCopy_moves {x0 x1} : Moves 137455730688 x1 (startCopy x0 x1) := by
  unfold startCopy
  repeat' first
    | (extract_lets +onlyGivenNames y; first | (refine Moves.bind (x := y) ?_ fun _ => ?_; (on_goal 2 => clear_value y); subst y) | clear_value y | subst y)
    | with_reducible assumption
    | with_reducible apply Moves.refl
    | ((with_reducible apply Moves.after epPut_moves ?e ?_); case e => rfl)
    | fail_if_no_progress ((with_reducible apply Moves.set_anl ?e ?_); case e => rfl)

theorem copyBody_moves {x0 x1 x2 x3 x4} : Moves 163242313220 x4 (copyBody x0 x1 x2 x3 x4) := by
  unfold copyBody
  repeat' first
    | (extract_lets +onlyGivenNames y; first | (refine Moves.bind (x := y) ?_ fun _ => ?_; (on_goal 2 => clear_value y); subst y) | clear_value y | subst y)
    | with_reducible assumption
    | with_reducible apply Moves.refl
    | ((with_reducible apply Moves.after (Moves.of_pair ?p sealUse_moves) ?e ?_); (case p => assumption); case e => rfl)
    | ((with_reducible apply Moves.after handIn_moves ?e ?_); case e => rfl)
    | ((with_reducible apply Moves.after cullBillet_moves ?e ?_); case e => rfl)
    | ((with_reducible apply Moves.after (Moves.of_pair ?p reserve_moves) ?e ?_); (case p => assumption); case e => rfl)
    | fail_if_no_progress ((with_reducible apply Moves.set_anl ?e ?_); case e => rfl)
    | with_reducible apply Moves.ite ?_ ?_
    | split

theorem execRelocationCopy_moves {x0 x1 x2 x3 x4} : Ends 163259090436 x4 (execRelocationCopy x0 x1 x2 x3 x4) := by
  unfold execRelocationCopy
  repeat' first
    | (extract_lets +onlyGivenNames y; first | (refine Moves.bind (x := y) ?_ fun _ => ?_; (on_goal 2 => clear_value y); subst y) | clear_value y | subst y)
    | with_reducible assumption
    | with_reducible apply Moves.refl
    | ((with_reducible apply Moves.after startCopy_moves ?e ?_); case e => rfl)
    | ((with_reducible apply Moves.after copyBody_moves ?e ?_); case e => rfl)
    | with_reducible apply Ends.next ?_
    | with_reducible apply Ends.ite ?_ ?_
    | with_reducible apply Moves.ite ?_ ?_
    | split

theorem execMemberMove_moves {x0 x1 x2 x3} : Ends 2406087656516 x3 (execMemberMove x0 x1 x2 x3) := by
  unfold execMemberMove
  repeat' first
    | (extract_lets +onlyGivenNames y; first | (refine Moves.bind (x := y) ?_ fun _ => ?_; (on_goal 2 => clear_value y); subst y) | clear_value y | subst y)
    | with_reducible assumption
    | with_reducible apply Moves.refl
    | ((with_reducible apply Moves.after (Moves.of_pair ?p grantChunks_moves) ?e ?_); (case p => assumption); case e => rfl)
    | ((with_reducible apply Moves.after (Moves.of_opt2 ?p sjWrite_moves) ?e ?_); (case p => assumption); case e => rfl)
    | ((with_reducible apply Moves.after issueAll_moves ?e ?_); case e => rfl)
    | ((with_reducible apply Moves.after anlStat_moves ?e ?_); case e => rfl)
    | fail_if_no_progress ((with_reducible apply Moves.set_anl ?e ?_); case e => rfl)
    | fail_if_no_progress ((with_reducible apply Moves.set_ing ?e ?_); case e => rfl)
    | with_reducible apply Ends.next ?_
    | with_reducible apply Ends.ite ?_ ?_
    | with_reducible apply Moves.ite ?_ ?_
    | split

theorem execAnlBucketRefill_moves {x0} : Ends 137438953472 x0 (execAnlBucketRefill x0) := by
  unfold execAnlBucketRefill
  repeat' first
    | (extract_lets +onlyGivenNames y; first | clear_value y | subst y)
    | with_reducible assumption
    | with_reducible apply Moves.refl
    | fail_if_no_progress ((with_reducible apply Moves.set_anl ?e ?_); case e => rfl)
    | with_reducible apply Ends.next ?_

theorem execRekeyStart_moves {x0 x1} : Ends 4603164755492 x1 (execRekeyStart x0 x1) := by
  unfold execRekeyStart
  repeat' first
    | (extract_lets +onlyGivenNames y; first | (refine Ends.bind (x := y) ?_ fun _ => ?_; (on_goal 2 => clear_value y); subst y) | clear_value y | subst y)
    | with_reducible assumption
    | with_reducible apply Moves.refl
    | ((with_reducible apply Moves.after wrF_moves ?e ?_); case e => rfl)
    | ((with_reducible apply Moves.after conflict_moves ?e ?_); case e => rfl)
    | ((with_reducible apply Moves.after commandWrite_moves ?e ?_); case e => rfl)
    | fail_if_no_progress ((with_reducible apply Moves.set_anl ?e ?_); case e => rfl)
    | with_reducible apply Ends.next ?_
    | with_reducible apply Ends.ite ?_ ?_
    | with_reducible apply Moves.ite ?_ ?_

theorem execRekeyDone_moves {x0} : Ends 1540 x0 (execRekeyDone x0) := by
  unfold execRekeyDone
  repeat' first
    | (extract_lets +onlyGivenNames y; first | (refine Ends.bind (x := y) ?_ fun _ => ?_; (on_goal 2 => clear_value y); subst y) | (refine Moves.bind (x := y) ?_ fun _ => ?_; (on_goal 2 => clear_value y); subst y) | clear_value y | subst y)
    | with_reducible assumption
    | with_reducible apply Moves.refl
    | ((with_reducible apply Moves.after wr_moves ?e ?_); case e => rfl)
    | ((with_reducible apply Moves.after hallmark_moves ?e ?_); case e => rfl)
    | ((with_reducible apply Moves.after event_moves ?e ?_); case e => rfl)
    | with_reducible apply Ends.next ?_
    | with_reducible apply Ends.ite ?_ ?_
    | with_reducible apply Moves.ite ?_ ?_

theorem execSpineRead_moves {x0 x1 x2 x3} : Ends 4534445278756 x3 (execSpineRead x0 x1 x2 x3) := by
  unfold execSpineRead
  repeat' first
    | (extract_lets +onlyGivenNames y; first | (refine Moves.bind (x := y) ?_ fun _ => ?_; (on_goal 2 => clear_value y); subst y) | clear_value y | subst y)
    | with_reducible assumption
    | with_reducible apply Moves.refl
    | ((with_reducible apply Moves.after bump_moves ?e ?_); case e => rfl)
    | ((with_reducible apply Moves.after memWrite_moves ?e ?_); case e => rfl)
    | ((with_reducible apply Moves.after recordFault_moves ?e ?_); case e => rfl)
    | ((with_reducible apply Moves.after remarkPages_moves ?e ?_); case e => rfl)
    | with_reducible apply Ends.next ?_
    | with_reducible apply Ends.ite ?_ ?_
    | with_reducible apply Moves.ite ?_ ?_
    | split

theorem reconcile_moves {x0 x1} : Moves 2267742733316 x1 (reconcile x0 x1) := by
  unfold reconcile
  repeat' first
    | (extract_lets +onlyGivenNames y; first | clear_value y | subst y)
    | with_reducible assumption
    | with_reducible apply Moves.refl
    | ((with_reducible apply Moves.after bump_moves ?e ?_); case e => rfl)
    | ((with_reducible apply Moves.after emit_moves ?e ?_); case e => rfl)
    | ((with_reducible apply Moves.after zonePut_moves ?e ?_); case e => rfl)
    | ((with_reducible apply Moves.after reclaim_moves ?e ?_); case e => rfl)
    | with_reducible apply Moves.ite ?_ ?_
    | split

theorem adoptZone_moves {x0 x1} : Moves 68719476736 x1 (adoptZone x0 x1) := by
  unfold adoptZone
  repeat' first
    | (extract_lets +onlyGivenNames y; first | clear_value y | subst y)
    | with_reducible assumption
    | with_reducible apply Moves.refl
    | ((with_reducible apply Moves.after zonePut_moves ?e ?_); case e => rfl)
    | with_reducible apply Moves.ite ?_ ?_

theorem returnClaims_moves {x0} : Moves 17196646404 x0 (returnClaims x0) := by
  unfold returnClaims
  repeat' first
    | with_reducible assumption
    | with_reducible apply Moves.refl
    | ((with_reducible apply Moves.after toLedger_moves ?e ?_); case e => rfl)
    | ((with_reducible apply Moves.after unmark_moves ?e ?_); case e => rfl)
    | with_reducible apply Moves.ite ?_ ?_
    | with_reducible apply Moves.foldl (fun _ _ => ?_) ?_

theorem loseUnwritten_moves {x0 x1} : Moves 16777216 x1 (loseUnwritten x0 x1) := by
  unfold loseUnwritten
  repeat' first
    | (extract_lets +onlyGivenNames y; first | clear_value y | subst y)
    | with_reducible assumption
    | with_reducible apply Moves.refl
    | fail_if_no_progress ((with_reducible apply Moves.set_ldg ?e ?_); case e => rfl)

theorem execStartupReconcile_moves {x0 x1 x2} : Ends 2285778240516 x2 (execStartupReconcile x0 x1 x2) := by
  unfold execStartupReconcile
  repeat' first
    | (extract_lets +onlyGivenNames y; first | (refine Ends.bind (x := y) ?_ fun _ => ?_; (on_goal 2 => clear_value y); subst y) | (refine Moves.bind (x := y) ?_ fun _ => ?_; (on_goal 2 => clear_value y); subst y) | clear_value y | subst y)
    | with_reducible assumption
    | with_reducible apply Moves.refl
    | ((with_reducible apply Moves.after wrF_moves ?e ?_); case e => rfl)
    | ((with_reducible apply Moves.after floorUpdate_moves ?e ?_); case e => rfl)
    | ((with_reducible apply Moves.after settleFences_moves ?e ?_); case e => rfl)
    | ((with_reducible apply Moves.after reconcile_moves ?e ?_); case e => rfl)
    | ((with_reducible apply Moves.after adoptZone_moves ?e ?_); case e => rfl)
    | ((with_reducible apply Moves.after returnClaims_moves ?e ?_); case e => rfl)
    | ((with_reducible apply Moves.after loseUnwritten_moves ?e ?_); case e => rfl)
    | fail_if_no_progress ((with_reducible apply Moves.set_frg ?e ?_); case e => rfl)
    | with_reducible apply Ends.next ?_
    | with_reducible apply Ends.ite ?_ ?_
    | with_reducible apply Moves.ite ?_ ?_
    | with_reducible apply Moves.foldl (fun _ _ => ?_) ?_

theorem execNvmeCommandCompletion_moves {x0 x1 x2 x3 x4} : Ends 2268598371332 x4 (execNvmeCommandCompletion x0 x1 x2 x3 x4) := by
  unfold execNvmeCommandCompletion
  repeat' first
    | (extract_lets +onlyGivenNames y; first | (refine Ends.bind (x := y) ?_ fun _ => ?_; (on_goal 2 => clear_value y); subst y) | (refine Moves.bind (x := y) ?_ fun _ => ?_; (on_goal 2 => clear_value y); subst y) | clear_value y | subst y)
    | with_reducible assumption
    | with_reducible apply Moves.refl
    | ((with_reducible apply Moves.after bump_moves ?e ?_); case e => rfl)
    | ((with_reducible apply Moves.after answered_moves ?e ?_); case e => rfl)
    | ((with_reducible apply Moves.after zoneOffline_moves ?e ?_); case e => rfl)
    | ((with_reducible apply Moves.after zoneFinished_moves ?e ?_); case e => rfl)
    | with_reducible apply Ends.next ?_
    | with_reducible apply Ends.ite ?_ ?_
    | with_reducible apply Moves.ite ?_ ?_

theorem flashDrop_moves {x0 x1} : Moves 4466765988868 x1 (flashDrop x0 x1) := by
  unfold flashDrop
  repeat' first
    | with_reducible assumption
    | with_reducible apply Moves.refl
    | ((with_reducible apply Moves.after bump_moves ?e ?_); case e => rfl)
    | ((with_reducible apply Moves.after portDown_moves ?e ?_); case e => rfl)
    | with_reducible apply Moves.ite ?_ ?_

theorem execFlashLinkDrop_moves {x0 x1} : Ends 4466765988868 x1 (execFlashLinkDrop x0 x1) := by
  unfold execFlashLinkDrop
  repeat' first
    | with_reducible assumption
    | with_reducible apply Moves.refl
    | ((with_reducible apply Moves.after flashDrop_moves ?e ?_); case e => rfl)
    | with_reducible apply Ends.next ?_

theorem execCompletionTimeout_moves {x0 x1} : Ends 4 x1 (execCompletionTimeout x0 x1) := by
  unfold execCompletionTimeout
  repeat' first
    | with_reducible assumption
    | with_reducible apply Moves.refl
    | ((with_reducible apply Moves.after bump_moves ?e ?_); case e => rfl)
    | with_reducible apply Ends.next ?_
    | with_reducible apply Ends.ite ?_ ?_
    | with_reducible apply Moves.ite ?_ ?_

theorem execFatalAer_moves {x0 x1} : Ends 6734358251108 x1 (execFatalAer x0 x1) := by
  unfold execFatalAer
  repeat' first
    | with_reducible assumption
    | with_reducible apply Moves.refl
    | ((with_reducible apply Moves.after portFault_moves ?e ?_); case e => rfl)
    | with_reducible apply Ends.next ?_
    | with_reducible apply Ends.ite ?_ ?_
    | with_reducible apply Moves.ite ?_ ?_

theorem execDpcContainment_moves {x0 x1} : Ends 6734358251108 x1 (execDpcContainment x0 x1) := by
  unfold execDpcContainment
  repeat' first
    | with_reducible assumption
    | with_reducible apply Moves.refl
    | ((with_reducible apply Moves.after portFault_moves ?e ?_); case e => rfl)
    | with_reducible apply Ends.next ?_
    | with_reducible apply Ends.ite ?_ ?_
    | with_reducible apply Moves.ite ?_ ?_

/-! Sys2Proof/Machine/ReplCore.lean. -/

theorem grpUnpin_moves {x0 x1 x2} : Moves 2199107142724 x2 (grpUnpin x0 x1 x2) := by
  unfold grpUnpin
  repeat' first
    | (extract_lets +onlyGivenNames y; first | clear_value y | subst y)
    | with_reducible assumption
    | with_reducible apply Moves.refl
    | ((with_reducible apply Moves.after deleteSnap_moves ?e ?_); case e => rfl)
    | ((with_reducible apply Moves.after (Moves.of_pair ?p deleteSnap_moves) ?e ?_); (case p => assumption); case e => rfl)
    | with_reducible apply Moves.foldl (fun _ _ => ?_) ?_

theorem grpPin_moves {x0 x1 x2} : Opts 2199107142724 x2 (grpPin x0 x1 x2) := by
  unfold grpPin
  repeat' first
    | (extract_lets +onlyGivenNames y; first | (refine of_fun y ?_; subst y) | clear_value y | subst y)
    | with_reducible assumption
    | with_reducible apply Moves.refl
    | ((with_reducible apply Moves.after takePairs_moves ?e ?_); case e => rfl)
    | ((with_reducible apply Moves.after grpUnpin_moves ?e ?_); case e => rfl)
    | with_reducible apply Opts.some ?_
    | exact Opts.none
    | with_reducible apply Opts.ite ?_ ?_

theorem addRec_moves {x0 x1 x2} : Moves 274877906944 x2 (addRec x0 x1 x2) := by
  unfold addRec
  repeat' first
    | (extract_lets +onlyGivenNames y; first | clear_value y | subst y)
    | with_reducible assumption
    | with_reducible apply Moves.refl
    | ((with_reducible apply Moves.after grpPut_moves ?e ?_); case e => rfl)

theorem absorb_moves {x0 x1 x2} : Moves 274877906944 x2 (absorb x0 x1 x2) := by
  induction' x1 with n ih generalizing x0 x2
  all_goals unfold absorb
  all_goals repeat' first
    | with_reducible assumption
    | with_reducible apply Moves.refl
    | ((with_reducible apply Moves.after addRec_moves ?e ?_); case e => rfl)
    | with_reducible apply Moves.ite ?_ ?_
    | with_reducible apply Moves.trans ?_ ih
    | split

theorem sealSeg_moves {x0 x1 x2} : Moves 8589936132 x2 (sealSeg x0 x1 x2).2 := by
  unfold sealSeg
  repeat' first
    | (extract_lets +onlyGivenNames y; first | clear_value y | subst y)
    | with_reducible assumption
    | with_reducible apply Moves.refl
    | ((with_reducible apply Moves.after askUses_moves ?e ?_); case e => rfl)
    | ((with_reducible apply Moves.after (Moves.of_opt2 ?p takeGrant_moves) ?e ?_); (case p => assumption); case e => rfl)
    | fail_if_no_progress (with_reducible apply Moves.pair_ite ?_ ?_)
    | with_reducible apply Moves.ite ?_ ?_
    | dsimp -zeta only
    | split

theorem writeSeg_moves {x0 x1 x2 x3 x4} : Moves 2474169597956 x4 (writeSeg x0 x1 x2 x3 x4) := by
  unfold writeSeg
  repeat' first
    | (extract_lets +onlyGivenNames y; first | (refine Moves.bind (x := y) ?_ fun _ => ?_; (on_goal 2 => clear_value y); subst y) | clear_value y | subst y)
    | with_reducible assumption
    | with_reducible apply Moves.refl
    | ((with_reducible apply Moves.after xptPost_moves ?e ?_); case e => rfl)
    | ((with_reducible apply Moves.after grpPut_moves ?e ?_); case e => rfl)

theorem postCtrl_moves {x0 x1 x2 x3 x4} : Moves 2199291691012 x4 (postCtrl x0 x1 x2 x3 x4) := by
  unfold postCtrl
  repeat' first
    | with_reducible assumption
    | with_reducible apply Moves.refl
    | ((with_reducible apply Moves.after xptPost_moves ?e ?_); case e => rfl)

theorem postCas_moves {x0 x1 x2 x3 x4 x5} : Moves 2199291691012 x5 (postCas x0 x1 x2 x3 x4 x5) := by
  unfold postCas
  repeat' first
    | with_reducible assumption
    | with_reducible apply Moves.refl
    | ((with_reducible apply Moves.after postCtrl_moves ?e ?_); case e => rfl)

theorem pollCtrl_moves {x0 x1} : Moves 2474169597956 x1 (pollCtrl x0 x1) := by
  unfold pollCtrl
  repeat' first
    | (extract_lets +onlyGivenNames y; first | clear_value y | subst y)
    | with_reducible assumption
    | with_reducible apply Moves.refl
    | ((with_reducible apply Moves.after grpPut_moves ?e ?_); case e => rfl)
    | ((with_reducible apply Moves.after postCtrl_moves ?e ?_); case e => rfl)
    | with_reducible apply Moves.ite ?_ ?_

theorem askLease_moves {x0 x1} : Moves 2474169597956 x1 (askLease x0 x1) := by
  unfold askLease
  repeat' first
    | (extract_lets +onlyGivenNames y; first | (refine Moves.bind (x := y) ?_ fun _ => ?_; (on_goal 2 => clear_value y); subst y) | clear_value y | subst y)
    | with_reducible assumption
    | with_reducible apply Moves.refl
    | ((with_reducible apply Moves.after grpPut_moves ?e ?_); case e => rfl)
    | ((with_reducible apply Moves.after postCas_moves ?e ?_); case e => rfl)
    | with_reducible apply Moves.ite ?_ ?_
    | split

theorem settle_moves {x0 x1} : Moves 274877907972 x1 (settle x0 x1) := by
  unfold settle
  repeat' first
    | (extract_lets +onlyGivenNames y; first | clear_value y | subst y)
    | with_reducible assumption
    | with_reducible apply Moves.refl
    | ((with_reducible apply Moves.after bump_moves ?e ?_); case e => rfl)
    | ((with_reducible apply Moves.after hallmark_moves ?e ?_); case e => rfl)
    | ((with_reducible apply Moves.after grpPut_moves ?e ?_); case e => rfl)
    | with_reducible apply Moves.ite ?_ ?_
    | with_reducible apply Moves.getD ?_ ?_
    | split

theorem askPin_moves {x0 x1} : Moves 2473985049668 x1 (askPin x0 x1) := by
  unfold askPin
  repeat' first
    | (extract_lets +onlyGivenNames y; first | clear_value y | subst y)
    | with_reducible assumption
    | with_reducible apply Moves.refl
    | ((with_reducible apply Moves.after grpPut_moves ?e ?_); case e => rfl)
    | ((with_reducible apply Moves.after (Moves.of_opt ?p grpPin_moves) ?e ?_); (case p => assumption); case e => rfl)
    | with_reducible apply Moves.ite ?_ ?_
    | split

theorem startDelta_moves {x0 x1} : Moves 274877906944 x1 (startDelta x0 x1) := by
  unfold startDelta
  repeat' first
    | (extract_lets +onlyGivenNames y; first | (refine Moves.bind (x := y) ?_ fun _ => ?_; (on_goal 2 => clear_value y); subst y) | clear_value y | subst y)
    | with_reducible assumption
    | with_reducible apply Moves.refl
    | ((with_reducible apply Moves.after grpPut_moves ?e ?_); case e => rfl)
    | ((with_reducible apply Moves.after absorb_moves ?e ?_); case e => rfl)
    | with_reducible apply Moves.ite ?_ ?_

theorem restartDelta_moves {x0 x1 x2} : Moves 2473985049668 x2 (restartDelta x0 x1 x2) := by
  unfold restartDelta
  repeat' first
    | (extract_lets +onlyGivenNames y; first | (refine Moves.bind (x := y) ?_ fun _ => ?_; (on_goal 2 => clear_value y); subst y) | clear_value y | subst y)
    | with_reducible assumption
    | with_reducible apply Moves.refl
    | ((with_reducible apply Moves.after bump_moves ?e ?_); case e => rfl)
    | ((with_reducible apply Moves.after grpPut_moves ?e ?_); case e => rfl)
    | ((with_reducible apply Moves.after askPin_moves ?e ?_); case e => rfl)

theorem rewriteSeg_moves {x0 x1 x2 x3} : Moves 2482759534084 x3 (rewriteSeg x0 x1 x2 x3) := by
  unfold rewriteSeg
  repeat' first
    | (extract_lets +onlyGivenNames y; first | clear_value y | subst y)
    | with_reducible assumption
    | with_reducible apply Moves.refl
    | ((with_reducible apply Moves.after grpPut_moves ?e ?_); case e => rfl)
    | ((with_reducible apply Moves.after rplHalt_moves ?e ?_); case e => rfl)
    | ((with_reducible apply Moves.after (Moves.of_pair ?p sealSeg_moves) ?e ?_); (case p => assumption); case e => rfl)
    | ((with_reducible apply Moves.after writeSeg_moves ?e ?_); case e => rfl)
    | with_reducible apply Moves.ite ?_ ?_
    | split

theorem shipSeg_moves {x0 x1 x2} : Moves 2482759534084 x2 (shipSeg x0 x1 x2) := by
  unfold shipSeg
  repeat' first
    | (extract_lets +onlyGivenNames y; first | clear_value y | subst y)
    | with_reducible assumption
    | with_reducible apply Moves.refl
    | ((with_reducible apply Moves.after grpPut_moves ?e ?_); case e => rfl)
    | ((with_reducible apply Moves.after (Moves.of_pair ?p sealSeg_moves) ?e ?_); (case p => assumption); case e => rfl)
    | ((with_reducible apply Moves.after writeSeg_moves ?e ?_); case e => rfl)
    | split

theorem deltaDone_moves {x0 x1} : Moves 2473985049668 x1 (deltaDone x0 x1) := by
  unfold deltaDone
  repeat' first
    | (extract_lets +onlyGivenNames y; first | (refine Moves.bind (x := y) ?_ fun _ => ?_; (on_goal 2 => clear_value y); subst y) | clear_value y | subst y)
    | with_reducible assumption
    | with_reducible apply Moves.refl
    | ((with_reducible apply Moves.after hallmark_moves ?e ?_); case e => rfl)
    | ((with_reducible apply Moves.after grpPut_moves ?e ?_); case e => rfl)
    | ((with_reducible apply Moves.after grpUnpin_moves ?e ?_); case e => rfl)
    | ((with_reducible apply Moves.after askPin_moves ?e ?_); case e => rfl)
    | with_reducible apply Moves.ite ?_ ?_

theorem resumeFresh_moves {x0 x1 x2 x3} : Moves 6872031560772 x3 (resumeFresh x0 x1 x2 x3) := by
  unfold resumeFresh
  repeat' first
    | (extract_lets +onlyGivenNames y; first | (refine Moves.bind (x := y) ?_ fun _ => ?_; (on_goal 2 => clear_value y); subst y) | clear_value y | subst y)
    | with_reducible assumption
    | with_reducible apply Moves.refl
    | ((with_reducible apply Moves.after grpPut_moves ?e ?_); case e => rfl)
    | ((with_reducible apply Moves.after rplFull_moves ?e ?_); case e => rfl)
    | ((with_reducible apply Moves.after grpUnpin_moves ?e ?_); case e => rfl)
    | ((with_reducible apply Moves.after askPin_moves ?e ?_); case e => rfl)
    | ((with_reducible apply Moves.after restartDelta_moves ?e ?_); case e => rfl)
    | with_reducible apply Moves.ite ?_ ?_

theorem resumeOn_moves {x0 x1 x2 x3} : Moves 2482759534084 x3 (resumeOn x0 x1 x2 x3) := by
  unfold resumeOn
  repeat' first
    | (extract_lets +onlyGivenNames y; first | (refine Moves.bind (x := y) ?_ fun _ => ?_; (on_goal 2 => clear_value y); subst y) | clear_value y | subst y)
    | with_reducible assumption
    | with_reducible apply Moves.refl
    | ((with_reducible apply Moves.after grpPut_moves ?e ?_); case e => rfl)
    | ((with_reducible apply Moves.after shipSeg_moves ?e ?_); case e => rfl)
    | with_reducible apply Moves.ite ?_ ?_
    | split

theorem resumeWith_moves {x0 x1 x2 x3 x4 x5} : Moves 6880889931332 x5 (resumeWith x0 x1 x2 x3 x4 x5) := by
  unfold resumeWith
  repeat' first
    | (extract_lets +onlyGivenNames y; first | clear_value y | subst y)
    | with_reducible assumption
    | with_reducible apply Moves.refl
    | ((with_reducible apply Moves.after grpPut_moves ?e ?_); case e => rfl)
    | ((with_reducible apply Moves.after restartDelta_moves ?e ?_); case e => rfl)
    | ((with_reducible apply Moves.after deltaDone_moves ?e ?_); case e => rfl)
    | ((with_reducible apply Moves.after resumeFresh_moves ?e ?_); case e => rfl)
    | ((with_reducible apply Moves.after resumeOn_moves ?e ?_); case e => rfl)
    | with_reducible apply Moves.ite ?_ ?_

theorem onStatus_moves {x0 x1 x2 x3 x4} : Moves 2482843420228 x4 (onStatus x0 x1 x2 x3 x4) := by
  unfold onStatus
  repeat' first
    | (extract_lets +onlyGivenNames y; first | clear_value y | subst y)
    | with_reducible assumption
    | with_reducible apply Moves.refl
    | ((with_reducible apply Moves.after grpPut_moves ?e ?_); case e => rfl)
    | ((with_reducible apply Moves.after rplHalt_moves ?e ?_); case e => rfl)
    | ((with_reducible apply Moves.after restartDelta_moves ?e ?_); case e => rfl)
    | ((with_reducible apply Moves.after rewriteSeg_moves ?e ?_); case e => rfl)
    | with_reducible apply Moves.ite ?_ ?_
    | split

theorem onBlock_moves {x0 x1 x2} : Moves 6880889931332 x2 (onBlock x0 x1 x2) := by
  unfold onBlock
  repeat' first
    | (extract_lets +onlyGivenNames y; first | (refine Moves.bind (x := y) ?_ fun _ => ?_; (on_goal 2 => clear_value y); subst y) | clear_value y | subst y)
    | with_reducible assumption
    | with_reducible apply Moves.refl
    | ((with_reducible apply Moves.after grpPut_moves ?e ?_); case e => rfl)
    | ((with_reducible apply Moves.after deltaDone_moves ?e ?_); case e => rfl)
    | ((with_reducible apply Moves.after resumeWith_moves ?e ?_); case e => rfl)
    | ((with_reducible apply Moves.after onStatus_moves ?e ?_); case e => rfl)
    | with_reducible apply Moves.ite ?_ ?_
    | split

theorem ctrlPut_moves {x0 x1 x2 x3} : Moves 32 x3 (ctrlPut x0 x1 x2 x3) := by
  unfold ctrlPut
  repeat' first
    | with_reducible assumption
    | with_reducible apply Moves.refl
    | ((with_reducible apply Moves.after memWrite_moves ?e ?_); case e => rfl)

theorem refuseSeg_moves {x0 x1 x2 x3} : Moves 274877908004 x3 (refuseSeg x0 x1 x2 x3) := by
  unfold refuseSeg
  repeat' first
    | (extract_lets +onlyGivenNames y; first | (refine Moves.bind (x := y) ?_ fun _ => ?_; (on_goal 2 => clear_value y); subst y) | clear_value y | subst y)
    | with_reducible assumption
    | with_reducible apply Moves.refl
    | ((with_reducible apply Moves.after bump_moves ?e ?_); case e => rfl)
    | ((with_reducible apply Moves.after hallmark_moves ?e ?_); case e => rfl)
    | ((with_reducible apply Moves.after grpPut_moves ?e ?_); case e => rfl)
    | ((with_reducible apply Moves.after ctrlPut_moves ?e ?_); case e => rfl)

theorem takeSeg_moves {x0 x1 x2} : Moves 274877908004 x2 (takeSeg x0 x1 x2) := by
  unfold takeSeg
  repeat' first
    | (extract_lets +onlyGivenNames y; first | (refine Moves.bind (x := y) ?_ fun _ => ?_; (on_goal 2 => clear_value y); subst y) | clear_value y | subst y)
    | with_reducible assumption
    | with_reducible apply Moves.refl
    | ((with_reducible apply Moves.after bump_moves ?e ?_); case e => rfl)
    | ((with_reducible apply Moves.after hallmark_moves ?e ?_); case e => rfl)
    | ((with_reducible apply Moves.after grpPut_moves ?e ?_); case e => rfl)
    | ((with_reducible apply Moves.after gwr_moves ?e ?_); case e => rfl)
    | ((with_reducible apply Moves.after refuseSeg_moves ?e ?_); case e => rfl)
    | with_reducible apply Moves.ite ?_ ?_
    | split

theorem targetWrite_moves {x0 x1 x2 x3 x4 x5} : Opts2 2200164106340 x5 (targetWrite x0 x1 x2 x3 x4 x5) := by
  unfold targetWrite
  repeat' first
    | (extract_lets +onlyGivenNames y; first | (refine Opts2.bind (x := y) ?_ fun _ => ?_; (on_goal 2 => clear_value y); subst y) | (refine Moves.bind (x := y) ?_ fun _ => ?_; (on_goal 2 => clear_value y); subst y) | clear_value y | subst y)
    | with_reducible assumption
    | with_reducible apply Moves.refl
    | ((with_reducible apply Moves.after memWrite_moves ?e ?_); case e => rfl)
    | ((with_reducible apply Moves.after slotPut_moves ?e ?_); case e => rfl)
    | ((with_reducible apply Moves.after (Moves.of_opt2 ?p wcAlloc_moves) ?e ?_); (case p => assumption); case e => rfl)
    | ((with_reducible apply Moves.after sendGrain_moves ?e ?_); case e => rfl)
    | fail_if_no_progress ((with_reducible apply Moves.set_wc ?e ?_); case e => rfl)
    | with_reducible apply Opts2.some ?_
    | exact Opts2.none
    | with_reducible apply Opts2.ite ?_ ?_
    | with_reducible apply Moves.ite ?_ ?_
    | split

theorem applyRecs_moves {x0 x1 x2} : Moves 2475058792036 x2 (applyRecs x0 x1 x2) := by
  induction' x1 with n ih generalizing x0 x2
  all_goals unfold applyRecs
  all_goals repeat' first
    | (extract_lets +onlyGivenNames y; first | clear_value y | subst y)
    | with_reducible assumption
    | with_reducible apply Moves.refl
    | ((with_reducible apply Moves.after grpPut_moves ?e ?_); case e => rfl)
    | ((with_reducible apply Moves.after slagAdd_moves ?e ?_); case e => rfl)
    | ((with_reducible apply Moves.after toLedger_moves ?e ?_); case e => rfl)
    | ((with_reducible apply Moves.after (Moves.of_opt2 ?p targetWrite_moves) ?e ?_); (case p => assumption); case e => rfl)
    | with_reducible apply Moves.ite ?_ ?_
    | with_reducible apply Moves.trans ?_ ih
    | split

theorem segDone_moves {x0 x1 x2} : Moves 274877906976 x2 (segDone x0 x1 x2) := by
  unfold segDone
  repeat' first
    | (extract_lets +onlyGivenNames y; first | (refine Moves.bind (x := y) ?_ fun _ => ?_; (on_goal 2 => clear_value y); subst y) | clear_value y | subst y)
    | with_reducible assumption
    | with_reducible apply Moves.refl
    | ((with_reducible apply Moves.after grpPut_moves ?e ?_); case e => rfl)
    | ((with_reducible apply Moves.after ctrlPut_moves ?e ?_); case e => rfl)

theorem targetSnap_moves {x0 x1} : Moves 2473985049700 x1 (targetSnap x0 x1) := by
  unfold targetSnap
  repeat' first
    | (extract_lets +onlyGivenNames y; first | clear_value y | subst y)
    | with_reducible assumption
    | with_reducible apply Moves.refl
    | ((with_reducible apply Moves.after grpPut_moves ?e ?_); case e => rfl)
    | ((with_reducible apply Moves.after (Moves.of_opt ?p grpPin_moves) ?e ?_); (case p => assumption); case e => rfl)
    | ((with_reducible apply Moves.after ctrlPut_moves ?e ?_); case e => rfl)
    | with_reducible apply Moves.ite ?_ ?_
    | split

/-! Sys2Proof/Machine/Replication.lean. -/

theorem grpCmd_moves {m : Nat} {x0 x1 x2 x3} (e : 4465725802020 &&& m = 4465725802020) (kx3 : ∀ a0 a1, Moves m a1 (x3 a0 a1)) : Moves m x2 (grpCmd x0 x1 x2 x3) := by
  unfold grpCmd
  repeat' first
    | (extract_lets +onlyGivenNames y; first | (refine Moves.bind (x := y) ?_ fun _ => ?_; (on_goal 2 => clear_value y); subst y) | clear_value y | subst y)
    | with_reducible assumption
    | with_reducible apply Moves.refl
    | with_reducible apply Moves.trans ?_ (kx3 _ _)
    | ((with_reducible apply Moves.after commandWrite_moves ?e ?_); case e => exact sub_trans rfl e)
    | with_reducible apply Moves.ite ?_ ?_

theorem execGrpStart_moves {x0 x1} : Ends 6939979286116 x1 (execGrpStart x0 x1) := by
  unfold execGrpStart
  repeat' first
    | (extract_lets +onlyGivenNames y; first | clear_value y | subst y)
    | with_reducible assumption
    | with_reducible apply Moves.refl
    | ((with_reducible apply Moves.after conflict_moves ?e ?_); case e => rfl)
    | ((with_reducible apply Moves.after grpPut_moves ?e ?_); case e => rfl)
    | ((with_reducible apply Moves.after askLease_moves ?e ?_); case e => rfl)
    | ((with_reducible apply Moves.after askPin_moves ?e ?_); case e => rfl)
    | ((with_reducible apply Moves.trans ?_ (grpCmd_moves ?e (fun _ _ => ?_))); case e => rfl)
    | with_reducible apply Ends.next ?_
    | with_reducible apply Ends.ite ?_ ?_
    | with_reducible apply Moves.ite ?_ ?_

theorem execGrpShipNow_moves {x0 x1} : Ends 6939710850660 x1 (execGrpShipNow x0 x1) := by
  unfold execGrpShipNow
  repeat' first
    | (extract_lets +onlyGivenNames y; first | clear_value y | subst y)
    | with_reducible assumption
    | with_reducible apply Moves.refl
    | ((with_reducible apply Moves.after grpPut_moves ?e ?_); case e => rfl)
    | ((with_reducible apply Moves.after askPin_moves ?e ?_); case e => rfl)
    | ((with_reducible apply Moves.trans ?_ (grpCmd_moves ?e (fun _ _ => ?_))); case e => rfl)
    | with_reducible apply Ends.next ?_
    | with_reducible apply Ends.ite ?_ ?_
    | with_reducible apply Moves.ite ?_ ?_

theorem execGrpResume_moves {x0 x1} : Ends 6939895399972 x1 (execGrpResume x0 x1) := by
  unfold execGrpResume
  repeat' first
    | (extract_lets +onlyGivenNames y; first | clear_value y | subst y)
    | with_reducible assumption
    | with_reducible apply Moves.refl
    | ((with_reducible apply Moves.after conflict_moves ?e ?_); case e => rfl)
    | ((with_reducible apply Moves.after grpPut_moves ?e ?_); case e => rfl)
    | ((with_reducible apply Moves.after pollCtrl_moves ?e ?_); case e => rfl)
    | ((with_reducible apply Moves.after askLease_moves ?e ?_); case e => rfl)
    | ((with_reducible apply Moves.trans ?_ (grpCmd_moves ?e (fun _ _ => ?_))); case e => rfl)
    | with_reducible apply Ends.next ?_
    | with_reducible apply Ends.ite ?_ ?_
    | with_reducible apply Moves.ite ?_ ?_

theorem execGrpStop_moves {x0 x1} : Ends 4740603708964 x1 (execGrpStop x0 x1) := by
  unfold execGrpStop
  repeat' first
    | (extract_lets +onlyGivenNames y; first | clear_value y | subst y)
    | with_reducible assumption
    | with_reducible apply Moves.refl
    | ((with_reducible apply Moves.after grpPut_moves ?e ?_); case e => rfl)
    | ((with_reducible apply Moves.trans ?_ (grpCmd_moves ?e (fun _ _ => ?_))); case e => rfl)
    | with_reducible apply Ends.next ?_

theorem execGrpFull_moves {x0 x1} : Ends 4740603708964 x1 (execGrpFull x0 x1) := by
  unfold execGrpFull
  repeat' first
    | (extract_lets +onlyGivenNames y; first | clear_value y | subst y)
    | with_reducible assumption
    | with_reducible apply Moves.refl
    | ((with_reducible apply Moves.after grpPut_moves ?e ?_); case e => rfl)
    | ((with_reducible apply Moves.trans ?_ (grpCmd_moves ?e (fun _ _ => ?_))); case e => rfl)
    | with_reducible apply Ends.next ?_

theorem nsCmd_moves {m : Nat} {x0 x1 x2 x3} (e : 4466262672932 &&& m = 4466262672932) (kx3 : ∀ a0 a1 a2 a3, Moves m a3 (x3 a0 a1 a2 a3)) : Moves m x2 (nsCmd x0 x1 x2 x3) := by
  unfold nsCmd
  repeat' first
    | (extract_lets +onlyGivenNames y; first | (refine Moves.bind (x := y) ?_ fun _ => ?_; (on_goal 2 => clear_value y); subst y) | clear_value y | subst y)
    | with_reducible assumption
    | with_reducible apply Moves.refl
    | with_reducible apply Moves.trans ?_ (kx3 _ _ _ _)
    | ((with_reducible apply Moves.after conflict_moves ?e ?_); case e => exact sub_trans rfl e)
    | ((with_reducible apply Moves.after commandWrite_moves ?e ?_); case e => exact sub_trans rfl e)
    | ((with_reducible apply Moves.after updateTargets_moves ?e ?_); case e => exact sub_trans rfl e)
    | with_reducible apply Moves.ite ?_ ?_

theorem execGrpNsAdd_moves {x0 x1} : Ends 4741140579876 x1 (execGrpNsAdd x0 x1) := by
  unfold execGrpNsAdd
  repeat' first
    | (extract_lets +onlyGivenNames y; first | clear_value y | subst y)
    | with_reducible assumption
    | with_reducible apply Moves.refl
    | ((with_reducible apply Moves.after conflict_moves ?e ?_); case e => rfl)
    | ((with_reducible apply Moves.after grpPut_moves ?e ?_); case e => rfl)
    | ((with_reducible apply Moves.trans ?_ (nsCmd_moves ?e (fun _ _ _ _ => ?_))); case e => rfl)
    | with_reducible apply Ends.next ?_
    | with_reducible apply Ends.ite ?_ ?_
    | with_reducible apply Moves.ite ?_ ?_

theorem execGrpNsRemove_moves {x0 x1} : Ends 4741140579876 x1 (execGrpNsRemove x0 x1) := by
  unfold execGrpNsRemove
  repeat' first
    | (extract_lets +onlyGivenNames y; first | clear_value y | subst y)
    | with_reducible assumption
    | with_reducible apply Moves.refl
    | ((with_reducible apply Moves.after grpPut_moves ?e ?_); case e => rfl)
    | ((with_reducible apply Moves.trans ?_ (nsCmd_moves ?e (fun _ _ _ _ => ?_))); case e => rfl)
    | with_reducible apply Ends.next ?_

theorem keyWritten_moves {x0 x1} : Moves 2474169597956 x1 (keyWritten x0 x1) := by
  unfold keyWritten
  repeat' first
    | (extract_lets +onlyGivenNames y; first | (refine Moves.bind (x := y) ?_ fun _ => ?_; (on_goal 2 => clear_value y); subst y) | clear_value y | subst y)
    | with_reducible assumption
    | with_reducible apply Moves.refl
    | ((with_reducible apply Moves.after grpPut_moves ?e ?_); case e => rfl)
    | ((with_reducible apply Moves.after pollCtrl_moves ?e ?_); case e => rfl)
    | ((with_reducible apply Moves.after askLease_moves ?e ?_); case e => rfl)
    | with_reducible apply Moves.ite ?_ ?_

theorem execDeltaStart_moves {x0 x1} : Ends 2473985049668 x1 (execDeltaStart x0 x1) := by
  unfold execDeltaStart
  repeat' first
    | with_reducible assumption
    | with_reducible apply Moves.refl
    | ((with_reducible apply Moves.after settle_moves ?e ?_); case e => rfl)
    | ((with_reducible apply Moves.after askPin_moves ?e ?_); case e => rfl)
    | ((with_reducible apply Moves.after startDelta_moves ?e ?_); case e => rfl)
    | with_reducible apply Ends.next ?_
    | with_reducible apply Ends.ite ?_ ?_
    | with_reducible apply Moves.ite ?_ ?_

theorem execShipTimer_moves {x0 x1} : Ends 2473985049668 x1 (execShipTimer x0 x1) := by
  unfold execShipTimer
  repeat' first
    | (extract_lets +onlyGivenNames y; first | clear_value y | subst y)
    | with_reducible assumption
    | with_reducible apply Moves.refl
    | ((with_reducible apply Moves.after grpPut_moves ?e ?_); case e => rfl)
    | ((with_reducible apply Moves.after askPin_moves ?e ?_); case e => rfl)
    | with_reducible apply Ends.next ?_
    | with_reducible apply Ends.ite ?_ ?_
    | with_reducible apply Moves.ite ?_ ?_

theorem resealOpen_moves {x0 x1 x2 x3} : Moves 1028 x3 (resealOpen x0 x1 x2 x3).2 := by
  unfold resealOpen
  repeat' first
    | (extract_lets +onlyGivenNames y; first | (refine Moves.pair_bind (x := y) ?_ fun _ => ?_; (on_goal 2 => clear_value y); subst y) | (refine Moves.bind (x := y) ?_ fun _ => ?_; (on_goal 2 => clear_value y); subst y) | (refine of_fun y ?_; subst y) | clear_value y | subst y)
    | with_reducible assumption
    | with_reducible apply Moves.refl
    | ((with_reducible apply Moves.after bump_moves ?e ?_); case e => rfl)
    | ((with_reducible apply Moves.after hallmark_moves ?e ?_); case e => rfl)
    | fail_if_no_progress (with_reducible apply Moves.pair_ite ?_ ?_)
    | with_reducible apply Moves.ite ?_ ?_
    | dsimp -zeta only
    | split

theorem execReseal_moves {x0 x1 x2 x3} : Ends 274877907972 x3 (execReseal x0 x1 x2 x3) := by
  unfold execReseal
  repeat' first
    | (extract_lets +onlyGivenNames y; first | (refine Moves.bind (x := y) ?_ fun _ => ?_; (on_goal 2 => clear_value y); subst y) | (refine Moves.bind (x := y.2) ?_ fun _ => ?_; (on_goal 2 => clear_value y); subst y) | clear_value y | subst y)
    | with_reducible assumption
    | with_reducible apply Moves.refl
    | ((with_reducible apply Moves.after addRec_moves ?e ?_); case e => rfl)
    | ((with_reducible apply Moves.after absorb_moves ?e ?_); case e => rfl)
    | ((with_reducible apply Moves.after resealOpen_moves ?e ?_); case e => rfl)
    | ((with_reducible apply Moves.after (Moves.of_pair ?p resealOpen_moves) ?e ?_); (case p => assumption); case e => rfl)
    | with_reducible apply Ends.next ?_
    | with_reducible apply Ends.ite ?_ ?_
    | with_reducible apply Moves.ite ?_ ?_
    | split

theorem execSegmentSealed_moves {x0 x1} : Ends 2482759534084 x1 (execSegmentSealed x0 x1) := by
  unfold execSegmentSealed
  repeat' first
    | (extract_lets +onlyGivenNames y; first | (refine Ends.bind (x := y) ?_ fun _ => ?_; (on_goal 2 => clear_value y); subst y) | (refine Moves.bind (x := y) ?_ fun _ => ?_; (on_goal 2 => clear_value y); subst y) | clear_value y | subst y)
    | with_reducible assumption
    | with_reducible apply Moves.refl
    | ((with_reducible apply Moves.after grpPut_moves ?e ?_); case e => rfl)
    | ((with_reducible apply Moves.after absorb_moves ?e ?_); case e => rfl)
    | ((with_reducible apply Moves.after settle_moves ?e ?_); case e => rfl)
    | ((with_reducible apply Moves.after shipSeg_moves ?e ?_); case e => rfl)
    | with_reducible apply Ends.next ?_
    | with_reducible apply Ends.ite ?_ ?_
    | with_reducible apply Moves.ite ?_ ?_

theorem execSegmentWriteAck_moves {x0 x1} : Ends 2474169598980 x1 (execSegmentWriteAck x0 x1) := by
  unfold execSegmentWriteAck
  repeat' first
    | (extract_lets +onlyGivenNames y; first | (refine Ends.bind (x := y) ?_ fun _ => ?_; (on_goal 2 => clear_value y); subst y) | clear_value y | subst y)
    | with_reducible assumption
    | with_reducible apply Moves.refl
    | ((with_reducible apply Moves.after grpPut_moves ?e ?_); case e => rfl)
    | ((with_reducible apply Moves.after postCas_moves ?e ?_); case e => rfl)
    | ((with_reducible apply Moves.after settle_moves ?e ?_); case e => rfl)
    | with_reducible apply Ends.next ?_
    | with_reducible apply Ends.ite ?_ ?_
    | with_reducible apply Moves.ite ?_ ?_
    | split

theorem execPublishResult_moves {x0 x1} : Ends 274877907972 x1 (execPublishResult x0 x1) := by
  unfold execPublishResult
  repeat' first
    | (extract_lets +onlyGivenNames y; first | (refine Ends.bind (x := y) ?_ fun _ => ?_; (on_goal 2 => clear_value y); subst y) | clear_value y | subst y)
    | with_reducible assumption
    | with_reducible apply Moves.refl
    | ((with_reducible apply Moves.after hallmark_moves ?e ?_); case e => rfl)
    | ((with_reducible apply Moves.after grpPut_moves ?e ?_); case e => rfl)
    | ((with_reducible apply Moves.after settle_moves ?e ?_); case e => rfl)
    | with_reducible apply Ends.next ?_
    | with_reducible apply Ends.ite ?_ ?_
    | with_reducible apply Moves.ite ?_ ?_
    | split

theorem execControlPoll_moves {x0 x1} : Ends 6880889931332 x1 (execControlPoll x0 x1) := by
  unfold execControlPoll
  repeat' first
    | (extract_lets +onlyGivenNames y; first | (refine Ends.bind (x := y) ?_ fun _ => ?_; (on_goal 2 => clear_value y); subst y) | clear_value y | subst y)
    | with_reducible assumption
    | with_reducible apply Moves.refl
    | ((with_reducible apply Moves.after grpPut_moves ?e ?_); case e => rfl)
    | ((with_reducible apply Moves.after pollCtrl_moves ?e ?_); case e => rfl)
    | ((with_reducible apply Moves.after settle_moves ?e ?_); case e => rfl)
    | ((with_reducible apply Moves.after onBlock_moves ?e ?_); case e => rfl)
    | with_reducible apply Ends.next ?_
    | with_reducible apply Ends.ite ?_ ?_
    | with_reducible apply Moves.ite ?_ ?_
    | split

theorem execLeaseRenew_moves {x0 x1} : Ends 2474169598980 x1 (execLeaseRenew x0 x1) := by
  unfold execLeaseRenew
  repeat' first
    | (extract_lets +onlyGivenNames y; first | (refine Ends.bind (x := y) ?_ fun _ => ?_; (on_goal 2 => clear_value y); subst y) | (refine Moves.bind (x := y) ?_ fun _ => ?_; (on_goal 2 => clear_value y); subst y) | clear_value y | subst y)
    | with_reducible assumption
    | with_reducible apply Moves.refl
    | ((with_reducible apply Moves.after askLease_moves ?e ?_); case e => rfl)
    | ((with_reducible apply Moves.after settle_moves ?e ?_); case e => rfl)
    | with_reducible apply Ends.next ?_
    | with_reducible apply Ends.ite ?_ ?_
    | with_reducible apply Moves.ite ?_ ?_

theorem execSegmentApply_moves {x0 x1} : Ends 2475058792036 x1 (execSegmentApply x0 x1) := by
  unfold execSegmentApply
  repeat' first
    | (extract_lets +onlyGivenNames y; first | (refine Ends.bind (x := y) ?_ fun _ => ?_; (on_goal 2 => clear_value y); subst y) | (refine Moves.bind (x := y) ?_ fun _ => ?_; (on_goal 2 => clear_value y); subst y) | clear_value y | subst y)
    | with_reducible assumption
    | with_reducible apply Moves.refl
    | ((with_reducible apply Moves.after takeSeg_moves ?e ?_); case e => rfl)
    | ((with_reducible apply Moves.after applyRecs_moves ?e ?_); case e => rfl)
    | with_reducible apply Ends.next ?_
    | with_reducible apply Ends.ite ?_ ?_
    | with_reducible apply Moves.ite ?_ ?_
    | with_reducible apply Moves.foldl (fun _ _ => ?_) ?_
    | with_reducible apply Moves.foldl2 (fun _ _ => ?_) ?_
    | split

theorem execSegmentApplied_moves {x0 x1} : Ends 2473985049700 x1 (execSegmentApplied x0 x1) := by
  unfold execSegmentApplied
  repeat' first
    | (extract_lets +onlyGivenNames y; first | (refine Ends.bind (x := y) ?_ fun _ => ?_; (on_goal 2 => clear_value y); subst y) | (refine Moves.bind (x := y) ?_ fun _ => ?_; (on_goal 2 => clear_value y); subst y) | clear_value y | subst y)
    | with_reducible assumption
    | with_reducible apply Moves.refl
    | ((with_reducible apply Moves.after segDone_moves ?e ?_); case e => rfl)
    | ((with_reducible apply Moves.after targetSnap_moves ?e ?_); case e => rfl)
    | with_reducible apply Ends.next ?_
    | with_reducible apply Ends.ite ?_ ?_
    | with_reducible apply Moves.ite ?_ ?_
    | split

theorem execLeaseCheck_moves {x0 x1} : Ends 274877906976 x1 (execLeaseCheck x0 x1) := by
  unfold execLeaseCheck
  repeat' first
    | (extract_lets +onlyGivenNames y; first | clear_value y | subst y)
    | with_reducible assumption
    | with_reducible apply Moves.refl
    | ((with_reducible apply Moves.after grpPut_moves ?e ?_); case e => rfl)
    | ((with_reducible apply Moves.after ctrlPut_moves ?e ?_); case e => rfl)
    | with_reducible apply Ends.next ?_
    | with_reducible apply Ends.ite ?_ ?_
    | with_reducible apply Moves.ite ?_ ?_

/-! Sys2Proof/Machine/Takeover.lean. -/

theorem handoverCmd_moves {m : Nat} {x0 x1 x2 x3} (e : 6664749057572 &&& m = 6664749057572) (kx3 : ∀ a0 a1, Moves m a1 (x3 a0 a1)) : Moves m x2 (handoverCmd x0 x1 x2 x3) := by
  unfold handoverCmd
  repeat' first
    | with_reducible assumption
    | with_reducible apply Moves.refl
    | with_reducible apply Moves.trans ?_ (kx3 _ _)
    | ((with_reducible apply Moves.after conflict_moves ?e ?_); case e => exact sub_trans rfl e)
    | ((with_reducible apply Moves.trans ?_ (atRegister_moves ?e (fun _ => ?_))); case e => exact sub_trans rfl e)
    | ((with_reducible apply Moves.after commandWrite_moves ?e ?_); case e => exact sub_trans rfl e)
    | with_reducible apply Moves.ite ?_ ?_

theorem execHandoverOffer_moves {x0 x1} : Ends 6664816166436 x1 (execHandoverOffer x0 x1) := by
  unfold execHandoverOffer
  repeat' first
    | (extract_lets +onlyGivenNames y; first | clear_value y | subst y)
    | with_reducible assumption
    | with_reducible apply Moves.refl
    | ((with_reducible apply Moves.after wr_moves ?e ?_); case e => rfl)
    | ((with_reducible apply Moves.after sendW_moves ?e ?_); case e => rfl)
    | ((with_reducible apply Moves.trans ?_ (handoverCmd_moves ?e (fun _ _ => ?_))); case e => rfl)
    | fail_if_no_progress ((with_reducible apply Moves.set_wdl ?e ?_); case e => rfl)
    | with_reducible apply Ends.next ?_
    | with_reducible apply Ends.ite ?_ ?_
    | with_reducible apply Moves.ite ?_ ?_

theorem execHandoverAccept_moves {x0 x1} : Ends 6664816166436 x1 (execHandoverAccept x0 x1) := by
  unfold execHandoverAccept
  repeat' first
    | (extract_lets +onlyGivenNames y; first | clear_value y | subst y)
    | with_reducible assumption
    | with_reducible apply Moves.refl
    | ((with_reducible apply Moves.trans ?_ (handoverCmd_moves ?e (fun _ _ => ?_))); case e => rfl)
    | fail_if_no_progress ((with_reducible apply Moves.set_wdl ?e ?_); case e => rfl)
    | with_reducible apply Ends.next ?_

theorem execHandover_moves {x0 x1} : Ends 6665638250084 x1 (execHandover x0 x1) := by
  unfold execHandover
  repeat' first
    | (extract_lets +onlyGivenNames y; first | (refine Ends.bind (x := y) ?_ fun _ => ?_; (on_goal 2 => clear_value y); subst y) | clear_value y | subst y)
    | with_reducible assumption
    | with_reducible apply Moves.refl
    | ((with_reducible apply Moves.after sendW_moves ?e ?_); case e => rfl)
    | ((with_reducible apply Moves.after takeRx_moves ?e ?_); case e => rfl)
    | ((with_reducible apply Moves.after hqFatal_moves ?e ?_); case e => rfl)
    | fail_if_no_progress ((with_reducible apply Moves.set_wdl ?e ?_); case e => rfl)
    | fail_if_no_progress ((with_reducible apply Moves.set_ldg ?e ?_); case e => rfl)
    | with_reducible apply Ends.next ?_
    | with_reducible apply Ends.ite ?_ ?_
    | with_reducible apply Moves.ite ?_ ?_

theorem execHandoverAck_moves {x0 x1 x2} : Ends 6872836867076 x2 (execHandoverAck x0 x1 x2) := by
  unfold execHandoverAck
  repeat' first
    | (extract_lets +onlyGivenNames y; first | (refine Ends.bind (x := y) ?_ fun _ => ?_; (on_goal 2 => clear_value y); subst y) | clear_value y | subst y)
    | with_reducible assumption
    | with_reducible apply Moves.refl
    | ((with_reducible apply Moves.after wr_moves ?e ?_); case e => rfl)
    | ((with_reducible apply Moves.after rplHandover_moves ?e ?_); case e => rfl)
    | ((with_reducible apply Moves.after takeRx_moves ?e ?_); case e => rfl)
    | ((with_reducible apply Moves.after transfer_moves ?e ?_); case e => rfl)
    | fail_if_no_progress ((with_reducible apply Moves.set_wdl ?e ?_); case e => rfl)
    | fail_if_no_progress ((with_reducible apply Moves.set_ldg ?e ?_); case e => rfl)
    | with_reducible apply Ends.next ?_
    | with_reducible apply Ends.ite ?_ ?_
    | with_reducible apply Moves.ite ?_ ?_

theorem execHandoverNak_moves {x0 x1} : Ends 2199090364420 x1 (execHandoverNak x0 x1) := by
  unfold execHandoverNak
  repeat' first
    | (extract_lets +onlyGivenNames y; first | (refine Ends.bind (x := y) ?_ fun _ => ?_; (on_goal 2 => clear_value y); subst y) | clear_value y | subst y)
    | with_reducible assumption
    | with_reducible apply Moves.refl
    | ((with_reducible apply Moves.after wr_moves ?e ?_); case e => rfl)
    | ((with_reducible apply Moves.after takeRx_moves ?e ?_); case e => rfl)
    | fail_if_no_progress ((with_reducible apply Moves.set_wdl ?e ?_); case e => rfl)
    | with_reducible apply Ends.next ?_
    | with_reducible apply Ends.ite ?_ ?_
    | with_reducible apply Moves.ite ?_ ?_

theorem execHeartbeatTimer_moves {x0} : Ends 2199023255556 x0 (execHeartbeatTimer x0) := by
  unfold execHeartbeatTimer
  repeat' first
    | (extract_lets +onlyGivenNames y; first | clear_value y | subst y)
    | with_reducible assumption
    | with_reducible apply Moves.refl
    | ((with_reducible apply Moves.after wrF_moves ?e ?_); case e => rfl)
    | ((with_reducible apply Moves.after emit_moves ?e ?_); case e => rfl)
    | with_reducible apply Ends.next ?_
    | with_reducible apply Ends.ite ?_ ?_
    | with_reducible apply Moves.ite ?_ ?_

theorem execHeartbeat_moves {x0 x1} : Ends 6664832943652 x1 (execHeartbeat x0 x1) := by
  unfold execHeartbeat
  repeat' first
    | (extract_lets +onlyGivenNames y; first | (refine Ends.bind (x := y) ?_ fun _ => ?_; (on_goal 2 => clear_value y); subst y) | (refine Moves.bind (x := y) ?_ fun _ => ?_; (on_goal 2 => clear_value y); subst y) | clear_value y | subst y)
    | with_reducible assumption
    | with_reducible apply Moves.refl
    | ((with_reducible apply Moves.after wrF_moves ?e ?_); case e => rfl)
    | ((with_reducible apply Moves.after bump_moves ?e ?_); case e => rfl)
    | ((with_reducible apply Moves.after takeoverCause_moves ?e ?_); case e => rfl)
    | fail_if_no_progress ((with_reducible apply Moves.set_wdl ?e ?_); case e => rfl)
    | with_reducible apply Ends.next ?_
    | with_reducible apply Ends.ite ?_ ?_
    | with_reducible apply Moves.ite ?_ ?_

theorem execHbMissed_moves {x0} : Ends 6664832943652 x0 (execHbMissed x0) := by
  unfold execHbMissed
  repeat' first
    | with_reducible assumption
    | with_reducible apply Moves.refl
    | ((with_reducible apply Moves.after takeoverCause_moves ?e ?_); case e => rfl)
    | with_reducible apply Ends.next ?_
    | with_reducible apply Ends.ite ?_ ?_
    | with_reducible apply Moves.ite ?_ ?_

theorem execHbKick_moves {x0 x1} : Ends 6664816166436 x1 (execHbKick x0 x1) := by
  unfold execHbKick
  repeat' first
    | (extract_lets +onlyGivenNames y; first | (refine Moves.bind (x := y) ?_ fun _ => ?_; (on_goal 2 => clear_value y); subst y) | clear_value y | subst y)
    | with_reducible assumption
    | with_reducible apply Moves.refl
    | ((with_reducible apply Moves.trans ?_ (atRegister_moves ?e (fun _ => ?_))); case e => rfl)
    | ((with_reducible apply Moves.after commandWrite_moves ?e ?_); case e => rfl)
    | fail_if_no_progress ((with_reducible apply Moves.set_wdl ?e ?_); case e => rfl)
    | with_reducible apply Ends.next ?_
    | with_reducible apply Ends.ite ?_ ?_
    | with_reducible apply Moves.ite ?_ ?_

theorem execHbKickTimeout_moves {x0} : Ends 67108864 x0 (execHbKickTimeout x0) := by
  unfold execHbKickTimeout
  repeat' first
    | (extract_lets +onlyGivenNames y; first | clear_value y | subst y)
    | with_reducible assumption
    | with_reducible apply Moves.refl
    | fail_if_no_progress ((with_reducible apply Moves.set_wdl ?e ?_); case e => rfl)
    | with_reducible apply Ends.next ?_

theorem execStepDownMessage_moves {x0} : Ends 6664832943652 x0 (execStepDownMessage x0) := by
  unfold execStepDownMessage
  repeat' first
    | with_reducible assumption
    | with_reducible apply Moves.refl
    | ((with_reducible apply Moves.after takeRx_moves ?e ?_); case e => rfl)
    | ((with_reducible apply Moves.after takeoverCause_moves ?e ?_); case e => rfl)
    | with_reducible apply Ends.next ?_

theorem fenceEnd_moves {x0 x1} : Moves 67109892 x1 (fenceEnd x0 x1) := by
  unfold fenceEnd
  repeat' first
    | (extract_lets +onlyGivenNames y; first | (refine Moves.bind (x := y) ?_ fun _ => ?_; (on_goal 2 => clear_value y); subst y) | clear_value y | subst y)
    | with_reducible assumption
    | with_reducible apply Moves.refl
    | ((with_reducible apply Moves.after wrF_moves ?e ?_); case e => rfl)
    | ((with_reducible apply Moves.after hallmark_moves ?e ?_); case e => rfl)
    | fail_if_no_progress ((with_reducible apply Moves.set_wdl ?e ?_); case e => rfl)

theorem failWrites_moves {x0} : Moves 2200969414244 x0 (failWrites x0) := by
  unfold failWrites
  repeat' first
    | with_reducible assumption
    | with_reducible apply Moves.refl
    | ((with_reducible apply Moves.after hqFinish_moves ?e ?_); case e => rfl)
    | ((with_reducible apply Moves.after wcRelease_moves ?e ?_); case e => rfl)
    | with_reducible apply Moves.ite ?_ ?_
    | with_reducible apply Moves.foldl (fun _ _ => ?_) ?_

theorem fenced_moves {x0} : Moves 2209576126052 x0 (fenced x0) := by
  unfold fenced
  repeat' first
    | (extract_lets +onlyGivenNames y; first | (refine Moves.bind (x := y) ?_ fun _ => ?_; (on_goal 2 => clear_value y); subst y) | clear_value y | subst y)
    | with_reducible assumption
    | with_reducible apply Moves.refl
    | ((with_reducible apply Moves.after keygenEnd_moves ?e ?_); case e => rfl)
    | ((with_reducible apply Moves.after failWrites_moves ?e ?_); case e => rfl)
    | fail_if_no_progress ((with_reducible apply Moves.set_ldg ?e ?_); case e => rfl)
    | fail_if_no_progress ((with_reducible apply Moves.set_wdl ?e ?_); case e => rfl)
    | with_reducible apply Moves.ite ?_ ?_

theorem execFenceDelayExpiry_moves {x0} : Ends 2199090364420 x0 (execFenceDelayExpiry x0) := by
  unfold execFenceDelayExpiry
  repeat' first
    | with_reducible assumption
    | with_reducible apply Moves.refl
    | ((with_reducible apply Moves.after preemptArbiter_moves ?e ?_); case e => rfl)
    | with_reducible apply Ends.next ?_
    | with_reducible apply Ends.ite ?_ ?_
    | with_reducible apply Moves.ite ?_ ?_

theorem execArbiterPreemptDone_moves {x0 x1} : Ends 2759331939940 x1 (execArbiterPreemptDone x0 x1) := by
  unfold execArbiterPreemptDone
  repeat' first
    | (extract_lets +onlyGivenNames y; first | clear_value y | subst y)
    | with_reducible assumption
    | with_reducible apply Moves.refl
    | ((with_reducible apply Moves.after emit_moves ?e ?_); case e => rfl)
    | ((with_reducible apply Moves.after fenceEnd_moves ?e ?_); case e => rfl)
    | ((with_reducible apply Moves.after fenced_moves ?e ?_); case e => rfl)
    | fail_if_no_progress ((with_reducible apply Moves.set_wdl ?e ?_); case e => rfl)
    | fail_if_no_progress ((with_reducible apply Moves.set_resOwn ?e ?_); case e => rfl)
    | with_reducible apply Ends.next ?_
    | with_reducible apply Ends.ite ?_ ?_
    | with_reducible apply Moves.ite ?_ ?_
    | with_reducible apply Moves.foldl (fun _ _ => ?_) ?_

theorem adoptAll_moves {x0} : Moves 68719476736 x0 (adoptAll x0) := by
  unfold adoptAll
  repeat' first
    | (extract_lets +onlyGivenNames y; first | (refine Moves.bind (x := y) ?_ fun _ => ?_; (on_goal 2 => clear_value y); subst y) | clear_value y | subst y)
    | with_reducible assumption
    | with_reducible apply Moves.refl
    | ((with_reducible apply Moves.after adoptZone_moves ?e ?_); case e => rfl)
    | fail_if_no_progress ((with_reducible apply Moves.set_pln ?e ?_); case e => rfl)
    | with_reducible apply Moves.foldl (fun _ _ => ?_) ?_

theorem execFencePreemptsDone_moves {x0} : Ends 3652718691940 x0 (execFencePreemptsDone x0) := by
  unfold execFencePreemptsDone
  repeat' first
    | (extract_lets +onlyGivenNames y; first | (refine Ends.bind (x := y) ?_ fun _ => ?_; (on_goal 2 => clear_value y); subst y) | (refine Moves.bind (x := y) ?_ fun _ => ?_; (on_goal 2 => clear_value y); subst y) | clear_value y | subst y)
    | with_reducible assumption
    | with_reducible apply Moves.refl
    | ((with_reducible apply Moves.after wrF_moves ?e ?_); case e => rfl)
    | ((with_reducible apply Moves.after rplTakeover_moves ?e ?_); case e => rfl)
    | ((with_reducible apply Moves.after overBudget_moves ?e ?_); case e => rfl)
    | ((with_reducible apply Moves.after rebudget_moves ?e ?_); case e => rfl)
    | ((with_reducible apply Moves.after startAdoption_moves ?e ?_); case e => rfl)
    | ((with_reducible apply Moves.after reclaim_moves ?e ?_); case e => rfl)
    | ((with_reducible apply Moves.after ldgStat_moves ?e ?_); case e => rfl)
    | ((with_reducible apply Moves.after tryClose_moves ?e ?_); case e => rfl)
    | ((with_reducible apply Moves.after fenceEnd_moves ?e ?_); case e => rfl)
    | ((with_reducible apply Moves.after adoptAll_moves ?e ?_); case e => rfl)
    | fail_if_no_progress ((with_reducible apply Moves.set_resPeer ?e ?_); case e => rfl)
    | fail_if_no_progress ((with_reducible apply Moves.set_ldg ?e ?_); case e => rfl)
    | fail_if_no_progress ((with_reducible apply Moves.set_tin ?e ?_); case e => rfl)
    | with_reducible apply Ends.next ?_
    | with_reducible apply Ends.ite ?_ ?_
    | with_reducible apply Moves.ite ?_ ?_
    | with_reducible apply Moves.foldl (fun _ _ => ?_) ?_
    | with_reducible apply Moves.foldl2 (fun _ _ => ?_) ?_
    | split

theorem takeCmd_moves {m : Nat} {x0 x1 x2 x3} (e : 6664749057572 &&& m = 6664749057572) (kx3 : ∀ a0, Moves m a0 (x3 a0)) : Moves m x2 (takeCmd x0 x1 x2 x3) := by
  unfold takeCmd
  repeat' first
    | with_reducible assumption
    | with_reducible apply Moves.refl
    | with_reducible apply Moves.trans ?_ (kx3 _)
    | ((with_reducible apply Moves.after conflict_moves ?e ?_); case e => exact sub_trans rfl e)
    | ((with_reducible apply Moves.trans ?_ (atRegister_moves ?e (fun _ => ?_))); case e => exact sub_trans rfl e)
    | ((with_reducible apply Moves.after commandWrite_moves ?e ?_); case e => exact sub_trans rfl e)
    | with_reducible apply Moves.ite ?_ ?_

theorem execTake_moves {x0 x1} : Ends 6664832943652 x1 (execTake x0 x1) := by
  unfold execTake
  repeat' first
    | with_reducible assumption
    | with_reducible apply Moves.refl
    | ((with_reducible apply Moves.after startTakeover_moves ?e ?_); case e => rfl)
    | ((with_reducible apply Moves.trans ?_ (takeCmd_moves ?e (fun _ => ?_))); case e => rfl)
    | with_reducible apply Ends.next ?_
    | with_reducible apply Ends.ite ?_ ?_
    | with_reducible apply Moves.ite ?_ ?_

theorem execForce_moves {x0 x1} : Ends 6664832943652 x1 (execForce x0 x1) := by
  unfold execForce
  repeat' first
    | with_reducible assumption
    | with_reducible apply Moves.refl
    | ((with_reducible apply Moves.after startTakeover_moves ?e ?_); case e => rfl)
    | ((with_reducible apply Moves.trans ?_ (takeCmd_moves ?e (fun _ => ?_))); case e => rfl)
    | with_reducible apply Ends.next ?_
    | with_reducible apply Ends.ite ?_ ?_
    | with_reducible apply Moves.ite ?_ ?_

theorem stepDown_moves {x0} : Moves 2209576126052 x0 (stepDown x0) := by
  unfold stepDown
  repeat' first
    | with_reducible assumption
    | with_reducible apply Moves.refl
    | ((with_reducible apply Moves.after wrF_moves ?e ?_); case e => rfl)
    | ((with_reducible apply Moves.after sendW_moves ?e ?_); case e => rfl)
    | ((with_reducible apply Moves.after fenced_moves ?e ?_); case e => rfl)
    | with_reducible apply Moves.ite ?_ ?_

theorem execTakeCmdStepDown_moves {x0 x1} : Ends 6665638250084 x1 (execTakeCmdStepDown x0 x1) := by
  unfold execTakeCmdStepDown
  repeat' first
    | with_reducible assumption
    | with_reducible apply Moves.refl
    | ((with_reducible apply Moves.trans ?_ (takeCmd_moves ?e (fun _ => ?_))); case e => rfl)
    | ((with_reducible apply Moves.after stepDown_moves ?e ?_); case e => rfl)
    | with_reducible apply Ends.next ?_

theorem execReservationRegister_moves {x0 x1 x2 x3} : Ends 3917043729412 x3 (execReservationRegister x0 x1 x2 x3) := by
  unfold execReservationRegister
  repeat' first
    | (extract_lets +onlyGivenNames y; first | (refine Ends.bind (x := y) ?_ fun _ => ?_; (on_goal 2 => clear_value y); subst y) | (refine Moves.bind (x := y) ?_ fun _ => ?_; (on_goal 2 => clear_value y); subst y) | clear_value y | subst y)
    | with_reducible assumption
    | with_reducible apply Moves.refl
    | ((with_reducible apply Moves.after reclaim_moves ?e ?_); case e => rfl)
    | ((with_reducible apply Moves.after issueAll_moves ?e ?_); case e => rfl)
    | ((with_reducible apply Moves.after reserveModule_moves ?e ?_); case e => rfl)
    | with_reducible apply Ends.next ?_
    | with_reducible apply Ends.ite ?_ ?_
    | with_reducible apply Moves.ite ?_ ?_
    | with_reducible apply Moves.foldl (fun _ _ => ?_) ?_

end Sys2Proof.Machine
end

