-- ==== Sys2Proof/Laws/MovesTransport.lean ====
section
/-! SUPPORT. What each definition may change. Network transport and ports. -/

namespace Sys2Proof.Machine

/-! Sys2Proof/Machine/Transport.lean. -/

theorem qpError_moves {x0 x1 x2} : Moves 2475847321188 x2 (qpError x0 x1 x2) := by
  unfold qpError
  repeat' first
    | (extract_lets +onlyGivenNames y; first | (refine Moves.bind (x := y) ?_ fun _ => ?_; (on_goal 2 => clear_value y); subst y) | clear_value y | subst y)
    | with_reducible assumption
    | with_reducible apply Moves.refl
    | ((with_reducible apply Moves.after qpFail_moves ?e ?_); case e => rfl)
    | ((with_reducible apply Moves.after rplQpLost_moves ?e ?_); case e => rfl)
    | ((with_reducible apply Moves.after deleteQueue_moves ?e ?_); case e => rfl)
    | with_reducible apply Moves.ite ?_ ?_

theorem reply_moves {x0 x1 x2 x3} : Moves 2199023255556 x3 (reply x0 x1 x2 x3) := by
  unfold reply
  repeat' first
    | with_reducible assumption
    | with_reducible apply Moves.refl
    | ((with_reducible apply Moves.after putPkt_moves ?e ?_); case e => rfl)

theorem replyRnr_moves {x0 x1 x2} : Moves 2199023255556 x2 (replyRnr x0 x1 x2) := by
  unfold replyRnr
  repeat' first
    | with_reducible assumption
    | with_reducible apply Moves.refl
    | ((with_reducible apply Moves.after bump_moves ?e ?_); case e => rfl)
    | ((with_reducible apply Moves.after reply_moves ?e ?_); case e => rfl)

theorem violation_moves {x0 x1 x2 x3} : Moves 1028 x3 (violation x0 x1 x2 x3) := by
  unfold violation
  repeat' first
    | with_reducible assumption
    | with_reducible apply Moves.refl
    | ((with_reducible apply Moves.after bump_moves ?e ?_); case e => rfl)
    | ((with_reducible apply Moves.after hallmark_moves ?e ?_); case e => rfl)

theorem fatalViolation_moves {x0 x1 x2 x3 x4 x5} : Moves 2475847321188 x5 (fatalViolation x0 x1 x2 x3 x4 x5) := by
  unfold fatalViolation
  repeat' first
    | with_reducible assumption
    | with_reducible apply Moves.refl
    | ((with_reducible apply Moves.after qpError_moves ?e ?_); case e => rfl)
    | ((with_reducible apply Moves.after reply_moves ?e ?_); case e => rfl)
    | ((with_reducible apply Moves.after violation_moves ?e ?_); case e => rfl)

theorem respond_moves {x0 x1 x2} : Moves 2199291691012 x2 (respond x0 x1 x2) := by
  unfold respond
  repeat' first
    | (extract_lets +onlyGivenNames y; first | clear_value y | subst y)
    | with_reducible assumption
    | with_reducible apply Moves.refl
    | ((with_reducible apply Moves.after qpPut_moves ?e ?_); case e => rfl)
    | ((with_reducible apply Moves.after putPkt_moves ?e ?_); case e => rfl)
    | with_reducible apply Moves.ite ?_ ?_
    | with_reducible apply Moves.foldl (fun _ _ => ?_) ?_

theorem flushResp_moves {x0 x1} : Moves 2199291691012 x1 (flushResp x0 x1) := by
  unfold flushResp
  repeat' first
    | (extract_lets +onlyGivenNames y; first | clear_value y | subst y)
    | with_reducible assumption
    | with_reducible apply Moves.refl
    | ((with_reducible apply Moves.after qpPut_moves ?e ?_); case e => rfl)
    | ((with_reducible apply Moves.after putPkt_moves ?e ?_); case e => rfl)
    | with_reducible apply Moves.foldl (fun _ _ => ?_) ?_

theorem winPut_moves {x0 x1 x2} : Moves 268435456 x2 (winPut x0 x1 x2) := by
  unfold winPut
  repeat' first
    | (extract_lets +onlyGivenNames y; first | clear_value y | subst y)
    | with_reducible assumption
    | with_reducible apply Moves.refl
    | fail_if_no_progress ((with_reducible apply Moves.set_xpt ?e ?_); case e => rfl)

theorem revoke_moves {x0 x1} : Moves 268435456 x1 (revoke x0 x1) := by
  unfold revoke
  repeat' first
    | (extract_lets +onlyGivenNames y; first | clear_value y | subst y)
    | with_reducible assumption
    | with_reducible apply Moves.refl
    | ((with_reducible apply Moves.after winPut_moves ?e ?_); case e => rfl)

theorem accessRefused_moves {x0 x1 x2 x3 x4} : Moves 2475847321188 x4 (accessRefused x0 x1 x2 x3 x4) := by
  unfold accessRefused
  repeat' first
    | with_reducible assumption
    | with_reducible apply Moves.refl
    | ((with_reducible apply Moves.after bump_moves ?e ?_); case e => rfl)
    | ((with_reducible apply Moves.after fatalViolation_moves ?e ?_); case e => rfl)

theorem xonCheck_moves {x0 x1 x2} : Moves 2199157473284 x2 (xonCheck x0 x1 x2) := by
  unfold xonCheck
  repeat' first
    | (extract_lets +onlyGivenNames y; first | clear_value y | subst y)
    | with_reducible assumption
    | with_reducible apply Moves.refl
    | ((with_reducible apply Moves.after bump_moves ?e ?_); case e => rfl)
    | ((with_reducible apply Moves.after emit_moves ?e ?_); case e => rfl)
    | fail_if_no_progress ((with_reducible apply Moves.set_net ?e ?_); case e => rfl)
    | with_reducible apply Moves.ite ?_ ?_

theorem takeArrival_moves {x0 x1 x2} : Moves 2199157473284 x2 (takeArrival x0 x1 x2) := by
  unfold takeArrival
  repeat' first
    | (extract_lets +onlyGivenNames y; first | clear_value y | subst y)
    | with_reducible assumption
    | with_reducible apply Moves.refl
    | ((with_reducible apply Moves.after xonCheck_moves ?e ?_); case e => rfl)
    | fail_if_no_progress ((with_reducible apply Moves.set_net ?e ?_); case e => rfl)
    | split

theorem seqNak_moves {x0 x1 x2 x3} : Moves 2199291692036 x3 (seqNak x0 x1 x2 x3) := by
  unfold seqNak
  repeat' first
    | (extract_lets +onlyGivenNames y; first | (refine Moves.bind (x := y) ?_ fun _ => ?_; (on_goal 2 => clear_value y); subst y) | clear_value y | subst y)
    | with_reducible assumption
    | with_reducible apply Moves.refl
    | ((with_reducible apply Moves.after bump_moves ?e ?_); case e => rfl)
    | ((with_reducible apply Moves.after qpPut_moves ?e ?_); case e => rfl)
    | ((with_reducible apply Moves.after reply_moves ?e ?_); case e => rfl)
    | ((with_reducible apply Moves.after violation_moves ?e ?_); case e => rfl)
    | with_reducible apply Moves.ite ?_ ?_

theorem advance_moves {x0 x1 x2} : Moves 268435456 x2 (advance x0 x1 x2) := by
  unfold advance
  repeat' first
    | (extract_lets +onlyGivenNames y; first | clear_value y | subst y)
    | with_reducible assumption
    | with_reducible apply Moves.refl
    | ((with_reducible apply Moves.after qpPut_moves ?e ?_); case e => rfl)

theorem ackReq_moves {x0 x1 x2} : Moves 2199023255556 x2 (ackReq x0 x1 x2) := by
  unfold ackReq
  repeat' first
    | with_reducible assumption
    | with_reducible apply Moves.refl
    | ((with_reducible apply Moves.after reply_moves ?e ?_); case e => rfl)
    | with_reducible apply Moves.ite ?_ ?_

theorem request_moves {m : Nat} {x0 x1 x2 x3 x4} (e : 2199291692036 &&& m = 2199291692036) (kx3 : ∀ a0 a1, Moves m a1 (x3 a0 a1)) (kx4 : ∀ a0 a1, Moves m a1 (x4 a0 a1)) : Moves m x2 (request x0 x1 x2 x3 x4) := by
  unfold request
  repeat' first
    | (extract_lets +onlyGivenNames y; first | (refine Moves.bind (x := y) ?_ fun _ => ?_; (on_goal 2 => clear_value y); subst y) | clear_value y | subst y)
    | with_reducible assumption
    | with_reducible apply Moves.refl
    | with_reducible apply Moves.trans ?_ (kx3 _ _)
    | with_reducible apply Moves.trans ?_ (kx4 _ _)
    | ((with_reducible apply Moves.after bump_moves ?e ?_); case e => exact sub_trans rfl e)
    | ((with_reducible apply Moves.after touch_moves ?e ?_); case e => exact sub_trans rfl e)
    | ((with_reducible apply Moves.after violation_moves ?e ?_); case e => exact sub_trans rfl e)
    | ((with_reducible apply Moves.after seqNak_moves ?e ?_); case e => exact sub_trans rfl e)
    | with_reducible apply Moves.ite ?_ ?_
    | split

theorem dupAck_moves {x0 x1} : Moves 2199023255556 x1 (dupAck x0 x1) := by
  unfold dupAck
  repeat' first
    | with_reducible assumption
    | with_reducible apply Moves.refl
    | ((with_reducible apply Moves.after reply_moves ?e ?_); case e => rfl)

theorem deliver_moves {x0 x1 x2} : Moves 268435456 x2 (deliver x0 x1 x2) := by
  unfold deliver
  repeat' first
    | (extract_lets +onlyGivenNames y; first | clear_value y | subst y)
    | with_reducible assumption
    | with_reducible apply Moves.refl
    | fail_if_no_progress ((with_reducible apply Moves.set_xpt ?e ?_); case e => rfl)
    | with_reducible apply Moves.ite ?_ ?_

theorem sendFresh_moves {x0 x1 x2 x3} : Moves 2475847321188 x3 (sendFresh x0 x1 x2 x3) := by
  unfold sendFresh
  repeat' first
    | (extract_lets +onlyGivenNames y; first | (refine Moves.bind (x := y) ?_ fun _ => ?_; (on_goal 2 => clear_value y); subst y) | clear_value y | subst y)
    | with_reducible assumption
    | with_reducible apply Moves.refl
    | ((with_reducible apply Moves.after qpPut_moves ?e ?_); case e => rfl)
    | ((with_reducible apply Moves.after replyRnr_moves ?e ?_); case e => rfl)
    | ((with_reducible apply Moves.after violation_moves ?e ?_); case e => rfl)
    | ((with_reducible apply Moves.after fatalViolation_moves ?e ?_); case e => rfl)
    | ((with_reducible apply Moves.after revoke_moves ?e ?_); case e => rfl)
    | ((with_reducible apply Moves.after accessRefused_moves ?e ?_); case e => rfl)
    | ((with_reducible apply Moves.after advance_moves ?e ?_); case e => rfl)
    | ((with_reducible apply Moves.after ackReq_moves ?e ?_); case e => rfl)
    | ((with_reducible apply Moves.after deliver_moves ?e ?_); case e => rfl)
    | with_reducible apply Moves.ite ?_ ?_

theorem handleSend_moves {x0 x1 x2} : Moves 2475847321188 x2 (handleSend x0 x1 x2) := by
  unfold handleSend
  repeat' first
    | with_reducible assumption
    | with_reducible apply Moves.refl
    | ((with_reducible apply Moves.trans ?_ (request_moves ?e (fun _ _ => ?_) (fun _ _ => ?_))); case e => rfl)
    | ((with_reducible apply Moves.after dupAck_moves ?e ?_); case e => rfl)
    | ((with_reducible apply Moves.after sendFresh_moves ?e ?_); case e => rfl)

theorem lenEvidence_moves {x0 x1 x2 x3} : Moves 1028 x3 (lenEvidence x0 x1 x2 x3) := by
  unfold lenEvidence
  repeat' first
    | with_reducible assumption
    | with_reducible apply Moves.refl
    | ((with_reducible apply Moves.after bump_moves ?e ?_); case e => rfl)
    | ((with_reducible apply Moves.after violation_moves ?e ?_); case e => rfl)

theorem writeFresh_moves {x0 x1 x2 x3} : Moves 2475847321188 x3 (writeFresh x0 x1 x2 x3) := by
  unfold writeFresh
  repeat' first
    | (extract_lets +onlyGivenNames y; first | (refine Moves.bind (x := y) ?_ fun _ => ?_; (on_goal 2 => clear_value y); subst y) | clear_value y | subst y)
    | with_reducible assumption
    | with_reducible apply Moves.refl
    | ((with_reducible apply Moves.after memWrite_moves ?e ?_); case e => rfl)
    | ((with_reducible apply Moves.after qpPut_moves ?e ?_); case e => rfl)
    | ((with_reducible apply Moves.after qpError_moves ?e ?_); case e => rfl)
    | ((with_reducible apply Moves.after reply_moves ?e ?_); case e => rfl)
    | ((with_reducible apply Moves.after fatalViolation_moves ?e ?_); case e => rfl)
    | ((with_reducible apply Moves.after accessRefused_moves ?e ?_); case e => rfl)
    | ((with_reducible apply Moves.after advance_moves ?e ?_); case e => rfl)
    | ((with_reducible apply Moves.after ackReq_moves ?e ?_); case e => rfl)
    | ((with_reducible apply Moves.after lenEvidence_moves ?e ?_); case e => rfl)
    | with_reducible apply Moves.ite ?_ ?_

theorem handleWrite_moves {x0 x1 x2} : Moves 2475847321188 x2 (handleWrite x0 x1 x2) := by
  unfold handleWrite
  repeat' first
    | with_reducible assumption
    | with_reducible apply Moves.refl
    | ((with_reducible apply Moves.trans ?_ (request_moves ?e (fun _ _ => ?_) (fun _ _ => ?_))); case e => rfl)
    | ((with_reducible apply Moves.after dupAck_moves ?e ?_); case e => rfl)
    | ((with_reducible apply Moves.after writeFresh_moves ?e ?_); case e => rfl)

theorem readAnswer_moves {x0 x1 x2} : Moves 2199291691012 x2 (readAnswer x0 x1 x2) := by
  unfold readAnswer
  repeat' first
    | (extract_lets +onlyGivenNames y; first | (refine Moves.bind (x := y) ?_ fun _ => ?_; (on_goal 2 => clear_value y); subst y) | clear_value y | subst y)
    | with_reducible assumption
    | with_reducible apply Moves.refl
    | ((with_reducible apply Moves.after qpPut_moves ?e ?_); case e => rfl)
    | ((with_reducible apply Moves.after respond_moves ?e ?_); case e => rfl)
    | with_reducible apply Moves.ite ?_ ?_

theorem readFresh_moves {x0 x1 x2 x3} : Moves 2475847321188 x3 (readFresh x0 x1 x2 x3) := by
  unfold readFresh
  repeat' first
    | (extract_lets +onlyGivenNames y; first | clear_value y | subst y)
    | with_reducible assumption
    | with_reducible apply Moves.refl
    | ((with_reducible apply Moves.after fatalViolation_moves ?e ?_); case e => rfl)
    | ((with_reducible apply Moves.after accessRefused_moves ?e ?_); case e => rfl)
    | ((with_reducible apply Moves.after advance_moves ?e ?_); case e => rfl)
    | ((with_reducible apply Moves.after readAnswer_moves ?e ?_); case e => rfl)
    | with_reducible apply Moves.ite ?_ ?_

theorem handleRead_moves {x0 x1 x2} : Moves 2475847321188 x2 (handleRead x0 x1 x2) := by
  unfold handleRead
  repeat' first
    | with_reducible assumption
    | with_reducible apply Moves.refl
    | ((with_reducible apply Moves.after accessRefused_moves ?e ?_); case e => rfl)
    | ((with_reducible apply Moves.trans ?_ (request_moves ?e (fun _ _ => ?_) (fun _ _ => ?_))); case e => rfl)
    | ((with_reducible apply Moves.after readAnswer_moves ?e ?_); case e => rfl)
    | ((with_reducible apply Moves.after readFresh_moves ?e ?_); case e => rfl)
    | with_reducible apply Moves.ite ?_ ?_

theorem atomicAck_moves {x0 x1 x2 x3} : Moves 2199291691012 x3 (atomicAck x0 x1 x2 x3) := by
  unfold atomicAck
  repeat' first
    | with_reducible assumption
    | with_reducible apply Moves.refl
    | ((with_reducible apply Moves.after respond_moves ?e ?_); case e => rfl)

theorem atomicFresh_moves {x0 x1 x2 x3} : Moves 2475847321188 x3 (atomicFresh x0 x1 x2 x3) := by
  unfold atomicFresh
  repeat' first
    | (extract_lets +onlyGivenNames y; first | (refine Moves.bind (x := y) ?_ fun _ => ?_; (on_goal 2 => clear_value y); subst y) | clear_value y | subst y)
    | with_reducible assumption
    | with_reducible apply Moves.refl
    | ((with_reducible apply Moves.after memWrite_moves ?e ?_); case e => rfl)
    | ((with_reducible apply Moves.after qpPut_moves ?e ?_); case e => rfl)
    | ((with_reducible apply Moves.after fatalViolation_moves ?e ?_); case e => rfl)
    | ((with_reducible apply Moves.after accessRefused_moves ?e ?_); case e => rfl)
    | ((with_reducible apply Moves.after advance_moves ?e ?_); case e => rfl)
    | ((with_reducible apply Moves.after atomicAck_moves ?e ?_); case e => rfl)
    | with_reducible apply Moves.ite ?_ ?_

theorem handleAtomic_moves {x0 x1 x2} : Moves 2475847321188 x2 (handleAtomic x0 x1 x2) := by
  unfold handleAtomic
  repeat' first
    | with_reducible assumption
    | with_reducible apply Moves.refl
    | ((with_reducible apply Moves.trans ?_ (request_moves ?e (fun _ _ => ?_) (fun _ _ => ?_))); case e => rfl)
    | ((with_reducible apply Moves.after atomicAck_moves ?e ?_); case e => rfl)
    | ((with_reducible apply Moves.after atomicFresh_moves ?e ?_); case e => rfl)
    | split

theorem resendFrom_moves {x0 x1 x2} : Moves 2199291691012 x2 (resendFrom x0 x1 x2) := by
  unfold resendFrom
  repeat' first
    | (extract_lets +onlyGivenNames y; first | (refine Moves.bind (x := y) ?_ fun _ => ?_; (on_goal 2 => clear_value y); subst y) | clear_value y | subst y)
    | with_reducible assumption
    | with_reducible apply Moves.refl
    | ((with_reducible apply Moves.after bump_moves ?e ?_); case e => rfl)
    | ((with_reducible apply Moves.after qpPut_moves ?e ?_); case e => rfl)
    | ((with_reducible apply Moves.after pumpAll_moves ?e ?_); case e => rfl)

theorem ackMark_moves {x0 x1 x2} : Moves 275146342400 x2 (ackMark x0 x1 x2) := by
  unfold ackMark
  repeat' first
    | (extract_lets +onlyGivenNames y; first | (refine Moves.bind (x := y) ?_ fun _ => ?_; (on_goal 2 => clear_value y); subst y) | clear_value y | subst y)
    | with_reducible assumption
    | with_reducible apply Moves.refl
    | ((with_reducible apply Moves.after qpPut_moves ?e ?_); case e => rfl)
    | ((with_reducible apply Moves.after rplAck_moves ?e ?_); case e => rfl)
    | with_reducible apply Moves.ite ?_ ?_
    | with_reducible apply Moves.foldl (fun _ _ => ?_) ?_

theorem ackUpTo_moves {x0 x1 x2} : Moves 2474169597956 x2 (ackUpTo x0 x1 x2) := by
  unfold ackUpTo
  repeat' first
    | with_reducible assumption
    | with_reducible apply Moves.refl
    | ((with_reducible apply Moves.after pumpAll_moves ?e ?_); case e => rfl)
    | ((with_reducible apply Moves.after ackMark_moves ?e ?_); case e => rfl)

theorem seqNakked_moves {x0 x1 x2} : Moves 2475847321188 x2 (seqNakked x0 x1 x2) := by
  unfold seqNakked
  repeat' first
    | (extract_lets +onlyGivenNames y; first | (refine Moves.bind (x := y) ?_ fun _ => ?_; (on_goal 2 => clear_value y); subst y) | clear_value y | subst y)
    | with_reducible assumption
    | with_reducible apply Moves.refl
    | ((with_reducible apply Moves.after qpPut_moves ?e ?_); case e => rfl)
    | ((with_reducible apply Moves.after qpError_moves ?e ?_); case e => rfl)
    | ((with_reducible apply Moves.after resendFrom_moves ?e ?_); case e => rfl)
    | ((with_reducible apply Moves.after ackMark_moves ?e ?_); case e => rfl)
    | with_reducible apply Moves.ite ?_ ?_

theorem ghost_moves {x0 x1 x2} : Moves 1028 x2 (ghost x0 x1 x2) := by
  unfold ghost
  repeat' first
    | with_reducible assumption
    | with_reducible apply Moves.refl
    | ((with_reducible apply Moves.after bump_moves ?e ?_); case e => rfl)
    | ((with_reducible apply Moves.after violation_moves ?e ?_); case e => rfl)

theorem atomicDone_moves {x0 x1 x2 x3} : Moves 274877906976 x3 (atomicDone x0 x1 x2 x3) := by
  unfold atomicDone
  repeat' first
    | with_reducible assumption
    | with_reducible apply Moves.refl
    | ((with_reducible apply Moves.after memWrite_moves ?e ?_); case e => rfl)
    | ((with_reducible apply Moves.after rplAtomic_moves ?e ?_); case e => rfl)
    | with_reducible apply Moves.ite ?_ ?_

theorem handleAck_moves {x0 x1 x2} : Moves 2475847321188 x2 (handleAck x0 x1 x2) := by
  unfold handleAck
  repeat' first
    | (extract_lets +onlyGivenNames y; first | (refine Moves.bind (x := y) ?_ fun _ => ?_; (on_goal 2 => clear_value y); subst y) | clear_value y | subst y)
    | with_reducible assumption
    | with_reducible apply Moves.refl
    | ((with_reducible apply Moves.after bump_moves ?e ?_); case e => rfl)
    | ((with_reducible apply Moves.after qpPut_moves ?e ?_); case e => rfl)
    | ((with_reducible apply Moves.after touch_moves ?e ?_); case e => rfl)
    | ((with_reducible apply Moves.after pumpAll_moves ?e ?_); case e => rfl)
    | ((with_reducible apply Moves.after qpError_moves ?e ?_); case e => rfl)
    | ((with_reducible apply Moves.after violation_moves ?e ?_); case e => rfl)
    | ((with_reducible apply Moves.after ackUpTo_moves ?e ?_); case e => rfl)
    | ((with_reducible apply Moves.after seqNakked_moves ?e ?_); case e => rfl)
    | ((with_reducible apply Moves.after ghost_moves ?e ?_); case e => rfl)
    | ((with_reducible apply Moves.after atomicDone_moves ?e ?_); case e => rfl)
    | with_reducible apply Moves.ite ?_ ?_
    | split

theorem readData_moves {x0 x1 x2 x3 x4} : Moves 275414777888 x4 (readData x0 x1 x2 x3 x4) := by
  unfold readData
  repeat' first
    | with_reducible assumption
    | with_reducible apply Moves.refl
    | ((with_reducible apply Moves.after memWrite_moves ?e ?_); case e => rfl)
    | ((with_reducible apply Moves.after rplRead_moves ?e ?_); case e => rfl)
    | ((with_reducible apply Moves.after hqLand_moves ?e ?_); case e => rfl)
    | with_reducible apply Moves.ite ?_ ?_

theorem readShort_moves {x0 x1 x2} : Moves 2200969414244 x2 (readShort x0 x1 x2) := by
  unfold readShort
  repeat' first
    | with_reducible assumption
    | with_reducible apply Moves.refl
    | ((with_reducible apply Moves.after hqShort_moves ?e ?_); case e => rfl)
    | with_reducible apply Moves.ite ?_ ?_

theorem handleReadResp_moves {x0 x1 x2} : Moves 2475847321188 x2 (handleReadResp x0 x1 x2) := by
  unfold handleReadResp
  repeat' first
    | (extract_lets +onlyGivenNames y; first | (refine Moves.bind (x := y) ?_ fun _ => ?_; (on_goal 2 => clear_value y); subst y) | clear_value y | subst y)
    | with_reducible assumption
    | with_reducible apply Moves.refl
    | ((with_reducible apply Moves.after bump_moves ?e ?_); case e => rfl)
    | ((with_reducible apply Moves.after qpPut_moves ?e ?_); case e => rfl)
    | ((with_reducible apply Moves.after touch_moves ?e ?_); case e => rfl)
    | ((with_reducible apply Moves.after pumpAll_moves ?e ?_); case e => rfl)
    | ((with_reducible apply Moves.after lenEvidence_moves ?e ?_); case e => rfl)
    | ((with_reducible apply Moves.after ghost_moves ?e ?_); case e => rfl)
    | ((with_reducible apply Moves.after readData_moves ?e ?_); case e => rfl)
    | ((with_reducible apply Moves.after readShort_moves ?e ?_); case e => rfl)
    | with_reducible apply Moves.ite ?_ ?_
    | split

theorem handleRnr_moves {x0 x1 x2} : Moves 2475847321188 x2 (handleRnr x0 x1 x2) := by
  unfold handleRnr
  repeat' first
    | (extract_lets +onlyGivenNames y; first | (refine Moves.bind (x := y) ?_ fun _ => ?_; (on_goal 2 => clear_value y); subst y) | clear_value y | subst y)
    | with_reducible assumption
    | with_reducible apply Moves.refl
    | ((with_reducible apply Moves.after bump_moves ?e ?_); case e => rfl)
    | ((with_reducible apply Moves.after qpPut_moves ?e ?_); case e => rfl)
    | ((with_reducible apply Moves.after touch_moves ?e ?_); case e => rfl)
    | ((with_reducible apply Moves.after qpError_moves ?e ?_); case e => rfl)
    | ((with_reducible apply Moves.after resendFrom_moves ?e ?_); case e => rfl)
    | ((with_reducible apply Moves.after ackMark_moves ?e ?_); case e => rfl)
    | ((with_reducible apply Moves.after ghost_moves ?e ?_); case e => rfl)
    | with_reducible apply Moves.ite ?_ ?_
    | split

theorem handleCnp_moves {x0 x1} : Moves 268435460 x1 (handleCnp x0 x1) := by
  unfold handleCnp
  repeat' first
    | (extract_lets +onlyGivenNames y; first | clear_value y | subst y)
    | with_reducible assumption
    | with_reducible apply Moves.refl
    | ((with_reducible apply Moves.after bump_moves ?e ?_); case e => rfl)
    | ((with_reducible apply Moves.after qpPut_moves ?e ?_); case e => rfl)
    | with_reducible apply Moves.ite ?_ ?_
    | split

theorem ceAnswer_moves {x0 x1 x2} : Moves 2199291691012 x2 (ceAnswer x0 x1 x2) := by
  unfold ceAnswer
  repeat' first
    | (extract_lets +onlyGivenNames y; first | clear_value y | subst y)
    | with_reducible assumption
    | with_reducible apply Moves.refl
    | ((with_reducible apply Moves.after bump_moves ?e ?_); case e => rfl)
    | ((with_reducible apply Moves.after qpPut_moves ?e ?_); case e => rfl)
    | ((with_reducible apply Moves.after putPkt_moves ?e ?_); case e => rfl)
    | with_reducible apply Moves.ite ?_ ?_

theorem spViolation_moves {x0 x1 x2} : Moves 1028 x2 (spViolation x0 x1 x2) := by
  unfold spViolation
  repeat' first
    | with_reducible assumption
    | with_reducible apply Moves.refl
    | ((with_reducible apply Moves.after bump_moves ?e ?_); case e => rfl)
    | ((with_reducible apply Moves.after violation_moves ?e ?_); case e => rfl)

theorem spComplete_moves {x0 x1 x2} : Moves 2474706468900 x2 (spComplete x0 x1 x2) := by
  induction' x0 with n ih generalizing x1 x2
  all_goals unfold spComplete
  all_goals repeat' first
    | (extract_lets +onlyGivenNames y; first | (refine Moves.bind (x := y) ?_ fun _ => ?_; (on_goal 2 => clear_value y); subst y) | clear_value y | subst y)
    | with_reducible assumption
    | with_reducible apply Moves.refl
    | ((with_reducible apply Moves.after qpPut_moves ?e ?_); case e => rfl)
    | ((with_reducible apply Moves.after pumpAll_moves ?e ?_); case e => rfl)
    | ((with_reducible apply Moves.after reply_moves ?e ?_); case e => rfl)
    | ((with_reducible apply Moves.after deliver_moves ?e ?_); case e => rfl)
    | ((with_reducible apply Moves.after readData_moves ?e ?_); case e => rfl)
    | with_reducible apply Moves.ite ?_ ?_
    | with_reducible apply Moves.trans ?_ ih
    | split

theorem handleSp_moves {x0 x1 x2 x3} : Moves 2475847321188 x3 (handleSp x0 x1 x2 x3) := by
  unfold handleSp
  repeat' first
    | (extract_lets +onlyGivenNames y; first | (refine Moves.bind (x := y) ?_ fun _ => ?_; (on_goal 2 => clear_value y); subst y) | clear_value y | subst y)
    | with_reducible assumption
    | with_reducible apply Moves.refl
    | ((with_reducible apply Moves.after bump_moves ?e ?_); case e => rfl)
    | ((with_reducible apply Moves.after memWrite_moves ?e ?_); case e => rfl)
    | ((with_reducible apply Moves.after qpPut_moves ?e ?_); case e => rfl)
    | ((with_reducible apply Moves.after touch_moves ?e ?_); case e => rfl)
    | ((with_reducible apply Moves.after replyRnr_moves ?e ?_); case e => rfl)
    | ((with_reducible apply Moves.after violation_moves ?e ?_); case e => rfl)
    | ((with_reducible apply Moves.after fatalViolation_moves ?e ?_); case e => rfl)
    | ((with_reducible apply Moves.after accessRefused_moves ?e ?_); case e => rfl)
    | ((with_reducible apply Moves.after dupAck_moves ?e ?_); case e => rfl)
    | ((with_reducible apply Moves.after spViolation_moves ?e ?_); case e => rfl)
    | ((with_reducible apply Moves.after spComplete_moves ?e ?_); case e => rfl)
    | with_reducible apply Moves.ite ?_ ?_
    | with_reducible apply Moves.getD ?_ ?_
    | split

theorem handleSpNak_moves {x0 x1} : Moves 2199291691012 x1 (handleSpNak x0 x1) := by
  unfold handleSpNak
  repeat' first
    | (extract_lets +onlyGivenNames y; first | (refine Moves.bind (x := y) ?_ fun _ => ?_; (on_goal 2 => clear_value y); subst y) | clear_value y | subst y)
    | with_reducible assumption
    | with_reducible apply Moves.refl
    | ((with_reducible apply Moves.after bump_moves ?e ?_); case e => rfl)
    | ((with_reducible apply Moves.after qpPut_moves ?e ?_); case e => rfl)
    | ((with_reducible apply Moves.after putPkt_moves ?e ?_); case e => rfl)
    | with_reducible apply Moves.ite ?_ ?_
    | with_reducible apply Moves.foldl (fun _ _ => ?_) ?_
    | with_reducible apply Moves.foldl2 (fun _ _ => ?_) ?_
    | split

theorem handlePkt_moves {x0 x1 x2} : Moves 2475847321188 x2 (handlePkt x0 x1 x2) := by
  unfold handlePkt
  repeat' first
    | with_reducible assumption
    | with_reducible apply Moves.refl
    | ((with_reducible apply Moves.after handleSend_moves ?e ?_); case e => rfl)
    | ((with_reducible apply Moves.after handleWrite_moves ?e ?_); case e => rfl)
    | ((with_reducible apply Moves.after handleRead_moves ?e ?_); case e => rfl)
    | ((with_reducible apply Moves.after handleAtomic_moves ?e ?_); case e => rfl)
    | ((with_reducible apply Moves.after handleAck_moves ?e ?_); case e => rfl)
    | ((with_reducible apply Moves.after handleReadResp_moves ?e ?_); case e => rfl)
    | ((with_reducible apply Moves.after handleRnr_moves ?e ?_); case e => rfl)
    | ((with_reducible apply Moves.after handleCnp_moves ?e ?_); case e => rfl)
    | ((with_reducible apply Moves.after handleSp_moves ?e ?_); case e => rfl)
    | ((with_reducible apply Moves.after handleSpNak_moves ?e ?_); case e => rfl)
    | with_reducible apply Moves.ite ?_ ?_

theorem park_moves {x0 x1 x2 x3} : Moves 2199291692036 x3 (park x0 x1 x2 x3) := by
  unfold park
  repeat' first
    | (extract_lets +onlyGivenNames y; first | (refine Moves.bind (x := y) ?_ fun _ => ?_; (on_goal 2 => clear_value y); subst y) | clear_value y | subst y)
    | with_reducible assumption
    | with_reducible apply Moves.refl
    | ((with_reducible apply Moves.after bump_moves ?e ?_); case e => rfl)
    | ((with_reducible apply Moves.after hallmark_moves ?e ?_); case e => rfl)
    | ((with_reducible apply Moves.after qpPut_moves ?e ?_); case e => rfl)
    | ((with_reducible apply Moves.after replyRnr_moves ?e ?_); case e => rfl)
    | with_reducible apply Moves.ite ?_ ?_

theorem screen_moves {m : Nat} {x0 x1 x2 x3} (e : 2475847321188 &&& m = 2475847321188) (kx3 : ∀ a0 a1, Moves m a1 (x3 a0 a1)) : Moves m x2 (screen x0 x1 x2 x3) := by
  unfold screen
  repeat' first
    | (extract_lets +onlyGivenNames y; first | clear_value y | subst y)
    | with_reducible assumption
    | with_reducible apply Moves.refl
    | with_reducible apply Moves.trans ?_ (kx3 _ _)
    | ((with_reducible apply Moves.after bump_moves ?e ?_); case e => exact sub_trans rfl e)
    | ((with_reducible apply Moves.after fatalViolation_moves ?e ?_); case e => exact sub_trans rfl e)
    | ((with_reducible apply Moves.after park_moves ?e ?_); case e => exact sub_trans rfl e)
    | with_reducible apply Moves.ite ?_ ?_
    | split

theorem xptTake_moves {m : Nat} {x0 x1 x2 x3} (e : 2475981538916 &&& m = 2475981538916) (kx3 : ∀ a0, Moves m a0 (x3 a0)) : Moves m x2 (xptTake x0 x1 x2 x3) := by
  unfold xptTake
  repeat' first
    | (extract_lets +onlyGivenNames y; first | (refine Moves.bind (x := y) ?_ fun _ => ?_; (on_goal 2 => clear_value y); subst y) | clear_value y | subst y)
    | with_reducible assumption
    | with_reducible apply Moves.refl
    | with_reducible apply Moves.trans ?_ (kx3 _)
    | ((with_reducible apply Moves.after takeArrival_moves ?e ?_); case e => exact sub_trans rfl e)
    | ((with_reducible apply Moves.trans ?_ (screen_moves ?e (fun _ _ => ?_))); case e => exact sub_trans rfl e)
    | with_reducible apply Moves.ite ?_ ?_

theorem execRoceSend_moves {x0 x1 x2} : Ends 2475981538916 x2 (execRoceSend x0 x1 x2) := by
  unfold execRoceSend
  repeat' first
    | with_reducible assumption
    | with_reducible apply Moves.refl
    | ((with_reducible apply Moves.after handleSend_moves ?e ?_); case e => rfl)
    | ((with_reducible apply Moves.trans ?_ (xptTake_moves ?e (fun _ => ?_))); case e => rfl)
    | with_reducible apply Ends.next ?_

theorem execRdmaWrite_moves {x0 x1 x2} : Ends 2475981538916 x2 (execRdmaWrite x0 x1 x2) := by
  unfold execRdmaWrite
  repeat' first
    | with_reducible assumption
    | with_reducible apply Moves.refl
    | ((with_reducible apply Moves.after handleWrite_moves ?e ?_); case e => rfl)
    | ((with_reducible apply Moves.trans ?_ (xptTake_moves ?e (fun _ => ?_))); case e => rfl)
    | with_reducible apply Ends.next ?_

theorem execRdmaReadRequest_moves {x0 x1 x2} : Ends 2475981538916 x2 (execRdmaReadRequest x0 x1 x2) := by
  unfold execRdmaReadRequest
  repeat' first
    | with_reducible assumption
    | with_reducible apply Moves.refl
    | ((with_reducible apply Moves.after handleRead_moves ?e ?_); case e => rfl)
    | ((with_reducible apply Moves.trans ?_ (xptTake_moves ?e (fun _ => ?_))); case e => rfl)
    | with_reducible apply Ends.next ?_

theorem execRdmaReadResponse_moves {x0 x1 x2} : Ends 2475981538916 x2 (execRdmaReadResponse x0 x1 x2) := by
  unfold execRdmaReadResponse
  repeat' first
    | with_reducible assumption
    | with_reducible apply Moves.refl
    | ((with_reducible apply Moves.after handleReadResp_moves ?e ?_); case e => rfl)
    | ((with_reducible apply Moves.trans ?_ (xptTake_moves ?e (fun _ => ?_))); case e => rfl)
    | with_reducible apply Ends.next ?_

theorem execRoceAck_moves {x0 x1 x2} : Ends 2475981538916 x2 (execRoceAck x0 x1 x2) := by
  unfold execRoceAck
  repeat' first
    | with_reducible assumption
    | with_reducible apply Moves.refl
    | ((with_reducible apply Moves.after handleAck_moves ?e ?_); case e => rfl)
    | ((with_reducible apply Moves.trans ?_ (xptTake_moves ?e (fun _ => ?_))); case e => rfl)
    | with_reducible apply Ends.next ?_

theorem execRnrNak_moves {x0 x1 x2} : Ends 2475981538916 x2 (execRnrNak x0 x1 x2) := by
  unfold execRnrNak
  repeat' first
    | with_reducible assumption
    | with_reducible apply Moves.refl
    | ((with_reducible apply Moves.after handleRnr_moves ?e ?_); case e => rfl)
    | ((with_reducible apply Moves.trans ?_ (xptTake_moves ?e (fun _ => ?_))); case e => rfl)
    | with_reducible apply Ends.next ?_

theorem execCompareAndSwap_moves {x0 x1 x2} : Ends 2475981538916 x2 (execCompareAndSwap x0 x1 x2) := by
  unfold execCompareAndSwap
  repeat' first
    | with_reducible assumption
    | with_reducible apply Moves.refl
    | ((with_reducible apply Moves.after handleAtomic_moves ?e ?_); case e => rfl)
    | ((with_reducible apply Moves.trans ?_ (xptTake_moves ?e (fun _ => ?_))); case e => rfl)
    | with_reducible apply Ends.next ?_

theorem execFetchAndAdd_moves {x0 x1 x2} : Ends 2475981538916 x2 (execFetchAndAdd x0 x1 x2) := by
  unfold execFetchAndAdd
  repeat' first
    | with_reducible assumption
    | with_reducible apply Moves.refl
    | ((with_reducible apply Moves.after handleAtomic_moves ?e ?_); case e => rfl)
    | ((with_reducible apply Moves.trans ?_ (xptTake_moves ?e (fun _ => ?_))); case e => rfl)
    | with_reducible apply Ends.next ?_

theorem execSpWrite_moves {x0 x1 x2} : Ends 2475981538916 x2 (execSpWrite x0 x1 x2) := by
  unfold execSpWrite
  repeat' first
    | with_reducible assumption
    | with_reducible apply Moves.refl
    | ((with_reducible apply Moves.after handleSp_moves ?e ?_); case e => rfl)
    | ((with_reducible apply Moves.trans ?_ (xptTake_moves ?e (fun _ => ?_))); case e => rfl)
    | with_reducible apply Ends.next ?_

theorem execSpSend_moves {x0 x1 x2} : Ends 2475981538916 x2 (execSpSend x0 x1 x2) := by
  unfold execSpSend
  repeat' first
    | with_reducible assumption
    | with_reducible apply Moves.refl
    | ((with_reducible apply Moves.after handleSp_moves ?e ?_); case e => rfl)
    | ((with_reducible apply Moves.trans ?_ (xptTake_moves ?e (fun _ => ?_))); case e => rfl)
    | with_reducible apply Ends.next ?_

theorem execSpReadResp_moves {x0 x1 x2} : Ends 2475981538916 x2 (execSpReadResp x0 x1 x2) := by
  unfold execSpReadResp
  repeat' first
    | with_reducible assumption
    | with_reducible apply Moves.refl
    | ((with_reducible apply Moves.after handleSp_moves ?e ?_); case e => rfl)
    | ((with_reducible apply Moves.trans ?_ (xptTake_moves ?e (fun _ => ?_))); case e => rfl)
    | with_reducible apply Ends.next ?_

theorem execSpNak_moves {x0 x1 x2} : Ends 2475981538916 x2 (execSpNak x0 x1 x2) := by
  unfold execSpNak
  repeat' first
    | with_reducible assumption
    | with_reducible apply Moves.refl
    | ((with_reducible apply Moves.after handleSpNak_moves ?e ?_); case e => rfl)
    | ((with_reducible apply Moves.trans ?_ (xptTake_moves ?e (fun _ => ?_))); case e => rfl)
    | with_reducible apply Ends.next ?_

theorem execCnp_moves {x0 x1 x2} : Ends 2475981538916 x2 (execCnp x0 x1 x2) := by
  unfold execCnp
  repeat' first
    | with_reducible assumption
    | with_reducible apply Moves.refl
    | ((with_reducible apply Moves.after handleCnp_moves ?e ?_); case e => rfl)
    | ((with_reducible apply Moves.trans ?_ (xptTake_moves ?e (fun _ => ?_))); case e => rfl)
    | with_reducible apply Ends.next ?_

theorem execSpGapExpiry_moves {x0 x1 x2} : Ends 2199291691012 x2 (execSpGapExpiry x0 x1 x2) := by
  unfold execSpGapExpiry
  repeat' first
    | (extract_lets +onlyGivenNames y; first | clear_value y | subst y)
    | with_reducible assumption
    | with_reducible apply Moves.refl
    | ((with_reducible apply Moves.after bump_moves ?e ?_); case e => rfl)
    | ((with_reducible apply Moves.after qpPut_moves ?e ?_); case e => rfl)
    | ((with_reducible apply Moves.after putPkt_moves ?e ?_); case e => rfl)
    | with_reducible apply Ends.next ?_
    | with_reducible apply Ends.ite ?_ ?_
    | with_reducible apply Moves.ite ?_ ?_
    | with_reducible apply Moves.foldl (fun _ _ => ?_) ?_
    | with_reducible apply Moves.foldl2 (fun _ _ => ?_) ?_
    | with_reducible apply Moves.getD ?_ ?_
    | split

theorem execRetransmitTimeout_moves {x0 x1} : Ends 2475847321188 x1 (execRetransmitTimeout x0 x1) := by
  unfold execRetransmitTimeout
  repeat' first
    | (extract_lets +onlyGivenNames y; first | (refine Ends.bind (x := y) ?_ fun _ => ?_; (on_goal 2 => clear_value y); subst y) | (refine Moves.bind (x := y) ?_ fun _ => ?_; (on_goal 2 => clear_value y); subst y) | clear_value y | subst y)
    | with_reducible assumption
    | with_reducible apply Moves.refl
    | ((with_reducible apply Moves.after qpPut_moves ?e ?_); case e => rfl)
    | ((with_reducible apply Moves.after qpError_moves ?e ?_); case e => rfl)
    | ((with_reducible apply Moves.after resendFrom_moves ?e ?_); case e => rfl)
    | with_reducible apply Ends.next ?_
    | with_reducible apply Ends.ite ?_ ?_
    | with_reducible apply Moves.ite ?_ ?_

theorem execTemperRise_moves {x0 x1} : Ends 268435456 x1 (execTemperRise x0 x1) := by
  unfold execTemperRise
  repeat' first
    | (extract_lets +onlyGivenNames y; first | clear_value y | subst y)
    | with_reducible assumption
    | with_reducible apply Moves.refl
    | ((with_reducible apply Moves.after qpPut_moves ?e ?_); case e => rfl)
    | with_reducible apply Ends.next ?_
    | with_reducible apply Ends.ite ?_ ?_
    | with_reducible apply Moves.ite ?_ ?_

theorem execCtxFetchDone_moves {x0 x1 x2} : Ends 2475847321188 x2 (execCtxFetchDone x0 x1 x2) := by
  unfold execCtxFetchDone
  repeat' first
    | (extract_lets +onlyGivenNames y; first | (refine Moves.bind (x := y) ?_ fun _ => ?_; (on_goal 2 => clear_value y); subst y) | clear_value y | subst y)
    | with_reducible assumption
    | with_reducible apply Moves.refl
    | ((with_reducible apply Moves.after qpPut_moves ?e ?_); case e => rfl)
    | ((with_reducible apply Moves.after (Moves.of_opt ?p makeResident_moves) ?e ?_); (case p => assumption); case e => rfl)
    | ((with_reducible apply Moves.after pumpAll_moves ?e ?_); case e => rfl)
    | ((with_reducible apply Moves.after qpError_moves ?e ?_); case e => rfl)
    | ((with_reducible apply Moves.after handlePkt_moves ?e ?_); case e => rfl)
    | ((with_reducible apply Moves.trans ?_ (screen_moves ?e (fun _ _ => ?_))); case e => rfl)
    | with_reducible apply Ends.next ?_
    | with_reducible apply Ends.ite ?_ ?_
    | with_reducible apply Moves.ite ?_ ?_
    | with_reducible apply Moves.foldl (fun _ _ => ?_) ?_
    | with_reducible apply Moves.foldl2 (fun _ _ => ?_) ?_
    | split

theorem qpResult_moves {x0 x1} : Moves 4 x1 (qpResult x0 x1) := by
  unfold qpResult
  repeat' first
    | with_reducible assumption
    | with_reducible apply Moves.refl
    | ((with_reducible apply Moves.after wr_moves ?e ?_); case e => rfl)

theorem takeAttrs_moves {x0 x1} : Moves 268436484 x1 (takeAttrs x0 x1) := by
  unfold takeAttrs
  repeat' first
    | (extract_lets +onlyGivenNames y; first | (refine Moves.bind (x := y) ?_ fun _ => ?_; (on_goal 2 => clear_value y); subst y) | clear_value y | subst y)
    | with_reducible assumption
    | with_reducible apply Moves.refl
    | ((with_reducible apply Moves.after bump_moves ?e ?_); case e => rfl)
    | ((with_reducible apply Moves.after hallmark_moves ?e ?_); case e => rfl)
    | ((with_reducible apply Moves.after qpPut_moves ?e ?_); case e => rfl)
    | with_reducible apply Moves.ite ?_ ?_

theorem qpCmd_moves {m : Nat} {x0 x1 x2} (e : 4465725802020 &&& m = 4465725802020) (kx2 : ∀ a0 a1 a2, Moves m a2 (x2 a0 a1 a2)) : Ends m x1 (qpCmd x0 x1 x2) := by
  unfold qpCmd
  repeat' first
    | (extract_lets +onlyGivenNames y; first | (refine Ends.bind (x := y) ?_ fun _ => ?_; (on_goal 2 => clear_value y); subst y) | (refine Moves.bind (x := y) ?_ fun _ => ?_; (on_goal 2 => clear_value y); subst y) | clear_value y | subst y)
    | with_reducible assumption
    | with_reducible apply Moves.refl
    | with_reducible apply Moves.trans ?_ (kx2 _ _ _)
    | ((with_reducible apply Moves.after commandWrite_moves ?e ?_); case e => exact sub_trans rfl e)
    | with_reducible apply Ends.next ?_
    | with_reducible apply Ends.ite ?_ ?_
    | with_reducible apply Moves.ite ?_ ?_

theorem execQpInit_moves {x0 x1} : Ends 4465994237476 x1 (execQpInit x0 x1) := by
  unfold execQpInit
  repeat' first
    | with_reducible assumption
    | with_reducible apply Moves.refl
    | ((with_reducible apply Moves.after qpPut_moves ?e ?_); case e => rfl)
    | ((with_reducible apply Opts.after makeResident_moves ?e ?_); case e => rfl)
    | ((with_reducible apply Moves.after (Moves.of_opt ?p makeResident_moves) ?e ?_); (case p => assumption); case e => rfl)
    | ((with_reducible apply Moves.after qpResult_moves ?e ?_); case e => rfl)
    | ((with_reducible apply Ends.after (qpCmd_moves (m := 4465994237476) ?e (fun _ _ _ => ?_)) ?e2 ?_); (case e => rfl); case e2 => first | rfl | exact Nat.and_self _)
    | with_reducible apply Ends.next ?_
    | with_reducible apply Ends.ite ?_ ?_
    | with_reducible apply Moves.ite ?_ ?_
    | with_reducible apply Moves.getD ?_ ?_

theorem execQpRtr_moves {x0 x1} : Ends 4465994237476 x1 (execQpRtr x0 x1) := by
  unfold execQpRtr
  repeat' first
    | (extract_lets +onlyGivenNames y; first | (refine Moves.bind (x := y) ?_ fun _ => ?_; (on_goal 2 => clear_value y); subst y) | clear_value y | subst y)
    | with_reducible assumption
    | with_reducible apply Moves.refl
    | ((with_reducible apply Moves.after qpPut_moves ?e ?_); case e => rfl)
    | ((with_reducible apply Moves.after qpResult_moves ?e ?_); case e => rfl)
    | ((with_reducible apply Moves.after takeAttrs_moves ?e ?_); case e => rfl)
    | ((with_reducible apply Ends.after (qpCmd_moves (m := 4465994237476) ?e (fun _ _ _ => ?_)) ?e2 ?_); (case e => rfl); case e2 => first | rfl | exact Nat.and_self _)
    | with_reducible apply Ends.next ?_
    | with_reducible apply Ends.ite ?_ ?_
    | with_reducible apply Moves.ite ?_ ?_

theorem execQpRts_moves {x0 x1} : Ends 4465994237476 x1 (execQpRts x0 x1) := by
  unfold execQpRts
  repeat' first
    | (extract_lets +onlyGivenNames y; first | (refine Moves.bind (x := y) ?_ fun _ => ?_; (on_goal 2 => clear_value y); subst y) | clear_value y | subst y)
    | with_reducible assumption
    | with_reducible apply Moves.refl
    | ((with_reducible apply Moves.after qpPut_moves ?e ?_); case e => rfl)
    | ((with_reducible apply Moves.after qpResult_moves ?e ?_); case e => rfl)
    | ((with_reducible apply Moves.after takeAttrs_moves ?e ?_); case e => rfl)
    | ((with_reducible apply Ends.after (qpCmd_moves (m := 4465994237476) ?e (fun _ _ _ => ?_)) ?e2 ?_); (case e => rfl); case e2 => first | rfl | exact Nat.and_self _)
    | with_reducible apply Ends.next ?_
    | with_reducible apply Ends.ite ?_ ?_
    | with_reducible apply Moves.ite ?_ ?_

theorem execQpError_moves {x0 x1 x2} : Ends 2475847321188 x2 (execQpError x0 x1 x2) := by
  unfold execQpError
  repeat' first
    | (extract_lets +onlyGivenNames y; first | clear_value y | subst y)
    | with_reducible assumption
    | with_reducible apply Moves.refl
    | ((with_reducible apply Moves.after qpError_moves ?e ?_); case e => rfl)
    | ((with_reducible apply Moves.after qpResult_moves ?e ?_); case e => rfl)
    | with_reducible apply Ends.next ?_
    | with_reducible apply Ends.ite ?_ ?_
    | with_reducible apply Moves.ite ?_ ?_

theorem execQpReset_moves {x0 x1} : Ends 6940499379812 x1 (execQpReset x0 x1) := by
  unfold execQpReset
  repeat' first
    | (extract_lets +onlyGivenNames y; first | (refine Moves.bind (x := y) ?_ fun _ => ?_; (on_goal 2 => clear_value y); subst y) | clear_value y | subst y)
    | with_reducible assumption
    | with_reducible apply Moves.refl
    | ((with_reducible apply Moves.after qpPut_moves ?e ?_); case e => rfl)
    | ((with_reducible apply Moves.after rplQpLost_moves ?e ?_); case e => rfl)
    | ((with_reducible apply Moves.after deleteQueue_moves ?e ?_); case e => rfl)
    | ((with_reducible apply Moves.after qpResult_moves ?e ?_); case e => rfl)
    | ((with_reducible apply Ends.after (qpCmd_moves (m := 6940499379812) ?e (fun _ _ _ => ?_)) ?e2 ?_); (case e => rfl); case e2 => first | rfl | exact Nat.and_self _)
    | fail_if_no_progress ((with_reducible apply Moves.set_xpt ?e ?_); case e => rfl)
    | with_reducible apply Ends.next ?_
    | with_reducible apply Ends.ite ?_ ?_
    | with_reducible apply Moves.ite ?_ ?_

theorem putAttrs_moves {x0 x1} : Moves 4 x1 (putAttrs x0 x1) := by
  unfold putAttrs
  repeat' first
    | with_reducible assumption
    | with_reducible apply Moves.refl
    | ((with_reducible apply Moves.after wr_moves ?e ?_); case e => rfl)
    | with_reducible apply Moves.foldl (fun _ _ => ?_) ?_

theorem execQpQuery_moves {x0 x1} : Ends 4465725802020 x1 (execQpQuery x0 x1) := by
  unfold execQpQuery
  repeat' first
    | with_reducible assumption
    | with_reducible apply Moves.refl
    | ((with_reducible apply Moves.after qpResult_moves ?e ?_); case e => rfl)
    | ((with_reducible apply Ends.after (qpCmd_moves (m := 4465725802020) ?e (fun _ _ _ => ?_)) ?e2 ?_); (case e => rfl); case e2 => first | rfl | exact Nat.and_self _)
    | ((with_reducible apply Moves.after putAttrs_moves ?e ?_); case e => rfl)

theorem execQpTest_moves {x0 x1} : Ends 4465994237476 x1 (execQpTest x0 x1) := by
  unfold execQpTest
  repeat' first
    | with_reducible assumption
    | with_reducible apply Moves.refl
    | ((with_reducible apply Moves.after qpPut_moves ?e ?_); case e => rfl)
    | ((with_reducible apply Moves.after qpResult_moves ?e ?_); case e => rfl)
    | ((with_reducible apply Ends.after (qpCmd_moves (m := 4465994237476) ?e (fun _ _ _ => ?_)) ?e2 ?_); (case e => rfl); case e2 => first | rfl | exact Nat.and_self _)
    | with_reducible apply Ends.next ?_
    | with_reducible apply Ends.ite ?_ ?_
    | with_reducible apply Moves.ite ?_ ?_

theorem execWinOpen_moves {x0 x1} : Ends 4465994237476 x1 (execWinOpen x0 x1) := by
  unfold execWinOpen
  repeat' first
    | (extract_lets +onlyGivenNames y; first | (refine Ends.bind (x := y) ?_ fun _ => ?_; (on_goal 2 => clear_value y); subst y) | clear_value y | subst y)
    | with_reducible assumption
    | with_reducible apply Moves.refl
    | ((with_reducible apply Moves.after conflict_moves ?e ?_); case e => rfl)
    | ((with_reducible apply Moves.after commandWrite_moves ?e ?_); case e => rfl)
    | ((with_reducible apply Moves.after winPut_moves ?e ?_); case e => rfl)
    | with_reducible apply Ends.next ?_
    | with_reducible apply Ends.ite ?_ ?_
    | with_reducible apply Moves.ite ?_ ?_

theorem execWinRevoke_moves {x0 x1} : Ends 4465994237476 x1 (execWinRevoke x0 x1) := by
  unfold execWinRevoke
  repeat' first
    | (extract_lets +onlyGivenNames y; first | (refine Ends.bind (x := y) ?_ fun _ => ?_; (on_goal 2 => clear_value y); subst y) | (refine Moves.bind (x := y) ?_ fun _ => ?_; (on_goal 2 => clear_value y); subst y) | clear_value y | subst y)
    | with_reducible assumption
    | with_reducible apply Moves.refl
    | ((with_reducible apply Moves.after conflict_moves ?e ?_); case e => rfl)
    | ((with_reducible apply Moves.after commandWrite_moves ?e ?_); case e => rfl)
    | ((with_reducible apply Moves.after revoke_moves ?e ?_); case e => rfl)
    | with_reducible apply Ends.next ?_
    | with_reducible apply Ends.ite ?_ ?_
    | with_reducible apply Moves.ite ?_ ?_

theorem execRevokeDrained_moves {x0 x1} : Ends 268435456 x1 (execRevokeDrained x0 x1) := by
  unfold execRevokeDrained
  repeat' first
    | (extract_lets +onlyGivenNames y; first | clear_value y | subst y)
    | with_reducible assumption
    | with_reducible apply Moves.refl
    | ((with_reducible apply Moves.after winPut_moves ?e ?_); case e => rfl)
    | with_reducible apply Ends.next ?_
    | with_reducible apply Ends.ite ?_ ?_
    | with_reducible apply Moves.ite ?_ ?_

/-! Sys2Proof/Machine/Ports.lean. -/

theorem laneSet_moves {x0 x1 x2} : Moves 4 x2 (laneSet x0 x1 x2) := by
  unfold laneSet
  repeat' first
    | (extract_lets +onlyGivenNames y; first | clear_value y | subst y)
    | with_reducible assumption
    | with_reducible apply Moves.refl
    | ((with_reducible apply Moves.after wr64_moves ?e ?_); case e => rfl)

theorem execNetModeWrite_moves {x0 x1} : Ends 4465725802020 x1 (execNetModeWrite x0 x1) := by
  unfold execNetModeWrite
  repeat' first
    | with_reducible assumption
    | with_reducible apply Moves.refl
    | ((with_reducible apply Moves.after gatedWrite_moves ?e ?_); case e => rfl)
    | with_reducible apply Ends.next ?_

theorem exception_moves {x0 x1 x2 x3} : Moves 134217764 x3 (exception x0 x1 x2 x3) := by
  unfold exception
  repeat' first
    | (extract_lets +onlyGivenNames y; first | (refine Moves.bind (x := y) ?_ fun _ => ?_; (on_goal 2 => clear_value y); subst y) | clear_value y | subst y)
    | with_reducible assumption
    | with_reducible apply Moves.refl
    | ((with_reducible apply Moves.after wrF_moves ?e ?_); case e => rfl)
    | ((with_reducible apply Moves.after bump_moves ?e ?_); case e => rfl)
    | ((with_reducible apply Moves.after memWrite_moves ?e ?_); case e => rfl)
    | fail_if_no_progress ((with_reducible apply Moves.set_net ?e ?_); case e => rfl)
    | with_reducible apply Moves.ite ?_ ?_

theorem arrive_moves {x0 x1 x2 x3 x4} : Moves 2475981538916 x4 (arrive x0 x1 x2 x3 x4) := by
  unfold arrive
  repeat' first
    | (extract_lets +onlyGivenNames y; first | (refine Moves.bind (x := y) ?_ fun _ => ?_; (on_goal 2 => clear_value y); subst y) | (refine of_fun y ?_; subst y) | clear_value y | subst y)
    | with_reducible assumption
    | with_reducible apply Moves.refl
    | ((with_reducible apply Moves.after ceAnswer_moves ?e ?_); case e => rfl)
    | ((with_reducible apply Moves.trans ?_ (screen_moves ?e (fun _ _ => ?_))); case e => rfl)
    | fail_if_no_progress ((with_reducible apply Moves.set_net ?e ?_); case e => rfl)
    | with_reducible apply Moves.ite ?_ ?_
    | split

theorem xoffCheck_moves {x0 x1 x2} : Moves 2199157473284 x2 (xoffCheck x0 x1 x2) := by
  unfold xoffCheck
  repeat' first
    | (extract_lets +onlyGivenNames y; first | clear_value y | subst y)
    | with_reducible assumption
    | with_reducible apply Moves.refl
    | ((with_reducible apply Moves.after bump_moves ?e ?_); case e => rfl)
    | ((with_reducible apply Moves.after emit_moves ?e ?_); case e => rfl)
    | fail_if_no_progress ((with_reducible apply Moves.set_net ?e ?_); case e => rfl)
    | with_reducible apply Moves.ite ?_ ?_

theorem execFrameReceive_moves {x0 x1 x2} : Ends 2475981538916 x2 (execFrameReceive x0 x1 x2) := by
  unfold execFrameReceive
  repeat' first
    | (extract_lets +onlyGivenNames y; first | (refine Ends.bind (x := y) ?_ fun _ => ?_; (on_goal 2 => clear_value y); subst y) | (refine Moves.bind (x := y) ?_ fun _ => ?_; (on_goal 2 => clear_value y); subst y) | clear_value y | subst y)
    | with_reducible assumption
    | with_reducible apply Moves.refl
    | ((with_reducible apply Moves.after bump_moves ?e ?_); case e => rfl)
    | ((with_reducible apply Moves.after bump64_moves ?e ?_); case e => rfl)
    | ((with_reducible apply Moves.after exception_moves ?e ?_); case e => rfl)
    | ((with_reducible apply Moves.after arrive_moves ?e ?_); case e => rfl)
    | ((with_reducible apply Moves.after xoffCheck_moves ?e ?_); case e => rfl)
    | with_reducible apply Ends.next ?_
    | with_reducible apply Ends.ite ?_ ?_
    | with_reducible apply Moves.ite ?_ ?_
    | split

theorem excSend_moves {x0 x1} : Moves 2199023255556 x1 (excSend x0 x1) := by
  induction' x0 with n ih generalizing x1
  all_goals unfold excSend
  all_goals repeat' first
    | (extract_lets +onlyGivenNames y; first | (refine Moves.bind (x := y) ?_ fun _ => ?_; (on_goal 2 => clear_value y); subst y) | clear_value y | subst y)
    | with_reducible assumption
    | with_reducible apply Moves.refl
    | ((with_reducible apply Moves.after wrF_moves ?e ?_); case e => rfl)
    | ((with_reducible apply Moves.after bump64_moves ?e ?_); case e => rfl)
    | ((with_reducible apply Moves.after emit_moves ?e ?_); case e => rfl)
    | with_reducible apply Moves.ite ?_ ?_
    | with_reducible apply Moves.trans ?_ ih

theorem execExcTxSend_moves {x0 x1} : Ends 2199023255556 x1 (execExcTxSend x0 x1) := by
  unfold execExcTxSend
  repeat' first
    | (extract_lets +onlyGivenNames y; first | (refine Ends.bind (x := y) ?_ fun _ => ?_; (on_goal 2 => clear_value y); subst y) | (refine Moves.bind (x := y) ?_ fun _ => ?_; (on_goal 2 => clear_value y); subst y) | clear_value y | subst y)
    | with_reducible assumption
    | with_reducible apply Moves.refl
    | ((with_reducible apply Moves.after wrF_moves ?e ?_); case e => rfl)
    | ((with_reducible apply Moves.after excSend_moves ?e ?_); case e => rfl)
    | with_reducible apply Ends.next ?_
    | with_reducible apply Ends.ite ?_ ?_
    | with_reducible apply Moves.ite ?_ ?_

theorem execPfcXoffRefresh_moves {x0 x1 x2} : Ends 2199023255556 x2 (execPfcXoffRefresh x0 x1 x2) := by
  unfold execPfcXoffRefresh
  repeat' first
    | with_reducible assumption
    | with_reducible apply Moves.refl
    | ((with_reducible apply Moves.after bump_moves ?e ?_); case e => rfl)
    | ((with_reducible apply Moves.after emit_moves ?e ?_); case e => rfl)
    | with_reducible apply Ends.next ?_
    | with_reducible apply Ends.ite ?_ ?_
    | with_reducible apply Moves.ite ?_ ?_

theorem resumePrio_moves {x0 x1 x2} : Moves 2199291691012 x2 (resumePrio x0 x1 x2) := by
  unfold resumePrio
  repeat' first
    | with_reducible assumption
    | with_reducible apply Moves.refl
    | ((with_reducible apply Moves.after pumpAll_moves ?e ?_); case e => rfl)
    | ((with_reducible apply Moves.after flushResp_moves ?e ?_); case e => rfl)
    | with_reducible apply Moves.foldl (fun _ _ => ?_) ?_

theorem prioBit_moves {x0 x1 x2 x3 x4} : Moves 134217732 x4 (prioBit x0 x1 x2 x3 x4) := by
  unfold prioBit
  repeat' first
    | with_reducible assumption
    | with_reducible apply Moves.refl
    | ((with_reducible apply Moves.after nwr_moves ?e ?_); case e => rfl)

theorem unpause_moves {x0 x1 x2} : Moves 2199425908740 x2 (unpause x0 x1 x2) := by
  unfold unpause
  repeat' first
    | (extract_lets +onlyGivenNames y; first | (refine Moves.bind (x := y) ?_ fun _ => ?_; (on_goal 2 => clear_value y); subst y) | clear_value y | subst y)
    | with_reducible assumption
    | with_reducible apply Moves.refl
    | ((with_reducible apply Moves.after resumePrio_moves ?e ?_); case e => rfl)
    | ((with_reducible apply Moves.after prioBit_moves ?e ?_); case e => rfl)
    | fail_if_no_progress ((with_reducible apply Moves.set_net ?e ?_); case e => rfl)

theorem execPauseReceive_moves {x0 x1 x2 x3} : Ends 2199425908740 x3 (execPauseReceive x0 x1 x2 x3) := by
  unfold execPauseReceive
  repeat' first
    | (extract_lets +onlyGivenNames y; first | (refine Ends.bind (x := y) ?_ fun _ => ?_; (on_goal 2 => clear_value y); subst y) | (refine Moves.bind (x := y) ?_ fun _ => ?_; (on_goal 2 => clear_value y); subst y) | clear_value y | subst y)
    | with_reducible assumption
    | with_reducible apply Moves.refl
    | ((with_reducible apply Moves.after bump_moves ?e ?_); case e => rfl)
    | ((with_reducible apply Moves.after prioBit_moves ?e ?_); case e => rfl)
    | ((with_reducible apply Moves.after unpause_moves ?e ?_); case e => rfl)
    | fail_if_no_progress ((with_reducible apply Moves.set_net ?e ?_); case e => rfl)
    | with_reducible apply Ends.next ?_
    | with_reducible apply Ends.ite ?_ ?_
    | with_reducible apply Moves.ite ?_ ?_

theorem execPauseExpiry_moves {x0 x1 x2} : Ends 2199425908740 x2 (execPauseExpiry x0 x1 x2) := by
  unfold execPauseExpiry
  repeat' first
    | with_reducible assumption
    | with_reducible apply Moves.refl
    | ((with_reducible apply Moves.after unpause_moves ?e ?_); case e => rfl)
    | with_reducible apply Ends.next ?_
    | with_reducible apply Ends.ite ?_ ?_
    | with_reducible apply Moves.ite ?_ ?_

theorem execPfcStormEntry_moves {x0 x1 x2} : Ends 2199425909764 x2 (execPfcStormEntry x0 x1 x2) := by
  unfold execPfcStormEntry
  repeat' first
    | (extract_lets +onlyGivenNames y; first | (refine Ends.bind (x := y) ?_ fun _ => ?_; (on_goal 2 => clear_value y); subst y) | (refine Moves.bind (x := y) ?_ fun _ => ?_; (on_goal 2 => clear_value y); subst y) | clear_value y | subst y)
    | with_reducible assumption
    | with_reducible apply Moves.refl
    | ((with_reducible apply Moves.after bump_moves ?e ?_); case e => rfl)
    | ((with_reducible apply Moves.after hallmark_moves ?e ?_); case e => rfl)
    | ((with_reducible apply Moves.after resumePrio_moves ?e ?_); case e => rfl)
    | ((with_reducible apply Moves.after prioBit_moves ?e ?_); case e => rfl)
    | with_reducible apply Ends.next ?_
    | with_reducible apply Ends.ite ?_ ?_
    | with_reducible apply Moves.ite ?_ ?_

theorem execPfcStormExit_moves {x0 x1 x2} : Ends 2199425909764 x2 (execPfcStormExit x0 x1 x2) := by
  unfold execPfcStormExit
  repeat' first
    | (extract_lets +onlyGivenNames y; first | (refine Ends.bind (x := y) ?_ fun _ => ?_; (on_goal 2 => clear_value y); subst y) | (refine Moves.bind (x := y) ?_ fun _ => ?_; (on_goal 2 => clear_value y); subst y) | clear_value y | subst y)
    | with_reducible assumption
    | with_reducible apply Moves.refl
    | ((with_reducible apply Moves.after hallmark_moves ?e ?_); case e => rfl)
    | ((with_reducible apply Moves.after prioBit_moves ?e ?_); case e => rfl)
    | ((with_reducible apply Moves.after unpause_moves ?e ?_); case e => rfl)
    | with_reducible apply Ends.next ?_
    | with_reducible apply Ends.ite ?_ ?_
    | with_reducible apply Moves.ite ?_ ?_

theorem execPortLinkUp_moves {x0 x1} : Ends 142607364 x1 (execPortLinkUp x0 x1) := by
  unfold execPortLinkUp
  repeat' first
    | (extract_lets +onlyGivenNames y; first | (refine of_fun y ?_; subst y) | clear_value y | subst y)
    | with_reducible assumption
    | with_reducible apply Moves.refl
    | ((with_reducible apply Moves.after lanesLocked_moves ?e ?_); case e => rfl)
    | ((with_reducible apply Moves.after hallmark_moves ?e ?_); case e => rfl)
    | ((with_reducible apply Moves.after nwrF_moves ?e ?_); case e => rfl)
    | with_reducible apply Ends.next ?_
    | with_reducible apply Ends.ite ?_ ?_
    | with_reducible apply Moves.ite ?_ ?_

theorem linkDownPort_moves {x0 x1 x2} : Moves 134218756 x2 (linkDownPort x0 x1 x2) := by
  unfold linkDownPort
  repeat' first
    | (extract_lets +onlyGivenNames y; first | (refine Moves.bind (x := y) ?_ fun _ => ?_; (on_goal 2 => clear_value y); subst y) | clear_value y | subst y)
    | with_reducible assumption
    | with_reducible apply Moves.refl
    | ((with_reducible apply Moves.after hallmark_moves ?e ?_); case e => rfl)
    | ((with_reducible apply Moves.after nwr_moves ?e ?_); case e => rfl)
    | fail_if_no_progress ((with_reducible apply Moves.set_net ?e ?_); case e => rfl)
    | with_reducible apply Moves.ite ?_ ?_

theorem execPortLinkDown_moves {x0 x1 x2} : Ends 134218756 x2 (execPortLinkDown x0 x1 x2) := by
  unfold execPortLinkDown
  repeat' first
    | with_reducible assumption
    | with_reducible apply Moves.refl
    | ((with_reducible apply Moves.after linkDownPort_moves ?e ?_); case e => rfl)
    | with_reducible apply Ends.next ?_

end Sys2Proof.Machine
end

