-- ==== Sys2Proof/Laws/MovesPower.lean ====
section
/-! SUPPORT. What each definition may change. Quench, clocks, lifecycle and power. -/

namespace Sys2Proof.Machine

/-! Sys2Proof/Machine/Quench.lean. -/

theorem domSet__moves {x0 x1} : Moves 4 x1 (domSet_ x0 x1) := by
  unfold domSet_
  repeat' first
    | with_reducible assumption
    | with_reducible apply Moves.refl
    | ((with_reducible apply Moves.after wrF_moves ?e ?_); case e => rfl)

theorem parkDom_moves {x0 x1} : Moves 4100 x1 (parkDom x0 x1) := by
  unfold parkDom
  repeat' first
    | (extract_lets +onlyGivenNames y; first | clear_value y | subst y)
    | with_reducible assumption
    | with_reducible apply Moves.refl
    | ((with_reducible apply Moves.after domSet__moves ?e ?_); case e => rfl)
    | fail_if_no_progress ((with_reducible apply Moves.set_clk ?e ?_); case e => rfl)

theorem unparkDom_moves {x0 x1} : Moves 4100 x1 (unparkDom x0 x1) := by
  unfold unparkDom
  repeat' first
    | (extract_lets +onlyGivenNames y; first | clear_value y | subst y)
    | with_reducible assumption
    | with_reducible apply Moves.refl
    | ((with_reducible apply Moves.after domSet__moves ?e ?_); case e => rfl)
    | fail_if_no_progress ((with_reducible apply Moves.set_clk ?e ?_); case e => rfl)

theorem dbgAbandon_moves {x0} : Moves 262148 x0 (dbgAbandon x0) := by
  unfold dbgAbandon
  repeat' first
    | (extract_lets +onlyGivenNames y; first | (refine Moves.bind (x := y) ?_ fun _ => ?_; (on_goal 2 => clear_value y); subst y) | clear_value y | subst y)
    | with_reducible assumption
    | with_reducible apply Moves.refl
    | ((with_reducible apply Moves.after bump_moves ?e ?_); case e => rfl)
    | fail_if_no_progress ((with_reducible apply Moves.set_dbg ?e ?_); case e => rfl)
    | with_reducible apply Moves.ite ?_ ?_

theorem forgeHold_moves {x0 x1} : Moves 17179869188 x0 (forgeHold x0 x1) := by
  unfold forgeHold
  repeat' first
    | with_reducible assumption
    | with_reducible apply Moves.refl
    | ((with_reducible apply Moves.after wrF_moves ?e ?_); case e => rfl)
    | ((with_reducible apply Moves.after dropPending_moves ?e ?_); case e => rfl)
    | with_reducible apply Moves.foldl (fun _ _ => ?_) ?_

theorem drawHold_moves {x0 x1} : Moves 4 x0 (drawHold x0 x1) := by
  unfold drawHold
  repeat' first
    | with_reducible assumption
    | with_reducible apply Moves.refl
    | ((with_reducible apply Moves.after wrF_moves ?e ?_); case e => rfl)

theorem putCtrl_moves {x0 x1 x2} : Moves 64 x2 (putCtrl x0 x1 x2) := by
  unfold putCtrl
  repeat' first
    | with_reducible assumption
    | with_reducible apply Moves.refl
    | ((with_reducible apply Moves.after qstWrite_moves ?e ?_); case e => rfl)
    | with_reducible apply Moves.ite ?_ ?_

theorem startQuench_moves {x0 x1} : Moves 2217344308292 x1 (startQuench x0 x1) := by
  unfold startQuench
  repeat' first
    | (extract_lets +onlyGivenNames y; first | (refine Moves.bind (x := y) ?_ fun _ => ?_; (on_goal 2 => clear_value y); subst y) | clear_value y | subst y)
    | with_reducible assumption
    | with_reducible apply Moves.refl
    | ((with_reducible apply Moves.after wrF_moves ?e ?_); case e => rfl)
    | ((with_reducible apply Moves.after hallmark_moves ?e ?_); case e => rfl)
    | ((with_reducible apply Moves.after sendW_moves ?e ?_); case e => rfl)
    | ((with_reducible apply Moves.after parkDom_moves ?e ?_); case e => rfl)
    | ((with_reducible apply Moves.after unparkDom_moves ?e ?_); case e => rfl)
    | ((with_reducible apply Moves.after dbgAbandon_moves ?e ?_); case e => rfl)
    | ((with_reducible apply Moves.after forgeHold_moves ?e ?_); case e => rfl)
    | ((with_reducible apply Moves.after drawHold_moves ?e ?_); case e => rfl)
    | ((with_reducible apply Moves.after putCtrl_moves ?e ?_); case e => rfl)
    | fail_if_no_progress ((with_reducible apply Moves.set_wc ?e ?_); case e => rfl)
    | fail_if_no_progress ((with_reducible apply Moves.set_aon ?e ?_); case e => rfl)
    | with_reducible apply Moves.ite ?_ ?_
    | with_reducible apply Moves.foldl (fun _ _ => ?_) ?_

theorem execQuenchStart_moves {x0 x1} : Ends 2217344308292 x1 (execQuenchStart x0 x1) := by
  unfold execQuenchStart
  repeat' first
    | with_reducible assumption
    | with_reducible apply Moves.refl
    | ((with_reducible apply Moves.after startQuench_moves ?e ?_); case e => rfl)
    | with_reducible apply Ends.next ?_
    | with_reducible apply Ends.ite ?_ ?_
    | with_reducible apply Moves.ite ?_ ?_

theorem execHoldTrip_moves {x0 x1} : Ends 2217344308292 x1 (execHoldTrip x0 x1) := by
  unfold execHoldTrip
  repeat' first
    | with_reducible assumption
    | with_reducible apply Moves.refl
    | ((with_reducible apply Moves.after wrF_moves ?e ?_); case e => rfl)
    | ((with_reducible apply Moves.after hallmark_moves ?e ?_); case e => rfl)
    | ((with_reducible apply Moves.after startQuench_moves ?e ?_); case e => rfl)
    | with_reducible apply Ends.next ?_
    | with_reducible apply Ends.ite ?_ ?_
    | with_reducible apply Moves.ite ?_ ?_

theorem execPwrfailNLow_moves {x0} : Ends 2217344308292 x0 (execPwrfailNLow x0) := by
  unfold execPwrfailNLow
  repeat' first
    | with_reducible assumption
    | with_reducible apply Moves.refl
    | ((with_reducible apply Moves.after startQuench_moves ?e ?_); case e => rfl)
    | with_reducible apply Ends.next ?_
    | with_reducible apply Ends.ite ?_ ?_
    | with_reducible apply Moves.ite ?_ ?_

theorem saveEntry_moves {x0 x1} : Moves 64 x0 (saveEntry x0 x1) := by
  unfold saveEntry
  repeat' first
    | with_reducible assumption
    | with_reducible apply Moves.refl
    | ((with_reducible apply Moves.after qstWrite_moves ?e ?_); case e => rfl)

theorem execQuenchDirDone_moves {x0} : Ends 1073745988 x0 (execQuenchDirDone x0) := by
  unfold execQuenchDirDone
  repeat' first
    | (extract_lets +onlyGivenNames y; first | (refine Ends.bind (x := y) ?_ fun _ => ?_; (on_goal 2 => clear_value y); subst y) | (refine Moves.bind (x := y) ?_ fun _ => ?_; (on_goal 2 => clear_value y); subst y) | clear_value y | subst y)
    | with_reducible assumption
    | with_reducible apply Moves.refl
    | ((with_reducible apply Moves.after laneSet_moves ?e ?_); case e => rfl)
    | ((with_reducible apply Moves.after parkDom_moves ?e ?_); case e => rfl)
    | ((with_reducible apply Moves.after putCtrl_moves ?e ?_); case e => rfl)
    | ((with_reducible apply Moves.after saveEntry_moves ?e ?_); case e => rfl)
    | fail_if_no_progress ((with_reducible apply Moves.set_wc ?e ?_); case e => rfl)
    | with_reducible apply Ends.next ?_
    | with_reducible apply Ends.ite ?_ ?_
    | with_reducible apply Moves.ite ?_ ?_
    | with_reducible apply Moves.foldl (fun _ _ => ?_) ?_

theorem saveData_moves {x0 x1 x2} : Moves 64 x1 (saveData x0 x1 x2) := by
  unfold saveData
  repeat' first
    | (extract_lets +onlyGivenNames y; first | clear_value y | subst y)
    | with_reducible assumption
    | with_reducible apply Moves.refl
    | ((with_reducible apply Moves.after qstWrite_moves ?e ?_); case e => rfl)
    | with_reducible apply Moves.ite ?_ ?_

theorem execQuenchDataDone_moves {x0 x1} : Ends 1073742916 x1 (execQuenchDataDone x0 x1) := by
  unfold execQuenchDataDone
  repeat' first
    | (extract_lets +onlyGivenNames y; first | (refine Ends.bind (x := y) ?_ fun _ => ?_; (on_goal 2 => clear_value y); subst y) | (refine Moves.bind (x := y) ?_ fun _ => ?_; (on_goal 2 => clear_value y); subst y) | clear_value y | subst y)
    | with_reducible assumption
    | with_reducible apply Moves.refl
    | ((with_reducible apply Moves.after wr_moves ?e ?_); case e => rfl)
    | ((with_reducible apply Moves.after wrF_moves ?e ?_); case e => rfl)
    | ((with_reducible apply Moves.after hallmark_moves ?e ?_); case e => rfl)
    | ((with_reducible apply Moves.after flushHallmarks_moves ?e ?_); case e => rfl)
    | ((with_reducible apply Moves.after putCtrl_moves ?e ?_); case e => rfl)
    | ((with_reducible apply Moves.after saveData_moves ?e ?_); case e => rfl)
    | fail_if_no_progress ((with_reducible apply Moves.set_wc ?e ?_); case e => rfl)
    | with_reducible apply Ends.next ?_
    | with_reducible apply Ends.ite ?_ ?_
    | with_reducible apply Moves.ite ?_ ?_
    | with_reducible apply Moves.foldl (fun _ _ => ?_) ?_

theorem execQuenchRailRelease_moves {x0 x1} : Ends 4947802283838 x1 (execQuenchRailRelease x0 x1) := by
  unfold execQuenchRailRelease
  repeat' first
    | (extract_lets +onlyGivenNames y; first | (refine Ends.bind (x := y) ?_ fun _ => ?_; (on_goal 2 => clear_value y); subst y) | clear_value y | subst y)
    | with_reducible assumption
    | with_reducible apply Moves.refl
    | ((with_reducible apply Moves.after chipReset_moves ?e ?_); case e => rfl)
    | fail_if_no_progress ((with_reducible apply Moves.set_aon ?e ?_); case e => rfl)
    | with_reducible apply Ends.next ?_
    | with_reducible apply Ends.ite ?_ ?_
    | with_reducible apply Moves.ite ?_ ?_

/-! Sys2Proof/Machine/Clocks.lean. -/

theorem stopDomain_moves {x0 x1} : Moves 6664832943652 x1 (stopDomain x0 x1) := by
  unfold stopDomain
  repeat' first
    | (extract_lets +onlyGivenNames y; first | (refine Moves.bind (x := y) ?_ fun _ => ?_; (on_goal 2 => clear_value y); subst y) | clear_value y | subst y)
    | with_reducible assumption
    | with_reducible apply Moves.refl
    | ((with_reducible apply Moves.after wrF_moves ?e ?_); case e => rfl)
    | ((with_reducible apply Moves.after linkDown_moves ?e ?_); case e => rfl)
    | with_reducible apply Moves.ite ?_ ?_

theorem pllLost_moves {x0 x1} : Moves 4465725802020 x1 (pllLost x0 x1) := by
  unfold pllLost
  repeat' first
    | with_reducible assumption
    | with_reducible apply Moves.refl
    | ((with_reducible apply Moves.after hallmark_moves ?e ?_); case e => rfl)
    | ((with_reducible apply Moves.after recordFault_moves ?e ?_); case e => rfl)

theorem coreLoss_moves {x0 x1} : Moves 4947802283838 x1 (coreLoss x0 x1) := by
  unfold coreLoss
  repeat' first
    | (extract_lets +onlyGivenNames y; first | (refine Moves.bind (x := y) ?_ fun _ => ?_; (on_goal 2 => clear_value y); subst y) | clear_value y | subst y)
    | with_reducible assumption
    | with_reducible apply Moves.refl
    | ((with_reducible apply Moves.after wr_moves ?e ?_); case e => rfl)
    | ((with_reducible apply Moves.after chipReset_moves ?e ?_); case e => rfl)
    | fail_if_no_progress ((with_reducible apply Moves.set_clk ?e ?_); case e => rfl)
    | with_reducible apply Moves.ite ?_ ?_

theorem execPllLockLoss_moves {x0 x1} : Ends 7146825539390 x1 (execPllLockLoss x0 x1) := by
  unfold execPllLockLoss
  repeat' first
    | (extract_lets +onlyGivenNames y; first | (refine Ends.bind (x := y) ?_ fun _ => ?_; (on_goal 2 => clear_value y); subst y) | clear_value y | subst y)
    | with_reducible assumption
    | with_reducible apply Moves.refl
    | ((with_reducible apply Moves.after wrF_moves ?e ?_); case e => rfl)
    | ((with_reducible apply Moves.after stopDomain_moves ?e ?_); case e => rfl)
    | ((with_reducible apply Moves.after pllLost_moves ?e ?_); case e => rfl)
    | ((with_reducible apply Moves.after coreLoss_moves ?e ?_); case e => rfl)
    | fail_if_no_progress ((with_reducible apply Moves.set_clk ?e ?_); case e => rfl)
    | with_reducible apply Ends.next ?_
    | with_reducible apply Ends.ite ?_ ?_
    | with_reducible apply Moves.ite ?_ ?_

theorem execPllRelockDone_moves {x0 x1 x2} : Ends 5380 x2 (execPllRelockDone x0 x1 x2) := by
  unfold execPllRelockDone
  repeat' first
    | (extract_lets +onlyGivenNames y; first | (refine Ends.bind (x := y) ?_ fun _ => ?_; (on_goal 2 => clear_value y); subst y) | (refine Moves.bind (x := y) ?_ fun _ => ?_; (on_goal 2 => clear_value y); subst y) | clear_value y | subst y)
    | with_reducible assumption
    | with_reducible apply Moves.refl
    | ((with_reducible apply Moves.after wrF_moves ?e ?_); case e => rfl)
    | ((with_reducible apply Moves.after bump_moves ?e ?_); case e => rfl)
    | ((with_reducible apply Moves.after hallmark_moves ?e ?_); case e => rfl)
    | ((with_reducible apply Moves.after domSet__moves ?e ?_); case e => rfl)
    | ((with_reducible apply Moves.after settleFlushes_moves ?e ?_); case e => rfl)
    | fail_if_no_progress ((with_reducible apply Moves.set_clk ?e ?_); case e => rfl)
    | with_reducible apply Ends.next ?_
    | with_reducible apply Ends.ite ?_ ?_
    | with_reducible apply Moves.ite ?_ ?_

theorem execPllRelockTimeout_moves {x0 x1} : Ends 4465725806116 x1 (execPllRelockTimeout x0 x1) := by
  unfold execPllRelockTimeout
  repeat' first
    | (extract_lets +onlyGivenNames y; first | clear_value y | subst y)
    | with_reducible assumption
    | with_reducible apply Moves.refl
    | ((with_reducible apply Moves.after pllLost_moves ?e ?_); case e => rfl)
    | fail_if_no_progress ((with_reducible apply Moves.set_clk ?e ?_); case e => rfl)
    | with_reducible apply Ends.next ?_
    | with_reducible apply Ends.ite ?_ ?_
    | with_reducible apply Moves.ite ?_ ?_

theorem xtalLoss_moves {x0} : Moves 5124 x0 (xtalLoss x0) := by
  unfold xtalLoss
  repeat' first
    | (extract_lets +onlyGivenNames y; first | (refine Moves.bind (x := y) ?_ fun _ => ?_; (on_goal 2 => clear_value y); subst y) | clear_value y | subst y)
    | with_reducible assumption
    | with_reducible apply Moves.refl
    | ((with_reducible apply Moves.after wrF_moves ?e ?_); case e => rfl)
    | ((with_reducible apply Moves.after hallmark_moves ?e ?_); case e => rfl)
    | fail_if_no_progress ((with_reducible apply Moves.set_clk ?e ?_); case e => rfl)
    | with_reducible apply Moves.ite ?_ ?_

theorem execXtalLost_moves {x0} : Ends 5124 x0 (execXtalLost x0) := by
  unfold execXtalLost
  repeat' first
    | with_reducible assumption
    | with_reducible apply Moves.refl
    | ((with_reducible apply Moves.after xtalLoss_moves ?e ?_); case e => rfl)
    | with_reducible apply Ends.next ?_

theorem execRefMeasure_moves {x0 x1 x2 x3 x4} : Ends 4947802283838 x4 (execRefMeasure x0 x1 x2 x3 x4) := by
  unfold execRefMeasure
  repeat' first
    | (extract_lets +onlyGivenNames y; first | (refine Ends.bind (x := y) ?_ fun _ => ?_; (on_goal 2 => clear_value y); subst y) | (refine Moves.bind (x := y) ?_ fun _ => ?_; (on_goal 2 => clear_value y); subst y) | clear_value y | subst y)
    | with_reducible assumption
    | with_reducible apply Moves.refl
    | ((with_reducible apply Moves.after wr_moves ?e ?_); case e => rfl)
    | ((with_reducible apply Moves.after wrF_moves ?e ?_); case e => rfl)
    | ((with_reducible apply Moves.after coreLoss_moves ?e ?_); case e => rfl)
    | ((with_reducible apply Moves.after xtalLoss_moves ?e ?_); case e => rfl)
    | with_reducible apply Ends.next ?_
    | with_reducible apply Ends.ite ?_ ?_
    | with_reducible apply Moves.ite ?_ ?_

theorem execCoreClockLoss_moves {x0 x1} : Ends 4947802283838 x1 (execCoreClockLoss x0 x1) := by
  unfold execCoreClockLoss
  repeat' first
    | with_reducible assumption
    | with_reducible apply Moves.refl
    | ((with_reducible apply Moves.after coreLoss_moves ?e ?_); case e => rfl)
    | with_reducible apply Ends.next ?_
    | with_reducible apply Ends.ite ?_ ?_
    | with_reducible apply Moves.ite ?_ ?_

theorem applyFreq_moves {x0} : Moves 524288 x0 (applyFreq x0) := by
  unfold applyFreq
  repeat' first
    | (extract_lets +onlyGivenNames y; first | clear_value y | subst y)
    | with_reducible assumption
    | with_reducible apply Moves.refl
    | fail_if_no_progress ((with_reducible apply Moves.set_pwr ?e ?_); case e => rfl)

theorem execCtlFreqSwitch_moves {x0 x1} : Ends 4465726326308 x1 (execCtlFreqSwitch x0 x1) := by
  unfold execCtlFreqSwitch
  repeat' first
    | with_reducible assumption
    | with_reducible apply Moves.refl
    | ((with_reducible apply Moves.after blockWrite_moves ?e ?_); case e => rfl)
    | ((with_reducible apply Moves.after applyFreq_moves ?e ?_); case e => rfl)
    | with_reducible apply Ends.next ?_

/-! Sys2Proof/Machine/Lifecycle.lean. -/

theorem burnFuses_lc {n l r x} (f : Fuses) : (burnFuses n l r x f).lc = f.lc := by cases l <;> rfl

theorem burnFuses_pending {n l r x} (f : Fuses) : (burnFuses n l r x f).pending = f.pending := by cases l <;> rfl

theorem burnFuses_burns {n l r x} (f : Fuses) : f.burnsTo (burnFuses n l r x f) where
  root := by cases l <;> simp [burnFuses, ← BitVec.or_assoc]
  secret := by cases l <;> simp [burnFuses, ← BitVec.or_assoc]
  svn := by cases l <;> exact Nat.le_refl _
  revoked := by cases l <;> exact Nat.or_self _
  lock := by cases l <;> exact id
  lc := fun h => ⟨fun q hq => by rw [burnFuses_lc]; rw [burnFuses_pending] at hq; exact h q hq, by rw [burnFuses_lc]⟩

theorem lcRank_of_allowed {s : State} {l : Lc} (h : lcRefusal s l = none) : s.fuses.lc.rank ≤ l.rank := by
  have a : lcAllowed s l = true := by
    unfold lcRefusal at h
    split at h
    · cases h
    · split at h
      · cases h
      · next c => simpa using c
  cases l with
  | blank => cases a
  | minted => simp [lcAllowed] at a; simp [a.1, Lc.rank]
  | owned => simp [lcAllowed] at a; simp [a.1.1, Lc.rank]
  | retired =>
    simp [lcAllowed] at a
    rcases a with a | a <;> simp [a, Lc.rank]

theorem lcEnd_moves {x0 x1} : Moves 4 x1 (lcEnd x0 x1) := by
  unfold lcEnd
  repeat' first
    | with_reducible assumption
    | with_reducible apply Moves.refl
    | ((with_reducible apply Moves.after wrF_moves ?e ?_); case e => rfl)

theorem setLevel_moves {x0 x1} : Moves 4398046512132 x1 (setLevel x0 x1) := by
  unfold setLevel
  repeat' first
    | with_reducible assumption
    | with_reducible apply Moves.refl
    | ((with_reducible apply Moves.after wrF_moves ?e ?_); case e => rfl)
    | ((with_reducible apply Moves.after draw_moves ?e ?_); case e => rfl)
    | ((with_reducible apply Moves.after (Moves.of_pair ?p draw_moves) ?e ?_); (case p => assumption); case e => rfl)
    | ((with_reducible apply Moves.after hallmark_moves ?e ?_); case e => rfl)
    | with_reducible apply Moves.ite ?_ ?_

theorem retireEffect_moves {x0} : Moves 4406636446788 x0 (retireEffect x0) := by
  unfold retireEffect
  apply Moves.after setLevel_moves rfl
  exact Moves.set_qst rfl (fun h => Memory.wf_filter _ h.qst) (Moves.set_tin rfl (Moves.refl _ _))

theorem finishLc_moves {x0 x1} (k : x1.fuses.ordered → x1.fuses.lc.rank ≤ x0.rank) : Moves 4406636454980 x1 (finishLc x0 x1) := by
  have h : ∀ f : Fuses, x1.fuses.burnsTo f →
      Moves 4406636454980 x1 (if x0 = .retired then retireEffect { x1 with fuses := f } else { x1 with fuses := f }) := by
    intro f hf
    have h := Moves.set_fuses (m := 4406636454980) rfl hf (Moves.refl _ x1)
    exact Moves.ite (Moves.after retireEffect_moves rfl h) h
  unfold finishLc
  refine h _ ?_
  cases x0 <;>
    exact ⟨BitVec.or_self, BitVec.or_self, Nat.le_refl _, Nat.or_self _, id, fun h => ⟨fun q hq => (nomatch hq), k h⟩⟩

theorem lcRun_moves {x0 x1 x2} (k : x2.fuses.lc.rank ≤ x0.rank) : Moves 4406636471364 x2 (lcRun x0 x1 x2) := by
  unfold lcRun
  extract_lets old secret _ _ s
  have hs : Moves 4406636471364 x2 s := by
    refine Moves.set_free rfl (Moves.set_fuses rfl ?_ (Moves.refl _ _))
    have b := burnFuses_burns (n := x1.getD 8) (l := x0) (r := Config.trng256 x2.free) (x := secret) { x2.fuses with pending := some x0 }
    exact ⟨b.root, b.secret, b.svn, b.revoked, b.lock, fun _ =>
      ⟨fun q hq => by
        rw [burnFuses_pending] at hq
        rw [burnFuses_lc]
        cases hq
        exact k, by rw [burnFuses_lc]⟩⟩
  have hl : s.fuses.lc.rank ≤ x0.rank := by
    change (burnFuses (x1.getD 8) x0 (Config.trng256 x2.free) secret { x2.fuses with pending := some x0 }).lc.rank ≤ _
    rw [burnFuses_lc]
    exact k
  clear_value s
  split
  · exact Moves.after wrF_moves rfl hs
  · apply Moves.ite
    · exact Moves.after lcEnd_moves rfl (Moves.set_top rfl hs)
    · exact Moves.after lcEnd_moves rfl (Moves.after hallmark_moves rfl (Moves.after (finishLc_moves fun _ => hl) rfl hs))

theorem lcCommand_moves {x0 x1 x2 x3 x4} : Moves 4465725826660 x4 (lcCommand x0 x1 x2 x3 x4) := by
  unfold lcCommand
  extract_lets +onlyGivenNames s
  have hs : Moves 4465725826660 x4 s := commandWrite_moves.mono rfl
  clear_value s
  apply Moves.ite hs
  extract_lets r _ t
  have ht : Moves 4465725826660 x4 t := Moves.set_top rfl hs
  have hf : t.fuses = s.fuses := rfl
  clear_value t
  subst r
  split
  · exact Moves.after lcEnd_moves rfl ht
  · next hr =>
    apply Moves.ite
    · exact Moves.after lcEnd_moves rfl ht
    · exact Moves.after (lcRun_moves (by rw [hf]; exact lcRank_of_allowed hr)) rfl ht

theorem execLcArm_moves {x0 x1} : Ends 4465725818404 x1 (execLcArm x0 x1) := by
  unfold execLcArm
  repeat' first
    | (extract_lets +onlyGivenNames y; first | (refine Ends.bind (x := y) ?_ fun _ => ?_; (on_goal 2 => clear_value y); subst y) | clear_value y | subst y)
    | with_reducible assumption
    | with_reducible apply Moves.refl
    | ((with_reducible apply Moves.after commandWrite_moves ?e ?_); case e => rfl)
    | fail_if_no_progress ((with_reducible apply Moves.set_top ?e ?_); case e => rfl)
    | with_reducible apply Ends.next ?_

theorem execLcMint_moves {x0 x1 x2 x3} : Ends 4465725826660 x3 (execLcMint x0 x1 x2 x3) := by
  unfold execLcMint
  repeat' first
    | with_reducible assumption
    | with_reducible apply Moves.refl
    | ((with_reducible apply Moves.after lcCommand_moves ?e ?_); case e => rfl)
    | with_reducible apply Ends.next ?_

theorem execLcOwn_moves {x0 x1 x2} : Ends 4465725826660 x2 (execLcOwn x0 x1 x2) := by
  unfold execLcOwn
  repeat' first
    | with_reducible assumption
    | with_reducible apply Moves.refl
    | ((with_reducible apply Moves.after lcCommand_moves ?e ?_); case e => rfl)
    | with_reducible apply Ends.next ?_

theorem execLcRetire_moves {x0 x1 x2} : Ends 4465725826660 x2 (execLcRetire x0 x1 x2) := by
  unfold execLcRetire
  repeat' first
    | with_reducible assumption
    | with_reducible apply Moves.refl
    | ((with_reducible apply Moves.after lcCommand_moves ?e ?_); case e => rfl)
    | with_reducible apply Ends.next ?_

theorem execOwnerLockSet_moves {x0 x1} : Ends 4465725802020 x1 (execOwnerLockSet x0 x1) := by
  unfold execOwnerLockSet
  repeat' first
    | (extract_lets +onlyGivenNames y; first | (refine Ends.bind (x := y) ?_ fun _ => ?_; (on_goal 2 => clear_value y); subst y) | (refine Moves.bind (x := y) ?_ fun _ => ?_; (on_goal 2 => clear_value y); subst y) | clear_value y | subst y)
    | with_reducible assumption
    | with_reducible apply Moves.refl
    | ((with_reducible apply Moves.after hallmark_moves ?e ?_); case e => rfl)
    | ((with_reducible apply Moves.after blockWrite_moves ?e ?_); case e => rfl)
    | with_reducible apply Ends.next ?_
    | with_reducible apply Ends.ite ?_ ?_
    | with_reducible apply Moves.ite ?_ ?_

theorem execD1Grant_moves {x0 x1} : Ends 4465725802020 x1 (execD1Grant x0 x1) := by
  unfold execD1Grant
  repeat' first
    | (extract_lets +onlyGivenNames y; first | (refine Ends.bind (x := y) ?_ fun _ => ?_; (on_goal 2 => clear_value y); subst y) | (refine Moves.bind (x := y) ?_ fun _ => ?_; (on_goal 2 => clear_value y); subst y) | clear_value y | subst y)
    | with_reducible assumption
    | with_reducible apply Moves.refl
    | ((with_reducible apply Moves.after commandWrite_moves ?e ?_); case e => rfl)
    | ((with_reducible apply Moves.after setLevel_moves ?e ?_); case e => rfl)
    | with_reducible apply Ends.next ?_
    | with_reducible apply Ends.ite ?_ ?_
    | with_reducible apply Moves.ite ?_ ?_

theorem execD0Return_moves {x0 x1} : Ends 4465725802020 x1 (execD0Return x0 x1) := by
  unfold execD0Return
  repeat' first
    | (extract_lets +onlyGivenNames y; first | (refine Ends.bind (x := y) ?_ fun _ => ?_; (on_goal 2 => clear_value y); subst y) | (refine Moves.bind (x := y) ?_ fun _ => ?_; (on_goal 2 => clear_value y); subst y) | clear_value y | subst y)
    | with_reducible assumption
    | with_reducible apply Moves.refl
    | ((with_reducible apply Moves.after commandWrite_moves ?e ?_); case e => rfl)
    | ((with_reducible apply Moves.after setLevel_moves ?e ?_); case e => rfl)
    | with_reducible apply Ends.next ?_
    | with_reducible apply Ends.ite ?_ ?_
    | with_reducible apply Moves.ite ?_ ?_

theorem setIr_moves {x0 x1 x2} : Moves 262144 x2 (setIr x0 x1 x2) := by
  unfold setIr
  repeat' first
    | (extract_lets +onlyGivenNames y; first | clear_value y | subst y)
    | with_reducible assumption
    | with_reducible apply Moves.refl
    | fail_if_no_progress ((with_reducible apply Moves.set_dbg ?e ?_); case e => rfl)

theorem tapScan_moves {x0 x1 x2} : Moves 262148 x2 (tapScan x0 x1 x2) := by
  unfold tapScan
  repeat' first
    | with_reducible assumption
    | with_reducible apply Moves.refl
    | ((with_reducible apply Moves.after wrF_moves ?e ?_); case e => rfl)
    | ((with_reducible apply Moves.after setIr_moves ?e ?_); case e => rfl)

theorem execDbgChallenge_moves {x0} : Ends 6597070028804 x0 (execDbgChallenge x0) := by
  unfold execDbgChallenge
  repeat' first
    | (extract_lets +onlyGivenNames y; first | (refine Ends.bind (x := y) ?_ fun _ => ?_; (on_goal 2 => clear_value y); subst y) | clear_value y | subst y)
    | with_reducible assumption
    | with_reducible apply Moves.refl
    | ((with_reducible apply Moves.after wrF_moves ?e ?_); case e => rfl)
    | ((with_reducible apply Moves.after emit_moves ?e ?_); case e => rfl)
    | ((with_reducible apply Moves.after draw_moves ?e ?_); case e => rfl)
    | ((with_reducible apply Moves.after (Moves.of_pair ?p draw_moves) ?e ?_); (case p => assumption); case e => rfl)
    | ((with_reducible apply Moves.after tapScan_moves ?e ?_); case e => rfl)
    | fail_if_no_progress ((with_reducible apply Moves.set_dbg ?e ?_); case e => rfl)
    | with_reducible apply Ends.next ?_
    | with_reducible apply Ends.ite ?_ ?_
    | with_reducible apply Moves.ite ?_ ?_

theorem judgeResponse_moves {x0 x1 x2} : Moves 4398046774276 x2 (judgeResponse x0 x1 x2) := by
  unfold judgeResponse
  repeat' first
    | (extract_lets +onlyGivenNames y; first | (refine Moves.bind (x := y) ?_ fun _ => ?_; (on_goal 2 => clear_value y); subst y) | clear_value y | subst y)
    | with_reducible assumption
    | with_reducible apply Moves.refl
    | ((with_reducible apply Moves.after bump_moves ?e ?_); case e => rfl)
    | ((with_reducible apply Moves.after hallmark_moves ?e ?_); case e => rfl)
    | ((with_reducible apply Moves.after setLevel_moves ?e ?_); case e => rfl)
    | fail_if_no_progress ((with_reducible apply Moves.set_dbg ?e ?_); case e => rfl)
    | with_reducible apply Moves.ite ?_ ?_

theorem execDbgResponse_moves {x0 x1} : Ends 4398046774276 x1 (execDbgResponse x0 x1) := by
  unfold execDbgResponse
  repeat' first
    | (extract_lets +onlyGivenNames y; first | (refine Ends.bind (x := y) ?_ fun _ => ?_; (on_goal 2 => clear_value y); subst y) | clear_value y | subst y)
    | with_reducible assumption
    | with_reducible apply Moves.refl
    | ((with_reducible apply Moves.after wrF_moves ?e ?_); case e => rfl)
    | ((with_reducible apply Moves.after tapScan_moves ?e ?_); case e => rfl)
    | ((with_reducible apply Moves.after judgeResponse_moves ?e ?_); case e => rfl)
    | fail_if_no_progress ((with_reducible apply Moves.set_dbg ?e ?_); case e => rfl)
    | with_reducible apply Ends.next ?_
    | with_reducible apply Ends.ite ?_ ?_
    | with_reducible apply Moves.ite ?_ ?_
    | split

theorem pinInstr_moves {x0 x1 x2} : Moves 262148 x2 (pinInstr x0 x1 x2) := by
  unfold pinInstr
  repeat' first
    | with_reducible assumption
    | with_reducible apply Moves.refl
    | ((with_reducible apply Moves.after tapScan_moves ?e ?_); case e => rfl)
    | with_reducible apply Moves.ite ?_ ?_

theorem execExtest_moves {x0} : Ends 262148 x0 (execExtest x0) := by
  unfold execExtest
  repeat' first
    | with_reducible assumption
    | with_reducible apply Moves.refl
    | ((with_reducible apply Moves.after pinInstr_moves ?e ?_); case e => rfl)
    | with_reducible apply Ends.next ?_

theorem execClamp_moves {x0} : Ends 262148 x0 (execClamp x0) := by
  unfold execClamp
  repeat' first
    | with_reducible assumption
    | with_reducible apply Moves.refl
    | ((with_reducible apply Moves.after pinInstr_moves ?e ?_); case e => rfl)
    | with_reducible apply Ends.next ?_

theorem execHighz_moves {x0} : Ends 262148 x0 (execHighz x0) := by
  unfold execHighz
  repeat' first
    | with_reducible assumption
    | with_reducible apply Moves.refl
    | ((with_reducible apply Moves.after pinInstr_moves ?e ?_); case e => rfl)
    | with_reducible apply Ends.next ?_

theorem execSamplePreload_moves {x0 x1 x2} : Ends 2199023517700 x2 (execSamplePreload x0 x1 x2) := by
  unfold execSamplePreload
  repeat' first
    | (extract_lets +onlyGivenNames y; first | (refine Ends.bind (x := y) ?_ fun _ => ?_; (on_goal 2 => clear_value y); subst y) | clear_value y | subst y)
    | with_reducible assumption
    | with_reducible apply Moves.refl
    | ((with_reducible apply Moves.after emit_moves ?e ?_); case e => rfl)
    | ((with_reducible apply Moves.after tapScan_moves ?e ?_); case e => rfl)
    | fail_if_no_progress ((with_reducible apply Moves.set_dbg ?e ?_); case e => rfl)
    | with_reducible apply Ends.next ?_
    | with_reducible apply Ends.ite ?_ ?_
    | with_reducible apply Moves.ite ?_ ?_

theorem execIdcode_moves {x0} : Ends 2199023517700 x0 (execIdcode x0) := by
  unfold execIdcode
  repeat' first
    | with_reducible assumption
    | with_reducible apply Moves.refl
    | ((with_reducible apply Moves.after emit_moves ?e ?_); case e => rfl)
    | ((with_reducible apply Moves.after tapScan_moves ?e ?_); case e => rfl)
    | with_reducible apply Ends.next ?_

theorem execBypass_moves {x0} : Ends 262148 x0 (execBypass x0) := by
  unfold execBypass
  repeat' first
    | with_reducible assumption
    | with_reducible apply Moves.refl
    | ((with_reducible apply Moves.after tapScan_moves ?e ?_); case e => rfl)
    | with_reducible apply Ends.next ?_

theorem execTrstNAssert_moves {x0} : Ends 262148 x0 (execTrstNAssert x0) := by
  unfold execTrstNAssert
  repeat' first
    | (extract_lets +onlyGivenNames y; first | clear_value y | subst y)
    | with_reducible assumption
    | with_reducible apply Moves.refl
    | ((with_reducible apply Moves.after dbgAbandon_moves ?e ?_); case e => rfl)
    | ((with_reducible apply Moves.after setIr_moves ?e ?_); case e => rfl)
    | fail_if_no_progress ((with_reducible apply Moves.set_dbg ?e ?_); case e => rfl)
    | with_reducible apply Ends.next ?_

/-! Sys2Proof/Machine/Power.lean. -/

theorem refusePower_moves {x0 x1} : Moves 1028 x1 (refusePower x0 x1) := by
  unfold refusePower
  repeat' first
    | (extract_lets +onlyGivenNames y; first | clear_value y | subst y)
    | with_reducible assumption
    | with_reducible apply Moves.refl
    | ((with_reducible apply Moves.after wrF_moves ?e ?_); case e => rfl)
    | ((with_reducible apply Moves.after bump_moves ?e ?_); case e => rfl)
    | ((with_reducible apply Moves.after hallmark_moves ?e ?_); case e => rfl)

theorem startEntry_moves {x0 x1} : Moves 524292 x1 (startEntry x0 x1) := by
  unfold startEntry
  repeat' first
    | (extract_lets +onlyGivenNames y; first | (refine Moves.bind (x := y) ?_ fun _ => ?_; (on_goal 2 => clear_value y); subst y) | clear_value y | subst y)
    | with_reducible assumption
    | with_reducible apply Moves.refl
    | ((with_reducible apply Moves.after wrF_moves ?e ?_); case e => rfl)
    | fail_if_no_progress ((with_reducible apply Moves.set_pwr ?e ?_); case e => rfl)

theorem execPwrP0_moves {x0 x1} : Ends 4465725802020 x1 (execPwrP0 x0 x1) := by
  unfold execPwrP0
  repeat' first
    | with_reducible assumption
    | with_reducible apply Moves.refl
    | ((with_reducible apply Moves.after commandWrite_moves ?e ?_); case e => rfl)
    | ((with_reducible apply Moves.after wake_moves ?e ?_); case e => rfl)
    | with_reducible apply Ends.next ?_

theorem execPwrP1_moves {x0 x1} : Ends 4465726326308 x1 (execPwrP1 x0 x1) := by
  unfold execPwrP1
  repeat' first
    | (extract_lets +onlyGivenNames y; first | (refine Ends.bind (x := y) ?_ fun _ => ?_; (on_goal 2 => clear_value y); subst y) | (refine Moves.bind (x := y) ?_ fun _ => ?_; (on_goal 2 => clear_value y); subst y) | clear_value y | subst y)
    | with_reducible assumption
    | with_reducible apply Moves.refl
    | ((with_reducible apply Moves.after commandWrite_moves ?e ?_); case e => rfl)
    | ((with_reducible apply Moves.after refusePower_moves ?e ?_); case e => rfl)
    | ((with_reducible apply Moves.after startEntry_moves ?e ?_); case e => rfl)
    | with_reducible apply Ends.next ?_
    | with_reducible apply Ends.ite ?_ ?_
    | with_reducible apply Moves.ite ?_ ?_
    | split

theorem execPwrP2_moves {x0 x1} : Ends 4465726326308 x1 (execPwrP2 x0 x1) := by
  unfold execPwrP2
  repeat' first
    | (extract_lets +onlyGivenNames y; first | (refine Ends.bind (x := y) ?_ fun _ => ?_; (on_goal 2 => clear_value y); subst y) | (refine Moves.bind (x := y) ?_ fun _ => ?_; (on_goal 2 => clear_value y); subst y) | clear_value y | subst y)
    | with_reducible assumption
    | with_reducible apply Moves.refl
    | ((with_reducible apply Moves.after commandWrite_moves ?e ?_); case e => rfl)
    | ((with_reducible apply Moves.after refusePower_moves ?e ?_); case e => rfl)
    | ((with_reducible apply Moves.after startEntry_moves ?e ?_); case e => rfl)
    | with_reducible apply Ends.next ?_
    | with_reducible apply Ends.ite ?_ ?_
    | with_reducible apply Moves.ite ?_ ?_
    | split

theorem execPwrQuench_moves {x0 x1} : Ends 6664816498276 x1 (execPwrQuench x0 x1) := by
  unfold execPwrQuench
  repeat' first
    | with_reducible assumption
    | with_reducible apply Moves.refl
    | ((with_reducible apply Moves.after commandWrite_moves ?e ?_); case e => rfl)
    | ((with_reducible apply Moves.after startQuench_moves ?e ?_); case e => rfl)
    | with_reducible apply Ends.next ?_

theorem setVdd_moves {x0} : Moves 2199023255556 x0 (setVdd x0) := by
  unfold setVdd
  repeat' first
    | (extract_lets +onlyGivenNames y; first | clear_value y | subst y)
    | with_reducible assumption
    | with_reducible apply Moves.refl
    | ((with_reducible apply Moves.after wrF_moves ?e ?_); case e => rfl)
    | ((with_reducible apply Moves.after emit_moves ?e ?_); case e => rfl)

theorem setCap_moves {x0} : Moves 1028 x0 (setCap x0) := by
  unfold setCap
  repeat' first
    | (extract_lets +onlyGivenNames y; first | (refine Moves.bind (x := y) ?_ fun _ => ?_; (on_goal 2 => clear_value y); subst y) | clear_value y | subst y)
    | with_reducible assumption
    | with_reducible apply Moves.refl
    | ((with_reducible apply Moves.after wr_moves ?e ?_); case e => rfl)
    | ((with_reducible apply Moves.after hallmark_moves ?e ?_); case e => rfl)
    | with_reducible apply Moves.ite ?_ ?_

theorem execAvsUpdate_moves {x0 x1 x2} : Ends 6664749581860 x2 (execAvsUpdate x0 x1 x2) := by
  unfold execAvsUpdate
  repeat' first
    | (extract_lets +onlyGivenNames y; first | (refine Ends.bind (x := y) ?_ fun _ => ?_; (on_goal 2 => clear_value y); subst y) | (refine Moves.bind (x := y) ?_ fun _ => ?_; (on_goal 2 => clear_value y); subst y) | clear_value y | subst y)
    | with_reducible assumption
    | with_reducible apply Moves.refl
    | ((with_reducible apply Moves.after wrF_moves ?e ?_); case e => rfl)
    | ((with_reducible apply Moves.after recordFault_moves ?e ?_); case e => rfl)
    | ((with_reducible apply Moves.after applyFreq_moves ?e ?_); case e => rfl)
    | ((with_reducible apply Moves.after setVdd_moves ?e ?_); case e => rfl)
    | ((with_reducible apply Moves.after setCap_moves ?e ?_); case e => rfl)
    | with_reducible apply Ends.next ?_
    | with_reducible apply Ends.ite ?_ ?_
    | with_reducible apply Moves.ite ?_ ?_

theorem setAsleep_moves {x0 x1} : Moves 524292 x1 (setAsleep x0 x1) := by
  unfold setAsleep
  repeat' first
    | (extract_lets +onlyGivenNames y; first | clear_value y | subst y)
    | with_reducible assumption
    | with_reducible apply Moves.refl
    | ((with_reducible apply Moves.after drpStat_moves ?e ?_); case e => rfl)
    | fail_if_no_progress ((with_reducible apply Moves.set_pwr ?e ?_); case e => rfl)
    | with_reducible apply Moves.foldl (fun _ _ => ?_) ?_

theorem execPowerEntryDone_moves {x0} : Ends 2199025882148 x0 (execPowerEntryDone x0) := by
  unfold execPowerEntryDone
  repeat' first
    | (extract_lets +onlyGivenNames y; first | (refine Ends.bind (x := y) ?_ fun _ => ?_; (on_goal 2 => clear_value y); subst y) | (refine Moves.bind (x := y) ?_ fun _ => ?_; (on_goal 2 => clear_value y); subst y) | clear_value y | subst y)
    | with_reducible assumption
    | with_reducible apply Moves.refl
    | ((with_reducible apply Moves.after wrF_moves ?e ?_); case e => rfl)
    | ((with_reducible apply Moves.after hallmark_moves ?e ?_); case e => rfl)
    | ((with_reducible apply Moves.after scPowerDown_moves ?e ?_); case e => rfl)
    | ((with_reducible apply Moves.after laneSet_moves ?e ?_); case e => rfl)
    | ((with_reducible apply Moves.after parkDom_moves ?e ?_); case e => rfl)
    | ((with_reducible apply Moves.after applyFreq_moves ?e ?_); case e => rfl)
    | ((with_reducible apply Moves.after setVdd_moves ?e ?_); case e => rfl)
    | ((with_reducible apply Moves.after setAsleep_moves ?e ?_); case e => rfl)
    | with_reducible apply Ends.next ?_
    | with_reducible apply Ends.ite ?_ ?_
    | with_reducible apply Moves.ite ?_ ?_
    | with_reducible apply Moves.foldl (fun _ _ => ?_) ?_

theorem execPowerExitComplete_moves {x0} : Ends 2199023785220 x0 (execPowerExitComplete x0) := by
  unfold execPowerExitComplete
  repeat' first
    | (extract_lets +onlyGivenNames y; first | (refine Ends.bind (x := y) ?_ fun _ => ?_; (on_goal 2 => clear_value y); subst y) | (refine Moves.bind (x := y) ?_ fun _ => ?_; (on_goal 2 => clear_value y); subst y) | clear_value y | subst y)
    | with_reducible assumption
    | with_reducible apply Moves.refl
    | ((with_reducible apply Moves.after wrF_moves ?e ?_); case e => rfl)
    | ((with_reducible apply Moves.after hallmark_moves ?e ?_); case e => rfl)
    | ((with_reducible apply Moves.after scPowerUp_moves ?e ?_); case e => rfl)
    | ((with_reducible apply Moves.after laneSet_moves ?e ?_); case e => rfl)
    | ((with_reducible apply Moves.after unparkDom_moves ?e ?_); case e => rfl)
    | ((with_reducible apply Moves.after settleFlushes_moves ?e ?_); case e => rfl)
    | ((with_reducible apply Moves.after applyFreq_moves ?e ?_); case e => rfl)
    | ((with_reducible apply Moves.after setVdd_moves ?e ?_); case e => rfl)
    | ((with_reducible apply Moves.after setAsleep_moves ?e ?_); case e => rfl)
    | with_reducible apply Ends.next ?_
    | with_reducible apply Ends.ite ?_ ?_
    | with_reducible apply Moves.ite ?_ ?_
    | with_reducible apply Moves.foldl (fun _ _ => ?_) ?_

theorem execPohTick_moves {x0} : Ends 33796 x0 (execPohTick x0) := by
  unfold execPohTick
  repeat' first
    | (extract_lets +onlyGivenNames y; first | (refine Ends.bind (x := y) ?_ fun _ => ?_; (on_goal 2 => clear_value y); subst y) | (refine Moves.bind (x := y) ?_ fun _ => ?_; (on_goal 2 => clear_value y); subst y) | (refine of_fun y ?_; subst y) | clear_value y | subst y)
    | with_reducible assumption
    | with_reducible apply Moves.refl
    | ((with_reducible apply Moves.after hallmark_moves ?e ?_); case e => rfl)
    | fail_if_no_progress ((with_reducible apply Moves.set_cells ?e ?_); case e => rfl)
    | with_reducible apply Ends.next ?_
    | with_reducible apply Ends.ite ?_ ?_
    | with_reducible apply Moves.ite ?_ ?_

theorem execThermalSample_moves {x0 x1} : Ends 6664817022564 x1 (execThermalSample x0 x1) := by
  unfold execThermalSample
  repeat' first
    | (extract_lets +onlyGivenNames y; first | (refine Ends.bind (x := y) ?_ fun _ => ?_; (on_goal 2 => clear_value y); subst y) | (refine Moves.bind (x := y) ?_ fun _ => ?_; (on_goal 2 => clear_value y); subst y) | clear_value y | subst y)
    | with_reducible assumption
    | with_reducible apply Moves.refl
    | ((with_reducible apply Moves.after wrF_moves ?e ?_); case e => rfl)
    | ((with_reducible apply Moves.after bump_moves ?e ?_); case e => rfl)
    | ((with_reducible apply Moves.after draw_moves ?e ?_); case e => rfl)
    | ((with_reducible apply Moves.after (Moves.of_pair ?p draw_moves) ?e ?_); (case p => assumption); case e => rfl)
    | ((with_reducible apply Moves.after hallmark_moves ?e ?_); case e => rfl)
    | ((with_reducible apply Moves.after recordFault_moves ?e ?_); case e => rfl)
    | ((with_reducible apply Moves.after wake_moves ?e ?_); case e => rfl)
    | ((with_reducible apply Moves.after startQuench_moves ?e ?_); case e => rfl)
    | fail_if_no_progress ((with_reducible apply Moves.set_pwr ?e ?_); case e => rfl)
    | fail_if_no_progress ((with_reducible apply Moves.set_free ?e ?_); case e => rfl)
    | with_reducible apply Ends.next ?_
    | with_reducible apply Ends.ite ?_ ?_
    | with_reducible apply Moves.ite ?_ ?_

theorem slower_moves {x0} : Moves 524288 x0 (slower x0) := by
  unfold slower
  repeat' first
    | (extract_lets +onlyGivenNames y; first | clear_value y | subst y)
    | with_reducible assumption
    | with_reducible apply Moves.refl
    | fail_if_no_progress ((with_reducible apply Moves.set_pwr ?e ?_); case e => rfl)

theorem execThrottleStep_moves {x0} : Ends 525316 x0 (execThrottleStep x0) := by
  unfold execThrottleStep
  repeat' first
    | (extract_lets +onlyGivenNames y; first | (refine Ends.bind (x := y) ?_ fun _ => ?_; (on_goal 2 => clear_value y); subst y) | (refine Moves.bind (x := y) ?_ fun _ => ?_; (on_goal 2 => clear_value y); subst y) | clear_value y | subst y)
    | with_reducible assumption
    | with_reducible apply Moves.refl
    | ((with_reducible apply Moves.after hallmark_moves ?e ?_); case e => rfl)
    | ((with_reducible apply Moves.after slower_moves ?e ?_); case e => rfl)
    | fail_if_no_progress ((with_reducible apply Moves.set_pwr ?e ?_); case e => rfl)
    | with_reducible apply Ends.next ?_
    | with_reducible apply Ends.ite ?_ ?_
    | with_reducible apply Moves.ite ?_ ?_

theorem execPowerSample_moves {x0 x1} : Ends 524292 x1 (execPowerSample x0 x1) := by
  unfold execPowerSample
  repeat' first
    | (extract_lets +onlyGivenNames y; first | (refine Ends.bind (x := y) ?_ fun _ => ?_; (on_goal 2 => clear_value y); subst y) | clear_value y | subst y)
    | with_reducible assumption
    | with_reducible apply Moves.refl
    | ((with_reducible apply Moves.after wrF_moves ?e ?_); case e => rfl)
    | fail_if_no_progress ((with_reducible apply Moves.set_pwr ?e ?_); case e => rfl)
    | with_reducible apply Ends.next ?_
    | with_reducible apply Ends.ite ?_ ?_
    | with_reducible apply Moves.ite ?_ ?_

end Sys2Proof.Machine
end

