-- ==== Sys2Proof/Laws/MovesPages.lean ====
section
/-! SUPPORT. What each definition may change. Page states, credits, occurrences and boot. -/

namespace Sys2Proof.Machine

/-! Sys2Proof/Machine/PageWork.lean. -/

theorem wcAbort_moves {x0} : Moves 2200969414244 x0 (wcAbort x0) := by
  unfold wcAbort
  repeat' first
    | (extract_lets +onlyGivenNames y; first | (refine Moves.bind (x := y) ?_ fun _ => ?_; (on_goal 2 => clear_value y); subst y) | clear_value y | subst y)
    | with_reducible assumption
    | with_reducible apply Moves.refl
    | ((with_reducible apply Moves.after hqFinish_moves ?e ?_); case e => rfl)
    | ((with_reducible apply Moves.after freeSlot_moves ?e ?_); case e => rfl)
    | ((with_reducible apply Moves.after wcReleaseHeld_moves ?e ?_); case e => rfl)
    | with_reducible apply Moves.foldl (fun _ _ => ?_) ?_

theorem xptAbort_moves {x0 x1} : Moves 2475847321188 x1 (xptAbort x0 x1) := by
  unfold xptAbort
  repeat' first
    | with_reducible assumption
    | with_reducible apply Moves.refl
    | ((with_reducible apply Moves.after qpError_moves ?e ?_); case e => rfl)
    | with_reducible apply Moves.foldl (fun _ _ => ?_) ?_

theorem flxAbort_moves {x0 x1} : Moves 6702145996388 x1 (flxAbort x0 x1) := by
  unfold flxAbort
  repeat' first
    | (extract_lets +onlyGivenNames y; first | (refine Moves.bind (x := y) ?_ fun _ => ?_; (on_goal 2 => clear_value y); subst y) | (refine of_fun y ?_; subst y) | clear_value y | subst y)
    | with_reducible assumption
    | with_reducible apply Moves.refl
    | ((with_reducible apply Moves.after startRecon_moves ?e ?_); case e => rfl)
    | ((with_reducible apply Moves.after appendFailed_moves ?e ?_); case e => rfl)
    | ((with_reducible apply Moves.after portDown_moves ?e ?_); case e => rfl)
    | with_reducible apply Moves.ite ?_ ?_
    | with_reducible apply Moves.foldl (fun _ _ => ?_) ?_

theorem netAbort_moves {x0 x1} : Moves 4398180729860 x1 (netAbort x0 x1) := by
  unfold netAbort
  repeat' first
    | (extract_lets +onlyGivenNames y; first | (refine Moves.bind (x := y) ?_ fun _ => ?_; (on_goal 2 => clear_value y); subst y) | clear_value y | subst y)
    | with_reducible assumption
    | with_reducible apply Moves.refl
    | ((with_reducible apply Moves.after draw_moves ?e ?_); case e => rfl)
    | ((with_reducible apply Moves.after (Moves.of_pair ?p draw_moves) ?e ?_); (case p => assumption); case e => rfl)
    | ((with_reducible apply Moves.after linkDownPort_moves ?e ?_); case e => rfl)
    | fail_if_no_progress ((with_reducible apply Moves.set_net ?e ?_); case e => rfl)
    | with_reducible apply Moves.foldl (fun _ _ => ?_) ?_

theorem rplAbort_moves {x0} : Moves 274877906944 x0 (rplAbort x0) := by
  unfold rplAbort
  repeat' first
    | (extract_lets +onlyGivenNames y; first | clear_value y | subst y)
    | with_reducible assumption
    | with_reducible apply Moves.refl
    | ((with_reducible apply Moves.after grpPut_moves ?e ?_); case e => rfl)
    | with_reducible apply Moves.foldl (fun _ _ => ?_) ?_

theorem plnAbort_moves {x0} : Moves 68736253956 x0 (plnAbort x0) := by
  unfold plnAbort
  repeat' first
    | (extract_lets +onlyGivenNames y; first | (refine Moves.bind (x := y) ?_ fun _ => ?_; (on_goal 2 => clear_value y); subst y) | clear_value y | subst y)
    | with_reducible assumption
    | with_reducible apply Moves.refl
    | ((with_reducible apply Moves.after wr_moves ?e ?_); case e => rfl)
    | fail_if_no_progress ((with_reducible apply Moves.set_ldg ?e ?_); case e => rfl)
    | fail_if_no_progress ((with_reducible apply Moves.set_pln ?e ?_); case e => rfl)

theorem scAbort_moves {x0} : Moves 2097188 x0 (scAbort x0) := by
  unfold scAbort
  repeat' first
    | (extract_lets +onlyGivenNames y; first | (refine Moves.bind (x := y) ?_ fun _ => ?_; (on_goal 2 => clear_value y); subst y) | clear_value y | subst y)
    | with_reducible assumption
    | with_reducible apply Moves.refl
    | ((with_reducible apply Moves.after wrF_moves ?e ?_); case e => rfl)
    | ((with_reducible apply Moves.after cleanInvalWay_moves ?e ?_); case e => rfl)
    | fail_if_no_progress ((with_reducible apply Moves.set_msys ?e ?_); case e => rfl)
    | with_reducible apply Moves.foldl (fun _ _ => ?_) ?_

theorem wdlAbort_moves {x0} : Moves 6664832943652 x0 (wdlAbort x0) := by
  unfold wdlAbort
  repeat' first
    | (extract_lets +onlyGivenNames y; first | (refine Moves.bind (x := y) ?_ fun _ => ?_; (on_goal 2 => clear_value y); subst y) | clear_value y | subst y)
    | with_reducible assumption
    | with_reducible apply Moves.refl
    | ((with_reducible apply Moves.after linkDown_moves ?e ?_); case e => rfl)
    | fail_if_no_progress ((with_reducible apply Moves.set_wdl ?e ?_); case e => rfl)

theorem landAbort_moves {x0 x1} : Moves 2200969414244 x1 (landAbort x0 x1) := by
  unfold landAbort
  repeat' first
    | (extract_lets +onlyGivenNames y; first | (refine Moves.bind (x := y) ?_ fun _ => ?_; (on_goal 2 => clear_value y); subst y) | clear_value y | subst y)
    | with_reducible assumption
    | with_reducible apply Moves.refl
    | ((with_reducible apply Moves.after hqShort_moves ?e ?_); case e => rfl)
    | fail_if_no_progress ((with_reducible apply Moves.set_wc ?e ?_); case e => rfl)
    | with_reducible apply Moves.ite ?_ ?_
    | with_reducible apply Moves.foldl (fun _ _ => ?_) ?_

theorem workLost_moves {x0 x1 x2} : Moves 7009373785700 x2 (workLost x0 x1 x2) := by
  unfold workLost
  repeat' first
    | (extract_lets +onlyGivenNames y; first | clear_value y | subst y)
    | with_reducible assumption
    | with_reducible apply Moves.refl
    | ((with_reducible apply Moves.after tmkEnd_moves ?e ?_); case e => rfl)
    | ((with_reducible apply Moves.after hqAbort_moves ?e ?_); case e => rfl)
    | ((with_reducible apply Moves.after laneSet_moves ?e ?_); case e => rfl)
    | ((with_reducible apply Moves.after dbgAbandon_moves ?e ?_); case e => rfl)
    | ((with_reducible apply Moves.after fwuAbandon_moves ?e ?_); case e => rfl)
    | ((with_reducible apply Moves.after wcAbort_moves ?e ?_); case e => rfl)
    | ((with_reducible apply Moves.after xptAbort_moves ?e ?_); case e => rfl)
    | ((with_reducible apply Moves.after flxAbort_moves ?e ?_); case e => rfl)
    | ((with_reducible apply Moves.after netAbort_moves ?e ?_); case e => rfl)
    | ((with_reducible apply Moves.after rplAbort_moves ?e ?_); case e => rfl)
    | ((with_reducible apply Moves.after plnAbort_moves ?e ?_); case e => rfl)
    | ((with_reducible apply Moves.after scAbort_moves ?e ?_); case e => rfl)
    | ((with_reducible apply Moves.after wdlAbort_moves ?e ?_); case e => rfl)
    | ((with_reducible apply Moves.after landAbort_moves ?e ?_); case e => rfl)
    | fail_if_no_progress ((with_reducible apply Moves.set_tmk ?e ?_); case e => rfl)
    | with_reducible apply Moves.ite ?_ ?_
    | split

theorem abortWork_moves {x0 x1 x2} : Moves 7009373785700 x2 (abortWork x0 x1 x2) := by
  unfold abortWork
  repeat' first
    | with_reducible assumption
    | with_reducible apply Moves.refl
    | ((with_reducible apply Moves.after abortPage_moves ?e ?_); case e => rfl)
    | ((with_reducible apply Moves.after workLost_moves ?e ?_); case e => rfl)

theorem fatal_moves {x0 x1 x2 x3} : Moves 7009373785700 x3 (fatal x0 x1 x2 x3) := by
  unfold fatal
  repeat' first
    | with_reducible assumption
    | with_reducible apply Moves.refl
    | ((with_reducible apply Moves.after recordFault_moves ?e ?_); case e => rfl)
    | ((with_reducible apply Moves.after workLost_moves ?e ?_); case e => rfl)
    | with_reducible apply Moves.ite ?_ ?_

theorem ldgStop_moves {x0} : Moves 16777220 x0 (ldgStop x0) := by
  unfold ldgStop
  repeat' first
    | (extract_lets +onlyGivenNames y; first | clear_value y | subst y)
    | with_reducible assumption
    | with_reducible apply Moves.refl
    | ((with_reducible apply Moves.after wr_moves ?e ?_); case e => rfl)
    | ((with_reducible apply Moves.after wrF_moves ?e ?_); case e => rfl)
    | fail_if_no_progress ((with_reducible apply Moves.set_ldg ?e ?_); case e => rfl)

theorem ingStop_moves {x0} : Moves 33554432 x0 (ingStop x0) := by
  unfold ingStop
  repeat' first
    | (extract_lets +onlyGivenNames y; first | clear_value y | subst y)
    | with_reducible assumption
    | with_reducible apply Moves.refl
    | fail_if_no_progress ((with_reducible apply Moves.set_ing ?e ?_); case e => rfl)

theorem offEffects_moves {x0 x1} : Moves 137489286148 x1 (offEffects x0 x1) := by
  unfold offEffects
  repeat' first
    | (extract_lets +onlyGivenNames y; first | clear_value y | subst y)
    | with_reducible assumption
    | with_reducible apply Moves.refl
    | ((with_reducible apply Moves.after wrF_moves ?e ?_); case e => rfl)
    | ((with_reducible apply Moves.after laneSet_moves ?e ?_); case e => rfl)
    | ((with_reducible apply Moves.after ldgStop_moves ?e ?_); case e => rfl)
    | ((with_reducible apply Moves.after ingStop_moves ?e ?_); case e => rfl)
    | fail_if_no_progress ((with_reducible apply Moves.set_anl ?e ?_); case e => rfl)
    | fail_if_no_progress ((with_reducible apply Moves.set_hlm ?e ?_); case e => rfl)
    | split

theorem toOff_moves {x0 x1} : Moves 137489286148 x1 (toOff x0 x1) := by
  unfold toOff
  repeat' first
    | with_reducible assumption
    | with_reducible apply Moves.refl
    | ((with_reducible apply Moves.after wrF_moves ?e ?_); case e => rfl)
    | ((with_reducible apply Moves.after setState_moves ?e ?_); case e => rfl)
    | ((with_reducible apply Moves.after offEffects_moves ?e ?_); case e => rfl)

theorem leaveRun_moves {x0 x1} : Moves 6664832943652 x1 (leaveRun x0 x1) := by
  unfold leaveRun
  repeat' first
    | (extract_lets +onlyGivenNames y; first | (refine Moves.bind (x := y) ?_ fun _ => ?_; (on_goal 2 => clear_value y); subst y) | clear_value y | subst y)
    | with_reducible assumption
    | with_reducible apply Moves.refl
    | ((with_reducible apply Moves.after rgPut_moves ?e ?_); case e => rfl)
    | ((with_reducible apply Moves.after linkDown_moves ?e ?_); case e => rfl)
    | with_reducible apply Moves.ite ?_ ?_
    | with_reducible apply Moves.foldl (fun _ _ => ?_) ?_

theorem toDrain_moves {x0 x1} : Moves 6664832943652 x1 (toDrain x0 x1) := by
  unfold toDrain
  repeat' first
    | with_reducible assumption
    | with_reducible apply Moves.refl
    | ((with_reducible apply Moves.after setState_moves ?e ?_); case e => rfl)
    | ((with_reducible apply Moves.after leaveRun_moves ?e ?_); case e => rfl)

/-! Sys2Proof/Machine/PageStart.lean. -/

theorem clkReady_moves {x0} : Moves 4 x0 (clkReady x0) := by
  unfold clkReady
  repeat' first
    | with_reducible assumption
    | with_reducible apply Moves.refl
    | ((with_reducible apply Moves.after wrF_moves ?e ?_); case e => rfl)
    | ((with_reducible apply Moves.after domSet__moves ?e ?_); case e => rfl)
    | with_reducible apply Moves.foldl (fun _ _ => ?_) ?_

theorem readyWork_moves {x0 x1} : Moves 22565357092 x1 (readyWork x0 x1) := by
  unfold readyWork
  repeat' first
    | (extract_lets +onlyGivenNames y; first | clear_value y | subst y)
    | with_reducible assumption
    | with_reducible apply Moves.refl
    | ((with_reducible apply Moves.after wr_moves ?e ?_); case e => rfl)
    | ((with_reducible apply Moves.after wrF_moves ?e ?_); case e => rfl)
    | ((with_reducible apply Moves.after wr64_moves ?e ?_); case e => rfl)
    | ((with_reducible apply Moves.after fltPut_moves ?e ?_); case e => rfl)
    | ((with_reducible apply Moves.after setNextSeq_moves ?e ?_); case e => rfl)
    | ((with_reducible apply Moves.after tmkReady_moves ?e ?_); case e => rfl)
    | ((with_reducible apply Moves.after rebuildSlot_moves ?e ?_); case e => rfl)
    | ((with_reducible apply Moves.after laneSet_moves ?e ?_); case e => rfl)
    | ((with_reducible apply Moves.after clkReady_moves ?e ?_); case e => rfl)
    | fail_if_no_progress ((with_reducible apply Moves.set_asy ?e ?_); case e => rfl)
    | with_reducible apply Moves.foldl (fun _ _ => ?_) ?_
    | with_reducible apply Moves.foldl2 (fun _ _ => ?_) ?_
    | split

theorem lateEject_moves {x0} : Moves 2304099485284 x0 (lateEject x0) := by
  unfold lateEject
  repeat' first
    | (extract_lets +onlyGivenNames y; first | clear_value y | subst y)
    | with_reducible assumption
    | with_reducible apply Moves.refl
    | ((with_reducible apply Moves.after ejectNow_moves ?e ?_); case e => rfl)
    | fail_if_no_progress ((with_reducible apply Moves.set_pln ?e ?_); case e => rfl)
    | with_reducible apply Moves.foldl (fun _ _ => ?_) ?_

theorem runWork_moves {x0 x1} : Moves 2304101713508 x1 (runWork x0 x1) := by
  unfold runWork
  repeat' first
    | (extract_lets +onlyGivenNames y; first | (refine Moves.bind (x := y) ?_ fun _ => ?_; (on_goal 2 => clear_value y); subst y) | (refine of_fun y ?_; subst y) | clear_value y | subst y)
    | with_reducible assumption
    | with_reducible apply Moves.refl
    | ((with_reducible apply Moves.after wrF_moves ?e ?_); case e => rfl)
    | ((with_reducible apply Moves.after hallmark_moves ?e ?_); case e => rfl)
    | ((with_reducible apply Moves.after eqcClear_moves ?e ?_); case e => rfl)
    | ((with_reducible apply Moves.after scRun_moves ?e ?_); case e => rfl)
    | ((with_reducible apply Moves.after ldgStat_moves ?e ?_); case e => rfl)
    | ((with_reducible apply Moves.after trainLink_moves ?e ?_); case e => rfl)
    | ((with_reducible apply Moves.after lateEject_moves ?e ?_); case e => rfl)
    | fail_if_no_progress ((with_reducible apply Moves.set_boot ?e ?_); case e => rfl)
    | fail_if_no_progress ((with_reducible apply Moves.set_wdl ?e ?_); case e => rfl)
    | with_reducible apply Moves.ite ?_ ?_
    | split

theorem ringsOpen_moves {x0 x1} : Moves 2147483648 x1 (ringsOpen x0 x1) := by
  unfold ringsOpen
  repeat' first
    | (extract_lets +onlyGivenNames y; first | clear_value y | subst y)
    | with_reducible assumption
    | with_reducible apply Moves.refl
    | ((with_reducible apply Moves.after rgPut_moves ?e ?_); case e => rfl)
    | ((with_reducible apply Moves.after joinQueues_moves ?e ?_); case e => rfl)
    | with_reducible apply Moves.foldl (fun _ _ => ?_) ?_

theorem runAgain_moves {x0 x1} : Moves 2201506283524 x1 (runAgain x0 x1) := by
  unfold runAgain
  repeat' first
    | (extract_lets +onlyGivenNames y; first | (refine Moves.bind (x := y) ?_ fun _ => ?_; (on_goal 2 => clear_value y); subst y) | clear_value y | subst y)
    | with_reducible assumption
    | with_reducible apply Moves.refl
    | ((with_reducible apply Moves.after setState_moves ?e ?_); case e => rfl)
    | ((with_reducible apply Moves.after pumpAll_moves ?e ?_); case e => rfl)
    | ((with_reducible apply Moves.after trainLink_moves ?e ?_); case e => rfl)
    | ((with_reducible apply Moves.after ringsOpen_moves ?e ?_); case e => rfl)
    | with_reducible apply Moves.ite ?_ ?_
    | with_reducible apply Moves.foldl (fun _ _ => ?_) ?_

theorem featsLive_moves {x0 x1} : Moves 4 x1 (featsLive x0 x1) := by
  unfold featsLive
  repeat' first
    | with_reducible assumption
    | with_reducible apply Moves.refl
    | ((with_reducible apply Moves.after wr_moves ?e ?_); case e => rfl)
    | with_reducible apply Moves.foldl (fun _ _ => ?_) ?_

theorem evaluate_moves {x0 x1} : Moves 6734360479332 x1 (evaluate x0 x1) := by
  unfold evaluate
  repeat' first
    | (extract_lets +onlyGivenNames y; first | (refine Moves.bind (x := y) ?_ fun _ => ?_; (on_goal 2 => clear_value y); subst y) | clear_value y | subst y)
    | with_reducible assumption
    | with_reducible apply Moves.refl
    | ((with_reducible apply Moves.after wrF_moves ?e ?_); case e => rfl)
    | ((with_reducible apply Moves.after hallmark_moves ?e ?_); case e => rfl)
    | ((with_reducible apply Moves.after event_moves ?e ?_); case e => rfl)
    | ((with_reducible apply Moves.after setState_moves ?e ?_); case e => rfl)
    | ((with_reducible apply Moves.after recordFault_moves ?e ?_); case e => rfl)
    | ((with_reducible apply Moves.after toDrain_moves ?e ?_); case e => rfl)
    | ((with_reducible apply Moves.after runWork_moves ?e ?_); case e => rfl)
    | ((with_reducible apply Moves.after ringsOpen_moves ?e ?_); case e => rfl)
    | ((with_reducible apply Moves.after featsLive_moves ?e ?_); case e => rfl)
    | with_reducible apply Moves.ite ?_ ?_

theorem pageReady_moves {x0 x1} : Moves 6734360479332 x1 (pageReady x0 x1) := by
  unfold pageReady
  repeat' first
    | (extract_lets +onlyGivenNames y; first | (refine Moves.bind (x := y) ?_ fun _ => ?_; (on_goal 2 => clear_value y); subst y) | clear_value y | subst y)
    | with_reducible assumption
    | with_reducible apply Moves.refl
    | ((with_reducible apply Moves.after wrF_moves ?e ?_); case e => rfl)
    | ((with_reducible apply Moves.after readyWork_moves ?e ?_); case e => rfl)
    | ((with_reducible apply Moves.after evaluate_moves ?e ?_); case e => rfl)
    | with_reducible apply Moves.ite ?_ ?_

theorem startWork_moves {x0 x1} : Moves 2543459501572 x1 (startWork x0 x1) := by
  unfold startWork
  repeat' first
    | (extract_lets +onlyGivenNames y; first | clear_value y | subst y)
    | with_reducible assumption
    | with_reducible apply Moves.refl
    | ((with_reducible apply Moves.after wrF_moves ?e ?_); case e => rfl)
    | ((with_reducible apply Moves.after eqcClear_moves ?e ?_); case e => rfl)
    | ((with_reducible apply Moves.after updateTargets_moves ?e ?_); case e => rfl)
    | ((with_reducible apply Moves.after plnMeets_moves ?e ?_); case e => rfl)
    | fail_if_no_progress ((with_reducible apply Moves.set_hq ?e ?_); case e => rfl)
    | fail_if_no_progress ((with_reducible apply Moves.set_rpl ?e ?_); case e => rfl)
    | fail_if_no_progress ((with_reducible apply Moves.set_xpt ?e ?_); case e => rfl)
    | split

theorem toStart_moves {x0 x1} : Moves 7009238386276 x1 (toStart x0 x1) := by
  unfold toStart
  repeat' first
    | (extract_lets +onlyGivenNames y; first | (refine Moves.bind (x := y) ?_ fun _ => ?_; (on_goal 2 => clear_value y); subst y) | clear_value y | subst y)
    | with_reducible assumption
    | with_reducible apply Moves.refl
    | ((with_reducible apply Moves.after setState_moves ?e ?_); case e => rfl)
    | ((with_reducible apply Moves.after pageReady_moves ?e ?_); case e => rfl)
    | ((with_reducible apply Moves.after startWork_moves ?e ?_); case e => rfl)
    | with_reducible apply Moves.ite ?_ ?_

/-! Sys2Proof/Machine/Credits.lean. -/

theorem checkEntry_moves {x0 x1 x2} : Moves 7009373785700 x2 (checkEntry x0 x1 x2) := by
  unfold checkEntry
  repeat' first
    | with_reducible assumption
    | with_reducible apply Moves.refl
    | ((with_reducible apply Moves.after fatal_moves ?e ?_); case e => rfl)
    | with_reducible apply Moves.ite ?_ ?_

theorem execQueueEntryArrive_moves {x0 x1 x2 x3} : Ends 7009373785956 x3 (execQueueEntryArrive x0 x1 x2 x3) := by
  unfold execQueueEntryArrive
  repeat' first
    | (extract_lets +onlyGivenNames y; first | clear_value y | subst y)
    | with_reducible assumption
    | with_reducible apply Moves.refl
    | ((with_reducible apply Moves.after queuePut_moves ?e ?_); case e => rfl)
    | ((with_reducible apply Moves.after fatal_moves ?e ?_); case e => rfl)
    | ((with_reducible apply Moves.after checkEntry_moves ?e ?_); case e => rfl)
    | with_reducible apply Ends.next ?_
    | with_reducible apply Ends.ite ?_ ?_
    | with_reducible apply Moves.ite ?_ ?_

theorem execCreditReturn_moves {x0 x1 x2} : Ends 7009373785956 x2 (execCreditReturn x0 x1 x2) := by
  unfold execCreditReturn
  repeat' first
    | (extract_lets +onlyGivenNames y; first | clear_value y | subst y)
    | with_reducible assumption
    | with_reducible apply Moves.refl
    | ((with_reducible apply Moves.after queuePut_moves ?e ?_); case e => rfl)
    | ((with_reducible apply Moves.after fatal_moves ?e ?_); case e => rfl)
    | with_reducible apply Ends.next ?_
    | with_reducible apply Ends.ite ?_ ?_
    | with_reducible apply Moves.ite ?_ ?_

theorem execFarSideReset_moves {x0 x1 x2 x3 x4} : Ends 260 x4 (execFarSideReset x0 x1 x2 x3 x4) := by
  unfold execFarSideReset
  repeat' first
    | (extract_lets +onlyGivenNames y; first | clear_value y | subst y)
    | with_reducible assumption
    | with_reducible apply Moves.refl
    | ((with_reducible apply Moves.after farReset_moves ?e ?_); case e => rfl)
    | with_reducible apply Ends.next ?_
    | with_reducible apply Ends.ite ?_ ?_
    | with_reducible apply Moves.ite ?_ ?_

theorem execCrossingFlushTimeout_moves {x0 x1 x2 x3} : Ends 7009373785700 x3 (execCrossingFlushTimeout x0 x1 x2 x3) := by
  unfold execCrossingFlushTimeout
  repeat' first
    | (extract_lets +onlyGivenNames y; first | clear_value y | subst y)
    | with_reducible assumption
    | with_reducible apply Moves.refl
    | ((with_reducible apply Moves.after fatal_moves ?e ?_); case e => rfl)
    | with_reducible apply Ends.next ?_
    | with_reducible apply Ends.ite ?_ ?_
    | with_reducible apply Moves.ite ?_ ?_

/-! Sys2Proof/Machine/Occurrence.lean. -/

theorem execEventOccurrence_moves {x0 x1 x2 x3} : Ends 7009373785700 x3 (execEventOccurrence x0 x1 x2 x3) := by
  unfold execEventOccurrence
  repeat' first
    | with_reducible assumption
    | with_reducible apply Moves.refl
    | ((with_reducible apply Moves.after event_moves ?e ?_); case e => rfl)
    | ((with_reducible apply Moves.after fatal_moves ?e ?_); case e => rfl)
    | with_reducible apply Ends.next ?_
    | with_reducible apply Ends.ite ?_ ?_
    | with_reducible apply Moves.ite ?_ ?_

theorem laneHeld_moves {x0 x1} : Moves 4404488962084 x1 (laneHeld x0 x1) := by
  unfold laneHeld
  repeat' first
    | with_reducible assumption
    | with_reducible apply Moves.refl
    | ((with_reducible apply Moves.after undefOut_moves ?e ?_); case e => rfl)
    | ((with_reducible apply Moves.after abandonOpen_moves ?e ?_); case e => rfl)
    | ((with_reducible apply Moves.after endDsc_moves ?e ?_); case e => rfl)
    | split

theorem unitHeld_moves {x0 x1} : Moves 4408783929380 x1 (unitHeld x0 x1) := by
  unfold unitHeld
  repeat' first
    | (extract_lets +onlyGivenNames y; first | (refine Moves.bind (x := y) ?_ fun _ => ?_; (on_goal 2 => clear_value y); subst y) | clear_value y | subst y)
    | with_reducible assumption
    | with_reducible apply Moves.refl
    | ((with_reducible apply Moves.after bump_moves ?e ?_); case e => rfl)
    | ((with_reducible apply Moves.after undefOut_moves ?e ?_); case e => rfl)
    | ((with_reducible apply Moves.after dropReq_moves ?e ?_); case e => rfl)
    | ((with_reducible apply Moves.after tinEnd_moves ?e ?_); case e => rfl)
    | with_reducible apply Moves.ite ?_ ?_
    | split

theorem boundFault_moves {x0 x1} : Moves 7009373785700 x1 (boundFault x0 x1) := by
  unfold boundFault
  repeat' first
    | with_reducible assumption
    | with_reducible apply Moves.refl
    | ((with_reducible apply Moves.after fatal_moves ?e ?_); case e => rfl)
    | with_reducible apply Moves.ite ?_ ?_

theorem markOut_moves {x0 x1 x2 x3} : Moves 4 x3 (markOut x0 x1 x2 x3) := by
  unfold markOut
  repeat' first
    | with_reducible assumption
    | with_reducible apply Moves.refl
    | ((with_reducible apply Moves.after wrF_moves ?e ?_); case e => rfl)

theorem unitOut_moves {x0 x1 x2} : Moves 7009373785700 x2 (unitOut x0 x1 x2) := by
  unfold unitOut
  repeat' first
    | with_reducible assumption
    | with_reducible apply Moves.refl
    | ((with_reducible apply Moves.after laneHeld_moves ?e ?_); case e => rfl)
    | ((with_reducible apply Moves.after unitHeld_moves ?e ?_); case e => rfl)
    | ((with_reducible apply Moves.after boundFault_moves ?e ?_); case e => rfl)
    | ((with_reducible apply Moves.after markOut_moves ?e ?_); case e => rfl)
    | with_reducible apply Moves.ite ?_ ?_
    | split

theorem pathCrc_moves {x0 x1 x2} : Moves 2304032375844 x2 (pathCrc x0 x1 x2) := by
  unfold pathCrc
  repeat' first
    | (extract_lets +onlyGivenNames y; first | (refine Moves.bind (x := y) ?_ fun _ => ?_; (on_goal 2 => clear_value y); subst y) | clear_value y | subst y)
    | with_reducible assumption
    | with_reducible apply Moves.refl
    | ((with_reducible apply Moves.after bump_moves ?e ?_); case e => rfl)
    | ((with_reducible apply Moves.after grainLost_moves ?e ?_); case e => rfl)
    | ((with_reducible apply Moves.after reconEnd_moves ?e ?_); case e => rfl)
    | ((with_reducible apply Moves.after startRecon_moves ?e ?_); case e => rfl)
    | split

theorem execHallmarkOccurrence_moves {x0 x1 x2 x3} : Ends 7009373785700 x3 (execHallmarkOccurrence x0 x1 x2 x3) := by
  unfold execHallmarkOccurrence
  repeat' first
    | (extract_lets +onlyGivenNames y; first | (refine Ends.bind (x := y) ?_ fun _ => ?_; (on_goal 2 => clear_value y); subst y) | (refine Moves.bind (x := y) ?_ fun _ => ?_; (on_goal 2 => clear_value y); subst y) | (refine of_fun y ?_; subst y) | clear_value y | subst y)
    | with_reducible assumption
    | with_reducible apply Moves.refl
    | ((with_reducible apply Moves.after bump_moves ?e ?_); case e => rfl)
    | ((with_reducible apply Moves.after hallmark_moves ?e ?_); case e => rfl)
    | ((with_reducible apply Moves.after unitOut_moves ?e ?_); case e => rfl)
    | ((with_reducible apply Moves.after pathCrc_moves ?e ?_); case e => rfl)
    | with_reducible apply Ends.next ?_
    | with_reducible apply Ends.ite ?_ ?_
    | with_reducible apply Moves.ite ?_ ?_

/-! Sys2Proof/Machine/Pages.lean. -/

theorem enableWrite_moves {x0 x1 x2} : Moves 4465725802020 x2 (enableWrite x0 x1 x2) := by
  unfold enableWrite
  repeat' first
    | with_reducible assumption
    | with_reducible apply Moves.refl
    | ((with_reducible apply Moves.after wrF_moves ?e ?_); case e => rfl)
    | ((with_reducible apply Moves.after conflict_moves ?e ?_); case e => rfl)
    | with_reducible apply Moves.ite ?_ ?_

theorem faultClear_moves {x0 x1} : Moves 137489286148 x1 (faultClear x0 x1) := by
  unfold faultClear
  repeat' first
    | (extract_lets +onlyGivenNames y; first | (refine Moves.bind (x := y) ?_ fun _ => ?_; (on_goal 2 => clear_value y); subst y) | clear_value y | subst y)
    | with_reducible assumption
    | with_reducible apply Moves.refl
    | ((with_reducible apply Moves.after wr_moves ?e ?_); case e => rfl)
    | ((with_reducible apply Moves.after toOff_moves ?e ?_); case e => rfl)
    | with_reducible apply Moves.ite ?_ ?_

theorem ctrlMoves_moves {x0 x1 x2} : Moves 7146812870244 x2 (ctrlMoves x0 x1 x2) := by
  unfold ctrlMoves
  repeat' first
    | (extract_lets +onlyGivenNames y; first | clear_value y | subst y)
    | with_reducible assumption
    | with_reducible apply Moves.refl
    | ((with_reducible apply Moves.after abortWork_moves ?e ?_); case e => rfl)
    | ((with_reducible apply Moves.after toOff_moves ?e ?_); case e => rfl)
    | ((with_reducible apply Moves.after toDrain_moves ?e ?_); case e => rfl)
    | ((with_reducible apply Moves.after runAgain_moves ?e ?_); case e => rfl)
    | ((with_reducible apply Moves.after toStart_moves ?e ?_); case e => rfl)
    | with_reducible apply Moves.ite ?_ ?_

theorem runRequest_moves {x0 x1} : Moves 6734360479332 x1 (runRequest x0 x1) := by
  unfold runRequest
  repeat' first
    | with_reducible assumption
    | with_reducible apply Moves.refl
    | ((with_reducible apply Moves.after wrF_moves ?e ?_); case e => rfl)
    | ((with_reducible apply Moves.after conflict_moves ?e ?_); case e => rfl)
    | ((with_reducible apply Moves.after evaluate_moves ?e ?_); case e => rfl)
    | with_reducible apply Moves.ite ?_ ?_

theorem softReset_moves {x0 x1} : Moves 7009373785700 x1 (softReset x0 x1) := by
  unfold softReset
  repeat' first
    | with_reducible assumption
    | with_reducible apply Moves.refl
    | ((with_reducible apply Moves.after wrF_moves ?e ?_); case e => rfl)
    | ((with_reducible apply Moves.after conflict_moves ?e ?_); case e => rfl)
    | ((with_reducible apply Moves.after abortWork_moves ?e ?_); case e => rfl)
    | with_reducible apply Moves.ite ?_ ?_

theorem wdlStep_moves {x0 x1 x2 x3} : Moves 2209576126052 x3 (wdlStep x0 x1 x2 x3) := by
  unfold wdlStep
  repeat' first
    | with_reducible assumption
    | with_reducible apply Moves.refl
    | ((with_reducible apply Moves.after stepDown_moves ?e ?_); case e => rfl)
    | with_reducible apply Moves.ite ?_ ?_

theorem ctrlWrite_moves {x0 x1 x2} : Moves 7146812870244 x2 (ctrlWrite x0 x1 x2) := by
  unfold ctrlWrite
  repeat' first
    | (extract_lets +onlyGivenNames y; first | (refine Moves.bind (x := y) ?_ fun _ => ?_; (on_goal 2 => clear_value y); subst y) | clear_value y | subst y)
    | with_reducible assumption
    | with_reducible apply Moves.refl
    | ((with_reducible apply Moves.after wrF_moves ?e ?_); case e => rfl)
    | ((with_reducible apply Moves.after recordFault_moves ?e ?_); case e => rfl)
    | ((with_reducible apply Moves.after enableWrite_moves ?e ?_); case e => rfl)
    | ((with_reducible apply Moves.after faultClear_moves ?e ?_); case e => rfl)
    | ((with_reducible apply Moves.after ctrlMoves_moves ?e ?_); case e => rfl)
    | ((with_reducible apply Moves.after runRequest_moves ?e ?_); case e => rfl)
    | ((with_reducible apply Moves.after softReset_moves ?e ?_); case e => rfl)
    | ((with_reducible apply Moves.after wdlStep_moves ?e ?_); case e => rfl)
    | with_reducible apply Moves.ite ?_ ?_

theorem pgCtrl_moves {x0 x1 x2 x3} : Moves 7146812870244 x3 (pgCtrl x0 x1 x2 x3) := by
  unfold pgCtrl
  repeat' first
    | with_reducible assumption
    | with_reducible apply Moves.refl
    | ((with_reducible apply Moves.trans ?_ (atRegister_moves ?e (fun _ => ?_))); case e => rfl)
    | ((with_reducible apply Moves.after ctrlWrite_moves ?e ?_); case e => rfl)

theorem execPgEnable_moves {x0 x1 x2} : Ends 7146812870244 x2 (execPgEnable x0 x1 x2) := by
  unfold execPgEnable
  repeat' first
    | with_reducible assumption
    | with_reducible apply Moves.refl
    | ((with_reducible apply Moves.after pgCtrl_moves ?e ?_); case e => rfl)
    | with_reducible apply Ends.next ?_

theorem execPgDisable_moves {x0 x1 x2} : Ends 7146812870244 x2 (execPgDisable x0 x1 x2) := by
  unfold execPgDisable
  repeat' first
    | with_reducible assumption
    | with_reducible apply Moves.refl
    | ((with_reducible apply Moves.after pgCtrl_moves ?e ?_); case e => rfl)
    | with_reducible apply Ends.next ?_

theorem execRunReq_moves {x0 x1 x2} : Ends 7146812870244 x2 (execRunReq x0 x1 x2) := by
  unfold execRunReq
  repeat' first
    | with_reducible assumption
    | with_reducible apply Moves.refl
    | ((with_reducible apply Moves.after pgCtrl_moves ?e ?_); case e => rfl)
    | with_reducible apply Ends.next ?_

theorem execQuiesceSet_moves {x0 x1 x2} : Ends 7146812870244 x2 (execQuiesceSet x0 x1 x2) := by
  unfold execQuiesceSet
  repeat' first
    | with_reducible assumption
    | with_reducible apply Moves.refl
    | ((with_reducible apply Moves.after pgCtrl_moves ?e ?_); case e => rfl)
    | with_reducible apply Ends.next ?_

theorem execQuiesceClear_moves {x0 x1 x2} : Ends 7146812870244 x2 (execQuiesceClear x0 x1 x2) := by
  unfold execQuiesceClear
  repeat' first
    | with_reducible assumption
    | with_reducible apply Moves.refl
    | ((with_reducible apply Moves.after pgCtrl_moves ?e ?_); case e => rfl)
    | with_reducible apply Ends.next ?_

theorem execSoftReset_moves {x0 x1 x2} : Ends 7146812870244 x2 (execSoftReset x0 x1 x2) := by
  unfold execSoftReset
  repeat' first
    | with_reducible assumption
    | with_reducible apply Moves.refl
    | ((with_reducible apply Moves.after pgCtrl_moves ?e ?_); case e => rfl)
    | with_reducible apply Ends.next ?_

theorem execFaultClr_moves {x0 x1 x2} : Ends 7146812870244 x2 (execFaultClr x0 x1 x2) := by
  unfold execFaultClr
  repeat' first
    | with_reducible assumption
    | with_reducible apply Moves.refl
    | ((with_reducible apply Moves.after pgCtrl_moves ?e ?_); case e => rfl)
    | with_reducible apply Ends.next ?_

theorem execPageReady_moves {x0 x1} : Ends 6734360479332 x1 (execPageReady x0 x1) := by
  unfold execPageReady
  repeat' first
    | with_reducible assumption
    | with_reducible apply Moves.refl
    | ((with_reducible apply Moves.after pageReady_moves ?e ?_); case e => rfl)
    | with_reducible apply Ends.next ?_
    | with_reducible apply Ends.ite ?_ ?_
    | with_reducible apply Moves.ite ?_ ?_

theorem execPageDrainComplete_moves {x0 x1} : Ends 7146812739172 x1 (execPageDrainComplete x0 x1) := by
  unfold execPageDrainComplete
  repeat' first
    | with_reducible assumption
    | with_reducible apply Moves.refl
    | ((with_reducible apply Moves.after setState_moves ?e ?_); case e => rfl)
    | ((with_reducible apply Moves.after abortWork_moves ?e ?_); case e => rfl)
    | ((with_reducible apply Moves.after toOff_moves ?e ?_); case e => rfl)
    | with_reducible apply Ends.next ?_
    | with_reducible apply Ends.ite ?_ ?_
    | with_reducible apply Moves.ite ?_ ?_

theorem execDisableBoundExpiry_moves {x0 x1} : Ends 7146812739172 x1 (execDisableBoundExpiry x0 x1) := by
  unfold execDisableBoundExpiry
  repeat' first
    | (extract_lets +onlyGivenNames y; first | (refine Ends.bind (x := y) ?_ fun _ => ?_; (on_goal 2 => clear_value y); subst y) | (refine Moves.bind (x := y) ?_ fun _ => ?_; (on_goal 2 => clear_value y); subst y) | clear_value y | subst y)
    | with_reducible assumption
    | with_reducible apply Moves.refl
    | ((with_reducible apply Moves.after eqcDiscard_moves ?e ?_); case e => rfl)
    | ((with_reducible apply Moves.after abortWork_moves ?e ?_); case e => rfl)
    | ((with_reducible apply Moves.after toOff_moves ?e ?_); case e => rfl)
    | with_reducible apply Ends.next ?_
    | with_reducible apply Ends.ite ?_ ?_
    | with_reducible apply Moves.ite ?_ ?_

theorem resetRegs_moves {x0 x1} : Moves 4 x1 (resetRegs x0 x1) := by
  unfold resetRegs
  extract_lets +onlyGivenNames hold t
  have ht : Moves 4 x1 t := Moves.set_regs rfl (fun h => Tab.wf_filter _ h.regs) (Moves.refl _ _)
  exact Moves.ite (Moves.after wrF_moves rfl ht) ht

theorem dropHeld_moves {x0 x1} : Moves 24 x1 (dropHeld x0 x1) := by
  unfold dropHeld
  repeat' first
    | (extract_lets +onlyGivenNames y; first | (refine Moves.bind (x := y) ?_ fun _ => ?_; (on_goal 2 => clear_value y); subst y) | (refine of_fun y ?_; subst y) | clear_value y | subst y)
    | with_reducible assumption
    | with_reducible apply Moves.refl
    | fail_if_no_progress ((with_reducible apply Moves.set_latch ?e ?_); case e => rfl)
    | fail_if_no_progress ((with_reducible apply Moves.set_held ?e ?_); case e => rfl)

theorem unitsBack_moves {x0 x1 x2} : Moves 4 x2 (unitsBack x0 x1 x2) := by
  unfold unitsBack
  repeat' first
    | (extract_lets +onlyGivenNames y; first | (refine Moves.bind (x := y) ?_ fun _ => ?_; (on_goal 2 => clear_value y); subst y) | clear_value y | subst y)
    | with_reducible assumption
    | with_reducible apply Moves.refl
    | ((with_reducible apply Moves.after wrF_moves ?e ?_); case e => rfl)
    | with_reducible apply Moves.ite ?_ ?_

theorem ringsGone_moves {x0 x1} : Moves 2147483648 x1 (ringsGone x0 x1) := by
  unfold ringsGone
  repeat' first
    | (extract_lets +onlyGivenNames y; first | clear_value y | subst y)
    | with_reducible assumption
    | with_reducible apply Moves.refl
    | fail_if_no_progress ((with_reducible apply Moves.set_eng ?e ?_); case e => rfl)

theorem resetWork_moves {x0 x1} : Moves 360421543428 x1 (resetWork x0 x1) := by
  unfold resetWork
  repeat' first
    | (extract_lets +onlyGivenNames y; first | clear_value y | subst y)
    | with_reducible assumption
    | with_reducible apply Moves.refl
    | ((with_reducible apply Moves.after wrF_moves ?e ?_); case e => rfl)
    | ((with_reducible apply Moves.after hlmDropBuffer_moves ?e ?_); case e => rfl)
    | ((with_reducible apply Moves.after updateTargets_moves ?e ?_); case e => rfl)
    | ((with_reducible apply Moves.after applyFreq_moves ?e ?_); case e => rfl)
    | ((with_reducible apply Moves.after unitsBack_moves ?e ?_); case e => rfl)
    | ((with_reducible apply Moves.after ringsGone_moves ?e ?_); case e => rfl)
    | fail_if_no_progress ((with_reducible apply Moves.set_top ?e ?_); case e => rfl)
    | fail_if_no_progress ((with_reducible apply Moves.set_eqc ?e ?_); case e => rfl)
    | fail_if_no_progress ((with_reducible apply Moves.set_tmk ?e ?_); case e => rfl)
    | fail_if_no_progress ((with_reducible apply Moves.set_hq ?e ?_); case e => rfl)
    | fail_if_no_progress ((with_reducible apply Moves.set_asy ?e ?_); case e => rfl)
    | fail_if_no_progress ((with_reducible apply Moves.set_tin ?e ?_); case e => rfl)
    | fail_if_no_progress ((with_reducible apply Moves.set_ing ?e ?_); case e => rfl)
    | fail_if_no_progress ((with_reducible apply Moves.set_pln ?e ?_); case e => rfl)
    | fail_if_no_progress ((with_reducible apply Moves.set_wc ?e ?_); case e => rfl)
    | fail_if_no_progress ((with_reducible apply Moves.set_rpl ?e ?_); case e => rfl)
    | fail_if_no_progress ((with_reducible apply Moves.set_net ?e ?_); case e => rfl)
    | fail_if_no_progress ((with_reducible apply Moves.set_srd ?e ?_); case e => rfl)
    | fail_if_no_progress ((with_reducible apply Moves.set_cvu ?e ?_); case e => rfl)
    | fail_if_no_progress ((with_reducible apply Moves.set_dbg ?e ?_); case e => rfl)
    | split

theorem resetDone_moves {x0 x1} : Moves 7146825338748 x1 (resetDone x0 x1) := by
  unfold resetDone
  repeat' first
    | (extract_lets +onlyGivenNames y; first | (refine Moves.bind (x := y) ?_ fun _ => ?_; (on_goal 2 => clear_value y); subst y) | clear_value y | subst y)
    | with_reducible assumption
    | with_reducible apply Moves.refl
    | ((with_reducible apply Moves.after wr_moves ?e ?_); case e => rfl)
    | ((with_reducible apply Moves.after setState_moves ?e ?_); case e => rfl)
    | ((with_reducible apply Moves.after queuesReset_moves ?e ?_); case e => rfl)
    | ((with_reducible apply Moves.after abortWork_moves ?e ?_); case e => rfl)
    | ((with_reducible apply Moves.after offEffects_moves ?e ?_); case e => rfl)
    | ((with_reducible apply Moves.after resetRegs_moves ?e ?_); case e => rfl)
    | ((with_reducible apply Moves.after dropHeld_moves ?e ?_); case e => rfl)
    | ((with_reducible apply Moves.after resetWork_moves ?e ?_); case e => rfl)
    | with_reducible apply Moves.ite ?_ ?_

theorem execSoftResetComplete_moves {x0 x1} : Ends 7146825338748 x1 (execSoftResetComplete x0 x1) := by
  unfold execSoftResetComplete
  repeat' first
    | with_reducible assumption
    | with_reducible apply Moves.refl
    | ((with_reducible apply Moves.after resetDone_moves ?e ?_); case e => rfl)
    | with_reducible apply Ends.next ?_
    | with_reducible apply Ends.ite ?_ ?_
    | with_reducible apply Moves.ite ?_ ?_

theorem featAskWrite_moves {x0 x1 x2 x3} : Moves 4465725802020 x3 (featAskWrite x0 x1 x2 x3) := by
  unfold featAskWrite
  repeat' first
    | (extract_lets +onlyGivenNames y; first | clear_value y | subst y)
    | with_reducible assumption
    | with_reducible apply Moves.refl
    | ((with_reducible apply Moves.after wr_moves ?e ?_); case e => rfl)
    | ((with_reducible apply Moves.after recordFault_moves ?e ?_); case e => rfl)
    | with_reducible apply Moves.ite ?_ ?_

theorem evrouteWrite_moves {x0 x1 x2} : Moves 4465725802020 x2 (evrouteWrite x0 x1 x2) := by
  unfold evrouteWrite
  repeat' first
    | with_reducible assumption
    | with_reducible apply Moves.refl
    | ((with_reducible apply Moves.after wr_moves ?e ?_); case e => rfl)
    | ((with_reducible apply Moves.after recordFault_moves ?e ?_); case e => rfl)
    | ((with_reducible apply Moves.after noteRsvd_moves ?e ?_); case e => rfl)
    | with_reducible apply Moves.ite ?_ ?_
    | split

theorem lockWrite_moves {x0 x1 x2} : Moves 4465725802020 x2 (lockWrite x0 x1 x2) := by
  unfold lockWrite
  repeat' first
    | with_reducible assumption
    | with_reducible apply Moves.refl
    | ((with_reducible apply Moves.after wr_moves ?e ?_); case e => rfl)
    | ((with_reducible apply Moves.after noteRsvd_moves ?e ?_); case e => rfl)
    | split

theorem execFeatAskWrite_moves {x0 x1 x2 x3} : Ends 6664749057572 x3 (execFeatAskWrite x0 x1 x2 x3) := by
  unfold execFeatAskWrite
  repeat' first
    | with_reducible assumption
    | with_reducible apply Moves.refl
    | ((with_reducible apply Moves.trans ?_ (atRegister_moves ?e (fun _ => ?_))); case e => rfl)
    | ((with_reducible apply Moves.after featAskWrite_moves ?e ?_); case e => rfl)
    | with_reducible apply Ends.next ?_

theorem execPgEvrouteWrite_moves {x0 x1 x2} : Ends 6664749057572 x2 (execPgEvrouteWrite x0 x1 x2) := by
  unfold execPgEvrouteWrite
  repeat' first
    | with_reducible assumption
    | with_reducible apply Moves.refl
    | ((with_reducible apply Moves.trans ?_ (atRegister_moves ?e (fun _ => ?_))); case e => rfl)
    | ((with_reducible apply Moves.after evrouteWrite_moves ?e ?_); case e => rfl)
    | with_reducible apply Ends.next ?_

theorem execPgLockWrite_moves {x0 x1 x2} : Ends 6664749057572 x2 (execPgLockWrite x0 x1 x2) := by
  unfold execPgLockWrite
  repeat' first
    | with_reducible assumption
    | with_reducible apply Moves.refl
    | ((with_reducible apply Moves.trans ?_ (atRegister_moves ?e (fun _ => ?_))); case e => rfl)
    | ((with_reducible apply Moves.after lockWrite_moves ?e ?_); case e => rfl)
    | with_reducible apply Ends.next ?_

/-! Sys2Proof/Machine/Boot.lean. -/

theorem execPowerOnReset_moves {x0} : Ends 4947802316606 x0 (execPowerOnReset x0) := by
  unfold execPowerOnReset
  repeat' first
    | with_reducible assumption
    | with_reducible apply Moves.refl
    | ((with_reducible apply Moves.after powerOnReset_moves ?e ?_); case e => rfl)
    | with_reducible apply Ends.next ?_

theorem execVinAonLoss_moves {x0} : Ends 4947802283838 x0 (execVinAonLoss x0) := by
  unfold execVinAonLoss
  apply Ends.next
  apply Moves.set_aon rfl
  apply Moves.after chipReset_moves rfl
  exact Moves.set_clk rfl (Moves.set_regs rfl (fun _ => rfl) (Moves.refl _ _))

theorem execAonPllLock_moves {x0} : Ends 6734360544868 x0 (execAonPllLock x0) := by
  unfold execAonPllLock
  repeat' first
    | (extract_lets +onlyGivenNames y; first | (refine Ends.bind (x := y) ?_ fun _ => ?_; (on_goal 2 => clear_value y); subst y) | (refine Moves.bind (x := y) ?_ fun _ => ?_; (on_goal 2 => clear_value y); subst y) | clear_value y | subst y)
    | with_reducible assumption
    | with_reducible apply Moves.refl
    | ((with_reducible apply Moves.after wrF_moves ?e ?_); case e => rfl)
    | ((with_reducible apply Moves.after pageReady_moves ?e ?_); case e => rfl)
    | fail_if_no_progress ((with_reducible apply Moves.set_aon ?e ?_); case e => rfl)
    | with_reducible apply Ends.next ?_
    | with_reducible apply Ends.ite ?_ ?_
    | with_reducible apply Moves.ite ?_ ?_

theorem execResetNAssert_moves {x0} : Ends 7146825539454 x0 (execResetNAssert x0) := by
  unfold execResetNAssert
  repeat' first
    | (extract_lets +onlyGivenNames y; first | (refine Ends.bind (x := y) ?_ fun _ => ?_; (on_goal 2 => clear_value y); subst y) | (refine Moves.bind (x := y) ?_ fun _ => ?_; (on_goal 2 => clear_value y); subst y) | clear_value y | subst y)
    | with_reducible assumption
    | with_reducible apply Moves.refl
    | ((with_reducible apply Moves.after chipReset_moves ?e ?_); case e => rfl)
    | ((with_reducible apply Moves.after startQuench_moves ?e ?_); case e => rfl)
    | fail_if_no_progress ((with_reducible apply Moves.set_aon ?e ?_); case e => rfl)
    | with_reducible apply Ends.next ?_
    | with_reducible apply Ends.ite ?_ ?_
    | with_reducible apply Moves.ite ?_ ?_

theorem execChipReset_moves {x0 x1} : Ends 4947802283838 x1 (execChipReset x0 x1) := by
  unfold execChipReset
  repeat' first
    | with_reducible assumption
    | with_reducible apply Moves.refl
    | ((with_reducible apply Moves.after chipReset_moves ?e ?_); case e => rfl)
    | with_reducible apply Ends.next ?_
    | with_reducible apply Ends.ite ?_ ?_
    | with_reducible apply Moves.ite ?_ ?_

theorem trainDone_moves {x0 x1 x2 x3 x4 x5} : Moves 2097188 x5 (trainDone x0 x1 x2 x3 x4 x5) := by
  unfold trainDone
  extract_lets
  apply Moves.set_msys rfl
  refine Moves.set_mem rfl (fun h => Memory.wf_filter _ h.mem) ?_
  repeat' first
    | (extract_lets +onlyGivenNames y; first | (refine Moves.bind (x := y) ?_ fun _ => ?_; (on_goal 2 => clear_value y); subst y) | (refine of_fun y ?_; subst y) | clear_value y | subst y)
    | with_reducible assumption
    | with_reducible apply Moves.refl
    | ((with_reducible apply Moves.after wrF_moves ?e ?_); case e => rfl)
    | ((with_reducible apply Moves.after bump_moves ?e ?_); case e => rfl)
    | fail_if_no_progress ((with_reducible apply Moves.set_msys ?e ?_); case e => rfl)
    | with_reducible apply Moves.ite ?_ ?_
    | split

theorem trainFail_moves {x0 x1} : Moves 7009373785700 x1 (trainFail x0 x1) := by
  unfold trainFail
  repeat' first
    | with_reducible assumption
    | with_reducible apply Moves.refl
    | ((with_reducible apply Moves.after fatal_moves ?e ?_); case e => rfl)

theorem execMemoryTrainingDone_moves {x0 x1 x2 x3 x4 x5 x6} : Ends 7009373916772 x6 (execMemoryTrainingDone x0 x1 x2 x3 x4 x5 x6) := by
  unfold execMemoryTrainingDone
  repeat' first
    | with_reducible assumption
    | with_reducible apply Moves.refl
    | ((with_reducible apply Moves.after pageReady_moves ?e ?_); case e => rfl)
    | ((with_reducible apply Moves.after trainDone_moves ?e ?_); case e => rfl)
    | ((with_reducible apply Moves.after trainFail_moves ?e ?_); case e => rfl)
    | with_reducible apply Ends.next ?_
    | with_reducible apply Ends.ite ?_ ?_
    | with_reducible apply Moves.ite ?_ ?_

theorem romEnd_moves {x0 x1 x2 x3 x4 x5} : Moves 131104 x5 (romEnd x0 x1 x2 x3 x4 x5) := by
  unfold romEnd
  repeat' first
    | (extract_lets +onlyGivenNames y; first | (refine Moves.bind (x := y) ?_ fun _ => ?_; (on_goal 2 => clear_value y); subst y) | clear_value y | subst y)
    | with_reducible assumption
    | with_reducible apply Moves.refl
    | ((with_reducible apply Moves.after memWrite_moves ?e ?_); case e => rfl)
    | fail_if_no_progress ((with_reducible apply Moves.set_boot ?e ?_); case e => rfl)

theorem romRun_moves {x0 x1 x2} : Moves 7009238386276 x2 (romRun x0 x1 x2) := by
  unfold romRun
  repeat' first
    | (extract_lets +onlyGivenNames y; first | (refine Moves.bind (x := y) ?_ fun _ => ?_; (on_goal 2 => clear_value y); subst y) | clear_value y | subst y)
    | with_reducible assumption
    | with_reducible apply Moves.refl
    | ((with_reducible apply Moves.after wr_moves ?e ?_); case e => rfl)
    | ((with_reducible apply Moves.after wrF_moves ?e ?_); case e => rfl)
    | ((with_reducible apply Moves.after setState_moves ?e ?_); case e => rfl)
    | ((with_reducible apply Moves.after pageReady_moves ?e ?_); case e => rfl)
    | ((with_reducible apply Moves.after startWork_moves ?e ?_); case e => rfl)
    | with_reducible apply Moves.ite ?_ ?_
    | with_reducible apply Moves.foldl (fun _ _ => ?_) ?_

theorem romLifecycle_finish_moves {x0 x1} (k : x1.fuses.pending = some x0) :
    Moves 4406636454980 x1 (romLifecycle.finish x0 x1) := by
  unfold romLifecycle.finish
  extract_lets _ s
  have hs : Moves 4406636454980 x1 s :=
    Moves.set_free rfl (Moves.set_fuses rfl (burnFuses_burns _) (Moves.refl _ _))
  apply Moves.after hallmark_moves rfl
  refine Moves.after (finishLc_moves fun h => ?_) rfl hs
  refine h x0 ?_
  change (burnFuses 8 x0 (Config.trng256 x1.free) 0 x1.fuses).pending = some x0
  rw [burnFuses_pending, k]

theorem romLifecycle_moves {x0} : Moves 4406636454980 x0 (romLifecycle x0) := by
  unfold romLifecycle
  split
  · next h => exact (romLifecycle_finish_moves h).mono rfl
  · next h => exact (romLifecycle_finish_moves h).mono rfl
  · exact Moves.refl _ _

theorem romControl_moves {x0} : Moves 7009238386276 x0 (romControl x0) := by
  unfold romControl
  repeat' first
    | (extract_lets +onlyGivenNames y; first | (refine Moves.bind (x := y) ?_ fun _ => ?_; (on_goal 2 => clear_value y); subst y) | clear_value y | subst y)
    | with_reducible assumption
    | with_reducible apply Moves.refl
    | ((with_reducible apply Moves.after hallmark_moves ?e ?_); case e => rfl)
    | ((with_reducible apply Moves.after romRun_moves ?e ?_); case e => rfl)
    | with_reducible apply Moves.ite ?_ ?_

theorem romMemory_moves {x0 x1 x2 x3 x4} : Moves 7009238386276 x4 (romMemory x0 x1 x2 x3 x4) := by
  unfold romMemory
  repeat' first
    | (extract_lets +onlyGivenNames y; first | (refine Moves.bind (x := y) ?_ fun _ => ?_; (on_goal 2 => clear_value y); subst y) | clear_value y | subst y)
    | with_reducible assumption
    | with_reducible apply Moves.refl
    | ((with_reducible apply Moves.after wrF_moves ?e ?_); case e => rfl)
    | ((with_reducible apply Moves.after trainDone_moves ?e ?_); case e => rfl)
    | ((with_reducible apply Moves.after romRun_moves ?e ?_); case e => rfl)
    | with_reducible apply Moves.foldl (fun _ _ => ?_) ?_

theorem romSlot_moves {x0} : Moves 32768 x0 (romSlot x0).2 := by
  unfold romSlot
  repeat' first
    | (extract_lets +onlyGivenNames y; first | (refine of_fun y ?_; subst y) | clear_value y | subst y)
    | with_reducible assumption
    | with_reducible apply Moves.refl
    | fail_if_no_progress ((with_reducible apply Moves.set_cells ?e ?_); case e => rfl)
    | fail_if_no_progress (with_reducible apply Moves.pair_ite ?_ ?_)

theorem romLocks_moves {x0} : Moves 4 x0 (romLocks x0) := by
  unfold romLocks
  repeat' first
    | with_reducible assumption
    | with_reducible apply Moves.refl
    | ((with_reducible apply Moves.after wrF_moves ?e ?_); case e => rfl)
    | with_reducible apply Moves.foldl (fun _ _ => ?_) ?_

theorem romBoot_moves {x0 x1} : Moves 2199024468004 x1 (romBoot x0 x1) := by
  unfold romBoot
  repeat' first
    | (extract_lets +onlyGivenNames y; first | (refine Moves.bind (x := y) ?_ fun _ => ?_; (on_goal 2 => clear_value y); subst y) | clear_value y | subst y)
    | with_reducible assumption
    | with_reducible apply Moves.refl
    | ((with_reducible apply Moves.after memWrite_moves ?e ?_); case e => rfl)
    | ((with_reducible apply Moves.after emit_moves ?e ?_); case e => rfl)
    | ((with_reducible apply Moves.after romEnd_moves ?e ?_); case e => rfl)
    | ((with_reducible apply Moves.after (Moves.of_pair ?p romSlot_moves) ?e ?_); (case p => assumption); case e => rfl)
    | ((with_reducible apply Moves.after romLocks_moves ?e ?_); case e => rfl)
    | fail_if_no_progress ((with_reducible apply Moves.set_boot ?e ?_); case e => rfl)
    | fail_if_no_progress ((with_reducible apply Moves.set_cells ?e ?_); case e => rfl)
    | fail_if_no_progress ((with_reducible apply Moves.set_fwu ?e ?_); case e => rfl)
    | with_reducible apply Moves.ite ?_ ?_
    | split

theorem execBootRomRun_moves {x0 x1 x2 x3 x4 x5 x6 x7 x8} : Ends 7009374023268 x8 (execBootRomRun x0 x1 x2 x3 x4 x5 x6 x7 x8) := by
  unfold execBootRomRun
  repeat' first
    | (extract_lets +onlyGivenNames y; first | (refine Ends.bind (x := y) ?_ fun _ => ?_; (on_goal 2 => clear_value y); subst y) | (refine Moves.bind (x := y) ?_ fun _ => ?_; (on_goal 2 => clear_value y); subst y) | clear_value y | subst y)
    | with_reducible assumption
    | with_reducible apply Moves.refl
    | ((with_reducible apply Moves.after wrF_moves ?e ?_); case e => rfl)
    | ((with_reducible apply Moves.after bump_moves ?e ?_); case e => rfl)
    | ((with_reducible apply Moves.after setState_moves ?e ?_); case e => rfl)
    | ((with_reducible apply Moves.after setIr_moves ?e ?_); case e => rfl)
    | ((with_reducible apply Moves.after fatal_moves ?e ?_); case e => rfl)
    | ((with_reducible apply Moves.after trainFail_moves ?e ?_); case e => rfl)
    | ((with_reducible apply Moves.after romEnd_moves ?e ?_); case e => rfl)
    | ((with_reducible apply Moves.after romRun_moves ?e ?_); case e => rfl)
    | ((with_reducible apply Moves.after romLifecycle_moves ?e ?_); case e => rfl)
    | ((with_reducible apply Moves.after romControl_moves ?e ?_); case e => rfl)
    | ((with_reducible apply Moves.after romMemory_moves ?e ?_); case e => rfl)
    | ((with_reducible apply Moves.after romBoot_moves ?e ?_); case e => rfl)
    | fail_if_no_progress ((with_reducible apply Moves.set_aon ?e ?_); case e => rfl)
    | fail_if_no_progress ((with_reducible apply Moves.set_boot ?e ?_); case e => rfl)
    | with_reducible apply Ends.next ?_
    | with_reducible apply Ends.ite ?_ ?_
    | with_reducible apply Moves.ite ?_ ?_
    | with_reducible apply Moves.foldl (fun _ _ => ?_) ?_

theorem execBootRetry_moves {x0 x1} : Ends 2199024468004 x1 (execBootRetry x0 x1) := by
  unfold execBootRetry
  repeat' first
    | with_reducible assumption
    | with_reducible apply Moves.refl
    | ((with_reducible apply Moves.after romBoot_moves ?e ?_); case e => rfl)
    | with_reducible apply Ends.next ?_
    | with_reducible apply Ends.ite ?_ ?_
    | with_reducible apply Moves.ite ?_ ?_

theorem execPortTrainTimeout_moves {x0 x1} : Ends 2304099485284 x1 (execPortTrainTimeout x0 x1) := by
  unfold execPortTrainTimeout
  repeat' first
    | (extract_lets +onlyGivenNames y; first | clear_value y | subst y)
    | with_reducible assumption
    | with_reducible apply Moves.refl
    | ((with_reducible apply Moves.after ejectNow_moves ?e ?_); case e => rfl)
    | fail_if_no_progress ((with_reducible apply Moves.set_pln ?e ?_); case e => rfl)
    | with_reducible apply Ends.next ?_
    | with_reducible apply Ends.ite ?_ ?_
    | with_reducible apply Moves.ite ?_ ?_

end Sys2Proof.Machine
end

