-- ==== Sys2Proof/Laws/MovesCsr.lean ====
section
/-! SUPPORT. What each definition may change. Register writes, accesses, debug, pins and the step. -/

namespace Sys2Proof.Machine

/-! Sys2Proof/Machine/CsrHomes.lean. -/

theorem putIp_moves {x0 x1 x2 x3 x4} : Moves 134217728 x4 (putIp x0 x1 x2 x3 x4) := by
  unfold putIp
  repeat' first
    | (extract_lets +onlyGivenNames y; first | clear_value y | subst y)
    | with_reducible assumption
    | with_reducible apply Moves.refl
    | fail_if_no_progress ((with_reducible apply Moves.set_net ?e ?_); case e => rfl)

theorem putPort_moves {x0 x1 x2 x3 x4} : Moves 134217732 x4 (putPort x0 x1 x2 x3 x4) := by
  unfold putPort
  repeat' first
    | (extract_lets +onlyGivenNames y; first | clear_value y | subst y)
    | with_reducible assumption
    | with_reducible apply Moves.refl
    | ((with_reducible apply Moves.after nwr_moves ?e ?_); case e => rfl)
    | ((with_reducible apply Moves.after putIp_moves ?e ?_); case e => rfl)
    | with_reducible apply Moves.ite ?_ ?_

theorem putNs_moves {x0 x1 x2 x3} : Moves 536870912 x3 (putNs x0 x1 x2 x3) := by
  unfold putNs
  repeat' first
    | (extract_lets +onlyGivenNames y; first | clear_value y | subst y)
    | with_reducible assumption
    | with_reducible apply Moves.refl
    | ((with_reducible apply Moves.after nsPut_moves ?e ?_); case e => rfl)
    | with_reducible apply Moves.ite ?_ ?_

theorem storeWord_moves {x0 x1 x2 x3 x4} : Moves 344276877316 x4 (storeWord x0 x1 x2 x3 x4) := by
  unfold storeWord
  repeat' first
    | (extract_lets +onlyGivenNames y; first | clear_value y | subst y)
    | with_reducible assumption
    | with_reducible apply Moves.refl
    | ((with_reducible apply Moves.after wr_moves ?e ?_); case e => rfl)
    | ((with_reducible apply Moves.after gwr_moves ?e ?_); case e => rfl)
    | ((with_reducible apply Moves.after pmodPut_moves ?e ?_); case e => rfl)
    | ((with_reducible apply Moves.after putPort_moves ?e ?_); case e => rfl)
    | ((with_reducible apply Moves.after putNs_moves ?e ?_); case e => rfl)
    | fail_if_no_progress ((with_reducible apply Moves.set_srd ?e ?_); case e => rfl)
    | fail_if_no_progress ((with_reducible apply Moves.set_top ?e ?_); case e => rfl)
    | with_reducible apply Moves.ite ?_ ?_

theorem dmControl_moves {x0 x1} : Moves 262144 x1 (dmControl x0 x1) := by
  unfold dmControl
  repeat' first
    | (extract_lets +onlyGivenNames y; first | clear_value y | subst y)
    | with_reducible assumption
    | with_reducible apply Moves.refl
    | fail_if_no_progress ((with_reducible apply Moves.set_dbg ?e ?_); case e => rfl)
    | with_reducible apply Moves.ite ?_ ?_

theorem octetDown_moves {x0 x1} : Moves 6733686638116 x1 (octetDown x0 x1) := by
  unfold octetDown
  repeat' first
    | with_reducible assumption
    | with_reducible apply Moves.refl
    | ((with_reducible apply Moves.after draw_moves ?e ?_); case e => rfl)
    | ((with_reducible apply Moves.after (Moves.of_pair ?p draw_moves) ?e ?_); (case p => assumption); case e => rfl)
    | ((with_reducible apply Moves.after linkDownPort_moves ?e ?_); case e => rfl)
    | ((with_reducible apply Moves.after flashDrop_moves ?e ?_); case e => rfl)
    | ((with_reducible apply Moves.after failLanes_moves ?e ?_); case e => rfl)
    | with_reducible apply Moves.foldl (fun _ _ => ?_) ?_
    | with_reducible apply Moves.foldl2 (fun _ _ => ?_) ?_
    | split

theorem prbsEnd_moves {x0 x1 x2} : Moves 4398046512132 x2 (prbsEnd x0 x1 x2) := by
  unfold prbsEnd
  repeat' first
    | (extract_lets +onlyGivenNames y; first | (refine Moves.bind (x := y) ?_ fun _ => ?_; (on_goal 2 => clear_value y); subst y) | (refine of_fun y ?_; subst y) | clear_value y | subst y)
    | with_reducible assumption
    | with_reducible apply Moves.refl
    | ((with_reducible apply Moves.after bump_moves ?e ?_); case e => rfl)
    | ((with_reducible apply Moves.after draw_moves ?e ?_); case e => rfl)
    | ((with_reducible apply Moves.after (Moves.of_pair ?p draw_moves) ?e ?_); (case p => assumption); case e => rfl)
    | ((with_reducible apply Moves.after hallmark_moves ?e ?_); case e => rfl)

theorem prbsTurn_moves {x0 x1 x2} : Moves 6733686638116 x2 (prbsTurn x0 x1 x2) := by
  unfold prbsTurn
  repeat' first
    | with_reducible assumption
    | with_reducible apply Moves.refl
    | ((with_reducible apply Moves.after octetDown_moves ?e ?_); case e => rfl)
    | ((with_reducible apply Moves.after prbsEnd_moves ?e ?_); case e => rfl)
    | with_reducible apply Moves.ite ?_ ?_

theorem writeEffect_moves {x0 x1 x2 x3 x4} : Moves 7009370113572 x4 (writeEffect x0 x1 x2 x3 x4) := by
  unfold writeEffect
  repeat' first
    | with_reducible assumption
    | with_reducible apply Moves.refl
    | ((with_reducible apply Moves.after joinQueues_moves ?e ?_); case e => rfl)
    | ((with_reducible apply Moves.after updateTargets_moves ?e ?_); case e => rfl)
    | ((with_reducible apply Moves.after rebudget_moves ?e ?_); case e => rfl)
    | ((with_reducible apply Moves.after sendHold_moves ?e ?_); case e => rfl)
    | ((with_reducible apply Moves.after adminRefill_moves ?e ?_); case e => rfl)
    | ((with_reducible apply Moves.after floorUpdate_moves ?e ?_); case e => rfl)
    | ((with_reducible apply Moves.after pairUp_moves ?e ?_); case e => rfl)
    | ((with_reducible apply Moves.after keyWritten_moves ?e ?_); case e => rfl)
    | ((with_reducible apply Moves.after dmControl_moves ?e ?_); case e => rfl)
    | ((with_reducible apply Moves.after prbsTurn_moves ?e ?_); case e => rfl)
    | with_reducible apply Moves.ite ?_ ?_

theorem wordStore_moves {x0 x1 x2 x3 x4} : Moves 7009378518564 x4 (wordStore x0 x1 x2 x3 x4) := by
  unfold wordStore
  repeat' first
    | (extract_lets +onlyGivenNames y; first | (refine Moves.bind (x := y) ?_ fun _ => ?_; (on_goal 2 => clear_value y); subst y) | clear_value y | subst y)
    | with_reducible assumption
    | with_reducible apply Moves.refl
    | ((with_reducible apply Moves.after recordFault_moves ?e ?_); case e => rfl)
    | ((with_reducible apply Moves.after conflict_moves ?e ?_); case e => rfl)
    | ((with_reducible apply Moves.after noteRsvd_moves ?e ?_); case e => rfl)
    | ((with_reducible apply Moves.after storeWord_moves ?e ?_); case e => rfl)
    | ((with_reducible apply Moves.after writeEffect_moves ?e ?_); case e => rfl)
    | with_reducible apply Moves.ite ?_ ?_
    | split

theorem pairStore_moves {x0 x1 x2 x3 x4 x5} : Moves 4810002679332 x5 (pairStore x0 x1 x2 x3 x4 x5) := by
  unfold pairStore
  repeat' first
    | (extract_lets +onlyGivenNames y; first | (refine Moves.bind (x := y) ?_ fun _ => ?_; (on_goal 2 => clear_value y); subst y) | clear_value y | subst y)
    | with_reducible assumption
    | with_reducible apply Moves.refl
    | ((with_reducible apply Moves.after recordFault_moves ?e ?_); case e => rfl)
    | ((with_reducible apply Moves.after conflict_moves ?e ?_); case e => rfl)
    | ((with_reducible apply Moves.after storeWord_moves ?e ?_); case e => rfl)
    | with_reducible apply Moves.ite ?_ ?_
    | split

/-! Sys2Proof/Machine/CsrWrite.lean. -/

theorem Moves.run {m : Nat} {s x : State} {o : Outcome} (h : Moves m s x) (k : Ends m x o) : Moves m s (Machine.after x o) := by
  unfold Machine.after
  split
  · exact h.trans (k _ rfl)
  · exact h

theorem drawn_moves {x0} : Moves 4398046511104 x0 (drawn x0).2 := by
  unfold drawn
  repeat' first
    | with_reducible assumption
    | with_reducible apply Moves.refl
    | ((with_reducible apply Moves.after draw_moves ?e ?_); case e => rfl)

theorem qpCmdWrite_moves {x0 x1} : Moves 6940499379812 x1 (qpCmdWrite x0 x1) := by
  unfold qpCmdWrite
  split
  · exact Moves.run (Moves.refl _ _) (Ends.after execQpInit_moves rfl (Moves.refl _ _))
  · exact Moves.run (Moves.refl _ _) (Ends.after execQpRtr_moves rfl (Moves.refl _ _))
  · exact Moves.run (Moves.refl _ _) (Ends.after execQpRts_moves rfl (Moves.refl _ _))
  · exact Moves.run (commandWrite_moves.mono rfl) (Ends.after execQpError_moves rfl (Moves.refl _ _))
  · exact Moves.run (Moves.refl _ _) (Ends.after execQpReset_moves rfl (Moves.refl _ _))
  · exact Moves.run (Moves.refl _ _) (Ends.after execQpQuery_moves rfl (Moves.refl _ _))
  · exact Moves.run (Moves.refl _ _) (Ends.after execQpTest_moves rfl (Moves.refl _ _))
  · exact commandWrite_moves.mono rfl

theorem hostCmd_moves {x0 x1 x2 x3} : Opts 6940516157028 x3 (hostCmd x0 x1 x2 x3) := by
  unfold hostCmd
  repeat' first
    | with_reducible assumption
    | with_reducible apply Moves.refl
    | ((with_reducible apply Moves.after commandWrite_moves ?e ?_); case e => rfl)
    | ((with_reducible apply Ends.after execAdminReply_moves ?e ?_); case e => rfl)
    | ((with_reducible apply Moves.after (Moves.of_end ?p execAdminReply_moves) ?e ?_); (case p => assumption); case e => rfl)
    | ((with_reducible apply Ends.after execHqHoldWrite_moves ?e ?_); case e => rfl)
    | ((with_reducible apply Moves.after (Moves.of_end ?p execHqHoldWrite_moves) ?e ?_); (case p => assumption); case e => rfl)
    | ((with_reducible apply Ends.after execQosMinWrite_moves ?e ?_); case e => rfl)
    | ((with_reducible apply Moves.after (Moves.of_end ?p execQosMinWrite_moves) ?e ?_); (case p => assumption); case e => rfl)
    | ((with_reducible apply Ends.after execNsCfgWrite_moves ?e ?_); case e => rfl)
    | ((with_reducible apply Moves.after (Moves.of_end ?p execNsCfgWrite_moves) ?e ?_); (case p => assumption); case e => rfl)
    | ((with_reducible apply Ends.after execWinOpen_moves ?e ?_); case e => rfl)
    | ((with_reducible apply Moves.after (Moves.of_end ?p execWinOpen_moves) ?e ?_); (case p => assumption); case e => rfl)
    | ((with_reducible apply Ends.after execWinRevoke_moves ?e ?_); case e => rfl)
    | ((with_reducible apply Moves.after (Moves.of_end ?p execWinRevoke_moves) ?e ?_); (case p => assumption); case e => rfl)
    | ((with_reducible apply Ends.after execNetModeWrite_moves ?e ?_); case e => rfl)
    | ((with_reducible apply Moves.after (Moves.of_end ?p execNetModeWrite_moves) ?e ?_); (case p => assumption); case e => rfl)
    | ((with_reducible apply Ends.after execExcTxSend_moves ?e ?_); case e => rfl)
    | ((with_reducible apply Moves.after (Moves.of_end ?p execExcTxSend_moves) ?e ?_); (case p => assumption); case e => rfl)
    | ((with_reducible apply Ends.after execGrpStart_moves ?e ?_); case e => rfl)
    | ((with_reducible apply Moves.after (Moves.of_end ?p execGrpStart_moves) ?e ?_); (case p => assumption); case e => rfl)
    | ((with_reducible apply Ends.after execGrpShipNow_moves ?e ?_); case e => rfl)
    | ((with_reducible apply Moves.after (Moves.of_end ?p execGrpShipNow_moves) ?e ?_); (case p => assumption); case e => rfl)
    | ((with_reducible apply Ends.after execGrpResume_moves ?e ?_); case e => rfl)
    | ((with_reducible apply Moves.after (Moves.of_end ?p execGrpResume_moves) ?e ?_); (case p => assumption); case e => rfl)
    | ((with_reducible apply Ends.after execGrpStop_moves ?e ?_); case e => rfl)
    | ((with_reducible apply Moves.after (Moves.of_end ?p execGrpStop_moves) ?e ?_); (case p => assumption); case e => rfl)
    | ((with_reducible apply Ends.after execGrpFull_moves ?e ?_); case e => rfl)
    | ((with_reducible apply Moves.after (Moves.of_end ?p execGrpFull_moves) ?e ?_); (case p => assumption); case e => rfl)
    | ((with_reducible apply Ends.after execGrpNsAdd_moves ?e ?_); case e => rfl)
    | ((with_reducible apply Moves.after (Moves.of_end ?p execGrpNsAdd_moves) ?e ?_); (case p => assumption); case e => rfl)
    | ((with_reducible apply Ends.after execGrpNsRemove_moves ?e ?_); case e => rfl)
    | ((with_reducible apply Moves.after (Moves.of_end ?p execGrpNsRemove_moves) ?e ?_); (case p => assumption); case e => rfl)
    | with_reducible apply Moves.run ?_ ?_
    | ((with_reducible apply Moves.after qpCmdWrite_moves ?e ?_); case e => rfl)
    | with_reducible apply Opts.some ?_
    | exact Opts.none
    | with_reducible apply Opts.ite ?_ ?_
    | with_reducible apply Moves.ite ?_ ?_
    | split

theorem keygenWrite_moves {x0 x1} : Moves 6664816166436 x1 (keygenWrite x0 x1) := by
  unfold keygenWrite
  repeat' first
    | with_reducible assumption
    | with_reducible apply Moves.refl
    | ((with_reducible apply Moves.after conflict_moves ?e ?_); case e => rfl)
    | ((with_reducible apply Moves.after commandWrite_moves ?e ?_); case e => rfl)
    | ((with_reducible apply Ends.after execKeygenInstall_moves ?e ?_); case e => rfl)
    | ((with_reducible apply Moves.after (Moves.of_end ?p execKeygenInstall_moves) ?e ?_); (case p => assumption); case e => rfl)
    | ((with_reducible apply Ends.after execKeygenRetire_moves ?e ?_); case e => rfl)
    | ((with_reducible apply Moves.after (Moves.of_end ?p execKeygenRetire_moves) ?e ?_); (case p => assumption); case e => rfl)
    | with_reducible apply Moves.run ?_ ?_
    | with_reducible apply Moves.ite ?_ ?_
    | split

theorem ringCtl_moves {x0 x1 x2 x3} : Opts 6664749057572 x3 (ringCtl x0 x1 x2 x3) := by
  unfold ringCtl
  repeat' first
    | with_reducible assumption
    | with_reducible apply Moves.refl
    | ((with_reducible apply Ends.after execRingDisable_moves ?e ?_); case e => rfl)
    | ((with_reducible apply Moves.after (Moves.of_end ?p execRingDisable_moves) ?e ?_); (case p => assumption); case e => rfl)
    | with_reducible apply Moves.run ?_ ?_
    | with_reducible apply Opts.some ?_
    | exact Opts.none
    | with_reducible apply Opts.ite ?_ ?_

theorem engineCmd_moves {x0 x1 x2 x3} : Opts 6664816166436 x3 (engineCmd x0 x1 x2 x3) := by
  unfold engineCmd
  repeat' first
    | (extract_lets +onlyGivenNames y; first | (refine Opts.bind (x := y.2) ?_ fun _ => ?_; (on_goal 2 => clear_value y); subst y) | (refine Moves.bind (x := y.2) ?_ fun _ => ?_; (on_goal 2 => clear_value y); subst y) | clear_value y | subst y)
    | with_reducible assumption
    | with_reducible apply Moves.refl
    | ((with_reducible apply Ends.after execGlaneRestore_moves ?e ?_); case e => rfl)
    | ((with_reducible apply Moves.after (Moves.of_end ?p execGlaneRestore_moves) ?e ?_); (case p => assumption); case e => rfl)
    | ((with_reducible apply Ends.after execGunitRestore_moves ?e ?_); case e => rfl)
    | ((with_reducible apply Moves.after (Moves.of_end ?p execGunitRestore_moves) ?e ?_); (case p => assumption); case e => rfl)
    | ((with_reducible apply Ends.after execTinUnitRestore_moves ?e ?_); case e => rfl)
    | ((with_reducible apply Moves.after (Moves.of_end ?p execTinUnitRestore_moves) ?e ?_); (case p => assumption); case e => rfl)
    | ((with_reducible apply Ends.after execFltClear_moves ?e ?_); case e => rfl)
    | ((with_reducible apply Moves.after (Moves.of_end ?p execFltClear_moves) ?e ?_); (case p => assumption); case e => rfl)
    | ((with_reducible apply Ends.after execDomCfgWrite_moves ?e ?_); case e => rfl)
    | ((with_reducible apply Moves.after (Moves.of_end ?p execDomCfgWrite_moves) ?e ?_); (case p => assumption); case e => rfl)
    | ((with_reducible apply Ends.after execRcClear_moves ?e ?_); case e => rfl)
    | ((with_reducible apply Moves.after (Moves.of_end ?p execRcClear_moves) ?e ?_); (case p => assumption); case e => rfl)
    | ((with_reducible apply Ends.after execEngineDoorbell_moves ?e ?_); case e => rfl)
    | ((with_reducible apply Moves.after (Moves.of_end ?p execEngineDoorbell_moves) ?e ?_); (case p => assumption); case e => rfl)
    | with_reducible apply Moves.run ?_ ?_
    | ((with_reducible apply Moves.after drawn_moves ?e ?_); case e => rfl)
    | ((with_reducible apply Moves.after (Moves.of_pair ?p drawn_moves) ?e ?_); (case p => assumption); case e => rfl)
    | ((with_reducible apply Moves.after keygenWrite_moves ?e ?_); case e => rfl)
    | ((with_reducible apply Opts.after ringCtl_moves ?e ?_); case e => rfl)
    | with_reducible apply Opts.some ?_
    | exact Opts.none
    | with_reducible apply Opts.ite ?_ ?_

theorem snapWrite_moves {x0 x1} : Moves 6939710850660 x1 (snapWrite x0 x1) := by
  unfold snapWrite
  repeat' first
    | (extract_lets +onlyGivenNames y; first | (refine Moves.bind (x := y) ?_ fun _ => ?_; (on_goal 2 => clear_value y); subst y) | clear_value y | subst y)
    | with_reducible assumption
    | with_reducible apply Moves.refl
    | ((with_reducible apply Moves.after conflict_moves ?e ?_); case e => rfl)
    | ((with_reducible apply Moves.after commandWrite_moves ?e ?_); case e => rfl)
    | ((with_reducible apply Ends.after execSnapArm_moves ?e ?_); case e => rfl)
    | ((with_reducible apply Moves.after (Moves.of_end ?p execSnapArm_moves) ?e ?_); (case p => assumption); case e => rfl)
    | ((with_reducible apply Ends.after execSnapTake_moves ?e ?_); case e => rfl)
    | ((with_reducible apply Moves.after (Moves.of_end ?p execSnapTake_moves) ?e ?_); (case p => assumption); case e => rfl)
    | ((with_reducible apply Ends.after execSnapDelete_moves ?e ?_); case e => rfl)
    | ((with_reducible apply Moves.after (Moves.of_end ?p execSnapDelete_moves) ?e ?_); (case p => assumption); case e => rfl)
    | ((with_reducible apply Ends.after execSnapClone_moves ?e ?_); case e => rfl)
    | ((with_reducible apply Moves.after (Moves.of_end ?p execSnapClone_moves) ?e ?_); (case p => assumption); case e => rfl)
    | ((with_reducible apply Ends.after execSnapDisarmAll_moves ?e ?_); case e => rfl)
    | ((with_reducible apply Moves.after (Moves.of_end ?p execSnapDisarmAll_moves) ?e ?_); (case p => assumption); case e => rfl)
    | with_reducible apply Moves.run ?_ ?_
    | with_reducible apply Moves.ite ?_ ?_
    | split

theorem repairWrite_moves {x0 x1} : Moves 4465742579236 x1 (repairWrite x0 x1) := by
  unfold repairWrite
  repeat' first
    | with_reducible assumption
    | with_reducible apply Moves.refl
    | ((with_reducible apply Moves.after repair_moves ?e ?_); case e => rfl)
    | with_reducible apply Moves.ite ?_ ?_

theorem modCmdWrite_moves {x0 x1} : Moves 6734290617892 x1 (modCmdWrite x0 x1) := by
  unfold modCmdWrite
  repeat' first
    | (extract_lets +onlyGivenNames y; first | (refine Moves.bind (x := y) ?_ fun _ => ?_; (on_goal 2 => clear_value y); subst y) | clear_value y | subst y)
    | with_reducible assumption
    | with_reducible apply Moves.refl
    | ((with_reducible apply Ends.after execModuleAdmit_moves ?e ?_); case e => rfl)
    | ((with_reducible apply Moves.after (Moves.of_end ?p execModuleAdmit_moves) ?e ?_); (case p => assumption); case e => rfl)
    | ((with_reducible apply Ends.after execModuleRetire_moves ?e ?_); case e => rfl)
    | ((with_reducible apply Moves.after (Moves.of_end ?p execModuleRetire_moves) ?e ?_); (case p => assumption); case e => rfl)
    | with_reducible apply Moves.run ?_ ?_
    | with_reducible apply Moves.ite ?_ ?_

theorem takeWrite_moves {x0 x1} : Moves 6665638250084 x1 (takeWrite x0 x1) := by
  unfold takeWrite
  repeat' first
    | with_reducible assumption
    | with_reducible apply Moves.refl
    | ((with_reducible apply Ends.after execTake_moves ?e ?_); case e => rfl)
    | ((with_reducible apply Moves.after (Moves.of_end ?p execTake_moves) ?e ?_); (case p => assumption); case e => rfl)
    | ((with_reducible apply Ends.after execForce_moves ?e ?_); case e => rfl)
    | ((with_reducible apply Moves.after (Moves.of_end ?p execForce_moves) ?e ?_); (case p => assumption); case e => rfl)
    | ((with_reducible apply Ends.after execTakeCmdStepDown_moves ?e ?_); case e => rfl)
    | ((with_reducible apply Moves.after (Moves.of_end ?p execTakeCmdStepDown_moves) ?e ?_); (case p => assumption); case e => rfl)
    | with_reducible apply Moves.run ?_ ?_
    | split

theorem handoverWrite_moves {x0 x1} : Moves 6664816166436 x1 (handoverWrite x0 x1) := by
  unfold handoverWrite
  repeat' first
    | with_reducible assumption
    | with_reducible apply Moves.refl
    | ((with_reducible apply Ends.after execHandoverOffer_moves ?e ?_); case e => rfl)
    | ((with_reducible apply Moves.after (Moves.of_end ?p execHandoverOffer_moves) ?e ?_); (case p => assumption); case e => rfl)
    | ((with_reducible apply Ends.after execHandoverAccept_moves ?e ?_); case e => rfl)
    | ((with_reducible apply Moves.after (Moves.of_end ?p execHandoverAccept_moves) ?e ?_); (case p => assumption); case e => rfl)
    | with_reducible apply Moves.run ?_ ?_
    | with_reducible apply Moves.ite ?_ ?_

theorem storeCmd_moves {x0 x1 x2 x3} : Opts 7146675177060 x3 (storeCmd x0 x1 x2 x3) := by
  unfold storeCmd
  repeat' first
    | with_reducible assumption
    | with_reducible apply Moves.refl
    | ((with_reducible apply Ends.after execMirrorResume_moves ?e ?_); case e => rfl)
    | ((with_reducible apply Moves.after (Moves.of_end ?p execMirrorResume_moves) ?e ?_); (case p => assumption); case e => rfl)
    | ((with_reducible apply Ends.after execTestNow_moves ?e ?_); case e => rfl)
    | ((with_reducible apply Moves.after (Moves.of_end ?p execTestNow_moves) ?e ?_); (case p => assumption); case e => rfl)
    | ((with_reducible apply Ends.after execModEject_moves ?e ?_); case e => rfl)
    | ((with_reducible apply Moves.after (Moves.of_end ?p execModEject_moves) ?e ?_); (case p => assumption); case e => rfl)
    | ((with_reducible apply Ends.after execCloseNow_moves ?e ?_); case e => rfl)
    | ((with_reducible apply Moves.after (Moves.of_end ?p execCloseNow_moves) ?e ?_); (case p => assumption); case e => rfl)
    | ((with_reducible apply Ends.after execRekeyStart_moves ?e ?_); case e => rfl)
    | ((with_reducible apply Moves.after (Moves.of_end ?p execRekeyStart_moves) ?e ?_); (case p => assumption); case e => rfl)
    | ((with_reducible apply Ends.after execRetrain_moves ?e ?_); case e => rfl)
    | ((with_reducible apply Moves.after (Moves.of_end ?p execRetrain_moves) ?e ?_); (case p => assumption); case e => rfl)
    | ((with_reducible apply Ends.after execHbKick_moves ?e ?_); case e => rfl)
    | ((with_reducible apply Moves.after (Moves.of_end ?p execHbKick_moves) ?e ?_); (case p => assumption); case e => rfl)
    | with_reducible apply Moves.run ?_ ?_
    | ((with_reducible apply Moves.after snapWrite_moves ?e ?_); case e => rfl)
    | ((with_reducible apply Moves.after repairWrite_moves ?e ?_); case e => rfl)
    | ((with_reducible apply Moves.after modCmdWrite_moves ?e ?_); case e => rfl)
    | ((with_reducible apply Moves.after takeWrite_moves ?e ?_); case e => rfl)
    | ((with_reducible apply Moves.after handoverWrite_moves ?e ?_); case e => rfl)
    | with_reducible apply Opts.some ?_
    | exact Opts.none
    | with_reducible apply Opts.ite ?_ ?_

theorem tmkWrite_moves {x0 x1} : Moves 4465725804132 x1 (tmkWrite x0 x1) := by
  unfold tmkWrite
  repeat' first
    | with_reducible assumption
    | with_reducible apply Moves.refl
    | ((with_reducible apply Moves.trans ?_ (tmkGuard_moves ?e (fun _ => ?_))); case e => rfl)
    | ((with_reducible apply Ends.after execTmkLoad_moves ?e ?_); case e => rfl)
    | ((with_reducible apply Moves.after (Moves.of_end ?p execTmkLoad_moves) ?e ?_); (case p => assumption); case e => rfl)
    | ((with_reducible apply Ends.after execTmkCommit_moves ?e ?_); case e => rfl)
    | ((with_reducible apply Moves.after (Moves.of_end ?p execTmkCommit_moves) ?e ?_); (case p => assumption); case e => rfl)
    | ((with_reducible apply Ends.after execTmkConfirm_moves ?e ?_); case e => rfl)
    | ((with_reducible apply Moves.after (Moves.of_end ?p execTmkConfirm_moves) ?e ?_); (case p => assumption); case e => rfl)
    | ((with_reducible apply Ends.after execTmkRevert_moves ?e ?_); case e => rfl)
    | ((with_reducible apply Moves.after (Moves.of_end ?p execTmkRevert_moves) ?e ?_); (case p => assumption); case e => rfl)
    | with_reducible apply Moves.run ?_ ?_
    | exact Moves.refl _ _
    | split

theorem lcWrite_moves {x0 x1} : Moves 4465725826660 x1 (lcWrite x0 x1) := by
  unfold lcWrite
  repeat' first
    | (extract_lets +onlyGivenNames y; first | (refine Moves.bind (x := y.2) ?_ fun _ => ?_; (on_goal 2 => clear_value y); subst y) | clear_value y | subst y)
    | with_reducible assumption
    | with_reducible apply Moves.refl
    | ((with_reducible apply Moves.after commandWrite_moves ?e ?_); case e => rfl)
    | ((with_reducible apply Ends.after execLcMint_moves ?e ?_); case e => rfl)
    | ((with_reducible apply Moves.after (Moves.of_end ?p execLcMint_moves) ?e ?_); (case p => assumption); case e => rfl)
    | ((with_reducible apply Ends.after execLcOwn_moves ?e ?_); case e => rfl)
    | ((with_reducible apply Moves.after (Moves.of_end ?p execLcOwn_moves) ?e ?_); (case p => assumption); case e => rfl)
    | ((with_reducible apply Ends.after execLcRetire_moves ?e ?_); case e => rfl)
    | ((with_reducible apply Moves.after (Moves.of_end ?p execLcRetire_moves) ?e ?_); (case p => assumption); case e => rfl)
    | with_reducible apply Moves.run ?_ ?_
    | ((with_reducible apply Moves.after drawn_moves ?e ?_); case e => rfl)
    | ((with_reducible apply Moves.after (Moves.of_pair ?p drawn_moves) ?e ?_); (case p => assumption); case e => rfl)
    | split

theorem dbgWrite_moves {x0 x1} : Moves 4465725802020 x1 (dbgWrite x0 x1) := by
  unfold dbgWrite
  repeat' first
    | with_reducible assumption
    | with_reducible apply Moves.refl
    | ((with_reducible apply Ends.after execD1Grant_moves ?e ?_); case e => rfl)
    | ((with_reducible apply Moves.after (Moves.of_end ?p execD1Grant_moves) ?e ?_); (case p => assumption); case e => rfl)
    | ((with_reducible apply Ends.after execD0Return_moves ?e ?_); case e => rfl)
    | ((with_reducible apply Moves.after (Moves.of_end ?p execD0Return_moves) ?e ?_); (case p => assumption); case e => rfl)
    | with_reducible apply Moves.run ?_ ?_
    | with_reducible apply Moves.ite ?_ ?_

theorem scWrite_moves {x0 x1} : Moves 4465727899172 x1 (scWrite x0 x1) := by
  unfold scWrite
  repeat' first
    | (extract_lets +onlyGivenNames y; first | (refine Moves.bind (x := y) ?_ fun _ => ?_; (on_goal 2 => clear_value y); subst y) | clear_value y | subst y)
    | with_reducible assumption
    | with_reducible apply Moves.refl
    | ((with_reducible apply Moves.after commandWrite_moves ?e ?_); case e => rfl)
    | ((with_reducible apply Ends.after execScRetire_moves ?e ?_); case e => rfl)
    | ((with_reducible apply Moves.after (Moves.of_end ?p execScRetire_moves) ?e ?_); (case p => assumption); case e => rfl)
    | ((with_reducible apply Ends.after execSpRemap_moves ?e ?_); case e => rfl)
    | ((with_reducible apply Moves.after (Moves.of_end ?p execSpRemap_moves) ?e ?_); (case p => assumption); case e => rfl)
    | with_reducible apply Moves.run ?_ ?_
    | split

theorem maintWrite_moves {x0 x1 x2} : Moves 4465727899172 x2 (maintWrite x0 x1 x2) := by
  unfold maintWrite
  repeat' first
    | (extract_lets +onlyGivenNames y; first | (refine Moves.bind (x := y) ?_ fun _ => ?_; (on_goal 2 => clear_value y); subst y) | clear_value y | subst y)
    | with_reducible assumption
    | with_reducible apply Moves.refl
    | ((with_reducible apply Moves.after commandWrite_moves ?e ?_); case e => rfl)
    | ((with_reducible apply Moves.after maintStart_moves ?e ?_); case e => rfl)
    | with_reducible apply Moves.ite ?_ ?_

theorem fwuWrite_moves {x0 x1} : Moves 6665555453604 x1 (fwuWrite x0 x1) := by
  unfold fwuWrite
  repeat' first
    | with_reducible assumption
    | with_reducible apply Moves.refl
    | ((with_reducible apply Moves.after conflict_moves ?e ?_); case e => rfl)
    | ((with_reducible apply Moves.after commandWrite_moves ?e ?_); case e => rfl)
    | ((with_reducible apply Ends.after execFwuStage_moves ?e ?_); case e => rfl)
    | ((with_reducible apply Moves.after (Moves.of_end ?p execFwuStage_moves) ?e ?_); (case p => assumption); case e => rfl)
    | ((with_reducible apply Ends.after execFwuVerify_moves ?e ?_); case e => rfl)
    | ((with_reducible apply Moves.after (Moves.of_end ?p execFwuVerify_moves) ?e ?_); (case p => assumption); case e => rfl)
    | ((with_reducible apply Ends.after execFwuActivate_moves ?e ?_); case e => rfl)
    | ((with_reducible apply Moves.after (Moves.of_end ?p execFwuActivate_moves) ?e ?_); (case p => assumption); case e => rfl)
    | ((with_reducible apply Ends.after execFwuConfirm_moves ?e ?_); case e => rfl)
    | ((with_reducible apply Moves.after (Moves.of_end ?p execFwuConfirm_moves) ?e ?_); (case p => assumption); case e => rfl)
    | with_reducible apply Moves.run ?_ ?_
    | with_reducible apply Moves.ite ?_ ?_
    | split

theorem eqcCmd_moves {x0 x1 x2 x3} : Opts 4465725802020 x3 (eqcCmd x0 x1 x2 x3) := by
  unfold eqcCmd
  repeat' first
    | (extract_lets +onlyGivenNames y; first | clear_value y | subst y)
    | with_reducible assumption
    | with_reducible apply Moves.refl
    | ((with_reducible apply Ends.after execSignal_moves ?e ?_); case e => rfl)
    | ((with_reducible apply Moves.after (Moves.of_end ?p execSignal_moves) ?e ?_); (case p => assumption); case e => rfl)
    | ((with_reducible apply Ends.after execEvqDone_moves ?e ?_); case e => rfl)
    | ((with_reducible apply Moves.after (Moves.of_end ?p execEvqDone_moves) ?e ?_); (case p => assumption); case e => rfl)
    | ((with_reducible apply Ends.after execSrcMaskWrite_moves ?e ?_); case e => rfl)
    | ((with_reducible apply Moves.after (Moves.of_end ?p execSrcMaskWrite_moves) ?e ?_); (case p => assumption); case e => rfl)
    | ((with_reducible apply Ends.after execRingConsWrite_moves ?e ?_); case e => rfl)
    | ((with_reducible apply Moves.after (Moves.of_end ?p execRingConsWrite_moves) ?e ?_); (case p => assumption); case e => rfl)
    | ((with_reducible apply Ends.after execEventRingEnable_moves ?e ?_); case e => rfl)
    | ((with_reducible apply Moves.after (Moves.of_end ?p execEventRingEnable_moves) ?e ?_); (case p => assumption); case e => rfl)
    | with_reducible apply Moves.run ?_ ?_
    | with_reducible apply Opts.some ?_
    | exact Opts.none
    | with_reducible apply Opts.ite ?_ ?_

theorem infraCmd_moves {x0 x1 x2 x3 x4} : Opts 6665629728484 x4 (infraCmd x0 x1 x2 x3 x4) := by
  unfold infraCmd
  repeat' first
    | with_reducible assumption
    | with_reducible apply Moves.refl
    | ((with_reducible apply Ends.after execExportCmd_moves ?e ?_); case e => rfl)
    | ((with_reducible apply Moves.after (Moves.of_end ?p execExportCmd_moves) ?e ?_); (case p => assumption); case e => rfl)
    | ((with_reducible apply Ends.after execFwPost_moves ?e ?_); case e => rfl)
    | ((with_reducible apply Moves.after (Moves.of_end ?p execFwPost_moves) ?e ?_); (case p => assumption); case e => rfl)
    | ((with_reducible apply Moves.after cvuCfgWrite_moves ?e ?_); case e => rfl)
    | ((with_reducible apply Moves.after cvuTapWrite_moves ?e ?_); case e => rfl)
    | ((with_reducible apply Ends.after execCtlFreqSwitch_moves ?e ?_); case e => rfl)
    | ((with_reducible apply Moves.after (Moves.of_end ?p execCtlFreqSwitch_moves) ?e ?_); (case p => assumption); case e => rfl)
    | ((with_reducible apply Ends.after execPwrP0_moves ?e ?_); case e => rfl)
    | ((with_reducible apply Moves.after (Moves.of_end ?p execPwrP0_moves) ?e ?_); (case p => assumption); case e => rfl)
    | ((with_reducible apply Ends.after execPwrP1_moves ?e ?_); case e => rfl)
    | ((with_reducible apply Moves.after (Moves.of_end ?p execPwrP1_moves) ?e ?_); (case p => assumption); case e => rfl)
    | ((with_reducible apply Ends.after execPwrP2_moves ?e ?_); case e => rfl)
    | ((with_reducible apply Moves.after (Moves.of_end ?p execPwrP2_moves) ?e ?_); (case p => assumption); case e => rfl)
    | ((with_reducible apply Ends.after execPwrQuench_moves ?e ?_); case e => rfl)
    | ((with_reducible apply Moves.after (Moves.of_end ?p execPwrQuench_moves) ?e ?_); (case p => assumption); case e => rfl)
    | ((with_reducible apply Ends.after execLcArm_moves ?e ?_); case e => rfl)
    | ((with_reducible apply Moves.after (Moves.of_end ?p execLcArm_moves) ?e ?_); (case p => assumption); case e => rfl)
    | ((with_reducible apply Ends.after execOwnerLockSet_moves ?e ?_); case e => rfl)
    | ((with_reducible apply Moves.after (Moves.of_end ?p execOwnerLockSet_moves) ?e ?_); (case p => assumption); case e => rfl)
    | with_reducible apply Moves.run ?_ ?_
    | ((with_reducible apply Moves.after tmkWrite_moves ?e ?_); case e => rfl)
    | ((with_reducible apply Moves.after lcWrite_moves ?e ?_); case e => rfl)
    | ((with_reducible apply Moves.after dbgWrite_moves ?e ?_); case e => rfl)
    | ((with_reducible apply Moves.after scWrite_moves ?e ?_); case e => rfl)
    | ((with_reducible apply Moves.after maintWrite_moves ?e ?_); case e => rfl)
    | ((with_reducible apply Moves.after fwuWrite_moves ?e ?_); case e => rfl)
    | ((with_reducible apply Opts.after eqcCmd_moves ?e ?_); case e => rfl)
    | ((with_reducible apply Moves.after (Moves.of_opt ?p eqcCmd_moves) ?e ?_); (case p => assumption); case e => rfl)
    | with_reducible apply Opts.some ?_
    | exact Opts.none
    | with_reducible apply Opts.ite ?_ ?_
    | with_reducible apply Moves.ite ?_ ?_
    | split

theorem ownWrite_moves {x0 x1 x2 x3 x4} : Opts 7146682842852 x4 (ownWrite x0 x1 x2 x3 x4) := by
  unfold ownWrite
  repeat' first
    | with_reducible assumption
    | with_reducible apply Moves.refl
    | ((with_reducible apply Moves.after (Moves.of_opt ?p hostCmd_moves) ?e ?_); (case p => assumption); case e => rfl)
    | ((with_reducible apply Moves.after (Moves.of_opt ?p engineCmd_moves) ?e ?_); (case p => assumption); case e => rfl)
    | ((with_reducible apply Moves.after (Moves.of_opt ?p storeCmd_moves) ?e ?_); (case p => assumption); case e => rfl)
    | ((with_reducible apply Opts.after infraCmd_moves ?e ?_); case e => rfl)
    | with_reducible apply Opts.some ?_
    | exact Opts.none
    | split

theorem headerStore_moves {x0 x1 x2 x3 x4} : Moves 7146812870244 x4 (headerStore x0 x1 x2 x3 x4) := by
  unfold headerStore
  repeat' first
    | with_reducible assumption
    | with_reducible apply Moves.refl
    | ((with_reducible apply Moves.after wr_moves ?e ?_); case e => rfl)
    | ((with_reducible apply Moves.after noteRsvd_moves ?e ?_); case e => rfl)
    | ((with_reducible apply Moves.after ctrlWrite_moves ?e ?_); case e => rfl)
    | ((with_reducible apply Moves.after featAskWrite_moves ?e ?_); case e => rfl)
    | ((with_reducible apply Moves.after evrouteWrite_moves ?e ?_); case e => rfl)
    | ((with_reducible apply Moves.after lockWrite_moves ?e ?_); case e => rfl)
    | with_reducible apply Moves.ite ?_ ?_

theorem csrWrite_moves {x0 x1 x2 x3 x4} : Moves 7146825580276 x4 (csrWrite x0 x1 x2 x3 x4) := by
  unfold csrWrite
  repeat' first
    | (extract_lets +onlyGivenNames y; first | clear_value y | subst y)
    | with_reducible assumption
    | with_reducible apply Moves.refl
    | ((with_reducible apply Moves.after recordFault_moves ?e ?_); case e => rfl)
    | ((with_reducible apply Moves.after stopTimeout_moves ?e ?_); case e => rfl)
    | ((with_reducible apply Moves.after wordStore_moves ?e ?_); case e => rfl)
    | ((with_reducible apply Moves.after pairStore_moves ?e ?_); case e => rfl)
    | ((with_reducible apply Moves.after (Moves.of_opt ?p ownWrite_moves) ?e ?_); (case p => assumption); case e => rfl)
    | ((with_reducible apply Moves.after headerStore_moves ?e ?_); case e => rfl)
    | fail_if_no_progress ((with_reducible apply Moves.set_held ?e ?_); case e => rfl)
    | with_reducible apply Moves.ite ?_ ?_
    | split

theorem execCsrRegisterWrite_moves {x0 x1 x2 x3 x4} : Ends 7146825580276 x4 (execCsrRegisterWrite x0 x1 x2 x3 x4) := by
  unfold execCsrRegisterWrite
  repeat' first
    | with_reducible assumption
    | with_reducible apply Moves.refl
    | ((with_reducible apply Moves.after csrWrite_moves ?e ?_); case e => rfl)
    | with_reducible apply Ends.next ?_

theorem execLowWordWrite_moves {x0 x1 x2 x3 x4} : Ends 7146825580276 x4 (execLowWordWrite x0 x1 x2 x3 x4) := by
  unfold execLowWordWrite
  repeat' first
    | with_reducible assumption
    | with_reducible apply Moves.refl
    | ((with_reducible apply Moves.after csrWrite_moves ?e ?_); case e => rfl)
    | with_reducible apply Ends.next ?_
    | with_reducible apply Ends.ite ?_ ?_
    | with_reducible apply Moves.ite ?_ ?_
    | split

theorem execHighWordWrite_moves {x0 x1 x2 x3 x4} : Ends 7146825580276 x4 (execHighWordWrite x0 x1 x2 x3 x4) := by
  unfold execHighWordWrite
  repeat' first
    | with_reducible assumption
    | with_reducible apply Moves.refl
    | ((with_reducible apply Moves.after csrWrite_moves ?e ?_); case e => rfl)
    | with_reducible apply Ends.next ?_
    | with_reducible apply Ends.ite ?_ ?_
    | with_reducible apply Moves.ite ?_ ?_
    | split

theorem execCsrUndefinedOffsetAccess_moves {x0 x1 x2 x3 x4} : Ends 7146825580284 x4 (execCsrUndefinedOffsetAccess x0 x1 x2 x3 x4) := by
  unfold execCsrUndefinedOffsetAccess
  repeat' first
    | with_reducible assumption
    | with_reducible apply Moves.refl
    | ((with_reducible apply Moves.after csrRead_moves ?e ?_); case e => rfl)
    | ((with_reducible apply Moves.after csrWrite_moves ?e ?_); case e => rfl)
    | with_reducible apply Ends.next ?_
    | with_reducible apply Ends.ite ?_ ?_
    | with_reducible apply Moves.ite ?_ ?_

theorem execCsrAbsentPageAccess_moves {x0 x1 x2 x3 x4} : Ends 7146825580284 x4 (execCsrAbsentPageAccess x0 x1 x2 x3 x4) := by
  unfold execCsrAbsentPageAccess
  repeat' first
    | with_reducible assumption
    | with_reducible apply Moves.refl
    | ((with_reducible apply Moves.after csrRead_moves ?e ?_); case e => rfl)
    | ((with_reducible apply Moves.after csrWrite_moves ?e ?_); case e => rfl)
    | with_reducible apply Ends.next ?_
    | with_reducible apply Ends.ite ?_ ?_
    | with_reducible apply Moves.ite ?_ ?_

/-! Sys2Proof/Machine/Access.lean. -/

theorem narrowAccess_moves {x0 x1 x2 x3} : Moves 6664749057572 x3 (narrowAccess x0 x1 x2 x3) := by
  unfold narrowAccess
  repeat' first
    | with_reducible assumption
    | with_reducible apply Moves.refl
    | ((with_reducible apply Moves.after emit_moves ?e ?_); case e => rfl)
    | ((with_reducible apply Moves.after recordFault_moves ?e ?_); case e => rfl)
    | with_reducible apply Moves.ite ?_ ?_

theorem csrWord_moves {x0 x1 x2 x3 x4} : Moves 7146825580284 x4 (csrWord x0 x1 x2 x3 x4) := by
  unfold csrWord
  repeat' first
    | with_reducible assumption
    | with_reducible apply Moves.refl
    | ((with_reducible apply Moves.after csrRead_moves ?e ?_); case e => rfl)
    | ((with_reducible apply Moves.after csrWrite_moves ?e ?_); case e => rfl)
    | split

theorem csrAccess_moves {x0 x1 x2 x3 x4} : Moves 7146825580284 x4 (csrAccess x0 x1 x2 x3 x4) := by
  unfold csrAccess
  repeat' first
    | (extract_lets +onlyGivenNames y; first | clear_value y | subst y)
    | with_reducible assumption
    | with_reducible apply Moves.refl
    | ((with_reducible apply Moves.after narrowAccess_moves ?e ?_); case e => rfl)
    | ((with_reducible apply Moves.after csrWord_moves ?e ?_); case e => rfl)
    | with_reducible apply Moves.ite ?_ ?_

theorem execMemoryAccess_moves {x0 x1} : Ends 7146825580284 x1 (execMemoryAccess x0 x1) := by
  unfold execMemoryAccess
  repeat' first
    | (extract_lets +onlyGivenNames y; first | (refine Ends.bind (x := y) ?_ fun _ => ?_; (on_goal 2 => clear_value y); subst y) | (refine Moves.bind (x := y) ?_ fun _ => ?_; (on_goal 2 => clear_value y); subst y) | clear_value y | subst y)
    | with_reducible assumption
    | with_reducible apply Moves.refl
    | ((with_reducible apply Moves.after memAccess_moves ?e ?_); case e => rfl)
    | ((with_reducible apply Moves.after workLost_moves ?e ?_); case e => rfl)
    | ((with_reducible apply Moves.after csrAccess_moves ?e ?_); case e => rfl)
    | with_reducible apply Ends.next ?_
    | with_reducible apply Ends.ite ?_ ?_
    | with_reducible apply Moves.ite ?_ ?_

theorem execCsrNarrowAccess_moves {x0 x1 x2 x3 x4 x5} : Ends 6664749057572 x5 (execCsrNarrowAccess x0 x1 x2 x3 x4 x5) := by
  unfold execCsrNarrowAccess
  repeat' first
    | with_reducible assumption
    | with_reducible apply Moves.refl
    | ((with_reducible apply Moves.after narrowAccess_moves ?e ?_); case e => rfl)
    | with_reducible apply Ends.next ?_
    | with_reducible apply Ends.ite ?_ ?_
    | with_reducible apply Moves.ite ?_ ?_

/-! Sys2Proof/Machine/Debug.lean. -/

theorem dbgEnd_moves {x0 x1 x2} : Moves 262144 x2 (dbgEnd x0 x1 x2) := by
  unfold dbgEnd
  repeat' first
    | (extract_lets +onlyGivenNames y; first | clear_value y | subst y)
    | with_reducible assumption
    | with_reducible apply Moves.refl
    | fail_if_no_progress ((with_reducible apply Moves.set_dbg ?e ?_); case e => rfl)

theorem dramPut_moves {x0 x1 x2} : Moves 2097184 x2 (dramPut x0 x1 x2) := by
  unfold dramPut
  repeat' first
    | (extract_lets +onlyGivenNames y; first | clear_value y | subst y)
    | with_reducible assumption
    | with_reducible apply Moves.refl
    | ((with_reducible apply Moves.after memWrite_moves ?e ?_); case e => rfl)
    | fail_if_no_progress ((with_reducible apply Moves.set_msys ?e ?_); case e => rfl)
    | with_reducible apply Moves.ite ?_ ?_

theorem dbgDram_moves {x0 x1 x2} : Moves 2359328 x2 (dbgDram x0 x1 x2) := by
  unfold dbgDram
  repeat' first
    | (extract_lets +onlyGivenNames y; first | clear_value y | subst y)
    | with_reducible assumption
    | with_reducible apply Moves.refl
    | ((with_reducible apply Moves.after dbgEnd_moves ?e ?_); case e => rfl)
    | ((with_reducible apply Moves.after dramPut_moves ?e ?_); case e => rfl)
    | with_reducible apply Moves.ite ?_ ?_
    | with_reducible apply Moves.foldl (fun _ _ => ?_) ?_

theorem dbgCsr_moves {x0 x1} : Moves 7146825580284 x1 (dbgCsr x0 x1) := by
  unfold dbgCsr
  extract_lets p off
  clear_value p off
  split
  · exact Moves.after dbgEnd_moves rfl (Moves.ite (recordFault_moves.mono rfl) (Moves.refl _ _))
  · split
    · exact Moves.after dbgEnd_moves rfl (csrWrite_moves.mono rfl)
    · split
      next v t h => exact Moves.after dbgEnd_moves rfl ((Moves.of_pair h readWord_moves).mono rfl)

theorem dbgPerform_moves {x0 x1} : Moves 7146825580284 x1 (dbgPerform x0 x1) := by
  unfold dbgPerform
  repeat' first
    | (extract_lets +onlyGivenNames y; first | (refine of_fun y ?_; subst y) | clear_value y | subst y)
    | with_reducible assumption
    | with_reducible apply Moves.refl
    | ((with_reducible apply Moves.after bump_moves ?e ?_); case e => rfl)
    | ((with_reducible apply Moves.after memWrite_moves ?e ?_); case e => rfl)
    | ((with_reducible apply Moves.after hallmark_moves ?e ?_); case e => rfl)
    | ((with_reducible apply Moves.after dbgEnd_moves ?e ?_); case e => rfl)
    | ((with_reducible apply Moves.after dbgDram_moves ?e ?_); case e => rfl)
    | ((with_reducible apply Moves.after dbgCsr_moves ?e ?_); case e => rfl)
    | with_reducible apply Moves.ite ?_ ?_
    | split

theorem dbgUpdate_moves {x0 x1} : Moves 7146825580284 x1 (dbgUpdate x0 x1) := by
  unfold dbgUpdate
  repeat' first
    | (extract_lets +onlyGivenNames y; first | clear_value y | subst y)
    | with_reducible assumption
    | with_reducible apply Moves.refl
    | ((with_reducible apply Moves.after bump_moves ?e ?_); case e => rfl)
    | ((with_reducible apply Moves.after hallmark_moves ?e ?_); case e => rfl)
    | ((with_reducible apply Moves.after dbgEnd_moves ?e ?_); case e => rfl)
    | ((with_reducible apply Moves.after dbgPerform_moves ?e ?_); case e => rfl)
    | fail_if_no_progress ((with_reducible apply Moves.set_dbg ?e ?_); case e => rfl)
    | with_reducible apply Moves.ite ?_ ?_

theorem dbgCapture_moves {x0} : Moves 6597070028804 x0 (dbgCapture x0) := by
  unfold dbgCapture
  repeat' first
    | with_reducible assumption
    | with_reducible apply Moves.refl
    | ((with_reducible apply Moves.after emit_moves ?e ?_); case e => rfl)
    | ((with_reducible apply Moves.after draw_moves ?e ?_); case e => rfl)
    | ((with_reducible apply Moves.after (Moves.of_pair ?p draw_moves) ?e ?_); (case p => assumption); case e => rfl)
    | ((with_reducible apply Moves.after tapScan_moves ?e ?_); case e => rfl)

theorem execDbgAccessRead_moves {x0 x1} : Ends 7146825580284 x1 (execDbgAccessRead x0 x1) := by
  unfold execDbgAccessRead
  repeat' first
    | with_reducible assumption
    | with_reducible apply Moves.refl
    | ((with_reducible apply Moves.after dbgUpdate_moves ?e ?_); case e => rfl)
    | ((with_reducible apply Moves.after dbgCapture_moves ?e ?_); case e => rfl)
    | with_reducible apply Ends.next ?_
    | with_reducible apply Ends.ite ?_ ?_
    | with_reducible apply Moves.ite ?_ ?_

theorem execDbgAccessWrite_moves {x0 x1 x2} : Ends 7146825580284 x2 (execDbgAccessWrite x0 x1 x2) := by
  unfold execDbgAccessWrite
  repeat' first
    | with_reducible assumption
    | with_reducible apply Moves.refl
    | ((with_reducible apply Moves.after dbgUpdate_moves ?e ?_); case e => rfl)
    | ((with_reducible apply Moves.after dbgCapture_moves ?e ?_); case e => rfl)
    | with_reducible apply Ends.next ?_
    | with_reducible apply Ends.ite ?_ ?_
    | with_reducible apply Moves.ite ?_ ?_

theorem dbgResume_moves {x0 x1} : Moves 7146825580284 x1 (dbgResume x0 x1) := by
  induction' x0 with n ih generalizing x1
  all_goals unfold dbgResume
  all_goals repeat' first
    | (extract_lets +onlyGivenNames y; first | clear_value y | subst y)
    | with_reducible assumption
    | with_reducible apply Moves.refl
    | ((with_reducible apply Moves.after dbgEnd_moves ?e ?_); case e => rfl)
    | ((with_reducible apply Moves.after dbgPerform_moves ?e ?_); case e => rfl)
    | fail_if_no_progress ((with_reducible apply Moves.set_dbg ?e ?_); case e => rfl)
    | with_reducible apply Moves.ite ?_ ?_
    | with_reducible apply Moves.trans ?_ ih
    | split

theorem execDebugAccessResume_moves {x0} : Ends 7146825580284 x0 (execDebugAccessResume x0) := by
  unfold execDebugAccessResume
  repeat' first
    | with_reducible assumption
    | with_reducible apply Moves.refl
    | ((with_reducible apply Moves.after dbgResume_moves ?e ?_); case e => rfl)
    | with_reducible apply Ends.next ?_

/-! Sys2Proof/Machine/Pins.lean. -/

theorem execSerdesLaneLockLoss_moves {x0 x1 x2} : Ends 8389636 x2 (execSerdesLaneLockLoss x0 x1 x2) := by
  unfold execSerdesLaneLockLoss
  repeat' first
    | (extract_lets +onlyGivenNames y; first | clear_value y | subst y)
    | with_reducible assumption
    | with_reducible apply Moves.refl
    | ((with_reducible apply Moves.after bump_moves ?e ?_); case e => rfl)
    | ((with_reducible apply Moves.after hallmark_moves ?e ?_); case e => rfl)
    | fail_if_no_progress ((with_reducible apply Moves.set_srd ?e ?_); case e => rfl)
    | with_reducible apply Ends.next ?_
    | with_reducible apply Ends.ite ?_ ?_
    | with_reducible apply Moves.ite ?_ ?_

theorem execSerdesLanePllLost_moves {x0 x1} : Ends 7009373785700 x1 (execSerdesLanePllLost x0 x1) := by
  unfold execSerdesLanePllLost
  repeat' first
    | (extract_lets +onlyGivenNames y; first | clear_value y | subst y)
    | with_reducible assumption
    | with_reducible apply Moves.refl
    | ((with_reducible apply Moves.after fatal_moves ?e ?_); case e => rfl)
    | ((with_reducible apply Moves.after octetDown_moves ?e ?_); case e => rfl)
    | with_reducible apply Ends.next ?_
    | with_reducible apply Ends.ite ?_ ?_
    | with_reducible apply Moves.ite ?_ ?_

theorem execVinAonLow_moves {x0 x1} : Ends 1028 x1 (execVinAonLow x0 x1) := by
  unfold execVinAonLow
  repeat' first
    | (extract_lets +onlyGivenNames y; first | (refine Ends.bind (x := y) ?_ fun _ => ?_; (on_goal 2 => clear_value y); subst y) | (refine Moves.bind (x := y) ?_ fun _ => ?_; (on_goal 2 => clear_value y); subst y) | clear_value y | subst y)
    | with_reducible assumption
    | with_reducible apply Moves.refl
    | ((with_reducible apply Moves.after wrF_moves ?e ?_); case e => rfl)
    | ((with_reducible apply Moves.after hallmark_moves ?e ?_); case e => rfl)
    | with_reducible apply Ends.next ?_
    | with_reducible apply Ends.ite ?_ ?_
    | with_reducible apply Moves.ite ?_ ?_

/-! Sys2Proof/Machine/Step.lean. -/

theorem idleTick_moves {x0} : Moves 2 x0 (idleTick x0) := by
  unfold idleTick
  repeat' first
    | with_reducible assumption
    | with_reducible apply Moves.refl
    | fail_if_no_progress ((with_reducible apply Moves.set_time ?e ?_); case e => rfl)

theorem State_withFetchWord_moves {x0 x1 x2} : Moves 8796093022208 x0 (State.withFetchWord x0 x1 x2) := by
  unfold State.withFetchWord
  repeat' first
    | with_reducible assumption
    | with_reducible apply Moves.refl
    | fail_if_no_progress ((with_reducible apply Moves.set_pending ?e ?_); case e => rfl)
    | split

end Sys2Proof.Machine
end

