-- ==== Sys2Proof/Laws/State.lean ====
section
/-! SUPPORT. What the shared operations do to each field of State, and what a register, a bit field and a byte read as after a
write: later proofs cite these and unfold no record update. -/

namespace Sys2Proof.Machine

/-! wr changes regs alone. -/

@[simp] theorem wr_a0 (p off : Nat) (v : W32) (s : State) : (wr p off v s).a0 = s.a0 := rfl
@[simp] theorem wr_time (p off : Nat) (v : W32) (s : State) : (wr p off v s).time = s.time := rfl
@[simp] theorem wr_latch (p off : Nat) (v : W32) (s : State) : (wr p off v s).latch = s.latch := rfl
@[simp] theorem wr_held (p off : Nat) (v : W32) (s : State) : (wr p off v s).held = s.held := rfl
@[simp] theorem wr_mem (p off : Nat) (v : W32) (s : State) : (wr p off v s).mem = s.mem := rfl
@[simp] theorem wr_qst (p off : Nat) (v : W32) (s : State) : (wr p off v s).qst = s.qst := rfl
@[simp] theorem wr_nor (p off : Nat) (v : W32) (s : State) : (wr p off v s).nor = s.nor := rfl
@[simp] theorem wr_queues (p off : Nat) (v : W32) (s : State) : (wr p off v s).queues = s.queues := rfl
@[simp] theorem wr_eqc (p off : Nat) (v : W32) (s : State) : (wr p off v s).eqc = s.eqc := rfl
@[simp] theorem wr_hlm (p off : Nat) (v : W32) (s : State) : (wr p off v s).hlm = s.hlm := rfl
@[simp] theorem wr_tmk (p off : Nat) (v : W32) (s : State) : (wr p off v s).tmk = s.tmk := rfl
@[simp] theorem wr_clk (p off : Nat) (v : W32) (s : State) : (wr p off v s).clk = s.clk := rfl
@[simp] theorem wr_fuses (p off : Nat) (v : W32) (s : State) : (wr p off v s).fuses = s.fuses := rfl
@[simp] theorem wr_top (p off : Nat) (v : W32) (s : State) : (wr p off v s).top = s.top := rfl
@[simp] theorem wr_cells (p off : Nat) (v : W32) (s : State) : (wr p off v s).cells = s.cells := rfl
@[simp] theorem wr_aon (p off : Nat) (v : W32) (s : State) : (wr p off v s).aon = s.aon := rfl
@[simp] theorem wr_boot (p off : Nat) (v : W32) (s : State) : (wr p off v s).boot = s.boot := rfl
@[simp] theorem wr_dbg (p off : Nat) (v : W32) (s : State) : (wr p off v s).dbg = s.dbg := rfl
@[simp] theorem wr_pwr (p off : Nat) (v : W32) (s : State) : (wr p off v s).pwr = s.pwr := rfl
@[simp] theorem wr_fwu (p off : Nat) (v : W32) (s : State) : (wr p off v s).fwu = s.fwu := rfl
@[simp] theorem wr_msys (p off : Nat) (v : W32) (s : State) : (wr p off v s).msys = s.msys := rfl
@[simp] theorem wr_cvu (p off : Nat) (v : W32) (s : State) : (wr p off v s).cvu = s.cvu := rfl
@[simp] theorem wr_srd (p off : Nat) (v : W32) (s : State) : (wr p off v s).srd = s.srd := rfl
@[simp] theorem wr_ldg (p off : Nat) (v : W32) (s : State) : (wr p off v s).ldg = s.ldg := rfl
@[simp] theorem wr_ing (p off : Nat) (v : W32) (s : State) : (wr p off v s).ing = s.ing := rfl
@[simp] theorem wr_wdl (p off : Nat) (v : W32) (s : State) : (wr p off v s).wdl = s.wdl := rfl
@[simp] theorem wr_net (p off : Nat) (v : W32) (s : State) : (wr p off v s).net = s.net := rfl
@[simp] theorem wr_xpt (p off : Nat) (v : W32) (s : State) : (wr p off v s).xpt = s.xpt := rfl
@[simp] theorem wr_hq (p off : Nat) (v : W32) (s : State) : (wr p off v s).hq = s.hq := rfl
@[simp] theorem wr_wc (p off : Nat) (v : W32) (s : State) : (wr p off v s).wc = s.wc := rfl
@[simp] theorem wr_eng (p off : Nat) (v : W32) (s : State) : (wr p off v s).eng = s.eng := rfl
@[simp] theorem wr_asy (p off : Nat) (v : W32) (s : State) : (wr p off v s).asy = s.asy := rfl
@[simp] theorem wr_tin (p off : Nat) (v : W32) (s : State) : (wr p off v s).tin = s.tin := rfl
@[simp] theorem wr_frg (p off : Nat) (v : W32) (s : State) : (wr p off v s).frg = s.frg := rfl
@[simp] theorem wr_drp (p off : Nat) (v : W32) (s : State) : (wr p off v s).drp = s.drp := rfl
@[simp] theorem wr_pln (p off : Nat) (v : W32) (s : State) : (wr p off v s).pln = s.pln := rfl
@[simp] theorem wr_anl (p off : Nat) (v : W32) (s : State) : (wr p off v s).anl = s.anl := rfl
@[simp] theorem wr_rpl (p off : Nat) (v : W32) (s : State) : (wr p off v s).rpl = s.rpl := rfl
@[simp] theorem wr_resOwn (p off : Nat) (v : W32) (s : State) : (wr p off v s).resOwn = s.resOwn := rfl
@[simp] theorem wr_resPeer (p off : Nat) (v : W32) (s : State) : (wr p off v s).resPeer = s.resPeer := rfl
@[simp] theorem wr_out (p off : Nat) (v : W32) (s : State) : (wr p off v s).out = s.out := rfl
@[simp] theorem wr_free (p off : Nat) (v : W32) (s : State) : (wr p off v s).free = s.free := rfl
@[simp] theorem wr_pending (p off : Nat) (v : W32) (s : State) : (wr p off v s).pending = s.pending := rfl

/-! wrF changes regs alone. -/

@[simp] theorem wrF_a0 (p off hi lo x : Nat) (s : State) : (wrF p off hi lo x s).a0 = s.a0 := rfl
@[simp] theorem wrF_time (p off hi lo x : Nat) (s : State) : (wrF p off hi lo x s).time = s.time := rfl
@[simp] theorem wrF_latch (p off hi lo x : Nat) (s : State) : (wrF p off hi lo x s).latch = s.latch := rfl
@[simp] theorem wrF_held (p off hi lo x : Nat) (s : State) : (wrF p off hi lo x s).held = s.held := rfl
@[simp] theorem wrF_mem (p off hi lo x : Nat) (s : State) : (wrF p off hi lo x s).mem = s.mem := rfl
@[simp] theorem wrF_qst (p off hi lo x : Nat) (s : State) : (wrF p off hi lo x s).qst = s.qst := rfl
@[simp] theorem wrF_nor (p off hi lo x : Nat) (s : State) : (wrF p off hi lo x s).nor = s.nor := rfl
@[simp] theorem wrF_queues (p off hi lo x : Nat) (s : State) : (wrF p off hi lo x s).queues = s.queues := rfl
@[simp] theorem wrF_eqc (p off hi lo x : Nat) (s : State) : (wrF p off hi lo x s).eqc = s.eqc := rfl
@[simp] theorem wrF_hlm (p off hi lo x : Nat) (s : State) : (wrF p off hi lo x s).hlm = s.hlm := rfl
@[simp] theorem wrF_tmk (p off hi lo x : Nat) (s : State) : (wrF p off hi lo x s).tmk = s.tmk := rfl
@[simp] theorem wrF_clk (p off hi lo x : Nat) (s : State) : (wrF p off hi lo x s).clk = s.clk := rfl
@[simp] theorem wrF_fuses (p off hi lo x : Nat) (s : State) : (wrF p off hi lo x s).fuses = s.fuses := rfl
@[simp] theorem wrF_top (p off hi lo x : Nat) (s : State) : (wrF p off hi lo x s).top = s.top := rfl
@[simp] theorem wrF_cells (p off hi lo x : Nat) (s : State) : (wrF p off hi lo x s).cells = s.cells := rfl
@[simp] theorem wrF_aon (p off hi lo x : Nat) (s : State) : (wrF p off hi lo x s).aon = s.aon := rfl
@[simp] theorem wrF_boot (p off hi lo x : Nat) (s : State) : (wrF p off hi lo x s).boot = s.boot := rfl
@[simp] theorem wrF_dbg (p off hi lo x : Nat) (s : State) : (wrF p off hi lo x s).dbg = s.dbg := rfl
@[simp] theorem wrF_pwr (p off hi lo x : Nat) (s : State) : (wrF p off hi lo x s).pwr = s.pwr := rfl
@[simp] theorem wrF_fwu (p off hi lo x : Nat) (s : State) : (wrF p off hi lo x s).fwu = s.fwu := rfl
@[simp] theorem wrF_msys (p off hi lo x : Nat) (s : State) : (wrF p off hi lo x s).msys = s.msys := rfl
@[simp] theorem wrF_cvu (p off hi lo x : Nat) (s : State) : (wrF p off hi lo x s).cvu = s.cvu := rfl
@[simp] theorem wrF_srd (p off hi lo x : Nat) (s : State) : (wrF p off hi lo x s).srd = s.srd := rfl
@[simp] theorem wrF_ldg (p off hi lo x : Nat) (s : State) : (wrF p off hi lo x s).ldg = s.ldg := rfl
@[simp] theorem wrF_ing (p off hi lo x : Nat) (s : State) : (wrF p off hi lo x s).ing = s.ing := rfl
@[simp] theorem wrF_wdl (p off hi lo x : Nat) (s : State) : (wrF p off hi lo x s).wdl = s.wdl := rfl
@[simp] theorem wrF_net (p off hi lo x : Nat) (s : State) : (wrF p off hi lo x s).net = s.net := rfl
@[simp] theorem wrF_xpt (p off hi lo x : Nat) (s : State) : (wrF p off hi lo x s).xpt = s.xpt := rfl
@[simp] theorem wrF_hq (p off hi lo x : Nat) (s : State) : (wrF p off hi lo x s).hq = s.hq := rfl
@[simp] theorem wrF_wc (p off hi lo x : Nat) (s : State) : (wrF p off hi lo x s).wc = s.wc := rfl
@[simp] theorem wrF_eng (p off hi lo x : Nat) (s : State) : (wrF p off hi lo x s).eng = s.eng := rfl
@[simp] theorem wrF_asy (p off hi lo x : Nat) (s : State) : (wrF p off hi lo x s).asy = s.asy := rfl
@[simp] theorem wrF_tin (p off hi lo x : Nat) (s : State) : (wrF p off hi lo x s).tin = s.tin := rfl
@[simp] theorem wrF_frg (p off hi lo x : Nat) (s : State) : (wrF p off hi lo x s).frg = s.frg := rfl
@[simp] theorem wrF_drp (p off hi lo x : Nat) (s : State) : (wrF p off hi lo x s).drp = s.drp := rfl
@[simp] theorem wrF_pln (p off hi lo x : Nat) (s : State) : (wrF p off hi lo x s).pln = s.pln := rfl
@[simp] theorem wrF_anl (p off hi lo x : Nat) (s : State) : (wrF p off hi lo x s).anl = s.anl := rfl
@[simp] theorem wrF_rpl (p off hi lo x : Nat) (s : State) : (wrF p off hi lo x s).rpl = s.rpl := rfl
@[simp] theorem wrF_resOwn (p off hi lo x : Nat) (s : State) : (wrF p off hi lo x s).resOwn = s.resOwn := rfl
@[simp] theorem wrF_resPeer (p off hi lo x : Nat) (s : State) : (wrF p off hi lo x s).resPeer = s.resPeer := rfl
@[simp] theorem wrF_out (p off hi lo x : Nat) (s : State) : (wrF p off hi lo x s).out = s.out := rfl
@[simp] theorem wrF_free (p off hi lo x : Nat) (s : State) : (wrF p off hi lo x s).free = s.free := rfl
@[simp] theorem wrF_pending (p off hi lo x : Nat) (s : State) : (wrF p off hi lo x s).pending = s.pending := rfl

/-! wr64 changes regs alone. -/

@[simp] theorem wr64_a0 (p off : Nat) (v : W64) (s : State) : (wr64 p off v s).a0 = s.a0 := rfl
@[simp] theorem wr64_time (p off : Nat) (v : W64) (s : State) : (wr64 p off v s).time = s.time := rfl
@[simp] theorem wr64_latch (p off : Nat) (v : W64) (s : State) : (wr64 p off v s).latch = s.latch := rfl
@[simp] theorem wr64_held (p off : Nat) (v : W64) (s : State) : (wr64 p off v s).held = s.held := rfl
@[simp] theorem wr64_mem (p off : Nat) (v : W64) (s : State) : (wr64 p off v s).mem = s.mem := rfl
@[simp] theorem wr64_qst (p off : Nat) (v : W64) (s : State) : (wr64 p off v s).qst = s.qst := rfl
@[simp] theorem wr64_nor (p off : Nat) (v : W64) (s : State) : (wr64 p off v s).nor = s.nor := rfl
@[simp] theorem wr64_queues (p off : Nat) (v : W64) (s : State) : (wr64 p off v s).queues = s.queues := rfl
@[simp] theorem wr64_eqc (p off : Nat) (v : W64) (s : State) : (wr64 p off v s).eqc = s.eqc := rfl
@[simp] theorem wr64_hlm (p off : Nat) (v : W64) (s : State) : (wr64 p off v s).hlm = s.hlm := rfl
@[simp] theorem wr64_tmk (p off : Nat) (v : W64) (s : State) : (wr64 p off v s).tmk = s.tmk := rfl
@[simp] theorem wr64_clk (p off : Nat) (v : W64) (s : State) : (wr64 p off v s).clk = s.clk := rfl
@[simp] theorem wr64_fuses (p off : Nat) (v : W64) (s : State) : (wr64 p off v s).fuses = s.fuses := rfl
@[simp] theorem wr64_top (p off : Nat) (v : W64) (s : State) : (wr64 p off v s).top = s.top := rfl
@[simp] theorem wr64_cells (p off : Nat) (v : W64) (s : State) : (wr64 p off v s).cells = s.cells := rfl
@[simp] theorem wr64_aon (p off : Nat) (v : W64) (s : State) : (wr64 p off v s).aon = s.aon := rfl
@[simp] theorem wr64_boot (p off : Nat) (v : W64) (s : State) : (wr64 p off v s).boot = s.boot := rfl
@[simp] theorem wr64_dbg (p off : Nat) (v : W64) (s : State) : (wr64 p off v s).dbg = s.dbg := rfl
@[simp] theorem wr64_pwr (p off : Nat) (v : W64) (s : State) : (wr64 p off v s).pwr = s.pwr := rfl
@[simp] theorem wr64_fwu (p off : Nat) (v : W64) (s : State) : (wr64 p off v s).fwu = s.fwu := rfl
@[simp] theorem wr64_msys (p off : Nat) (v : W64) (s : State) : (wr64 p off v s).msys = s.msys := rfl
@[simp] theorem wr64_cvu (p off : Nat) (v : W64) (s : State) : (wr64 p off v s).cvu = s.cvu := rfl
@[simp] theorem wr64_srd (p off : Nat) (v : W64) (s : State) : (wr64 p off v s).srd = s.srd := rfl
@[simp] theorem wr64_ldg (p off : Nat) (v : W64) (s : State) : (wr64 p off v s).ldg = s.ldg := rfl
@[simp] theorem wr64_ing (p off : Nat) (v : W64) (s : State) : (wr64 p off v s).ing = s.ing := rfl
@[simp] theorem wr64_wdl (p off : Nat) (v : W64) (s : State) : (wr64 p off v s).wdl = s.wdl := rfl
@[simp] theorem wr64_net (p off : Nat) (v : W64) (s : State) : (wr64 p off v s).net = s.net := rfl
@[simp] theorem wr64_xpt (p off : Nat) (v : W64) (s : State) : (wr64 p off v s).xpt = s.xpt := rfl
@[simp] theorem wr64_hq (p off : Nat) (v : W64) (s : State) : (wr64 p off v s).hq = s.hq := rfl
@[simp] theorem wr64_wc (p off : Nat) (v : W64) (s : State) : (wr64 p off v s).wc = s.wc := rfl
@[simp] theorem wr64_eng (p off : Nat) (v : W64) (s : State) : (wr64 p off v s).eng = s.eng := rfl
@[simp] theorem wr64_asy (p off : Nat) (v : W64) (s : State) : (wr64 p off v s).asy = s.asy := rfl
@[simp] theorem wr64_tin (p off : Nat) (v : W64) (s : State) : (wr64 p off v s).tin = s.tin := rfl
@[simp] theorem wr64_frg (p off : Nat) (v : W64) (s : State) : (wr64 p off v s).frg = s.frg := rfl
@[simp] theorem wr64_drp (p off : Nat) (v : W64) (s : State) : (wr64 p off v s).drp = s.drp := rfl
@[simp] theorem wr64_pln (p off : Nat) (v : W64) (s : State) : (wr64 p off v s).pln = s.pln := rfl
@[simp] theorem wr64_anl (p off : Nat) (v : W64) (s : State) : (wr64 p off v s).anl = s.anl := rfl
@[simp] theorem wr64_rpl (p off : Nat) (v : W64) (s : State) : (wr64 p off v s).rpl = s.rpl := rfl
@[simp] theorem wr64_resOwn (p off : Nat) (v : W64) (s : State) : (wr64 p off v s).resOwn = s.resOwn := rfl
@[simp] theorem wr64_resPeer (p off : Nat) (v : W64) (s : State) : (wr64 p off v s).resPeer = s.resPeer := rfl
@[simp] theorem wr64_out (p off : Nat) (v : W64) (s : State) : (wr64 p off v s).out = s.out := rfl
@[simp] theorem wr64_free (p off : Nat) (v : W64) (s : State) : (wr64 p off v s).free = s.free := rfl
@[simp] theorem wr64_pending (p off : Nat) (v : W64) (s : State) : (wr64 p off v s).pending = s.pending := rfl

/-! bump changes regs alone. -/

@[simp] theorem bump_a0 (p off n : Nat) (s : State) : (bump p off n s).a0 = s.a0 := rfl
@[simp] theorem bump_time (p off n : Nat) (s : State) : (bump p off n s).time = s.time := rfl
@[simp] theorem bump_latch (p off n : Nat) (s : State) : (bump p off n s).latch = s.latch := rfl
@[simp] theorem bump_held (p off n : Nat) (s : State) : (bump p off n s).held = s.held := rfl
@[simp] theorem bump_mem (p off n : Nat) (s : State) : (bump p off n s).mem = s.mem := rfl
@[simp] theorem bump_qst (p off n : Nat) (s : State) : (bump p off n s).qst = s.qst := rfl
@[simp] theorem bump_nor (p off n : Nat) (s : State) : (bump p off n s).nor = s.nor := rfl
@[simp] theorem bump_queues (p off n : Nat) (s : State) : (bump p off n s).queues = s.queues := rfl
@[simp] theorem bump_eqc (p off n : Nat) (s : State) : (bump p off n s).eqc = s.eqc := rfl
@[simp] theorem bump_hlm (p off n : Nat) (s : State) : (bump p off n s).hlm = s.hlm := rfl
@[simp] theorem bump_tmk (p off n : Nat) (s : State) : (bump p off n s).tmk = s.tmk := rfl
@[simp] theorem bump_clk (p off n : Nat) (s : State) : (bump p off n s).clk = s.clk := rfl
@[simp] theorem bump_fuses (p off n : Nat) (s : State) : (bump p off n s).fuses = s.fuses := rfl
@[simp] theorem bump_top (p off n : Nat) (s : State) : (bump p off n s).top = s.top := rfl
@[simp] theorem bump_cells (p off n : Nat) (s : State) : (bump p off n s).cells = s.cells := rfl
@[simp] theorem bump_aon (p off n : Nat) (s : State) : (bump p off n s).aon = s.aon := rfl
@[simp] theorem bump_boot (p off n : Nat) (s : State) : (bump p off n s).boot = s.boot := rfl
@[simp] theorem bump_dbg (p off n : Nat) (s : State) : (bump p off n s).dbg = s.dbg := rfl
@[simp] theorem bump_pwr (p off n : Nat) (s : State) : (bump p off n s).pwr = s.pwr := rfl
@[simp] theorem bump_fwu (p off n : Nat) (s : State) : (bump p off n s).fwu = s.fwu := rfl
@[simp] theorem bump_msys (p off n : Nat) (s : State) : (bump p off n s).msys = s.msys := rfl
@[simp] theorem bump_cvu (p off n : Nat) (s : State) : (bump p off n s).cvu = s.cvu := rfl
@[simp] theorem bump_srd (p off n : Nat) (s : State) : (bump p off n s).srd = s.srd := rfl
@[simp] theorem bump_ldg (p off n : Nat) (s : State) : (bump p off n s).ldg = s.ldg := rfl
@[simp] theorem bump_ing (p off n : Nat) (s : State) : (bump p off n s).ing = s.ing := rfl
@[simp] theorem bump_wdl (p off n : Nat) (s : State) : (bump p off n s).wdl = s.wdl := rfl
@[simp] theorem bump_net (p off n : Nat) (s : State) : (bump p off n s).net = s.net := rfl
@[simp] theorem bump_xpt (p off n : Nat) (s : State) : (bump p off n s).xpt = s.xpt := rfl
@[simp] theorem bump_hq (p off n : Nat) (s : State) : (bump p off n s).hq = s.hq := rfl
@[simp] theorem bump_wc (p off n : Nat) (s : State) : (bump p off n s).wc = s.wc := rfl
@[simp] theorem bump_eng (p off n : Nat) (s : State) : (bump p off n s).eng = s.eng := rfl
@[simp] theorem bump_asy (p off n : Nat) (s : State) : (bump p off n s).asy = s.asy := rfl
@[simp] theorem bump_tin (p off n : Nat) (s : State) : (bump p off n s).tin = s.tin := rfl
@[simp] theorem bump_frg (p off n : Nat) (s : State) : (bump p off n s).frg = s.frg := rfl
@[simp] theorem bump_drp (p off n : Nat) (s : State) : (bump p off n s).drp = s.drp := rfl
@[simp] theorem bump_pln (p off n : Nat) (s : State) : (bump p off n s).pln = s.pln := rfl
@[simp] theorem bump_anl (p off n : Nat) (s : State) : (bump p off n s).anl = s.anl := rfl
@[simp] theorem bump_rpl (p off n : Nat) (s : State) : (bump p off n s).rpl = s.rpl := rfl
@[simp] theorem bump_resOwn (p off n : Nat) (s : State) : (bump p off n s).resOwn = s.resOwn := rfl
@[simp] theorem bump_resPeer (p off n : Nat) (s : State) : (bump p off n s).resPeer = s.resPeer := rfl
@[simp] theorem bump_out (p off n : Nat) (s : State) : (bump p off n s).out = s.out := rfl
@[simp] theorem bump_free (p off n : Nat) (s : State) : (bump p off n s).free = s.free := rfl
@[simp] theorem bump_pending (p off n : Nat) (s : State) : (bump p off n s).pending = s.pending := rfl

/-! memWrite changes mem alone. -/

@[simp] theorem memWrite_a0 (a : Nat) (bs : List Byte) (s : State) : (memWrite a bs s).a0 = s.a0 := rfl
@[simp] theorem memWrite_time (a : Nat) (bs : List Byte) (s : State) : (memWrite a bs s).time = s.time := rfl
@[simp] theorem memWrite_regs (a : Nat) (bs : List Byte) (s : State) : (memWrite a bs s).regs = s.regs := rfl
@[simp] theorem memWrite_latch (a : Nat) (bs : List Byte) (s : State) : (memWrite a bs s).latch = s.latch := rfl
@[simp] theorem memWrite_held (a : Nat) (bs : List Byte) (s : State) : (memWrite a bs s).held = s.held := rfl
@[simp] theorem memWrite_qst (a : Nat) (bs : List Byte) (s : State) : (memWrite a bs s).qst = s.qst := rfl
@[simp] theorem memWrite_nor (a : Nat) (bs : List Byte) (s : State) : (memWrite a bs s).nor = s.nor := rfl
@[simp] theorem memWrite_queues (a : Nat) (bs : List Byte) (s : State) : (memWrite a bs s).queues = s.queues := rfl
@[simp] theorem memWrite_eqc (a : Nat) (bs : List Byte) (s : State) : (memWrite a bs s).eqc = s.eqc := rfl
@[simp] theorem memWrite_hlm (a : Nat) (bs : List Byte) (s : State) : (memWrite a bs s).hlm = s.hlm := rfl
@[simp] theorem memWrite_tmk (a : Nat) (bs : List Byte) (s : State) : (memWrite a bs s).tmk = s.tmk := rfl
@[simp] theorem memWrite_clk (a : Nat) (bs : List Byte) (s : State) : (memWrite a bs s).clk = s.clk := rfl
@[simp] theorem memWrite_fuses (a : Nat) (bs : List Byte) (s : State) : (memWrite a bs s).fuses = s.fuses := rfl
@[simp] theorem memWrite_top (a : Nat) (bs : List Byte) (s : State) : (memWrite a bs s).top = s.top := rfl
@[simp] theorem memWrite_cells (a : Nat) (bs : List Byte) (s : State) : (memWrite a bs s).cells = s.cells := rfl
@[simp] theorem memWrite_aon (a : Nat) (bs : List Byte) (s : State) : (memWrite a bs s).aon = s.aon := rfl
@[simp] theorem memWrite_boot (a : Nat) (bs : List Byte) (s : State) : (memWrite a bs s).boot = s.boot := rfl
@[simp] theorem memWrite_dbg (a : Nat) (bs : List Byte) (s : State) : (memWrite a bs s).dbg = s.dbg := rfl
@[simp] theorem memWrite_pwr (a : Nat) (bs : List Byte) (s : State) : (memWrite a bs s).pwr = s.pwr := rfl
@[simp] theorem memWrite_fwu (a : Nat) (bs : List Byte) (s : State) : (memWrite a bs s).fwu = s.fwu := rfl
@[simp] theorem memWrite_msys (a : Nat) (bs : List Byte) (s : State) : (memWrite a bs s).msys = s.msys := rfl
@[simp] theorem memWrite_cvu (a : Nat) (bs : List Byte) (s : State) : (memWrite a bs s).cvu = s.cvu := rfl
@[simp] theorem memWrite_srd (a : Nat) (bs : List Byte) (s : State) : (memWrite a bs s).srd = s.srd := rfl
@[simp] theorem memWrite_ldg (a : Nat) (bs : List Byte) (s : State) : (memWrite a bs s).ldg = s.ldg := rfl
@[simp] theorem memWrite_ing (a : Nat) (bs : List Byte) (s : State) : (memWrite a bs s).ing = s.ing := rfl
@[simp] theorem memWrite_wdl (a : Nat) (bs : List Byte) (s : State) : (memWrite a bs s).wdl = s.wdl := rfl
@[simp] theorem memWrite_net (a : Nat) (bs : List Byte) (s : State) : (memWrite a bs s).net = s.net := rfl
@[simp] theorem memWrite_xpt (a : Nat) (bs : List Byte) (s : State) : (memWrite a bs s).xpt = s.xpt := rfl
@[simp] theorem memWrite_hq (a : Nat) (bs : List Byte) (s : State) : (memWrite a bs s).hq = s.hq := rfl
@[simp] theorem memWrite_wc (a : Nat) (bs : List Byte) (s : State) : (memWrite a bs s).wc = s.wc := rfl
@[simp] theorem memWrite_eng (a : Nat) (bs : List Byte) (s : State) : (memWrite a bs s).eng = s.eng := rfl
@[simp] theorem memWrite_asy (a : Nat) (bs : List Byte) (s : State) : (memWrite a bs s).asy = s.asy := rfl
@[simp] theorem memWrite_tin (a : Nat) (bs : List Byte) (s : State) : (memWrite a bs s).tin = s.tin := rfl
@[simp] theorem memWrite_frg (a : Nat) (bs : List Byte) (s : State) : (memWrite a bs s).frg = s.frg := rfl
@[simp] theorem memWrite_drp (a : Nat) (bs : List Byte) (s : State) : (memWrite a bs s).drp = s.drp := rfl
@[simp] theorem memWrite_pln (a : Nat) (bs : List Byte) (s : State) : (memWrite a bs s).pln = s.pln := rfl
@[simp] theorem memWrite_anl (a : Nat) (bs : List Byte) (s : State) : (memWrite a bs s).anl = s.anl := rfl
@[simp] theorem memWrite_rpl (a : Nat) (bs : List Byte) (s : State) : (memWrite a bs s).rpl = s.rpl := rfl
@[simp] theorem memWrite_resOwn (a : Nat) (bs : List Byte) (s : State) : (memWrite a bs s).resOwn = s.resOwn := rfl
@[simp] theorem memWrite_resPeer (a : Nat) (bs : List Byte) (s : State) : (memWrite a bs s).resPeer = s.resPeer := rfl
@[simp] theorem memWrite_out (a : Nat) (bs : List Byte) (s : State) : (memWrite a bs s).out = s.out := rfl
@[simp] theorem memWrite_free (a : Nat) (bs : List Byte) (s : State) : (memWrite a bs s).free = s.free := rfl
@[simp] theorem memWrite_pending (a : Nat) (bs : List Byte) (s : State) : (memWrite a bs s).pending = s.pending := rfl

/-! qstWrite changes qst alone. -/

@[simp] theorem qstWrite_a0 (a : Nat) (bs : List Byte) (s : State) : (qstWrite a bs s).a0 = s.a0 := rfl
@[simp] theorem qstWrite_time (a : Nat) (bs : List Byte) (s : State) : (qstWrite a bs s).time = s.time := rfl
@[simp] theorem qstWrite_regs (a : Nat) (bs : List Byte) (s : State) : (qstWrite a bs s).regs = s.regs := rfl
@[simp] theorem qstWrite_latch (a : Nat) (bs : List Byte) (s : State) : (qstWrite a bs s).latch = s.latch := rfl
@[simp] theorem qstWrite_held (a : Nat) (bs : List Byte) (s : State) : (qstWrite a bs s).held = s.held := rfl
@[simp] theorem qstWrite_mem (a : Nat) (bs : List Byte) (s : State) : (qstWrite a bs s).mem = s.mem := rfl
@[simp] theorem qstWrite_nor (a : Nat) (bs : List Byte) (s : State) : (qstWrite a bs s).nor = s.nor := rfl
@[simp] theorem qstWrite_queues (a : Nat) (bs : List Byte) (s : State) : (qstWrite a bs s).queues = s.queues := rfl
@[simp] theorem qstWrite_eqc (a : Nat) (bs : List Byte) (s : State) : (qstWrite a bs s).eqc = s.eqc := rfl
@[simp] theorem qstWrite_hlm (a : Nat) (bs : List Byte) (s : State) : (qstWrite a bs s).hlm = s.hlm := rfl
@[simp] theorem qstWrite_tmk (a : Nat) (bs : List Byte) (s : State) : (qstWrite a bs s).tmk = s.tmk := rfl
@[simp] theorem qstWrite_clk (a : Nat) (bs : List Byte) (s : State) : (qstWrite a bs s).clk = s.clk := rfl
@[simp] theorem qstWrite_fuses (a : Nat) (bs : List Byte) (s : State) : (qstWrite a bs s).fuses = s.fuses := rfl
@[simp] theorem qstWrite_top (a : Nat) (bs : List Byte) (s : State) : (qstWrite a bs s).top = s.top := rfl
@[simp] theorem qstWrite_cells (a : Nat) (bs : List Byte) (s : State) : (qstWrite a bs s).cells = s.cells := rfl
@[simp] theorem qstWrite_aon (a : Nat) (bs : List Byte) (s : State) : (qstWrite a bs s).aon = s.aon := rfl
@[simp] theorem qstWrite_boot (a : Nat) (bs : List Byte) (s : State) : (qstWrite a bs s).boot = s.boot := rfl
@[simp] theorem qstWrite_dbg (a : Nat) (bs : List Byte) (s : State) : (qstWrite a bs s).dbg = s.dbg := rfl
@[simp] theorem qstWrite_pwr (a : Nat) (bs : List Byte) (s : State) : (qstWrite a bs s).pwr = s.pwr := rfl
@[simp] theorem qstWrite_fwu (a : Nat) (bs : List Byte) (s : State) : (qstWrite a bs s).fwu = s.fwu := rfl
@[simp] theorem qstWrite_msys (a : Nat) (bs : List Byte) (s : State) : (qstWrite a bs s).msys = s.msys := rfl
@[simp] theorem qstWrite_cvu (a : Nat) (bs : List Byte) (s : State) : (qstWrite a bs s).cvu = s.cvu := rfl
@[simp] theorem qstWrite_srd (a : Nat) (bs : List Byte) (s : State) : (qstWrite a bs s).srd = s.srd := rfl
@[simp] theorem qstWrite_ldg (a : Nat) (bs : List Byte) (s : State) : (qstWrite a bs s).ldg = s.ldg := rfl
@[simp] theorem qstWrite_ing (a : Nat) (bs : List Byte) (s : State) : (qstWrite a bs s).ing = s.ing := rfl
@[simp] theorem qstWrite_wdl (a : Nat) (bs : List Byte) (s : State) : (qstWrite a bs s).wdl = s.wdl := rfl
@[simp] theorem qstWrite_net (a : Nat) (bs : List Byte) (s : State) : (qstWrite a bs s).net = s.net := rfl
@[simp] theorem qstWrite_xpt (a : Nat) (bs : List Byte) (s : State) : (qstWrite a bs s).xpt = s.xpt := rfl
@[simp] theorem qstWrite_hq (a : Nat) (bs : List Byte) (s : State) : (qstWrite a bs s).hq = s.hq := rfl
@[simp] theorem qstWrite_wc (a : Nat) (bs : List Byte) (s : State) : (qstWrite a bs s).wc = s.wc := rfl
@[simp] theorem qstWrite_eng (a : Nat) (bs : List Byte) (s : State) : (qstWrite a bs s).eng = s.eng := rfl
@[simp] theorem qstWrite_asy (a : Nat) (bs : List Byte) (s : State) : (qstWrite a bs s).asy = s.asy := rfl
@[simp] theorem qstWrite_tin (a : Nat) (bs : List Byte) (s : State) : (qstWrite a bs s).tin = s.tin := rfl
@[simp] theorem qstWrite_frg (a : Nat) (bs : List Byte) (s : State) : (qstWrite a bs s).frg = s.frg := rfl
@[simp] theorem qstWrite_drp (a : Nat) (bs : List Byte) (s : State) : (qstWrite a bs s).drp = s.drp := rfl
@[simp] theorem qstWrite_pln (a : Nat) (bs : List Byte) (s : State) : (qstWrite a bs s).pln = s.pln := rfl
@[simp] theorem qstWrite_anl (a : Nat) (bs : List Byte) (s : State) : (qstWrite a bs s).anl = s.anl := rfl
@[simp] theorem qstWrite_rpl (a : Nat) (bs : List Byte) (s : State) : (qstWrite a bs s).rpl = s.rpl := rfl
@[simp] theorem qstWrite_resOwn (a : Nat) (bs : List Byte) (s : State) : (qstWrite a bs s).resOwn = s.resOwn := rfl
@[simp] theorem qstWrite_resPeer (a : Nat) (bs : List Byte) (s : State) : (qstWrite a bs s).resPeer = s.resPeer := rfl
@[simp] theorem qstWrite_out (a : Nat) (bs : List Byte) (s : State) : (qstWrite a bs s).out = s.out := rfl
@[simp] theorem qstWrite_free (a : Nat) (bs : List Byte) (s : State) : (qstWrite a bs s).free = s.free := rfl
@[simp] theorem qstWrite_pending (a : Nat) (bs : List Byte) (s : State) : (qstWrite a bs s).pending = s.pending := rfl

/-! norWrite changes nor alone. -/

@[simp] theorem norWrite_a0 (a : Nat) (bs : List Byte) (s : State) : (norWrite a bs s).a0 = s.a0 := rfl
@[simp] theorem norWrite_time (a : Nat) (bs : List Byte) (s : State) : (norWrite a bs s).time = s.time := rfl
@[simp] theorem norWrite_regs (a : Nat) (bs : List Byte) (s : State) : (norWrite a bs s).regs = s.regs := rfl
@[simp] theorem norWrite_latch (a : Nat) (bs : List Byte) (s : State) : (norWrite a bs s).latch = s.latch := rfl
@[simp] theorem norWrite_held (a : Nat) (bs : List Byte) (s : State) : (norWrite a bs s).held = s.held := rfl
@[simp] theorem norWrite_mem (a : Nat) (bs : List Byte) (s : State) : (norWrite a bs s).mem = s.mem := rfl
@[simp] theorem norWrite_qst (a : Nat) (bs : List Byte) (s : State) : (norWrite a bs s).qst = s.qst := rfl
@[simp] theorem norWrite_queues (a : Nat) (bs : List Byte) (s : State) : (norWrite a bs s).queues = s.queues := rfl
@[simp] theorem norWrite_eqc (a : Nat) (bs : List Byte) (s : State) : (norWrite a bs s).eqc = s.eqc := rfl
@[simp] theorem norWrite_hlm (a : Nat) (bs : List Byte) (s : State) : (norWrite a bs s).hlm = s.hlm := rfl
@[simp] theorem norWrite_tmk (a : Nat) (bs : List Byte) (s : State) : (norWrite a bs s).tmk = s.tmk := rfl
@[simp] theorem norWrite_clk (a : Nat) (bs : List Byte) (s : State) : (norWrite a bs s).clk = s.clk := rfl
@[simp] theorem norWrite_fuses (a : Nat) (bs : List Byte) (s : State) : (norWrite a bs s).fuses = s.fuses := rfl
@[simp] theorem norWrite_top (a : Nat) (bs : List Byte) (s : State) : (norWrite a bs s).top = s.top := rfl
@[simp] theorem norWrite_cells (a : Nat) (bs : List Byte) (s : State) : (norWrite a bs s).cells = s.cells := rfl
@[simp] theorem norWrite_aon (a : Nat) (bs : List Byte) (s : State) : (norWrite a bs s).aon = s.aon := rfl
@[simp] theorem norWrite_boot (a : Nat) (bs : List Byte) (s : State) : (norWrite a bs s).boot = s.boot := rfl
@[simp] theorem norWrite_dbg (a : Nat) (bs : List Byte) (s : State) : (norWrite a bs s).dbg = s.dbg := rfl
@[simp] theorem norWrite_pwr (a : Nat) (bs : List Byte) (s : State) : (norWrite a bs s).pwr = s.pwr := rfl
@[simp] theorem norWrite_fwu (a : Nat) (bs : List Byte) (s : State) : (norWrite a bs s).fwu = s.fwu := rfl
@[simp] theorem norWrite_msys (a : Nat) (bs : List Byte) (s : State) : (norWrite a bs s).msys = s.msys := rfl
@[simp] theorem norWrite_cvu (a : Nat) (bs : List Byte) (s : State) : (norWrite a bs s).cvu = s.cvu := rfl
@[simp] theorem norWrite_srd (a : Nat) (bs : List Byte) (s : State) : (norWrite a bs s).srd = s.srd := rfl
@[simp] theorem norWrite_ldg (a : Nat) (bs : List Byte) (s : State) : (norWrite a bs s).ldg = s.ldg := rfl
@[simp] theorem norWrite_ing (a : Nat) (bs : List Byte) (s : State) : (norWrite a bs s).ing = s.ing := rfl
@[simp] theorem norWrite_wdl (a : Nat) (bs : List Byte) (s : State) : (norWrite a bs s).wdl = s.wdl := rfl
@[simp] theorem norWrite_net (a : Nat) (bs : List Byte) (s : State) : (norWrite a bs s).net = s.net := rfl
@[simp] theorem norWrite_xpt (a : Nat) (bs : List Byte) (s : State) : (norWrite a bs s).xpt = s.xpt := rfl
@[simp] theorem norWrite_hq (a : Nat) (bs : List Byte) (s : State) : (norWrite a bs s).hq = s.hq := rfl
@[simp] theorem norWrite_wc (a : Nat) (bs : List Byte) (s : State) : (norWrite a bs s).wc = s.wc := rfl
@[simp] theorem norWrite_eng (a : Nat) (bs : List Byte) (s : State) : (norWrite a bs s).eng = s.eng := rfl
@[simp] theorem norWrite_asy (a : Nat) (bs : List Byte) (s : State) : (norWrite a bs s).asy = s.asy := rfl
@[simp] theorem norWrite_tin (a : Nat) (bs : List Byte) (s : State) : (norWrite a bs s).tin = s.tin := rfl
@[simp] theorem norWrite_frg (a : Nat) (bs : List Byte) (s : State) : (norWrite a bs s).frg = s.frg := rfl
@[simp] theorem norWrite_drp (a : Nat) (bs : List Byte) (s : State) : (norWrite a bs s).drp = s.drp := rfl
@[simp] theorem norWrite_pln (a : Nat) (bs : List Byte) (s : State) : (norWrite a bs s).pln = s.pln := rfl
@[simp] theorem norWrite_anl (a : Nat) (bs : List Byte) (s : State) : (norWrite a bs s).anl = s.anl := rfl
@[simp] theorem norWrite_rpl (a : Nat) (bs : List Byte) (s : State) : (norWrite a bs s).rpl = s.rpl := rfl
@[simp] theorem norWrite_resOwn (a : Nat) (bs : List Byte) (s : State) : (norWrite a bs s).resOwn = s.resOwn := rfl
@[simp] theorem norWrite_resPeer (a : Nat) (bs : List Byte) (s : State) : (norWrite a bs s).resPeer = s.resPeer := rfl
@[simp] theorem norWrite_out (a : Nat) (bs : List Byte) (s : State) : (norWrite a bs s).out = s.out := rfl
@[simp] theorem norWrite_free (a : Nat) (bs : List Byte) (s : State) : (norWrite a bs s).free = s.free := rfl
@[simp] theorem norWrite_pending (a : Nat) (bs : List Byte) (s : State) : (norWrite a bs s).pending = s.pending := rfl

/-! emit changes out alone. -/

@[simp] theorem emit_a0 (m : Msg) (s : State) : (emit m s).a0 = s.a0 := rfl
@[simp] theorem emit_time (m : Msg) (s : State) : (emit m s).time = s.time := rfl
@[simp] theorem emit_regs (m : Msg) (s : State) : (emit m s).regs = s.regs := rfl
@[simp] theorem emit_latch (m : Msg) (s : State) : (emit m s).latch = s.latch := rfl
@[simp] theorem emit_held (m : Msg) (s : State) : (emit m s).held = s.held := rfl
@[simp] theorem emit_mem (m : Msg) (s : State) : (emit m s).mem = s.mem := rfl
@[simp] theorem emit_qst (m : Msg) (s : State) : (emit m s).qst = s.qst := rfl
@[simp] theorem emit_nor (m : Msg) (s : State) : (emit m s).nor = s.nor := rfl
@[simp] theorem emit_queues (m : Msg) (s : State) : (emit m s).queues = s.queues := rfl
@[simp] theorem emit_eqc (m : Msg) (s : State) : (emit m s).eqc = s.eqc := rfl
@[simp] theorem emit_hlm (m : Msg) (s : State) : (emit m s).hlm = s.hlm := rfl
@[simp] theorem emit_tmk (m : Msg) (s : State) : (emit m s).tmk = s.tmk := rfl
@[simp] theorem emit_clk (m : Msg) (s : State) : (emit m s).clk = s.clk := rfl
@[simp] theorem emit_fuses (m : Msg) (s : State) : (emit m s).fuses = s.fuses := rfl
@[simp] theorem emit_top (m : Msg) (s : State) : (emit m s).top = s.top := rfl
@[simp] theorem emit_cells (m : Msg) (s : State) : (emit m s).cells = s.cells := rfl
@[simp] theorem emit_aon (m : Msg) (s : State) : (emit m s).aon = s.aon := rfl
@[simp] theorem emit_boot (m : Msg) (s : State) : (emit m s).boot = s.boot := rfl
@[simp] theorem emit_dbg (m : Msg) (s : State) : (emit m s).dbg = s.dbg := rfl
@[simp] theorem emit_pwr (m : Msg) (s : State) : (emit m s).pwr = s.pwr := rfl
@[simp] theorem emit_fwu (m : Msg) (s : State) : (emit m s).fwu = s.fwu := rfl
@[simp] theorem emit_msys (m : Msg) (s : State) : (emit m s).msys = s.msys := rfl
@[simp] theorem emit_cvu (m : Msg) (s : State) : (emit m s).cvu = s.cvu := rfl
@[simp] theorem emit_srd (m : Msg) (s : State) : (emit m s).srd = s.srd := rfl
@[simp] theorem emit_ldg (m : Msg) (s : State) : (emit m s).ldg = s.ldg := rfl
@[simp] theorem emit_ing (m : Msg) (s : State) : (emit m s).ing = s.ing := rfl
@[simp] theorem emit_wdl (m : Msg) (s : State) : (emit m s).wdl = s.wdl := rfl
@[simp] theorem emit_net (m : Msg) (s : State) : (emit m s).net = s.net := rfl
@[simp] theorem emit_xpt (m : Msg) (s : State) : (emit m s).xpt = s.xpt := rfl
@[simp] theorem emit_hq (m : Msg) (s : State) : (emit m s).hq = s.hq := rfl
@[simp] theorem emit_wc (m : Msg) (s : State) : (emit m s).wc = s.wc := rfl
@[simp] theorem emit_eng (m : Msg) (s : State) : (emit m s).eng = s.eng := rfl
@[simp] theorem emit_asy (m : Msg) (s : State) : (emit m s).asy = s.asy := rfl
@[simp] theorem emit_tin (m : Msg) (s : State) : (emit m s).tin = s.tin := rfl
@[simp] theorem emit_frg (m : Msg) (s : State) : (emit m s).frg = s.frg := rfl
@[simp] theorem emit_drp (m : Msg) (s : State) : (emit m s).drp = s.drp := rfl
@[simp] theorem emit_pln (m : Msg) (s : State) : (emit m s).pln = s.pln := rfl
@[simp] theorem emit_anl (m : Msg) (s : State) : (emit m s).anl = s.anl := rfl
@[simp] theorem emit_rpl (m : Msg) (s : State) : (emit m s).rpl = s.rpl := rfl
@[simp] theorem emit_resOwn (m : Msg) (s : State) : (emit m s).resOwn = s.resOwn := rfl
@[simp] theorem emit_resPeer (m : Msg) (s : State) : (emit m s).resPeer = s.resPeer := rfl
@[simp] theorem emit_free (m : Msg) (s : State) : (emit m s).free = s.free := rfl
@[simp] theorem emit_pending (m : Msg) (s : State) : (emit m s).pending = s.pending := rfl

/-! draw changes free alone. -/

@[simp] theorem draw_a0 (s : State) : (draw s).2.a0 = s.a0 := rfl
@[simp] theorem draw_time (s : State) : (draw s).2.time = s.time := rfl
@[simp] theorem draw_regs (s : State) : (draw s).2.regs = s.regs := rfl
@[simp] theorem draw_latch (s : State) : (draw s).2.latch = s.latch := rfl
@[simp] theorem draw_held (s : State) : (draw s).2.held = s.held := rfl
@[simp] theorem draw_mem (s : State) : (draw s).2.mem = s.mem := rfl
@[simp] theorem draw_qst (s : State) : (draw s).2.qst = s.qst := rfl
@[simp] theorem draw_nor (s : State) : (draw s).2.nor = s.nor := rfl
@[simp] theorem draw_queues (s : State) : (draw s).2.queues = s.queues := rfl
@[simp] theorem draw_eqc (s : State) : (draw s).2.eqc = s.eqc := rfl
@[simp] theorem draw_hlm (s : State) : (draw s).2.hlm = s.hlm := rfl
@[simp] theorem draw_tmk (s : State) : (draw s).2.tmk = s.tmk := rfl
@[simp] theorem draw_clk (s : State) : (draw s).2.clk = s.clk := rfl
@[simp] theorem draw_fuses (s : State) : (draw s).2.fuses = s.fuses := rfl
@[simp] theorem draw_top (s : State) : (draw s).2.top = s.top := rfl
@[simp] theorem draw_cells (s : State) : (draw s).2.cells = s.cells := rfl
@[simp] theorem draw_aon (s : State) : (draw s).2.aon = s.aon := rfl
@[simp] theorem draw_boot (s : State) : (draw s).2.boot = s.boot := rfl
@[simp] theorem draw_dbg (s : State) : (draw s).2.dbg = s.dbg := rfl
@[simp] theorem draw_pwr (s : State) : (draw s).2.pwr = s.pwr := rfl
@[simp] theorem draw_fwu (s : State) : (draw s).2.fwu = s.fwu := rfl
@[simp] theorem draw_msys (s : State) : (draw s).2.msys = s.msys := rfl
@[simp] theorem draw_cvu (s : State) : (draw s).2.cvu = s.cvu := rfl
@[simp] theorem draw_srd (s : State) : (draw s).2.srd = s.srd := rfl
@[simp] theorem draw_ldg (s : State) : (draw s).2.ldg = s.ldg := rfl
@[simp] theorem draw_ing (s : State) : (draw s).2.ing = s.ing := rfl
@[simp] theorem draw_wdl (s : State) : (draw s).2.wdl = s.wdl := rfl
@[simp] theorem draw_net (s : State) : (draw s).2.net = s.net := rfl
@[simp] theorem draw_xpt (s : State) : (draw s).2.xpt = s.xpt := rfl
@[simp] theorem draw_hq (s : State) : (draw s).2.hq = s.hq := rfl
@[simp] theorem draw_wc (s : State) : (draw s).2.wc = s.wc := rfl
@[simp] theorem draw_eng (s : State) : (draw s).2.eng = s.eng := rfl
@[simp] theorem draw_asy (s : State) : (draw s).2.asy = s.asy := rfl
@[simp] theorem draw_tin (s : State) : (draw s).2.tin = s.tin := rfl
@[simp] theorem draw_frg (s : State) : (draw s).2.frg = s.frg := rfl
@[simp] theorem draw_drp (s : State) : (draw s).2.drp = s.drp := rfl
@[simp] theorem draw_pln (s : State) : (draw s).2.pln = s.pln := rfl
@[simp] theorem draw_anl (s : State) : (draw s).2.anl = s.anl := rfl
@[simp] theorem draw_rpl (s : State) : (draw s).2.rpl = s.rpl := rfl
@[simp] theorem draw_resOwn (s : State) : (draw s).2.resOwn = s.resOwn := rfl
@[simp] theorem draw_resPeer (s : State) : (draw s).2.resPeer = s.resPeer := rfl
@[simp] theorem draw_out (s : State) : (draw s).2.out = s.out := rfl
@[simp] theorem draw_pending (s : State) : (draw s).2.pending = s.pending := rfl

/-! Registers: a read after a write. -/

/-- A register reads through the register file and the stepping alone. -/
theorem rd_congr {s t : State} (hr : t.regs = s.regs) (ha : t.a0 = s.a0) (p off : Nat) : rd t p off = rd s p off := by
  unfold rd
  rw [hr, ha]

theorem rdF_congr {s t : State} (hr : t.regs = s.regs) (ha : t.a0 = s.a0) (p off hi lo : Nat) :
    rdF t p off hi lo = rdF s p off hi lo := by
  unfold rdF
  rw [rd_congr hr ha]

@[simp] theorem rd_memWrite (a : Nat) (bs : List Byte) (s : State) (p off : Nat) : rd (memWrite a bs s) p off = rd s p off := rfl
@[simp] theorem rd_qstWrite (a : Nat) (bs : List Byte) (s : State) (p off : Nat) : rd (qstWrite a bs s) p off = rd s p off := rfl
@[simp] theorem rd_norWrite (a : Nat) (bs : List Byte) (s : State) (p off : Nat) : rd (norWrite a bs s) p off = rd s p off := rfl
@[simp] theorem rd_emit (m : Msg) (s : State) (p off : Nat) : rd (emit m s) p off = rd s p off := rfl

@[simp] theorem rd_wr_self (p off : Nat) (v : W32) (s : State) : rd (wr p off v s) p off = v :=
  Tab.getD_setD_self ..

theorem rd_wr_of_ne {p off q o : Nat} (v : W32) (s : State) (h : rk q o ≠ rk p off) : rd (wr p off v s) q o = rd s q o :=
  Tab.getD_setD_of_ne h

@[simp] theorem rd_wr_same_page {p off o : Nat} (v : W32) (s : State) :
    rd (wr p off v s) p o = if o = off then v else rd s p o := by
  by_cases h : o = off
  · subst h
    simp
  · rw [if_neg h]
    exact rd_wr_of_ne v s (by unfold rk; omega)

/-- Two pages share no register word. -/
theorem rk_ne_of_page {p q off o : Nat} (h : q ≠ p) (a : off < 0x1000) (b : o < 0x1000) : rk q o ≠ rk p off := by
  unfold rk
  omega

/-! Bit fields. -/

theorem bits_putBits_self {v : W32} {hi lo x : Nat} (h : lo ≤ hi) (w : hi < 32) (hx : x < 2 ^ (hi - lo + 1)) :
    bits (putBits v hi lo x) hi lo = x := by
  obtain ⟨n, rfl⟩ : ∃ n, hi = lo + n := ⟨hi - lo, by omega⟩
  have hv := v.isLt
  simp only [bits, putBits, BitVec.toNat_ofNat, Nat.add_sub_cancel_left] at hx ⊢
  have e : 2 ^ (lo + n + 1) = 2 ^ (n + 1) * 2 ^ lo := by rw [← Nat.pow_add]; congr 1; omega
  have hd : v.toNat / 2 ^ (lo + n + 1) < 2 ^ (32 - (lo + n + 1)) := by
    rw [Nat.div_lt_iff_lt_mul (Nat.two_pow_pos _), ← Nat.pow_add]
    rwa [show 32 - (lo + n + 1) + (lo + n + 1) = 32 by omega]
  have hm : v.toNat % 2 ^ lo < 2 ^ lo := Nat.mod_lt _ (Nat.two_pow_pos _)
  have hx' : x % 2 ^ (n + 1) = x := Nat.mod_eq_of_lt hx
  generalize v.toNat / 2 ^ (lo + n + 1) = d at hd ⊢
  generalize v.toNat % 2 ^ lo = m at hm ⊢
  rw [hx', e]
  have hs : d * (2 ^ (n + 1) * 2 ^ lo) + x * 2 ^ lo + m < 2 ^ 32 := by
    have h1 : x * 2 ^ lo + m < 2 ^ (lo + n + 1) := by
      rw [e]
      calc x * 2 ^ lo + m < x * 2 ^ lo + 2 ^ lo := by omega
        _ = (x + 1) * 2 ^ lo := by rw [Nat.succ_mul]
        _ ≤ 2 ^ (n + 1) * 2 ^ lo := Nat.mul_le_mul_right _ hx
    have h2 : (d + 1) * 2 ^ (lo + n + 1) ≤ 2 ^ (32 - (lo + n + 1)) * 2 ^ (lo + n + 1) := Nat.mul_le_mul_right _ hd
    rw [← Nat.pow_add, show 32 - (lo + n + 1) + (lo + n + 1) = 32 by omega, Nat.succ_mul] at h2
    rw [← e]
    omega
  rw [Nat.mod_eq_of_lt hs]
  have : d * (2 ^ (n + 1) * 2 ^ lo) + x * 2 ^ lo + m = (d * 2 ^ (n + 1) + x) * 2 ^ lo + m := by
    rw [Nat.add_mul, Nat.mul_assoc]
  have q : ((d * 2 ^ (n + 1) + x) * 2 ^ lo + m) / 2 ^ lo = d * 2 ^ (n + 1) + x := by
    rw [Nat.add_comm, Nat.add_mul_div_right _ _ (Nat.two_pow_pos _), Nat.div_eq_of_lt hm, Nat.zero_add]
  rw [this, q, Nat.mul_add_mod_self_right, hx']

theorem rdF_wrF_self {p off hi lo x : Nat} {s : State} (h : lo ≤ hi) (w : hi < 32) (hx : x < 2 ^ (hi - lo + 1)) :
    rdF (wrF p off hi lo x s) p off hi lo = x := by
  unfold rdF wrF
  rw [rd_wr_self]
  exact bits_putBits_self h w hx

/-! Memory: a byte read after bytes are stored. -/

theorem memByte_memWrite (a : Nat) (bs : List Byte) (s : State) (x : Nat) :
    memByte (memWrite a bs s) x = if a ≤ x ∧ x < a + bs.length then bs.getD (x - a) 0 else memByte s x :=
  getD_putCells bs s.mem a x

theorem memByte_congr {s t : State} (h : t.mem = s.mem) (x : Nat) : memByte t x = memByte s x := by
  unfold memByte
  rw [h]

theorem memWrite_wf {s : State} (a : Nat) (bs : List Byte) (h : Memory.wf s.mem 0 = true) :
    Memory.wf (memWrite a bs s).mem 0 = true := Memory.wf_putCells bs a h

theorem qstWrite_wf {s : State} (a : Nat) (bs : List Byte) (h : Memory.wf s.qst 0 = true) :
    Memory.wf (qstWrite a bs s).qst 0 = true := Memory.wf_putCells bs a h

theorem norWrite_wf {s : State} (a : Nat) (bs : List Byte) (h : Memory.wf s.nor 0xFF = true) :
    Memory.wf (norWrite a bs s).nor 0xFF = true := Memory.wf_putCells bs a h

end Sys2Proof.Machine
end

