-- ==== Sys2Proof/WellFormed.lean ====
section
/-! DEFINITION. Which commands are well formed: the operands lie in the ranges the spec gives them. -/

namespace Sys2Proof

/-- The operands of a command lie in the ranges the spec gives them. -/
def wellFormed (i : Instr) : Bool :=
  match i with
  | .csrRegisterWrite _ page off _ => decide (page < 65536) && decide (off % 4 = 0) && decide (off < 4096)
  | .csrNarrowAccess _ page off size _ => decide (page < 65536) && decide (off < 4096) && (decide (size < 4) || decide (off % size ≠ 0))
  | .csrUndefinedOffsetAccess _ page off _ => decide (page < 65536) && decide (off % 4 = 0) && decide (off < 4096)
  | .csrAbsentPageAccess _ page off _ => decide (page < 65536) && decide (off < 4096)
  | .lowWordRead _ page off => decide (page < 65536) && decide (off % 8 = 0) && decide (off < 4096)
  | .lowWordWrite _ page off _ => decide (page < 65536) && decide (off % 8 = 0) && decide (off < 4096)
  | .highWordWrite _ page off _ => decide (page < 65536) && decide (off % 8 = 4) && decide (off < 4096)
  | .readClearCounterRead _ page off => decide (page < 65536) && decide (off % 4 = 0) && decide (off < 4096)
  | .clkStoppedTimeout _ page off => decide (page < 65536) && decide (off % 4 = 0) && decide (off < 4096)
  | .pgEnable page _ => decide (page < 65536)
  | .pgDisable page _ => decide (page < 65536)
  | .runReq page _ => decide (page < 65536)
  | .pageReady page => decide (page < 65536)
  | .quiesceSet page _ => decide (page < 65536)
  | .quiesceClear page _ => decide (page < 65536)
  | .pageDrainComplete page => decide (page < 65536)
  | .disableBoundExpiry page => decide (page < 65536)
  | .softReset page _ => decide (page < 65536)
  | .softResetComplete page => decide (page < 65536)
  | .faultClr page _ => decide (page < 65536)
  | .featAskWrite page idx _ => decide (page < 65536) && decide (idx < 4)
  | .pgEvrouteWrite page _ => decide (page < 65536)
  | .pgLockWrite page _ => decide (page < 65536)
  | .queueEntryArrive queue _ _ => decide (queue < 20)
  | .creditReturn queue _ => decide (queue < 20)
  | .farSideReset queue _ _ _ => decide (queue < 20)
  | .crossingFlushTimeout queue _ _ => decide (queue < 20)
  | .engineDoorbell page _ _ => decide (page < 65536)
  | .engineCompletionWrite page _ => decide (page < 65536)
  | .epochTimerExpiry => true
  | .closeNow _ => true
  | .epClose epoch => decide (epoch < 2 ^ 48)
  | .epAsk epoch => decide (epoch < 2 ^ 48)
  | .epochDrainStart => true
  | .epochDrainEnd _ => true
  | .epDrained epoch => decide (epoch < 2 ^ 48)
  | .epochCommitRecord => true
  | .epCommit epoch record => decide (epoch < 2 ^ 48) && record.length == 256
  | .epCommitAck epoch => decide (epoch < 2 ^ 48)
  | .ldgItemAccept => true
  | .deallocateApply => true
  | .checkpointComplete => true
  | .twinMismatch beat => decide (beat < 4)
  | .judgeSelfCheckDone _ _ us => decide (us ≤ 600)
  | .repairA _ => true
  | .repairB _ => true
  | .repairSelfCheckDone _ => true
  | .snapArm _ => true
  | .snapTake _ => true
  | .snapDelete _ => true
  | .snapClone _ => true
  | .snapDisarmAll _ => true
  | .slagEntryRead master => decide (master < 256)
  | .ldgReplay _ => true
  | .replayDone => true
  | .capsuleArrival qp sqe _ => decide (qp < 131072) && sqe.length == 64
  | .nvmeFlush qp cid => decide (qp < 131072) && decide (cid < 65536)
  | .nvmeWrite qp cid => decide (qp < 131072) && decide (cid < 65536)
  | .nvmeRead qp cid => decide (qp < 131072) && decide (cid < 65536)
  | .nvmeCompare qp cid => decide (qp < 131072) && decide (cid < 65536)
  | .nvmeWriteZeroes qp cid => decide (qp < 131072) && decide (cid < 65536)
  | .nvmeDatasetManagement qp cid => decide (qp < 131072) && decide (cid < 65536)
  | .nvmeVerify qp cid => decide (qp < 131072) && decide (cid < 65536)
  | .invalidOpcode qp cid => decide (qp < 131072) && decide (cid < 65536)
  | .fabricsConnect qp cid => decide (qp < 131072) && decide (cid < 65536)
  | .propertyGet qp cid => decide (qp < 131072) && decide (cid < 65536)
  | .propertySet qp cid => decide (qp < 131072) && decide (cid < 65536)
  | .fabricsDisconnect qp cid => decide (qp < 131072) && decide (cid < 65536)
  | .getLogPage qp cid => decide (qp < 131072) && decide (cid < 65536)
  | .identify qp cid => decide (qp < 131072) && decide (cid < 65536)
  | .nvmeAbort qp cid => decide (qp < 131072) && decide (cid < 65536)
  | .setFeatures qp cid => decide (qp < 131072) && decide (cid < 65536)
  | .getFeatures qp cid => decide (qp < 131072) && decide (cid < 65536)
  | .asynchronousEventRequest qp cid => decide (qp < 131072) && decide (cid < 65536)
  | .keepAlive qp cid => decide (qp < 131072) && decide (cid < 65536)
  | .adminReply _ => true
  | .writeDataLanded qp cid => decide (qp < 131072) && decide (cid < 65536)
  | .katoExpiry ctrl => decide (ctrl < 4096)
  | .hqHoldWrite _ => true
  | .holdExpiry => true
  | .qosBucketRefill => true
  | .qosWindowEnd => true
  | .qosMinWrite _ => true
  | .nsCfgWrite _ => true
  | .powerExitComplete => true
  | .forgeHandle forge handle => decide (forge < 16) && handle.length == 32
  | .grainIntakeDone forge seq _ => decide (forge < 16) && decide (seq < 256)
  | .grainRefetchData forge seq => decide (forge < 16) && decide (seq < 256)
  | .refetchTimeout forge seq => decide (forge < 16) && decide (seq < 256)
  | .lookupAnswer forge seq => decide (forge < 16) && decide (seq < 256)
  | .pendingTimeout forge seq => decide (forge < 16) && decide (seq < 256)
  | .indexPageFetchDone page => decide (page < 2 ^ 32)
  | .lookupBudgetExpiry forge seq => decide (forge < 16) && decide (seq < 256)
  | .sealDone forge seq => decide (forge < 16) && decide (seq < 256)
  | .keyWaitRetry forge => decide (forge < 16)
  | .billetGrant holder => decide (holder < 18)
  | .verifyPlaintext forge seq => decide (forge < 16) && decide (seq < 256)
  | .verifyTimeout forge seq => decide (forge < 16) && decide (seq < 256)
  | .handInBody forge => decide (forge < 17)
  | .handInRef forge => decide (forge < 16)
  | .handInZero forge => decide (forge < 16)
  | .handInSlag forge => decide (forge < 16)
  | .handInCull forge => decide (forge < 17)
  | .fltClear _ => true
  | .domCfgWrite _ => true
  | .asyHash ring lane _ _ => decide (ring < 16) && decide (16 ≤ lane ∧ lane < 20)
  | .asyHmac ring lane _ _ => decide (ring < 16) && decide (16 ≤ lane ∧ lane < 20)
  | .asyHashCmp ring lane _ _ _ => decide (ring < 16) && decide (16 ≤ lane ∧ lane < 20)
  | .asyHmacCmp ring lane _ _ _ => decide (ring < 16) && decide (16 ≤ lane ∧ lane < 20)
  | .asyCtxExport ring lane _ => decide (ring < 16) && decide (16 ≤ lane ∧ lane < 20)
  | .asyCtxImport ring lane _ => decide (ring < 16) && decide (16 ≤ lane ∧ lane < 20)
  | .asyCtxClear ring lane _ => decide (ring < 16) && decide (16 ≤ lane ∧ lane < 20)
  | .asyPreemptSave ring => decide (ring < 16)
  | .glaneRestore _ _ => true
  | .resSeqRead _ lane => decide (16 ≤ lane ∧ lane < 20)
  | .ringDisable page ring value => (page == 0x1300 && decide (ring < 16) || (page == 0x1400 || page == 0x1500) && decide (ring < 8)) && !value.getLsbD 0
  | .cruCompress ring unit _ _ => decide (ring < 8) && decide (32 ≤ unit ∧ unit < 34)
  | .cruDecompress ring unit => decide (ring < 8) && decide (32 ≤ unit ∧ unit < 34)
  | .cruCtxClear ring unit => decide (ring < 8) && decide (32 ≤ unit ∧ unit < 34)
  | .gunitRestore _ _ => true
  | .gcmSeal ring unit _ => decide (ring < 8) && decide (36 ≤ unit ∧ unit < 38)
  | .gcmOpen ring unit _ => decide (ring < 8) && decide (36 ≤ unit ∧ unit < 38)
  | .xtsEnc ring unit _ => decide (ring < 8) && decide (36 ≤ unit ∧ unit < 38)
  | .xtsDec ring unit _ => decide (ring < 8) && decide (36 ≤ unit ∧ unit < 38)
  | .keyLoad ring unit _ => decide (ring < 8) && decide (36 ≤ unit ∧ unit < 38)
  | .keyErase ring unit _ => decide (ring < 8) && decide (36 ≤ unit ∧ unit < 38)
  | .keygenInstall value => value.toNat / 2 ^ 28 == 1
  | .keygenRetire value => value.toNat / 2 ^ 28 == 2
  | .keygenEffect => true
  | .keygen dom gen _ _ _ _ first => decide (dom < 64) && decide (gen < 16) && decide (first < 2 ^ 48)
  | .useGrant slot unit uses => decide (slot < 4096) && decide (unit < 38) && decide (1 ≤ uses)
  | .ceilingWriteDone slot => decide (slot < 4096)
  | .tinUnitRestore _ _ => true
  | .slotLandingDone slot => decide (slot < 524288)
  | .mirGrain slot header data _ => decide (slot < 524288) && header.length == 64 && data.length == 8224
  | .mirAck slot => decide (slot < 524288)
  | .mirNak slot cause => decide (slot < 524288) && decide (1 ≤ cause ∧ cause ≤ 3)
  | .mirrorTimeout slot => decide (slot < 524288)
  | .slotReady slot => decide (slot < 524288)
  | .mirStamp epoch slots => decide (epoch < 2 ^ 48) && decide (1 ≤ slots.length ∧ slots.length ≤ 32) && slots.all fun i => decide (i < 524288)
  | .mirRelease slots => decide (1 ≤ slots.length ∧ slots.length ≤ 32) && slots.all fun i => decide (i < 524288)
  | .mirFree epoch => decide (epoch < 2 ^ 48)
  | .mirHold h share => decide (h < 128) && decide (share ≤ 100)
  | .mirQuench => true
  | .writeThroughDone slot => decide (slot < 524288)
  | .mirrorResume _ => true
  | .overBudgetCloseTick => true
  | .holdSenseSample code => decide (code < 4096)
  | .holdEnergyRecompute => true
  | .holdTestStart => true
  | .testNow _ => true
  | .holdTestEnd droopUv => decide (droopUv ≤ 1200000)
  | .holdTrip uv => decide (uv < 2097152)
  | .adoptionComplete => true
  | .catchupDone => true
  | .pwrfailNLow => true
  | .quenchStart trigger => decide (1 ≤ trigger) && decide (trigger ≤ 5)
  | .quenchDirDone => true
  | .quenchDataDone _ => true
  | .quenchRailRelease _ => true
  | .restoreLoad => true
  | .restoreDone => true
  | .castStart ingot => decide (ingot < 2 ^ 40)
  | .sjEntry slot entry => decide (slot < 262144) && entry.length == 512
  | .sjMark slot _ => decide (slot < 262144)
  | .ljRecord jseq record => decide (jseq < 2 ^ 64) && record.length == 256
  | .jAck kind arg => decide (kind < 256) && decide (arg < 2 ^ 56)
  | .journalAckTimeout jseq => decide (jseq < 2 ^ 64)
  | .memberAppendDone ingot member _ => decide (ingot < 2 ^ 40) && decide (member < 36)
  | .appendFail ingot member => decide (ingot < 2 ^ 40) && decide (member < 36)
  | .amendRetryTick => true
  | .journalResolve _ _ => true
  | .detourExpiry drp _ _ grain => decide (drp < 16) && decide (grain < 2 ^ 35)
  | .ejectTimeout module => decide (module < 96)
  | .modEject _ => true
  | .deferredEject module => decide (module < 96)
  | .rebuildScan => true
  | .rebuildStart => true
  | .rebuildDecodeDone ingot answers => decide (ingot < 2 ^ 40) && answers.all fun a => decide (a.1 < 36) && a.2.1.length == 262144
  | .rebuildAppendsDone ingot => decide (ingot < 2 ^ 40)
  | .rebuildBucketRefill => true
  | .sweepPassStart => true
  | .sweepPassEnd => true
  | .moduleLinkUp port rate width ltssm _ => decide (port < 96) && decide (1 ≤ rate ∧ rate ≤ 6) && (width == 1 || width == 2 || width == 4) && decide (ltssm < 64)
  | .moduleAdmit _ => true
  | .moduleRetire _ => true
  | .presenceLost port => decide (port < 96)
  | .retrainTimeout port => decide (port < 96)
  | .sidebandPoll port _ _ _ => decide (port < 96)
  | .healthPoll module _ _ _ => decide (module < 96)
  | .chunkGrant ingot => decide (ingot < 2 ^ 40)
  | .zoneResetDone module zone _ => decide (module < 96) && decide (zone < 2 ^ 32)
  | .zoneReturn zone => decide (zone < 96 * 2 ^ 32)
  | .anlWorkSelect => true
  | .relocationClaim ingot => decide (ingot < 2 ^ 40)
  | .relocationCopy drp ingot _ body => decide (drp < 16) && decide (ingot < 2 ^ 40) && body.length % 16 == 0 && decide (16 ≤ body.length ∧ body.length ≤ 8240)
  | .memberMove ingot member data => decide (ingot < 2 ^ 40) && decide (member < 36) && data.length == 262144
  | .anlBucketRefill => true
  | .rekeyStart _ => true
  | .rekeyDone => true
  | .spineRead _ pid copies => decide (pid < 2 ^ 64) && copies.length == 3
  | .startupReconcile _ _ => true
  | .nvmeCommandCompletion module op _ _ => decide (module < 96) && decide (op < 4)
  | .reservationRegister port _ _ => decide (port < 96)
  | .hostRead drp qp cid grain => decide (drp < 16) && decide (qp < 131072) && decide (cid < 65536) && decide (grain < 2 ^ 35)
  | .hostVerify drp qp cid grain => decide (drp < 16) && decide (qp < 131072) && decide (cid < 65536) && decide (grain < 2 ^ 35)
  | .hostCompare drp qp cid grain => decide (drp < 16) && decide (qp < 131072) && decide (cid < 65536) && decide (grain < 2 ^ 35)
  | .fill slot data pi => decide (slot < 524288) && data.length == 4096 && decide (pi.length ≤ 16)
  | .verifyHit forge seq => decide (forge < 16) && decide (seq < 256)
  | .page drp dst pid _ _ _ => decide (drp < 16) && decide (dst < 2 ^ 48) && decide (pid < 2 ^ 64)
  | .reseal drp group _ => decide (drp < 16) && decide (group < 64)
  | .memberReadDone drp _ _ grain _ => decide (drp < 16) && decide (grain < 2 ^ 35)
  | .reconstructReadsDone drp _ _ grain answers => decide (drp < 16) && decide (grain < 2 ^ 35) && decide (answers.length ≤ 36)
  | .readLimitExpiry qp cid grain => decide (qp < 131072) && decide (cid < 65536) && decide (grain < 2 ^ 35)
  | .rcFilterClear => true
  | .rcClear _ => true
  | .netModeWrite _ => true
  | .frameReceive port _ => decide (port < 32)
  | .excTxSend _ => true
  | .pfcXoffRefresh port prio => decide (port < 32) && decide (prio < 8)
  | .pauseReceive port prio quanta => decide (port < 32) && decide (prio < 8) && decide (quanta < 65536)
  | .pauseExpiry port prio => decide (port < 32) && decide (prio < 8)
  | .pfcStormEntry port prio => decide (port < 32) && decide (prio < 8)
  | .pfcStormExit port prio => decide (port < 32) && decide (prio < 8)
  | .temperRise qp => decide (qp < 131072)
  | .cnp port p => decide (port < 32) && p.opcode == 0x81
  | .roceSend port p => decide (port < 32) && (decide (p.opcode ≤ 0x05) || p.opcode == 0x16 || p.opcode == 0x17)
  | .rdmaWrite port p => decide (port < 32) && decide (0x06 ≤ p.opcode ∧ p.opcode ≤ 0x0B)
  | .rdmaReadRequest port p => decide (port < 32) && p.opcode == 0x0C
  | .rdmaReadResponse port p => decide (port < 32) && decide (0x0D ≤ p.opcode ∧ p.opcode ≤ 0x10)
  | .roceAck port p => decide (port < 32) && (p.opcode == 0x11 || p.opcode == 0x12)
  | .rnrNak port p => decide (port < 32) && p.opcode == 0x11 && p.syndrome / 32 == 1
  | .compareAndSwap port p => decide (port < 32) && p.opcode == 0x13
  | .fetchAndAdd port p => decide (port < 32) && p.opcode == 0x14
  | .spWrite port p => decide (port < 32) && p.opcode == 0xC1
  | .spSend port p => decide (port < 32) && p.opcode == 0xC0
  | .spReadResp port p => decide (port < 32) && p.opcode == 0xC2
  | .spNak port p => decide (port < 32) && p.opcode == 0xC3
  | .spGapExpiry qp msgId => decide (qp < 131072) && decide (msgId < 2 ^ 24)
  | .retransmitTimeout qp => decide (qp < 131072)
  | .ctxFetchDone qp _ => decide (qp < 131072)
  | .qpInit value => value.toNat % 16 == 1
  | .qpRtr value => value.toNat % 16 == 2
  | .qpRts value => value.toNat % 16 == 3
  | .qpError qp cause => decide (qp < 131072) && decide (1 ≤ cause ∧ cause ≤ 7)
  | .qpReset value => value.toNat % 16 == 5
  | .qpQuery value => value.toNat % 16 == 6
  | .qpTest value => value.toNat % 16 == 7
  | .winOpen value => value.toNat % 4 == 1
  | .winRevoke value => value.toNat % 4 == 2
  | .revokeDrained win => decide (win < 65536)
  | .grpStart _ => true
  | .grpShipNow _ => true
  | .grpResume _ => true
  | .grpStop _ => true
  | .grpFull _ => true
  | .grpNsAdd _ => true
  | .grpNsRemove _ => true
  | .deltaStart group => decide (group < 64)
  | .shipTimer group => decide (group < 64)
  | .segmentSealed group => decide (group < 64)
  | .segmentWriteAck group => decide (group < 64)
  | .publishResult group => decide (group < 64)
  | .controlPoll group => decide (group < 64)
  | .segmentApply group => decide (group < 64)
  | .segmentApplied group => decide (group < 64)
  | .leaseRenew group => decide (group < 64)
  | .leaseCheck group => decide (group < 64)
  | .flitReceive flit corrected _ => flit.length == 256 && decide (corrected ≤ 4)
  | .alignFlit => true
  | .nak fseq => decide (fseq < 4096)
  | .ackTimer => true
  | .retryTimeout => true
  | .laneLock _ => true
  | .helloTimer => true
  | .hello record => record.length == 232
  | .retrain _ => true
  | .laneFail _ => true
  | .narrow width _ => [1, 2, 4].contains width
  | .linkWiden lanes => [0xFFFFFFFF#32, 0x0000FFFF#32, 0xFFFF0000#32].contains lanes
  | .dropMsg cause => decide (cause < 256)
  | .noFlitTimeout => true
  | .fetchSlot slot _ => decide (slot < 524288)
  | .slotData slot header data => decide (slot < 524288) && header.length == 64 && data.length == 8224
  | .fetchLj jseq count => decide (jseq < 2 ^ 64) && decide (1 ≤ count ∧ count ≤ 256)
  | .ljData jseq data => decide (jseq < 2 ^ 64) && data.length % 256 == 0 && decide (256 ≤ data.length ∧ data.length ≤ 65536)
  | .fetchSj slot => decide (slot < 262144)
  | .sjData slot entry => decide (slot < 262144) && entry.length == 512
  | .fetchNak mtype arg => decide (mtype < 256) && decide (arg < 2 ^ 56)
  | .handoverOffer _ => true
  | .handoverAccept _ => true
  | .handover ns => decide (ns < 16384)
  | .handoverAck ns epoch => decide (ns < 16384) && decide (epoch < 2 ^ 48)
  | .handoverNak ns => decide (ns < 16384)
  | .stepDownMessage => true
  | .heartbeatTimer => true
  | .heartbeat alive => decide (alive < 65536)
  | .hbMissed => true
  | .hbKick _ => true
  | .hbKickTimeout => true
  | .fenceDelayExpiry => true
  | .arbiterPreemptDone _ => true
  | .fencePreemptsDone => true
  | .take _ => true
  | .force _ => true
  | .takeCmdStepDown _ => true
  | .cvuMessage unit _ => decide (unit < 64)
  | .cvuArm unit _ => decide (unit < 64)
  | .cvuDisarm unit _ => decide (unit < 64)
  | .cvuResSeqRead _ unit => decide (unit < 64)
  | .memoryAccess x => decide (x.addr < 2 ^ 48) && decide (x.way < 16)
  | .scRetire way => decide (way < 16)
  | .spRemap way => decide (way < 16)
  | .scCommandDone => true
  | .maintClean chan => decide (chan < 4)
  | .maintInval chan => decide (chan < 4)
  | .maintCleanInval chan => decide (chan < 4)
  | .maintCleanAll chan => decide (chan < 4)
  | .maintDone chan => decide (chan < 4)
  | .patrolScrub page _ _ => decide (page / 256 = 6) || decide (page / 256 = 7)
  | .dimmThermal page temp => (decide (page / 256 = 6) || decide (page / 256 = 7)) && decide (temp < 256)
  | .memoryTrainingDone page _ gib dimms rate _ => (decide (page / 256 = 6) || decide (page / 256 = 7)) && decide (gib ≤ 128) && decide (dimms ≤ 2) && decide (1 ≤ rate ∧ rate ≤ 5)
  | .dimmLost page => decide (page / 256 = 6) || decide (page / 256 = 7)
  | .eventOccurrence page line _ => decide (page < 65536) && decide (line < 16)
  | .eventRingWrite core => decide (core < 32)
  | .signal _ _ => true
  | .evqDone _ => true
  | .srcMaskWrite core _ => decide (core.getD 0 < 32)
  | .ringConsWrite core _ => decide (core < 32)
  | .eventRingEnable core _ => decide (core < 32)
  | .hallmarkOccurrence code inst payload => decide (code < 65536) && decide (inst < 256) && decide (payload.length ≤ 7)
  | .hallmarkWrite => true
  | .rateWindowTick => true
  | .hlmScan => true
  | .exportCmd _ => true
  | .exportDone => true
  | .fwPost _ => true
  | .tmkLoad _ => true
  | .tmkCommit _ => true
  | .tmkCommitDone flips => flips.all fun f => decide (f.1 < 0x40000)
  | .tmkConfirm _ => true
  | .tmkRevert _ => true
  | .pllLockLoss domain => decide (domain < 7)
  | .pllRelockDone domain _ => decide (domain < 7)
  | .pllRelockTimeout domain => decide (domain < 7)
  | .refMeasure _ _ _ _ => true
  | .coreClockLoss domain => decide (domain < 16)
  | .xtalLost => true
  | .ctlFreqSwitch _ => true
  | .debugAccessResume => true
  | .lcArm _ => true
  | .lcMint _ _ _ => true
  | .lcOwn _ _ => true
  | .lcRetire _ _ => true
  | .ownerLockSet _ => true
  | .d1Grant _ => true
  | .d0Return _ => true
  | .dbgChallenge => true
  | .dbgResponse _ => true
  | .dbgAccessRead addr => decide (addr < 2 ^ 48)
  | .dbgAccessWrite addr _ => decide (addr < 2 ^ 48)
  | .extest => true
  | .samplePreload _ _ => true
  | .idcode => true
  | .clamp => true
  | .highz => true
  | .bypass => true
  | .trstNAssert => true
  | .pwrP0 _ => true
  | .pwrP1 _ => true
  | .pwrP2 _ => true
  | .pwrQuench _ => true
  | .powerEntryDone => true
  | .avsUpdate _ _ => true
  | .pohTick => true
  | .thermalSample tj => decide (tj < 256)
  | .throttleStep => true
  | .powerSample watts => decide (watts < 1024)
  | .fwuStage value => value.toNat % 8 == 1
  | .fwuVerify value => value.toNat % 8 == 2
  | .fwuActivate value => value.toNat % 8 == 3
  | .fwuConfirm value => value.toNat % 8 == 4
  | .fwuCommandDone _ => true
  | .confirmTimeout => true
  | .powerOnReset => true
  | .aonPllLock => true
  | .resetNAssert => true
  | .chipReset cause => decide (2 ≤ cause ∧ cause ≤ 5)
  | .bootRomRun _ _ found _ gib dimms rate _ => (found.all fun n => decide (n < 12)) && decide (gib ≤ 128) && decide (dimms ≤ 2) && decide (1 ≤ rate ∧ rate ≤ 5)
  | .bootRetry _ => true
  | .portTrainTimeout port => decide (port < 96)
  | .earlyCloseDue => true
  | .portLinkUp port => decide (port < 32)
  | .portLinkDown port _ => decide (port < 32)
  | .flashLinkDrop port => decide (port < 96)
  | .completionTimeout port => decide (port < 96)
  | .fatalAer port => decide (port < 96)
  | .dpcContainment port => decide (port < 96)
  | .controllerFatalStatus module => decide (module < 96)
  | .mramStackLost => true
  | .norLost => true
  | .serdesLaneLockLoss octet lane => decide (octet < 36) && decide (lane < 8)
  | .serdesLanePllLost octet => decide (octet < 36)
  | .vinAonLow mv => decide (mv < 8192)
  | .vinAonLoss => true

end Sys2Proof
end

