-- ==== Sys2Proof/Tests/Slice0.lean ====
section
/-! SUPPORT. Tests: an ill-formed term for each check, worked values of the spec, and for every statement with hypotheses a state and
operands that meet them. -/

namespace Sys2Proof.Tests.Slice0

set_option Elab.async false
set_option maxRecDepth 1000000

open Sys2Proof Sys2Proof.Machine

/-! States for the tests. -/

/-- The machine after reset with every clock running and some register words replaced: page, offset, word. -/
def st (ws : List (Nat × Nat × W32)) : State := ws.foldl (fun s w => wr w.1 w.2.1 w.2.2 s) (wr pgCLK 0x100 0xFFFF State.reset)


/-- A descriptor's 64 bytes (R54): opcode, FLAGS, CTX_ID, KEY_SLOT, SRC, SRC_LEN, DST_LEN, DST, AUX_LEN, PARAM; AUX lies in the
scratchpad. -/
def dscB (op fl ctx key src srcLen dstLen dst auxLen param : Nat) : List Byte :=
  le 1 op ++ le 1 fl ++ le 2 ctx ++ le 2 key ++ le 2 0 ++ le 8 0 ++ le 8 src ++ le 4 srcLen ++ le 4 dstLen ++ le 8 dst ++
  le 8 0xE000003000 ++ le 4 auxLen ++ le 4 0 ++ le 8 param

/-- A descriptor with a LIMIT: a decompression of nothing. -/
def dscL (op fl param limit : Nat) : List Byte :=
  le 1 op ++ le 1 fl ++ List.replicate 46 0#8 ++ le 4 0 ++ le 4 limit ++ le 8 param

/-- An engine page in RUN with every feature, and one descriptor posted on ring 0. -/
def ringSt (p : Nat) (d : List Byte) : State :=
  memWrite 0xE000000000 d (st [(p, 0x044, 2), (p, 0x028, 0x3F), (p, 0x410, 0x40001), (p, 0x414, 1), (p, 0x404, 0xE0),
    (p, 0x408, 0x1000), (p, 0x40C, 0xE0)])

/-- Key slot 0 loaded with a key of a class. -/
def keySt (cls : Nat) (s : State) : State :=
  slotKPut 0 { loaded := true, cls := cls, key := List.replicate 32 1#8, limit := 100, keyId := 7 } s

/-- Assay with messages of YIELD on its four lanes, and a ring of higher priority that waits. -/
def heldSt : State :=
  (fun (s : State) => { s with asy := { s.asy with opened :=
      [(0, ⟨some 16, 0, true, none, {}, 0⟩), (1, ⟨some 17, 1, true, none, {}, 0⟩), (2, ⟨some 18, 2, true, none, {}, 0⟩),
       (3, ⟨some 19, 3, true, none, {}, 0⟩)] } })
    (st [(pgASY, 0x044, 2), (pgASY, 0x028, 0x3F), (pgASY, 0x510, 0x40701), (pgASY, 0x514, 1)])

/-- LDG in RUN, replayed, leading a head without a partner, with epoch 5 open; `ws` adds register words. -/
def ldgSt (ws : List (Nat × Nat × W32)) : State :=
  (fun (s : State) => { s with ldg := { s.ldg with replayed := true } })
    (st ([(pgLDG, 0x044, 2), (pgLDG, 0x028, 0xF), (pgLDG, 0x108, 0x300), (pgLDG, 0x110, 5), (pgWDL, 0x154, 2)] ++ ws))

/-- The same head as one of a pair. -/
def pairSt (ws : List (Nat × Nat × W32)) : State := ldgSt ([(pgLDG, 0x108, 0x100), (pgWDL, 0x154, 0)] ++ ws)

/-- A state with an epoch's record. -/
def epSt (e : Nat) (x : Ep) (s : State) : State := epPut e x s

/-- Epoch 4 drains on a head without a partner. -/
def drainSt : State := epSt 4 { closed := true, drainStarted := true } (ldgSt [])

/-- A head without a partner that owns an active namespace 1, with snapshot ID 7 and child 2 named. -/
def snapSt : State :=
  (fun (s : State) => { s with ldg := { s.ldg with owned := [1] } })
    (nsPut 1 { cfg := 1, grains := 256 } (ldgSt [(pgLDG, 0x140, 1), (pgLDG, 0x144, 7), (pgLDG, 0x148, 2)]))

/-- The same head with that snapshot taken. -/
def cloneSt : State := { snapSt with ldg := { snapSt.ldg with img := { snapSt.ldg.img with snaps := [⟨1, 7, 3⟩] } } }

/-- A submission queue entry of CID 9: opcode, NSID, a keyed data block of `len` bytes, and CDW10 up. -/
def sqeB (op ns len : Nat) (cdw : List Byte) : List Byte :=
  le 1 op ++ le 1 0x40 ++ le 2 9 ++ le 4 ns ++ zeros 16 ++ le 8 0x1000 ++ le 3 len ++ le 4 1 ++ le 1 0x40 ++ cdw ++ zeros (24 - cdw.length)

/-- HQ, WC and a landing unit in RUN over a replayed ledger that owns namespace 1, with one command of CID 9 on queue pair 1: queue `qid`
of controller 5. -/
def hqSt (qid : Nat) (c : Cmd) : State :=
  (fun (s : State) => { s with
    hq := { s.hq with sqs := [(1, ⟨5, qid, 8, 0⟩)], ctrls := [(5, { katoMs := 100 })], cmds := [c], ns := [(1, { cfg := 1, grains := 256 })] }
    wc := { s.wc with restoring := false, budgetKnown := true }
    ldg := { s.ldg with owned := [1] } })
  (ldgSt [(pgHQ, 0x044, 2), (pgHQ, 0x028, 0x3F), (pgWC, 0x044, 2), (pgCVU, 0x044, 2), (pgWC, 0x120, 1000), (pgWC, 0x134, 0x10000), (pgLDG, 0x044, 0x22)])

/-- A queued command. -/
def cmdB (sqe icd : List Byte) : Cmd := { qp := 1, cid := 9, sqe := sqe, icd := icd, seq := 0, at_ := 0 }

/-- A Fabrics command of a type. -/
def fabCmd (ty : Nat) (cdw : List Byte) : Cmd := cmdB (le 1 0x7F ++ le 1 0x40 ++ le 2 9 ++ le 1 ty ++ zeros 35 ++ cdw ++ zeros (24 - cdw.length)) []

/-- A Connect on queue pair 2 to controller 5 for queue `qid`, with its 1,024 bytes of data in the capsule. -/
def connectCmd (qid : Nat) : Cmd :=
  { cmdB (le 1 0x7F ++ le 1 0x40 ++ le 2 9 ++ le 1 1 ++ zeros 19 ++ le 8 0 ++ le 4 1024 ++ zeros 3 ++ le 1 1 ++ zeros 2 ++ le 2 qid ++ le 2 7 ++ zeros 18)
    (zeros 16 ++ le 2 5 ++ zeros 1006) with qp := 2 }


/-- Forge 0 and Assay in RUN with every feature, and a window of one grain. -/
def frgSt (g : FGrain) : State :=
  fwinPut 0 [g] (st [(pgFRG, 0x044, 2), (pgFRG, 0x028, 0x3F), (pgASY, 0x044, 2), (pgASY, 0x028, 0x3F)])

/-- A handle of slot 0, namespace 1, grain 2, SEQ 3. -/
def hd0 : Handle := { slot := 0, epoch := 0, ns := 1, grain := 2, crc := 0, pif := 0, domain := 0, reissue := false, single := true, seq := 3 }

/-- ING in RUN, nothing handed in. -/
def inSt0 : State := st [(pgING, 0x044, 2)]

/-- ING in RUN with one hand-in on a forge's queue. -/
def inSt (f : Nat) (h : HandIn) : State := { inSt0 with frg := { inSt0.frg with outs := [(f, [h])] } }

/-- WC, LDG and QST in RUN beside a partner, with one own slot (index 3) and one mirror slot (index 5); `ws` adds register words. -/
def wcSt (x y : Slot) (ws : List (Nat × Nat × W32)) : State :=
  (fun (s : State) => { s with wc := { Wc.reset with slots := [(3, x)], mirror := [(5, y)], restoring := false, single := false, degraded := false } })
    (pairSt ([(pgWC, 0x044, 2), (pgWC, 0x028, 0x3F), (pgQST, 0x044, 2)] ++ ws))

/-- An ended quench or one under way, at a step. -/
def quSt (q : Qstep) : State := { wcSt {} {} [] with wc := { (wcSt {} {} []).wc with step := q } }

/-- ING, PLN, ANL and QST in RUN beside a replayed ledger, with ING's own state. -/
def ingSt (i : Ing) (ws : List (Nat × Nat × W32)) : State :=
  { ldgSt ([(pgING, 0x044, 2), (pgING, 0x028, 0x3F), (pgPLN, 0x044, 2), (pgPLN, 0x028, 0xF), (pgANL, 0x044, 2), (pgANL, 0x028, 0xF),
      (pgQST, 0x044, 2), (pgDRP, 0x044, 2), (pgDRP, 0x028, 0xF)] ++ ws) with ing := i }

/-- An ingot of one billet, full, with nothing in it. -/
def cast0 : Casting := { ingot := 4, epoch := 5, reloc := false, cls := 0, k := 1, m := 0, kk := 1, billets := [⟨0, 0, true⟩] }

/-- An append of member 0 of ingot 4, issued to module 0. -/
def app0 : App := ⟨1, 4, 0, { module := 0, chunk := 2, zone := 0 }, true⟩

/-- A rebuild attempt on an ingot. -/
def att0 : Attempt := { ingot := 4, move := false, set := [] }

/-- A mapped grain's entry. -/
def me0 : MapEntry := { gloc := 16, mapped := true, len16 := 4 }

/-- A host read that a drawplate holds, of a mapped grain. -/
def rq0 : RReq := { drp := 0, kind := 1, a := 1, b := 9, ns := 1, grain := 0, entry := me0, at_ := 0 }

/-- A degraded ingot of one lost member, filed to be rebuilt, with room and budget. -/
def rebSt : State :=
  ingSt { Ing.reset with retired := [(4, { st := .degraded, k := 1, m := 1, members := [{}, { lost := true }] })]
                         queues := [[], [4], [], [], []], bucket := 10000000 }
    [(pgING, 0x028, 0x1F), (pgING, 0x104, 64), (pgING, 0x118, 4)]

/-- One lost extent waits for a sweep. -/
def slagSt : State :=
  (fun (s : State) => { s with ldg := { s.ldg with img := { s.ldg.img with slag := [⟨true, false, 0, 0, 0, 0, 16, 4⟩] } } }) (ingSt Ing.reset [])

/-- FLX port 3 in RUN with a module seen on it; `x` and `y` are the module as PLN and as ING keep it. -/
def flxSt (x : PMod) (y : Mod) (ws : List (Nat × Nat × W32)) : State :=
  (fun (s : State) => { s with pln := { s.pln with mods := [(3, x)] } })
    (ingSt { Ing.reset with mods := [(3, y)] } ([(pgFLX + 3, 0x044, 2), (pgFLX + 3, 0x028, 3)] ++ ws))

/-- A module that meets R410. -/
def id0 : ModId := ⟨true, true, 262144, 64, 0, 0, true, true, 77, 2⟩

/-- A live ingot of one member on module 3, which is read-only: Anneal moves it. -/
def annSt : State :=
  (fun (s : State) => { s with pln := { s.pln with mods := [(3, { st := .readOnly, zones := 2, cap := 4 }), (4, { st := .member, zones := 2, cap := 4 })] } })
    (ingSt { Ing.reset with retired := [(4, { st := .live, k := 1, m := 0, members := [{ module := 3 }] })], mods := [(4, { st := .active })] }
      [(pgANL, 0x100, 0x10000000), (pgPLN, 0x100, 4)])

/-- A read command of CID 9 on queue pair 1 that executes, with grain 0 bound to a source, at DRP 0 in RUN. -/
def rdSt (op : Nat) (b : Src3) : State :=
  wr pgDRP 0x044 2 (wr pgDRP 0x028 0xF (hqSt 1 { cmdB (sqeB op 2 4096 []) [] with st := .executing, bound := true, binds := [(0, b)], got := 4096 }))

/-- The same with the grain mapped. -/
def mapSt : State :=
  (fun s : State => { s with ldg := { s.ldg with img := { s.ldg.img with map := Tab.put s.ldg.img.map (mapKey 1 0) me0 } } })
    (rdSt 2 (.map me0 0))

/-- A drawplate that holds a request. -/
def drwSt (r : RReq) : State := { rdSt 2 (.map me0 0) with drp := { (rdSt 2 (.map me0 0)).drp with reqs := [r] } }

/-- The attribute block of a queue pair of path MTU 4,096 with every access allowed. -/
def attr0 : List W32 := [2, 0, 0, 0x1F050000, 0, 0, 0, 0, 0, 0, 0x77010000, 0x1010, 0, 0, 0, 0]

/-- XPT and NET page 0 in RUN with every feature, queue pair 1 resident and selected; window 0 is open to it. -/
def netSt (q : Qp) (ws : List (Nat × Nat × W32)) : State :=
  (fun (s : State) => { s with xpt := { s.xpt with qps := [(1, q)], lru := [1], wins := [(0, { len := 0x20000000000, access := 15, opened := true })] } })
    (st ([(pgXPT, 0x044, 2), (pgXPT, 0x028, 0x3F), (pgNET, 0x044, 2), (pgNET, 0x028, 3), (pgXPT, 0x144, 1), (pgNET, 0x174, 0x100)] ++ ws))

/-- An operation of one packet sent at PSN 0. -/
def tx0 (k : XKind) : XTx := { msg := { kind := k, len := 4 }, psn := 0, psns := 1, pkts := 1, sent := 1 }

/-- A frame without an address check to fail, to the broadcast address. -/
def frm0 (k : FrameKind) : Frame := ⟨0, true, false, none, none, 0, k, zeros 64, true⟩

/-- The transmission paused, or in storm, on priority 0 of port 0. -/
def pauSt (x : W32) : State := netSt { st := .rts, attr := attr0 } [(pgNET, 0x170, 0x100), (pgNET, 0x178, x)]

/-- RPL, XPT, LDG and DRP 0 in RUN, with group 2, selected, of a role on queue pair 1, which is in RTS. -/
def grpSt (role : Nat) (x : Grp) : State :=
  grpPut 2 x (gwr 2 0x114 (BitVec.ofNat 32 (role * 2 ^ 30 + 0x30400)) (gwr 2 0x118 1
    (wr pgXPT 0x044 2 (wr pgXPT 0x028 0x3F (wr pgDRP 0x044 2 (wr pgRPL 0x044 2 (wr pgRPL 0x028 3 (wr pgRPL 0x110 2
      (qpPut 1 { st := .rts, attr := attr0.set 11 0x21010 } (ldgSt []))))))))))

/-- A source group. -/
def srcSt (x : Grp) : State := grpSt 1 x

/-- The same head with its link UP on 32 lanes, WDL in RUN; `ws` adds register words. -/
def wdlSt (ws : List (Nat × Nat × W32)) : State :=
  pairSt ([(pgWDL, 0x044, 2), (pgWDL, 0x028, 0xF), (pgWDL, 0x108, 0x403), (pgWDL, 0x154, 0), (pgWDL, 0x100, 0x300), (pgQST, 0x044, 2)] ++ ws)

/-- A flit of a header word and no payload, with its CRC-64. -/
def flit0 (h : Nat) : List Byte := le 8 h ++ zeros 232 ++ le 8 (crc64 (le 8 h ++ zeros 232)).toNat

/-- A HELLO record of the other head, whose product byte is `p`. -/
def hello0 (p : Nat) : List Byte := le 1 0x10 ++ le 1 1 ++ le 1 p ++ le 1 1 ++ zeros 12 ++ zeros 240

/-- TMK and QST in RUN with a valid bank A: version 5, SEQ 1, no payload. -/
def tmkSt (ws : List (Nat × Nat × W32)) : State :=
  tmkStore 0 (tmkHeader 5 1 0 ++ le 8 (crc64 (tmkHeader 5 1 0)).toNat) (st ([(pgTMK, 0x044, 2), (pgTMK, 0x028, 1), (pgQST, 0x044, 2)] ++ ws))

/-- The lifecycle state `x` with a command to `y` armed and nothing to refuse it. -/
def lcSt (x y : Lc) : State :=
  (fun s : State => { s with fuses := { s.fuses with lc := x, pending := none }, top := { s.top with armed := some y.code, armedAt := s.time, mismatch := false } }) (st [])

/-- The rails are up: the TAP answers. -/
def tapSt : State := (fun s : State => { s with aon := { s.aon with rails := true } }) (st [(pgDBG, 0x044, 2), (pgDBG, 0x028, 1)])

/-- FWU in RUN on a head that no ground of R740 refuses. -/
def fwuSt (ws : List (Nat × Nat × W32)) : State :=
  st ([(pgFWU, 0x044, 2), (pgFWU, 0x028, 3), (pgWC, 0x168, 2), (pgLDG, 0x108, 2), (pgING, 0x140, 2), (pgTMK, 0x044, 2), (pgQST, 0x044, 2)] ++ ws)

/-- A trial image runs. -/
def trialSt : State :=
  (fun s : State => { s with boot := { s.boot with due := 0, status := 0 }, cells := setSlot (runSlot s) .trial s.cells }) (fwuSt [])

/-! Well-formedness. -/

/-- Each of these terms breaks one check, and the check refuses it (1). -/
theorem test_wellFormed_refuses_1 :
    ([.csrRegisterWrite 0 65536 0 0,
      .csrRegisterWrite 0 0 1 0,
      .csrRegisterWrite 0 0 4096 0,
      .csrNarrowAccess 0 65536 0 0 true,
      .csrNarrowAccess 0 0 4096 0 true,
      .csrNarrowAccess 0 0 0 4 true,
      .csrUndefinedOffsetAccess 0 65536 0 true,
      .csrUndefinedOffsetAccess 0 0 1 true,
      .csrUndefinedOffsetAccess 0 0 4096 true,
      .csrAbsentPageAccess 0 65536 0 true,
      .csrAbsentPageAccess 0 0 4096 true,
      .lowWordRead 0 65536 0,
      .lowWordRead 0 0 1,
      .lowWordRead 0 0 4096,
      .lowWordWrite 0 65536 0 0,
      .lowWordWrite 0 0 1 0,
      .lowWordWrite 0 0 4096 0,
      .highWordWrite 0 65536 4 0,
      .highWordWrite 0 0 1 0,
      .highWordWrite 0 0 4096 0,
      .readClearCounterRead 0 65536 0,
      .readClearCounterRead 0 0 1,
      .readClearCounterRead 0 0 4096,
      .clkStoppedTimeout 0 65536 0] : List Instr).all (fun i => !wellFormed i) = true := by decide

/-- Each of these terms breaks one check, and the check refuses it (2). -/
theorem test_wellFormed_refuses_2 :
    ([.clkStoppedTimeout 0 0 1,
      .clkStoppedTimeout 0 0 4096,
      .pgEnable 65536 0,
      .pgDisable 65536 0,
      .runReq 65536 0,
      .pageReady 65536,
      .quiesceSet 65536 0,
      .quiesceClear 65536 0,
      .pageDrainComplete 65536,
      .disableBoundExpiry 65536,
      .softReset 65536 0,
      .softResetComplete 65536,
      .faultClr 65536 0,
      .featAskWrite 65536 0 0,
      .featAskWrite 0 4 0,
      .pgEvrouteWrite 65536 0,
      .pgLockWrite 65536 0,
      .queueEntryArrive 20 0 [],
      .creditReturn 20 0,
      .farSideReset 20 0 true true,
      .crossingFlushTimeout 20 0 true,
      .engineDoorbell 65536 0 0,
      .engineCompletionWrite 65536 0,
      .epClose 281474976710656] : List Instr).all (fun i => !wellFormed i) = true := by decide

/-- Each of these terms breaks one check, and the check refuses it (3). -/
theorem test_wellFormed_refuses_3 :
    ([.epAsk 281474976710656,
      .epDrained 281474976710656,
      .epCommit 281474976710656 (List.replicate 256 0),
      .epCommit 0 [],
      .epCommitAck 281474976710656,
      .twinMismatch 4,
      .judgeSelfCheckDone true true 601,
      .slagEntryRead 256,
      .capsuleArrival 131072 (List.replicate 64 0) [],
      .capsuleArrival 0 [] [],
      .nvmeFlush 131072 0,
      .nvmeFlush 0 65536,
      .nvmeWrite 131072 0,
      .nvmeWrite 0 65536,
      .nvmeRead 131072 0,
      .nvmeRead 0 65536,
      .nvmeCompare 131072 0,
      .nvmeCompare 0 65536,
      .nvmeWriteZeroes 131072 0,
      .nvmeWriteZeroes 0 65536,
      .nvmeDatasetManagement 131072 0,
      .nvmeDatasetManagement 0 65536,
      .nvmeVerify 131072 0] : List Instr).all (fun i => !wellFormed i) = true := by decide

/-- Each of these terms breaks one check, and the check refuses it (4). -/
theorem test_wellFormed_refuses_4 :
    ([.nvmeVerify 0 65536,
      .invalidOpcode 131072 0,
      .invalidOpcode 0 65536,
      .fabricsConnect 131072 0,
      .fabricsConnect 0 65536,
      .propertyGet 131072 0,
      .propertyGet 0 65536,
      .propertySet 131072 0,
      .propertySet 0 65536,
      .fabricsDisconnect 131072 0,
      .fabricsDisconnect 0 65536,
      .getLogPage 131072 0,
      .getLogPage 0 65536,
      .identify 131072 0,
      .identify 0 65536,
      .nvmeAbort 131072 0,
      .nvmeAbort 0 65536,
      .setFeatures 131072 0,
      .setFeatures 0 65536,
      .getFeatures 131072 0,
      .getFeatures 0 65536,
      .asynchronousEventRequest 131072 0,
      .asynchronousEventRequest 0 65536,
      .keepAlive 131072 0] : List Instr).all (fun i => !wellFormed i) = true := by decide

/-- Each of these terms breaks one check, and the check refuses it (5). -/
theorem test_wellFormed_refuses_5 :
    ([.keepAlive 0 65536,
      .writeDataLanded 131072 0,
      .writeDataLanded 0 65536,
      .katoExpiry 4096,
      .forgeHandle 16 (List.replicate 32 0),
      .forgeHandle 0 [],
      .grainIntakeDone 16 0 true,
      .grainIntakeDone 0 256 true,
      .grainRefetchData 16 0,
      .grainRefetchData 0 256,
      .refetchTimeout 16 0,
      .refetchTimeout 0 256,
      .lookupAnswer 16 0,
      .lookupAnswer 0 256,
      .pendingTimeout 16 0,
      .pendingTimeout 0 256,
      .indexPageFetchDone 4294967296,
      .lookupBudgetExpiry 16 0,
      .lookupBudgetExpiry 0 256,
      .sealDone 16 0,
      .sealDone 0 256,
      .keyWaitRetry 16,
      .billetGrant 18,
      .verifyPlaintext 16 0] : List Instr).all (fun i => !wellFormed i) = true := by decide

/-- Each of these terms breaks one check, and the check refuses it (6). -/
theorem test_wellFormed_refuses_6 :
    ([.verifyPlaintext 0 256,
      .verifyTimeout 16 0,
      .verifyTimeout 0 256,
      .handInBody 17,
      .handInRef 16,
      .handInZero 16,
      .handInSlag 16,
      .handInCull 17,
      .asyHash 16 16 0 true,
      .asyHash 0 20 0 true,
      .asyHmac 16 16 0 true,
      .asyHmac 0 20 0 true,
      .asyHashCmp 16 16 0 true default,
      .asyHashCmp 0 20 0 true default,
      .asyHmacCmp 16 16 0 true default,
      .asyHmacCmp 0 20 0 true default,
      .asyCtxExport 16 16 true,
      .asyCtxExport 0 20 true,
      .asyCtxImport 16 16 true,
      .asyCtxImport 0 20 true,
      .asyCtxClear 16 16 true,
      .asyCtxClear 0 20 true,
      .asyPreemptSave 16,
      .resSeqRead 0 20] : List Instr).all (fun i => !wellFormed i) = true := by decide

/-- Each of these terms breaks one check, and the check refuses it (7). -/
theorem test_wellFormed_refuses_7 :
    ([.cruCompress 8 32 true 0,
      .cruCompress 0 34 true 0,
      .cruDecompress 8 32,
      .cruDecompress 0 34,
      .cruCtxClear 8 32,
      .cruCtxClear 0 34,
      .gcmSeal 8 36 true,
      .gcmSeal 0 38 true,
      .gcmOpen 8 36 true,
      .gcmOpen 0 38 true,
      .xtsEnc 8 36 true,
      .xtsEnc 0 38 true,
      .xtsDec 8 36 true,
      .xtsDec 0 38 true,
      .keyLoad 8 36 true,
      .keyLoad 0 38 true,
      .keyErase 8 36 true,
      .keyErase 0 38 true,
      .keygenInstall 0,
      .keygenRetire 0,
      .keygen 64 0 true true true 0 0,
      .keygen 0 16 true true true 0 0,
      .keygen 0 0 true true true 0 281474976710656,
      .useGrant 4096 0 0] : List Instr).all (fun i => !wellFormed i) = true := by decide

/-- Each of these terms breaks one check, and the check refuses it (8). -/
theorem test_wellFormed_refuses_8 :
    ([.useGrant 0 38 0,
      .ceilingWriteDone 4096,
      .slotLandingDone 524288,
      .mirGrain 524288 (List.replicate 64 0) (List.replicate 8224 0) true,
      .mirGrain 0 [] (List.replicate 8224 0) true,
      .mirGrain 0 (List.replicate 64 0) [] true,
      .mirAck 524288,
      .mirNak 524288 1,
      .mirNak 0 4,
      .mirrorTimeout 524288,
      .slotReady 524288,
      .mirStamp 281474976710656 [0],
      .mirStamp 0 [],
      .mirStamp 0 [524288],
      .mirRelease [],
      .mirRelease [524288],
      .mirFree 281474976710656,
      .mirHold 128 0,
      .mirHold 0 101,
      .writeThroughDone 524288,
      .holdSenseSample 4096,
      .holdTestEnd 1200001,
      .holdTrip 2097152,
      .quenchStart 6] : List Instr).all (fun i => !wellFormed i) = true := by decide

/-- Each of these terms breaks one check, and the check refuses it (9). -/
theorem test_wellFormed_refuses_9 :
    ([.castStart 1099511627776,
      .sjEntry 262144 (List.replicate 512 0),
      .sjEntry 0 [],
      .sjMark 262144 0,
      .ljRecord 18446744073709551616 (List.replicate 256 0),
      .ljRecord 0 [],
      .jAck 256 0,
      .jAck 0 72057594037927936,
      .journalAckTimeout 18446744073709551616,
      .memberAppendDone 1099511627776 0 0,
      .memberAppendDone 0 36 0,
      .appendFail 1099511627776 0,
      .appendFail 0 36,
      .detourExpiry 16 0 0 0,
      .detourExpiry 0 0 0 34359738368,
      .ejectTimeout 96,
      .deferredEject 96,
      .rebuildDecodeDone 1099511627776 [],
      .rebuildDecodeDone 0 [(36, [], [])],
      .rebuildAppendsDone 1099511627776,
      .moduleLinkUp 96 1 0 0 ⟨true, true, 0, 0, 0, 0, true, true, 0, 0⟩,
      .moduleLinkUp 0 7 0 0 ⟨true, true, 0, 0, 0, 0, true, true, 0, 0⟩,
      .moduleLinkUp 0 1 0 64 ⟨true, true, 0, 0, 0, 0, true, true, 0, 0⟩,
      .presenceLost 96] : List Instr).all (fun i => !wellFormed i) = true := by decide

/-- Each of these terms breaks one check, and the check refuses it (10). -/
theorem test_wellFormed_refuses_10 :
    ([.retrainTimeout 96,
      .sidebandPoll 96 true true 0,
      .healthPoll 96 [] [] true,
      .chunkGrant 1099511627776,
      .zoneResetDone 96 0 true,
      .zoneResetDone 0 4294967296 true,
      .zoneReturn 412316860416,
      .relocationClaim 1099511627776,
      .relocationCopy 16 0 0 [],
      .relocationCopy 0 1099511627776 0 [],
      .memberMove 1099511627776 0 (List.replicate 262144 0),
      .memberMove 0 36 (List.replicate 262144 0),
      .memberMove 0 0 [],
      .spineRead 0 18446744073709551616 (List.replicate 3 none),
      .spineRead 0 0 [],
      .nvmeCommandCompletion 96 0 0 true,
      .nvmeCommandCompletion 0 4 0 true,
      .reservationRegister 96 true true,
      .hostRead 16 0 0 0,
      .hostRead 0 131072 0 0,
      .hostRead 0 0 65536 0,
      .hostRead 0 0 0 34359738368,
      .hostVerify 16 0 0 0,
      .hostVerify 0 131072 0 0] : List Instr).all (fun i => !wellFormed i) = true := by decide

/-- Each of these terms breaks one check, and the check refuses it (11). -/
theorem test_wellFormed_refuses_11 :
    ([.hostVerify 0 0 65536 0,
      .hostVerify 0 0 0 34359738368,
      .hostCompare 16 0 0 0,
      .hostCompare 0 131072 0 0,
      .hostCompare 0 0 65536 0,
      .hostCompare 0 0 0 34359738368,
      .fill 524288 (List.replicate 4096 0) [],
      .fill 0 [] [],
      .fill 0 (List.replicate 4096 0) (List.replicate 17 0),
      .verifyHit 16 0,
      .verifyHit 0 256,
      .page 16 0 0 0 default default,
      .page 0 281474976710656 0 0 default default,
      .page 0 0 18446744073709551616 0 default default,
      .reseal 16 0 default,
      .reseal 0 64 default,
      .memberReadDone 16 0 0 0 default,
      .memberReadDone 0 0 0 34359738368 default,
      .reconstructReadsDone 16 0 0 0 [],
      .reconstructReadsDone 0 0 0 34359738368 [],
      .reconstructReadsDone 0 0 0 0 (List.replicate 37 (0, [])),
      .readLimitExpiry 131072 0 0,
      .readLimitExpiry 0 65536 0,
      .readLimitExpiry 0 0 34359738368] : List Instr).all (fun i => !wellFormed i) = true := by decide

/-- Each of these terms breaks one check, and the check refuses it (12). -/
theorem test_wellFormed_refuses_12 :
    ([.frameReceive 32 ⟨0, false, false, none, none, 0, .other, [], true⟩,
      .pfcXoffRefresh 32 0,
      .pfcXoffRefresh 0 8,
      .pauseReceive 32 0 0,
      .pauseReceive 0 8 0,
      .pauseReceive 0 0 65536,
      .pauseExpiry 32 0,
      .pauseExpiry 0 8,
      .pfcStormEntry 32 0,
      .pfcStormEntry 0 8,
      .pfcStormExit 32 0,
      .pfcStormExit 0 8,
      .temperRise 131072,
      .cnp 32 { opcode := 0x81 },
      .cnp 0 { opcode := 0xFF },
      .roceSend 32 { opcode := 0x16 },
      .roceSend 0 { opcode := 0xFF },
      .rdmaWrite 32 { opcode := 0x06 },
      .rdmaWrite 0 { opcode := 0xFF },
      .rdmaReadRequest 32 { opcode := 0x0C },
      .rdmaReadRequest 0 { opcode := 0xFF },
      .rdmaReadResponse 32 { opcode := 0x0D },
      .rdmaReadResponse 0 { opcode := 0xFF },
      .roceAck 32 { opcode := 0x11 }] : List Instr).all (fun i => !wellFormed i) = true := by decide

/-- Each of these terms breaks one check, and the check refuses it (13). -/
theorem test_wellFormed_refuses_13 :
    ([.roceAck 0 { opcode := 0xFF },
      .rnrNak 32 { opcode := 0x11, syndrome := 32 },
      .rnrNak 0 { opcode := 0xFF },
      .rnrNak 0 { opcode := 0x11 },
      .compareAndSwap 32 { opcode := 0x13 },
      .compareAndSwap 0 { opcode := 0xFF },
      .fetchAndAdd 32 { opcode := 0x14 },
      .fetchAndAdd 0 { opcode := 0xFF },
      .spWrite 32 { opcode := 0xC1 },
      .spWrite 0 { opcode := 0xFF },
      .spSend 32 { opcode := 0xC0 },
      .spSend 0 { opcode := 0xFF },
      .spReadResp 32 { opcode := 0xC2 },
      .spReadResp 0 { opcode := 0xFF },
      .spNak 32 { opcode := 0xC3 },
      .spNak 0 { opcode := 0xFF },
      .spGapExpiry 131072 0,
      .spGapExpiry 0 16777216,
      .retransmitTimeout 131072,
      .ctxFetchDone 131072 true,
      .qpInit 0,
      .qpRtr 0,
      .qpRts 0,
      .qpError 131072 1] : List Instr).all (fun i => !wellFormed i) = true := by decide

/-- Each of these terms breaks one check, and the check refuses it (14). -/
theorem test_wellFormed_refuses_14 :
    ([.qpError 0 8,
      .qpReset 0,
      .qpQuery 0,
      .qpTest 0,
      .winOpen 0,
      .winRevoke 0,
      .revokeDrained 65536,
      .deltaStart 64,
      .shipTimer 64,
      .segmentSealed 64,
      .segmentWriteAck 64,
      .publishResult 64,
      .controlPoll 64,
      .segmentApply 64,
      .segmentApplied 64,
      .leaseRenew 64,
      .leaseCheck 64,
      .flitReceive [] 0 true,
      .flitReceive (List.replicate 256 0) 5 true,
      .nak 4096,
      .hello [],
      .dropMsg 256,
      .fetchSlot 524288 true,
      .slotData 524288 (List.replicate 64 0) (List.replicate 8224 0)] : List Instr).all (fun i => !wellFormed i) = true := by decide

/-- Each of these terms breaks one check, and the check refuses it (15). -/
theorem test_wellFormed_refuses_15 :
    ([.slotData 0 [] (List.replicate 8224 0),
      .slotData 0 (List.replicate 64 0) [],
      .fetchLj 18446744073709551616 1,
      .fetchLj 0 257,
      .ljData 18446744073709551616 [],
      .fetchSj 262144,
      .sjData 262144 (List.replicate 512 0),
      .sjData 0 [],
      .fetchNak 256 0,
      .fetchNak 0 72057594037927936,
      .handover 16384,
      .handoverAck 16384 0,
      .handoverAck 0 281474976710656,
      .handoverNak 16384,
      .heartbeat 65536,
      .cvuMessage 64 [],
      .cvuArm 64 0,
      .cvuDisarm 64 0,
      .cvuResSeqRead 0 64,
      .memoryAccess ⟨0, .ctl, 2 ^ 48, 8, none, 0, .none⟩,
      .memoryAccess ⟨0, .ctl, 0, 8, none, 16, .none⟩,
      .scRetire 16,
      .spRemap 16,
      .maintClean 4] : List Instr).all (fun i => !wellFormed i) = true := by decide

/-- Each of these terms breaks one check, and the check refuses it (16). -/
theorem test_wellFormed_refuses_16 :
    ([.maintInval 4,
      .maintCleanInval 4,
      .maintCleanAll 4,
      .maintDone 4,
      .patrolScrub 0 0 [],
      .dimmThermal 0 0,
      .dimmThermal 1536 256,
      .memoryTrainingDone 0 true 0 0 1 0,
      .memoryTrainingDone 1536 true 129 0 1 0,
      .memoryTrainingDone 1536 true 0 3 1 0,
      .memoryTrainingDone 1536 true 0 0 6 0,
      .dimmLost 0,
      .eventOccurrence 65536 0 0,
      .eventOccurrence 0 16 0,
      .eventRingWrite 32,
      .ringConsWrite 32 0,
      .eventRingEnable 32 0,
      .hallmarkOccurrence 65536 0 [],
      .hallmarkOccurrence 0 256 [],
      .hallmarkOccurrence 0 0 (List.replicate 8 0),
      .tmkCommitDone [(0x40000, 0)],
      .pllLockLoss 7,
      .pllRelockDone 7 0,
      .pllRelockTimeout 7] : List Instr).all (fun i => !wellFormed i) = true := by decide

/-- Each of these terms breaks one check, and the check refuses it (17). -/
theorem test_wellFormed_refuses_17 :
    ([.coreClockLoss 16,
      .dbgAccessRead 281474976710656,
      .dbgAccessWrite 281474976710656 0,
      .thermalSample 256,
      .powerSample 1024,
      .fwuStage 0,
      .fwuVerify 0,
      .fwuActivate 0,
      .fwuConfirm 0,
      .chipReset 6,
      .bootRomRun true 0 [12] [] 0 0 1 0,
      .bootRomRun true 0 [] [] 129 0 1 0,
      .bootRomRun true 0 [] [] 0 3 1 0,
      .bootRomRun true 0 [] [] 0 0 6 0,
      .portTrainTimeout 96,
      .portLinkUp 32,
      .portLinkDown 32 0,
      .flashLinkDrop 96,
      .completionTimeout 96,
      .fatalAer 96,
      .dpcContainment 96,
      .controllerFatalStatus 96,
      .serdesLaneLockLoss 36 0,
      .serdesLaneLockLoss 0 8] : List Instr).all (fun i => !wellFormed i) = true := by decide

/-- Each of these terms breaks one check, and the check refuses it (18). -/
theorem test_wellFormed_refuses_18 :
    ([.serdesLanePllLost 36,
      .vinAonLow 8192,
      .ringDisable 0x1200 0 0,
      .ringDisable 0x1300 16 0,
      .ringDisable 0x1400 8 0,
      .ringDisable 0x1300 0 1,
      .useGrant 0 0 0,
      .quenchStart 0,
      .rebuildDecodeDone 0 [(0, [], [])],
      .moduleLinkUp 0 1 3 0 ⟨true, true, 0, 0, 0, 0, true, true, 0, 0⟩,
      .relocationCopy 0 0 0 (List.replicate 17 0),
      .relocationCopy 0 0 0 [],
      .narrow 3 0,
      .linkWiden 1,
      .ljData 0 (List.replicate 257 0),
      .ljData 0 [],
      .srcMaskWrite (some 32) 0] : List Instr).all (fun i => !wellFormed i) = true := by decide

/-- Terms in range pass. -/
theorem test_wellFormed_passes :
    ([.csrRegisterWrite 0 0x0900 0x100 7, .pgEnable 0x1100 1, .queueEntryArrive 5 15 [], .epClose 5] : List Instr).all wellFormed = true := by decide

/-! Values the spec works out. -/

/-- The check value of R605's table, row 0: CRC-32C of "123456789". -/
theorem test_crc32c_check_value :
    crc32c [0x31, 0x32, 0x33, 0x34, 0x35, 0x36, 0x37, 0x38, 0x39] = 0xE3069283#32 := by decide +kernel

/-- The check value of R605's table, row 1: CRC-64 of "123456789". -/
theorem test_crc64_check_value :
    crc64 [0x31, 0x32, 0x33, 0x34, 0x35, 0x36, 0x37, 0x38, 0x39] = 0xAE8B14860A799888#64 := by decide +kernel

/-- What holds of the state a command leaves. -/
def after (i : Instr) (s : State) (q : State → Bool) : Bool :=
  match exec i s with
  | .next t => q t
  | _ => false

/-- Head A of the worked case after R329: HOLD_SENSE 1,080 mV, HOLD_RATIO 0x3200, HOLD_VMIN 36,000 mV, efficiency 90 %,
QUENCH_W 320, QUENCH_FIXED_US 26,000, the partner's H 64. -/
def headA : State :=
  let s := st [(pgWC, 0x044, 2), (pgWC, 0x028, 0x3F), (pgWC, 0x140, 0x3200), (pgWC, 0x144, 36000), (pgWC, 0x148, 90), (pgWC, 0x150, 320),
    (pgWC, 0x154, 26000), (pgWC, 0x158, 23296), (pgAON, 0x100, 1080000), (pgWC, 0x130, 0x320040)]
  { s with wc := { s.wc with single := false, peerH := 64, peerShare := 50, restoring := false } }

/-- HOLD_ENERGY 16,982 mJ, NEED_MJ 16,903 mJ, BUDGET_LIMITS 0x0040_002A, BUDGET_STAT 0x0015_0001 (worked case after R329). -/
theorem test_holdEnergyRecompute_worked_case :
    after .holdEnergyRecompute headA (fun t => decide (rd t pgWC 0x160 = 0x4256#32 ∧ rd t pgWC 0x164 = 0x4207#32 ∧ rd t pgWC 0x138 = 0x40002A#32 ∧ rd t pgWC 0x134 = 0x150001#32)) = true := by decide +kernel

/-- A droop of 34.34 mV over HOLD_TEST_MA 2,000 and 20 ms gives HOLD_CAP 23,296 µF (worked case after R329). -/
theorem test_holdTestEnd_worked_case :
    after (.holdTestEnd 34340) (wr pgWC 0x15C (BitVec.ofNat 32 (2000 * 2 ^ 16)) (wr pgWC 0x168 1 headA)) (fun t => decide (rd t pgWC 0x158 = 23296#32)) = true := by decide +kernel

/-- A year at 92 °C and 780 mV: 8,766 hours of 256 units, each of weight 3, read WEAR_PPM 75,000 (worked case after R729). -/
theorem test_wearPpm_worked_case :
    wearPpm { State.reset.cells with wear := BitVec.ofNat 64 (8766 * 256 * (wearWeight 92 780)) } = 75000 := by decide +kernel

/-- CORE_3 reads MEMD_4.CH_STAT while DDR is stopped: PG_FAULT reads 0x0001_0806 (worked case after R704). -/
theorem test_clkStoppedTimeout_worked_case :
    after (.clkStoppedTimeout 3 0x0604 0x108) (parkDom dmDDR State.reset) (fun t => decide (rd t 0x0604 0x048 = 0x10806#32)) = true := by decide +kernel

/-! Witnesses: for every statement with hypotheses, a state and operands that meet them. -/

/-- States and operands that meet the hypotheses of RegisterAccessCompletes, clause by clause; a variable that an equation of the statement defines is that. -/
theorem witness_RegisterAccessCompletes :
    (let m : Nat := 0
     let p : Nat := 0x0900
     let off : Nat := 0x100
     let v : W32 := 7
     let r : RegDef := (regAt 0x0900 0x100).getD ⟨0, .word, false, .always, []⟩
     let s : State := State.reset
     pageExists p = true ∧ clockStopped s p off = false ∧ regAt p off = some r ∧ 0x100 ≤ off ∧ r.half = .word ∧ ownWrite m p off v s = none) ∧
    (let p : Nat := 0x0900
     let off : Nat := 0x101
     let n : Nat := 1
     pageExists p = true ∧ (¬ ((n = 4 ∧ off % 4 = 0) ∨ (n = 8 ∧ off % 8 = 0)))) ∧
    (let p : Nat := 0x0900
     let off : Nat := 0xFFC
     let s : State := State.reset
     pageExists p = true ∧ clockStopped s p off = false ∧ regAt p off = none) ∧
    (let p : Nat := 0x0900
     let off : Nat := 0xFFC
     let s : State := State.reset
     pageExists p = true ∧ clockStopped s p off = false ∧ regAt p off = none) ∧
    (let p : Nat := 0x1110
     pageExists p = false) ∧
    (let p : Nat := 0x2100
     let off : Nat := 0x108
     let r : RegDef := (regAt 0x2100 0x108).getD ⟨0, .word, false, .always, []⟩
     let s : State := State.reset
     pageExists p = true ∧ clockStopped s p off = false ∧ regAt p off = some r ∧ r.half = .low) ∧
    (let p : Nat := 0x2100
     let off : Nat := 0x108
     let r : RegDef := (regAt 0x2100 0x108).getD ⟨0, .word, false, .always, []⟩
     let s : State := State.reset
     pageExists p = true ∧ clockStopped s p off = false ∧ regAt p off = some r ∧ 0x100 ≤ off ∧ r.half = .low) ∧
    (let p : Nat := 0x2100
     let off : Nat := 0x10C
     let r : RegDef := (regAt 0x2100 0x10C).getD ⟨0, .word, false, .always, []⟩
     let s : State := State.reset
     pageExists p = true ∧ clockStopped s p off = false ∧ regAt p off = some r ∧ 0x100 ≤ off ∧ r.half = .high) ∧
    (let p : Nat := 0x0900
     let off : Nat := 0x1C4
     let r : RegDef := (regAt 0x0900 0x1C4).getD ⟨0, .word, false, .always, []⟩
     let s : State := st [(0x0900, 0x1C4, 5)]
     pageExists p = true ∧ clockStopped s p off = false ∧ regAt p off = some r ∧ r.half = .word ∧ r.fields = [F.rc 31 0] ∧ clsOf p ≠ 0x20 ∧ p ≠ pgING) ∧
    (let p : Nat := 0x2200
     let off : Nat := 0x100
     let s : State := State.reset
     pageExists p = true ∧ clockStopped s p off = true) :=
  by
  iterate 9 refine ⟨by decide +kernel, ?_⟩
  decide +kernel

/-- States and operands that meet the hypotheses of PageControlCompletes, clause by clause; a variable that an equation of the statement defines is that. -/
theorem witness_PageControlCompletes :
    (let p : Nat := 0x1100
     let s : State := State.reset
     pageExists p = true ∧ clockStopped s p 0x040 = false ∧ locked s p 0 = false ∧ resetting s p = false ∧ pgState s p = stOFF ∧ usable s p = true) ∧
    (let p : Nat := 0x1100
     let s : State := st [(0x1100, 0x040, 1), (0x1100, 0x044, 1)]
     pageExists p = true ∧ clockStopped s p 0x040 = false ∧ locked s p 0 = false ∧ resetting s p = false ∧ mayDisable s p = true ∧ (p ≠ pgWDL ∨ tstate s ≠ tsPAIRED) ∧ pgState s p = stSTART) ∧
    (let p : Nat := 0x1100
     let s : State := st [(0x1100, 0x040, 1), (0x1100, 0x044, 2)]
     pageExists p = true ∧ clockStopped s p 0x040 = false ∧ locked s p 0 = false ∧ resetting s p = false ∧ mayDisable s p = true ∧ (p ≠ pgWDL ∨ tstate s ≠ tsPAIRED) ∧ pgState s p = stRUN) ∧
    (let p : Nat := 0x1100
     let s : State := st [(0x1100, 0x040, 1), (0x1100, 0x044, 4)]
     pageExists p = true ∧ clockStopped s p 0x040 = false ∧ locked s p 0 = false ∧ resetting s p = false ∧ mayDisable s p = true ∧ (p ≠ pgWDL ∨ tstate s ≠ tsPAIRED) ∧ pgState s p = stHALT) ∧
    (let p : Nat := 0x1100
     let s : State := st [(0x1100, 0x040, 1), (0x1100, 0x044, 3)]
     pageExists p = true ∧ clockStopped s p 0x040 = false ∧ locked s p 0 = false ∧ resetting s p = false ∧ mayDisable s p = true ∧ (p ≠ pgWDL ∨ tstate s ≠ tsPAIRED) ∧ pgState s p = stDRAIN) ∧
    (let s : State := wdlSt [(pgWDL, 0x040, 1)]
     locked s pgWDL 0 = false ∧ clockStopped s pgWDL 0x040 = false ∧ bit (rd s pgWDL 0x040) 0 = true ∧ tstate s = tsPAIRED) ∧
    (let p : Nat := 0x2800
     let s : State := st [(0x2800, 0x040, 1), (0x2800, 0x044, 0x21)]
     pageExists p = true ∧ clockStopped s p 0x040 = false ∧ locked s p 0 = false ∧ resetting s p = false ∧ pgState s p = stSTART ∧ bit (rd s p 0x040) 0 = true) ∧
    (let p : Nat := 0x1000
     let s : State := st [(0x1000, 0x044, 1), (0x2100, 0x044, 2), (pgLDG, 0x044, 2), (pgWC, 0x044, 2)]
     pageExists p = true ∧ pgState s p = stSTART ∧ bit (rd s p 0x044) 5 = false ∧ startDone s p = true) ∧
    (let p : Nat := 0x1100
     let s : State := st [(0x1100, 0x040, 1), (0x1100, 0x044, 2)]
     pageExists p = true ∧ clockStopped s p 0x040 = false ∧ locked s p 0 = false ∧ resetting s p = false ∧ pgState s p = stRUN) ∧
    (let p : Nat := 0x1100
     let s : State := st [(0x1100, 0x040, 5), (0x1100, 0x044, 3)]
     pageExists p = true ∧ clockStopped s p 0x040 = false ∧ locked s p 0 = false ∧ resetting s p = false ∧ (pgState s p = stDRAIN ∨ pgState s p = stHALT)) ∧
    (let p : Nat := 0x2800
     let s : State := st [(0x2800, 0x044, 3)]
     pageExists p = true ∧ pgState s p = stDRAIN ∧ resetting s p = false ∧ pageBusy s p = false ∧ bit (rd s p 0x040) 0 = false) ∧
    (let p : Nat := 0x2800
     let s : State := st [(0x2800, 0x044, 3), (0x2800, 0x040, 5)]
     pageExists p = true ∧ pgState s p = stDRAIN ∧ resetting s p = false ∧ pageBusy s p = false ∧ bit (rd s p 0x040) 0 = true ∧ bit (rd s p 0x040) 2 = true) ∧
    (let p : Nat := 0x2800
     let s : State := st [(0x2800, 0x044, 3)]
     pageExists p = true ∧ pgState s p = stDRAIN ∧ bit (rd s p 0x040) 0 = false ∧ resetting s p = false) ∧
    (let p : Nat := 0x2800
     let s : State := st [(0x2800, 0x044, 3)]
     pageExists p = true ∧ clockStopped s p 0x040 = false ∧ locked s p 0 = false ∧ resetting s p = false ∧ mayReset s p = true ∧ (p ≠ pgWDL ∨ tstate s ≠ tsPAIRED)) ∧
    (let p : Nat := 0x2800
     let s : State := st [(0x2800, 0x044, 0x12)]
     pageExists p = true ∧ resetting s p = true ∧ (clsOf p = 0x24 ∨ domRuns s (pageDomain p) = true) ∧ (p ≠ pgQST ∨ inQ s = false)) ∧
    (let p : Nat := 0x1100
     let s : State := st [(0x1100, 0x044, 5), (0x1100, 0x048, 0x40), (0x1100, 0x040, 1)]
     pageExists p = true ∧ clockStopped s p 0x040 = false ∧ locked s p 0 = false ∧ resetting s p = false ∧ pgState s p = stFAULT ∧ usable s p = true) ∧
    (let p : Nat := 0x1100
     let i : Nat := 3
     let s : State := State.reset
     pageExists p = true ∧ i < 4 ∧ clockStopped s p (0x018 + 4 * i) = false ∧ locked s p 1 = false ∧ (pgState s p = stOFF ∨ pgState s p = stSTART)) ∧
    (let p : Nat := 0x1100
     let v : W32 := 0x10203
     let r : RegDef := (regAt 0x1100 0x050).getD ⟨0, .word, false, .always, []⟩
     let s : State := State.reset
     pageExists p = true ∧ clockStopped s p 0x050 = false ∧ locked s p 2 = false ∧ regAt p 0x050 = some r ∧ r.rsvd v = false) ∧
    (let p : Nat := 0x1100
     let v : W32 := 0xF
     let r : RegDef := (regAt 0x1100 0x054).getD ⟨0, .word, false, .always, []⟩
     let s : State := st [(0x1100, 0x054, 2)]
     pageExists p = true ∧ clockStopped s p 0x054 = false ∧ regAt p 0x054 = some r ∧ r.rsvd v = false) :=
  by
  iterate 18 refine ⟨by decide +kernel, ?_⟩
  decide +kernel

/-- States and operands that meet the hypotheses of CreditQueuesComplete, clause by clause; a variable that an equation of the statement defines is that. -/
theorem witness_CreditQueuesComplete :
    (let q : Nat := 5
     let i : Nat := 15
     let e : List W32 := [1]
     let s : State := State.reset
     let x : Queue := queueOf_ s ⟨q, i⟩
     (QueueId.mk q i).there = true ∧ x.credits ≠ 0 ∧ x.entries.length < (QueueId.mk q i).depth ∧ (q = 15 → requestInvalid ((QueueId.mk q i).fit e) = false)) ∧
    (let q : Nat := 5
     let i : Nat := 0
     let s : State := queuePut ⟨5, 0⟩ ⟨63, [[1]], none⟩ State.reset
     let x : Queue := queueOf_ s ⟨q, i⟩
     (QueueId.mk q i).there = true ∧ x.credits < (QueueId.mk q i).depth) ∧
    (let q : Nat := 5
     let i : Nat := 0
     (QueueId.mk q i).there = true ∧ (QueueId.mk q i).crosses = true) ∧
    (let q : Nat := 5
     let i : Nat := 0
     let b : Bool := true
     let s : State := queuePut ⟨5, 0⟩ ⟨64, [], some 0x1A00⟩ (st [(0x300, 0x100, 0xFFFF)])
     let p : Nat := (QueueId.mk q i).survivor b
     (QueueId.mk q i).there = true ∧ (QueueId.mk q i).flushing s p = true ∧ (QueueId.mk q i).clocked s = true) :=
  by
  iterate 3 refine ⟨by decide +kernel, ?_⟩
  decide +kernel

/-- States and operands that meet the hypotheses of CreditsNeverLost, clause by clause. -/
theorem witness_CreditsNeverLost : 
    ((QueueId.mk 5 15).there = true ∧ (queueOf_ State.reset ⟨5, 15⟩).credits ≠ 0 ∧
     (queueOf_ State.reset ⟨5, 15⟩).credits + (queueOf_ State.reset ⟨5, 15⟩).entries.length = (QueueId.mk 5 15).depth ∧
     ∃ t, exec (.queueEntryArrive 5 15 [1]) State.reset = .next t) ∧
    ((QueueId.mk 5 0).there = true ∧ (queueOf_ (queuePut ⟨5, 0⟩ ⟨63, [[1]], none⟩ State.reset) ⟨5, 0⟩).entries ≠ [] ∧
     (queueOf_ (queuePut ⟨5, 0⟩ ⟨63, [[1]], none⟩ State.reset) ⟨5, 0⟩).credits + (queueOf_ (queuePut ⟨5, 0⟩ ⟨63, [[1]], none⟩ State.reset) ⟨5, 0⟩).entries.length = (QueueId.mk 5 0).depth ∧
     ∃ t, exec (.creditReturn 5 0) (queuePut ⟨5, 0⟩ ⟨63, [[1]], none⟩ State.reset) = .next t) :=
  ⟨⟨by decide +kernel, by decide +kernel, by decide +kernel, _, rfl⟩, by decide +kernel, by decide +kernel, by decide +kernel, _, rfl⟩

/-- States and operands that meet the hypotheses of AssayCompletes, clause by clause; a variable that an equation of the statement defines is that. -/
theorem witness_AssayCompletes :
    (let n : Nat := 0
     let l : Nat := 16
     let l' : Nat := 16
     let s : State := ringSt pgASY (dscB 1 3 0 0 0 0 0 0 0 0)
     let d : Dsc := headDsc s pgASY n
     serving s pgASY = true ∧ (openOf s n).bind (·.part) = none ∧ posted s pgASY n = true ∧ d.opcode = aoHASH ∧ (rgOf s pgASY n).done = [] ∧ allOut s pgASY = false ∧ laneFor s n l' = some l ∧ asyCode s n d = 0) ∧
    (let n : Nat := 0
     let l : Nat := 16
     let l' : Nat := 16
     let s : State := keySt kcDIGEST (ringSt pgASY (dscB 2 3 0 0 0 0 0 0 0 0))
     let d : Dsc := headDsc s pgASY n
     serving s pgASY = true ∧ (openOf s n).bind (·.part) = none ∧ posted s pgASY n = true ∧ d.opcode = aoHMAC ∧ (rgOf s pgASY n).done = [] ∧ allOut s pgASY = false ∧ laneFor s n l' = some l ∧ asyCode s n d = 0) ∧
    (let n : Nat := 0
     let l : Nat := 16
     let l' : Nat := 16
     let s : State := ringSt pgASY (dscB 3 3 0 0 0 0 0 0 16 0)
     let d : Dsc := headDsc s pgASY n
     serving s pgASY = true ∧ (openOf s n).bind (·.part) = none ∧ posted s pgASY n = true ∧ d.opcode = aoHASH_CMP ∧ (rgOf s pgASY n).done = [] ∧ allOut s pgASY = false ∧ laneFor s n l' = some l ∧ asyCode s n d = 0) ∧
    (let n : Nat := 0
     let l : Nat := 16
     let l' : Nat := 16
     let s : State := keySt kcDIGEST (ringSt pgASY (dscB 4 3 0 0 0 0 0 0 16 0))
     let d : Dsc := headDsc s pgASY n
     serving s pgASY = true ∧ (openOf s n).bind (·.part) = none ∧ posted s pgASY n = true ∧ d.opcode = aoHMAC_CMP ∧ (rgOf s pgASY n).done = [] ∧ allOut s pgASY = false ∧ laneFor s n l' = some l ∧ asyCode s n d = 0) ∧
    (let n : Nat := 0
     let l : Nat := 16
     let l' : Nat := 16
     let s : State := ctxPut 0 (some {}) (ringSt pgASY (dscB 8 0 0 0 0 0 328 0xE000002000 0 0))
     let d : Dsc := headDsc s pgASY n
     serving s pgASY = true ∧ (openOf s n).bind (·.part) = none ∧ posted s pgASY n = true ∧ d.opcode = aoEXPORT ∧ (rgOf s pgASY n).done = [] ∧ allOut s pgASY = false ∧ laneFor s n l' = some l ∧ asyCode s n d = 0) ∧
    (let n : Nat := 0
     let l : Nat := 16
     let l' : Nat := 16
     let s : State := ringSt pgASY (dscB 9 0 0 0 0xE000002000 320 0 0 0 0)
     let d : Dsc := headDsc s pgASY n
     serving s pgASY = true ∧ (openOf s n).bind (·.part) = none ∧ posted s pgASY n = true ∧ d.opcode = aoIMPORT ∧ (rgOf s pgASY n).done = [] ∧ allOut s pgASY = false ∧ laneFor s n l' = some l ∧ asyCode s n d = 0) ∧
    (let n : Nat := 0
     let l : Nat := 16
     let l' : Nat := 16
     let s : State := ctxPut 0 (some {}) (ringSt pgASY (dscB 10 0 0 0 0 0 0 0 0 0))
     let d : Dsc := headDsc s pgASY n
     serving s pgASY = true ∧ (openOf s n).bind (·.part) = none ∧ posted s pgASY n = true ∧ d.opcode = aoCLEAR ∧ (rgOf s pgASY n).done = [] ∧ allOut s pgASY = false ∧ laneFor s n l' = some l ∧ asyCode s n d = 0) ∧
    (let n : Nat := 4
     let v : Nat := 0
     let l : Nat := 16
     let o : AOpen := ⟨some 16, 0, true, none, {}, 0⟩
     let s : State := heldSt
     serving s pgASY = true ∧ live s pgASY 5 = true ∧ waiting s pgASY n = true ∧ (lanesOf pgASY).all (fun l => !laneIdle s pgASY l) = true ∧ chooseVictim s (victims s (rgPrio s pgASY n)) = some (v, o) ∧ o.lane = some l ∧ o.part = none) ∧
    (let n : Nat := 4
     let v : Nat := 0
     let l : Nat := 16
     let i : Nat := 0
     let c : Nat := 64
     let d : Dsc := Dsc.ofBytes (dscB 1 0 0 0 0 0 0 0 0 0)
     let o : AOpen := ⟨some 16, 0, true, some (Dsc.ofBytes (dscB 1 0 0 0 0 0 0 0 0 0), 0, 64), {}, 0⟩
     let s : State := { heldSt with asy := { heldSt.asy with opened := Tab.put heldSt.asy.opened 0 ⟨some 16, 0, true, some (Dsc.ofBytes (dscB 1 0 0 0 0 0 0 0 0 0), 0, 64), {}, 0⟩ } }
     serving s pgASY = true ∧ live s pgASY 5 = true ∧ waiting s pgASY n = true ∧ (lanesOf pgASY).all (fun l => !laneIdle s pgASY l) = true ∧ chooseVictim s (victims s (rgPrio s pgASY n)) = some (v, o) ∧ o.lane = some l ∧ o.part = some (d, i, c)) ∧
    (let s : State := st [(pgASY, 0x100, 0xF00)]
     clockStopped s pgASY 0x104 = false) ∧
    (let l : Nat := 16
     let s : State := st []
     clockStopped s pgASY (resOff l 0) = false) :=
  by
  iterate 10 refine ⟨by decide +kernel, ?_⟩
  decide +kernel

/-- States and operands that meet the hypotheses of CrucibleAndTinningComplete, clause by clause; a variable that an equation of the statement defines is that. -/
theorem witness_CrucibleAndTinningComplete :
    (let n : Nat := 0
     let l : Nat := 32
     let s : State := ringSt pgCRU (dscL 1 3 1 0)
     let d : Dsc := headDsc s pgCRU n
     serving s pgCRU = true ∧ posted s pgCRU n = true ∧ d.opcode = coCOMPRESS ∧ (rgOf s pgCRU n).done = [] ∧ allOut s pgCRU = false ∧ mayTake s pgCRU n l = true ∧ cruCode s d = 0 ∧ ctxLost s d = false) ∧
    (let n : Nat := 0
     let l : Nat := 32
     let s : State := ringSt pgCRU (dscL 2 3 1 100)
     let d : Dsc := headDsc s pgCRU n
     serving s pgCRU = true ∧ posted s pgCRU n = true ∧ d.opcode = coDECOMPRESS ∧ (rgOf s pgCRU n).done = [] ∧ allOut s pgCRU = false ∧ mayTake s pgCRU n l = true ∧ cruCode s d = 0 ∧ ctxLost s d = false) ∧
    (let n : Nat := 0
     let l : Nat := 32
     let s : State := (fun s : State => { s with msys := { s.msys with spWay := [8, 9, 10, 11, 12, 13, 14, 15] } }) (wr pgCRU 0x114 0xE0 (ringSt pgCRU (dscL 10 0 0 0)))
     let d : Dsc := headDsc s pgCRU n
     serving s pgCRU = true ∧ posted s pgCRU n = true ∧ d.opcode = coCLEAR ∧ (rgOf s pgCRU n).done = [] ∧ allOut s pgCRU = false ∧ mayTake s pgCRU n l = true ∧ cruCode s d = 0 ∧ ctxLost s d = false) ∧
    (let s : State := st [(pgCRU, 0x108, 0x300)]
     clockStopped s pgCRU 0x10C = false) ∧
    (let n : Nat := 0
     let l : Nat := 36
     let s : State := keySt kcLINK (ringSt pgTIN (dscB 1 3 0 0 0 0 16 0 0 0))
     let d : Dsc := headDsc s pgTIN n
     serving s pgTIN = true ∧ posted s pgTIN n = true ∧ d.opcode = toGCM_SEAL ∧ (rgOf s pgTIN n).done = [] ∧ allOut s pgTIN = false ∧ (rgOf s pgTIN n).cur = none ∧ mayTake s pgTIN n l = true ∧ tinCode s d = 0 ∧ (slotK s d.slot).loaded = true) ∧
    (let n : Nat := 0
     let l : Nat := 36
     let s : State := keySt kcLINK (ringSt pgTIN (dscB 2 3 0 0 0 0 0 0 28 0))
     let d : Dsc := headDsc s pgTIN n
     serving s pgTIN = true ∧ posted s pgTIN n = true ∧ d.opcode = toGCM_OPEN ∧ (rgOf s pgTIN n).done = [] ∧ allOut s pgTIN = false ∧ (rgOf s pgTIN n).cur = none ∧ mayTake s pgTIN n l = true ∧ tinCode s d = 0 ∧ (slotK s d.slot).loaded = true) ∧
    (let n : Nat := 0
     let l : Nat := 36
     let s : State := keySt kcXTS (ringSt pgTIN (dscB 3 3 0 0 0 0 0 0 16 0x900))
     let d : Dsc := headDsc s pgTIN n
     serving s pgTIN = true ∧ posted s pgTIN n = true ∧ d.opcode = toXTS_ENC ∧ (rgOf s pgTIN n).done = [] ∧ allOut s pgTIN = false ∧ (rgOf s pgTIN n).cur = none ∧ mayTake s pgTIN n l = true ∧ tinCode s d = 0 ∧ (slotK s d.slot).loaded = true) ∧
    (let n : Nat := 0
     let l : Nat := 36
     let s : State := keySt kcXTS (ringSt pgTIN (dscB 4 3 0 0 0 0 0 0 16 0x900))
     let d : Dsc := headDsc s pgTIN n
     serving s pgTIN = true ∧ posted s pgTIN n = true ∧ d.opcode = toXTS_DEC ∧ (rgOf s pgTIN n).done = [] ∧ allOut s pgTIN = false ∧ (rgOf s pgTIN n).cur = none ∧ mayTake s pgTIN n l = true ∧ tinCode s d = 0 ∧ (slotK s d.slot).loaded = true) ∧
    (let n : Nat := 0
     let l : Nat := 36
     let s : State := wr pgTIN 0x164 1 (ringSt pgTIN (dscB 5 3 0 0 0xE000002000 40 0 0 0 0))
     let d : Dsc := headDsc s pgTIN n
     serving s pgTIN = true ∧ posted s pgTIN n = true ∧ d.opcode = toKEY_LOAD ∧ (rgOf s pgTIN n).done = [] ∧ allOut s pgTIN = false ∧ (rgOf s pgTIN n).cur = none ∧ mayTake s pgTIN n l = true ∧ tinCode s d = 0) ∧
    (let n : Nat := 0
     let l : Nat := 36
     let s : State := keySt kcLINK (ringSt pgTIN (dscB 6 3 0 0 0 0 0 0 0 0))
     let d : Dsc := headDsc s pgTIN n
     serving s pgTIN = true ∧ posted s pgTIN n = true ∧ d.opcode = toKEY_ERASE ∧ (rgOf s pgTIN n).done = [] ∧ allOut s pgTIN = false ∧ (rgOf s pgTIN n).cur = none ∧ mayTake s pgTIN n l = true ∧ tinCode s d = 0) ∧
    (let s : State := st [(pgTIN, 0x104, 0xF30)]
     clockStopped s pgTIN 0x108 = false) :=
  by
  iterate 10 refine ⟨by decide +kernel, ?_⟩
  decide +kernel

/-- States and operands that meet the hypotheses of EngineRingsAndKeysComplete, clause by clause; a variable that an equation of the statement defines is that. -/
theorem witness_EngineRingsAndKeysComplete :
    (let p : Nat := pgASY
     let n : Nat := 0
     let s : State := ringSt pgASY (dscB 1 3 0 0 0 0 0 0 0 0)
     ringThere p n = true ∧ pageExists p = true ∧ clockStopped s p (ringOff n 0x14) = false) ∧
    (let p : Nat := pgTIN
     let n : Nat := 0
     let s : State := rgPut pgTIN 0 { done := [tinRec {} 0 0 0 0 0 0], lane := some 36 } (ringSt pgTIN (dscB 6 3 0 0 0 0 0 0 0 0))
     ringThere p n = true ∧ (rgOf s p n).done ≠ [] ∧ inQ s = false) ∧
    (let p : Nat := pgASY
     let n : Nat := 0
     let v : W32 := 0x40000
     let s : State := ringSt pgASY (dscB 1 3 0 0 0 0 0 0 0 0)
     n < ringCount p ∧ pageExists p = true ∧ clockStopped s p (ringOff n 0x10) = false ∧ rgEn s p n = true ∧ bit v 0 = false ∧ bits v 19 16 = rdF s p (ringOff n 0x10) 19 16) ∧
    (let v : W32 := 0x10000
     let s : State := keySt kcAT_REST (st [(pgTIN, 0x044, 2)])
     let dom : Nat := bits v 21 16
     let g : Nat := 0
     let k : KSlot := slotK s (bits v 11 0)
     keygenBusy s = false ∧ alive s pgTIN = true ∧ (List.range 16).find? (fun g => !(genOf s 0 dom g).valid) = some g ∧ k.loaded = true ∧ k.cls = kcAT_REST ∧ currentGen s dom = none ∧ clockStopped s pgTIN 0x158 = false) ∧
    (let v : W32 := 0x10000
     let s : State := genPut 0 1 1 ⟨true, false, 9, 8⟩ (genPut 0 1 0 ⟨true, false, 7, 3⟩ (st [(pgTIN, 0x044, 2)]))
     let dom : Nat := bits v 21 16
     let g : Nat := 0
     let x : KGen := ⟨true, false, 7, 3⟩
     keygenBusy s = false ∧ alive s pgTIN = true ∧ oldestGen (gensOf s 0 dom) = some (g, x) ∧ (gensOf s 0 dom).length ≠ 1 ∧ clockStopped s pgTIN 0x158 = false) ∧
    (let s : State := { State.reset with tin := { State.reset.tin with cmd := some ⟨true, 1, 0, ⟨true, false, 7, 3⟩, true⟩ } }
     let c : KCmd := ⟨true, 1, 0, ⟨true, false, 7, 3⟩, true⟩
     s.tin.cmd = some c ∧ c.acked = true) ∧
    (let s : State := keySt kcLINK (st [(pgTIN, 0x044, 2)])
     alive s pgTIN = true) ∧
    (let sl : Nat := 0
     let s : State := (fun (t : State) => { t with tin := { t.tin with reqs := [(0, 36, 1)] } }) (keySt kcLINK State.reset)
     let x : KSlot := slotK s sl
     let r : Nat × Nat × Nat := (0, 36, 1)
     headReq s sl = some r ∧ x.loaded = true ∧ x.uses + r.2.2 ≤ x.limit ∧ ceiling s sl < x.uses + r.2.2) :=
  by
  iterate 7 refine ⟨by decide +kernel, ?_⟩
  decide +kernel

/-- States and operands that meet the hypotheses of EpochsComplete, clause by clause; a variable that an equation of the statement defines is that. -/
theorem witness_EpochsComplete :
    (let c : CkptRun := ⟨.empty, 3, 0, 0⟩
     let w : CkptWriter := { left := [], table := [], zones := [], idx := [], tree := (⟨[], [], []⟩ : PageTree) }
     let s : State := (fun s : State => slotKPut 0 { loaded := true, cls := kcXTS, key := zeros 64 } { s with ldg := { s.ldg with running := some ⟨.empty, 3, 0, 0⟩ }, pln := { s.pln with writer := some { left := [], table := [], zones := [], idx := [], tree := (⟨[], [], []⟩ : PageTree) } } }) (ldgSt [(pgPLN, 0x044, 2)])
     let p : PageTree := (((writeSpine w c s).1).getD ((⟨[], [], []⟩ : PageTree), 0, [])).1
     let n : Nat := (((writeSpine w c s).1).getD ((⟨[], [], []⟩ : PageTree), 0, [])).2.1
     let freed : List Nat := (((writeSpine w c s).1).getD ((⟨[], [], []⟩ : PageTree), 0, [])).2.2
     let t : State := (writeSpine w c s).2
     writeSpine w c s = (some (p, n, freed), t) ∧ s.ldg.running = some c ∧ s.pln.writer = some w ∧ ledgerOn s = true ∧ alive s pgPLN = true ∧ ckptOpen s w = false ∧ (ckptKey s).isSome = true) ∧
    (let s : State := ldgSt []
     ledgerLive s = true ∧ leader s = true ∧ pwrState s ≠ psP2) ∧
    (let v : W32 := 1
     let s : State := ldgSt []
     let t : State := commandWrite pgLDG 0x124 v s
     bit v 0 = true ∧ ledgerLive t = true) ∧
    (let s : State := (fun (s : State) => { s with ldg := { s.ldg with earlyReq := true } }) (ldgSt [])
     ledgerLive s = true ∧ leader s = true ∧ s.ldg.earlyReq = true) ∧
    (let s : State := ldgSt [(pgLDG, 0x108, 0)]
     let t : State := takeRx 0x21 s
     alive t pgLDG = true ∧ t.ldg.replayed = true ∧ leader t = false) ∧
    (let e : Nat := 6
     let s : State := ldgSt [(pgLDG, 0x108, 0)]
     let t : State := takeRx 0x21 s
     alive t pgLDG = true ∧ t.ldg.replayed = true ∧ epochOpen t < e) ∧
    (let s : State := pairSt []
     let t : State := takeRx 0x22 s
     ledgerLive t = true ∧ leader t = true ∧ live t pgLDG 2 = true) ∧
    (let e : Nat := 4
     let x : Ep := { closed := true }
     let s : State := epSt 4 { closed := true } (ldgSt [])
     drainingEpoch s = some (e, x) ∧ ledgerOn s = true ∧ x.drainStarted = false ∧ allHanded s e = true) ∧
    (let e : Nat := 4
     let x : Ep := { closed := true, drainStarted := true }
     let s : State := drainSt
     drainingEpoch s = some (e, x) ∧ ledgerOn s = true ∧ x.drainStarted = true ∧ drainBusy s e = false) ∧
    (let e : Nat := 4
     let s : State := pairSt []
     let t : State := takeRx 0x23 s
     alive t pgLDG = true ∧ t.ldg.replayed = true ∧ e < epochOpen t) ∧
    (let e : Nat := 4
     let s : State := epSt 4 { closed := true, drained := true } (ldgSt [])
     let t : State := (if (epOf s e).complete then s else completeEpoch e s)
     commitNext s = some e ∧ (epOf t e).written = false ∧ recsAcked t (epOf t e) = true) ∧
    (let e : Nat := 4
     let s : State := pairSt []
     let t : State := takeRx 0x24 s
     epochOpen t > e ∧ qstDown t = false ∧ inQ t = false) ∧
    (let e : Nat := 4
     let s : State := epSt 4 { closed := true, drained := true, complete := true, written := true } (pairSt [])
     let t : State := takeRx 0x25 s
     alive t pgLDG = true ∧ t.ldg.replayed = true ∧ e < epochOpen t ∧ commitNext t = some e ∧ (epOf t e).written = true) ∧
    (let i : LItem := ⟨none, .take 1 1 5, .other, 0⟩
     let r : List LItem := []
     let s : State := (fun (s : State) => { s with ldg := { s.ldg with inbox := [⟨none, .take 1 1 5, .other, 0⟩] } }) (ldgSt [])
     s.ldg.inbox = i :: r ∧ ledgerOn s = true) ∧
    (let ns : Nat := 1
     let sl : Nat := 0
     let n : Nat := 16
     let q : Nat := 3
     let e : Nat := 5
     let r : List (Nat × Nat × Nat × Nat × Nat) := []
     let s : State := (fun (s : State) => { s with ldg := { s.ldg with owned := [1], hints := [(1, 0, 16, 3, 5)] } }) (ldgSt [])
     s.ldg.hints = (ns, sl, n, q, e) :: r ∧ ledgerOn s = true ∧ owns { s with ldg := { s.ldg with hints := r } } ns = true) :=
  by
  refine ⟨⟨rfl, by decide +kernel⟩, ?_⟩
  iterate 13 refine ⟨by decide +kernel, ?_⟩
  decide +kernel

/-- States and operands that meet the hypotheses of JudgeAndSnapshotsComplete, clause by clause; a variable that an equation of the statement defines is that. -/
theorem witness_JudgeAndSnapshotsComplete :
    (let v : W32 := 3
     let s : State := { snapSt with ldg := { snapSt.ldg with armed := [(1, 7)] } }
     let t : State := commandWrite pgLDG 0x14C v s
     let ns : Nat := rdF t pgLDG 0x140 13 0
     let id : Nat := rdF t pgLDG 0x144 15 0
     let e : Option Nat := (deleteSnap ns id (rplSnapGone ns id t)).1
     let u : State := (deleteSnap ns id (rplSnapGone ns id t)).2
     deleteSnap ns id (rplSnapGone ns id t) = (e, u) ∧ snapBusy s = false ∧ bits v 3 0 = 3 ∧ live t pgLDG 0 = true ∧ ledgerLive t = true ∧ deleteCode t ns id = spDONE) ∧
    (let s : State := ldgSt [(pgLDG, 0x160, 0x10)]
     alive s pgLDG = true ∧ simplex s = false ∧ judgeBusy s = false ∧ coreSt s (1 - activeCore s) = 1) ∧
    (let u : Nat := 40
     let s : State := ldgSt [(pgLDG, 0x160, 0x50)]
     alive s pgLDG = true ∧ judgeBusy s = true ∧ u ≤ 400) ∧
    (let u : Nat := 400
     let s : State := ldgSt [(pgLDG, 0x160, 0x50)]
     alive s pgLDG = true ∧ judgeBusy s = true ∧ u ≤ 400) ∧
    (let u : Nat := 0
     let s : State := ldgSt [(pgLDG, 0x160, 0x50)]
     alive s pgLDG = true ∧ judgeBusy s = true ∧ u ≤ 400) ∧
    (let u : Nat := 300
     let s : State := ldgSt [(pgLDG, 0x160, 0x50)]
     alive s pgLDG = true ∧ judgeBusy s = true ∧ u ≤ 400) ∧
    (let v : W32 := 1
     let s : State := ldgSt [(pgLDG, 0x160, 0x08)]
     let t : State := commandWrite pgLDG 0x164 v s
     bit v 0 = true ∧ alive t pgLDG = true ∧ coreSt t 0 = 2 ∧ t.ldg.repairing = none) ∧
    (let v : W32 := 2
     let s : State := ldgSt [(pgLDG, 0x160, 0x20)]
     let t : State := commandWrite pgLDG 0x164 v s
     bit v 1 = true ∧ alive t pgLDG = true ∧ coreSt t 1 = 2 ∧ t.ldg.repairing = none) ∧
    (let c : Nat := 1
     let s : State := { State.reset with ldg := { State.reset.ldg with repairing := some 1 } }
     s.ldg.repairing = some c) ∧
    (let v : W32 := 1
     let s : State := snapSt
     let t : State := commandWrite pgLDG 0x14C v s
     let ns : Nat := rdF t pgLDG 0x140 13 0
     let id : Nat := rdF t pgLDG 0x144 15 0
     snapBusy s = false ∧ bits v 3 0 = 1 ∧ live t pgLDG 0 = true ∧ ledgerLive t = true ∧ takeCode t 0 (ns, id) = spDONE ∧ ((t.ldg.armed.any fun a => a.1 == ns) = true ∨ t.ldg.armed.length < 256)) ∧
    (let v : W32 := 2
     let s : State := snapSt
     let t : State := commandWrite pgLDG 0x14C v s
     let ns : Nat := rdF t pgLDG 0x140 13 0
     let id : Nat := rdF t pgLDG 0x144 15 0
     let ps : List (Nat × Nat) := (if t.ldg.armed = [] then [(ns, id)] else t.ldg.armed)
     snapBusy s = false ∧ bits v 3 0 = 2 ∧ live t pgLDG 0 = true ∧ ledgerLive t = true ∧ (∀ p ∈ ps, takeCode t (ps.length - 1) p = spDONE)) ∧
    (let v : W32 := 4
     let s : State := cloneSt
     let t : State := commandWrite pgLDG 0x14C v s
     let ns : Nat := rdF t pgLDG 0x140 13 0
     let id : Nat := rdF t pgLDG 0x144 15 0
     let c : Nat := rdF t pgLDG 0x148 13 0
     snapBusy s = false ∧ bits v 3 0 = 4 ∧ live t pgLDG 1 = true ∧ ledgerLive t = true ∧ cloneCode t ns id c = spDONE) ∧
    (let v : W32 := 5
     let s : State := snapSt
     let t : State := commandWrite pgLDG 0x14C v s
     snapBusy s = false ∧ bits v 3 0 = 5 ∧ live t pgLDG 0 = true ∧ ledgerLive t = true) ∧
    (let s : State := ldgSt []
     live s pgLDG 3 = true) ∧
    (let s : State := st [(pgLDG, 0x044, 1), (pgQST, 0x044, 2)]
     s.ldg.replayed = false ∧ s.ldg.ljWait = false ∧ pgState s pgLDG ≠ stOFF ∧ pgState s pgLDG ≠ stFAULT ∧ alive s pgQST = true ∧ (live s pgWDL 3 = false ∨ linkUp s = false) ∧ (replayOwn s).refsOk = true ∧ chainBroken s (replayOwn s) = false) ∧
    (let s : State := { ldgSt [] with wc := { Wc.reset with slots := [(3, { st := .ready, inq := true, epoch := 0, ns := 1 })] } }
     s.wc.restoring = true ∧ s.ldg.replayed = true) :=
  by
  refine ⟨⟨rfl, by decide +kernel⟩, ?_⟩
  iterate 14 refine ⟨by decide +kernel, ?_⟩
  decide +kernel

/-- States and operands that meet the hypotheses of HostIoCommandsComplete, clause by clause; a variable that an equation of the statement defines is that. -/
theorem witness_HostIoCommandsComplete :
    (let qp : Nat := 1
     let cid : Nat := 9
     let k : Cmd := cmdB (sqeB 1 2 8192 (zeros 8 ++ le 2 1)) []
     let is : List Nat := [0]
     let s : State := hqSt 1 (k)
     let t : State := ((wcAlloc 1 s).map (·.2)).getD s
     wcAlloc k.grains s = some (is, t) ∧ ioCmd s qp cid opWRITE = some k ∧ dispatching s = true ∧ checkNow s k = 0 ∧ heldBack s k = false ∧ yields s k = false ∧ sglCheck s k (k.declared s) = 0) ∧
    (let qp : Nat := 1
     let cid : Nat := 9
     let k : Cmd := cmdB (sqeB 8 2 0 (zeros 8 ++ le 2 1)) []
     let is : List Nat := [0]
     let s : State := hqSt 1 (k)
     let t : State := ((wcAlloc 1 s).map (·.2)).getD s
     wcAlloc k.grains s = some (is, t) ∧ ioCmd s qp cid opZEROES = some k ∧ dispatching s = true ∧ checkNow s k = 0 ∧ heldBack s k = false ∧ yields s k = false) ∧
    (let qp : Nat := 1
     let q : List Byte := sqeB 2 2 4096 []
     let i : List Byte := []
     let sq : Sq := ⟨5, 1, 8, 0⟩
     let s : State := hqSt 1 (cmdB (sqeB 2 2 8192 []) [])
     let t : State := { ({ s with xpt := { s.xpt with capsules := s.xpt.capsules.erase (qp, q ++ i) } } : State) with hq := { s.hq with sqs := Tab.put s.hq.sqs qp { sq with head := (sq.head + 1) % sq.depth } } }
     let c : Cmd := newCmd qp q i t
     let u : State := { ({ t with hq := { t.hq with cmds := t.hq.cmds ++ [c], seq := t.hq.seq + 1 } } : State) with wc := { t.wc with wseq := Nat.max t.wc.wseq c.wseq } }
     running s pgHQ = true ∧ inQ s = false ∧ pwrState s = psP0 ∧ Tab.find? s.hq.sqs qp = some sq ∧ opcodeOk u c = true ∧ c.verdict = 0) ∧
    (let qp : Nat := 1
     let cid : Nat := 9
     let k : Cmd := { cmdB (sqeB 1 2 8192 (zeros 8 ++ le 2 1)) [] with st := .executing, got := 8192, slots := [0] }
     let s : State := hqSt 1 k
     cmdFind s qp cid = some k ∧ k.st = .executing ∧ k.isWrite = true ∧ k.landed = false ∧ k.declared s ≤ k.got ∧ writePi s k = none) ∧
    (let qp : Nat := 1
     let cid : Nat := 9
     let k : Cmd := cmdB (sqeB 0 2 0 []) []
     let s : State := hqSt 1 (k)
     ioCmd s qp cid opFLUSH = some k ∧ dispatching s = true ∧ checkNow s k = 0 ∧ yields s k = false) ∧
    (let qp : Nat := 1
     let cid : Nat := 9
     let k : Cmd := cmdB (sqeB 12 2 0 (zeros 8 ++ le 2 1)) []
     let s : State := hqSt 1 (k)
     ioCmd s qp cid opVERIFY = some k ∧ dispatching s = true ∧ checkNow s k = 0 ∧ heldBack s k = false ∧ yields s k = false) ∧
    (let qp : Nat := 1
     let cid : Nat := 9
     let k : Cmd := cmdB (sqeB 2 2 8192 (zeros 8 ++ le 2 1)) []
     let s : State := hqSt 1 (k)
     ioCmd s qp cid opREAD = some k ∧ dispatching s = true ∧ checkNow s k = 0 ∧ heldBack s k = false ∧ yields s k = false ∧ sglCheck s k (k.declared s) = 0) ∧
    (let qp : Nat := 1
     let cid : Nat := 9
     let k : Cmd := cmdB (sqeB 5 2 8192 (zeros 8 ++ le 2 1)) []
     let j : Cmd := (cmdFind (bindAll k (charge k (hqSt 1 k))) 1 9).getD k
     let s : State := hqSt 1 (k)
     let t : State := sglExcess k (k.declared s) (bindAll k (charge k s))
     ioCmd s qp cid opCOMPARE = some k ∧ dispatching s = true ∧ checkNow s k = 0 ∧ heldBack s k = false ∧ yields s k = false ∧ sglCheck s k (k.declared s) = 0 ∧ cmdFind t qp cid = some j) ∧
    (let qp : Nat := 1
     let cid : Nat := 9
     let k : Cmd := cmdB (sqeB 9 2 16 []) []
     let s : State := hqSt 1 (k)
     ioCmd s qp cid opDSM = some k ∧ dispatching s = true ∧ checkNow s k = 0 ∧ heldBack s k = false ∧ yields s k = false ∧ sglCheck s k (k.hostBytes s) = 0) ∧
    (let qp : Nat := 1
     let cid : Nat := 9
     let k : Cmd := { cmdB (sqeB 9 2 16 []) (zeros 16) with st := .executing, got := 16 }
     let s : State := hqSt 1 k
     cmdFind s qp cid = some k ∧ k.opcode = opDSM ∧ isAdmin s k = false ∧ k.st = .executing ∧ k.hostBytes s ≤ k.got) ∧
    (let qp : Nat := 1
     let cid : Nat := 9
     let k : Cmd := cmdB (sqeB 0x55 2 16 []) []
     let s : State := hqSt 1 (k)
     cmdFind s qp cid = some k ∧ k.st = .queued ∧ opcodeOk s k = false ∧ dispatching s = true) :=
  by
  refine ⟨⟨rfl, by decide +kernel⟩, ⟨rfl, by decide +kernel⟩, ?_⟩
  iterate 8 refine ⟨by decide +kernel, ?_⟩
  decide +kernel

/-- States and operands that meet the hypotheses of HostAdminCommandsComplete, clause by clause; a variable that an equation of the statement defines is that. -/
theorem witness_HostAdminCommandsComplete :
    (let qp : Nat := 2
     let cid : Nat := 9
     let k : Cmd := connectCmd 0
     let s : State := hqSt 0 (k)
     adminCmd s qp cid 0x7F = some k ∧ k.fctype = 0x01 ∧ dispatching s = true ∧ k.verdict = 0 ∧ k.inCapsule = true ∧ k.f 42 2 = 0 ∧ k.f 44 2 ≠ 0 ∧ 1024 ≤ k.icData.length ∧ Tab.find? s.hq.sqs qp = none ∧ s.hq.sqs.length < maxSqs ∧ depthSum s + (k.f 44 2 + 1) ≤ maxDepth ∧ s.hq.ctrls.length < maxCtrls) ∧
    (let qp : Nat := 2
     let cid : Nat := 9
     let k : Cmd := connectCmd 1
     let c : Nat := field k.icData 16 2
     let x : Ctrl := { katoMs := 100 }
     let s : State := hqSt 0 (k)
     adminCmd s qp cid 0x7F = some k ∧ k.fctype = 0x01 ∧ dispatching s = true ∧ k.verdict = 0 ∧ k.inCapsule = true ∧ k.f 42 2 ≠ 0 ∧ k.f 44 2 ≠ 0 ∧ 1024 ≤ k.icData.length ∧ Tab.find? s.hq.sqs qp = none ∧ s.hq.sqs.length < maxSqs ∧ depthSum s + (k.f 44 2 + 1) ≤ maxDepth ∧ Tab.find? s.hq.ctrls c = some x ∧ (s.hq.sqs.any fun e => e.2.ctrl == c && e.2.qid == k.f 42 2) = false ∧ (s.hq.sqs.filter fun e => e.2.ctrl == c && e.2.qid != 0).length < maxIoQueues) ∧
    (let qp : Nat := 1
     let cid : Nat := 9
     let n : Nat := 5
     let k : Cmd := fabCmd 4 (le 4 0 ++ le 4 0x14)
     let x : Ctrl := { katoMs := 100 }
     let s : State := hqSt 0 (k)
     adminCmd s qp cid 0x7F = some k ∧ ctrlOf s qp = some (n, x) ∧ k.fctype = 0x04 ∧ dispatching s = true ∧ k.verdict = 0 ∧ k.f 44 4 = 0x14 ∧ k.f 40 1 % 8 ≠ 1) ∧
    (let qp : Nat := 1
     let cid : Nat := 9
     let n : Nat := 5
     let k : Cmd := fabCmd 0 (le 4 0 ++ le 4 0x14 ++ le 4 1)
     let x : Ctrl := { katoMs := 100 }
     let s : State := hqSt 0 (k)
     adminCmd s qp cid 0x7F = some k ∧ ctrlOf s qp = some (n, x) ∧ k.fctype = 0x00 ∧ dispatching s = true ∧ k.verdict = 0 ∧ k.f 44 4 = 0x14) ∧
    (let qp : Nat := 1
     let cid : Nat := 9
     let k : Cmd := fabCmd 8 []
     let s : State := hqSt 0 (k)
     adminCmd s qp cid 0x7F = some k ∧ k.fctype = 0x08 ∧ dispatching s = true ∧ k.verdict = 0) ∧
    (let qp : Nat := 1
     let cid : Nat := 9
     let k : Cmd := cmdB (sqeB 2 0 4096 []) []
     let s : State := hqSt 0 (k)
     adminCmd s qp cid 0x02 = some k ∧ dispatching s = true ∧ k.verdict = 0) ∧
    (let qp : Nat := 1
     let cid : Nat := 9
     let k : Cmd := cmdB (sqeB 6 0 4096 []) []
     let s : State := hqSt 0 (k)
     adminCmd s qp cid 0x06 = some k ∧ dispatching s = true ∧ k.verdict = 0) ∧
    (let qp : Nat := 1
     let cid : Nat := 9
     let k : Cmd := cmdB (sqeB 9 0 0 []) []
     let s : State := hqSt 0 k
     adminCmd s qp cid 0x09 = some k ∧ dispatching s = true ∧ k.verdict = 0 ∧ (k.inCapsule = true ∨ k.descs.isSome = false ∨ k.described = 0)) ∧
    (let qp : Nat := 1
     let cid : Nat := 9
     let k : Cmd := { cmdB (sqeB 9 0 4096 []) [] with st := .executing, got := 4096 }
     let s : State := hqSt 0 k
     pulled s qp cid 0x09 = some k) ∧
    (let qp : Nat := 2
     let cid : Nat := 9
     let k : Cmd := { connectCmd 0 with st := .executing, got := 1024 }
     let s : State := { hqSt 0 k with hq := { (hqSt 0 k).hq with sqs := [(2, ⟨5, 0, 8, 0⟩)] } }
     pulled s qp cid 0x7F = some k ∧ k.fctype = 0x01) ∧
    (let qp : Nat := 1
     let cid : Nat := 9
     let k : Cmd := cmdB (sqeB 10 0 4096 []) []
     let s : State := hqSt 0 (k)
     adminCmd s qp cid 0x0A = some k ∧ dispatching s = true ∧ k.verdict = 0) ∧
    (let qp : Nat := 1
     let cid : Nat := 9
     let k : Cmd := cmdB (sqeB 8 0 0 []) []
     let s : State := hqSt 0 (k)
     adminCmd s qp cid 0x08 = some k ∧ dispatching s = true ∧ k.verdict = 0) ∧
    (let qp : Nat := 1
     let cid : Nat := 9
     let n : Nat := 5
     let k : Cmd := cmdB (sqeB 12 0 0 []) []
     let x : Ctrl := { katoMs := 100 }
     let s : State := hqSt 0 (k)
     adminCmd s qp cid 0x0C = some k ∧ ctrlOf s qp = some (n, x) ∧ dispatching s = true ∧ k.verdict = 0 ∧ x.aer.length < 16 ∧ x.aePend = []) ∧
    (let qp : Nat := 1
     let cid : Nat := 9
     let k : Cmd := cmdB (sqeB 0x18 0 0 []) []
     let s : State := hqSt 0 (k)
     adminCmd s qp cid 0x18 = some k ∧ alive s pgHQ = true ∧ inQ s = false ∧ pwrState s = psP0) ∧
    (let v : W32 := 9
     let k : Cmd := { cmdB (sqeB 6 0 4096 []) [] with st := .firmware }
     let s : State := hqSt 0 k
     let t : State := commandWrite pgHQ 0x1AC v s
     let u : State := noteFeature k (bits v 31 17) (hostWrite k 0 (memRead t (rd64 t pgHQ 0x190).toNat (rd t pgHQ 0x198).toNat) t)
     firmwareCmd t (bits v 15 0) = some k ∧ cplHeld u = false) ∧
    (let n : Nat := 5
     let x : Ctrl := { katoMs := 100 }
     let s : State := hqSt 0 (cmdB (sqeB 6 0 4096 []) [])
     Tab.find? s.hq.ctrls n = some x ∧ x.katoMs ≠ 0 ∧ inQ s = false) :=
  by
  iterate 15 refine ⟨by decide +kernel, ?_⟩
  decide +kernel

/-- States and operands that meet the hypotheses of HoldAndQosComplete, clause by clause; a variable that an equation of the statement defines is that. -/
theorem witness_HoldAndQosComplete :
    (let v : W32 := 1
     let s : State := hqSt 0 (cmdB (sqeB 6 0 4096 []) [])
     bit (rd s pgHQ 0x104) 0 = false ∧ bit v 0 = true) ∧
    (let v : W32 := 0
     let s : State := wr pgHQ 0x104 1 (hqSt 0 (cmdB (sqeB 6 0 4096 []) []))
     bit (rd s pgHQ 0x104) 0 = true ∧ bit v 0 = false) ∧
    (let s : State := wr pgHQ 0x104 1 (hqSt 0 (cmdB (sqeB 6 0 4096 []) []))
     bit (rd s pgHQ 0x104) 0 = true) ∧
    (let s : State := hqSt 0 (cmdB (sqeB 6 0 4096 []) [])
     live s pgHQ 4 = true) ∧
    (let s : State := hqSt 0 (cmdB (sqeB 6 0 4096 []) [])
     live s pgHQ 4 = true) ∧
    (let v : W32 := 0x20003
     let s : State := wr pgHQ 0x12C 0x100010 (hqSt 0 (cmdB (sqeB 6 0 4096 []) []))
     let n : Nat := nsSel s
     let t : State := commandWrite pgHQ 0x120 v s
     let a : Nat := qosSum t n 31 16 v
     let b : Nat := qosSum t n 15 0 v
     a ≤ rdF t pgHQ 0x12C 31 16 ∧ b ≤ rdF t pgHQ 0x12C 15 0) ∧
    (let v : W32 := 1
     let w : W32 := BitVec.ofNat 32 (bits v 21 16 * 2 ^ 16 + bits v 5 2 * 4 + bits v 0 0)
     let s : State := hqSt 0 (cmdB (sqeB 6 0 4096 []) [])
     let n : Nat := nsSel s
     let t : State := commandWrite pgHQ 0x114 v s
     (nsOf t n).active = false ∧ bit w 0 = true) :=
  by
  iterate 6 refine ⟨by decide +kernel, ?_⟩
  decide +kernel

/-- States and operands that meet the hypotheses of ForgeIntakeCompletes, clause by clause; a variable that an equation of the statement defines is that. -/
theorem witness_ForgeIntakeCompletes :
    (let f : Nat := 0
     let q : Nat := 3
     let d : List Byte := slotData State.reset hd0.slot
     let p : List Byte := slotPi State.reset hd0.slot hd0.pif
     let g : FGrain := { h := { hd0 with crc := (crc32c (d ++ p)).toNat } }
     let s : State := frgSt g
     forging s f = true ∧ grainFind s f q = some g ∧ g.read = false ∧ g.refetch = false ∧ slotData s g.h.slot = d ∧ slotPi s g.h.slot g.h.pif = p ∧ (crc32c (d ++ p)).toNat = g.h.crc) ∧
    (let f : Nat := 0
     let q : Nat := 3
     let b : List Byte := (otherCopy State.reset { h := hd0 }).getD []
     let g : FGrain := { h := { hd0 with crc := (crc32c b).toNat }, refetch := true }
     let s : State := frgSt g
     forging s f = true ∧ grainFind s f q = some g ∧ g.refetch = true ∧ g.h.single = true ∧ otherCopy s g = some b ∧ (crc32c b).toNat = g.h.crc) ∧
    (let f : Nat := 0
     let b : List Byte := zeros 32
     let h : Handle := Handle.ofBytes b
     let s : State := slotPut 0 { st := .ready, lo := true, hi := true } (wr pgLDG 0x110 1 (wr pgWC 0x108 0 (wr pgWC 0x10C 0 (frgSt { h := hd0 }))))
     running s (pgFRG + f) = true ∧ inQ s = false ∧ bit (rd s (pgFRG + f) 0x104) 0 = false ∧ freePlaces s f ≠ 0 ∧ handleRsvd b = false ∧ h.epoch = forgeEpoch s f ∧ pickForge s = some f ∧ mayHand s h = true ∧ grainFind s f h.seq = none) ∧
    (let f : Nat := 0
     let q : Nat := 3
     let g : FGrain := { h := hd0 }
     let s : State := frgSt g
     forging s f = true ∧ grainFind s f q = some g ∧ g.read = false ∧ g.refetch = false ∧ g.h.single = true) ∧
    (let f : Nat := 0
     let q : Nat := 3
     let g : FGrain := { h := hd0, refetch := true }
     let s : State := frgSt g
     forging s f = true ∧ grainFind s f q = some g ∧ g.refetch = true) ∧
    (let v : W32 := 1
     let s : State := st []
     clockStopped s pgFRG 0x210 = false ∧ bit v 0 = true) ∧
    (let s : State := st []
     let r : RegDef := (regAt pgFRG 0x224).get (by decide)
     clockStopped s pgFRG 0x224 = false ∧ regAt pgFRG 0x224 = some r ∧ locked s pgFRG 3 = false) :=
  by
  refine ⟨⟨by decide +kernel, rfl, by decide +kernel, by decide +kernel, rfl, rfl, rfl⟩, ⟨by decide +kernel, rfl, by decide +kernel, by decide +kernel, rfl, rfl⟩, ?_⟩
  iterate 4 refine ⟨by decide +kernel, ?_⟩
  decide +kernel

/-- States and operands that meet the hypotheses of IndexLookupsComplete, clause by clause; a variable that an equation of the statement defines is that. -/
theorem witness_IndexLookupsComplete :
    (let f : Nat := 0
     let q : Nat := 3
     let g : FGrain := { h := hd0, look := .asked, fp := zeros 32 }
     let s : State := frgSt g
     forging s f = true ∧ grainFind s f q = some g ∧ g.look = .asked ∧ alive s pgASY = true ∧ pagesThere s g.fp = true) ∧
    (let f : Nat := 0
     let q : Nat := 3
     let g : FGrain := { h := hd0, look := .pend, fp := zeros 32 }
     let s : State := frgSt g
     let t : State := hallmark 0x1104 f [pw g.h.domain, pw (field g.fp 0 4), pw (field g.fp 4 4)] (bump (pgFRG + f) 0x154 1 s)
     forging s f = true ∧ grainFind s f q = some g ∧ g.look = .pend ∧ matchEnt t g = none) ∧
    (let f : Nat := 0
     let q : Nat := 3
     let p : Nat := 0
     let g : FGrain := { h := hd0, look := .page, fp := zeros 32 }
     let s : State := wr pgFRG 0x200 0x101 (frgSt g)
     alive s pgASY = true ∧ f < 16 ∧ grainFind s f q = some g ∧ g.look = .page ∧ (idxPages s g.fp).1 = p) ∧
    (let f : Nat := 0
     let q : Nat := 3
     let g : FGrain := { h := hd0, look := .asked, fp := zeros 32 }
     let s : State := frgSt g
     forging s f = true ∧ grainFind s f q = some g ∧ g.asking = true) ∧
    (let f : Nat := 0
     let q : Nat := 3
     let n : Nat := 4
     let a : W64 := 77
     let g : FGrain := { h := hd0, look := .cand 77 4, fp := zeros 32 }
     let s : State := { frgSt g with drp := { State.reset.drp with answers := [(3, some ([], []))] } }
     forging s f = true ∧ grainFind s f q = some g ∧ g.look = .cand a n ∧ Tab.find? s.drp.answers (f * 256 + q) = some (some (g.data, g.pi))) ∧
    (let f : Nat := 0
     let q : Nat := 3
     let n : Nat := 4
     let a : W64 := 77
     let d : List Byte := [1]
     let p : List Byte := []
     let g : FGrain := { h := hd0, look := .cand 77 4, fp := zeros 32 }
     let s : State := { frgSt g with drp := { State.reset.drp with answers := [(3, some ([1], []))] } }
     forging s f = true ∧ grainFind s f q = some g ∧ g.look = .cand a n ∧ Tab.find? s.drp.answers (f * 256 + q) = some (some (d, p)) ∧ (d ≠ g.data ∨ p ≠ g.pi)) ∧
    (let f : Nat := 0
     let q : Nat := 3
     let n : Nat := 4
     let a : W64 := 77
     let g : FGrain := { h := hd0, look := .cand 77 4, fp := zeros 32 }
     let s : State := frgSt g
     forging s f = true ∧ grainFind s f q = some g ∧ g.look = .cand a n) :=
  by
  iterate 6 refine ⟨by decide +kernel, ?_⟩
  decide +kernel

/-- States and operands that meet the hypotheses of SealsAndHandInsComplete, clause by clause; a variable that an equation of the statement defines is that. -/
theorem witness_SealsAndHandInsComplete :
    (let f : Nat := 0
     let h : HandIn := { kind := 1, forge := 0, epoch := 0, ns := 1, grain := 2 }
     let s : State := inSt 0 { kind := 1, forge := 0, epoch := 0, ns := 1, grain := 2 }
     let t : State := ((takeIn h.kind f s).map (·.2)).getD s
     takeIn hiBODY f s = some (h, t) ∧ f ≠ 16) ∧
    (let h : HandIn := { kind := 1, forge := 16, epoch := 0, ns := 1, grain := 2 }
     let s : State := inSt 16 { kind := 1, forge := 16, epoch := 0, ns := 1, grain := 2 }
     let t : State := ((takeIn hiBODY 16 s).map (·.2)).getD s
     takeIn hiBODY 16 s = some (h, t)) ∧
    (let s : State := (fun s : State => slotKPut 0 { loaded := true, cls := kcXTS, key := zeros 64 } { s with ing := { s.ing with cast := [{ ingot := 4, epoch := 5, reloc := false, ckpt := true, cls := 0, k := 1, m := 0, kk := 1, billets := [⟨hoCKPT, 0, false⟩] }] }, ldg := { s.ldg with running := some ⟨.empty, 3, 0, 0⟩ }, pln := { s.pln with writer := some { left := [((PageId.zones 3 0).pid, [])], table := [], zones := [], idx := [], tree := (⟨[], [], []⟩ : PageTree) } } }) (wr pgPLN 0x044 2 inSt0)
     let h : HandIn := ((takeIn hiBODY 16 (ckptPost s)).map (·.1)).getD { kind := 0, forge := 0, epoch := 0 }
     let t : State := ((takeIn hiBODY 16 (ckptPost s)).map (·.2)).getD s
     takeIn hiBODY 16 (ckptPost s) = some (h, t) ∧ ingOn s = true ∧ Tab.getD s.frg.outs [] 16 = []) ∧
    (let f : Nat := 0
     let h : HandIn := { kind := 2, forge := 0, epoch := 0, ns := 1, grain := 2 }
     let s : State := inSt 0 { kind := 2, forge := 0, epoch := 0, ns := 1, grain := 2 }
     let t : State := ((takeIn h.kind f s).map (·.2)).getD s
     takeIn hiREF f s = some (h, t)) ∧
    (let f : Nat := 0
     let h : HandIn := { kind := 3, forge := 0, epoch := 0, ns := 1, grain := 2 }
     let s : State := inSt 0 { kind := 3, forge := 0, epoch := 0, ns := 1, grain := 2 }
     let t : State := ((takeIn h.kind f s).map (·.2)).getD s
     takeIn hiZERO f s = some (h, t)) ∧
    (let f : Nat := 0
     let h : HandIn := { kind := 4, forge := 0, epoch := 0, ns := 1, grain := 2 }
     let s : State := inSt 0 { kind := 4, forge := 0, epoch := 0, ns := 1, grain := 2 }
     let t : State := ((takeIn h.kind f s).map (·.2)).getD s
     takeIn hiSLAG f s = some (h, t)) ∧
    (let f : Nat := 0
     let h : HandIn := { kind := 5, forge := 0, epoch := 0, len16 := 4 }
     let s : State := inSt 0 { kind := 5, forge := 0, epoch := 0, len16 := 4 }
     let t : State := ((takeIn h.kind f s).map (·.2)).getD s
     takeIn hiCULL f s = some (h, t)) ∧
    (let f : Nat := 0
     let q : Nat := 3
     let k : Nat := 0
     let g : FGrain := { h := hd0, look := .queued, sealing := .running 0 }
     let s : State := fwinPut 0 ((List.range 32).map fun i => ({ h := { hd0 with seq := i + 4 }, look := .asked } : FGrain)) (frgSt g) |> fun s => fwinPut 0 (fwinOf s 0 ++ [g]) s
     let t : State := frgTurn f s
     forging s f = true ∧ (grainFind s f q).isSome = true ∧ grainFind t f q = some g ∧ g.sealing = .running k ∧ g.look = .queued) ∧
    (let f : Nat := 0
     let s : State := frgSt { h := hd0, sealing := .billet }
     forging s f = true) ∧
    (let h : Nat := 0
     let c : Casting := { ingot := 4, epoch := 0, reloc := false, cls := 0, k := 8, m := 2, kk := 8 }
     let s : State := { wr pgING 0x044 2 (frgSt { h := hd0, sealing := .billet }) with ing := { State.reset.ing with cast := [{ ingot := 4, epoch := 0, reloc := false, cls := 0, k := 8, m := 2, kk := 8 }] } }
     running s pgING = true ∧ inQ s = false ∧ (billetOf s h).isNone = true ∧ wantsBillet s h = true ∧ billetSource s h (if 16 ≤ h then epochOpen s else forgeEpoch s h) = some c) ∧
    (let s : State := wr pgPWR 0x104 0x80000001 State.reset
     exiting s = true ∧ inQ s = false) :=
  by
  refine ⟨⟨rfl, by decide +kernel⟩, rfl, ⟨rfl, by decide +kernel⟩, rfl, rfl, rfl, rfl, ?_⟩
  iterate 3 refine ⟨by decide +kernel, ?_⟩
  decide +kernel

/-- States and operands that meet the hypotheses of MirrorWritesComplete, clause by clause; a variable that an equation of the statement defines is that. -/
theorem witness_MirrorWritesComplete :
    (let i : Nat := 3
     let c : Cmd := { cmdB (sqeB 1 2 8192 (zeros 8 ++ le 2 1)) [] with wseq := 4, got := 8192 }
     let s : State := (fun s : State => { s with hq := { s.hq with cmds := [{ cmdB (sqeB 1 2 8192 (zeros 8 ++ le 2 1)) [] with wseq := 4, got := 8192 }] } }) (wcSt { st := .landing, lo := true, hi := true, wseq := 4 } {} [])
     let x : Slot := slotOf s i
     slotCmd s x = some c ∧ x.st = .landing ∧ slotLanded s x = true ∧ x.lo = true ∧ x.hi = true) ∧
    (let s : State := wcSt {} {} []
     let t : State := takeRx 0x01 s
     running t pgWC = true ∧ inQ t = false) ∧
    (let i : Nat := 3
     let s : State := wcSt { st := .held } {} []
     let x : Slot := slotOf s i
     x.st = .held) ∧
    (let i : Nat := 3
     let s : State := wcSt { st := .held } {} []
     let t : State := takeRx 0x03 s
     (slotOf t i).st = .held) ∧
    (let i : Nat := 3
     let s : State := wcSt { st := .held } {} [(pgWC, 0x100, 0x30000)]
     let x : Slot := slotOf s i
     x.st = .held ∧ x.mirrored = false ∧ mirroring s = true ∧ x.resends < rdF s pgWC 0x100 19 16) ∧
    (let i : Nat := 3
     let s : State := wcSt { st := .held } {} [(pgWC, 0x100, 0)]
     let x : Slot := slotOf s i
     x.st = .held ∧ x.mirrored = false ∧ mirroring s = true ∧ rdF s pgWC 0x100 19 16 ≤ x.resends) ∧
    (let i : Nat := 3
     let s : State := wcSt { st := .held, whole := true, mirrored := true } {} []
     let x : Slot := slotOf s i
     readyOk s x = true) ∧
    (let i : Nat := 5
     let s : State := wcSt {} { st := .held } []
     let t : State := takeRx 0x04 s
     (mirOf t i).st = .held) ∧
    (let i : Nat := 5
     let s : State := wcSt {} { st := .held } []
     let t : State := takeRx 0x05 s
     (mirOf t i).st = .held ∨ (mirOf t i).st = .ready) ∧
    (let e : Nat := 6
     let s : State := { wcSt {} { st := .ready, epoch := 6 } [] with ldg := { State.reset.ldg with peerRecords := [6] } }
     let t : State := takeRx 0x06 s
     t.ldg.peerRecords.contains e = true) ∧
    (let i : Nat := 3
     let s : State := (fun s : State => { s with ldg := { s.ldg with img := { s.ldg.img with map := [(0, { mapped := true })] } } }) (wcSt { st := .ready, hi := true } {} [])
     missing (slotOf s i) = some 0 ∧ (slotOf s i).st = .ready ∧ (liveEntry s.ldg.img (slotOf s i).ns (slotOf s i).grain).mapped = true ∧ (liveEntry s.ldg.img (slotOf s i).ns (slotOf s i).grain).zero = false) :=
  by
  iterate 10 refine ⟨by decide +kernel, ?_⟩
  decide +kernel

/-- States and operands that meet the hypotheses of HoldEnergyAndBudgetComplete, clause by clause; a variable that an equation of the statement defines is that. -/
theorem witness_HoldEnergyAndBudgetComplete :
    (let i : Nat := 3
     let s : State := { wcSt {} {} [] with wc := { (wcSt { st := .held } {} []).wc with single := true } }
     let x : Slot := slotOf s i
     x.st = .held ∧ x.inq = false ∧ s.wc.single = true ∧ pgState s pgQST ≠ stFAULT ∧ inQ s = false) ∧
    (let v : W32 := 1
     let s : State := wcSt {} {} [(pgWDL, 0x108, 0x3), (pgWDL, 0x154, 0)]
     let t : State := commandWrite pgWC 0x118 v s
     bit v 0 = true ∧ linkUp t = true ∧ tstate t = tsPAIRED ∧ live t pgWC 0 = true) ∧
    (let s : State := wcSt {} {} [(pgWC, 0x11C, 0x100)]
     bit (rd s pgWC 0x11C) 8 = true) ∧
    (let s : State := wcSt {} {} []
     alive s pgWC = true) ∧
    (let s : State := wcSt {} {} []
     live s pgWC 2 = true ∧ inQ s = false ∧ pwrState s = psP0 ∧ bit (rd s pgWC 0x168) 0 = false) ∧
    (let v : W32 := 1
     let s : State := wcSt {} {} []
     let t : State := commandWrite pgWC 0x16C v s
     bit v 0 = true ∧ live t pgWC 2 = true ∧ inQ t = false ∧ pwrState t = psP0 ∧ bit (rd t pgWC 0x168) 0 = false) ∧
    (let u : Nat := 51200
     let s : State := wcSt {} {} [(pgWC, 0x168, 1), (pgWC, 0x140, 128)]
     let d : Nat := u * rdF s pgWC 0x140 15 0 / 256
     bit (rd s pgWC 0x168) 0 = true ∧ d ≠ 0) ∧
    (let s : State := (fun s : State => { s with ldg := { s.ldg with peerTaken := true } }) { wcSt {} {} [] with wc := { (wcSt {} {} []).wc with adopting := true } }
     s.wc.adopting = true ∧ s.ldg.peerTaken = true) ∧
    (let s : State := { wcSt {} {} [] with wc := { (wcSt {} {} []).wc with single := true, catchup := [3] } }
     s.wc.single = true) :=
  by
  iterate 8 refine ⟨by decide +kernel, ?_⟩
  decide +kernel

/-- States and operands that meet the hypotheses of QuenchAndRestoreComplete, clause by clause; a variable that an equation of the statement defines is that. -/
theorem witness_QuenchAndRestoreComplete :
    (let n : Nat := 3
     let s : State := wcSt {} {} []
     1 ≤ n ∧ n ≤ 5 ∧ inQ s = false) ∧
    (let u : Nat := 5
     let s : State := wcSt {} {} [(pgAON, 0x044, 2), (pgWC, 0x14C, 700)]
     alive s pgAON = true ∧ u < rdF s pgWC 0x14C 10 0 * 1000 ∧ inQ s = false) ∧
    (let s : State := { wcSt {} {} [] with aon := { State.reset.aon with resetN := true, rails := true } }
     s.aon.resetN = true ∧ s.aon.rails = true) ∧
    (let s : State := quSt .dir
     s.wc.step = .dir) ∧
    (let s : State := quSt .data
     s.wc.step = .data) ∧
    (let s : State := quSt .done
     s.wc.step = .done) ∧
    (let s : State := { wcSt {} {} [] with wc := Wc.reset }
     let c : CtrlRead := readCtrl s
     s.wc.restoring = true ∧ alive s pgQST = true ∧ c.flags.testBit 0 = false) ∧
    (let s : State := { ldgSt [] with wc := Wc.reset }
     s.wc.restoring = true ∧ s.ldg.replayed = true ∧ (s.wc.slots.any fun e => mustDiscard s e.2 || (e.2.inq && e.2.aside)) = false) :=
  by
  iterate 7 refine ⟨by decide +kernel, ?_⟩
  decide +kernel

/-- States and operands that meet the hypotheses of CastingCompletes, clause by clause; a variable that an equation of the statement defines is that. -/
theorem witness_CastingCompletes :
    (let n : Nat := 4
     let c : Casting := cast0
     let s : State := ingSt { Ing.reset with cast := [cast0] } []
     castingOf s n = some c ∧ ingOn s = true ∧ c.casting = false ∧ allIn c = true ∧ c.billets.isEmpty = false ∧ ingotFull c = true) ∧
    (let n : Nat := 4
     let c : Casting := cast0
     let s : State := ingSt { Ing.reset with cast := [cast0] } []
     castingOf s n = some c ∧ ingOn s = true ∧ c.casting = false ∧ allIn c = true ∧ c.billets.isEmpty = false ∧ ingotFull c = true) ∧
    (let s : State := ingSt Ing.reset []
     let t : State := takeRx 0x11 s
     qstDown t = false ∧ inQ t = false) ∧
    (let s : State := ingSt Ing.reset []
     let t : State := takeRx 0x12 s
     qstDown t = false ∧ inQ t = false) ∧
    (let j : Nat := 3
     let r : List Byte := le 1 0x10 ++ zeros 255
     let s : State := ingSt Ing.reset []
     let t : State := takeRx 0x13 s
     let u : State := mirrorPut j r t
     qstDown t = false ∧ inQ t = false ∧ t.ldg.mirrorJseq ≤ j ∧ field r 0 1 = 0x10 ∧ Tab.find? u.ldg.mirrorSpan (field r 8 6) = none) ∧
    (let j : Nat := 1
     let e : SjEntry := ⟨1, 4, 1, false, 0, []⟩
     let s : State := { ingSt { Ing.reset with sj := [⟨1, 4, 1, false, 0, []⟩] } [(pgWC, 0x100, 0x30000)] with wc := { Wc.reset with single := false } }
     (s.ing.sj.find? fun e => e.jseq == j && !e.written) = some e ∧ inPair s = true ∧ e.resends < rdF s pgWC 0x100 19 16) ∧
    (let n : Nat := 4
     let m : Nat := 0
     let a : App := app0
     let c : Casting := { cast0 with casting := true }
     let s : State := ingSt { Ing.reset with cast := [{ cast0 with casting := true }], appends := [app0] } []
     let t : State := chunkDone a.loc (dropAppend a s)
     issuedApp s n m (some (a.loc.chunk * 64)) = some a ∧ inQ s = false ∧ castingOf t n = some c) ∧
    (let n : Nat := 4
     let m : Nat := 0
     let l : Nat := 0
     let a : App := app0
     let s : State := ingSt { Ing.reset with cast := [{ cast0 with casting := true }], appends := [app0] } []
     issuedApp s n m (some l) = some a ∧ inQ s = false ∧ l ≠ a.loc.chunk * 64) ∧
    (let n : Nat := 4
     let m : Nat := 0
     let a : App := app0
     let s : State := ingSt { Ing.reset with cast := [{ cast0 with casting := true }], appends := [app0] } []
     issuedApp s n m none = some a ∧ inQ s = false) ∧
    (let s : State := ingSt { Ing.reset with cast := [{ cast0 with casting := true, failed := [0] }] } []
     ingOn s = true) ∧
    (let s : State := ingSt Ing.reset []
     s.ldg.replayed = true ∧ s.ing.resolved = false ∧ ((sjSlots s qSJ).filter fun k => (sjCopy s qSJ k).isNone && (Tab.find? s.ing.fetched k).isNone) = []) :=
  by
  iterate 10 refine ⟨by decide +kernel, ?_⟩
  decide +kernel

/-- States and operands that meet the hypotheses of EjectsAndRebuildsComplete, clause by clause; a variable that an equation of the statement defines is that. -/
theorem witness_EjectsAndRebuildsComplete :
    (let n : Nat := 4
     let as : Answers := []
     let a : Attempt := att0
     let s : State := ingSt { Ing.reset with attempts := [att0] } []
     let t : State := (survivors s (ingotAt s n)).foldl (fun z i => answered ((ingotAt s n).members.getD i {}).module z) s
     let x : Ingot := ingotAt t n
     let u : State := as.foldl (fun s y => modPut (x.members.getD y.1 {}).module { modOf s (x.members.getD y.1 {}).module with readErr := min ((modOf s (x.members.getD y.1 {}).module).readErr + y.2.2.length) 0xFFFFFFFF } s) t
     let ls : List Loc := ((grantChunks (pmodOf u (x.members.getD 0 {}).module).cls (rebuildSet x as).length (x.members.map (·.module)) u).1).getD []
     let b : Attempt := { a with set := rebuildSet x as, locs := ls, old := ((rebuildSet x as).map fun i => x.members.getD i {}).filter fun l => !l.lost, data := (rebuildSet x as).map (rebuiltChunk x as), slagRows := slagRowsOf x as, ext := extentsOf n x as }
     let v : State := (grantChunks (pmodOf u (x.members.getD 0 {}).module).cls (rebuildSet x as).length (x.members.map (·.module)) u).2
     let w : State := ((sjWrite 3 n x.cast ((rebuildSet x as).foldl (fun w i => w + 2 ^ i) 0) (attemptEntry v b ls) v).map (·.2)).getD s
     let j : Nat := ((sjWrite 3 n x.cast ((rebuildSet x as).foldl (fun w i => w + 2 ^ i) 0) (attemptEntry v b ls) v).map (·.1)).getD 0
     grantChunks (pmodOf u (x.members.getD 0 {}).module).cls (rebuildSet x as).length (x.members.map (·.module)) u = (some ls, v) ∧ sjWrite 3 n x.cast ((rebuildSet x as).foldl (fun w i => w + 2 ^ i) 0) (attemptEntry v b ls) v = some (j, w) ∧ readingAttempt s n = some a ∧ (as.all fun y => (survivors s (ingotAt s n)).contains y.1) = true ∧ ((survivors s (ingotAt s n)).all fun i => as.any fun y => y.1 == i) = true ∧ decodable (ingotAt s n) as = true ∧ sjRoom s = true ∧ readingAttempt t n = some a) ∧
    (let d : Nat := 0
     let a : Nat := 1
     let b : Nat := 9
     let g : Nat := 0
     let r : RReq := rq0
     let s : State := { ingSt Ing.reset [(pgING, 0x114, 0x4000)] with drp := { State.reset.drp with reqs := [rq0] } }
     let m : Nat := ((ingotAt s (glocIngot r.entry.gloc)).members.getD (bodyMember r.entry.gloc) {}).module
     let t : State := startRecon d r rcDETOUR (bump (pgDRP + d) 0x150 1 s)
     let y : Mod := modOf t m
     let ts : List Nat := ((y.times ++ [t.time.toNat]).filter fun x => decide (t.time.toNat ≤ x + 1000000))
     let u : State := modPut m { y with times := ts, detours := min (y.detours + 1) 0xFFFFFFFF } t
     reqFind s d a b g = some r ∧ ingOn s = true ∧ live s pgING 2 = true ∧ r.recon = none ∧ r.entry.gloc ≠ 0 ∧ ((modOf s m).st ≠ .slowHeld ∨ (ingotAt s (glocIngot r.entry.gloc)).lostN < (ingotAt s (glocIngot r.entry.gloc)).m) ∧ ts.length < rdF u pgING 0x114 15 12) ∧
    (let m : Nat := 0
     let s : State := ingSt { Ing.reset with mods := [(0, { st := .active, asked := some 0 })] } []
     ingOn s = true ∧ (modOf s m).asked.isSome = true) ∧
    (let v : W32 := 1
     let s : State := ingSt { Ing.reset with mods := [(3, { st := .active })] } [(pgING, 0x160, 3)]
     let t : State := commandWrite pgING 0x168 v s
     clockStopped s pgING 0x168 = false ∧ bit v 0 = true ∧ rdF t pgING 0x160 6 0 < 96) ∧
    (let m : Nat := 3
     let s : State := ingSt { Ing.reset with mods := [(3, { st := .slowHeld, deferred := 2 })] } []
     ingOn s = true ∧ (modOf s m).st = .slowHeld ∧ ejectBlocked s m = false) ∧
    (let s : State := ingSt { Ing.reset with mods := [(3, { st := .active })] } []
     ingOn s = true) ∧
    (let s : State := ingSt { Ing.reset with retired := [(4, { st := .degraded, k := 1, m := 1, members := [{}, {}] })] } []
     ingOn s = true ∧ live s pgING 1 = true) ∧
    (let s : State := rebSt
     let n : Nat := 4
     let q : Nat := queueOf rebSt 4
     let x : Ingot := ingotAt s n
     let spare : Nat := (if bit (rd s pgING 0x140) 18 then x.k + x.m else 2 * (rdF s pgING 0x100 21 16 + rdF s pgING 0x100 2 0))
     let qs : List (List Nat) := [[], [], [], [], []]
     ingOn s = true ∧ live s pgING 1 = true ∧ (s.ing.attempts.filter fun a => !a.move).length < rdF s pgING 0x118 4 0 ∧ nextRebuild s = some (n, q, qs) ∧ x.st = .degraded ∧ queueOf s n = q ∧ live s pgING 5 = false ∧ x.k + x.m + spare ≤ poolFree s ∧ (survivors s x).length * 262144 ≤ s.ing.bucket) ∧
    (let n : Nat := 4
     let a : Attempt := { att0 with move := true, jent := some 1 }
     let j : Nat := 1
     let s : State := ingSt { Ing.reset with attempts := [{ att0 with move := true, jent := some 1 }] } []
     let x : Ingot := tableAt s n
     (s.ing.attempts.find? fun a => a.ingot == n && a.passed.isNone) = some a ∧ a.jent = some j ∧ (s.ing.appends.any fun p => p.ingot == n) = false ∧ x.st ≠ .dead) ∧
    (let s : State := slagSt
     alive s pgLDG = true ∧ live s pgING 4 = true ∧ extentsPending s ≠ [] ∧ s.ldg.sweep = none ∧ (s.ldg.img.map.filter fun x => meetsExtent (extentsPending s) x.2) = [] ∧ (s.ldg.img.ret.filter fun x => meetsExtent (extentsPending s) x.2) = []) ∧
    (let s : State := { slagSt with ldg := { slagSt.ldg with sweep := some ([], 0) } }
     let es : List SlagEntry := []
     let n : Nat := 0
     s.ldg.sweep = some (es, n)) :=
  by
  refine ⟨⟨rfl, rfl, by decide +kernel⟩, ?_⟩
  iterate 9 refine ⟨by decide +kernel, ?_⟩
  decide +kernel

/-- States and operands that meet the hypotheses of ModulesAndZonesComplete, clause by clause; a variable that an equation of the statement defines is that. -/
theorem witness_ModulesAndZonesComplete :
    (let p : Nat := 3
     let s : State := flxSt {} {} [(pgPLN, 0x044, 0)]
     portOn s p = true ∧ (flashOctets s p).any (patterned s) = false ∧ pgState s pgPLN = stOFF) ∧
    (let v : W32 := 1
     let s : State := flxSt { st := .new, zones := 2, cap := 4 } {} [(pgPLN, 0x110, 3)]
     let t : State := commandWrite pgPLN 0x128 v s
     bit v 0 = true ∧ (pmodOf t (rdF t pgPLN 0x110 6 0)).st = .new ∧ alive t pgPLN = true ∧ namesModule t (rdF t pgPLN 0x110 6 0) = false) ∧
    (let v : W32 := 2
     bit v 1 = true) ∧
    (let p : Nat := 3
     let s : State := flxSt { st := .member } {} []
     portOn s p = true) ∧
    (let p : Nat := 3
     let s : State := (fun s : State => { s with pln := { s.pln with down := [3] } }) (flxSt { st := .member } {} [])
     portOn s p = true ∧ s.pln.down.contains p = true) ∧
    (let p : Nat := 3
     let s : State := flxSt { st := .member } {} []
     portOn s p = true ∧ live s (pgFLX + p) 0 = true) ∧
    (let m : Nat := 3
     let off : List Nat := []
     let worn : List Nat := []
     let s : State := flxSt { st := .member, zones := 2, cap := 4 } {} []
     let t : State := (off.filter fun z => decide (z < (pmodOf s m).zones) && ownZone s (zoneKey m z)).foldl (fun s z => zoneOffline (zoneKey m z) 1 s) s
     let u : State := (worn.filter fun z => decide (z < (pmodOf s m).zones) && ownZone s (zoneKey m z)).foldl (fun s z => zoneWorn (zoneKey m z) s) t
     alive s pgPLN = true ∧ live s pgPLN 2 = true ∧ live u pgPLN 1 = true ∧ rdF u pgPLN 0x100 22 16 * (pmodOf u m).total ≤ ((pmodOf u m).zones - offlineZones u m) * 100) ∧
    (let m : Nat := 3
     let z : Nat := 0
     let s : State := zonePut (zoneKey 3 0) { st := .resetting } (flxSt { st := .member, zones := 2, cap := 4 } {} [])
     (zoneOf s (zoneKey m z)).st = .resetting) ∧
    (let m : Nat := 3
     let z : Nat := 0
     let s : State := zonePut (zoneKey 3 0) { st := .resetting } (flxSt { st := .member, zones := 2, cap := 4 } {} [])
     (zoneOf s (zoneKey m z)).st = .resetting) ∧
    (let z : Nat := 12884901888
     let s : State := flxSt { st := .member, zones := 2, cap := 4 } {} []
     let t : State := takeRx 0x15 s
     z % 2 = headId t) ∧
    (let s : State := (fun s : State => { s with ing := { s.ing with resolved := true } }) (flxSt {} {} [])
     s.ldg.replayed = true ∧ s.ing.resolved = true) ∧
    (let m : Nat := 3
     let op : Nat := 1
     let s : State := flxSt { st := .member } { st := .active, asked := some 4 } []
     portOn s m = true ∧ (modOf s m).st ≠ .ejected ∧ op ≠ 3) ∧
    (let m : Nat := 3
     let s : State := flxSt { st := .member } { st := .active, asked := some 4 } []
     portOn s m = true ∧ (modOf s m).st ≠ .ejected) ∧
    (let p : Nat := 3
     let s : State := flxSt { st := .member } {} [(pgFLX + 3, 0x108, 0x200)]
     portOn s p = true ∧ rdF s (pgFLX + p) 0x108 10 8 ≠ 0) ∧
    (let p : Nat := 3
     let s : State := flxSt { st := .member } {} []
     portOn s p = true) ∧
    (let p : Nat := 3
     let s : State := flxSt { st := .member } {} []
     portOn s p = true) ∧
    (let p : Nat := 3
     let s : State := flxSt { st := .member } {} []
     portOn s p = true ∧ live s (pgFLX + p) 1 = true) :=
  by
  iterate 16 refine ⟨by decide +kernel, ?_⟩
  decide +kernel

/-- States and operands that meet the hypotheses of AnnealAndSpineComplete, clause by clause; a variable that an equation of the statement defines is that. -/
theorem witness_AnnealAndSpineComplete :
    (let n : Nat := 4
     let m : Nat := 0
     let d : List Byte := []
     let s : State := { annSt with resOwn := [3, 4] }
     let x : Ingot := ingotAt s n
     let l : Loc := x.members.getD m {}
     let a : Loc := (((grantChunks (pmodOf s l.module).cls 1 (x.members.map (·.module)) s).1).getD []).headD {}
     let t : State := (grantChunks (pmodOf s l.module).cls 1 (x.members.map (·.module)) s).2
     let j : Nat := ((sjWrite 3 n x.cast (2 ^ m) (setMember m a (tableAt t n)) t).map (·.1)).getD 0
     let u : State := ((sjWrite 3 n x.cast (2 ^ m) (setMember m a (tableAt t n)) t).map (·.2)).getD s
     grantChunks (pmodOf s l.module).cls 1 (x.members.map (·.module)) s = (some [a], t) ∧ sjWrite 3 n x.cast (2 ^ m) (setMember m a (tableAt t n)) t = some (j, u) ∧ annealing s = true ∧ annealRoom s = true ∧ x.st = .live ∧ m < x.members.length ∧ mayMove s l = true ∧ sjRoom s = true ∧ (s.ing.attempts.any fun a => a.ingot == n) = false ∧ d.length ≤ s.anl.bucket) ∧
    (let s : State := annSt
     annealing s = true) ∧
    (let n : Nat := 4
     let s : State := (fun s : State => { s with anl := { s.anl with handed := [4] }, ing := { s.ing with retired := [(4, { st := .live, k := 1, m := 0, members := [{ module := 4 }] })] } }) annSt
     let t : State := toLedger (openItem (.setState .relocating n)) s
     let u : State := (t.frg.idx.flatMap fun p => (p.2.filter fun e => !e.pending && glocIngot e.gloc == n).map fun e => (p.1, e)).foldl (fun s e => idxSet e.1 e.2 { e.2 with moving := true } s) t
     annealing s = true ∧ annealRoom s = true ∧ mayRelocate s n = true ∧ claimable s n = true ∧ (Tab.getD u.ldg.img.rosters {} n).full = false) ∧
    (let n : Nat := 4
     let g : W64 := 16
     let b : List Byte := zeros 16
     let s : State := (fun s : State => { s with anl := { s.anl with bucket := 100, jobs := [{ ingot := 4, claim := 0, copying := true, left := [16] }] } }) annSt
     let j : Job := { ingot := 4, claim := 0, copying := true, left := [16] }
     (s.anl.jobs.find? fun j => j.ingot == n) = some j ∧ annealing s = true ∧ j.claim ≤ epochCommitted s ∧ j.copying = true ∧ j.left.contains g = true ∧ b.length ≤ s.anl.bucket) ∧
    (let v : W32 := 1
     let s : State := annSt
     let t : State := commandWrite pgANL 0x128 v s
     bit (rd s pgANL 0x12C) 0 = false ∧ bit v 0 = true ∧ live t pgANL 3 = true) ∧
    (let s : State := ingSt Ing.reset [(pgANL, 0x12C, 1)]
     annealing s = true ∧ rekeyOn s = true ∧ rekeyLeft s = false) ∧
    (let pid : Nat := 2 ^ 56 + 3
     let e : PageEnt := ⟨64, 128, 192, 0, 1⟩
     let s : State := (fun s : State => { s with pln := { s.pln with tree := ⟨[(2 ^ 56 + 3, ⟨64, 128, 192, 0, 1⟩)], [], []⟩ } }) (st [])
     s.pln.tree.spineOf pid = some e) ∧
    (let m : Nat := 3
     let s : State := flxSt { st := .member } {} []
     portOn s m = true ∧ tstate s ≠ tsFENCED) :=
  by
  refine ⟨⟨rfl, rfl, by decide +kernel⟩, ?_⟩
  iterate 6 refine ⟨by decide +kernel, ?_⟩
  decide +kernel

/-- States and operands that meet the hypotheses of ReadsAndOpeningsComplete, clause by clause; a variable that an equation of the statement defines is that. -/
theorem witness_ReadsAndOpeningsComplete :
    (let d : Nat := 0
     let q : Nat := 1
     let i : Nat := 9
     let g : Nat := 0
     let n : Nat := 0
     let s : State := mapSt
     let c : Cmd := { cmdB (sqeB 2 2 4096 []) [] with st := .executing, bound := true, binds := [(0, .map me0 0)], got := 4096 }
     let e : MapEntry := me0
     let t : State := mapSt
     rcLookup e s = (none, t) ∧ cmdFind s q i = some c ∧ isAdmin s c = false ∧ c.opcode = 2 ∧ drawing s d = true ∧ c.st = .executing ∧ c.bound = true ∧ (s.drp.reqs.find? fun r => r.a == q && r.b == i && r.grain == g && r.kind == 1) = none ∧ pickDrp s = some d ∧ (c.binds.find? fun b => b.1 == g) = some (g, .map e n) ∧ e.mapped = true ∧ e.zero = false ∧ glocSlag e.gloc = false) ∧
    (let d : Nat := 0
     let q : Nat := 1
     let i : Nat := 9
     let g : Nat := 0
     let n : Nat := 0
     let s : State := rdSt 2 (.map {} 0)
     let c : Cmd := { cmdB (sqeB 2 2 4096 []) [] with st := .executing, bound := true, binds := [(0, .map {} 0)], got := 4096 }
     let e : MapEntry := {}
     cmdFind s q i = some c ∧ isAdmin s c = false ∧ c.opcode = 2 ∧ drawing s d = true ∧ c.st = .executing ∧ c.bound = true ∧ (s.drp.reqs.find? fun r => r.a == q && r.b == i && r.grain == g && r.kind == 1) = none ∧ pickDrp s = some d ∧ (c.binds.find? fun b => b.1 == g) = some (g, .map e n) ∧ e.mapped = e.zero ∧ e.zero = false) ∧
    (let d : Nat := 0
     let q : Nat := 1
     let i : Nat := 9
     let g : Nat := 0
     let s : State := rdSt 12 .zero
     let c : Cmd := { cmdB (sqeB 12 2 4096 []) [] with st := .executing, bound := true, binds := [(0, .zero)], got := 4096 }
     cmdFind s q i = some c ∧ isAdmin s c = false ∧ c.opcode = 12 ∧ drawing s d = true ∧ c.st = .executing ∧ c.bound = true ∧ (s.drp.reqs.find? fun r => r.a == q && r.b == i && r.grain == g && r.kind == 2) = none ∧ pickDrp s = some d ∧ (c.binds.find? fun b => b.1 == g) = some (g, .zero)) ∧
    (let d : Nat := 0
     let q : Nat := 1
     let i : Nat := 9
     let g : Nat := 0
     let s : State := rdSt 5 .zero
     let c : Cmd := { cmdB (sqeB 5 2 4096 []) [] with st := .executing, bound := true, binds := [(0, .zero)], got := 4096 }
     cmdFind s q i = some c ∧ isAdmin s c = false ∧ c.opcode = 5 ∧ drawing s d = true ∧ c.st = .executing ∧ c.bound = true ∧ c.declared s ≤ c.got ∧ (s.drp.reqs.find? fun r => r.a == q && r.b == i && r.grain == g && r.kind == 3) = none ∧ pickDrp s = some d ∧ (c.binds.find? fun b => b.1 == g) = some (g, .zero)) ∧
    (let f : Nat := 0
     let q : Nat := 3
     let l : Nat := 4
     let a : W64 := 16
     let s : State := wr pgDRP 0x044 2 (frgSt { h := hd0, look := .cand 16 4 })
     let g : FGrain := { h := hd0, look := .cand 16 4 }
     grainFind s f q = some g ∧ g.look = .cand a l ∧ drawing s f = true ∧ reqFind s f f q g.h.grain = none ∧ Tab.find? s.drp.answers (f * 256 + q) = none ∧ castBody s a = none) ∧
    (let d : Nat := 0
     let q : Nat := 9 * 2 ^ 56
     let l : W64 := gloc 4 16 0
     let s : State := (fun s : State => { s with pln := { s.pln with tree := ⟨[(9 * 2 ^ 56, { loc0 := gloc 4 16 0 })], [], []⟩ } }) (st [(pgDRP, 0x044, 2)])
     drawing s d = true ∧ s.pln.tree.isAt q l = true ∧ live s (pgDRP + d) 0 = false) ∧
    (let d : Nat := 0
     let a : Nat := 1
     let b : Nat := 9
     let g : Nat := 0
     let s : State := drwSt rq0
     let r : RReq := rq0
     reqFind s d a b g = some r ∧ r.recon = none ∧ r.entry.gloc ≠ 0) ∧
    (let d : Nat := 0
     let a : Nat := 1
     let b : Nat := 9
     let g : Nat := 0
     let s : State := drwSt rq0
     let r : RReq := rq0
     reqFind s d a b g = some r ∧ r.recon = none ∧ r.entry.gloc ≠ 0) ∧
    (let d : Nat := 0
     let a : Nat := 1
     let b : Nat := 9
     let g : Nat := 0
     let k : Nat := 5
     let n : List (Nat × List Byte) := []
     let s : State := (fun s : State => { s with ing := { s.ing with retired := [(0, { st := .live, k := 1, m := 1, members := [{}, {}] })] } }) (drwSt { rq0 with recon := some 5, asked := [1] })
     let r : RReq := { rq0 with recon := some 5, asked := [1] }
     let x : Ingot := ingotAt s (glocIngot r.entry.gloc)
     let o : List Nat := r.asked.filter (fun j => !(r.got.map (·.1)).contains j)
     let t : State := o.foldl (fun s j => answered (x.members.getD j {}).module s) s
     let ok : List (Nat × List Byte) := r.got ++ n.filter (fun y => o.contains y.1 && y.2.length == bodyRows r.entry.gloc r.entry.len16 * 4096)
     reqFind s d a b g = some r ∧ r.recon = some k ∧ ok.length + (((helpers t x (bodyMember r.entry.gloc)).filter fun j => !r.asked.contains j).take (x.k - ok.length)).length < x.k) ∧
    (let q : Nat := 1
     let i : Nat := 9
     let g : Nat := 0
     let s : State := drwSt rq0
     let r : RReq := rq0
     (s.drp.reqs.find? fun r => r.a == q && r.b == i && r.grain == g && r.kind != 5) = some r) ∧
    (let v : W32 := 1
     let s : State := drwSt rq0
     clockStopped s pgDRP 0x214 = false ∧ bit v 0 = true) ∧
    (let d : Nat := 0
     let g : Nat := 2
     let s : State := srcSt { st := .shipping, running := true, work := [⟨1, 1, 1, 0, 1, { gloc := 16, mapped := true, len16 := 4 }⟩] }
     let r : DRec := ⟨1, 1, 1, 0, 1, { gloc := 16, mapped := true, len16 := 4 }⟩
     sourceOn s g = true ∧ drawing s d = true ∧ (grpOf s g).st = .shipping ∧ (grpOf s g).work.head? = some r ∧ r.kind = 1 ∧ fits s g r = true) :=
  by
  refine ⟨⟨rfl, by decide +kernel⟩, ?_⟩
  iterate 10 refine ⟨by decide +kernel, ?_⟩
  decide +kernel

/-- States and operands that meet the hypotheses of PortsAndFramesComplete, clause by clause; a variable that an equation of the statement defines is that. -/
theorem witness_PortsAndFramesComplete :
    (let v : W32 := 1
     let s : State := st []
     let r : RegDef := (regAt pgNET 0x100).getD ⟨0, .word, false, .always, []⟩
     ((List.range 16).all fun n => pgState s (pgNET + n) == stOFF) = true ∧ modeOctets (bits v 2 0) ≤ 32 - rdF s pgFLX 0x100 4 0 ∧ regAt pgNET 0x100 = some r ∧ locked s pgNET 3 = false) ∧
    (let n : Nat := 0
     let f : Frame := frm0 (.roce { qpn := 0x10001, opcode := 0x81 })
     let k : RPkt := { qpn := 0x10001, opcode := 0x81 }
     let s : State := netSt { st := .rts, attr := attr0 } [(pgNET, 0x104, 9216), (pgNET, 0x128, 1)]
     let t : State := bump64 (portPage s n) 0x180 f.bytes.length s
     let q : Nat := framePrio f
     running s (portPage s n) = true ∧ n < netPorts s ∧ f.kind = .roce k ∧ k.ce = false ∧ k.qpn ≠ 1 ∧ f.fcsOk = true ∧ 64 ≤ f.bytes.length ∧ f.bytes.length ≤ rdF t (portPage s n) 0x104 13 0 ∧ macOk t n f = true ∧ vlanOk t n f = true ∧ ipOk t n f = true ∧ lossless t n q = false) ∧
    (let n : Nat := 0
     let f : Frame := frm0 .arp
     let s : State := netSt { st := .rts, attr := attr0 } [(pgNET, 0x104, 9216), (pgNET, 0x128, 1)]
     let t : State := bump64 (portPage s n) 0x180 f.bytes.length s
     running s (portPage s n) = true ∧ n < netPorts s ∧ f.kind = .arp ∧ f.fcsOk = true ∧ 64 ≤ f.bytes.length ∧ f.bytes.length ≤ rdF t (portPage s n) 0x104 13 0 ∧ macOk t n f = true ∧ vlanOk t n f = true ∧ ipOk t n f = true ∧ lossless t n (framePrio f) = false) ∧
    (let v : W32 := 0
     let s : State := netSt {} []
     let t : State := wrF pgXPT 0x140 31 16 (bits v 31 16) s
     alive t pgXPT = true ∧ inQ t = false) ∧
    (let n : Nat := 0
     let q : Nat := 0
     let s : State := (fun s : State => { s with net := { s.net with xoff := [0] } }) (netSt {} [])
     s.net.xoff.contains (pprio n q) = true ∧ alive s (portPage s n) = true) ∧
    (let n : Nat := 0
     let q : Nat := 0
     let k : Nat := 5
     let s : State := pauSt 1
     let t : State := bump (portPage s n) 0x1A0 1 { s with net := { s.net with pauseAt := Tab.put s.net.pauseAt (pprio n q) s.time } }
     let u : State := prioBit n 8 q true t
     running s (portPage s n) = true ∧ lossless t n q = true ∧ stormed t n q = false ∧ k ≠ 0 ∧ Tab.find? u.net.pausedAt (pprio n q) = none) ∧
    (let n : Nat := 0
     let q : Nat := 0
     let s : State := pauSt 0x101
     let t : State := bump (portPage s n) 0x1A0 1 { s with net := { s.net with pauseAt := Tab.put s.net.pauseAt (pprio n q) s.time } }
     running s (portPage s n) = true ∧ lossless t n q = true ∧ stormed t n q = false) ∧
    (let n : Nat := 0
     let q : Nat := 0
     let s : State := pauSt 0x101
     paused s n q = true) ∧
    (let n : Nat := 0
     let q : Nat := 0
     let s : State := (fun s : State => { s with time := 1000000, net := { s.net with pausedAt := Tab.put s.net.pausedAt (pprio 0 0) 0 } }) (pauSt 0x101)
     paused s n q = true ∧ live s (portPage s n) 1 = true ∧ wdogPast s n (Tab.find? s.net.pausedAt (pprio n q)) = true) ∧
    (let n : Nat := 0
     let q : Nat := 0
     let s : State := (fun s : State => { s with time := 1000000, net := { s.net with pauseAt := Tab.put s.net.pauseAt (pprio 0 0) 0 } }) (pauSt 0x10101)
     stormed s n q = true ∧ wdogPast s n (Tab.find? s.net.pauseAt (pprio n q)) = true) ∧
    (let n : Nat := 0
     let s : State := netSt {} []
     alive s (portPage s n) = true ∧ n < netPorts s ∧ (netOctets s n).any (patterned s) = false) ∧
    (let n : Nat := 0
     let s : State := pauSt 1
     bit (nrd s n 0x178) 0 = true) :=
  by
  iterate 11 refine ⟨by decide +kernel, ?_⟩
  decide +kernel

/-- States and operands that meet the hypotheses of PacketsComplete, clause by clause; a variable that an equation of the statement defines is that. -/
theorem witness_PacketsComplete :
    (let n : Nat := 0
     let i : Nat := 1
     let p : RPkt := { qpn := 0x10001, opcode := 4, payload := [1, 2, 3] }
     let s : State := netSt { st := .rts, attr := attr0.set 11 0x11010, rxBufs := 1 } []
     let t : State := takeArrival n p s
     let u : State := touch i t
     let q : Qp := qpOf t i
     leftWaiting s p = false ∧ inQ t = false ∧ alive t pgXPT = true ∧ p.icrcOk = true ∧ p.pkey = 0xFFFF ∧ qpIndex p.qpn = some i ∧ resident t i = true ∧ opcodeKnown (qpOf t i) p.opcode = true ∧ q.st = .rts ∧ psnCase q p.psn = .expected ∧ q.rx = none ∧ p.opcode = 4 ∧ q.rxBufs ≠ 0 ∧ p.payload.length ≤ rxBufBytes u) ∧
    (let n : Nat := 0
     let i : Nat := 1
     let p : RPkt := { qpn := 0x10001, opcode := 10, va := 0x1000, len := 3, payload := [1, 2, 3] }
     let s : State := netSt { st := .rts, attr := attr0 } []
     let t : State := takeArrival n p s
     let u : State := touch i t
     let q : Qp := qpOf t i
     leftWaiting s p = false ∧ inQ t = false ∧ alive t pgXPT = true ∧ p.icrcOk = true ∧ p.pkey = 0xFFFF ∧ qpIndex p.qpn = some i ∧ resident t i = true ∧ opcodeKnown (qpOf t i) p.opcode = true ∧ q.st = .rts ∧ psnCase q p.psn = .expected ∧ q.rx = none ∧ p.opcode = 10 ∧ p.payload.length = p.len ∧ accessOk u q accWRITE p.rkey p.va p.len = true) ∧
    (let n : Nat := 0
     let i : Nat := 1
     let p : RPkt := { qpn := 0x10001, opcode := 12, va := 0x1000, len := 3 }
     let s : State := netSt { st := .rts, attr := attr0 } []
     let t : State := takeArrival n p s
     let u : State := touch i t
     let q : Qp := qpOf t i
     leftWaiting s p = false ∧ inQ t = false ∧ alive t pgXPT = true ∧ p.icrcOk = true ∧ p.pkey = 0xFFFF ∧ qpIndex p.qpn = some i ∧ resident t i = true ∧ opcodeKnown (qpOf t i) p.opcode = true ∧ q.st = .rts ∧ psnCase q p.psn = .expected ∧ q.rx = none ∧ q.respQ.length < q.attrF 0x2C 1 ∧ accessOk u q accREAD p.rkey p.va p.len = true) ∧
    (let n : Nat := 0
     let i : Nat := 1
     let p : RPkt := { qpn := 0x10001, opcode := 16, payload := [1, 2, 3, 4] }
     let s : State := netSt { st := .rts, attr := attr0, unacked := [tx0 .read] } []
     let t : State := takeArrival n p s
     let q : Qp := qpOf t i
     let x : XTx := tx0 .read
     leftWaiting s p = false ∧ inQ t = false ∧ alive t pgXPT = true ∧ p.icrcOk = true ∧ p.pkey = 0xFFFF ∧ qpIndex p.qpn = some i ∧ resident t i = true ∧ opcodeKnown (qpOf t i) p.opcode = true ∧ q.st = .rts ∧ (q.unacked.find? fun t => t.msg.kind == .read && t.has p.psn) = some x ∧ x.got = 0 ∧ x.taken = 0 ∧ psnDiff p.psn x.psn = 0 ∧ p.payload.length = x.msg.len ∧ p.opcode = 16) ∧
    (let n : Nat := 0
     let i : Nat := 1
     let p : RPkt := { qpn := 0x10001, opcode := 17, syndrome := 0x1F }
     let s : State := netSt { st := .rts, attr := attr0, unacked := [tx0 .send] } []
     let t : State := takeArrival n p s
     let q : Qp := qpOf t i
     leftWaiting s p = false ∧ inQ t = false ∧ alive t pgXPT = true ∧ p.icrcOk = true ∧ p.pkey = 0xFFFF ∧ qpIndex p.qpn = some i ∧ resident t i = true ∧ opcodeKnown (qpOf t i) p.opcode = true ∧ q.st = .rts ∧ (q.unacked.any fun t => t.has p.psn) = true ∧ p.opcode = 17 ∧ p.syndrome = 0x1F) ∧
    (let n : Nat := 0
     let i : Nat := 1
     let p : RPkt := { qpn := 0x10001, opcode := 17, syndrome := 0x60 }
     let s : State := netSt { st := .rts, attr := attr0, unacked := [tx0 .send] } []
     let t : State := takeArrival n p s
     let u : State := ackMark i (psnAdd p.psn (2 ^ 24 - 1)) (touch i t)
     let q : Qp := qpOf t i
     leftWaiting s p = false ∧ inQ t = false ∧ alive t pgXPT = true ∧ p.icrcOk = true ∧ p.pkey = 0xFFFF ∧ qpIndex p.qpn = some i ∧ resident t i = true ∧ opcodeKnown (qpOf t i) p.opcode = true ∧ q.st = .rts ∧ (q.unacked.any fun t => t.has p.psn) = true ∧ p.opcode = 17 ∧ p.syndrome = 0x60 ∧ (qpOf u i).timeouts < retryLimit u (qpOf u i)) ∧
    (let n : Nat := 0
     let i : Nat := 1
     let p : RPkt := { qpn := 0x10001, opcode := 17, syndrome := 0x21 }
     let s : State := netSt { st := .rts, attr := attr0, unacked := [tx0 .send] } []
     let t : State := takeArrival n p s
     let q : Qp := qpOf t i
     leftWaiting s p = false ∧ inQ t = false ∧ alive t pgXPT = true ∧ p.icrcOk = true ∧ p.pkey = 0xFFFF ∧ qpIndex p.qpn = some i ∧ resident t i = true ∧ opcodeKnown (qpOf t i) p.opcode = true ∧ q.st = .rts ∧ (q.unacked.any fun t => t.has p.psn) = true ∧ q.rnrTries < q.rnrRetry) ∧
    (let n : Nat := 0
     let i : Nat := 1
     let p : RPkt := { qpn := 0x10001, opcode := 19, va := 0x10000000000, swap := 7 }
     let s : State := (fun s : State => { s with msys := { s.msys with trained := [(pgMEMD, 0x4000)] } }) (netSt { st := .rts, attr := attr0 } [(pgMEMD, 0x100, 4)])
     let t : State := takeArrival n p s
     let u : State := touch i t
     let q : Qp := qpOf t i
     leftWaiting s p = false ∧ inQ t = false ∧ alive t pgXPT = true ∧ p.icrcOk = true ∧ p.pkey = 0xFFFF ∧ qpIndex p.qpn = some i ∧ resident t i = true ∧ opcodeKnown (qpOf t i) p.opcode = true ∧ q.st = .rts ∧ psnCase q p.psn = .expected ∧ q.rx = none ∧ q.respQ.length < q.attrF 0x2C 1 ∧ accessOk u q accATOMIC p.rkey p.va 8 = true ∧ p.va % 8 = 0 ∧ region u p.va = some .ddr ∧ p.opcode = 19) ∧
    (let n : Nat := 0
     let i : Nat := 1
     let p : RPkt := { qpn := 0x10001, opcode := 20, va := 0x10000000000, swap := 7 }
     let s : State := (fun s : State => { s with msys := { s.msys with trained := [(pgMEMD, 0x4000)] } }) (netSt { st := .rts, attr := attr0 } [(pgMEMD, 0x100, 4)])
     let t : State := takeArrival n p s
     let u : State := touch i t
     let q : Qp := qpOf t i
     leftWaiting s p = false ∧ inQ t = false ∧ alive t pgXPT = true ∧ p.icrcOk = true ∧ p.pkey = 0xFFFF ∧ qpIndex p.qpn = some i ∧ resident t i = true ∧ opcodeKnown (qpOf t i) p.opcode = true ∧ q.st = .rts ∧ psnCase q p.psn = .expected ∧ q.rx = none ∧ q.respQ.length < q.attrF 0x2C 1 ∧ accessOk u q accATOMIC p.rkey p.va 8 = true ∧ p.va % 8 = 0 ∧ region u p.va = some .ddr ∧ p.opcode = 20) ∧
    (let n : Nat := 0
     let i : Nat := 1
     let p : RPkt := { qpn := 0x10001, opcode := 0xC1, psn := 1, va := 4096, len := 4099, idx := 1, cnt := 2, payload := [1, 2, 3] }
     let s : State := netSt { st := .rts, attr := attr0, scatter := 7, sp := [⟨0, 0xC1, 2, 4099, 0, 0, 0, [], [], 0⟩] } []
     let t : State := takeArrival n p s
     let u : State := touch i t
     let q : Qp := qpOf t i
     let m : SpRx := ⟨0, 0xC1, 2, 4099, 0, 0, 0, [], [], 0⟩
     leftWaiting s p = false ∧ inQ t = false ∧ alive t pgXPT = true ∧ p.icrcOk = true ∧ p.pkey = 0xFFFF ∧ qpIndex p.qpn = some i ∧ resident t i = true ∧ opcodeKnown (qpOf t i) p.opcode = true ∧ q.st = .rts ∧ q.scatterLive 0 = true ∧ spSelfOk q p = true ∧ (q.sp.find? fun m => m.msgId == p.msgId) = some m ∧ spAgrees q m p = true ∧ m.got.contains p.idx = false ∧ p.opcode = 0xC1 ∧ accessOk u q accWRITE p.rkey p.va p.payload.length = true) ∧
    (let n : Nat := 0
     let i : Nat := 1
     let p : RPkt := { qpn := 0x10001, opcode := 0xC0, psn := 1, va := 4096, len := 4099, idx := 1, cnt := 2, payload := [1, 2, 3] }
     let s : State := netSt { st := .rts, attr := attr0, scatter := 7, sp := [⟨0, 0xC0, 2, 4099, 0, 0, 0, [], [], 0⟩] } []
     let t : State := takeArrival n p s
     let q : Qp := qpOf t i
     let m : SpRx := ⟨0, 0xC0, 2, 4099, 0, 0, 0, [], [], 0⟩
     leftWaiting s p = false ∧ inQ t = false ∧ alive t pgXPT = true ∧ p.icrcOk = true ∧ p.pkey = 0xFFFF ∧ qpIndex p.qpn = some i ∧ resident t i = true ∧ opcodeKnown (qpOf t i) p.opcode = true ∧ q.st = .rts ∧ q.scatterLive 1 = true ∧ spSelfOk q p = true ∧ (q.sp.find? fun m => m.msgId == p.msgId) = some m ∧ spAgrees q m p = true ∧ m.got.contains p.idx = false ∧ p.opcode = 0xC0) ∧
    (let n : Nat := 0
     let i : Nat := 1
     let p : RPkt := { qpn := 0x10001, opcode := 0xC2, psn := 1, va := 4096, len := 4099, idx := 1, cnt := 2, payload := [1, 2, 3] }
     let s : State := netSt { st := .rts, attr := attr0, scatter := 7, sp := [⟨0, 0xC2, 2, 4099, 0, 0, 0, [], [], 0⟩] } []
     let t : State := takeArrival n p s
     let q : Qp := qpOf t i
     let m : SpRx := ⟨0, 0xC2, 2, 4099, 0, 0, 0, [], [], 0⟩
     leftWaiting s p = false ∧ inQ t = false ∧ alive t pgXPT = true ∧ p.icrcOk = true ∧ p.pkey = 0xFFFF ∧ qpIndex p.qpn = some i ∧ resident t i = true ∧ opcodeKnown (qpOf t i) p.opcode = true ∧ q.st = .rts ∧ q.scatterLive 2 = true ∧ spSelfOk q p = true ∧ (q.sp.find? fun m => m.msgId == p.msgId) = some m ∧ spAgrees q m p = true ∧ m.got.contains p.idx = false ∧ p.opcode = 0xC2) ∧
    (let n : Nat := 0
     let i : Nat := 1
     let p : RPkt := { qpn := 0x10001, opcode := 0xC3, payload := zeros 8 ++ le 8 1 }
     let s : State := netSt { st := .rts, attr := attr0, scatter := 7, unacked := [tx0 .spWrite] } []
     let t : State := takeArrival n p s
     let q : Qp := qpOf t i
     let x : XTx := tx0 .spWrite
     leftWaiting s p = false ∧ inQ t = false ∧ alive t pgXPT = true ∧ p.icrcOk = true ∧ p.pkey = 0xFFFF ∧ qpIndex p.qpn = some i ∧ resident t i = true ∧ opcodeKnown (qpOf t i) p.opcode = true ∧ q.st = .rts ∧ q.scatterAny = true ∧ (q.unacked.find? fun t => (t.msg.kind == .spWrite || t.msg.kind == .spSend) && t.msgId == field p.payload 0 3) = some x) ∧
    (let n : Nat := 0
     let i : Nat := 1
     let p : RPkt := { qpn := 0x10001, opcode := 0x81 }
     let s : State := netSt { st := .rts, attr := attr0, rate := 1000 } []
     let t : State := takeArrival n p s
     let q : Qp := qpOf t i
     leftWaiting s p = false ∧ inQ t = false ∧ alive t pgXPT = true ∧ p.icrcOk = true ∧ p.pkey = 0xFFFF ∧ qpIndex p.qpn = some i ∧ resident t i = true ∧ opcodeKnown (qpOf t i) p.opcode = true ∧ q.st = .rts ∧ live t pgXPT 3 = true ∧ cutRecently t q = false) :=
  by
  iterate 13 refine ⟨by decide +kernel, ?_⟩
  decide +kernel

/-- States and operands that meet the hypotheses of QueuePairsAndWindowsComplete, clause by clause; a variable that an equation of the statement defines is that. -/
theorem witness_QueuePairsAndWindowsComplete :
    (let n : Nat := 2
     let s : State := netSt {} []
     let t : State := (makeResident n s).getD s
     makeResident n s = some t ∧ alive s pgXPT = true ∧ resident s n = false) ∧
    (let n : Nat := 1
     let k : Nat := 0
     let s : State := netSt { st := .rts, attr := attr0, scatter := 7, sp := [⟨0, 0xC1, 2, 4099, 0, 0, 0, [1], [], 0⟩] } [(pgXPT, 0x114, 0x30000)]
     let q : Qp := qpOf s n
     let m : SpRx := ⟨0, 0xC1, 2, 4099, 0, 0, 0, [1], [], 0⟩
     (q.sp.find? fun m => m.msgId == k && m.got.length != m.cnt) = some m ∧ m.naks < rdF s pgXPT 0x114 18 16 ∧ inQ s = false) ∧
    (let n : Nat := 1
     let s : State := netSt { st := .rts, attr := attr0, unacked := [tx0 .send] } []
     let q : Qp := qpOf s n
     q.st = .rts ∧ q.unacked ≠ [] ∧ paused s q.port q.prio = false ∧ inQ s = false ∧ q.cautious = false ∧ q.timeouts < q.retry) ∧
    (let n : Nat := 1
     let s : State := netSt { st := .rts, attr := attr0, stage := 6, rate := 1000, target := 3000 } []
     let q : Qp := qpOf s n
     q.st = .rts ∧ live s pgXPT 3 = true ∧ cutRecently s q = false) ∧
    (let n : Nat := 2
     let s : State := netSt {} []
     alive s pgXPT = true ∧ resident s n = false) ∧
    (let v : W32 := 1
     let s : State := netSt {} []
     let t : State := commandWrite pgXPT 0x148 v s
     let i : Nat := qpSel t
     running t pgXPT = true ∧ (qpOf t i).st = .reset) ∧
    (let v : W32 := 2
     let s : State := netSt { st := .init } [(pgXPT, 0x18C, 0x1F050000), (pgXPT, 0x1A8, 0x77010000), (pgXPT, 0x1AC, 0x1010)]
     let t : State := commandWrite pgXPT 0x148 v s
     let i : Nat := qpSel t
     running t pgXPT = true ∧ (qpOf t i).st = .init ∧ attrOk t (attrBlock t) = true) ∧
    (let v : W32 := 3
     let s : State := netSt { st := .rtr } [(pgXPT, 0x18C, 0x1F050000), (pgXPT, 0x1A8, 0x77010000), (pgXPT, 0x1AC, 0x1010)]
     let t : State := commandWrite pgXPT 0x148 v s
     let i : Nat := qpSel t
     running t pgXPT = true ∧ (qpOf t i).st = .rtr ∧ attrOk t (attrBlock t) = true) ∧
    (let n : Nat := 1
     let s : State := netSt { st := .rts, attr := attr0 } []
     running s pgXPT = true ∧ (qpOf s n).st = .rts) ∧
    (let k : Nat := 5
     k ≠ 6) ∧
    (let v : W32 := 5
     let s : State := netSt { st := .rts, attr := attr0 } []
     let t : State := commandWrite pgXPT 0x148 v s
     let i : Nat := qpSel t
     running t pgXPT = true ∧ (qpOf t i).user = 0) ∧
    (let v : W32 := 6
     let s : State := netSt { st := .rts, attr := attr0, sqPsn := 5 } []
     let t : State := commandWrite pgXPT 0x148 v s
     running t pgXPT = true) ∧
    (let v : W32 := 7
     let s : State := netSt { st := .rts, attr := attr0 } []
     let t : State := commandWrite pgXPT 0x148 v s
     let i : Nat := qpSel t
     running t pgXPT = true ∧ (qpOf t i).st = .rts) ∧
    (let v : W32 := 1
     let s : State := netSt {} [(pgXPT, 0x1C0, 3), (pgXPT, 0x1D0, 4096)]
     let t : State := commandWrite pgXPT 0x1DC v s
     let i : Nat := winSel t
     running t pgXPT = true ∧ (winOf t i).busy = false) ∧
    (let v : W32 := 2
     let s : State := netSt {} []
     let t : State := commandWrite pgXPT 0x1DC v s
     let i : Nat := winSel t
     running t pgXPT = true ∧ (winOf t i).busy = false) ∧
    (let n : Nat := 0
     let s : State := winPut 0 { busy := true } (netSt {} [])
     (winOf s n).busy = true) :=
  by
  refine ⟨⟨rfl, by decide +kernel⟩, ?_⟩
  iterate 14 refine ⟨by decide +kernel, ?_⟩
  decide +kernel

/-- States and operands that meet the hypotheses of ReplicationCompletes, clause by clause; a variable that an equation of the statement defines is that. -/
theorem witness_ReplicationCompletes :
    (let v : W32 := 1
     let s : State := srcSt { members := [(1, 1)] }
     let t : State := commandWrite pgRPL 0x148 v s
     let g : Nat := grpSel t
     bits v 2 0 = 1 ∧ running t pgRPL = true ∧ (grpOf t g).active = false ∧ mayRun t g = true ∧ grpRole t g = 1) ∧
    (let v : W32 := 2
     let s : State := srcSt { st := .shipping }
     let t : State := commandWrite pgRPL 0x148 v s
     let g : Nat := grpSel t
     bits v 2 0 = 2 ∧ running t pgRPL = true ∧ sourceOn t g = true ∧ (grpOf t g).running = false ∧ (grpOf t g).pinning = false) ∧
    (let v : W32 := 3
     let s : State := srcSt { st := .halted }
     let t : State := commandWrite pgRPL 0x148 v s
     let g : Nat := grpSel t
     bits v 2 0 = 3 ∧ running t pgRPL = true ∧ mayRun t g = true ∧ grpRole t g = 1 ∧ (grpOf t g).st = .halted) ∧
    (let v : W32 := 4
     let s : State := srcSt { st := .shipping, members := [(1, 1)] }
     let t : State := commandWrite pgRPL 0x148 v s
     bits v 2 0 = 4 ∧ running t pgRPL = true) ∧
    (let v : W32 := 5
     let s : State := srcSt { st := .shipping, full := false }
     let t : State := commandWrite pgRPL 0x148 v s
     let g : Nat := grpSel t
     bits v 2 0 = 5 ∧ running t pgRPL = true ∧ (grpOf t g).running = false) ∧
    (let v : W32 := 0x40050003
     let s : State := (fun s : State => { s with ldg := { s.ldg with owned := [3] } }) (srcSt {})
     let t : State := commandWrite pgRPL 0x144 v s
     let g : Nat := grpSel t
     let x : Grp := grpOf t g
     (grpOf s (grpSel s)).active = false ∧ bits v 31 30 = 1 ∧ running t pgRPL = true ∧ x.members.length < 256 ∧ serves t (bits v 13 0) = true ∧ (t.rpl.groups.any fun e => e.2.members.any fun m => m.1 == bits v 13 0) = false) ∧
    (let v : W32 := 0x80000003
     let s : State := srcSt { members := [(3, 5), (4, 6)] }
     let t : State := commandWrite pgRPL 0x144 v s
     (grpOf s (grpSel s)).active = false ∧ bits v 31 30 = 2 ∧ running t pgRPL = true) ∧
    (let g : Nat := 2
     let s : State := srcSt { st := .shipping, due := true }
     sourceOn s g = true) ∧
    (let g : Nat := 2
     let s : State := srcSt { st := .shipping }
     let x : Grp := grpOf s g
     sourceOn s g = true ∧ x.running = false ∧ x.pinning = false) ∧
    (let g : Nat := 2
     let s : State := srcSt { st := .shipping, running := true }
     let x : Grp := grpOf s g
     sourceOn s g = true ∧ x.running = true) ∧
    (let g : Nat := 2
     let s : State := srcSt { st := .shipping, running := true }
     let t : State := settle g s
     let x : Grp := grpOf t g
     sourceOn s g = true ∧ sourceOn t g = true ∧ x.st = .shipping ∧ x.running = true ∧ x.cur = none ∧ x.resume = none ∧ segFull t g = true ∧ x.seq + 1 ≤ nseg t g + x.consumed) ∧
    (let g : Nat := 2
     let s : State := srcSt { st := .shipping, running := true, cur := some ⟨1, 0, 0, 0, 1, 0, [], 0, 0, .written⟩ }
     let t : State := settle g s
     let x : Grp := grpOf t g
     let k : Seg := ⟨1, 0, 0, 0, 1, 0, [], 0, 0, .written⟩
     sourceOn s g = true ∧ sourceOn t g = true ∧ x.cur = some k ∧ k.stage = .written ∧ x.st = .shipping ∧ holdsLease t x = true) ∧
    (let g : Nat := 2
     let s : State := srcSt { st := .shipping, running := true, pubGot := some 0, cur := some ⟨1, 0, 0, 0, 1, 0, [], 0, 0, .publishing⟩ }
     let t : State := settle g s
     let x : Grp := grpOf t g
     let k : Seg := ⟨1, 0, 0, 0, 1, 0, [], 0, 0, .publishing⟩
     let v : W64 := 0
     sourceOn s g = true ∧ sourceOn t g = true ∧ x.cur = some k ∧ x.pubGot = some v ∧ k.stage = .publishing ∧ v.toNat = k.seq - 1) ∧
    (let g : Nat := 2
     let s : State := srcSt { st := .shipping, running := true }
     let t : State := settle g s
     let x : Grp := grpOf t g
     sourceOn s g = true ∧ x.block = none ∧ x.active = true ∧ x.running = true) ∧
    (let g : Nat := 2
     let s : State := srcSt { st := .shipping, running := true, block := some (zeros 64) }
     let t : State := settle g s
     let x : Grp := grpOf t g
     let b : List Byte := zeros 64
     sourceOn s g = true ∧ x.block = some b) ∧
    (let g : Nat := 2
     let s : State := srcSt { st := .shipping, running := true }
     let t : State := settle g s
     sourceOn s g = true ∧ (grpOf t g).st = .shipping) ∧
    (let g : Nat := 2
     let s : State := grpSt 2 { st := .applying, members := [(1, 1)], applying := some ⟨1, 0, 1, 7, 1, [⟨3, 1, 0, 1, [], []⟩], []⟩ }
     let a : Applying := ⟨1, 0, 1, 7, 1, [⟨3, 1, 0, 1, [], []⟩], []⟩
     targetOn s g = true ∧ (grpOf s g).applying = some a) ∧
    (let g : Nat := 2
     let s : State := grpSt 2 { st := .applying, applying := some ⟨1, 0, 1, 7, 1, [], []⟩ }
     let a : Applying := ⟨1, 0, 1, 7, 1, [], []⟩
     targetOn s g = true ∧ (grpOf s g).applying = some a ∧ a.todo = [] ∧ allReady s a.wseqs = true) ∧
    (let g : Nat := 2
     let s : State := wr pgRPL 0x028 7 (grpSt 2 { st := .applying })
     let x : Grp := grpOf s g
     let v : Nat := ctrlWord s g 16
     targetOn s g = true ∧ leaseOn s = true ∧ (v = 0 ∨ v % 2 ^ 40 ≠ x.seen.toNat % 2 ^ 40)) ∧
    (let g : Nat := 2
     let s : State := wr pgRPL 0x028 7 (wr pgRPL 0x100 0x2000000 (ctrlPut 2 16 5 (gwr 2 0x138 0x1000 (grpSt 2 { st := .applying, seen := 5, same := 1 }))))
     let x : Grp := grpOf s g
     let v : Nat := ctrlWord s g 16
     targetOn s g = true ∧ leaseOn s = true ∧ v ≠ 0 ∧ v % 2 ^ 40 = x.seen.toNat % 2 ^ 40 ∧ rdF s pgRPL 0x100 31 24 ≤ x.same + 1) :=
  by
  iterate 19 refine ⟨by decide +kernel, ?_⟩
  decide +kernel

/-- States and operands that meet the hypotheses of LinkCommandsComplete, clause by clause; a variable that an equation of the statement defines is that. -/
theorem witness_LinkCommandsComplete :
    (let f : List Byte := flit0 (2 ^ 62 + 2 ^ 33)
     let s : State := wdlSt []
     let t : State := pump s.wdl.txq.length s
     linkUp s = true ∧ flitOk f = true ∧ flitF f 37 37 = 0 ∧ flitF f 20 9 = 0 ∧ flitF f 63 62 = 1 ∧ linkUp t = true ∧ flitF f 61 50 = t.wdl.rxExp) ∧
    (let s : State := wdlSt []
     linkUp s = true) ∧
    (let n : Nat := 4
     let k : Nat := 1
     let s : State := (fun s : State => { s with wdl := { s.wdl with replay := [⟨3, 0, true, true, []⟩, ⟨4, 0, true, true, []⟩] } }) (wdlSt [])
     linkUp s = true ∧ (s.wdl.replay.findIdx? fun f => f.fseq == n) = some k) ∧
    (let s : State := wdlSt []
     linkUp s = true) ∧
    (let s : State := (fun s : State => { s with wdl := { s.wdl with ackOwed := true } }) (wdlSt [])
     linkUp s = true ∧ s.wdl.ackOwed = true) ∧
    (let l : W32 := 0xFFFFFFFF
     let s : State := wdlSt [(pgWDL, 0x108, 1)]
     lstate s = 1 ∧ running s pgWDL = true ∧ widthOf (~~~l) = 4) ∧
    (let s : State := wdlSt [(pgWDL, 0x108, 0x401)]
     lstate s = 1 ∧ linkWidth s ≠ 0) ∧
    (let v : W32 := 1
     let s : State := wdlSt [(pgWDL, 0x108, 0)]
     let t : State := commandWrite pgWDL 0x104 v s
     clockStopped s pgWDL 0x104 = false ∧ bit v 0 = true ∧ running t pgWDL = true ∧ t.wdl.barred = false ∧ lstate t = 0) ∧
    (let l : W32 := 0x80000000
     let s : State := wdlSt []
     let t : State := wr pgWDL 0x10C (rd s pgWDL 0x10C ||| l) s
     linkUp t = true ∧ l ≠ 0 ∧ live t pgWDL 0 = true ∧ widthOf (lanesFailed t) ≠ 0 ∧ widthOf (lanesFailed t) < linkWidth t) ∧
    (let n : Nat := 2
     let l : W32 := 0x80000000
     let s : State := wdlSt [(pgWDL, 0x108, 0x404)]
     let t : State := { s with wdl := { s.wdl with peerLanes := l } }
     linkUp s = true ∧ lstate s = 4 ∧ live t pgWDL 0 = true ∧ Nat.min n (widthOf (lanesFailed t)) ≠ 0) ∧
    (let n : Nat := 2
     let l : W32 := 0x80000000
     let s : State := wdlSt []
     let t : State := { s with wdl := { s.wdl with peerLanes := l } }
     lstate s = 3 ∧ live t pgWDL 0 = true ∧ Nat.min n (widthOf (lanesFailed t)) ≠ 0 ∧ Nat.min n (widthOf (lanesFailed t)) < linkWidth t) ∧
    (let s : State := wdlSt [(pgWDL, 0x108, 0x203)]
     lstate s = 3 ∧ live s pgWDL 0 = true ∧ linkWidth s < 4) ∧
    (let s : State := wdlSt [(pgWDL, 0x108, 0x402)]
     lstate s = 2) ∧
    (let b : List Byte := (hello0 (rdF (wdlSt []) pgTOP 0x100 7 0)).take 16 ++ ([0x028, 0x02C, 0x030, 0x034].flatMap fun o => le 4 (rd (wdlSt []) pgWDL o).toNat) ++ zeros 224
     let s : State := wdlSt [(pgWDL, 0x108, 0x402)]
     lstate s = 2 ∧ helloClean b = true ∧ helloRefuse b s = 0) ∧
    (let s : State := wdlSt []
     lstate s ≠ 5) ∧
    (let s : State := wdlSt []
     lstate s = 3) :=
  by
  iterate 15 refine ⟨by decide +kernel, ?_⟩
  decide +kernel

/-- States and operands that meet the hypotheses of CopiesAndTakeoversComplete, clause by clause; a variable that an equation of the statement defines is that. -/
theorem witness_CopiesAndTakeoversComplete :
    (let n : Nat := 5
     let s : State := wcSt {} { st := .ready } []
     let t : State := takeRx 0x41 s
     (mirOf t n).st ≠ .free) ∧
    (let s : State := wdlSt []
     let t : State := takeRx 0x43 s
     qstDown t = false) ∧
    (let s : State := wdlSt []
     let t : State := takeRx 0x45 s
     qstDown t = false) ∧
    (let s : State := (fun s : State => { s with ldg := { s.ldg with ljWait := true } }) (wdlSt [])
     let t : State := takeRx 0x44 s
     t.ldg.ljWait = true) ∧
    (let v : W32 := 0x40000001
     let s : State := (fun s : State => { s with ldg := { s.ldg with owned := [1] } }) (wdlSt [])
     let t : State := commandWrite pgWDL 0x158 v s
     bits v 31 30 = 1 ∧ clockStopped s pgWDL 0x158 = false ∧ bit (rd s pgWDL 0x15C) 8 = false ∧ linkUp t = true ∧ tstate t = 0 ∧ owns t (bits v 13 0) = true) ∧
    (let v : W32 := 0x80000001
     let s : State := wdlSt []
     bits v 31 30 = 2 ∧ clockStopped s pgWDL 0x158 = false ∧ bit (rd s pgWDL 0x15C) 8 = false) ∧
    (let n : Nat := 1
     let s : State := (fun s : State => { s with wdl := { s.wdl with accepts := [1] } }) (wdlSt [])
     let t : State := takeRx 0x31 s
     owns t n = false ∧ t.wdl.accepts.contains n = true) ∧
    (let n : Nat := 1
     let s : State := (fun s : State => { s with wdl := { s.wdl with offer := some 1 } }) (wdlSt [])
     let t : State := takeRx 0x32 s
     t.wdl.offer = some n) ∧
    (let n : Nat := 1
     let s : State := (fun s : State => { s with wdl := { s.wdl with offer := some 1 } }) (wdlSt [])
     let t : State := takeRx 0x33 s
     t.wdl.offer = some n) ∧
    (let s : State := (fun s : State => { s with wdl := { s.wdl with kicked := true } }) (wdlSt [])
     linkUp s = true ∧ fit s = true) ∧
    (let s : State := (fun s : State => { s with wdl := { s.wdl with gotAlive := true } }) (wdlSt [])
     linkUp s = true ∧ s.wdl.gotAlive = true) ∧
    (let s : State := wdlSt []
     linkUp s = true) ∧
    (let v : W32 := 1
     let s : State := wdlSt []
     clockStopped s pgWDL 0x144 = false ∧ bit v 0 = true) ∧
    (let s : State := (fun s : State => { s with wdl := { s.wdl with fence := .delay } }) (wdlSt [])
     s.wdl.fence = .delay) ∧
    (let s : State := (fun s : State => { s with wdl := { s.wdl with fence := .arbiter } }) (wdlSt [])
     s.wdl.fence = .arbiter) ∧
    (let s : State := (fun s : State => { s with wdl := { s.wdl with fence := .arbiter } }) (wdlSt [])
     s.wdl.fence = .arbiter) ∧
    (let s : State := (fun s : State => { s with wdl := { s.wdl with fence := .others } }) (wdlSt [])
     s.wdl.fence = .others) ∧
    (let v : W32 := 1
     let s : State := (fun s : State => { s with wdl := { s.wdl with kicked := true } }) (wdlSt [(pgWDL, 0x154, 0x40000100)])
     let t : State := commandWrite pgWDL 0x150 v s
     bits v 2 0 = 1 ∧ clockStopped s pgWDL 0x150 = false ∧ bit (rd s pgWDL 0x154) 31 = false ∧ bit (rd t pgWDL 0x154) 30 = true ∧ fit t = true) ∧
    (let v : W32 := 2
     let s : State := (fun s : State => { s with wdl := { s.wdl with kicked := true } }) (wdlSt [])
     let t : State := commandWrite pgWDL 0x150 v s
     bits v 2 0 = 2 ∧ clockStopped s pgWDL 0x150 = false ∧ bit (rd s pgWDL 0x154) 31 = false ∧ tstate t ≠ 3 ∧ fit t = true) ∧
    (let v : W32 := 3
     let s : State := wdlSt []
     let t : State := commandWrite pgWDL 0x150 v s
     bits v 2 0 = 3 ∧ clockStopped s pgWDL 0x150 = false ∧ bit (rd s pgWDL 0x154) 31 = false ∧ tstate t = 0) :=
  by
  iterate 19 refine ⟨by decide +kernel, ?_⟩
  decide +kernel

/-- States and operands that meet the hypotheses of ChecksAndMemoryComplete, clause by clause; a variable that an equation of the statement defines is that. -/
theorem witness_ChecksAndMemoryComplete :
    (let n : Nat := 3
     let b : List Byte := [1, 2, 3]
     let s : State := st [(pgCVU + 3, 0x044, 2), (pgCVU + 3, 0x104, 0x10), (pgXPT, 0x044, 2), (pgHQ, 0x044, 2), (pgCVU + 3, 0x100, 1)]
     cvuCovers s n = true ∧ longEnough s n b = true ∧ gatePasses s n b = true) ∧
    (let x : MemAcc := ⟨0, .data, 0xE000000010, 2, some [7, 8], 0, .none⟩
     let s : State := { st [] with msys := { (st []).msys with spWay := [8] } }
     let w : Nat := 8
     let b : List Byte := [7, 8]
     pgState s pgSC ≠ stFAULT ∧ region s x.addr = some .scratch ∧ region s (x.addr + (x.size - 1)) = some .scratch ∧ s.msys.spWay[(x.addr - 0xE000000000) / 0x800000]? = some w ∧ x.err = .none ∧ x.wdata = some b) ∧
    (let x : MemAcc := ⟨0, .data, 0xE000000010, 2, none, 0, .none⟩
     let s : State := { st [] with msys := { (st []).msys with spWay := [8] } }
     let w : Nat := 8
     pgState s pgSC ≠ stFAULT ∧ region s x.addr = some .scratch ∧ region s (x.addr + (x.size - 1)) = some .scratch ∧ s.msys.spWay[(x.addr - 0xE000000000) / 0x800000]? = some w ∧ x.err = .none ∧ x.wdata = none ∧ poisoned s x.addr x.len = false) ∧
    (let x : MemAcc := ⟨0, .data, 0x10000000000, 2, none, 0, .none⟩
     let s : State := (fun s : State => { s with msys := { s.msys with trained := [(pgMEMD, 0x4000)] } }) (st [(pgMEMD, 0x100, 1), (pgMEMD, 0x044, 2)])
     region s x.addr = some .ddr ∧ region s (x.addr + (x.size - 1)) = some .ddr ∧ spanLost s .ddr x.addr x.size = false ∧ regionServes s .ddr = true ∧ x.err = .none) ∧
    (let n : Nat := 3
     let s : State := st []
     bit (rd s pgSC 0x10C) 31 = false ∧ wayState s n = wayCACHE ∧ n < 16 ∧ atFloor s = false) ∧
    (let n : Nat := 9
     let k : Nat := 7
     let s : State := st []
     bit (rd s pgSC 0x10C) 31 = false ∧ wayState s n = waySCRATCH ∧ n < 16 ∧ atFloor s = false ∧ (cacheWays s).getLast? = some k) ∧
    (let n : Nat := 9
     let k : Nat := 1
     let s : State := (fun s : State => { s with msys := { s.msys with scOp := some (.retire 9 1) } }) (st [])
     inQ s = false ∧ s.msys.scOp = some (.retire n k) ∧ wayState s n ≠ wayRETIRED) ∧
    (let n : Nat := 9
     let k : Nat := 0
     let s : State := (fun s : State => { s with msys := { s.msys with scOp := some (.remap 9 0) } }) (st [])
     inQ s = false ∧ s.msys.scOp = some (.remap n k) ∧ wayState s k = wayCACHE) ∧
    (let h : Nat := 0
     let s : State := st [(pgSC, maintReg 0 8, 256)]
     let a : Nat := (rd64 s pgSC (maintReg h 0)).toNat
     let n : Nat := (rd64 s pgSC (maintReg h 8)).toNat
     bit (rd s pgSC (maintReg h 0x14)) 31 = false ∧ n ≠ 0 ∧ a + n ≤ 2 ^ 48) ∧
    (let h : Nat := 0
     let s : State := (fun s : State => { s with msys := { s.msys with maint := [(0, ⟨4, 0, 0⟩)] } }) (st [])
     let m : Maint := ⟨4, 0, 0⟩
     Tab.find? s.msys.maint h = some m ∧ m.op = 4 ∧ inQ s = false) ∧
    (let p : Nat := pgMEMD
     let s : State := st [(pgMEMD, 0x044, 2), (pgMEMD, 0x028, 3)]
     live s p 0 = true ∧ running s p = true) ∧
    (let p : Nat := pgMEMD
     let n : Nat := 96
     let s : State := st [(pgMEMD, 0x044, 2), (pgMEMD, 0x028, 3)]
     let t : State := wrF p 0x108 31 24 n s
     clsOf p = 6 ∧ live t p 1 = true ∧ 95 < n ∧ t.msys.hot.contains p = false) ∧
    (let p : Nat := pgMEMD
     let s : State := st [(pgMEMD, 0x044, 1)]
     pgState s p = stSTART ∧ Tab.find? s.msys.trained p = none) :=
  by
  iterate 12 refine ⟨by decide +kernel, ?_⟩
  decide +kernel

/-- States and operands that meet the hypotheses of EventsAndLogsComplete, clause by clause; a variable that an equation of the statement defines is that. -/
theorem witness_EventsAndLogsComplete :
    (let p : Nat := 0x1100
     let l : Nat := 0
     lineListed p l = true) ∧
    (let k : Nat := 0
     let x : Nat := srcPrivate 0 3
     let s : State := (fun s : State => match exec (.signal 1 3) s with | .next t => t | _ => s) (st [(pgEQC, 0x044, 2), (pgEQC, 0x028, 3), (pgEQC, ringReg 0 8, 0x40001), (pgEQC, ringReg 0 4, 0xE0)])
     running s pgEQC = true ∧ ringEn s k = true ∧ inQ s = false ∧ ringNext s k = some x ∧ ringFull s k = false) ∧
    (let m : Nat := 1
     let v : W32 := 3
     let s : State := st [(pgEQC, 0x044, 2), (pgEQC, 0x028, 3)]
     let t : State := commandWrite pgEQC 0x600 v s
     m < 32 ∧ live t pgEQC 0 = true) ∧
    (let v : W32 := 3
     let k : Nat := srcPrivate 0 3
     doneSource v = some k) ∧
    (let k : Nat := 0
     let v : W32 := 0x40001
     let s : State := st [(pgEQC, 0x044, 2)]
     let t : State := blockWrite pgEQC (ringReg k 8) v s
     bit (rd s pgEQC (ringReg k 8)) 0 = false ∧ bit (rd t pgEQC (ringReg k 8)) 0 = true) ∧
    (let h : Nat := 0x1304
     let n : Nat := 0
     (h ≠ 0x1203 ∨ 16 ≤ n) ∧ h ≠ 0x0806) ∧
    (let s : State := (fun s : State => { s with hlm := { s.hlm with scanned := true } }) (hallmark 0x1204 0 [1] (st [(pgQST, 0x044, 2), (pgHLM, 0x044, 2)]))
     let r : HlmRec := (match (hallmark 0x1204 0 [1] (st [(pgQST, 0x044, 2), (pgHLM, 0x044, 2)])).hlm.buf with | r :: _ => r | [] => ⟨0, 0, 0, 0, 0, 0, []⟩)
     let l : List HlmRec := (hallmark 0x1204 0 [1] (st [(pgQST, 0x044, 2), (pgHLM, 0x044, 2)])).hlm.buf.drop 1
     s.hlm.buf = r :: l ∧ alive s pgQST = true ∧ alive s pgHLM = true ∧ s.hlm.scanned = true) ∧
    (let s : State := st [(pgQST, 0x044, 2), (pgHLM, 0x044, 1)]
     let l : List (List Byte) := (hlmTouched s).map (hlmSlotBytes s)
     let n : Nat := (l.filter hlmValid).foldl (fun n bs => Nat.max n (field bs 0 8 + 1)) 0
     s.hlm.scanned = false ∧ alive s pgQST = true ∧ n = (l.filter hlmValid).foldl (fun n bs => Nat.max n (field bs 0 8 + 1)) 0 ∧ pgState s pgHLM = stSTART) ∧
    (let s : State := st [(pgHLM, 0x044, 2), (pgHLM, 0x028, 7), (pgQST, 0x044, 2)]
     bit (rd s pgHLM 0x180) 31 = false ∧ live s pgHLM 2 = true) ∧
    (let v : W32 := 1
     let s : State := st [(pgHLM, 0x044, 2), (pgHLM, 0x028, 7), (pgHLM, 0x190, 0x20042)]
     let t : State := commandWrite pgHLM 0x1B0 v s
     bit v 0 = true ∧ live t pgHLM 1 = true ∧ rdF t pgHLM 0x190 15 8 = 0) ∧
    (let v : W32 := 1
     let s : State := tmkSt []
     let t : State := commandWrite pgTMK 0x110 v s
     let b : Nat := 0
     bit (rd t pgTMK 0x114) 31 = false ∧ alive t pgTMK = true ∧ inQ t = false ∧ rdF t pgTMK 0x108 17 0 ≤ tmkMaxLen ∧ tmkCurrent t = some b) ∧
    (let v : W32 := 2
     let s : State := st [(pgTMK, 0x044, 2), (pgTMK, 0x028, 1), (pgQST, 0x044, 2)]
     let t : State := commandWrite pgTMK 0x110 v s
     bit (rd t pgTMK 0x114) 31 = false ∧ alive t pgTMK = true ∧ inQ t = false ∧ rdF t pgTMK 0x108 17 0 ≤ tmkMaxLen ∧ bit (rd t pgTMK 0x114) 30 = false ∧ tmkCurrent t = none) ∧
    (let b : Nat := 0
     let s : State := (fun s : State => { s with tmk := ⟨some 0, 0, false⟩ }) (tmkSt [])
     let u : State := tmkSeal b s
     let t : State := { u with tmk := { u.tmk with target := none } }
     s.tmk.target = some b ∧ tmkValid t b = true ∧ t.tmk.fromCurrent = false) ∧
    (let v : W32 := 3
     let s : State := tmkSt [(pgTMK, 0x114, 0x40000000)]
     let t : State := commandWrite pgTMK 0x110 v s
     let b : Nat := 0
     bit (rd t pgTMK 0x114) 31 = false ∧ alive t pgTMK = true ∧ inQ t = false ∧ rdF t pgTMK 0x108 17 0 ≤ tmkMaxLen ∧ bit (rd t pgTMK 0x114) 30 = true ∧ tmkCurrent t = some b) ∧
    (let v : W32 := 4
     let s : State := tmkSt [(pgTMK, 0x114, 0x40000000)]
     let t : State := commandWrite pgTMK 0x110 v s
     bit (rd t pgTMK 0x114) 31 = false ∧ alive t pgTMK = true ∧ inQ t = false ∧ rdF t pgTMK 0x108 17 0 ≤ tmkMaxLen ∧ bit (rd t pgTMK 0x114) 30 = true) :=
  by
  iterate 14 refine ⟨by decide +kernel, ?_⟩
  decide +kernel

/-- States and operands that meet the hypotheses of ClocksAndPowerComplete, clause by clause; a variable that an equation of the statement defines is that. -/
theorem witness_ClocksAndPowerComplete :
    (let d : Nat := 1
     let s : State := st [(pgCLK, 0x104, 0x1FF), (pgCLK, 0x044, 2), (pgCLK, 0x028, 3)]
     let t : State := wrF pgCLK 0x104 d d 0 s
     relocks d = true ∧ bit (rd s pgCLK 0x104) d = true ∧ live t pgCLK 0 = true) ∧
    (let d : Nat := 1
     let s : State := (fun s : State => { s with clk := { s.clk with resetHeld := false, relocking := [1] } }) (st [(pgCLK, 0x044, 2)])
     s.clk.resetHeld = false ∧ s.clk.relocking.contains d = true) ∧
    (let d : Nat := 1
     let s : State := (fun s : State => { s with clk := { s.clk with relocking := [1] } }) (st [(pgCLK, 0x044, 2)])
     s.clk.relocking.contains d = true) ∧
    (let s : State := st []
     s.clk.onDieOsc = false) ∧
    (let x : Option Nat := some 10
     let a : Option Nat := some 20
     let b : Option Nat := none
     let s : State := st [(pgCLK, 0x044, 2), (pgCLK, 0x028, 3)]
     let t : State := wrF pgCLK 0x100 dmDBG dmDBG 0 (wrF pgCLK 0x120 2 0 (b2n (!s.clk.onDieOsc) + 2 + 4 * b2n (refOk b)) s)
     alive s pgCLK = true ∧ refOk x = true ∧ refOk a = true ∧ live t pgCLK 1 = true) ∧
    (let d : Nat := 15
     (d = 0 ∨ d = 5 ∨ d = 15)) ∧
    (let v : W32 := 0
     let s : State := st [(pgPWR, 0x104, 1)]
     let t : State := commandWrite pgPWR 0x100 v s
     exiting t = false ∧ pwrState t = 1) ∧
    (let v : W32 := 1
     let s : State := st [(pgPWR, 0x044, 2), (pgPWR, 0x028, 0xF)]
     let t : State := commandWrite pgPWR 0x100 v s
     pwrState t = 0 ∧ refuseP1 t 0 = none) ∧
    (let v : W32 := 2
     let s : State := st [(pgPWR, 0x044, 2), (pgPWR, 0x028, 0xF)]
     let t : State := commandWrite pgPWR 0x100 v s
     (pwrState t = 0 ∨ pwrState t = 1) ∧ exiting t = false ∧ refuseP2 t = none) ∧
    (let s : State := st [(pgPWR, 0x044, 2), (pgPWR, 0x028, 0xF)]
     alive s pgPWR = true ∧ inQ s = false) ∧
    (let s : State := st [(pgPWR, 0x044, 2), (pgPWR, 0x104, 0x80000100 + psENTERING)]
     pwrState s = psENTERING ∧ exiting s = false ∧ rdF s pgPWR 0x104 10 8 = 1 ∧ s.pwr.fromState = 0) ∧
    (let n : Nat := 50
     let s : State := st [(pgPWR, 0x044, 2), (pgPWR, 0x124, 100)]
     let t : State := wrF pgPWR 0x120 7 0 n s
     alive s pgPWR = true ∧ n < 110 ∧ n + 5 ≤ rdF t pgPWR 0x124 7 0) ∧
    (let s : State := (fun s : State => { s with pwr := { s.pwr with hot := true, freq := 20 } }) (st [(pgPWR, 0x044, 2)])
     inQ s = false ∧ alive s pgPWR = true ∧ s.pwr.hot = true ∧ 15 < s.pwr.freq) ∧
    (let s : State := (fun s : State => { s with pwr := { s.pwr with hot := false, gated := [3] } }) (st [(pgPWR, 0x044, 2)])
     inQ s = false ∧ alive s pgPWR = true ∧ s.pwr.hot = false ∧ s.pwr.capped = false ∧ s.pwr.gated ≠ []) ∧
    (let s : State := st [(pgPWR, 0x044, 2)]
     alive s pgPWR = true) ∧
    (let o : Nat := 0
     let l : Nat := 3
     let s : State := (fun s : State => { s with srd := { s.srd with lost := [] } }) (st [(pgCLK, 0x108, 1), (pgSRD, 0x044, 2), (pgFLX, 0x100, 4)])
     srdUse s o ≤ 1 ∧ laneRuns s o = true ∧ s.srd.lost.contains (o * 8 + l) = false) ∧
    (let o : Nat := 0
     let s : State := st [(pgSRD, 0x044, 2)]
     pgState s (pgSRD + o) ≠ stOFF ∧ pgState s (pgSRD + o) ≠ stFAULT) ∧
    (let s : State := st [(pgAON, 0x044, 2)]
     alive s pgAON = true) :=
  by
  iterate 17 refine ⟨by decide +kernel, ?_⟩
  decide +kernel

/-- States and operands that meet the hypotheses of LifecycleAndDebugComplete, clause by clause; a variable that an equation of the statement defines is that. -/
theorem witness_LifecycleAndDebugComplete :
    (let v : W32 := 1
     let s : State := lcSt .blank .minted
     let t : State := commandWrite pgTOP 0x118 v s
     bit (rd t pgTOP 0x110) 31 = false ∧ lcRefusal t .minted = none) ∧
    (let v : W32 := 2
     let s : State := lcSt .minted .owned
     let t : State := commandWrite pgTOP 0x118 v s
     bit (rd t pgTOP 0x110) 31 = false ∧ lcRefusal t .owned = none) ∧
    (let v : W32 := 3
     let s : State := lcSt .minted .retired
     let t : State := commandWrite pgTOP 0x118 v s
     bit (rd t pgTOP 0x110) 31 = false ∧ lcRefusal t .retired = none) ∧
    (let v : W32 := 1
     let s : State := st []
     let t : State := blockWrite pgTOP 0x140 v s
     ownerLock s = false ∧ ownerLock t = true) ∧
    (let v : W32 := 1
     let s : State := st [(pgDBG, 0x044, 2), (pgDBG, 0x028, 1)]
     let t : State := commandWrite pgDBG 0x104 v s
     bit v 0 = true ∧ live t pgDBG 0 = true ∧ ownerLock t = false ∧ dbgLevel t = 0) ∧
    (let v : W32 := 2
     bit v 1 = true) ∧
    (let s : State := tapSt
     let t : State := tapScan .dbgChallenge .normal s
     tapUp s = true ∧ t.dbg.refuseUntil ≤ t.time) ∧
    (let n : BitVec 384 := 5
     let s : State := (fun s : State => { s with dbg := { s.dbg with nonce := some 5 }, fuses := { s.fuses with lc := .minted } }) tapSt
     let t : State := tapScan .dbgResponse .normal s
     tapUp s = true ∧ t.dbg.nonce = some n ∧ t.fuses.lc = .minted) ∧
    (let s : State := (fun s : State => { s with aon := { s.aon with resetN := false } }) tapSt
     tapUp s = true ∧ s.aon.resetN = false) ∧
    (let s : State := tapSt
     tapUp s = true) ∧
    (let s : State := tapSt
     tapUp s = true) ∧
    (let s : State := (fun s : State => { s with dbg := { s.dbg with waiting := [⟨false, 0, 0⟩] } }) tapSt
     let y : DbgAcc := ⟨false, 0, 0⟩
     s.dbg.waiting = [y] ∧ dbgStopped s y.addr = false) :=
  by
  iterate 11 refine ⟨by decide +kernel, ?_⟩
  decide +kernel

/-- States and operands that meet the hypotheses of FirmwareAndBootComplete, clause by clause; a variable that an equation of the statement defines is that. -/
theorem witness_FirmwareAndBootComplete :
    (let v : W32 := 1
     let s : State := fwuSt []
     let t : State := commandWrite pgFWU 0x128 v s
     let n : Nat := 1 - runSlot (fwuSt [])
     fwuBusy s = false ∧ running s pgFWU = true ∧ fwuRefusal t false = none ∧ stageSlot t = some n) ∧
    (let s : State := fwuSt []
     fwuBusy s = false ∧ running s pgFWU = true) ∧
    (let v : W32 := 3
     let s : State := fwuSt [(pgFWU, 0x12C, 4)]
     let t : State := commandWrite pgFWU 0x128 v s
     fwuBusy s = false ∧ running s pgFWU = true ∧ fwuHolding t = false ∧ fwuRefusal t true = none) ∧
    (let v : W32 := 4
     let s : State := trialSt
     let t : State := commandWrite pgFWU 0x128 v s
     fwuBusy s = false ∧ running s pgFWU = true ∧ onTrial t = true ∧ bit (rd t pgTMK 0x114) 30 = false) ∧
    (let s : State := (fun s : State => { s with fwu := { s.fwu with op := some .stage, slot := 1 } }) (fwuSt [(pgFWU, 0x110, 16)])
     inQ s = false ∧ s.fwu.op = some .stage) ∧
    (let s : State := trialSt
     onTrial s = true ∧ inQ s = false ∧ live s pgFWU 0 = true ∧ bit (rd s pgTMK 0x114) 30 = false) ∧
    (let s : State := (fun s : State => { s with aon := { s.aon with vinPresent := true } }) (st [(pgAON, 0x044, 1)])
     let t : State := wrF pgCLK 0x104 7 7 1 { s with aon := { s.aon with pllLocked := true } }
     s.aon.vinPresent = true ∧ pgState t pgAON = stSTART ∧ bit (rd t pgAON 0x044) 5 = false) ∧
    (let s : State := (fun s : State => { s with aon := { s.aon with resetN := true } }) (wcSt { st := .ready } {} [])
     s.aon.resetN = true ∧ inQ s = false ∧ running s pgWC = true ∧ dirty s ≠ 0) ∧
    (let s : State := (fun s : State => { s with aon := { s.aon with resetN := true } }) (st [])
     s.aon.resetN = true ∧ inQ s = false ∧ running s pgWC = false) ∧
    (let s : State := st []
     inQ s = false) ∧
    (let b : List Nat := [0, 1, 2, 3, 4, 5]
     let e : List Nat := []
     let s : State := (fun s : State => { s with boot := { s.boot with due := 1 }, aon := { s.aon with pllLocked := true }, clk := { s.clk with resetHeld := false } }) (st [])
     s.boot.due ≠ 0 ∧ s.aon.pllLocked = true ∧ s.clk.resetHeld = false ∧ inQ s = false ∧ dimmsOk b = true ∧ (b.any e.contains) = false) ∧
    (let s : State := (fun s : State => { s with boot := { s.boot with waiting := true } }) (st [])
     s.boot.waiting = true) ∧
    (let p : Nat := 3
     let s : State := st [(pgFLX, 0x100, 4), (pgFLX + 3, 0x044, 1)]
     portThere s p = true ∧ pgState s (pgFLX + p) = stSTART ∧ rdF s (pgFLX + p) 0x108 10 8 = 0 ∧ running s pgING = false) :=
  by
  iterate 12 refine ⟨by decide +kernel, ?_⟩
  decide +kernel

/-- A state and a command that meet the hypothesis of StepRunsTheFrontCommand. -/
theorem witness_StepRunsTheFrontCommand : ({ State.reset with pending := [.replayDone] } : State).pending = [.replayDone] :=
  rfl

/-- States and operands that meet the hypotheses of EmptyQueueCountsOneMicrosecond, clause by clause; a variable that an equation of the statement defines is that. -/
theorem witness_EmptyQueueCountsOneMicrosecond :
    (let s : State := State.reset
     s.pending = []) :=
  by decide +kernel

/-- A state and a command that meet the hypothesis of EveryStepKeepsWhatIsStored. -/
theorem witness_EveryStepKeepsWhatIsStored : Stored State.reset ∧ step State.reset = .next (idleTick State.reset) :=
  ⟨⟨rfl, rfl, rfl, rfl⟩, rfl⟩

/-- A state and a command that meet the hypothesis of EveryStepBurnsFusesOneWay. -/
theorem witness_EveryStepBurnsFusesOneWay : step State.reset = .next (idleTick State.reset) :=
  rfl

/-- A state and a command that meet the hypothesis of NoCommandTouchesTheQueue. -/
theorem witness_NoCommandTouchesTheQueue : ∃ t, exec (.pwrP0 1) State.reset = .next t :=
  ⟨_, rfl⟩

/-- States and operands that meet the hypotheses of AbsentPagesReadZero, clause by clause; a variable that an equation of the statement defines is that. -/
theorem witness_AbsentPagesReadZero :
    (let p : Nat := 0x1110
     pageExists p = false) :=
  by decide +kernel

/-- States and operands that meet the hypotheses of NarrowAccessIsABusError, clause by clause; a variable that an equation of the statement defines is that. -/
theorem witness_NarrowAccessIsABusError :
    (let p : Nat := 0x0900
     let off : Nat := 0x101
     let n : Nat := 1
     pageExists p = true ∧ ¬(n = 4 ∧ off % 4 = 0) ∧ ¬(n = 8 ∧ off % 8 = 0)) :=
  by decide +kernel

/-- States and operands that meet the hypotheses of UndefinedOffsetReadsZero, clause by clause; a variable that an equation of the statement defines is that. -/
theorem witness_UndefinedOffsetReadsZero :
    (let p : Nat := 0x0900
     let off : Nat := 0xFFC
     let s : State := State.reset
     pageExists p = true ∧ clockStopped s p off = false ∧ regAt p off = none) ∧
    (let p : Nat := 0x0900
     let off : Nat := 0xFFC
     let s : State := State.reset
     pageExists p = true ∧ clockStopped s p off = false ∧ regAt p off = none) :=
  by
  iterate 1 refine ⟨by decide +kernel, ?_⟩
  decide +kernel

/-- States and operands that meet the hypotheses of FeatureAskOnlyBeforeRun, clause by clause; a variable that an equation of the statement defines is that. -/
theorem witness_FeatureAskOnlyBeforeRun :
    (let p : Nat := 0x1100
     let i : Nat := 3
     let s : State := State.reset
     i < 4 ∧ pageExists p = true ∧ clockStopped s p (0x018 + 4 * i) = false ∧ locked s p 1 = false ∧ (pgState s p = stOFF ∨ pgState s p = stSTART)) ∧
    (let p : Nat := 0x1100
     let i : Nat := 0
     let s : State := st [(0x1100, 0x044, 2)]
     i < 4 ∧ pageExists p = true ∧ clockStopped s p (0x018 + 4 * i) = false ∧ locked s p 1 = false ∧ pgState s p ≠ stOFF ∧ pgState s p ≠ stSTART) ∧
    (let p : Nat := 0x1100
     let i : Nat := 0
     let s : State := st [(0x1100, 0x054, 2)]
     i < 4 ∧ pageExists p = true ∧ clockStopped s p (0x018 + 4 * i) = false ∧ locked s p 1 = true) :=
  by
  iterate 2 refine ⟨by decide +kernel, ?_⟩
  decide +kernel

/-- States and operands that meet the hypotheses of LateAskIsDiscarded, clause by clause; a variable that an equation of the statement defines is that. -/
theorem witness_LateAskIsDiscarded :
    (let e : Nat := 4
     let s : State := pairSt []
     e < epochOpen (takeRx 0x22 s)) :=
  by decide +kernel

/-- States and operands that meet the hypotheses of FirstFaultStands, clause by clause; a variable that an equation of the statement defines is that. -/
theorem witness_FirstFaultStands :
    (let p : Nat := 0x1100
     let n : Nat := 0x3F
     let s : State := State.reset
     0 < n ∧ n < 0x40 ∧ bits (rd s p 0x048) 7 0 = 0) ∧
    (let p : Nat := 0x1100
     let n : Nat := 0
     let s : State := st [(0x1100, 0x048, 0x40)]
     n < 0x40 ∧ bits (rd s p 0x048) 7 0 ≠ 0) ∧
    (let p : Nat := 0x1100
     let n : Nat := 0x40
     let s : State := st [(0x1100, 0x048, 0x3F)]
     0x40 ≤ n ∧ 0 < bits (rd s p 0x048) 7 0 ∧ bits (rd s p 0x048) 7 0 < 0x40) :=
  by
  iterate 2 refine ⟨by decide +kernel, ?_⟩
  decide +kernel

/-- A state and a command that meet the hypothesis of PageAndQueueCommandsLeaveTheRest. -/
theorem witness_PageAndQueueCommandsLeaveTheRest : ∃ t, exec (.csrRegisterWrite 0 0 0 0) State.reset = .next t :=
  ⟨_, rfl⟩

/-- A state and a command that meet the hypothesis of LedgerAndHostCommandsLeaveTheRest. -/
theorem witness_LedgerAndHostCommandsLeaveTheRest : ∃ t, exec (.epochTimerExpiry) State.reset = .next t :=
  ⟨_, rfl⟩

/-- A state and a command that meet the hypothesis of ForgeAndEngineCommandsLeaveTheRest. -/
theorem witness_ForgeAndEngineCommandsLeaveTheRest : ∃ t, exec (.forgeHandle 0 []) State.reset = .next t :=
  ⟨_, rfl⟩

/-- A state and a command that meet the hypothesis of WriteCacheAndQuenchCommandsLeaveTheRest. -/
theorem witness_WriteCacheAndQuenchCommandsLeaveTheRest : ∃ t, exec (.slotLandingDone 0) State.reset = .next t :=
  ⟨_, rfl⟩

/-- A state and a command that meet the hypothesis of FlashCommandsLeaveTheRest. -/
theorem witness_FlashCommandsLeaveTheRest : ∃ t, exec (.castStart 0) State.reset = .next t :=
  ⟨_, rfl⟩

/-- A state and a command that meet the hypothesis of ReadAndNetworkCommandsLeaveTheRest. -/
theorem witness_ReadAndNetworkCommandsLeaveTheRest : ∃ t, exec (.reservationRegister 0 true true) State.reset = .next t :=
  ⟨_, rfl⟩

/-- A state and a command that meet the hypothesis of ReplicationAndLinkCommandsLeaveTheRest. -/
theorem witness_ReplicationAndLinkCommandsLeaveTheRest : ∃ t, exec (.grpStart 0) State.reset = .next t :=
  ⟨_, rfl⟩

/-- A state and a command that meet the hypothesis of InfrastructureCommandsLeaveTheRest. -/
theorem witness_InfrastructureCommandsLeaveTheRest : ∃ t, exec (.cvuMessage 0 []) State.reset = .next t :=
  ⟨_, rfl⟩

/-- A state and a command that meet the hypothesis of SecurityAndPowerCommandsLeaveTheRest. -/
theorem witness_SecurityAndPowerCommandsLeaveTheRest : ∃ t, exec (.debugAccessResume) State.reset = .next t :=
  ⟨_, rfl⟩

end Sys2Proof.Tests.Slice0
end

section
/-! PROOFS. What every command keeps, and the statements over every step and every command (O35, O39, O41, O42, O49). -/

namespace Sys2Proof.Machine

/-! What every command keeps, by the lemma of its meaning. -/

theorem Ends.mono {m n : Nat} {s : State} {o : Outcome} (h : Ends m s o) (e : m &&& n = m) : Ends n s o := fun t k => (h t k).mono e

/-- The parts that commands reach, as a set: all but the stepping of the die and the queue of waiting commands. -/
def commandParts : Nat := 2 ^ 43 - 2

/-- Every command changes the parts commands reach alone, keeps the form of what is stored and unburns no fuse. -/
theorem exec_ends (i : Instr) (s : State) : Ends commandParts s (exec i s) := by
  cases i with
  | csrRegisterWrite => exact execCsrRegisterWrite_moves.mono rfl
  | csrNarrowAccess m p off n w => exact (execCsrNarrowAccess_moves (x4 := w)).mono rfl
  | csrUndefinedOffsetAccess => exact execCsrUndefinedOffsetAccess_moves.mono rfl
  | csrAbsentPageAccess => exact execCsrAbsentPageAccess_moves.mono rfl
  | lowWordRead => exact execLowWordRead_moves.mono rfl
  | lowWordWrite => exact execLowWordWrite_moves.mono rfl
  | highWordWrite => exact execHighWordWrite_moves.mono rfl
  | readClearCounterRead => exact execReadClearCounterRead_moves.mono rfl
  | clkStoppedTimeout => exact execClkStoppedTimeout_moves.mono rfl
  | pgEnable => exact execPgEnable_moves.mono rfl
  | pgDisable => exact execPgDisable_moves.mono rfl
  | runReq => exact execRunReq_moves.mono rfl
  | pageReady => exact execPageReady_moves.mono rfl
  | quiesceSet => exact execQuiesceSet_moves.mono rfl
  | quiesceClear => exact execQuiesceClear_moves.mono rfl
  | pageDrainComplete => exact execPageDrainComplete_moves.mono rfl
  | disableBoundExpiry => exact execDisableBoundExpiry_moves.mono rfl
  | softReset => exact execSoftReset_moves.mono rfl
  | softResetComplete => exact execSoftResetComplete_moves.mono rfl
  | faultClr => exact execFaultClr_moves.mono rfl
  | featAskWrite => exact execFeatAskWrite_moves.mono rfl
  | pgEvrouteWrite => exact execPgEvrouteWrite_moves.mono rfl
  | pgLockWrite => exact execPgLockWrite_moves.mono rfl
  | queueEntryArrive => exact execQueueEntryArrive_moves.mono rfl
  | creditReturn => exact execCreditReturn_moves.mono rfl
  | farSideReset => exact execFarSideReset_moves.mono rfl
  | crossingFlushTimeout => exact execCrossingFlushTimeout_moves.mono rfl
  | engineDoorbell => exact execEngineDoorbell_moves.mono rfl
  | engineCompletionWrite => exact execEngineCompletionWrite_moves.mono rfl
  | epochTimerExpiry => exact execEpochTimerExpiry_moves.mono rfl
  | closeNow => exact execCloseNow_moves.mono rfl
  | epClose => exact execEpClose_moves.mono rfl
  | epAsk => exact execEpAsk_moves.mono rfl
  | epochDrainStart => exact execEpochDrainStart_moves.mono rfl
  | epochDrainEnd => exact execEpochDrainEnd_moves.mono rfl
  | epDrained => exact execEpDrained_moves.mono rfl
  | epochCommitRecord => exact execEpochCommitRecord_moves.mono rfl
  | epCommit => exact execEpCommit_moves.mono rfl
  | epCommitAck => exact execEpCommitAck_moves.mono rfl
  | ldgItemAccept => exact execLdgItemAccept_moves.mono rfl
  | deallocateApply => exact execDeallocateApply_moves.mono rfl
  | checkpointComplete => exact execCheckpointComplete_moves.mono rfl
  | twinMismatch => exact execTwinMismatch_moves.mono rfl
  | judgeSelfCheckDone => exact execJudgeSelfCheckDone_moves.mono rfl
  | repairA => exact execRepairA_moves.mono rfl
  | repairB => exact execRepairB_moves.mono rfl
  | repairSelfCheckDone => exact execRepairSelfCheckDone_moves.mono rfl
  | snapArm => exact execSnapArm_moves.mono rfl
  | snapTake => exact execSnapTake_moves.mono rfl
  | snapDelete => exact execSnapDelete_moves.mono rfl
  | snapClone => exact execSnapClone_moves.mono rfl
  | snapDisarmAll => exact execSnapDisarmAll_moves.mono rfl
  | slagEntryRead => exact execSlagEntryRead_moves.mono rfl
  | ldgReplay => exact execLdgReplay_moves.mono rfl
  | replayDone => exact execReplayDone_moves.mono rfl
  | capsuleArrival => exact execCapsuleArrival_moves.mono rfl
  | nvmeFlush => exact execNvmeFlush_moves.mono rfl
  | nvmeWrite => exact execNvmeWrite_moves.mono rfl
  | nvmeRead => exact execNvmeRead_moves.mono rfl
  | nvmeCompare => exact execNvmeCompare_moves.mono rfl
  | nvmeWriteZeroes => exact execNvmeWriteZeroes_moves.mono rfl
  | nvmeDatasetManagement => exact execNvmeDatasetManagement_moves.mono rfl
  | nvmeVerify => exact execNvmeVerify_moves.mono rfl
  | invalidOpcode => exact execInvalidOpcode_moves.mono rfl
  | fabricsConnect => exact execFabricsConnect_moves.mono rfl
  | propertyGet => exact execPropertyGet_moves.mono rfl
  | propertySet => exact execPropertySet_moves.mono rfl
  | fabricsDisconnect => exact execFabricsDisconnect_moves.mono rfl
  | getLogPage => exact execGetLogPage_moves.mono rfl
  | identify => exact execIdentify_moves.mono rfl
  | nvmeAbort => exact execNvmeAbort_moves.mono rfl
  | setFeatures => exact execSetFeatures_moves.mono rfl
  | getFeatures => exact execGetFeatures_moves.mono rfl
  | asynchronousEventRequest => exact execAsynchronousEventRequest_moves.mono rfl
  | keepAlive => exact execKeepAlive_moves.mono rfl
  | adminReply => exact execAdminReply_moves.mono rfl
  | writeDataLanded => exact execWriteDataLanded_moves.mono rfl
  | katoExpiry => exact execKatoExpiry_moves.mono rfl
  | hqHoldWrite => exact execHqHoldWrite_moves.mono rfl
  | holdExpiry => exact execHoldExpiry_moves.mono rfl
  | qosBucketRefill => exact execQosBucketRefill_moves.mono rfl
  | qosWindowEnd => exact execQosWindowEnd_moves.mono rfl
  | qosMinWrite => exact execQosMinWrite_moves.mono rfl
  | nsCfgWrite => exact execNsCfgWrite_moves.mono rfl
  | powerExitComplete => exact execPowerExitComplete_moves.mono rfl
  | forgeHandle => exact execForgeHandle_moves.mono rfl
  | grainIntakeDone => exact execGrainIntakeDone_moves.mono rfl
  | grainRefetchData => exact execGrainRefetchData_moves.mono rfl
  | refetchTimeout => exact execRefetchTimeout_moves.mono rfl
  | lookupAnswer => exact execLookupAnswer_moves.mono rfl
  | pendingTimeout => exact execPendingTimeout_moves.mono rfl
  | indexPageFetchDone => exact execIndexPageFetchDone_moves.mono rfl
  | lookupBudgetExpiry => exact execLookupBudgetExpiry_moves.mono rfl
  | sealDone => exact execSealDone_moves.mono rfl
  | keyWaitRetry => exact execKeyWaitRetry_moves.mono rfl
  | billetGrant => exact execBilletGrant_moves.mono rfl
  | verifyPlaintext => exact execVerifyPlaintext_moves.mono rfl
  | verifyTimeout => exact execVerifyTimeout_moves.mono rfl
  | handInBody => exact execHandInBody_moves.mono rfl
  | handInRef => exact execHandInRef_moves.mono rfl
  | handInZero => exact execHandInZero_moves.mono rfl
  | handInSlag => exact execHandInSlag_moves.mono rfl
  | handInCull => exact execHandInCull_moves.mono rfl
  | fltClear => exact execFltClear_moves.mono rfl
  | domCfgWrite => exact execDomCfgWrite_moves.mono rfl
  | asyHash => exact execAsyHash_moves.mono rfl
  | asyHmac => exact execAsyHmac_moves.mono rfl
  | asyHashCmp => exact execAsyHashCmp_moves.mono rfl
  | asyHmacCmp => exact execAsyHmacCmp_moves.mono rfl
  | asyCtxExport => exact execAsyCtxExport_moves.mono rfl
  | asyCtxImport => exact execAsyCtxImport_moves.mono rfl
  | asyCtxClear => exact execAsyCtxClear_moves.mono rfl
  | asyPreemptSave => exact execAsyPreemptSave_moves.mono rfl
  | glaneRestore => exact execGlaneRestore_moves.mono rfl
  | resSeqRead => exact execResSeqRead_moves.mono rfl
  | ringDisable => exact execRingDisable_moves.mono rfl
  | cruCompress => exact execCruCompress_moves.mono rfl
  | cruDecompress => exact execCruDecompress_moves.mono rfl
  | cruCtxClear => exact execCruCtxClear_moves.mono rfl
  | gunitRestore => exact execGunitRestore_moves.mono rfl
  | gcmSeal => exact execGcmSeal_moves.mono rfl
  | gcmOpen => exact execGcmOpen_moves.mono rfl
  | xtsEnc => exact execXtsEnc_moves.mono rfl
  | xtsDec => exact execXtsDec_moves.mono rfl
  | keyLoad => exact execKeyLoad_moves.mono rfl
  | keyErase => exact execKeyErase_moves.mono rfl
  | keygenInstall => exact execKeygenInstall_moves.mono rfl
  | keygenRetire => exact execKeygenRetire_moves.mono rfl
  | keygenEffect => exact execKeygenEffect_moves.mono rfl
  | keygen => exact execKeygen_moves.mono rfl
  | useGrant => exact execUseGrant_moves.mono rfl
  | ceilingWriteDone => exact execCeilingWriteDone_moves.mono rfl
  | tinUnitRestore => exact execTinUnitRestore_moves.mono rfl
  | slotLandingDone => exact execSlotLandingDone_moves.mono rfl
  | mirGrain => exact execMirGrain_moves.mono rfl
  | mirAck => exact execMirAck_moves.mono rfl
  | mirNak => exact execMirNak_moves.mono rfl
  | mirrorTimeout => exact execMirrorTimeout_moves.mono rfl
  | slotReady => exact execSlotReady_moves.mono rfl
  | mirStamp => exact execMirStamp_moves.mono rfl
  | mirRelease => exact execMirRelease_moves.mono rfl
  | mirFree => exact execMirFree_moves.mono rfl
  | mirHold => exact execMirHold_moves.mono rfl
  | mirQuench => exact execMirQuench_moves.mono rfl
  | writeThroughDone => exact execWriteThroughDone_moves.mono rfl
  | mirrorResume => exact execMirrorResume_moves.mono rfl
  | overBudgetCloseTick => exact execOverBudgetCloseTick_moves.mono rfl
  | holdSenseSample => exact execHoldSenseSample_moves.mono rfl
  | holdEnergyRecompute => exact execHoldEnergyRecompute_moves.mono rfl
  | holdTestStart => exact execHoldTestStart_moves.mono rfl
  | testNow => exact execTestNow_moves.mono rfl
  | holdTestEnd => exact execHoldTestEnd_moves.mono rfl
  | holdTrip => exact execHoldTrip_moves.mono rfl
  | adoptionComplete => exact execAdoptionComplete_moves.mono rfl
  | catchupDone => exact execCatchupDone_moves.mono rfl
  | pwrfailNLow => exact execPwrfailNLow_moves.mono rfl
  | quenchStart => exact execQuenchStart_moves.mono rfl
  | quenchDirDone => exact execQuenchDirDone_moves.mono rfl
  | quenchDataDone => exact execQuenchDataDone_moves.mono rfl
  | quenchRailRelease => exact execQuenchRailRelease_moves.mono rfl
  | restoreLoad => exact execRestoreLoad_moves.mono rfl
  | restoreDone => exact execRestoreDone_moves.mono rfl
  | castStart => exact execCastStart_moves.mono rfl
  | sjEntry => exact execSjEntry_moves.mono rfl
  | sjMark => exact execSjMark_moves.mono rfl
  | ljRecord => exact execLjRecord_moves.mono rfl
  | jAck => exact execJAck_moves.mono rfl
  | journalAckTimeout => exact execJournalAckTimeout_moves.mono rfl
  | memberAppendDone => exact execMemberAppendDone_moves.mono rfl
  | appendFail => exact execAppendFail_moves.mono rfl
  | amendRetryTick => exact execAmendRetryTick_moves.mono rfl
  | journalResolve => exact execJournalResolve_moves.mono rfl
  | detourExpiry => exact execDetourExpiry_moves.mono rfl
  | ejectTimeout => exact execEjectTimeout_moves.mono rfl
  | modEject => exact execModEject_moves.mono rfl
  | deferredEject => exact execDeferredEject_moves.mono rfl
  | rebuildScan => exact execRebuildScan_moves.mono rfl
  | rebuildStart => exact execRebuildStart_moves.mono rfl
  | rebuildDecodeDone => exact execRebuildDecodeDone_moves.mono rfl
  | rebuildAppendsDone => exact execRebuildAppendsDone_moves.mono rfl
  | rebuildBucketRefill => exact execRebuildBucketRefill_moves.mono rfl
  | sweepPassStart => exact execSweepPassStart_moves.mono rfl
  | sweepPassEnd => exact execSweepPassEnd_moves.mono rfl
  | moduleLinkUp => exact execModuleLinkUp_moves.mono rfl
  | moduleAdmit => exact execModuleAdmit_moves.mono rfl
  | moduleRetire => exact execModuleRetire_moves.mono rfl
  | presenceLost => exact execPresenceLost_moves.mono rfl
  | retrainTimeout => exact execRetrainTimeout_moves.mono rfl
  | sidebandPoll => exact execSidebandPoll_moves.mono rfl
  | healthPoll => exact execHealthPoll_moves.mono rfl
  | chunkGrant => exact execChunkGrant_moves.mono rfl
  | zoneResetDone => exact execZoneResetDone_moves.mono rfl
  | zoneReturn => exact execZoneReturn_moves.mono rfl
  | anlWorkSelect => exact execAnlWorkSelect_moves.mono rfl
  | relocationClaim => exact execRelocationClaim_moves.mono rfl
  | relocationCopy => exact execRelocationCopy_moves.mono rfl
  | memberMove => exact execMemberMove_moves.mono rfl
  | anlBucketRefill => exact execAnlBucketRefill_moves.mono rfl
  | rekeyStart => exact execRekeyStart_moves.mono rfl
  | rekeyDone => exact execRekeyDone_moves.mono rfl
  | spineRead => exact execSpineRead_moves.mono rfl
  | startupReconcile => exact execStartupReconcile_moves.mono rfl
  | nvmeCommandCompletion => exact execNvmeCommandCompletion_moves.mono rfl
  | reservationRegister => exact execReservationRegister_moves.mono rfl
  | hostRead => exact execHostRead_moves.mono rfl
  | hostVerify => exact execHostVerify_moves.mono rfl
  | hostCompare => exact execHostCompare_moves.mono rfl
  | fill => exact execFill_moves.mono rfl
  | verifyHit => exact execVerifyHit_moves.mono rfl
  | page => exact execPage_moves.mono rfl
  | reseal => exact execReseal_moves.mono rfl
  | memberReadDone => exact execMemberReadDone_moves.mono rfl
  | reconstructReadsDone => exact execReconstructReadsDone_moves.mono rfl
  | readLimitExpiry => exact execReadLimitExpiry_moves.mono rfl
  | rcFilterClear => exact execRcFilterClear_moves.mono rfl
  | rcClear => exact execRcClear_moves.mono rfl
  | netModeWrite => exact execNetModeWrite_moves.mono rfl
  | frameReceive => exact execFrameReceive_moves.mono rfl
  | excTxSend => exact execExcTxSend_moves.mono rfl
  | pfcXoffRefresh => exact execPfcXoffRefresh_moves.mono rfl
  | pauseReceive => exact execPauseReceive_moves.mono rfl
  | pauseExpiry => exact execPauseExpiry_moves.mono rfl
  | pfcStormEntry => exact execPfcStormEntry_moves.mono rfl
  | pfcStormExit => exact execPfcStormExit_moves.mono rfl
  | temperRise => exact execTemperRise_moves.mono rfl
  | cnp => exact execCnp_moves.mono rfl
  | roceSend => exact execRoceSend_moves.mono rfl
  | rdmaWrite => exact execRdmaWrite_moves.mono rfl
  | rdmaReadRequest => exact execRdmaReadRequest_moves.mono rfl
  | rdmaReadResponse => exact execRdmaReadResponse_moves.mono rfl
  | roceAck => exact execRoceAck_moves.mono rfl
  | rnrNak => exact execRnrNak_moves.mono rfl
  | compareAndSwap => exact execCompareAndSwap_moves.mono rfl
  | fetchAndAdd => exact execFetchAndAdd_moves.mono rfl
  | spWrite => exact execSpWrite_moves.mono rfl
  | spSend => exact execSpSend_moves.mono rfl
  | spReadResp => exact execSpReadResp_moves.mono rfl
  | spNak => exact execSpNak_moves.mono rfl
  | spGapExpiry => exact execSpGapExpiry_moves.mono rfl
  | retransmitTimeout => exact execRetransmitTimeout_moves.mono rfl
  | ctxFetchDone => exact execCtxFetchDone_moves.mono rfl
  | qpInit => exact execQpInit_moves.mono rfl
  | qpRtr => exact execQpRtr_moves.mono rfl
  | qpRts => exact execQpRts_moves.mono rfl
  | qpError => exact execQpError_moves.mono rfl
  | qpReset => exact execQpReset_moves.mono rfl
  | qpQuery => exact execQpQuery_moves.mono rfl
  | qpTest => exact execQpTest_moves.mono rfl
  | winOpen => exact execWinOpen_moves.mono rfl
  | winRevoke => exact execWinRevoke_moves.mono rfl
  | revokeDrained => exact execRevokeDrained_moves.mono rfl
  | grpStart => exact execGrpStart_moves.mono rfl
  | grpShipNow => exact execGrpShipNow_moves.mono rfl
  | grpResume => exact execGrpResume_moves.mono rfl
  | grpStop => exact execGrpStop_moves.mono rfl
  | grpFull => exact execGrpFull_moves.mono rfl
  | grpNsAdd => exact execGrpNsAdd_moves.mono rfl
  | grpNsRemove => exact execGrpNsRemove_moves.mono rfl
  | deltaStart => exact execDeltaStart_moves.mono rfl
  | shipTimer => exact execShipTimer_moves.mono rfl
  | segmentSealed => exact execSegmentSealed_moves.mono rfl
  | segmentWriteAck => exact execSegmentWriteAck_moves.mono rfl
  | publishResult => exact execPublishResult_moves.mono rfl
  | controlPoll => exact execControlPoll_moves.mono rfl
  | segmentApply => exact execSegmentApply_moves.mono rfl
  | segmentApplied => exact execSegmentApplied_moves.mono rfl
  | leaseRenew => exact execLeaseRenew_moves.mono rfl
  | leaseCheck => exact execLeaseCheck_moves.mono rfl
  | flitReceive => exact execFlitReceive_moves.mono rfl
  | alignFlit => exact execAlignFlit_moves.mono rfl
  | nak => exact execNak_moves.mono rfl
  | ackTimer => exact execAckTimer_moves.mono rfl
  | retryTimeout => exact execRetryTimeout_moves.mono rfl
  | laneLock => exact execLaneLock_moves.mono rfl
  | helloTimer => exact execHelloTimer_moves.mono rfl
  | hello => exact execHello_moves.mono rfl
  | retrain => exact execRetrain_moves.mono rfl
  | laneFail => exact execLaneFail_moves.mono rfl
  | narrow => exact execNarrow_moves.mono rfl
  | linkWiden => exact execLinkWiden_moves.mono rfl
  | dropMsg c => exact (execDropMsg_moves (x0 := c)).mono rfl
  | noFlitTimeout => exact execNoFlitTimeout_moves.mono rfl
  | fetchSlot => exact execFetchSlot_moves.mono rfl
  | slotData n h d => exact (execSlotData_moves (x1 := h)).mono rfl
  | fetchLj => exact execFetchLj_moves.mono rfl
  | ljData => exact execLjData_moves.mono rfl
  | fetchSj => exact execFetchSj_moves.mono rfl
  | sjData => exact execSjData_moves.mono rfl
  | fetchNak => exact execFetchNak_moves.mono rfl
  | handoverOffer => exact execHandoverOffer_moves.mono rfl
  | handoverAccept => exact execHandoverAccept_moves.mono rfl
  | handover => exact execHandover_moves.mono rfl
  | handoverAck => exact execHandoverAck_moves.mono rfl
  | handoverNak => exact execHandoverNak_moves.mono rfl
  | stepDownMessage => exact execStepDownMessage_moves.mono rfl
  | heartbeatTimer => exact execHeartbeatTimer_moves.mono rfl
  | heartbeat => exact execHeartbeat_moves.mono rfl
  | hbMissed => exact execHbMissed_moves.mono rfl
  | hbKick => exact execHbKick_moves.mono rfl
  | hbKickTimeout => exact execHbKickTimeout_moves.mono rfl
  | fenceDelayExpiry => exact execFenceDelayExpiry_moves.mono rfl
  | arbiterPreemptDone => exact execArbiterPreemptDone_moves.mono rfl
  | fencePreemptsDone => exact execFencePreemptsDone_moves.mono rfl
  | take => exact execTake_moves.mono rfl
  | force => exact execForce_moves.mono rfl
  | takeCmdStepDown => exact execTakeCmdStepDown_moves.mono rfl
  | cvuMessage => exact execCvuMessage_moves.mono rfl
  | cvuArm => exact execCvuArm_moves.mono rfl
  | cvuDisarm => exact execCvuDisarm_moves.mono rfl
  | cvuResSeqRead => exact execCvuResSeqRead_moves.mono rfl
  | memoryAccess => exact execMemoryAccess_moves.mono rfl
  | scRetire => exact execScRetire_moves.mono rfl
  | spRemap => exact execSpRemap_moves.mono rfl
  | scCommandDone => exact execScCommandDone_moves.mono rfl
  | maintClean => exact execMaintClean_moves.mono rfl
  | maintInval => exact execMaintInval_moves.mono rfl
  | maintCleanInval => exact execMaintCleanInval_moves.mono rfl
  | maintCleanAll => exact execMaintCleanAll_moves.mono rfl
  | maintDone => exact execMaintDone_moves.mono rfl
  | patrolScrub => exact execPatrolScrub_moves.mono rfl
  | dimmThermal => exact execDimmThermal_moves.mono rfl
  | memoryTrainingDone => exact execMemoryTrainingDone_moves.mono rfl
  | dimmLost => exact execDimmLost_moves.mono rfl
  | eventOccurrence => exact execEventOccurrence_moves.mono rfl
  | eventRingWrite => exact execEventRingWrite_moves.mono rfl
  | signal => exact execSignal_moves.mono rfl
  | evqDone => exact execEvqDone_moves.mono rfl
  | srcMaskWrite => exact execSrcMaskWrite_moves.mono rfl
  | ringConsWrite => exact execRingConsWrite_moves.mono rfl
  | eventRingEnable => exact execEventRingEnable_moves.mono rfl
  | hallmarkOccurrence => exact execHallmarkOccurrence_moves.mono rfl
  | hallmarkWrite => exact execHallmarkWrite_moves.mono rfl
  | rateWindowTick => exact execRateWindowTick_moves.mono rfl
  | hlmScan => exact execHlmScan_moves.mono rfl
  | exportCmd => exact execExportCmd_moves.mono rfl
  | exportDone => exact execExportDone_moves.mono rfl
  | fwPost => exact execFwPost_moves.mono rfl
  | tmkLoad => exact execTmkLoad_moves.mono rfl
  | tmkCommit => exact execTmkCommit_moves.mono rfl
  | tmkCommitDone => exact execTmkCommitDone_moves.mono rfl
  | tmkConfirm => exact execTmkConfirm_moves.mono rfl
  | tmkRevert => exact execTmkRevert_moves.mono rfl
  | pllLockLoss => exact execPllLockLoss_moves.mono rfl
  | pllRelockDone => exact execPllRelockDone_moves.mono rfl
  | pllRelockTimeout => exact execPllRelockTimeout_moves.mono rfl
  | refMeasure => exact execRefMeasure_moves.mono rfl
  | coreClockLoss => exact execCoreClockLoss_moves.mono rfl
  | xtalLost => exact execXtalLost_moves.mono rfl
  | ctlFreqSwitch => exact execCtlFreqSwitch_moves.mono rfl
  | debugAccessResume => exact execDebugAccessResume_moves.mono rfl
  | lcArm => exact execLcArm_moves.mono rfl
  | lcMint => exact execLcMint_moves.mono rfl
  | lcOwn => exact execLcOwn_moves.mono rfl
  | lcRetire => exact execLcRetire_moves.mono rfl
  | ownerLockSet => exact execOwnerLockSet_moves.mono rfl
  | d1Grant => exact execD1Grant_moves.mono rfl
  | d0Return => exact execD0Return_moves.mono rfl
  | dbgChallenge => exact execDbgChallenge_moves.mono rfl
  | dbgResponse => exact execDbgResponse_moves.mono rfl
  | dbgAccessRead => exact execDbgAccessRead_moves.mono rfl
  | dbgAccessWrite => exact execDbgAccessWrite_moves.mono rfl
  | extest => exact execExtest_moves.mono rfl
  | samplePreload => exact execSamplePreload_moves.mono rfl
  | idcode => exact execIdcode_moves.mono rfl
  | clamp => exact execClamp_moves.mono rfl
  | highz => exact execHighz_moves.mono rfl
  | bypass => exact execBypass_moves.mono rfl
  | trstNAssert => exact execTrstNAssert_moves.mono rfl
  | pwrP0 => exact execPwrP0_moves.mono rfl
  | pwrP1 => exact execPwrP1_moves.mono rfl
  | pwrP2 => exact execPwrP2_moves.mono rfl
  | pwrQuench => exact execPwrQuench_moves.mono rfl
  | powerEntryDone => exact execPowerEntryDone_moves.mono rfl
  | avsUpdate => exact execAvsUpdate_moves.mono rfl
  | pohTick => exact execPohTick_moves.mono rfl
  | thermalSample => exact execThermalSample_moves.mono rfl
  | throttleStep => exact execThrottleStep_moves.mono rfl
  | powerSample => exact execPowerSample_moves.mono rfl
  | fwuStage => exact execFwuStage_moves.mono rfl
  | fwuVerify => exact execFwuVerify_moves.mono rfl
  | fwuActivate => exact execFwuActivate_moves.mono rfl
  | fwuConfirm => exact execFwuConfirm_moves.mono rfl
  | fwuCommandDone => exact execFwuCommandDone_moves.mono rfl
  | confirmTimeout => exact execConfirmTimeout_moves.mono rfl
  | powerOnReset => exact execPowerOnReset_moves.mono rfl
  | aonPllLock => exact execAonPllLock_moves.mono rfl
  | resetNAssert => exact execResetNAssert_moves.mono rfl
  | chipReset => exact execChipReset_moves.mono rfl
  | bootRomRun => exact execBootRomRun_moves.mono rfl
  | bootRetry => exact execBootRetry_moves.mono rfl
  | portTrainTimeout => exact execPortTrainTimeout_moves.mono rfl
  | earlyCloseDue => exact execEarlyCloseDue_moves.mono rfl
  | portLinkUp => exact execPortLinkUp_moves.mono rfl
  | portLinkDown => exact execPortLinkDown_moves.mono rfl
  | flashLinkDrop => exact execFlashLinkDrop_moves.mono rfl
  | completionTimeout => exact execCompletionTimeout_moves.mono rfl
  | fatalAer => exact execFatalAer_moves.mono rfl
  | dpcContainment => exact execDpcContainment_moves.mono rfl
  | controllerFatalStatus => exact execControllerFatalStatus_moves.mono rfl
  | mramStackLost => exact execMramStackLost_moves.mono rfl
  | norLost => exact execNorLost_moves.mono rfl
  | serdesLaneLockLoss => exact execSerdesLaneLockLoss_moves.mono rfl
  | serdesLanePllLost => exact execSerdesLanePllLost_moves.mono rfl
  | vinAonLow => exact execVinAonLow_moves.mono rfl
  | vinAonLoss => exact execVinAonLoss_moves.mono rfl

/-- Every command answers a next state: all but two meanings are one `.next`, and those two are one in either branch. -/
theorem exec_goes (i : Instr) (s : State) : ∃ t, exec i s = .next t := by
  cases i
  case hlmScan =>
    change ∃ t, execHlmScan s = .next t
    unfold execHlmScan
    split <;> exact ⟨_, rfl⟩
  case exportCmd v =>
    change ∃ t, execExportCmd v s = .next t
    unfold execExportCmd
    split <;> exact ⟨_, rfl⟩
  all_goals exact ⟨_, rfl⟩

/-! A step, by its queue (log entry 1). -/

/-- Settles O35: `step` looks at the queue alone. -/
theorem stepRunsTheFrontCommand : Obligations.StepRunsTheFrontCommand := by
  intro c q s h
  unfold step
  rw [h]

theorem step_of_empty {s : State} (h : s.pending = []) : step s = .next (idleTick s) := by
  unfold step
  rw [h]

/-- Settles O39, from what every command keeps. The canonical form is the model's representation of what is stored by address (R21,
R338). -/
theorem everyStepKeepsWhatIsStored : Obligations.EveryStepKeepsWhatIsStored := by
  intro s t hs h
  cases hq : s.pending with
  | nil =>
    rw [step_of_empty hq] at h
    exact (Ends.next idleTick_moves t h).stored hs
  | cons c q =>
    rw [stepRunsTheFrontCommand c q s hq] at h
    exact (exec_ends c _ t h).stored ⟨hs.mem, hs.qst, hs.nor, hs.regs⟩

/-- Settles O41: no meaning faults or is refused. -/
theorem everyStepGoesOn : Obligations.EveryStepGoesOn := by
  intro s
  unfold SafeStep
  cases hq : s.pending with
  | nil => exact ⟨_, step_of_empty hq⟩
  | cons c q =>
    rw [stepRunsTheFrontCommand c q s hq]
    exact exec_goes c _

/-- Settles O42: the queue is no part that a command reaches. -/
theorem noCommandTouchesTheQueue : Obligations.NoCommandTouchesTheQueue := fun i s t h =>
  (exec_ends i s t h).within .pending rfl

/-! Frames. -/

/-- A command whose meaning changes some of the parts named leaves the others. -/
theorem Ends.leaves {i : Instr} {ps : List Part} {m : Nat} (h : ∀ s, Ends m s (exec i s)) (e : m &&& parts ps = m) : Leaves i ps :=
  fun s _ k => ((h s _ k).mono e).within

/-- Settles O49, from what each command's meaning may change. -/
theorem pageAndQueueCommandsLeaveTheRest : Obligations.PageAndQueueCommandsLeaveTheRest := by
  unfold Obligations.PageAndQueueCommandsLeaveTheRest
  refine ⟨?_, ?_, ?_, ?_, ?_, ?_, ?_, ?_, ?_, ?_, ?_, ?_, ?_, ?_, ?_, ?_, ?_, ?_, ?_, ?_, ?_, ?_, ?_, ?_, ?_, ?_, ?_, ?_, ?_⟩
  · exact fun _ _ _ _ => Ends.leaves (fun _ => execCsrRegisterWrite_moves) rfl
  · exact fun _ _ _ _ w => Ends.leaves (fun _ => execCsrNarrowAccess_moves (x4 := w)) rfl
  · exact fun _ _ _ _ => Ends.leaves (fun _ => execCsrUndefinedOffsetAccess_moves) rfl
  · exact fun _ _ _ _ => Ends.leaves (fun _ => execCsrAbsentPageAccess_moves) rfl
  · exact fun _ _ _ => Ends.leaves (fun _ => execLowWordRead_moves) rfl
  · exact fun _ _ _ _ => Ends.leaves (fun _ => execLowWordWrite_moves) rfl
  · exact fun _ _ _ _ => Ends.leaves (fun _ => execHighWordWrite_moves) rfl
  · exact fun _ _ _ => Ends.leaves (fun _ => execReadClearCounterRead_moves) rfl
  · exact fun _ _ _ => Ends.leaves (fun _ => execClkStoppedTimeout_moves) rfl
  · exact fun _ _ => Ends.leaves (fun _ => execPgEnable_moves) rfl
  · exact fun _ _ => Ends.leaves (fun _ => execPgDisable_moves) rfl
  · exact fun _ _ => Ends.leaves (fun _ => execRunReq_moves) rfl
  · exact fun _ => Ends.leaves (fun _ => execPageReady_moves) rfl
  · exact fun _ _ => Ends.leaves (fun _ => execQuiesceSet_moves) rfl
  · exact fun _ _ => Ends.leaves (fun _ => execQuiesceClear_moves) rfl
  · exact fun _ => Ends.leaves (fun _ => execPageDrainComplete_moves) rfl
  · exact fun _ => Ends.leaves (fun _ => execDisableBoundExpiry_moves) rfl
  · exact fun _ _ => Ends.leaves (fun _ => execSoftReset_moves) rfl
  · exact fun _ => Ends.leaves (fun _ => execSoftResetComplete_moves) rfl
  · exact fun _ _ => Ends.leaves (fun _ => execFaultClr_moves) rfl
  · exact fun _ _ _ => Ends.leaves (fun _ => execFeatAskWrite_moves) rfl
  · exact fun _ _ => Ends.leaves (fun _ => execPgEvrouteWrite_moves) rfl
  · exact fun _ _ => Ends.leaves (fun _ => execPgLockWrite_moves) rfl
  · exact fun _ _ _ => Ends.leaves (fun _ => execQueueEntryArrive_moves) rfl
  · exact fun _ _ => Ends.leaves (fun _ => execCreditReturn_moves) rfl
  · exact fun _ _ _ _ => Ends.leaves (fun _ => execFarSideReset_moves) rfl
  · exact fun _ _ _ => Ends.leaves (fun _ => execCrossingFlushTimeout_moves) rfl
  · exact fun _ _ _ => Ends.leaves (fun _ => execEngineDoorbell_moves) rfl
  · exact fun _ _ => Ends.leaves (fun _ => execEngineCompletionWrite_moves) rfl

end Sys2Proof.Machine
end

section
/-! PROOFS. Register accesses (O1, O43, O45, O46). -/

namespace Sys2Proof.Machine

/-! A register access at a page that is absent, at an offset without a register, and at a register (R23 to R29). -/

theorem atRegister_runs {m p off : Nat} {act : State → State} {s : State} (hp : pageExists p = true)
    (hc : clockStopped s p off = false) : atRegister m p off act s = act s := by
  simp [atRegister, hp, hc]

theorem csrWrite_absent {m p off : Nat} {v : W32} {s : State} (hp : pageExists p = false) : csrWrite m p off v s = s := by
  simp [csrWrite, hp]

theorem csrRead_absent {m p off : Nat} {s : State} (hp : pageExists p = false) : csrRead m p off s = emit (.csrData m 0) s := by
  simp [csrRead, readWord, hp]

section Present

variable {m p off : Nat} {v : W32} {s : State} {r : RegDef}

theorem csrWrite_undefined (hp : pageExists p = true) (hc : clockStopped s p off = false) (hr : regAt p off = none) :
    csrWrite m p off v s = recordFault p cBAD_ACCESS off s := by
  simp [csrWrite, hp, hc, hr]

theorem csrRead_undefined (hp : pageExists p = true) (hc : clockStopped s p off = false) (hr : regAt p off = none) :
    csrRead m p off s = emit (.csrData m 0) (recordFault p cBAD_ACCESS off s) := by
  simp [csrRead, readWord, hp, hc, hr]

theorem csrRead_register (hp : pageExists p = true) (hc : clockStopped s p off = false) (hr : regAt p off = some r) :
    csrRead m p off s = emit (.csrData m (readReg m p off r s).1) (readReg m p off r s).2 := by
  simp [csrRead, readWord, hp, hc, hr]

theorem csrWrite_word (hp : pageExists p = true) (hc : clockStopped s p off = false) (hr : regAt p off = some r) (ho : 0x100 ≤ off)
    (hh : r.half = .word) (hw : ownWrite m p off v s = none) : csrWrite m p off v s = wordStore p off r v s := by
  simp [csrWrite, hp, hc, hr, Nat.not_lt.mpr ho, hh, hw]

theorem csrWrite_low (hp : pageExists p = true) (hc : clockStopped s p off = false) (hr : regAt p off = some r) (ho : 0x100 ≤ off)
    (hh : r.half = .low) : csrWrite m p off v s = { s with held := Tab.put s.held (mkey m p off) v } := by
  simp [csrWrite, hp, hc, hr, Nat.not_lt.mpr ho, hh]

theorem csrWrite_high (hp : pageExists p = true) (hc : clockStopped s p off = false) (hr : regAt p off = some r) (ho : 0x100 ≤ off)
    (hh : r.half = .high) : csrWrite m p off v s = pairStore p off r (Tab.find? s.held (mkey m p (off - 4))) v
      { s with held := Tab.erase s.held (mkey m p (off - 4)) } := by
  simp [csrWrite, hp, hc, hr, Nat.not_lt.mpr ho, hh]

theorem readReg_low (hh : r.half = .low) : readReg m p off r s = (viewWord s m p off,
    { clearRead p off r s with latch := Tab.put (clearRead p off r s).latch (mkey m p off) (viewWord s m p (off + 4)) }) := by
  simp [readReg, hh]

theorem readReg_word (hh : r.half = .word) :
    readReg m p off r s = (viewWord s m p off, latchBlock m p off (clearRead p off r s)) := by
  simp [readReg, hh]

end Present

/-! What a read clears (R36). -/

/-- A counter of 32 bits that a read clears. -/
theorem cleared_counter {r : RegDef} (hf : r.fields = [F.rc 31 0]) (w : W32) : r.cleared w = 0 := by
  have hw := w.isLt
  simp only [RegDef.cleared, hf, List.foldl_cons, List.foldl_nil, F.rc, F.any, if_true, putBits]
  rw [Nat.div_eq_of_lt hw]
  simp [Nat.mod_one]

/-- A counter that lies behind no selector holds 0 after a read. -/
theorem clearRead_counter {p off : Nat} {r : RegDef} {s : State} (hf : r.fields = [F.rc 31 0]) (hn : clsOf p ≠ 0x20) (hi : p ≠ pgING) :
    rd (clearRead p off r s) p off = 0 ∧ (clearRead p off r s).out = s.out := by
  unfold clearRead
  rw [if_neg (fun h => hi h.1), if_neg (fun h => hi h.1), if_neg (fun h => hi h.1), if_neg (fun h => hn h.1), cleared_counter hf]
  split
  next h => exact ⟨h.symm, rfl⟩
  next => exact ⟨rd_wr_self .., rfl⟩

/-- Latching a block of results changes no register and sends nothing. -/
theorem latchBlock_frame (m p off : Nat) (s : State) :
    (latchBlock m p off s).regs = s.regs ∧ (latchBlock m p off s).a0 = s.a0 ∧ (latchBlock m p off s).out = s.out := by
  unfold latchBlock
  split
  · exact ⟨rfl, rfl, rfl⟩
  · split
    · exact ⟨rfl, rfl, rfl⟩
    · split <;> exact ⟨rfl, rfl, rfl⟩

theorem csrRead_counter {m p off : Nat} {r : RegDef} {s : State} (hp : pageExists p = true) (hc : clockStopped s p off = false)
    (hr : regAt p off = some r) (hh : r.half = .word) (hf : r.fields = [F.rc 31 0]) (hn : clsOf p ≠ 0x20) (hi : p ≠ pgING) :
    rd (csrRead m p off s) p off = 0 ∧ (csrRead m p off s).out = s.out ++ [.csrData m (viewWord s m p off)] := by
  obtain ⟨hz, ho⟩ := clearRead_counter (p := p) (off := off) (s := s) hf hn hi
  obtain ⟨hregs, ha, hout⟩ := latchBlock_frame m p off (clearRead p off r s)
  rw [csrRead_register hp hc hr, readReg_word hh]
  refine ⟨?_, ?_⟩
  · exact (rd_congr hregs ha p off).trans hz
  · exact congrArg (· ++ [Msg.csrData m (viewWord s m p off)]) (hout.trans ho)

/-- Settles O1, access by access: each row is a read or a write of its word where it names the event. -/
theorem registerAccessCompletes : Obligations.RegisterAccessCompletes := by
  unfold Obligations.RegisterAccessCompletes
  refine ⟨?_, ?_, ?_, ?_, ?_, ?_, ?_, ?_, ?_, ?_⟩
  · intro m p off v r s hp hc hr ho hh hw
    exact congrArg Host.Outcome.next (csrWrite_word hp hc hr ho hh hw)
  · intro m p off n w s hp hn
    exact congrArg Host.Outcome.next (by simp [hn, narrowAccess, hp])
  · intro m p off s hp hc hr
    exact congrArg Host.Outcome.next (by simp [hp, hr, csrWrite_undefined hp hc hr])
  · intro m p off s hp hc hr
    exact congrArg Host.Outcome.next (by simp [hp, hr, csrRead_undefined hp hc hr])
  · intro m p off w s hp
    exact congrArg Host.Outcome.next (by simp [hp, csrWrite_absent hp, csrRead_absent hp])
  · intro m p off r s hp hc hr hh
    refine ⟨_, congrArg Host.Outcome.next (csrRead_register hp hc hr), ?_⟩
    rw [readReg_low hh]
    exact ⟨rfl, rfl⟩
  · intro m p off v r s hp hc hr ho hh
    exact congrArg Host.Outcome.next (by simp [hr, hh, csrWrite_low hp hc hr ho hh])
  · intro m p off v r s hp hc hr ho hh
    exact congrArg Host.Outcome.next (by simp [hr, hh, csrWrite_high hp hc hr ho hh])
  · intro m p off r s hp hc hr hh hf hn hi
    exact ⟨_, rfl, csrRead_counter hp hc hr hh hf hn hi⟩
  · intro m p off s hp hc
    exact congrArg Host.Outcome.next (by simp [hp, hc])

/-- Settles O43: an access stops at a page number that names no page. -/
theorem absentPagesReadZero : Obligations.AbsentPagesReadZero := by
  unfold Obligations.AbsentPagesReadZero
  intro m p off s hp
  exact ⟨congrArg Host.Outcome.next (by simp [hp, csrRead_absent hp, emit]),
    congrArg Host.Outcome.next (by simp [hp, csrWrite_absent hp])⟩

/-! A cause that is not fatal (R36). -/

theorem recordFault_nonfatal {p cause off : Nat} {s : State} (h : cause < 0x40) : recordFault p cause off s = noteFault p cause off s := by
  simp [recordFault, isFatal, Nat.not_le.mpr h]

theorem rd_noteFault_fault (p cause off : Nat) (s : State) :
    rd (noteFault p cause off s) p 0x048 = faultWord (rd s p 0x048) cause off := by
  simp [noteFault, bump]

theorem OnlyRegs.wr_of_mem {p off : Nat} {v : W32} {offs : List Nat} {s t : State} (h : OnlyRegs p offs s t) (hm : off ∈ offs) :
    OnlyRegs p offs s (wr p off v t) := by
  obtain ⟨he, hr⟩ := h
  refine ⟨?_, fun q o hq => ?_⟩
  · rw [he]
    rfl
  · have hne : rk q o ≠ rk p off := fun e => hq (by rw [e]; exact List.mem_map_of_mem hm)
    rw [rd_wr_of_ne v t hne, hr q o hq]

theorem OnlyRegs.refl (p : Nat) (offs : List Nat) (s : State) : OnlyRegs p offs s s := ⟨rfl, fun _ _ _ => rfl⟩

theorem OnlyRegs.emit {p : Nat} {offs : List Nat} {s t : State} (h : OnlyRegs p offs s t) (m : Msg) : OnlyRegs p offs s (emit m t) := by
  obtain ⟨he, hr⟩ := h
  refine ⟨?_, hr⟩
  rw [he]
  rfl

theorem noteFault_onlyRegs (p cause off : Nat) (s : State) : OnlyRegs p [0x048, 0x04C] s (noteFault p cause off s) :=
  ((OnlyRegs.refl p _ s).wr_of_mem (by simp)).wr_of_mem (by simp)

/-- What a non-fatal cause leaves: the fault word by the rule of the first cause, the count, and nothing else. -/
theorem recordFault_nonfatal_leaves {p cause off : Nat} {s : State} (h : cause < 0x40) :
    rd (recordFault p cause off s) p 0x048 = faultWord (rd s p 0x048) cause off ∧ (recordFault p cause off s).out = s.out ∧
      OnlyRegs p [0x048, 0x04C] s (recordFault p cause off s) := by
  rw [recordFault_nonfatal h]
  exact ⟨rd_noteFault_fault p cause off s, rfl, noteFault_onlyRegs p cause off s⟩

/-- Settles O45, from the clauses on undefined offsets and what a non-fatal cause leaves. -/
theorem undefinedOffsetReadsZero : Obligations.UndefinedOffsetReadsZero := by
  unfold Obligations.UndefinedOffsetReadsZero
  obtain ⟨-, -, hwrite, hread, -⟩ := registerAccessCompletes
  refine ⟨fun m p off s hp hc hr => ⟨_, hread m p off s hp hc hr, ?_⟩,
    fun m p off s hp hc hr => ⟨_, hwrite m p off s hp hc hr, ?_⟩⟩
  all_goals obtain ⟨hw, ho, hf⟩ := recordFault_nonfatal_leaves (p := p) (off := off) (s := s) (cause := cBAD_ACCESS) (by decide)
  · exact ⟨congrArg (· ++ _) ho, hw, hf.emit _⟩
  · exact ⟨ho, hw, hf⟩

/-! FEAT_ASK (R35, R41). -/

theorem exec_featAskWrite {p i : Nat} {v : W32} {s : State} (hp : pageExists p = true) (hc : clockStopped s p (0x018 + 4 * i) = false) :
    exec (.featAskWrite p i v) s = .next (featAskWrite p i v s) :=
  congrArg Host.Outcome.next (atRegister_runs hp hc)

theorem featAskWrite_stores {p i : Nat} {v : W32} {s : State} (hl : locked s p 1 = false)
    (hst : pgState s p = stOFF ∨ pgState s p = stSTART) : featAskWrite p i v s = wr p (0x018 + 4 * i) v s := by
  rcases hst with h | h <;> simp [featAskWrite, hl, h]

theorem featAskWrite_late {p i : Nat} {v : W32} {s : State} (hl : locked s p 1 = false) (hoff : pgState s p ≠ stOFF)
    (hstart : pgState s p ≠ stSTART) : featAskWrite p i v s = recordFault p cFEAT_LATE (0x018 + 4 * i) s := by
  simp [featAskWrite, hl, hoff, hstart]

theorem featAskWrite_locked {p i : Nat} {v : W32} {s : State} (hl : locked s p 1 = true) :
    featAskWrite p i v s = recordFault p cLOCKED_WRITE (0x018 + 4 * i) s := by
  simp [featAskWrite, hl]

/-- Settles O46, by the three branches of the write. That a locked write in a late state records LOCKED_WRITE alone is the model's
choice (log entry 165). -/
theorem featureAskOnlyBeforeRun : Obligations.FeatureAskOnlyBeforeRun := by
  unfold Obligations.FeatureAskOnlyBeforeRun
  refine ⟨fun p i v s _ hp hc hl hst => ⟨_, exec_featAskWrite hp hc, ?_⟩,
    fun p i v s _ hp hc hl hoff hstart => ⟨_, exec_featAskWrite hp hc, ?_⟩,
    fun p i v s _ hp hc hl => ⟨_, exec_featAskWrite hp hc, ?_⟩⟩
  · rw [featAskWrite_stores hl hst]
    exact ⟨rd_wr_self .., rfl, (OnlyRegs.refl p _ s).wr_of_mem (by simp)⟩
  · rw [featAskWrite_late hl hoff hstart]
    exact recordFault_nonfatal_leaves (by decide)
  · rw [featAskWrite_locked hl]
    exact recordFault_nonfatal_leaves (by decide)

end Sys2Proof.Machine
end

section
/-! PROOFS. Page controls (O2). -/

namespace Sys2Proof.Machine

/-! A word with one field replaced, bit by bit. -/

theorem bit_ge {v : W32} {k : Nat} (h : 32 ≤ k) : bit v k = false :=
  Nat.testBit_lt_two_pow (Nat.lt_of_lt_of_le v.isLt (Nat.pow_le_pow_right (by decide) h))

theorem bit_putBits {v : W32} {hi lo x : Nat} (h : lo ≤ hi) (w : hi < 32) (k : Nat) :
    bit (putBits v hi lo x) k = if lo ≤ k ∧ k ≤ hi then x.testBit (k - lo) else bit v k := by
  by_cases hk : k < 32
  · have hm : v.toNat % 2 ^ lo < 2 ^ lo := Nat.mod_lt _ (Nat.two_pow_pos _)
    have hx : x % 2 ^ (hi - lo + 1) + 1 ≤ 2 ^ (hi - lo + 1) := Nat.mod_lt _ (Nat.two_pow_pos _)
    have hlow : 2 ^ lo * (x % 2 ^ (hi - lo + 1)) + v.toNat % 2 ^ lo < 2 ^ (hi + 1) := by
      calc 2 ^ lo * (x % 2 ^ (hi - lo + 1)) + v.toNat % 2 ^ lo
          < 2 ^ lo * (x % 2 ^ (hi - lo + 1) + 1) := by rw [Nat.mul_succ]; omega
        _ ≤ 2 ^ lo * 2 ^ (hi - lo + 1) := Nat.mul_le_mul_left _ hx
        _ = 2 ^ (hi + 1) := by rw [← Nat.pow_add]; congr 1; omega
    have hsplit : bit (putBits v hi lo x) k = (2 ^ (hi + 1) * (v.toNat / 2 ^ (hi + 1)) +
        (2 ^ lo * (x % 2 ^ (hi - lo + 1)) + v.toNat % 2 ^ lo)).testBit k := by
      simp only [bit, putBits, BitVec.toNat_ofNat, Nat.testBit_mod_two_pow, hk, decide_true, Bool.true_and]
      rw [Nat.mul_comm (v.toNat / _), Nat.mul_comm (x % _), Nat.add_assoc]
    rw [hsplit, Nat.testBit_two_pow_mul_add _ hlow, Nat.testBit_two_pow_mul_add _ hm, Nat.testBit_div_two_pow,
      Nat.testBit_mod_two_pow, Nat.testBit_mod_two_pow, bit]
    by_cases hkl : k < lo
    · simp [hkl, show k < hi + 1 by omega, Nat.not_le.mpr hkl]
    · by_cases hkh : k ≤ hi
      · simp [hkl, hkh, Nat.not_lt.mp hkl, Nat.lt_succ_of_le hkh, show k - lo < hi - lo + 1 by omega]
      · simp [hkh, show ¬ k < hi + 1 by omega, show k - (hi + 1) + (hi + 1) = k by omega]
  · rw [bit_ge (Nat.not_lt.mp hk), bit_ge (Nat.not_lt.mp hk), if_neg (by omega)]

/-- A field that lies outside the one replaced reads as before. -/
theorem bits_putBits_of_disjoint {v : W32} {hi lo x i j : Nat} (h : lo ≤ hi) (w : hi < 32) (hj : j ≤ i) (hd : i < lo ∨ hi < j) :
    bits (putBits v hi lo x) i j = bits v i j := by
  have hbit (u : W32) (k : Nat) : (bits u i j).testBit k = (decide (k < i - j + 1) && bit u (k + j)) := by
    rw [bits, Nat.testBit_mod_two_pow, Nat.testBit_div_two_pow, bit]
  refine Nat.eq_of_testBit_eq fun k => ?_
  rw [hbit, hbit, bit_putBits h w]
  by_cases hk : k < i - j + 1
  · rw [if_neg (by omega)]
  · simp [hk]

/-! PG_CTRL as a write leaves it (R32). -/

/-- The state after ENABLE and QUIESCE have taken their written values. -/
def ctrlSet (p en q : Nat) (s : State) : State := wrF p 0x040 2 2 q (wrF p 0x040 0 0 en s)

theorem rd_ctrlSet {p en q r o : Nat} (s : State) (h : o < 0x1000) (ho : o ≠ 0x040) : rd (ctrlSet p en q s) r o = rd s r o := by
  have hne : rk r o ≠ rk p 0x040 := by
    unfold rk
    omega
  exact (rd_wr_of_ne _ _ hne).trans (rd_wr_of_ne _ _ hne)

theorem rd_ctrlSet_ctrl (p en q : Nat) (s : State) :
    rd (ctrlSet p en q s) p 0x040 = putBits (putBits (rd s p 0x040) 0 0 en) 2 2 q := by
  simp [ctrlSet, wrF]

@[simp] theorem enable_ctrlSet (p en q : Nat) (s : State) : bit (rd (ctrlSet p en q s) p 0x040) 0 = en.testBit 0 := by
  simp [rd_ctrlSet_ctrl, bit_putBits]

@[simp] theorem quiesce_ctrlSet (p en q : Nat) (s : State) : bit (rd (ctrlSet p en q s) p 0x040) 2 = q.testBit 0 := by
  simp [rd_ctrlSet_ctrl, bit_putBits]

@[simp] theorem rd_ctrlSet_stat (p en q : Nat) (s : State) : rd (ctrlSet p en q s) p 0x044 = rd s p 0x044 :=
  rd_ctrlSet s (by decide) (by decide)

@[simp] theorem pgState_ctrlSet (p en q r : Nat) (s : State) : pgState (ctrlSet p en q s) r = pgState s r := by
  simp [pgState, rdF, rd_ctrlSet]

@[simp] theorem resetting_ctrlSet (p en q : Nat) (s : State) : resetting (ctrlSet p en q s) p = resetting s p := by
  simp [resetting]

@[simp] theorem tstate_ctrlSet (p en q : Nat) (s : State) : tstate (ctrlSet p en q s) = tstate s := by
  simp [tstate, rdF, rd_ctrlSet]

@[simp] theorem mayReset_ctrlSet (p en q r : Nat) (s : State) : mayReset (ctrlSet p en q s) r = mayReset s r := by
  simp [mayReset, alive, fwuHolding, rd_ctrlSet]

/-- Which pages are in use is a matter of NET_MODE and LANE_CFG alone (R406, R489, R780). -/
theorem usable_congr {s t : State} (hn : rd t pgNET 0x100 = rd s pgNET 0x100) (hf : rd t pgFLX 0x100 = rd s pgFLX 0x100) (p : Nat) :
    usable t p = usable s p := by
  have hmode : netMode t = netMode s := by rw [netMode, netMode, rdF, rdF, hn]
  have hports : netPorts t = netPorts s := by rw [netPorts, hmode, netPorts]
  have hthere (n : Nat) : portThere t n = portThere s n := by rw [portThere, portThere, rdF, rdF, hf]
  have huse (n : Nat) : srdUse t n = srdUse s n := by rw [srdUse, srdUse, rdF, rdF, hf, hmode]
  simp only [usable, hmode, hports, hthere, huse]

@[simp] theorem usable_ctrlSet (p en q r : Nat) (s : State) : usable (ctrlSet p en q s) r = usable s r :=
  usable_congr (rd_ctrlSet s (by decide) (by decide)) (rd_ctrlSet s (by decide) (by decide)) r

/-! A write of PG_CTRL to a page whose ENABLE field is not locked (R35, R38, R43 to R46). -/

/-- What a write of PG_CTRL does after its fields are stored: the soft reset, the moves, the run request. -/
def ctrlActs (p : Nat) (v : W32) (c : State) : State :=
  let still := resetting c p || (bit v 3 && mayReset c p)
  let s := if bit v 3 then softReset p c else c
  let s := if still then s else ctrlMoves p (bit v 0) s
  if bit v 1 then runRequest p s else s

theorem ctrlWrite_unlocked {p : Nat} {v : W32} {s : State} (hl : locked s p 0 = false) (hb : bits v 31 5 = 0) :
    ctrlWrite p v s = ctrlActs p v (wdlStep p v (bit (rd s p 0x040) 0) (wrF p 0x040 2 2 (b2n (bit v 2))
      (enableWrite p v (if bit v 4 then faultClear p s else s)))) := by
  simp [ctrlWrite, ctrlActs, lockedCtrl, hl, hb]

theorem enableWrite_unlocked {p : Nat} {v : W32} {s : State} (hl : locked s p 0 = false) (h : bit v 0 = true ∨ mayDisable s p = true) :
    enableWrite p v s = wrF p 0x040 0 0 (b2n (bit v 0)) s := by
  rcases h with h | h <;> simp [enableWrite, hl, h]

/-- WDL does not step down where the write leaves it enabled and resets nothing. -/
theorem wdlStep_enabled {p : Nat} {v : W32} {en : Bool} {c : State} (h : bit (rd c p 0x040) 0 = true) (h3 : bit v 3 = false) :
    wdlStep p v en c = c := by
  simp [wdlStep, h, h3]

/-- No page but a PAIRED WDL steps down (R597). -/
theorem wdlStep_unpaired {p : Nat} {v : W32} {en : Bool} {c : State} (h : p ≠ pgWDL ∨ tstate c ≠ tsPAIRED) :
    wdlStep p v en c = c := by
  rcases h with h | h <;> simp [wdlStep, stepDown, h]

theorem ctrlActs_moves {p : Nat} {v : W32} {c : State} (hr : resetting c p = false) (h3 : bit v 3 = false) (h1 : bit v 1 = false) :
    ctrlActs p v c = ctrlMoves p (bit v 0) c := by
  simp [ctrlActs, hr, h3, h1]

theorem ctrlActs_run {p : Nat} {v : W32} {c : State} (hr : resetting c p = false) (h3 : bit v 3 = false) (h1 : bit v 1 = true) :
    ctrlActs p v c = runRequest p (ctrlMoves p (bit v 0) c) := by
  simp [ctrlActs, hr, h3, h1]

theorem ctrlActs_reset {p : Nat} {v : W32} {c : State} (hr : resetting c p = false) (hm : mayReset c p = true) (h3 : bit v 3 = true)
    (h1 : bit v 1 = false) :
    ctrlActs p v c = abortWork p stsABORTED_RESET (wrF p 0x044 4 4 1 (wrF p 0x040 3 3 1 c)) := by
  simp [ctrlActs, softReset, hr, hm, h3, h1]

/-- A write that leaves ENABLE at 1 and neither clears a fault nor resets. -/
theorem ctrlWrite_enabled {p : Nat} {v : W32} {s : State} (hl : locked s p 0 = false) (h0 : bit v 0 = true) (h3 : bit v 3 = false)
    (h4 : bit v 4 = false) (hb : bits v 31 5 = 0) : ctrlWrite p v s = ctrlActs p v (ctrlSet p 1 (b2n (bit v 2)) s) := by
  have he : enableWrite p v s = wrF p 0x040 0 0 1 s := by rw [enableWrite_unlocked hl (.inl h0), h0]; rfl
  rw [ctrlWrite_unlocked hl hb, h4, if_neg (by simp), he]
  change ctrlActs p v (wdlStep p v _ (ctrlSet p 1 (b2n (bit v 2)) s)) = _
  rw [wdlStep_enabled (by simp) h3]

/-- A write of 0. -/
theorem ctrlWrite_zero {p : Nat} {s : State} (hl : locked s p 0 = false) (hm : mayDisable s p = true) :
    ctrlWrite p 0 s = ctrlActs p 0 (wdlStep p 0 (bit (rd s p 0x040) 0) (ctrlSet p 0 0 s)) := by
  rw [ctrlWrite_unlocked hl (by decide), if_neg (by decide), enableWrite_unlocked hl (.inr hm)]
  rfl

/-! The moves of a page, state by state (R38). -/

theorem ctrlMoves_off {p : Nat} {c : State} (hst : pgState c p = stOFF) (hu : usable c p = true) : ctrlMoves p true c = toStart p c := by
  simp [ctrlMoves, hst, hu]

section Disabled

variable {p : Nat} {b : Bool} {c : State} (he : bit (rd c p 0x040) 0 = false)
include he

theorem ctrlMoves_disabled_start (hst : pgState c p = stSTART) : ctrlMoves p b c = toOff p c := by simp [ctrlMoves, hst, he]
theorem ctrlMoves_disabled_run (hst : pgState c p = stRUN) : ctrlMoves p b c = toDrain p c := by simp [ctrlMoves, hst, he]
theorem ctrlMoves_disabled_halt (hst : pgState c p = stHALT) : ctrlMoves p b c = toOff p (abortWork p stsABORTED_DISABLE c) := by
  simp [ctrlMoves, hst, he]
theorem ctrlMoves_disabled_drain (hst : pgState c p = stDRAIN) : ctrlMoves p b c = c := by simp [ctrlMoves, hst, he]

end Disabled

theorem ctrlMoves_start {p : Nat} {b : Bool} {c : State} (he : bit (rd c p 0x040) 0 = true) (hst : pgState c p = stSTART) :
    ctrlMoves p b c = c := by
  simp [ctrlMoves, hst, he]

theorem ctrlMoves_quiesce {p : Nat} {b : Bool} {c : State} (he : bit (rd c p 0x040) 0 = true) (hq : bit (rd c p 0x040) 2 = true)
    (hst : pgState c p = stRUN) : ctrlMoves p b c = toDrain p c := by
  simp [ctrlMoves, hst, he, hq]

theorem ctrlMoves_resume {p : Nat} {b : Bool} {c : State} (he : bit (rd c p 0x040) 0 = true) (hq : bit (rd c p 0x040) 2 = false)
    (hst : pgState c p = stDRAIN ∨ pgState c p = stHALT) : ctrlMoves p b c = runAgain p c := by
  rcases hst with h | h <;> simp [ctrlMoves, h, he, hq]

theorem runRequest_start {p : Nat} {c : State} (he : bit (rd c p 0x040) 0 = true) (hst : pgState c p = stSTART)
    (hr : resetting c p = false) :
    runRequest p c = if bit (rd c p 0x044) 5 then evaluate p c else wrF p 0x040 1 1 1 c := by
  simp [runRequest, he, hst, hr]

/-! A page that enters OFF (R38, R46). -/

/-- What a page clears as it enters OFF lies in LDG's and CLK's block registers. -/
theorem rd_offEffects {p q o : Nat} (s : State) (h : o < 0x100 ∨ q ≠ pgLDG ∧ q ≠ pgCLK ∧ o < 0x1000) :
    rd (offEffects p s) q o = rd s q o := by
  have hl (a : Nat) (ha : 0x100 ≤ a ∧ a < 0x1000) : rk q o ≠ rk pgLDG a := by
    unfold rk pgLDG at *
    omega
  have hc (a : Nat) (ha : 0x100 ≤ a ∧ a < 0x1000) : rk q o ≠ rk pgCLK a := by
    unfold rk pgCLK at *
    omega
  unfold offEffects
  split
  · exact (rd_wr_of_ne _ _ (hl _ (by decide))).trans (rd_wr_of_ne _ _ (hl _ (by decide)))
  · rfl
  · rfl
  · exact (rd_wr_of_ne _ _ (hc _ (by decide))).trans (rd_wr_of_ne _ _ (hc _ (by decide)))
  · rfl
  · exact (rd_wr_of_ne _ _ (hc _ (by decide))).trans (rd_wr_of_ne _ _ (hc _ (by decide)))
  · rfl

theorem rd_setState_off {p o : Nat} (s : State) (h : o ∉ [0x044, 0x028, 0x02C, 0x030, 0x034]) (q : Nat) (ho : o < 0x1000) :
    rd (setState p stOFF s) q o = rd s q o := by
  simp only [List.mem_cons, List.not_mem_nil, or_false, not_or] at h
  obtain ⟨h0, h1, h2, h3, h4⟩ := h
  have hne (a : Nat) (ha : a < 0x1000) (hoa : o ≠ a) : rk q o ≠ rk p a := by
    unfold rk
    omega
  simp only [setState, wrF, true_or, if_true]
  rw [rd_wr_of_ne _ _ (hne _ (by decide) h0), rd_wr_of_ne _ _ (hne _ (by decide) h4), rd_wr_of_ne _ _ (hne _ (by decide) h3),
    rd_wr_of_ne _ _ (hne _ (by decide) h2), rd_wr_of_ne _ _ (hne _ (by decide) h1), rd_wr_of_ne _ _ (hne _ (by decide) h0)]

theorem rd_toOff {p q o : Nat} (s : State) (h : o ∉ [0x040, 0x044, 0x028, 0x02C, 0x030, 0x034])
    (hq : o < 0x100 ∨ q ≠ pgLDG ∧ q ≠ pgCLK ∧ o < 0x1000) : rd (toOff p s) q o = rd s q o := by
  have h0 := List.ne_of_not_mem_cons h
  have hne : rk q o ≠ rk p 0x040 := by
    unfold rk
    omega
  rw [toOff, rd_offEffects _ hq, wrF, rd_wr_of_ne _ _ hne, rd_setState_off s (List.not_mem_of_not_mem_cons h) q (by omega)]

/-- PG_STAT of a page in OFF: STATE and READY are 0, the rest stands. -/
theorem rd_toOff_stat (p : Nat) (s : State) : rd (toOff p s) p 0x044 = putBits (putBits (rd s p 0x044) 2 0 0) 5 5 0 := by
  rw [toOff, rd_offEffects _ (.inl (by decide))]
  simp [setState, wrF]

theorem pgState_toOff (p : Nat) (s : State) : pgState (toOff p s) p = stOFF := by
  rw [pgState, rdF, rd_toOff_stat, bits_putBits_of_disjoint (by decide) (by decide) (by decide) (by decide),
    bits_putBits_self (by decide) (by decide) (by decide)]

theorem resetting_toOff (p : Nat) (s : State) : resetting (toOff p s) p = resetting s p := by
  simp [resetting, rd_toOff_stat, bit_putBits]

theorem locked_toOff (p n : Nat) (s : State) : locked (toOff p s) p n = locked s p n := by
  rw [locked, rd_toOff s (by decide) (.inl (by decide)), locked]

theorem usable_toOff (p q : Nat) (s : State) : usable (toOff p s) q = usable s q :=
  usable_congr (rd_toOff s (by decide) (.inr (by decide))) (rd_toOff s (by decide) (.inr (by decide))) q

/-! FAULT_CLR on a page in FAULT (R46). -/

theorem rd_wr_fault {p q o : Nat} (v : W32) (s : State) (h : o < 0x1000) (ho : o ≠ 0x048) : rd (wr p 0x048 v s) q o = rd s q o :=
  rd_wr_of_ne v s (by unfold rk; omega)

theorem faultClear_faulted {p : Nat} {s : State} (hst : pgState s p = stFAULT) : faultClear p s = toOff p (wr p 0x048 0 s) := by
  have h : pgState (wr p 0x048 0 s) p = stFAULT := by rwa [pgState, rdF, rd_wr_fault _ _ (by decide) (by decide)]
  exact if_pos h

theorem ctrlWrite_faultClr {p : Nat} {s : State} (hl : locked s p 0 = false) (hst : pgState s p = stFAULT) :
    ctrlWrite p 0x11 s = ctrlActs p 0x11 (ctrlSet p 1 0 (toOff p (wr p 0x048 0 s))) := by
  have ht : locked (toOff p (wr p 0x048 0 s)) p 0 = false := by
    rwa [locked_toOff, locked, rd_wr_fault _ _ (by decide) (by decide)]
  rw [ctrlWrite_unlocked hl (by decide), if_pos (by decide), faultClear_faulted hst, enableWrite_unlocked ht (.inl (by decide))]
  change ctrlActs p 0x11 (wdlStep p 0x11 _ (ctrlSet p 1 0 _)) = _
  rw [wdlStep_enabled (by simp) (by decide)]

/-! The rows of PG_CTRL (R38, R39, R42, R43, R45, R46). -/

theorem pgCtrl_runs {p : Nat} {v : W32} {s : State} (hp : pageExists p = true) (hc : clockStopped s p 0x040 = false) :
    pgCtrl 0 p v s = ctrlWrite p v s := atRegister_runs hp hc

/-- A row that carries a word for PG_CTRL leaves what the write leaves. -/
theorem exec_ctrl {i : Instr} {p : Nat} {v : W32} {s t : State} (hi : exec i s = .next (pgCtrl 0 p v s))
    (hp : pageExists p = true) (hc : clockStopped s p 0x040 = false) (h : ctrlWrite p v s = t) : exec i s = .next t := by
  rw [hi, pgCtrl_runs hp hc, h]

theorem pgEnable_off {p : Nat} {s : State} (hl : locked s p 0 = false) (hr : resetting s p = false) (hst : pgState s p = stOFF)
    (hu : usable s p = true) : ctrlWrite p 1 s = toStart p (ctrlSet p 1 0 s) := by
  rw [ctrlWrite_enabled hl (by decide) (by decide) (by decide) (by decide), ctrlActs_moves (by simpa using hr) (by decide) (by decide)]
  exact ctrlMoves_off (by simpa using hst) (by simpa using hu)

theorem pgDisable_unpaired {p : Nat} {s : State} (hl : locked s p 0 = false) (hr : resetting s p = false) (hm : mayDisable s p = true)
    (hw : p ≠ pgWDL ∨ tstate s ≠ tsPAIRED) : ctrlWrite p 0 s = ctrlMoves p false (ctrlSet p 0 0 s) := by
  rw [ctrlWrite_zero hl hm, wdlStep_unpaired (by simpa using hw), ctrlActs_moves (by simpa using hr) (by decide) (by decide)]
  rfl

theorem pgDisable_paired {s : State} (hl : locked s pgWDL 0 = false) (he : bit (rd s pgWDL 0x040) 0 = true) :
    ctrlWrite pgWDL 0 s = if resetting (stepDown (ctrlSet pgWDL 0 0 s)) pgWDL then stepDown (ctrlSet pgWDL 0 0 s)
      else ctrlMoves pgWDL false (stepDown (ctrlSet pgWDL 0 0 s)) := by
  have hstep : wdlStep pgWDL 0 (bit (rd s pgWDL 0x040) 0) (ctrlSet pgWDL 0 0 s) = stepDown (ctrlSet pgWDL 0 0 s) := by
    simp [wdlStep, he]
  rw [ctrlWrite_zero hl (by rfl), hstep]
  simp [ctrlActs, bit]

theorem runReq_start {p : Nat} {s : State} (hl : locked s p 0 = false) (hr : resetting s p = false) (hst : pgState s p = stSTART) :
    ctrlWrite p 3 s =
      if bit (rd s p 0x044) 5 then evaluate p (ctrlSet p 1 0 s) else wrF p 0x040 1 1 1 (ctrlSet p 1 0 s) := by
  rw [ctrlWrite_enabled hl (by decide) (by decide) (by decide) (by decide), ctrlActs_run (by simpa using hr) (by decide) (by decide)]
  change runRequest p (ctrlMoves p true (ctrlSet p 1 0 s)) = _
  rw [ctrlMoves_start (by simp) (by simpa using hst), runRequest_start (by simp) (by simpa using hst) (by simpa using hr), rd_ctrlSet_stat]

theorem quiesceSet_run {p : Nat} {s : State} (hl : locked s p 0 = false) (hr : resetting s p = false) (hst : pgState s p = stRUN) :
    ctrlWrite p 5 s = toDrain p (ctrlSet p 1 1 s) := by
  rw [ctrlWrite_enabled hl (by decide) (by decide) (by decide) (by decide), ctrlActs_moves (by simpa using hr) (by decide) (by decide)]
  exact ctrlMoves_quiesce (by simp) (by simp; decide) (by simpa using hst)

theorem quiesceClear_held {p : Nat} {s : State} (hl : locked s p 0 = false) (hr : resetting s p = false)
    (hst : pgState s p = stDRAIN ∨ pgState s p = stHALT) : ctrlWrite p 1 s = runAgain p (ctrlSet p 1 0 s) := by
  rw [ctrlWrite_enabled hl (by decide) (by decide) (by decide) (by decide), ctrlActs_moves (by simpa using hr) (by decide) (by decide)]
  exact ctrlMoves_resume (by simp) (by simp; decide) (by simpa using hst)

theorem softReset_starts {p : Nat} {s : State} (hl : locked s p 0 = false) (hr : resetting s p = false) (hm : mayReset s p = true)
    (hw : p ≠ pgWDL ∨ tstate s ≠ tsPAIRED) :
    ctrlWrite p 9 s = abortWork p stsABORTED_RESET (wrF p 0x044 4 4 1 (wrF p 0x040 3 3 1 (ctrlSet p 1 0 s))) := by
  rw [ctrlWrite_unlocked hl (by decide), if_neg (by decide), enableWrite_unlocked hl (.inl (by decide))]
  change ctrlActs p 9 (wdlStep p 9 _ (ctrlSet p 1 0 s)) = _
  rw [wdlStep_unpaired (by simpa using hw),
    ctrlActs_reset (by simpa using hr) (by simpa using hm) (by decide) (by decide)]

theorem faultClr_restarts {p : Nat} {s : State} (hl : locked s p 0 = false) (hr : resetting s p = false) (hst : pgState s p = stFAULT)
    (hu : usable s p = true) : ctrlWrite p 0x11 s = toStart p (ctrlSet p 1 0 (toOff p (wr p 0x048 0 s))) := by
  have hreset : resetting (toOff p (wr p 0x048 0 s)) p = false := by
    rwa [resetting_toOff, resetting, rd_wr_fault _ _ (by decide) (by decide)]
  have husable : usable (toOff p (wr p 0x048 0 s)) p = true := by
    rwa [usable_toOff, usable_congr (rd_wr_fault _ _ (by decide) (by decide)) (rd_wr_fault _ _ (by decide) (by decide))]
  rw [ctrlWrite_faultClr hl hst, ctrlActs_moves (by simpa using hreset) (by decide) (by decide)]
  exact ctrlMoves_off (by simpa using pgState_toOff p _) (by simpa using husable)

/-- Settles O2. ENABLE before RUN_REQ in one word, and ABORTED_DISABLE for the work held as HALT or DRAIN goes to OFF, are the model's
reading (log entries 16 and 18). -/
theorem pageControlCompletes : Obligations.PageControlCompletes := by
  unfold Obligations.PageControlCompletes
  refine ⟨?_, ?_, ?_, ?_, ?_, ?_, ?_, ?_, ?_, ?_, ?_, ?_, ?_, ?_, ?_⟩
  · rintro p s _ hp hc hl hr hst hu rfl
    exact exec_ctrl rfl hp hc (pgEnable_off hl hr hst hu)
  · rintro p s _ hp hc hl hr hm hw rfl
    have hx := exec_ctrl (i := .pgDisable p 0) rfl hp hc (pgDisable_unpaired hl hr hm hw)
    have he : bit (rd (ctrlSet p 0 0 s) p 0x040) 0 = false := by simp
    refine ⟨fun hst => ?_, fun hst => ?_, fun hst => ?_, fun hst => ?_⟩
    · rw [hx, ctrlMoves_disabled_start he (by simpa using hst)]
      rfl
    · rw [hx, ctrlMoves_disabled_run he (by simpa using hst)]
      rfl
    · rw [hx, ctrlMoves_disabled_halt he (by simpa using hst)]
      rfl
    · rw [hx, ctrlMoves_disabled_drain he (by simpa using hst)]
      rfl
  · rintro s _ hl hc he - rfl
    exact exec_ctrl rfl (by decide) hc (pgDisable_paired hl he)
  · rintro p s _ hp hc hl hr hst - rfl
    exact exec_ctrl rfl hp hc (runReq_start hl hr hst)
  · intro p s hp hst hready hdone
    exact congrArg Host.Outcome.next (by simp [hp, hst, hready, hdone])
  · rintro p s _ hp hc hl hr hst rfl
    exact exec_ctrl rfl hp hc (quiesceSet_run hl hr hst)
  · rintro p s _ hp hc hl hr hst rfl
    exact exec_ctrl rfl hp hc (quiesceClear_held hl hr hst)
  · intro p s hp hst hr hb
    exact ⟨fun he => congrArg Host.Outcome.next (by simp [hp, hst, hr, hb, he]),
      fun he hq => congrArg Host.Outcome.next (by simp [hp, hst, hr, hb, he, hq])⟩
  · intro p s hp hst he hr
    exact congrArg Host.Outcome.next (by simp [hp, hst, hr, he])
  · rintro p s _ hp hc hl hr hm hw rfl
    exact exec_ctrl rfl hp hc (softReset_starts hl hr hm hw)
  · intro p s hp hr hd hq
    have hclock : ¬(clsOf p ≠ 0x24 ∧ !domRuns s (pageDomain p)) := fun ⟨hcls, hstop⟩ => hd.elim hcls fun h => by simp [h] at hstop
    have hquench : ¬(p = pgQST ∧ inQ s) := fun ⟨hqst, hinq⟩ => hq.elim (· hqst) fun h => by simp [h] at hinq
    refine congrArg Host.Outcome.next (if_neg ?_)
    rw [not_or, not_or, not_or]
    exact ⟨by simp [hp], by simp [hr], hclock, hquench⟩
  · rintro p s _ hp hc hl hr hst hu rfl
    exact exec_ctrl rfl hp hc (faultClr_restarts hl hr hst hu)
  · intro p i v s hp _ hc hl hst
    rw [exec_featAskWrite hp hc, featAskWrite_stores hl hst]
  · intro p v r s hp hc hl hr hrsvd
    exact congrArg Host.Outcome.next ((atRegister_runs hp hc).trans (by simp [evrouteWrite, hl, hr, noteRsvd, hrsvd]))
  · intro p v r s hp hc hr hrsvd
    exact congrArg Host.Outcome.next ((atRegister_runs hp hc).trans (by simp [lockWrite, hr, noteRsvd, hrsvd]))

end Sys2Proof.Machine
end

section
/-! PROOFS. Credit queues (O3, O4). -/

namespace Sys2Proof.Machine

/-! The queue table: a queue read after one is put (R49). -/

@[simp] theorem queueOf_queuePut_self (q : QueueId) (x : Queue) (s : State) : queueOf_ (queuePut q x s) q = x := Tab.getD_setD_self ..

theorem queueOf_queuePut_of_ne {q r : QueueId} (x : Queue) (s : State) (h : r.key ≠ q.key) :
    queueOf_ (queuePut q x s) r = queueOf_ s r := Tab.getD_setD_of_ne h

theorem queueOf_congr {s t : State} (h : t.queues = s.queues) (q : QueueId) : queueOf_ t q = queueOf_ s q := by
  rw [queueOf_, queueOf_, h]

theorem checkEntry_queues (q : QueueId) (e : List W32) (s : State) : (checkEntry q e s).queues = s.queues :=
  checkEntry_moves.within .queues rfl

theorem checkEntry_valid {q : QueueId} {e : List W32} {s : State} (h : q.row = 15 → requestInvalid e = false) : checkEntry q e s = s := by
  unfold checkEntry
  by_cases hq : q.row = 15
  · simp [h hq]
  · simp [hq]

/-! The commands of a queue that is there (R51). -/

theorem exec_queueEntryArrive {q i : Nat} {e : List W32} {s : State} (ht : (QueueId.mk q i).there = true)
    (hc : (queueOf_ s ⟨q, i⟩).credits ≠ 0) (hd : (queueOf_ s ⟨q, i⟩).entries.length < (QueueId.mk q i).depth) :
    exec (.queueEntryArrive q i e) s = .next (checkEntry ⟨q, i⟩ ((QueueId.mk q i).fit e) (queuePut ⟨q, i⟩
      { queueOf_ s ⟨q, i⟩ with
        credits := (queueOf_ s ⟨q, i⟩).credits - 1
        entries := (queueOf_ s ⟨q, i⟩).entries ++ [(QueueId.mk q i).fit e] } s)) :=
  congrArg Host.Outcome.next (by simp [ht, hc, Nat.not_le.mpr hd])

theorem exec_creditReturn {q i : Nat} {s : State} (ht : (QueueId.mk q i).there = true)
    (hd : (queueOf_ s ⟨q, i⟩).credits < (QueueId.mk q i).depth) :
    exec (.creditReturn q i) s = .next (queuePut ⟨q, i⟩
      { queueOf_ s ⟨q, i⟩ with
        credits := (queueOf_ s ⟨q, i⟩).credits + 1
        entries := (queueOf_ s ⟨q, i⟩).entries.drop 1 } s) :=
  congrArg Host.Outcome.next (by simp [ht, Nat.not_le.mpr hd])

/-- Settles O3. That a flush ends at once where both clocks run is the model's choice, and the queues of FLX to DRP are its reading (log
entries 30 and 29). -/
theorem creditQueuesComplete : Obligations.CreditQueuesComplete := by
  unfold Obligations.CreditQueuesComplete
  refine ⟨?_, ?_, ?_, ?_⟩
  · rintro q i e s _ ht rfl hc hd hv
    rw [exec_queueEntryArrive ht hc hd, checkEntry_valid hv]
  · rintro q i s _ ht rfl hd
    exact exec_creditReturn ht hd
  · rintro q i b s t p ht hx rfl rfl
    exact congrArg Host.Outcome.next (by simp [ht, hx, farReset])
  · rintro q i b s _ ht rfl hf hc
    exact congrArg Host.Outcome.next (by simp [ht, hf, hc])

/-- Settles O4: an arrival moves one from the credits to the entries, a returned credit moves one back, and the check of an entry
touches no queue. -/
theorem creditsNeverLost : Obligations.CreditsNeverLost := by
  unfold Obligations.CreditsNeverLost
  refine ⟨fun q i e s t ht hc hsum h => ?_, fun q i s t ht he hsum h => ?_⟩
  · rw [exec_queueEntryArrive ht hc (by omega)] at h
    obtain rfl := Host.Outcome.next.inj h
    refine ⟨?_, fun r hr => ?_⟩
    · rw [queueOf_congr (checkEntry_queues _ _ _), queueOf_queuePut_self, List.length_append, List.length_singleton]
      dsimp only
      omega
    · rw [queueOf_congr (checkEntry_queues _ _ _), queueOf_queuePut_of_ne _ _ hr]
  · have hlen := List.length_pos_iff.mpr he
    rw [exec_creditReturn ht (by omega)] at h
    obtain rfl := Host.Outcome.next.inj h
    refine ⟨?_, fun r hr => queueOf_queuePut_of_ne _ _ hr⟩
    rw [queueOf_queuePut_self, List.length_drop]
    dsimp only
    omega

end Sys2Proof.Machine
end

section
/-! PROOFS. Engine rings and key generations (O7). -/

namespace Sys2Proof.Machine

/-- A ring whose EN a write clears is settled; a write that keeps the size leaves RING_CFG to its table (R238). -/
theorem exec_ringDisable {p n : Nat} {v : W32} {s t : State} (hn : n < ringCount p) (hp : pageExists p = true)
    (hc : clockStopped s p (ringOff n 0x10) = false) (he : rgEn s p n = true)
    (hsize : bits v 19 16 = rdF s p (ringOff n 0x10) 19 16) (ht : t = blockWrite p (ringOff n 0x10) v s) :
    exec (.ringDisable p n v) s =
      .next (if rgEn t p n then t else settleOff p n (rgPut p n { rgOf t p n with closing := true } t)) := by
  refine congrArg Host.Outcome.next ?_
  rw [if_neg (Nat.not_le.mpr hn), atRegister_runs hp hc]
  cases h : rgEn t p n <;> simp [he, hsize, ← ht, h]

/-- Settles O7. The codes 1 and 2 of hallmark 0x1506 and the body of a KEYGEN message are the model's choice (log entries 50 and 152). -/
theorem engineRingsAndKeysComplete : Obligations.EngineRingsAndKeysComplete := by
  unfold Obligations.EngineRingsAndKeysComplete
  refine ⟨?_, ?_, ?_, ?_, ?_, ?_, ?_, ?_, ?_⟩
  · intro p n v s hr hp hc
    exact congrArg Host.Outcome.next (by simp [hr, atRegister_runs hp hc])
  · intro p n s hr hd hq
    exact congrArg Host.Outcome.next (by simp [hr, hd, hq])
  · rintro p n v s t hn hp hc he - hsize ht
    exact exec_ringDisable hn hp hc he hsize ht
  · rintro v s _ _ g _ hb ha rfl rfl hg hl hk hcur hc rfl
    refine congrArg Host.Outcome.next ((atRegister_runs (by decide) hc).trans ?_)
    simp [hb, ha, hg, hl, hk, hcur]
  · rintro v s _ _ g x hb ha rfl hold hlen hc rfl
    refine congrArg Host.Outcome.next ((atRegister_runs (by decide) hc).trans ?_)
    simp [hb, ha, hold, hlen]
  · rintro s _ c hcmd hack rfl
    exact congrArg Host.Outcome.next (by simp [hcmd, hack])
  · rintro d g f b k s _ rfl
    rfl
  · intro sl u k s ha
    exact congrArg Host.Outcome.next (by simp [ha])
  · rintro sl s _ r rfl hr hl hlim hceil
    exact congrArg Host.Outcome.next (by simp [hr, hl, hlim, hceil])

end Sys2Proof.Machine
end

section
/-! PROOFS. The state at reset (O37, O38). -/

namespace Sys2Proof.Machine

/-! The state after the first power-on reset (R50, R713, R762). -/

/-- A header register but PG_ID and FEAT_AVAIL_0 resets to its table's word on every page. -/
theorem rd_reset_header {p off : Nat} {r : RegDef} (hp : pageExists p = true) (hoff : off < 0x100) (h0 : off ≠ 0x000) (h8 : off ≠ 0x008)
    (hr : headerRegs.find? (fun r => r.off == off) = some r) : rd State.reset p off = r.resetWord := by
  obtain ⟨c, hc⟩ := Option.isSome_iff_exists.mp hp
  have hat : regAt p off = some r := by rw [regAt, if_pos hoff, hr]
  change regReset false p off = _
  simp [regReset, hc, h0, h8, hat]

theorem reset_off {p : Nat} (hp : pageExists p = true) : pgState State.reset p = stOFF := by
  rw [pgState, rdF, rd_reset_header hp (by decide) (by decide) (by decide) rfl]
  decide

theorem reset_revision {p : Nat} (hp : pageExists p = true) : rd State.reset p 0x004 = 0x100#32 := by
  rw [rd_reset_header hp (by decide) (by decide) (by decide) rfl]
  decide

/-- Settles O37: the register file is empty at reset, so every register reads its table's word. That nothing is stored in memory, the
quench store and the NOR, and that the die is BLANK, are the model's choices (log entries 8 and 6). -/
theorem resetLeavesTheSpecValues : Obligations.ResetLeavesTheSpecValues := by
  unfold Obligations.ResetLeavesTheSpecValues
  refine ⟨fun _ => rfl, fun p hp => ⟨reset_off hp, reset_revision hp⟩, ?_, ?_, ?_, ?_, rfl, rfl, rfl, rfl, rfl, rfl⟩
  all_goals decide

/-- Settles O38: nothing is stored at reset and no mark is pending. The canonical form is the model's representation (R21, R338). -/
theorem storedAtReset : Obligations.StoredAtReset := by
  unfold Obligations.StoredAtReset
  exact ⟨⟨rfl, rfl, rfl, rfl⟩, fun _ h => nomatch h⟩

end Sys2Proof.Machine
end

section
/-! PROOFS. What the commands of the ledger and the host queues leave (O50). -/

namespace Sys2Proof.Machine

/-- Settles O50, from what each command's meaning may change. -/
theorem ledgerAndHostCommandsLeaveTheRest : Obligations.LedgerAndHostCommandsLeaveTheRest :=
  ⟨Ends.leaves (fun _ => execEpochTimerExpiry_moves) rfl,
    fun _ => Ends.leaves (fun _ => execCloseNow_moves) rfl,
    fun _ => Ends.leaves (fun _ => execEpClose_moves) rfl,
    fun _ => Ends.leaves (fun _ => execEpAsk_moves) rfl,
    Ends.leaves (fun _ => execEpochDrainStart_moves) rfl,
    fun _ => Ends.leaves (fun _ => execEpochDrainEnd_moves) rfl,
    fun _ => Ends.leaves (fun _ => execEpDrained_moves) rfl,
    Ends.leaves (fun _ => execEpochCommitRecord_moves) rfl,
    fun _ _ => Ends.leaves (fun _ => execEpCommit_moves) rfl,
    fun _ => Ends.leaves (fun _ => execEpCommitAck_moves) rfl,
    Ends.leaves (fun _ => execLdgItemAccept_moves) rfl,
    Ends.leaves (fun _ => execDeallocateApply_moves) rfl,
    Ends.leaves (fun _ => execCheckpointComplete_moves) rfl,
    fun _ => Ends.leaves (fun _ => execTwinMismatch_moves) rfl,
    fun _ _ _ => Ends.leaves (fun _ => execJudgeSelfCheckDone_moves) rfl,
    fun _ => Ends.leaves (fun _ => execRepairA_moves) rfl,
    fun _ => Ends.leaves (fun _ => execRepairB_moves) rfl,
    fun _ => Ends.leaves (fun _ => execRepairSelfCheckDone_moves) rfl,
    fun _ => Ends.leaves (fun _ => execSnapArm_moves) rfl,
    fun _ => Ends.leaves (fun _ => execSnapTake_moves) rfl,
    fun _ => Ends.leaves (fun _ => execSnapDelete_moves) rfl,
    fun _ => Ends.leaves (fun _ => execSnapClone_moves) rfl,
    fun _ => Ends.leaves (fun _ => execSnapDisarmAll_moves) rfl,
    fun _ => Ends.leaves (fun _ => execSlagEntryRead_moves) rfl,
    fun _ => Ends.leaves (fun _ => execLdgReplay_moves) rfl,
    Ends.leaves (fun _ => execReplayDone_moves) rfl,
    fun _ _ _ => Ends.leaves (fun _ => execCapsuleArrival_moves) rfl,
    fun _ _ => Ends.leaves (fun _ => execNvmeFlush_moves) rfl,
    fun _ _ => Ends.leaves (fun _ => execNvmeWrite_moves) rfl,
    fun _ _ => Ends.leaves (fun _ => execNvmeRead_moves) rfl,
    fun _ _ => Ends.leaves (fun _ => execNvmeCompare_moves) rfl,
    fun _ _ => Ends.leaves (fun _ => execNvmeWriteZeroes_moves) rfl,
    fun _ _ => Ends.leaves (fun _ => execNvmeDatasetManagement_moves) rfl,
    fun _ _ => Ends.leaves (fun _ => execNvmeVerify_moves) rfl,
    fun _ _ => Ends.leaves (fun _ => execInvalidOpcode_moves) rfl,
    fun _ _ => Ends.leaves (fun _ => execFabricsConnect_moves) rfl,
    fun _ _ => Ends.leaves (fun _ => execPropertyGet_moves) rfl,
    fun _ _ => Ends.leaves (fun _ => execPropertySet_moves) rfl,
    fun _ _ => Ends.leaves (fun _ => execFabricsDisconnect_moves) rfl,
    fun _ _ => Ends.leaves (fun _ => execGetLogPage_moves) rfl,
    fun _ _ => Ends.leaves (fun _ => execIdentify_moves) rfl,
    fun _ _ => Ends.leaves (fun _ => execNvmeAbort_moves) rfl,
    fun _ _ => Ends.leaves (fun _ => execSetFeatures_moves) rfl,
    fun _ _ => Ends.leaves (fun _ => execGetFeatures_moves) rfl,
    fun _ _ => Ends.leaves (fun _ => execAsynchronousEventRequest_moves) rfl,
    fun _ _ => Ends.leaves (fun _ => execKeepAlive_moves) rfl,
    fun _ => Ends.leaves (fun _ => execAdminReply_moves) rfl,
    fun _ _ => Ends.leaves (fun _ => execWriteDataLanded_moves) rfl,
    fun _ => Ends.leaves (fun _ => execKatoExpiry_moves) rfl,
    fun _ => Ends.leaves (fun _ => execHqHoldWrite_moves) rfl,
    Ends.leaves (fun _ => execHoldExpiry_moves) rfl,
    Ends.leaves (fun _ => execQosBucketRefill_moves) rfl,
    Ends.leaves (fun _ => execQosWindowEnd_moves) rfl,
    fun _ => Ends.leaves (fun _ => execQosMinWrite_moves) rfl,
    fun _ => Ends.leaves (fun _ => execNsCfgWrite_moves) rfl,
    Ends.leaves (fun _ => execPowerExitComplete_moves) rfl⟩

end Sys2Proof.Machine
end

section
/-! PROOFS. Epochs (O8, O47). -/

namespace Sys2Proof.Machine

/-! Registers of other pages under a write, a hallmark and a fill of the tail. -/

section OtherPages

variable {p q off o : Nat} (h : q ≠ p) (hoff : off < 0x1000) (ho : o < 0x1000)
include h hoff ho

theorem rd_wr_of_page (v : W32) (s : State) : rd (wr p off v s) q o = rd s q o := rd_wr_of_ne v s (rk_ne_of_page h hoff ho)

theorem rd_wrF_of_page (hi lo x : Nat) (s : State) : rd (wrF p off hi lo x s) q o = rd s q o := rd_wr_of_page h hoff ho _ s

theorem rd_bump_of_page (n : Nat) (s : State) : rd (bump p off n s) q o = rd s q o := rd_wr_of_page h hoff ho _ s

end OtherPages

theorem rd_set_ldg (x : Ldg) (s : State) (p o : Nat) : rd { s with ldg := x } p o = rd s p o := rfl

theorem rd_set_hlm (x : Hlm) (s : State) (p o : Nat) : rd { s with hlm := x } p o = rd s p o := rfl

/-- A hallmark writes no register but those of HLM. -/
theorem rd_hallmark_of_page {q o : Nat} (code inst : Nat) (payload : List W32) (s : State) (hq : q ≠ pgHLM) (ho : o < 0x1000) :
    rd (hallmark code inst payload s) q o = rd s q o := by
  rw [hallmark]
  split
  · exact (rd_bump_of_page hq (by decide) ho 1 _).trans (rd_set_hlm _ _ q o)
  · rw [hlmAccept]
    split
    · exact rd_set_hlm _ _ q o
    · exact (rd_bump_of_page hq (by decide) ho 1 _).trans (rd_set_hlm _ _ q o)

/-- The fill of the tail shows on LDG, its throttle on HQ, its hallmark on HLM (R97). -/
theorem rd_journalFill_of_page {q o : Nat} (s : State) (hl : q ≠ pgLDG) (hh : q ≠ pgHQ) (hm : q ≠ pgHLM) (ho : o < 0x1000) :
    rd (journalFill s) q o = rd s q o := by
  have hfill := rd_wrF_of_page hl (by decide : 0x128 < 0x1000) ho 7 0 (ownPct s) s
  have hthrottle (x : Nat) (t : State) := rd_wrF_of_page hh (by decide : 0x108 < 0x1000) ho 1 1 x t
  rw [journalFill]
  split
  · rw [rd_hallmark_of_page _ _ _ _ hm ho]
    exact (hthrottle 1 _).trans ((rd_set_ldg _ _ q o).trans hfill)
  · split
    · exact (hthrottle 0 _).trans ((rd_set_ldg _ _ q o).trans hfill)
    · exact hfill

/-! The state of the blocks under them. -/

@[simp] theorem hallmark_ldg (code inst : Nat) (payload : List W32) (s : State) : (hallmark code inst payload s).ldg = s.ldg :=
  hallmark_moves.within .ldg rfl

@[simp] theorem hallmark_pln (code inst : Nat) (payload : List W32) (s : State) : (hallmark code inst payload s).pln = s.pln :=
  hallmark_moves.within .pln rfl

@[simp] theorem hallmark_frg (code inst : Nat) (payload : List W32) (s : State) : (hallmark code inst payload s).frg = s.frg :=
  hallmark_moves.within .frg rfl

@[simp] theorem journalFill_pln (s : State) : (journalFill s).pln = s.pln := journalFill_moves.within .pln rfl

@[simp] theorem journalFill_frg (s : State) : (journalFill s).frg = s.frg := journalFill_moves.within .frg rfl

/-- Of the ledger's own state the fill of the tail changes the throttle alone (R97). -/
theorem journalFill_ldg (s : State) : ∃ b, (journalFill s).ldg = { s.ldg with throttled := b } := by
  rw [journalFill]
  split
  · exact ⟨true, hallmark_ldg ..⟩
  · split
    · exact ⟨false, rfl⟩
    · exact ⟨s.ldg.throttled, rfl⟩

@[simp] theorem journalFill_ckpt (s : State) : (journalFill s).ldg.ckpt = s.ldg.ckpt := by
  obtain ⟨b, h⟩ := journalFill_ldg s
  rw [h]

@[simp] theorem journalFill_ckptGen (s : State) : (journalFill s).ldg.ckptGen = s.ldg.ckptGen := by
  obtain ⟨b, h⟩ := journalFill_ldg s
  rw [h]

@[simp] theorem journalFill_running (s : State) : (journalFill s).ldg.running = s.ldg.running := by
  obtain ⟨b, h⟩ := journalFill_ldg s
  rw [h]

/-! A 64-bit register (R25). -/

theorem rd64_congr {s t : State} {p off : Nat} (hlow : rd t p off = rd s p off) (hhigh : rd t p (off + 4) = rd s p (off + 4)) :
    rd64 t p off = rd64 s p off := by
  rw [rd64, rd64, hlow, hhigh]

theorem rd64_wr64_self (p off : Nat) (v : W64) (s : State) : rd64 (wr64 p off v s) p off = v := by
  have hv := v.isLt
  refine BitVec.eq_of_toNat_eq ?_
  rw [rd64, wr64, rd_wr_self, rd_wr_same_page, if_neg (by omega), rd_wr_self, BitVec.toNat_ofNat, BitVec.toNat_ofNat,
    BitVec.toNat_ofNat]
  omega

/-! The end of a checkpoint (R96, R446, R447; log entry 192). -/

/-- What CHECKPOINT_COMPLETE leaves once the spine and the CKPT record are written. -/
def ckptEnd (c : CkptRun) (w : CkptWriter) (p : PageTree) (freed : List Nat) (e gen pages : Nat) (s : State) : State :=
  hallmark 0x1805 0 (pw2 gen ++ pw2 c.epoch ++ [pw pages]) (journalFill
    (wr64 pgPLN 0x168 p.root.loc0 (wr pgPLN 0x164 0 (wr64 pgLDG 0x138 (BitVec.ofNat 64 gen)
      (ckptMapped c w p freed e (ckptTaken c w gen s))))))

section CkptEnd

variable {c : CkptRun} {w : CkptWriter} {p : PageTree} {freed : List Nat} {e gen pages : Nat} {s : State}

/-- With every page retired, a spine written and a key to seal under, the checkpoint ends. -/
theorem exec_checkpointComplete {n : Nat} {t : State} (hr : s.ldg.running = some c) (hw : s.pln.writer = some w)
    (hon : ledgerOn s = true) (ha : alive s pgPLN = true) (ho : ckptOpen s w = false) (hk : (ckptKey s).isSome = true)
    (hs : writeSpine w c s = (some (p, n, freed), t)) :
    exec .checkpointComplete s = .next (ckptEnd c w p freed (epochOpen t) (t.ldg.ckptGen + 1) (w.wrote.length + n)
      (writeRecord (epochOpen t) (ckptRecord (headId t) (epochOpen t) (t.ldg.ckptGen + 1) c.epoch (w.wrote.length + n) p.root)
        (flushItems (epochOpen t) t))) := by
  have hk' : (ckptKey s).isNone = false := by simpa using hk
  refine congrArg Host.Outcome.next ?_
  simp only [hr, hw, hon, ha, ho, hk', hs, ckptEnd, Bool.not_true, Bool.or_self, Bool.false_eq_true, if_false]

/-- Writing the spine leaves the ledger's own state. -/
theorem writeSpine_ldg {n : Nat} {t : State} (hs : writeSpine w c s = (some (p, n, freed), t)) : t.ldg = s.ldg := by
  have h : (writeSpine w c s).2.ldg = s.ldg := writeSpine_moves.within .ldg rfl
  rwa [hs] at h

@[simp] theorem ckptEnd_ckpt : (ckptEnd c w p freed e gen pages s).ldg.ckpt = c := by simp [ckptEnd, ckptMapped, ckptTaken]
@[simp] theorem ckptEnd_ckptGen : (ckptEnd c w p freed e gen pages s).ldg.ckptGen = gen := by simp [ckptEnd, ckptMapped, ckptTaken]
@[simp] theorem ckptEnd_running : (ckptEnd c w p freed e gen pages s).ldg.running = none := by simp [ckptEnd, ckptMapped, ckptTaken]
@[simp] theorem ckptEnd_tree : (ckptEnd c w p freed e gen pages s).pln.tree = p := by simp [ckptEnd, ckptMapped]
@[simp] theorem ckptEnd_writer : (ckptEnd c w p freed e gen pages s).pln.writer = none := by simp [ckptEnd, ckptMapped]
@[simp] theorem ckptEnd_idxCkpt : (ckptEnd c w p freed e gen pages s).frg.idxCkpt = w.idx := by simp [ckptEnd, ckptMapped, ckptTaken]

/-- The root's place stands in CKPT_ROOT: the records that follow write no register of PLN. -/
@[simp] theorem rd64_ckptEnd : rd64 (ckptEnd c w p freed e gen pages s) pgPLN 0x168 = p.root.loc0 := by
  have hrd (o : Nat) (ho : o < 0x1000) (u : State) (r : List W32) :
      rd (hallmark 0x1805 0 r (journalFill u)) pgPLN o = rd u pgPLN o := by
    rw [rd_hallmark_of_page _ _ _ _ (by decide) ho, rd_journalFill_of_page _ (by decide) (by decide) (by decide) ho]
  rw [ckptEnd, rd64_congr (hrd _ (by decide) _ _) (hrd _ (by decide) _ _), rd64_wr64_self]

end CkptEnd

/-! The epoch commands (R67 to R80, R88, R446, R589, R786). -/

/-- Settles O8, command by command: each acts where its guards let it. That EP_CLOSE closes while the judge runs is the model's reading
(log entry 170), that a checkpoint's spine is written in one step its choice (log entry 192). -/
theorem epochsComplete : Obligations.EpochsComplete := by
  unfold Obligations.EpochsComplete
  refine ⟨?_, ?_, ?_, ?_, ?_, ?_, ?_, ?_, ?_, ?_, ?_, ?_, ?_, ?_, ?_⟩
  · intro s hl hlead hp
    exact congrArg Host.Outcome.next (by simp [hl, hlead, hp])
  · rintro v s _ hb rfl hl
    exact congrArg Host.Outcome.next (by simp [hb, hl])
  · intro s hl hlead he
    exact congrArg Host.Outcome.next (by simp [hl, hlead, he])
  · rintro e s _ rfl ha hr rfl hlead
    exact congrArg Host.Outcome.next (by simp [ha, hr, hlead])
  · rintro e s _ rfl ha hr he
    exact congrArg Host.Outcome.next (by simp [ha, hr, he, Nat.lt_asymm he])
  · rintro e s _ rfl hl hlead hv rfl
    exact congrArg Host.Outcome.next (by simp [hl, hlead, hv])
  · rintro e x s _ _ hd hon hs ha rfl rfl
    exact congrArg Host.Outcome.next (by simp [hd, hon, hs, ha])
  · rintro e n x s _ _ _ hd hon hs hb rfl rfl rfl
    exact congrArg Host.Outcome.next (by simp [hd, hon, hs, hb])
  · rintro e s _ rfl ha hr he
    exact congrArg Host.Outcome.next (by simp [ha, hr, Nat.not_le.mpr he])
  · rintro e s _ hn rfl hw hr
    exact congrArg Host.Outcome.next (by simp [hn, hw, hr])
  · rintro e r s _ _ rfl he hq hinq rfl
    exact congrArg Host.Outcome.next (by simp [hq, hinq, Nat.not_le.mpr he])
  · rintro e s _ rfl ha hr he hn hw
    exact congrArg Host.Outcome.next (by simp [ha, hr, Nat.not_le.mpr he, hn, hw])
  · rintro i r s hi hon
    exact congrArg Host.Outcome.next (by simp [hi, hon])
  · rintro ns sl n q e r s hh hon howns
    exact congrArg Host.Outcome.next (by simp [hh, hon, howns])
  · rintro c w p n freed s t hr hw hon ha ho hk hs
    refine ⟨_, exec_checkpointComplete hr hw hon ha ho hk hs, ?_⟩
    simp [writeSpine_ldg hs]

/-- Settles O47: an ask takes effect for the epoch still open alone (R76). -/
theorem lateAskIsDiscarded : Obligations.LateAskIsDiscarded := by
  unfold Obligations.LateAskIsDiscarded
  intro e s he
  have hlate : (e == epochOpen (takeRx 0x22 s)) = false := beq_false_of_ne (Nat.ne_of_lt he)
  exact congrArg Host.Outcome.next (if_neg (by simp [hlate]))

end Sys2Proof.Machine
end

section
/-! PROOFS. The twin's judge, repair, snapshots and replay (O9). -/

namespace Sys2Proof.Machine

/-! The end of the judge's self-check (R100 to R105). -/

/-- JUDGE_LAST shows the self-check of both cores, and the judge is no longer busy. -/
def judgeResult (a b : Bool) (us : Nat) (s : State) : State :=
  wrF pgLDG 0x160 6 6 0
    (wr pgLDG 0x16C (BitVec.ofNat 32 (Nat.min us 0xFFFF + b2n a * 2 ^ 16 + b2n b * 2 ^ 17 + b2n (a && b) * 2 ^ 18)) s)

/-- What becomes of the cores: one that fails goes out, two that pass try once more, two that fail are a fault. -/
def judgeVerdict : Bool → Bool → State → State
  | true, true, s => if s.ldg.retried then coreOut (1 - activeCore s) s else { s with ldg := { s.ldg with retried := true } }
  | true, false, s => coreOut 1 s
  | false, true, s => coreOut 0 s
  | false, false, s => recordFault pgLDG 0x80 0 s

/-- What waited for the judge is done: full records are written, a close that is due is made. -/
def judgeRedo (s : State) : State :=
  tryClose (ldgStat (if ledgerOn s then (s.ldg.eps.map (·.1)).foldl (fun s e => flushFull e s) s else s))

/-- A self-check that ends within its 400 µs, by its verdict. -/
theorem exec_judgeSelfCheckDone {a b : Bool} {u : Nat} {s t : State} (ha : alive s pgLDG = true) (hj : judgeBusy s = true)
    (hu : u ≤ 400) (ht : t = judgeResult a b u s) :
    exec (.judgeSelfCheckDone a b u) s = .next (judgeRedo (judgeVerdict a b t)) := by
  subst ht
  refine congrArg Host.Outcome.next ((if_neg (by simp [ha, hj, Nat.not_lt.mpr hu])).trans ?_)
  cases a <;> cases b <;> rfl

/-! Snapshot commands (R112, R118). -/

/-- SNAP_CMD acts where no command waits, the word names it, its feature is live and the ledger works. -/
theorem snapCmd_runs {op feat : Nat} {v : W32} {act : Nat → Nat → State → State} {s t : State} (hb : snapBusy s = false)
    (ht : t = commandWrite pgLDG 0x14C v s) (hop : bits v 3 0 = op) (hf : live t pgLDG feat = true) (hl : ledgerLive t = true) :
    snapCmd op feat v act s = act (rdF t pgLDG 0x140 13 0) (rdF t pgLDG 0x144 15 0) t := by
  subst ht
  simp [snapCmd, hb, hop, hf, hl]

/-- A TAKE none of whose pairs is refused. -/
theorem firstCode_done {ps : List (Nat × Nat)} {code : Nat × Nat → Nat} (h : ∀ p ∈ ps, code p = spDONE) :
    firstCode (ps.map code) = spDONE := by
  have hn : (ps.map code).find? (fun c => c != spDONE) = none := by
    simp only [List.find?_eq_none, List.mem_map]
    rintro _ ⟨p, hp, rfl⟩
    simp [h p hp]
  rw [firstCode, hn]
  rfl

/-- Settles O9, command by command. The epoch that a mismatch reports is the model's reading (log entry 169). -/
theorem judgeAndSnapshotsComplete : Obligations.JudgeAndSnapshotsComplete := by
  unfold Obligations.JudgeAndSnapshotsComplete
  refine ⟨?_, ?_, ?_, ?_, ?_, ?_, ?_, ?_, ?_, ?_, ?_, ?_, ?_, ?_, ?_, ?_⟩
  · rintro b s _ ha hx hj hc rfl
    exact congrArg Host.Outcome.next (by simp [ha, hx, hj, hc])
  · rintro u s t _ ha hj hu ht rfl
    exact exec_judgeSelfCheckDone ha hj hu (ht.trans (by simp [judgeResult, b2n]))
  · rintro u s t _ ha hj hu ht rfl
    exact exec_judgeSelfCheckDone ha hj hu (ht.trans (by simp [judgeResult, b2n]))
  · rintro u s t _ ha hj hu ht rfl
    exact exec_judgeSelfCheckDone ha hj hu (ht.trans (by simp [judgeResult, b2n]))
  · rintro u s t _ ha hj hu ht rfl
    exact exec_judgeSelfCheckDone ha hj hu (ht.trans (by simp [judgeResult, b2n]))
  · rintro v s _ rfl hb ha hc hr
    exact congrArg Host.Outcome.next (by simp [repair, hb, ha, hc, hr])
  · rintro v s _ rfl hb ha hc hr
    exact congrArg Host.Outcome.next (by simp [repair, hb, ha, hc, hr])
  · rintro b c s _ hr rfl
    exact congrArg Host.Outcome.next (by simp only [hr, closedEps])
  · rintro v _ _ s t hb ht hop hf hl rfl rfl hc harm
    refine congrArg Host.Outcome.next ((snapCmd_runs hb ht hop hf hl).trans ?_)
    have hroom : ¬ ((!t.ldg.armed.any fun a => a.1 == rdF t pgLDG 0x140 13 0) = true ∧ 256 ≤ t.ldg.armed.length) := by
      rintro ⟨hnot, hfull⟩
      rcases harm with h | h
      · simp [h] at hnot
      · omega
    have hcode : (if takeCode t 0 (rdF t pgLDG 0x140 13 0, rdF t pgLDG 0x144 15 0) = spDONE ∧
        !(t.ldg.armed.any fun a => a.1 == rdF t pgLDG 0x140 13 0) ∧ 256 ≤ t.ldg.armed.length then spLIMIT
        else takeCode t 0 (rdF t pgLDG 0x140 13 0, rdF t pgLDG 0x144 15 0)) = spDONE :=
      (if_neg fun h => hroom h.2).trans hc
    simp only [hcode, if_true]
  · rintro v _ _ ps s t hb ht hop hf hl rfl rfl hps hc
    refine congrArg Host.Outcome.next ((snapCmd_runs hb ht hop hf hl).trans ?_)
    have hpairs : (if t.ldg.armed.isEmpty then [(rdF t pgLDG 0x140 13 0, rdF t pgLDG 0x144 15 0)] else t.ldg.armed) = ps := by
      simp [hps]
    have hdone : firstCode (ps.map (takeCode t (ps.length - 1))) = spDONE := firstCode_done hc
    simp only [hpairs, hdone, if_true]
  · rintro v _ _ e s t u hb ht hop hf hl rfl rfl hc hd
    refine congrArg Host.Outcome.next ((snapCmd_runs hb ht hop hf hl).trans ?_)
    cases e <;> simp [hc, hd]
  · rintro v _ _ _ s t _ hb ht hop hf hl rfl rfl rfl hc rfl
    refine congrArg Host.Outcome.next ((snapCmd_runs hb ht hop hf hl).trans ?_)
    simp [hc]
  · rintro v s t hb ht hop hf hl
    exact congrArg Host.Outcome.next (snapCmd_runs hb ht hop hf hl)
  · rintro m s hl
    exact congrArg Host.Outcome.next (by simp [hl])
  · rintro s hr hw hoff hfault hq hl hrefs hchain
    refine congrArg Host.Outcome.next ?_
    have hask : ¬ ((live s pgWDL 3 && linkUp s) = true) := by
      rcases hl with h | h <;> simp [h]
    simp [hr, hw, hoff, hfault, hq, hask, hrefs, hchain]
  · rintro s _ _ hw hr rfl rfl
    exact congrArg Host.Outcome.next (by simp [hw, hr])

end Sys2Proof.Machine
end

section
/-! PROOFS. Copies of the partner, handover, heartbeat and takeover (O29). -/

namespace Sys2Proof.Machine

/-! Writes of HANDOVER_CMD and TAKE_CMD that no command under way shuts out (R601). -/

section Commands

variable {op : Nat} {v : W32} {s t : State}

theorem handoverCmd_runs {act : Nat → State → State} (hop : bits v 31 30 = op) (hc : clockStopped s pgWDL 0x158 = false)
    (hb : bit (rd s pgWDL 0x15C) 8 = false) (ht : t = commandWrite pgWDL 0x158 v s) :
    handoverCmd op v s act = act (bits v 13 0) t := by
  subst ht
  refine (atRegister_runs (by decide) hc).trans ?_
  simp [hop, hb]

theorem takeCmd_runs {act : State → State} (hop : bits v 2 0 = op) (hc : clockStopped s pgWDL 0x150 = false)
    (hb : bit (rd s pgWDL 0x154) 31 = false) (ht : t = commandWrite pgWDL 0x150 v s) : takeCmd op v s act = act t := by
  subst ht
  refine (atRegister_runs (by decide) hc).trans ?_
  simp [hop, hb]

end Commands

/-! The partner's ALIVE counter wraps within its field of 16 bits (R594). -/

theorem rdF_lt (s : State) (p off hi lo : Nat) : rdF s p off hi lo < 2 ^ (hi - lo + 1) := Nat.mod_lt _ (Nat.two_pow_pos _)

/-- Settles O29, command by command. That a handover without a link answers NO_LINK and the numbers of the reservation actions are the
model's reading (log entries 137 and 139), and so is the map that the gaining head reads (log entry 184). An answer to FETCH_LJ is
rewritten by the equations of the statement: no proof here evaluates the replay. -/
theorem copiesAndTakeoversComplete : Obligations.CopiesAndTakeoversComplete := by
  unfold Obligations.CopiesAndTakeoversComplete
  refine ⟨?_, ?_, ?_, ?_, ?_, ?_, ?_, ?_, ?_, ?_, ?_, ?_, ?_, ?_, ?_, ?_, ?_, ?_, ?_, ?_, ?_, ?_, ?_, ?_, ?_, ?_⟩
  · rintro n s _ rfl hm
    exact congrArg Host.Outcome.next (by simp [hm])
  · rintro n s
    rfl
  · rintro n h d s _ rfl
    rfl
  · rintro j n s _ rfl hq
    exact congrArg Host.Outcome.next (by simp [hq])
  · rintro n s _ b rfl hq hb
    exact congrArg Host.Outcome.next (by simp [hq, ← hb])
  · rintro n s _ rfl
    exact congrArg Host.Outcome.next (if_pos rfl)
  · rintro j b s t u v r ht hw hu hr hv
    change execLjData j b s = _
    rw [execLjData, ← ht, if_neg (by simp [hw])]
    simp only [← hu, ← hr, ← hv]
  · rintro j b s _ rfl
    rfl
  · rintro v s t hop hc hb ht hl hp ho
    refine congrArg Host.Outcome.next ((handoverCmd_runs hop hc hb ht).trans ?_)
    simp [hl, hp, ho]
  · rintro v s t hop hc hb ht
    exact congrArg Host.Outcome.next (handoverCmd_runs hop hc hb ht)
  · rintro n s _ rfl ho ha
    exact congrArg Host.Outcome.next ((if_neg (by simp [ho])).trans (if_pos ha))
  · rintro n e s _ _ rfl ho rfl
    exact congrArg Host.Outcome.next (by simp [ho])
  · rintro n s _ rfl ho
    exact congrArg Host.Outcome.next (by simp [ho])
  · rintro s _ hl hf rfl
    exact congrArg Host.Outcome.next (by simp [hl, hf])
  · rintro a s hl hg ha
    have hlast : rdF s pgWDL 0x148 31 16 < 65536 := rdF_lt s pgWDL 0x148 31 16
    have hnew : a ≠ rdF s pgWDL 0x148 31 16 := by omega
    have hnext : ¬ 1 < (a + 65536 - rdF s pgWDL 0x148 31 16) % 65536 := by omega
    exact congrArg Host.Outcome.next (by simp [hl, hg, hnew, hnext])
  · rintro s hl
    exact congrArg Host.Outcome.next (by simp [hl])
  · rintro v s _ hc rfl hb
    refine congrArg Host.Outcome.next ((atRegister_runs (by decide) hc).trans ?_)
    simp [hb]
  · intro s
    rfl
  · intro s
    rfl
  · intro s hf
    exact congrArg Host.Outcome.next (by simp [hf])
  · intro s hf
    exact congrArg Host.Outcome.next (by simp [hf])
  · intro s hf
    exact congrArg Host.Outcome.next (by simp [hf])
  · rintro s t u v hf ht hu hv
    change execFencePreemptsDone s = _
    rw [execFencePreemptsDone, if_neg (by simp [hf]), ← ht]
    cases hcmd : v.tin.cmd <;> simp only [← hu, ← hv, hcmd]
  · rintro v s t hop hc hb ht hp hf
    refine congrArg Host.Outcome.next ((takeCmd_runs hop hc hb ht).trans ?_)
    simp [hp, hf]
  · rintro v s t hop hc hb ht hp hf
    refine congrArg Host.Outcome.next ((takeCmd_runs hop hc hb ht).trans ?_)
    simp [hp, hf]
  · rintro v s t hop hc hb ht hp
    refine congrArg Host.Outcome.next ((takeCmd_runs hop hc hb ht).trans ?_)
    simp [stepDown, hp]

end Sys2Proof.Machine
end

section
/-! PROOFS. Commands of the host queues: I/O, admin and Fabrics (O10, O11). -/

namespace Sys2Proof.Machine

/-! A command as a row finds it in the table (R122). -/

/-- The command that is found carries the queue pair and CID that were asked for. -/
theorem cmdFind_ids {s : State} {qp cid : Nat} {k : Cmd} (h : cmdFind s qp cid = some k) : k.qp = qp ∧ k.cid = cid := by
  simpa using List.find?_some h

theorem ioCmd_eq_some {s : State} {qp cid op : Nat} {k : Cmd} (h : ioCmd s qp cid op = some k) :
    cmdFind s qp cid = some k ∧ k.st = .queued := by
  cases hc : cmdFind s qp cid with
  | none => simp [ioCmd, hc] at h
  | some c =>
    simp only [ioCmd, hc, Option.ite_none_right_eq_some, Option.some.injEq] at h
    obtain ⟨⟨hst, -⟩, rfl⟩ := h
    exact ⟨rfl, hst⟩

theorem adminCmd_eq_some {s : State} {qp cid op : Nat} {k : Cmd} (h : adminCmd s qp cid op = some k) :
    cmdFind s qp cid = some k ∧ k.st = .queued := by
  cases hc : cmdFind s qp cid with
  | none => simp [adminCmd, hc] at h
  | some c =>
    simp only [adminCmd, hc, Option.ite_none_right_eq_some, Option.some.injEq] at h
    obtain ⟨⟨hst, -⟩, rfl⟩ := h
    exact ⟨rfl, hst⟩

/-- A command still queued has pulled nothing. -/
theorem pulled_of_queued {s : State} {qp cid op : Nat} {k : Cmd} (h : cmdFind s qp cid = some k) (hk : k.st = .queued) :
    pulled s qp cid op = none := by
  simp [pulled, h, hk]

/-! The arrival of a capsule (R122). -/

/-- The receive queue gives up a capsule. -/
def takeCapsule (qp : Nat) (bs : List Byte) (s : State) : State :=
  { s with xpt := { s.xpt with capsules := s.xpt.capsules.erase (qp, bs) } }

/-- A capsule takes one buffer of its queue. -/
def takeBuffer (qp : Nat) (s : State) : State :=
  match Tab.find? s.hq.sqs qp with
  | some q => { s with hq := { s.hq with sqs := Tab.put s.hq.sqs qp { q with head := (q.head + 1) % q.depth } } }
  | none => s

theorem takeBuffer_some {s : State} {qp : Nat} {q : Sq} (h : Tab.find? s.hq.sqs qp = some q) : takeBuffer qp s =
    { s with hq := { s.hq with sqs := Tab.put s.hq.sqs qp { q with head := (q.head + 1) % q.depth } } } := by
  simp only [takeBuffer, h]

/-- A command takes its place in the table. -/
def enterTable (c : Cmd) (s : State) : State :=
  { ({ s with hq := { s.hq with cmds := s.hq.cmds ++ [c], seq := s.hq.seq + 1 } } : State) with
    wc := { s.wc with wseq := Nat.max s.wc.wseq c.wseq } }

/-- What the checks of its acceptance make of a command in the table. -/
def judgeCmd (c : Cmd) (s : State) : State :=
  if !opcodeOk s c then s
  else if c.verdict = 0 then (if isAdmin s c || c.nsid = 0xFFFFFFFF then s else offered c s)
  else if dispatching s then refuse c c.verdict s
  else s

theorem judgeCmd_passed {c : Cmd} {s : State} (ho : opcodeOk s c = true) (hv : c.verdict = 0) :
    judgeCmd c s = if isAdmin s c || c.nsid = 0xFFFFFFFF then s else offered c s := by
  simp [judgeCmd, ho, hv]

/-- A capsule's command, once its buffer is taken, is entered and judged. -/
def acceptCapsule (qp : Nat) (sqe icd : List Byte) (s : State) : State :=
  judgeCmd (newCmd qp sqe icd s) (enterTable (newCmd qp sqe icd s) s)

/-- An arrival at a head in P0, outside a quench. -/
theorem exec_capsuleArrival {qp : Nat} {q i : List Byte} {s : State} (hr : running s pgHQ = true) (hq : inQ s = false)
    (hp : pwrState s = psP0) : exec (.capsuleArrival qp q i) s =
      .next (acceptCapsule qp q i (takeBuffer qp (takeCapsule qp (q ++ i) s))) := by
  have hopen : ¬ (inQ s || !running s pgHQ) = true := by simp [hq, hr]
  exact congrArg Host.Outcome.next ((if_neg hopen).trans (congrArg (fun t => acceptCapsule qp q i (takeBuffer qp t)) (if_pos hp)))

/-! The rows that dispatch a command which nothing refuses (R147 to R150). -/

theorem ioRow_runs {s : State} {qp cid op : Nat} {k : Cmd} {act : Cmd → State → State} (h : ioCmd s qp cid op = some k)
    (hd : dispatching s = true) (hc : checkNow s k = 0) : ioRow op qp cid act s = act k s := by
  simp [ioRow, h, hd, hc]

theorem adminRow_runs {s : State} {qp cid op : Nat} {k : Cmd} {act : Cmd → State → State} (h : adminCmd s qp cid op = some k)
    (hd : dispatching s = true) (hv : k.verdict = 0) : adminRow op qp cid act s = act k s := by
  simp [adminRow, h, hd, hv]

/-! Reads (R140, R463). -/

section Reads

variable {qp cid : Nat} {k : Cmd} {s : State} (hd : dispatching s = true) (hc : checkNow s k = 0) (hb : heldBack s k = false)
  (hy : yields s k = false)
include hd hc hb hy

theorem dispatchRead_verify (h : ioCmd s qp cid opVERIFY = some k) : dispatchRead opVERIFY qp cid s = bindAll k (charge k s) := by
  rw [dispatchRead, ioRow_runs h hd hc]
  simp [hb, hy]

theorem dispatchRead_read (h : ioCmd s qp cid opREAD = some k) (hg : sglCheck s k (k.declared s) = 0) :
    dispatchRead opREAD qp cid s = sglExcess k (k.declared s) (bindAll k (charge k s)) := by
  rw [dispatchRead, ioRow_runs h hd hc]
  simp [hb, hy, hg]

/-- A Compare goes on from its binding to pull the bytes it compares. -/
theorem dispatchRead_compare {j : Cmd} {t : State} (h : ioCmd s qp cid opCOMPARE = some k) (hg : sglCheck s k (k.declared s) = 0)
    (ht : t = sglExcess k (k.declared s) (bindAll k (charge k s))) (hj : cmdFind t qp cid = some j) :
    dispatchRead opCOMPARE qp cid s = hostRead j 0 (k.declared s) (cmdPut { j with icd := [] } t) := by
  subst ht
  rw [dispatchRead, ioRow_runs h hd hc]
  simp [hb, hy, hg, hj]

end Reads

/-- Settles O10, command by command: each acts where dispatch is open and nothing holds it back. The order of an arrival's checks
and the zero slots of a Write Zeroes are the model's reading (log entries 74 and 82). -/
theorem hostIoCommandsComplete : Obligations.HostIoCommandsComplete := by
  unfold Obligations.HostIoCommandsComplete
  refine ⟨?_, ?_, ?_, ?_, ?_, ?_, ?_, ?_, ?_, ?_, ?_⟩
  · rintro qp q i sq c s t u hr hq hp hsq ht hc hu hop hv
    have hfound : Tab.find? (takeCapsule qp (q ++ i) s).hq.sqs qp = some sq := hsq
    have htaken : takeBuffer qp (takeCapsule qp (q ++ i) s) = t := (takeBuffer_some hfound).trans ht.symm
    rw [exec_capsuleArrival hr hq hp, htaken, acceptCapsule, ← hc, enterTable, ← hu, judgeCmd_passed hop hv]
  · rintro qp cid k is s t h hd hc hb hy hg ha
    refine congrArg Host.Outcome.next ((ioRow_runs h hd hc).trans ?_)
    simp [hb, hy, hg, ha]
  · rintro qp cid k is s t h hd hc hb hy ha
    refine congrArg Host.Outcome.next ((ioRow_runs h hd hc).trans ?_)
    simp [hb, hy, ha]
  · rintro qp cid k s h hx hw hl hgot hpi
    exact congrArg Host.Outcome.next (by simp [h, hx, hw, hl, hpi, Nat.not_lt.mpr hgot])
  · rintro qp cid k s _ h hd hc hy rfl
    refine congrArg Host.Outcome.next ((ioRow_runs h hd hc).trans ?_)
    simp [hy]
  · intro qp cid k s h hd hc hb hy
    exact congrArg Host.Outcome.next (dispatchRead_verify hd hc hb hy h)
  · intro qp cid k s h hd hc hb hy hg
    exact congrArg Host.Outcome.next (dispatchRead_read hd hc hb hy h hg)
  · intro qp cid k j s t h hd hc hb hy hg ht hj
    exact congrArg Host.Outcome.next (dispatchRead_compare hd hc hb hy h hg ht hj)
  · intro qp cid k s h hd hc hb hy hg
    obtain ⟨hk, hst⟩ := ioCmd_eq_some h
    refine congrArg Host.Outcome.next ?_
    simp [hk, hst, ioRow_runs h hd hc, hb, hy, hg]
  · intro qp cid k s h hop ha hx hgot
    exact congrArg Host.Outcome.next (by simp [h, hop, ha, hx, hgot])
  · intro qp cid k s h hst hop hd
    exact congrArg Host.Outcome.next (by simp [h, hst, hop, hd])

/-! Connect (R121, R122). -/

section Connect

variable {k : Cmd} {data : List Byte} {s : State} (hsize : k.f 44 2 ≠ 0) (hlen : 1024 ≤ data.length)
  (hsq : Tab.find? s.hq.sqs k.qp = none) (hroom : s.hq.sqs.length < maxSqs) (hdepth : depthSum s + (k.f 44 2 + 1) ≤ maxDepth)
include hsize hlen hsq hroom hdepth

/-- A Connect for queue 0 makes a controller. -/
theorem connect_controller (hqid : k.f 42 2 = 0) (hctrls : s.hq.ctrls.length < maxCtrls) :
    connect k data s =
      hqFinishDw k.qp k.cid scSUCCESS (pw (freeCtrl (Config.free32 s.free) s)) 0
        (openQueue k.qp ⟨freeCtrl (Config.free32 s.free) s, 0, k.f 44 2 + 1, 1⟩
          { (draw s).2 with hq := { (draw s).2.hq with
            ctrls := Tab.put s.hq.ctrls (freeCtrl (Config.free32 s.free) s) { katoMs := grantKato (draw s).2 (k.f 48 4) } } }) := by
  have hbad : ¬ (k.f 44 2 = 0 ∨ data.length < 1024 ∨ (Tab.find? s.hq.sqs k.qp).isSome = true) := by
    simp [hsize, hsq, hlen]
  have hfull : ¬ (maxSqs ≤ s.hq.sqs.length ∨ maxDepth < depthSum s + (k.f 44 2 + 1)) := by omega
  exact (if_neg hbad).trans ((if_neg hfull).trans ((if_pos hqid).trans (if_neg (Nat.not_le.mpr hctrls))))

/-- A Connect for another queue opens it on the controller that its data names. -/
theorem connect_ioQueue {c : Nat} {x : Ctrl} (hqid : k.f 42 2 ≠ 0) (hc : c = field data 16 2) (hx : Tab.find? s.hq.ctrls c = some x)
    (hnew : (s.hq.sqs.any fun e => e.2.ctrl == c && e.2.qid == k.f 42 2) = false)
    (hio : (s.hq.sqs.filter fun e => e.2.ctrl == c && e.2.qid != 0).length < maxIoQueues) :
    connect k data s = hqFinishDw k.qp k.cid scSUCCESS (pw c) 0 (openQueue k.qp ⟨c, k.f 42 2, k.f 44 2 + 1, 1⟩ s) := by
  subst hc
  have hbad : ¬ (k.f 44 2 = 0 ∨ data.length < 1024 ∨ (Tab.find? s.hq.sqs k.qp).isSome = true) := by
    simp [hsize, hsq, hlen]
  have hfull : ¬ (maxSqs ≤ s.hq.sqs.length ∨ maxDepth < depthSum s + (k.f 44 2 + 1)) := by omega
  refine (if_neg hbad).trans ((if_neg hfull).trans ((if_neg hqid).trans ?_))
  simp only [hx, hnew, Bool.false_eq_true, if_false, if_neg (Nat.not_le.mpr hio)]

end Connect

/-- A Connect whose data stands in its capsule. -/
theorem exec_fabricsConnect {qp cid : Nat} {k : Cmd} {s : State} (h : adminCmd s qp cid 0x7F = some k) (hf : k.fctype = 0x01)
    (hd : dispatching s = true) (hv : k.verdict = 0) (hi : k.inCapsule = true) :
    exec (.fabricsConnect qp cid) s = .next (connect k k.icData s) := by
  obtain ⟨hk, hst⟩ := adminCmd_eq_some h
  refine congrArg Host.Outcome.next ?_
  simp [pulled_of_queued hk hst, adminRow_runs h hd hv, hf, hi]

/-! What firmware serves (R127). -/

/-- A command whose opcode brings no data from the host, or that describes none to pull, goes to firmware at once. -/
theorem toFirmware_queued {qp cid op : Nat} {k : Cmd} {s : State} (h : adminCmd s qp cid op = some k) (hd : dispatching s = true)
    (hv : k.verdict = 0) (hn : op % 2 = 0 ∨ k.inCapsule = true ∨ k.descs.isSome = false ∨ k.described = 0) :
    toFirmware op qp cid s = handOff k s := by
  obtain ⟨hk, hst⟩ := adminCmd_eq_some h
  rw [toFirmware, pulled_of_queued hk hst]
  refine (adminRow_runs h hd hv).trans (if_neg ?_)
  rcases hn with hn | hn | hn | hn <;> simp [hn]

theorem toFirmware_pulled {qp cid op : Nat} {k : Cmd} {s : State} (h : pulled s qp cid op = some k) :
    toFirmware op qp cid s = handOff k s := by
  rw [toFirmware, h]

/-- Settles O11, command by command. The number of the controller that a Connect makes, and the one buffer of its queue that the Connect
takes, are the model's choice (log entries 77 and 78); that the place of a handed-off command's data is free is its reading (log entry
80). -/
theorem hostAdminCommandsComplete : Obligations.HostAdminCommandsComplete := by
  unfold Obligations.HostAdminCommandsComplete
  refine ⟨?_, ?_, ?_, ?_, ?_, ?_, ?_, ?_, ?_, ?_, ?_, ?_, ?_, ?_, ?_, ?_⟩
  · rintro qp cid k s _ h hf hd hv hi hqid hsize hlen hsq hroom hdepth hctrls rfl
    obtain ⟨rfl, rfl⟩ := cmdFind_ids (adminCmd_eq_some h).1
    rw [exec_fabricsConnect h hf hd hv hi, connect_controller hsize hlen hsq hroom hdepth hqid hctrls]
    rfl
  · rintro qp cid c k x s h hf hd hv hi hqid hsize hlen hsq hroom hdepth hc hx hnew hio
    obtain ⟨rfl, rfl⟩ := cmdFind_ids (adminCmd_eq_some h).1
    rw [exec_fabricsConnect h hf hd hv hi, connect_ioQueue hsize hlen hsq hroom hdepth hqid hc hx hnew hio]
  · intro qp cid n k x s h hx hf hd hv hoff hsz
    have hcc : x.cc.toNat % 0x10000000000000000 = x.cc.toNat := Nat.mod_eq_of_lt (Nat.lt_of_lt_of_le x.cc.isLt (by decide))
    refine congrArg Host.Outcome.next ((adminRow_runs h hd hv).trans ?_)
    simp [hx, hf, hoff, hsz, hcc]
  · rintro qp cid n k x s _ h hx hf hd hv hoff rfl
    refine congrArg Host.Outcome.next ((adminRow_runs h hd hv).trans ?_)
    simp [hx, hf, hoff]
  · intro qp cid k s h hf hd hv
    refine congrArg Host.Outcome.next ((adminRow_runs h hd hv).trans ?_)
    simp [hf]
  · intro qp cid k s h hd hv
    exact congrArg Host.Outcome.next (toFirmware_queued h hd hv (.inl rfl))
  · intro qp cid k s h hd hv
    exact congrArg Host.Outcome.next (toFirmware_queued h hd hv (.inl rfl))
  · intro qp cid k s h hd hv hn
    exact congrArg Host.Outcome.next (toFirmware_queued h hd hv (.inr hn))
  · intro qp cid k s h
    exact congrArg Host.Outcome.next (toFirmware_pulled h)
  · intro qp cid k s h hf
    exact congrArg Host.Outcome.next (by simp [h, hf])
  · intro qp cid k s h hd hv
    exact congrArg Host.Outcome.next (toFirmware_queued h hd hv (.inl rfl))
  · intro qp cid k s h hd hv
    exact congrArg Host.Outcome.next (adminRow_runs h hd hv)
  · intro qp cid n k x s h hx hd hv haer hpend
    refine congrArg Host.Outcome.next ((adminRow_runs h hd hv).trans ?_)
    simp [hx, hpend, Nat.not_le.mpr haer]
  · intro qp cid k s h ha hq hp
    exact congrArg Host.Outcome.next (by simp [h, ha, hq, hp])
  · rintro v k s _ _ rfl hk rfl hc
    refine congrArg Host.Outcome.next ?_
    simp [hk, hc]
  · rintro n x s _ hx hk hq rfl
    exact congrArg Host.Outcome.next (by simp [hx, hk, hq])

end Sys2Proof.Machine
end

section
/-! PROOFS. Holds, quality of service and namespaces (O12). -/

namespace Sys2Proof.Machine

/-- Settles O12, command by command. That this write records the first owner of a namespace is the model's reading (log entry 75); who it
is, the depth of a bucket and the limit that a missed reservation names are its choices (log entries 182, 81 and 177). -/
theorem holdAndQosComplete : Obligations.HoldAndQosComplete := by
  unfold Obligations.HoldAndQosComplete
  refine ⟨?_, ?_, ?_, ?_, ?_, ?_, ?_⟩
  · intro v s hwas hv
    exact congrArg Host.Outcome.next (by simp [hwas, hv])
  · intro v s hwas hv
    exact congrArg Host.Outcome.next (by simp [hwas, hv])
  · intro s hwas
    exact congrArg Host.Outcome.next (if_pos hwas)
  · intro s hl
    exact congrArg Host.Outcome.next (if_pos hl)
  · intro s hl
    exact ⟨_, congrArg Host.Outcome.next (if_pos hl), rfl⟩
  · rintro v _ _ _ s _ rfl rfl rfl rfl hbw hio
    refine congrArg Host.Outcome.next (if_neg ?_)
    omega
  · rintro v _ _ s _ rfl rfl ha rfl hb
    have hfree : ¬ (nsOf (commandWrite pgHQ 0x114 v s) (nsSel s)).active = true := by simp [ha]
    exact congrArg Host.Outcome.next ((if_neg fun h => hfree h.1).trans (if_pos (Bool.and_eq_true_iff.mpr ⟨hb, by simp [ha]⟩)))

end Sys2Proof.Machine
end

section
/-! PROOFS. What the commands of the forges and the engines leave (O51). -/

namespace Sys2Proof.Machine

/-- Settles O51, from what each command's meaning may change. -/
theorem forgeAndEngineCommandsLeaveTheRest : Obligations.ForgeAndEngineCommandsLeaveTheRest :=
  ⟨fun _ _ => Ends.leaves (fun _ => execForgeHandle_moves) rfl,
    fun _ _ _ => Ends.leaves (fun _ => execGrainIntakeDone_moves) rfl,
    fun _ _ => Ends.leaves (fun _ => execGrainRefetchData_moves) rfl,
    fun _ _ => Ends.leaves (fun _ => execRefetchTimeout_moves) rfl,
    fun _ _ => Ends.leaves (fun _ => execLookupAnswer_moves) rfl,
    fun _ _ => Ends.leaves (fun _ => execPendingTimeout_moves) rfl,
    fun _ => Ends.leaves (fun _ => execIndexPageFetchDone_moves) rfl,
    fun _ _ => Ends.leaves (fun _ => execLookupBudgetExpiry_moves) rfl,
    fun _ _ => Ends.leaves (fun _ => execSealDone_moves) rfl,
    fun _ => Ends.leaves (fun _ => execKeyWaitRetry_moves) rfl,
    fun _ => Ends.leaves (fun _ => execBilletGrant_moves) rfl,
    fun _ _ => Ends.leaves (fun _ => execVerifyPlaintext_moves) rfl,
    fun _ _ => Ends.leaves (fun _ => execVerifyTimeout_moves) rfl,
    fun _ => Ends.leaves (fun _ => execHandInBody_moves) rfl,
    fun _ => Ends.leaves (fun _ => execHandInRef_moves) rfl,
    fun _ => Ends.leaves (fun _ => execHandInZero_moves) rfl,
    fun _ => Ends.leaves (fun _ => execHandInSlag_moves) rfl,
    fun _ => Ends.leaves (fun _ => execHandInCull_moves) rfl,
    fun _ => Ends.leaves (fun _ => execFltClear_moves) rfl,
    fun _ => Ends.leaves (fun _ => execDomCfgWrite_moves) rfl,
    fun _ _ _ _ => Ends.leaves (fun _ => execAsyHash_moves) rfl,
    fun _ _ _ _ => Ends.leaves (fun _ => execAsyHmac_moves) rfl,
    fun _ _ _ _ _ => Ends.leaves (fun _ => execAsyHashCmp_moves) rfl,
    fun _ _ _ _ _ => Ends.leaves (fun _ => execAsyHmacCmp_moves) rfl,
    fun _ _ _ => Ends.leaves (fun _ => execAsyCtxExport_moves) rfl,
    fun _ _ _ => Ends.leaves (fun _ => execAsyCtxImport_moves) rfl,
    fun _ _ _ => Ends.leaves (fun _ => execAsyCtxClear_moves) rfl,
    fun _ => Ends.leaves (fun _ => execAsyPreemptSave_moves) rfl,
    fun _ _ => Ends.leaves (fun _ => execGlaneRestore_moves) rfl,
    fun _ _ => Ends.leaves (fun _ => execResSeqRead_moves) rfl,
    fun _ _ _ => Ends.leaves (fun _ => execRingDisable_moves) rfl,
    fun _ _ _ _ => Ends.leaves (fun _ => execCruCompress_moves) rfl,
    fun _ _ => Ends.leaves (fun _ => execCruDecompress_moves) rfl,
    fun _ _ => Ends.leaves (fun _ => execCruCtxClear_moves) rfl,
    fun _ _ => Ends.leaves (fun _ => execGunitRestore_moves) rfl,
    fun _ _ _ => Ends.leaves (fun _ => execGcmSeal_moves) rfl,
    fun _ _ _ => Ends.leaves (fun _ => execGcmOpen_moves) rfl,
    fun _ _ _ => Ends.leaves (fun _ => execXtsEnc_moves) rfl,
    fun _ _ _ => Ends.leaves (fun _ => execXtsDec_moves) rfl,
    fun _ _ _ => Ends.leaves (fun _ => execKeyLoad_moves) rfl,
    fun _ _ _ => Ends.leaves (fun _ => execKeyErase_moves) rfl,
    fun _ => Ends.leaves (fun _ => execKeygenInstall_moves) rfl,
    fun _ => Ends.leaves (fun _ => execKeygenRetire_moves) rfl,
    Ends.leaves (fun _ => execKeygenEffect_moves) rfl,
    fun _ _ _ _ _ _ _ => Ends.leaves (fun _ => execKeygen_moves) rfl,
    fun _ _ _ => Ends.leaves (fun _ => execUseGrant_moves) rfl,
    fun _ => Ends.leaves (fun _ => execCeilingWriteDone_moves) rfl,
    fun _ _ => Ends.leaves (fun _ => execTinUnitRestore_moves) rfl⟩

end Sys2Proof.Machine
end

section
/-! PROOFS. Forge windows (O13). -/

namespace Sys2Proof.Machine

/-! A grain in the window of a forge that works. -/

theorem withGrain_found {f q : Nat} {act : FGrain → State → State} {g : FGrain} {s : State} (hf : forging s f = true)
    (hg : grainFind s f q = some g) : withGrain f q act s = frgTurn f (act g s) := by
  simp [withGrain, hf, hg]

/-- A command on such a grain leaves what its meaning makes of the grain, and the turn of the forge. -/
theorem next_withGrain {f q : Nat} {act : FGrain → State → State} {g : FGrain} {s t : State} (hf : forging s f = true)
    (hg : grainFind s f q = some g) (ht : act g s = t) :
    (.next (withGrain f q act s) : Outcome) = .next (frgTurn f t) := by
  rw [withGrain_found hf hg, ht]

/-- The other copy of a grain that lies in the quench store is asked for there (R167). -/
theorem refetch_single {f : Nat} {g : FGrain} {s : State} (h : g.h.single = true) :
    refetch f g s = grainPut f { g with refetch := true } s := if_pos h

/-- Settles O13, command by command; FLT_CLEAR and DOM_CFG_WRITE by R202 and R193. -/
theorem forgeIntakeCompletes : Obligations.ForgeIntakeCompletes := by
  unfold Obligations.ForgeIntakeCompletes
  refine ⟨?_, ?_, ?_, ?_, ?_, ?_, ?_⟩
  · rintro f b _ _ s _ _ hr hq hheld hfree hb rfl he hpick hmay hnew rfl rfl rfl
    have hopen : ¬ (!running s (pgFRG + f) || inQ s || bit (rd s (pgFRG + f) 0x104) 0 || freePlaces s f == 0) = true := by
      simp [hr, hq, hheld, hfree]
    have hvalid : ¬ (handleRsvd b || (Handle.ofBytes b).epoch != forgeEpoch s f) = true := by simp [hb, he]
    have hcomes : ¬ (pickForge s ≠ some f || !mayHand s (Handle.ofBytes b) || (grainFind s f (Handle.ofBytes b).seq).isSome) = true := by
      simp [hpick, hmay, hnew]
    exact congrArg Host.Outcome.next ((if_neg hopen).trans ((if_neg hvalid).trans (if_neg hcomes)))
  · rintro f q _ _ g s hf hg hread hre rfl rfl hcrc
    exact next_withGrain hf hg (by simp [hread, hre, hcrc])
  · intro f q g s hf hg hread hre hsingle
    exact next_withGrain hf hg (by simp [hread, hre, refetch_single hsingle])
  · rintro f q b g s _ _ hf hg hre hsingle hcopy hcrc rfl rfl
    exact next_withGrain hf hg (by simp [hre, hsingle, hcopy, hcrc, pw])
  · intro f q g s hf hg hre
    exact next_withGrain hf hg (if_pos hre)
  · intro v s hc hv
    exact congrArg Host.Outcome.next ((atRegister_runs rfl hc).trans (if_pos hv))
  · rintro v s _ r hc hr hl rfl
    refine congrArg Host.Outcome.next ((atRegister_runs rfl hc).trans ?_)
    simp [hr, hl]

end Sys2Proof.Machine
end

section
/-! PROOFS. Index lookups and verifies (O14). -/

namespace Sys2Proof.Machine

theorem askIndex_resident {f : Nat} {g : FGrain} {s : State} (h : pagesThere s g.fp = true) :
    askIndex f g s = evalLook f g (keepPage (idxPages s g.fp).1 (keepPage (idxPages s g.fp).2 s)) := if_pos h

/-- Settles O14, command by command. -/
theorem indexLookupsComplete : Obligations.IndexLookupsComplete := by
  unfold Obligations.IndexLookupsComplete
  refine ⟨?_, ?_, ?_, ?_, ?_, ?_, ?_⟩
  · intro f q g s hf hg hlook ha hp
    exact next_withGrain hf hg (by simp [ha, hlook, askIndex_resident hp])
  · rintro f q g s _ hf hg hlook rfl hnone
    exact next_withGrain hf hg (by simp [hlook, hnone])
  · rintro f q _ g s ha hf hg hlook rfl
    have hwaits : ((List.range 16).any fun f' => (fwinOf s f').any fun x =>
        x.look == .page && ((idxPages s x.fp).1 == (idxPages s g.fp).1 || (idxPages s x.fp).2 == (idxPages s g.fp).1)) = true :=
      List.any_eq_true.mpr ⟨f, List.mem_range.mpr hf, List.any_eq_true.mpr ⟨g, List.mem_of_find?_eq_some hg, by simp [hlook]⟩⟩
    exact congrArg Host.Outcome.next (if_neg (by simp only [ha, hwaits]; decide))
  · intro f q g s hf hg hask
    exact next_withGrain hf hg (if_pos hask)
  · intro f q n a g s hf hg hlook hans
    exact next_withGrain hf hg (by simp [hlook, hans])
  · rintro f q n a d p g s _ hf hg hlook hans hne rfl
    have hdiff : ¬ (d = g.data ∧ p = g.pi) := fun h => hne.elim (· h.1) (· h.2)
    refine next_withGrain hf hg ?_
    cases g.gloc <;> simp [hlook, hans, hdiff]
  · intro f q n a g s hf hg hlook
    exact next_withGrain hf hg (by simp [hlook])

end Sys2Proof.Machine
end

section
/-! PROOFS. Seals, billets, hand-ins and the end of a power exit (O15). -/

namespace Sys2Proof.Machine

/-! A grain whose seal has run (R188, R190). -/

theorem sealEnds_queued {f k : Nat} {g : FGrain} {s : State} (hs : g.sealing = .running k) (hl : g.look = .queued) :
    sealEnds f g s = grainPut f
      { g with sealing := .done (sealBody s k g.h.domain (g.gloc.getD 0) g.len16 g.h.epoch (g.payload ++ pad16 g.pi)) } s := by
  simp [sealEnds, hs, sealLands, hl]

/-! Hand-ins (R371). -/

section HandIns

variable {f k : Nat} {h : HandIn} {s t : State}

/-- What is taken stood at the front of the queue. -/
theorem takeIn_nonempty (ht : takeIn k f s = some (h, t)) : (Tab.getD s.frg.outs [] f).isEmpty = false := by
  cases hq : Tab.getD s.frg.outs [] f with
  | nil => simp [takeIn, hq] at ht
  | cons x xs => rfl

/-- A hand-in taken as it stands: no page of a checkpoint is posted to the queue of a forge, nor to one that is not empty (R442). -/
theorem exec_handInBody_taken (ht : takeIn hiBODY f s = some (h, t)) :
    exec (.handInBody f) s = .next (if f = 16 then placeIn h t else publish h (workUp (glocBody h.gloc).toNat (placeIn h t))) := by
  have hpost : ¬ (f = 16 && ingOn s && (Tab.getD s.frg.outs [] 16).isEmpty) = true := by
    by_cases hf : f = 16
    · subst hf
      simp [takeIn_nonempty ht]
    · simp [hf]
  refine congrArg Host.Outcome.next ?_
  simp only [if_neg hpost, ht]

end HandIns

/-- Settles O15, command by command. That the checkpoint writer puts its next page on queue 16 when that is empty is the model's choice
(log entry 192); the end of a power exit is that of R149 and R722. -/
theorem sealsAndHandInsComplete : Obligations.SealsAndHandInsComplete := by
  unfold Obligations.SealsAndHandInsComplete
  refine ⟨?_, ?_, ?_, ?_, ?_, ?_, ?_, ?_, ?_, ?_, ?_⟩
  · rintro f q k g s _ hf hthere rfl hg hseal hlook
    obtain ⟨g₀, hg₀⟩ := Option.isSome_iff_exists.mp hthere
    refine next_withGrain hf hg₀ ?_
    simp only [hg, Option.getD_some, sealEnds_queued hseal hlook]
  · intro f s hf
    exact congrArg Host.Outcome.next (if_neg (by simp [hf]))
  · rintro h c s _ hr hq hnone hw hsrc rfl
    refine congrArg Host.Outcome.next ((if_neg (by simp [hr, hq, hnone, hw])).trans ?_)
    simp only [hsrc]
  · intro f h s t hf ht
    exact (exec_handInBody_taken ht).trans (by rw [if_neg hf])
  · intro h s t ht
    exact (exec_handInBody_taken ht).trans (by rw [if_pos rfl])
  · intro h s t hon hempty ht
    refine congrArg Host.Outcome.next ?_
    simp [hon, hempty, ht]
  · intro f h s t ht
    exact congrArg Host.Outcome.next (by simp only [ht])
  · intro f h s t ht
    exact congrArg Host.Outcome.next (by simp only [ht])
  · intro f h s t ht
    exact congrArg Host.Outcome.next (by simp only [ht])
  · intro f h s t ht
    exact congrArg Host.Outcome.next (by simp only [ht])
  · rintro s _ _ he hq rfl rfl
    exact congrArg Host.Outcome.next (if_neg (by simp [he, hq]))

end Sys2Proof.Machine
end

section
/-! PROOFS. Assay: descriptors, preemption and lanes (O5). -/

namespace Sys2Proof.Machine

/-! A posted descriptor that passes the tests of R213 starts on the lane its ring may take. -/

section Starts

variable {n l l' : Nat} {s : State} {d : Dsc} (hserving : serving s pgASY = true) (hpart : (openOf s n).bind (·.part) = none)
  (hposted : posted s pgASY n = true) (hd : d = headDsc s pgASY n) (hdone : (rgOf s pgASY n).done = []) (hout : allOut s pgASY = false)
  (hlane : laneFor s n l' = some l) (hcode : asyCode s n d = 0)

include hserving hpart hposted hd hdone hout hlane hcode

theorem asyRun_begins {op k : Nat} {odd : Option (Nat × Nat)} (hop : d.opcode = op) :
    asyRun op n l' k true odd s =
      asyBegin n l d (rgHead s pgASY n % rgSize s pgASY n) k odd (advanceSq pgASY n s) := by
  subst hd
  simp [asyRun, hserving, hpart, hposted, hop, hdone, hout, hlane, hcode]

theorem asyCtxRun_acts {op : Nat} {f : Nat → Dsc → Nat → State → State} (hop : d.opcode = op) :
    asyCtxRun op n l' true f s = f l d (rgHead s pgASY n % rgSize s pgASY n) (advanceSq pgASY n s) := by
  subst hd
  simp [asyCtxRun, hserving, hpart, hposted, hop, hdone, hout, hlane, hcode]

end Starts

/-! Preemption (R228 to R230). -/

/-- The state and the ring of a message as it is preempted: its context is FULL, and it holds no lane. -/
def preempted (v : Nat) (o : AOpen) (s : State) : State :=
  openPut v { o with lane := none, msg := {} } (ctxPut o.ctx (some o.msg) (bump pgASY 0x110 1 s))

section Preempts

variable {n v l : Nat} {o : AOpen} {s : State} (hserving : serving s pgASY = true) (hlive : live s pgASY 5 = true)
  (hwaits : waiting s pgASY n = true) (hheld : (lanesOf pgASY).all (fun l => !laneIdle s pgASY l) = true)
  (hvictim : chooseVictim s (victims s (rgPrio s pgASY n)) = some (v, o))

include hserving hlive hwaits hheld hvictim

/-- A victim between two descriptors goes back to the queue of its ring's priority. -/
theorem exec_asyPreemptSave_between (hpart : o.part = none) :
    exec (.asyPreemptSave n) s = .next (joinQueue pgASY (preempted v o s) v) := by
  refine congrArg Host.Outcome.next ((if_neg (by simp [hserving, hlive, hwaits, hheld])).trans ?_)
  simp only [hvictim, hpart, preempted]

/-- A descriptor cut short gets an interim completion, and its ring goes ahead of its priority. -/
theorem exec_asyPreemptSave_within {d : Dsc} {i c : Nat} (hlane : o.lane = some l) (hpart : o.part = some (d, i, c)) :
    exec (.asyPreemptSave n) s = .next (joinFront pgASY v (finishDsc pgASY v l
      { asyRec d i stsBUSY_PREEMPTED c 0 o.msg.count (asyInfo 0 0 (algOf o.msg.alg).digest) with cflags := cfCTX_SAVED }
      (preempted v o s))) := by
  refine congrArg Host.Outcome.next ((if_neg (by simp [hserving, hlive, hwaits, hheld])).trans ?_)
  simp only [hvictim, hpart, hlane, preempted]

end Preempts

/-- Settles O5, command by command. The SEQ of a lane's first completion and the order of the chaining words in an image are the model's
reading (log entries 162 and 164). -/
theorem assayCompletes : Obligations.AssayCompletes := by
  unfold Obligations.AssayCompletes
  refine ⟨?_, ?_, ?_, ?_, ?_, ?_, ?_, ?_, ?_, ?_⟩
  · intro n l l' k s d hs hpart hp hd hop hdone hout hl hc
    exact congrArg Host.Outcome.next (asyRun_begins hs hpart hp hd hdone hout hl hc hop)
  · intro n l l' k s d hs hpart hp hd hop hdone hout hl hc
    exact congrArg Host.Outcome.next (asyRun_begins hs hpart hp hd hdone hout hl hc hop)
  · intro n l l' k odd s d hs hpart hp hd hop hdone hout hl hc
    exact congrArg Host.Outcome.next (asyRun_begins hs hpart hp hd hdone hout hl hc hop)
  · intro n l l' k odd s d hs hpart hp hd hop hdone hout hl hc
    exact congrArg Host.Outcome.next (asyRun_begins hs hpart hp hd hdone hout hl hc hop)
  · intro n l l' s d hs hpart hp hd hop hdone hout hl hc
    exact congrArg Host.Outcome.next (asyCtxRun_acts hs hpart hp hd hdone hout hl hc hop)
  · intro n l l' s d hs hpart hp hd hop hdone hout hl hc
    exact congrArg Host.Outcome.next (asyCtxRun_acts hs hpart hp hd hdone hout hl hc hop)
  · rintro n l l' s _ d hs hpart hp hd hop hdone hout hl hc rfl
    exact congrArg Host.Outcome.next (asyCtxRun_acts hs hpart hp hd hdone hout hl hc hop)
  · rintro n v l i c d o s _ _ hs hlive hw hheld hvictim hlane rfl rfl
    exact ⟨exec_asyPreemptSave_between hs hlive hw hheld hvictim, exec_asyPreemptSave_within hs hlive hw hheld hvictim hlane⟩
  · rintro v k s _ hc rfl
    exact congrArg Host.Outcome.next (atRegister_runs rfl hc)
  · intro m l s hc
    exact congrArg Host.Outcome.next (atRegister_runs rfl hc)

end Sys2Proof.Machine
end

section
/-! PROOFS. Crucible and Tinning: descriptors and units (O6). -/

namespace Sys2Proof.Machine

/-! A posted descriptor that passes the tests of R251 starts on a unit its ring may take (R261). -/

section Crucible

variable {n l : Nat} {s : State} {d : Dsc} (hserving : serving s pgCRU = true) (hposted : posted s pgCRU n = true)
  (hd : d = headDsc s pgCRU n) (hdone : (rgOf s pgCRU n).done = []) (hout : allOut s pgCRU = false)
  (hunit : mayTake s pgCRU n l = true) (hcode : cruCode s d = 0) (hctx : ctxLost s d = false)

include hserving hposted hd hdone hout hunit hcode hctx

theorem cruRun_acts {op : Nat} {f : Dsc → Nat → State → State} (hop : d.opcode = op) :
    cruRun op n l f s = f d (rgHead s pgCRU n % rgSize s pgCRU n) (advanceSq pgCRU n s) := by
  subst hd
  simp [cruRun, hserving, hposted, hop, hdone, hout, hunit, hcode, hctx]

end Crucible

/-! A posted descriptor that passes the tests of R299 starts likewise (R300), on a ring without one under way. -/

@[simp] theorem slotK_advanceSq (p n k : Nat) (s : State) : slotK (advanceSq p n s) k = slotK s k :=
  congrArg (fun x : Tin => Tab.getD x.slots {} k) (advanceSq_moves.within .tin rfl)

section Tinning

variable {n l : Nat} {s : State} {d : Dsc} (hserving : serving s pgTIN = true) (hposted : posted s pgTIN n = true)
  (hd : d = headDsc s pgTIN n) (hdone : (rgOf s pgTIN n).done = []) (hout : allOut s pgTIN = false)
  (hcur : (rgOf s pgTIN n).cur = none) (hunit : mayTake s pgTIN n l = true) (hcode : tinCode s d = 0)

include hserving hposted hd hdone hout hcur hunit hcode

/-- Only a cipher opcode needs a key in its slot (R299). -/
theorem tinRun_acts {op : Nat} {f : Nat → Dsc → Nat → State → State} (hop : d.opcode = op)
    (hkey : opCipher op = false ∨ (slotK s d.slot).loaded = true) :
    tinRun op n l true f s = f l d (rgHead s pgTIN n % rgSize s pgTIN n) (advanceSq pgTIN n s) := by
  subst hd
  obtain hkeyless | hloaded := hkey
  · simp [tinRun, hserving, hposted, hop, hdone, hout, hcur, hunit, hcode, hkeyless]
  · simp [tinRun, hserving, hposted, hop, hdone, hout, hcur, hunit, hcode, hloaded]

end Tinning

/-- Settles O6, command by command. A buffer that cannot be reached fails no test of R251 or R299: the descriptor starts and ends with
MEMORY_ERROR, which is the model's reading (log entry 148). -/
theorem crucibleAndTinningComplete : Obligations.CrucibleAndTinningComplete := by
  unfold Obligations.CrucibleAndTinningComplete
  refine ⟨?_, ?_, ?_, ?_, ?_, ?_, ?_, ?_, ?_, ?_, ?_⟩
  · intro n l a b s d hs hp hd hop hdone hout hu hc hctx
    exact congrArg Host.Outcome.next (cruRun_acts hs hp hd hdone hout hu hc hctx hop)
  · intro n l s d hs hp hd hop hdone hout hu hc hctx
    exact congrArg Host.Outcome.next (cruRun_acts hs hp hd hdone hout hu hc hctx hop)
  · rintro n l s _ d hs hp hd hop hdone hout hu hc hctx rfl
    exact congrArg Host.Outcome.next (cruRun_acts hs hp hd hdone hout hu hc hctx hop)
  · rintro v k s _ hc rfl
    exact congrArg Host.Outcome.next (atRegister_runs rfl hc)
  · intro n l s d hs hp hd hop hdone hout hcur hu hc hk
    exact congrArg Host.Outcome.next (tinRun_acts hs hp hd hdone hout hcur hu hc hop (.inr hk))
  · intro n l s d hs hp hd hop hdone hout hcur hu hc hk
    exact congrArg Host.Outcome.next (tinRun_acts hs hp hd hdone hout hcur hu hc hop (.inr hk))
  · intro n l s d hs hp hd hop hdone hout hcur hu hc hk
    exact congrArg Host.Outcome.next (tinRun_acts hs hp hd hdone hout hcur hu hc hop (.inr hk))
  · intro n l s d hs hp hd hop hdone hout hcur hu hc hk
    exact congrArg Host.Outcome.next (tinRun_acts hs hp hd hdone hout hcur hu hc hop (.inr hk))
  · intro n l s d hs hp hd hop hdone hout hcur hu hc
    exact congrArg Host.Outcome.next (tinRun_acts hs hp hd hdone hout hcur hu hc hop (.inl rfl))
  · intro n l s d hs hp hd hop hdone hout hcur hu hc
    exact congrArg Host.Outcome.next (tinRun_acts hs hp hd hdone hout hcur hu hc hop (.inl rfl))
  · rintro v k s _ _ _ hc rfl rfl rfl
    exact congrArg Host.Outcome.next (atRegister_runs rfl hc)

end Sys2Proof.Machine
end

section
/-! PROOFS. What the commands of the write cache and the quench sequencer leave (O52). -/

namespace Sys2Proof.Machine

/-- Settles O52, from what each command's meaning may change. -/
theorem writeCacheAndQuenchCommandsLeaveTheRest : Obligations.WriteCacheAndQuenchCommandsLeaveTheRest :=
  ⟨fun _ => Ends.leaves (fun _ => execSlotLandingDone_moves) rfl,
    fun _ _ _ _ => Ends.leaves (fun _ => execMirGrain_moves) rfl,
    fun _ => Ends.leaves (fun _ => execMirAck_moves) rfl,
    fun _ _ => Ends.leaves (fun _ => execMirNak_moves) rfl,
    fun _ => Ends.leaves (fun _ => execMirrorTimeout_moves) rfl,
    fun _ => Ends.leaves (fun _ => execSlotReady_moves) rfl,
    fun _ _ => Ends.leaves (fun _ => execMirStamp_moves) rfl,
    fun _ => Ends.leaves (fun _ => execMirRelease_moves) rfl,
    fun _ => Ends.leaves (fun _ => execMirFree_moves) rfl,
    fun _ _ => Ends.leaves (fun _ => execMirHold_moves) rfl,
    Ends.leaves (fun _ => execMirQuench_moves) rfl,
    fun _ => Ends.leaves (fun _ => execWriteThroughDone_moves) rfl,
    fun _ => Ends.leaves (fun _ => execMirrorResume_moves) rfl,
    Ends.leaves (fun _ => execOverBudgetCloseTick_moves) rfl,
    fun _ => Ends.leaves (fun _ => execHoldSenseSample_moves) rfl,
    Ends.leaves (fun _ => execHoldEnergyRecompute_moves) rfl,
    Ends.leaves (fun _ => execHoldTestStart_moves) rfl,
    fun _ => Ends.leaves (fun _ => execTestNow_moves) rfl,
    fun _ => Ends.leaves (fun _ => execHoldTestEnd_moves) rfl,
    fun _ => Ends.leaves (fun _ => execHoldTrip_moves) rfl,
    Ends.leaves (fun _ => execAdoptionComplete_moves) rfl,
    Ends.leaves (fun _ => execCatchupDone_moves) rfl,
    Ends.leaves (fun _ => execPwrfailNLow_moves) rfl,
    fun _ => Ends.leaves (fun _ => execQuenchStart_moves) rfl,
    Ends.leaves (fun _ => execQuenchDirDone_moves) rfl,
    fun _ => Ends.leaves (fun _ => execQuenchDataDone_moves) rfl,
    fun _ => Ends.leaves (fun _ => execQuenchRailRelease_moves) rfl,
    Ends.leaves (fun _ => execRestoreLoad_moves) rfl,
    Ends.leaves (fun _ => execRestoreDone_moves) rfl⟩

end Sys2Proof.Machine
end

section
/-! PROOFS. Slots of the write cache and their mirror (O16). -/

namespace Sys2Proof.Machine

/-- Taking a message of the partner leaves the cache as it is. -/
@[simp] theorem takeRx_wc (k : Nat) (s : State) : (takeRx k s).wc = s.wc := takeRx_moves.within .wc rfl

theorem slotOf_takeRx (k i : Nat) (s : State) : slotOf (takeRx k s) i = slotOf s i :=
  congrArg (fun w : Wc => Tab.getD w.slots {} i) (takeRx_wc k s)

/-- A slot both of whose blocks are there lacks none. -/
theorem missing_whole {x : Slot} (hlo : x.lo = true) (hhi : x.hi = true) : missing x = none := by
  simp [missing, hlo, hhi]

theorem ownAddr_memWrite (a : Nat) (bs : List Byte) (s : State) (i : Nat) : ownAddr (memWrite a bs s) i = ownAddr s i := rfl

/-- Settles O16, command by command; the fill of a missing block by R320. -/
theorem mirrorWritesComplete : Obligations.MirrorWritesComplete := by
  unfold Obligations.MirrorWritesComplete
  refine ⟨?_, ?_, ?_, ?_, ?_, ?_, ?_, ?_, ?_, ?_, ?_⟩
  · rintro i c _ s _ rfl hc hst hland hlo hhi rfl
    refine congrArg Host.Outcome.next ?_
    simp [hc, hst, hland, missing_whole hlo hhi]
  · rintro i h d s _ rfl hr hq
    exact congrArg Host.Outcome.next (by simp [hr, hq])
  · rintro i _ s _ rfl rfl hst
    refine congrArg Host.Outcome.next ?_
    simp only [slotOf_takeRx, hst, if_true]
  · rintro i n s _ rfl hst
    exact congrArg Host.Outcome.next (if_pos hst)
  · rintro i _ s rfl hst hack hm hlim
    exact congrArg Host.Outcome.next ((if_neg (by simp [hst, hack, hm])).trans (if_pos hlim))
  · rintro i _ s rfl hst hack hm hlim
    exact congrArg Host.Outcome.next ((if_neg (by simp [hst, hack, hm])).trans (if_neg (Nat.not_lt.mpr hlim)))
  · rintro i x s t u hx hok ht hu
    change execSlotReady i s = _
    simp only [execSlotReady, ← hx, hok, ← ht]
    cases hfind : t.hq.cmds.find? fun c => c.isWrite && c.wseq == x.wseq with
    | none => rw [hu, hfind]; rfl
    | some c => rw [hu, hfind]; rfl
  · rintro e i s _ rfl hst
    exact congrArg Host.Outcome.next (if_pos hst)
  · rintro i s _ rfl hst
    exact congrArg Host.Outcome.next (if_pos hst)
  · rintro e s _ rfl hrec
    exact congrArg Host.Outcome.next (if_neg (by simp only [hrec]; decide))
  · rintro i d p s hmiss hst hmap hzero
    refine congrArg Host.Outcome.next ?_
    simp only [hmiss, hst, hmap, hzero, ownAddr_memWrite, Nat.zero_mul, Nat.add_zero, Bool.not_true, Bool.or_self,
      Bool.false_eq_true, if_true, if_false, ne_eq, not_true_eq_false]

end Sys2Proof.Machine
end

section
/-! PROOFS. The write budget, the hold test and adoption (O17). -/

namespace Sys2Proof.Machine

/-- Out of a quench and of a low power state, with the feature live and no test under way, a hold test starts (R328). -/
theorem holdTest_starts {s : State} (hf : live s pgWC 2 = true) (hq : inQ s = false) (hp : pwrState s = psP0)
    (ht : bit (rd s pgWC 0x168) 0 = false) :
    holdTest s = { wrF pgWC 0x168 0 0 1 s with aon := { s.aon with holdLoad := true } } := by
  have hp2 : (psP0 == psP2) = false := by decide
  have hent : (psP0 == psENTERING) = false := by decide
  simp [holdTest, hf, hq, hp, ht, hp2, hent, bne]

/-- Settles O17, command by command. That hallmark 0x1A06 gives the droop in whole mV is the model's reading (log entry 86). -/
theorem holdEnergyAndBudgetComplete : Obligations.HoldEnergyAndBudgetComplete := by
  unfold Obligations.HoldEnergyAndBudgetComplete
  refine ⟨?_, ?_, ?_, ?_, ?_, ?_, ?_, ?_, ?_, ?_, ?_, ?_⟩
  · rintro h p s _ rfl
    rfl
  · rintro s _ rfl
    rfl
  · rintro i _ s rfl hst hinq hsingle hstore hq
    exact congrArg Host.Outcome.next (if_neg (by simp [hst, hinq, hsingle, hstore, hq]))
  · rintro v s _ rfl hb hl hp hf
    exact congrArg Host.Outcome.next (if_pos (by simp [hb, hl, hp, hf]))
  · intro s hb
    exact congrArg Host.Outcome.next (if_pos hb)
  · intro n s
    rfl
  · intro s ha
    exact congrArg Host.Outcome.next (if_pos ha)
  · intro s hf hq hp ht
    exact congrArg Host.Outcome.next (holdTest_starts hf hq hp ht)
  · rintro v s _ rfl hb hf hq hp ht
    exact congrArg Host.Outcome.next ((if_pos hb).trans (holdTest_starts hf hq hp ht))
  · rintro u _ s _ ht rfl _ rfl
    exact congrArg Host.Outcome.next (if_pos ht)
  · rintro s t u w g ha hp ht hu hg hw
    refine congrArg Host.Outcome.next ((if_neg (by simp [ha, hp])).trans ?_)
    simp only [← ht, ← hu, ← hg, ← hw]
  · intro s hs
    exact ⟨_, congrArg Host.Outcome.next (if_pos hs), rfl⟩

end Sys2Proof.Machine
end

section
/-! PROOFS. The quench sequencer and the restore (O18). -/

namespace Sys2Proof.Machine

/-! The cache's own state under what the sequencer does to the rest. -/

@[simp] theorem hallmark_wc (code inst : Nat) (payload : List W32) (s : State) : (hallmark code inst payload s).wc = s.wc :=
  hallmark_moves.within .wc rfl

@[simp] theorem sendW_wc (k m w : Nat) (bs : List Byte) (s : State) : (sendW k m w bs s).wc = s.wc := sendW_moves.within .wc rfl

@[simp] theorem dbgAbandon_wc (s : State) : (dbgAbandon s).wc = s.wc := dbgAbandon_moves.within .wc rfl

@[simp] theorem putCtrl_wc (flags n : Nat) (s : State) : (putCtrl flags n s).wc = s.wc := putCtrl_moves.within .wc rfl

@[simp] theorem parkDom_wc (d : Nat) (s : State) : (parkDom d s).wc = s.wc := parkDom_moves.within .wc rfl

@[simp] theorem unparkDom_wc (d : Nat) (s : State) : (unparkDom d s).wc = s.wc := unparkDom_moves.within .wc rfl

@[simp] theorem foldl_forgeHold_wc (fs : List Nat) (s : State) : (fs.foldl forgeHold s).wc = s.wc :=
  (Moves.foldl (fun _ _ => forgeHold_moves) (Moves.refl _ s)).within .wc rfl

@[simp] theorem foldl_drawHold_wc (ds : List Nat) (s : State) : (ds.foldl drawHold s).wc = s.wc :=
  (Moves.foldl (fun _ _ => drawHold_moves) (Moves.refl _ s)).within .wc rfl

/-- A quench that was not under way begins with the directory (R333). -/
theorem startQuench_wc {n : Nat} {s : State} (hq : inQ s = false) :
    (startQuench n s).wc = { s.wc with step := .dir, trigger := n, startAt := s.time, saved := [], entries := 0 } := by
  rw [startQuench, if_neg (by simp [hq])]
  dsimp only
  rw [unparkDom_wc, parkDom_wc, parkDom_wc, foldl_drawHold_wc, foldl_forgeHold_wc, hallmark_wc, sendW_wc, wrF_wc, wrF_wc, wrF_wc,
    putCtrl_wc, dbgAbandon_wc]
  dsimp only
  rw [wrF_wc, wrF_wc, wrF_wc, wrF_time, wrF_time, wrF_time]

/-- Settles O18, command by command. That HOLD_TRIP judges the sensed µV against HOLD_TRIP_MV, and that the release of the rails resets the
chip at once whether or not VIN holds, is the model's reading (log entries 91 and 31). -/
theorem quenchAndRestoreComplete : Obligations.QuenchAndRestoreComplete := by
  unfold Obligations.QuenchAndRestoreComplete
  refine ⟨?_, ?_, ?_, ?_, ?_, ?_, ?_, ?_⟩
  · intro n s hlo hhi hq
    refine ⟨_, congrArg Host.Outcome.next (if_pos ⟨hlo, hhi⟩), rfl, ?_⟩
    rw [startQuench_wc hq]
    exact ⟨rfl, rfl⟩
  · intro u s ha hu hq
    exact congrArg Host.Outcome.next (if_pos (by simp [ha, hu, hq]))
  · intro s hr hrails
    exact congrArg Host.Outcome.next (if_pos (by simp [hr, hrails]))
  · intro s hdir
    refine ⟨_, congrArg Host.Outcome.next (if_neg (by simp [hdir])), ?_⟩
    rw [parkDom_wc]
    exact ⟨rfl, rfl, rfl⟩
  · intro lost s hdata
    refine ⟨_, congrArg Host.Outcome.next (if_neg (by simp [hdata])), rfl, ?_⟩
    change rd (wr pgQST 0x10C _ (wr pgQST 0x108 _ _)) pgQST 0x108 = _
    rw [rd_wr_same_page, if_neg (by decide), rd_wr_self]
  · intro b s hdone
    exact congrArg Host.Outcome.next (if_neg (by simp [hdone]))
  · rintro s c is t hr ha hc his hflag ht
    change execRestoreLoad s = _
    rw [execRestoreLoad, if_neg (by simp [hr, ha])]
    simp only [← hc, ← his, ← ht, hflag, Bool.false_and, Bool.false_eq_true, if_false]
  · rintro s is t u v hr hrep his ht hnone hu hv
    refine congrArg Host.Outcome.next ((if_neg (by simp only [hr, hrep, hnone]; decide)).trans ?_)
    simp only [← his, ← ht, ← hu, ← hv]

end Sys2Proof.Machine
end

section
/-! PROOFS. What the commands of the ingots, their journal and the flash leave (O53). -/

namespace Sys2Proof.Machine

/-- Settles O53, from what each command's meaning may change. -/
theorem flashCommandsLeaveTheRest : Obligations.FlashCommandsLeaveTheRest :=
  ⟨fun _ => Ends.leaves (fun _ => execCastStart_moves) rfl,
    fun _ _ => Ends.leaves (fun _ => execSjEntry_moves) rfl,
    fun _ _ => Ends.leaves (fun _ => execSjMark_moves) rfl,
    fun _ _ => Ends.leaves (fun _ => execLjRecord_moves) rfl,
    fun _ _ => Ends.leaves (fun _ => execJAck_moves) rfl,
    fun _ => Ends.leaves (fun _ => execJournalAckTimeout_moves) rfl,
    fun _ _ _ => Ends.leaves (fun _ => execMemberAppendDone_moves) rfl,
    fun _ _ => Ends.leaves (fun _ => execAppendFail_moves) rfl,
    Ends.leaves (fun _ => execAmendRetryTick_moves) rfl,
    fun _ _ => Ends.leaves (fun _ => execJournalResolve_moves) rfl,
    fun _ _ _ _ => Ends.leaves (fun _ => execDetourExpiry_moves) rfl,
    fun _ => Ends.leaves (fun _ => execEjectTimeout_moves) rfl,
    fun _ => Ends.leaves (fun _ => execModEject_moves) rfl,
    fun _ => Ends.leaves (fun _ => execDeferredEject_moves) rfl,
    Ends.leaves (fun _ => execRebuildScan_moves) rfl,
    Ends.leaves (fun _ => execRebuildStart_moves) rfl,
    fun _ _ => Ends.leaves (fun _ => execRebuildDecodeDone_moves) rfl,
    fun _ => Ends.leaves (fun _ => execRebuildAppendsDone_moves) rfl,
    Ends.leaves (fun _ => execRebuildBucketRefill_moves) rfl,
    Ends.leaves (fun _ => execSweepPassStart_moves) rfl,
    Ends.leaves (fun _ => execSweepPassEnd_moves) rfl,
    fun _ _ _ _ _ => Ends.leaves (fun _ => execModuleLinkUp_moves) rfl,
    fun _ => Ends.leaves (fun _ => execModuleAdmit_moves) rfl,
    fun _ => Ends.leaves (fun _ => execModuleRetire_moves) rfl,
    fun _ => Ends.leaves (fun _ => execPresenceLost_moves) rfl,
    fun _ => Ends.leaves (fun _ => execRetrainTimeout_moves) rfl,
    fun _ _ _ _ => Ends.leaves (fun _ => execSidebandPoll_moves) rfl,
    fun _ _ _ _ => Ends.leaves (fun _ => execHealthPoll_moves) rfl,
    fun _ => Ends.leaves (fun _ => execChunkGrant_moves) rfl,
    fun _ _ _ => Ends.leaves (fun _ => execZoneResetDone_moves) rfl,
    fun _ => Ends.leaves (fun _ => execZoneReturn_moves) rfl,
    Ends.leaves (fun _ => execAnlWorkSelect_moves) rfl,
    fun _ => Ends.leaves (fun _ => execRelocationClaim_moves) rfl,
    fun _ _ _ _ => Ends.leaves (fun _ => execRelocationCopy_moves) rfl,
    fun _ _ _ => Ends.leaves (fun _ => execMemberMove_moves) rfl,
    Ends.leaves (fun _ => execAnlBucketRefill_moves) rfl,
    fun _ => Ends.leaves (fun _ => execRekeyStart_moves) rfl,
    Ends.leaves (fun _ => execRekeyDone_moves) rfl,
    fun _ _ _ => Ends.leaves (fun _ => execSpineRead_moves) rfl,
    fun _ _ => Ends.leaves (fun _ => execStartupReconcile_moves) rfl,
    fun _ _ _ _ => Ends.leaves (fun _ => execNvmeCommandCompletion_moves) rfl⟩

end Sys2Proof.Machine
end

section
/-! PROOFS. Casting and the stripe journal (O19). -/

namespace Sys2Proof.Machine

/-- Settles O19, command by command. -/
theorem castingCompletes : Obligations.CastingCompletes := by
  unfold Obligations.CastingCompletes
  refine ⟨?_, ?_, ?_, ?_, ?_, ?_, ?_, ?_, ?_, ?_, ?_, ?_, ?_⟩
  · intro n c s hc hon hcast hin hb hfull
    refine congrArg Host.Outcome.next ?_
    simp [hc, hon, hcast, hin, hb, hfull]
  · intro n c s hc hon hcast hin hb hfull
    refine congrArg Host.Outcome.next ?_
    simp [hc, hon, hcast, hin, hb, hfull]
  · rintro i e s _ rfl hd hq
    exact congrArg Host.Outcome.next (if_neg (by simp [hd, hq]))
  · rintro i m s _ rfl hd hq
    exact congrArg Host.Outcome.next (if_neg (by simp [hd, hq]))
  · rintro j r s _ u rfl hd hq hj hk rfl hspan
    refine congrArg Host.Outcome.next ((if_neg (by simp [hd, hq])).trans ?_)
    have hnew : decide (j < (takeRx 0x13 s).ldg.mirrorJseq) = false := decide_eq_false (Nat.not_lt.mpr hj)
    have hrec : ¬ field r 0 1 = 0x11 := by rw [hk]; decide
    simp only [hnew, Bool.false_and, Bool.false_eq_true, if_false, hspan, if_neg hrec]
  · rintro a s _ rfl
    rfl
  · rintro a s _ rfl
    rfl
  · rintro j e s _ he hp hn rfl
    refine congrArg Host.Outcome.next ?_
    simp only [he, hp, if_pos hn, Bool.not_true, Bool.false_eq_true, if_false]
  · rintro n m a c s _ ha hq rfl hc
    refine congrArg Host.Outcome.next ?_
    simp only [ha, hq, hc, ne_eq, not_true_eq_false, Bool.false_eq_true, if_false]
  · intro n m l a s ha hq hl
    refine congrArg Host.Outcome.next ?_
    simp only [ha, hq, if_pos hl, Bool.false_eq_true, if_false]
  · intro n m a s ha hq
    refine congrArg Host.Outcome.next ?_
    simp only [ha, hq, Bool.false_eq_true, if_false]
  · intro s hon
    exact congrArg Host.Outcome.next (if_neg (by simp [hon]))
  · rintro wps s _ _ _ _ hrep hres hmiss rfl rfl rfl rfl
    refine congrArg Host.Outcome.next ?_
    simp only [hrep, hres, hmiss, List.isEmpty_nil, Bool.not_true, Bool.not_false, Bool.false_and, Bool.and_false, Bool.or_self,
      Bool.false_eq_true, if_false]

end Sys2Proof.Machine
end

section
/-! PROOFS. Ejects, rebuilds and the sweep (O20). -/

namespace Sys2Proof.Machine

/-- Fewer detours within the last second than EJECT_DETOURS are counted and eject nothing (R380). -/
theorem countDetour_few {m : Nat} {ts : List Nat} {s u : State}
    (hts : ts = ((modOf s m).times ++ [s.time.toNat]).filter fun x => decide (s.time.toNat ≤ x + 1000000))
    (hu : u = modPut m { modOf s m with times := ts, detours := min ((modOf s m).detours + 1) 0xFFFFFFFF } s)
    (hfew : ts.length < rdF u pgING 0x114 15 12) : countDetour m s = u := by
  subst hts hu
  exact if_neg (Nat.not_le.mpr hfew)

section Decode

variable {n : Nat} {as : Answers} {a : Attempt} {s : State}

theorem ingot_of_readingAttempt (h : readingAttempt s n = some a) : a.ingot = n := by
  have hfound := List.find?_some h
  simp only [Bool.and_eq_true, beq_iff_eq] at hfound
  obtain ⟨⟨⟨⟨hingot, -⟩, -⟩, -⟩, -⟩ := hfound
  exact hingot

/-- Where every survivor has answered, and no other member, the attempt is decoded without a detour (R389). -/
theorem exec_rebuildDecodeDone_whole {t : State} (ha : readingAttempt s n = some a)
    (hin : (as.all fun y => (survivors s (ingotAt s n)).contains y.1) = true)
    (hall : ((survivors s (ingotAt s n)).all fun i => as.any fun y => y.1 == i) = true)
    (hdec : decodable (ingotAt s n) as = true) (hroom : sjRoom s = true)
    (ht : t = (survivors s (ingotAt s n)).foldl (fun z i => answered ((ingotAt s n).members.getD i {}).module z) s)
    (ha' : readingAttempt t n = some a) : exec (.rebuildDecodeDone n as) s = .next (decodeAttempt a as t) := by
  have has : (as.filter fun y => (survivors s (ingotAt s n)).contains y.1) = as :=
    List.filter_eq_self.mpr (List.all_eq_true.mp hin)
  have hlate : ((survivors s (ingotAt s n)).filter fun j => !(as.any fun y => y.1 == j)) = [] :=
    List.filter_eq_nil_iff.mpr fun i hi => by simp [List.all_eq_true.mp hall i hi]
  refine congrArg Host.Outcome.next ?_
  simp only [ha, has, hlate, hroom, hdec, ← ht, ha', List.foldl_nil, List.isEmpty_nil, Option.isSome_some, Bool.not_true,
    Bool.false_and, Bool.or_self, Bool.false_eq_true, if_true, if_false]

/-- With chunks granted and the REBUILD entry written, the attempt issues the appends of its rebuilt chunks (R389). -/
theorem decodeAttempt_written {b : Attempt} {x : Ingot} {u v w : State} {ls : List Loc} {j : Nat} (hx : x = ingotAt s a.ingot)
    (hu : u = as.foldl (fun s y => modPut (x.members.getD y.1 {}).module { modOf s (x.members.getD y.1 {}).module with
      readErr := min ((modOf s (x.members.getD y.1 {}).module).readErr + y.2.2.length) 0xFFFFFFFF } s) s)
    (hls : grantChunks (pmodOf u (x.members.getD 0 {}).module).cls (rebuildSet x as).length (x.members.map (·.module)) u
      = (some ls, v))
    (hb : b = { a with
      set := rebuildSet x as, locs := ls
      old := ((rebuildSet x as).map fun i => x.members.getD i {}).filter fun l => !l.lost
      data := (rebuildSet x as).map (rebuiltChunk x as), slagRows := slagRowsOf x as, ext := extentsOf a.ingot x as })
    (hw : sjWrite 3 a.ingot x.cast ((rebuildSet x as).foldl (fun w i => w + 2 ^ i) 0) (attemptEntry v b ls) v = some (j, w)) :
    decodeAttempt a as s = issueAll (wrF pgING 0x140 19 19 0 { w with ing := { w.ing with
      attempts := w.ing.attempts.map fun y => if y.ingot = a.ingot then { b with jent := some j } else y
      appends := w.ing.appends ++ (List.range ls.length).map fun k =>
        (⟨j, a.ingot, (rebuildSet x as).getD k 0, ls.getD k {}, false⟩ : App) } }) := by
  subst hx hu hb
  simp only [decodeAttempt, hls, hw]

end Decode

/-- Settles O20, command by command. That a sweep's PCT reads 0 at its start and 100 at its end, and that the bucket for rebuilds has no cap,
is the model's choice (log entries 199, 198 and 107). -/
theorem ejectsAndRebuildsComplete : Obligations.EjectsAndRebuildsComplete := by
  unfold Obligations.EjectsAndRebuildsComplete
  refine ⟨?_, ?_, ?_, ?_, ?_, ?_, ?_, ?_, ?_, ?_, ?_, ?_⟩
  · rintro d a b g _ r s _ _ _ _ hr rfl rfl rfl hon hl hrec hg hheld rfl rfl hts
    refine congrArg Host.Outcome.next ?_
    have hbody : (r.entry.gloc == 0) = false := beq_false_of_ne hg
    simp only [hr, hon, hl, hrec, hbody, Option.isSome_none, Bool.not_true, Bool.or_self, Bool.false_eq_true, if_false]
    rw [if_neg fun h => hheld.elim (· h.1) (Nat.not_lt.mpr h.2 ·)]
    exact countDetour_few rfl rfl hts
  · intro m s hon ha
    exact congrArg Host.Outcome.next (if_pos ⟨hon, ha⟩)
  · rintro v s _ hc rfl hb hm
    exact congrArg Host.Outcome.next ((atRegister_runs (by decide) hc).trans (if_pos ⟨hb, hm⟩))
  · intro m s hon hst hb
    exact congrArg Host.Outcome.next (if_pos ⟨hon, hst, by simp [hb]⟩)
  · intro m s hon
    exact congrArg Host.Outcome.next (if_pos hon)
  · rintro s _ hon hl rfl
    exact congrArg Host.Outcome.next (if_neg (by simp [hon, hl]))
  · rintro s n q spare qs x _ _ hon hl hroom hn hx hst hq hanl hsp hpool hbuck rfl rfl
    refine congrArg Host.Outcome.next ((if_neg (by simp [hon, hl, hroom])).trans ?_)
    simp only [hn, ← hx, ← hsp]
    rw [if_neg (not_not.mpr hst), if_neg (not_not.mpr hq), if_neg (by simp [hanl]), if_neg (by omega)]
  · rintro n as a b s x t u ls v j w ha hin hall hdec hroom ht ha' hx hu hls hb hw
    obtain rfl := ingot_of_readingAttempt ha
    exact ⟨_, (exec_rebuildDecodeDone_whole ha hin hall hdec hroom ht ha').trans
      (congrArg Host.Outcome.next (decodeAttempt_written hx hu hls hb hw)), rfl⟩
  · rintro n a b j s _ _ _ ha hj happ rfl hst rfl rfl rfl
    refine congrArg Host.Outcome.next ?_
    simp only [ha, hj, happ, Bool.false_eq_true, if_false, if_neg hst]
  · intro s
    rfl
  · intro s ha hl hne hsw hms hrs
    refine congrArg Host.Outcome.next ((if_neg (by simp [ha, hl, hne, hsw])).trans ?_)
    simp only [hms, hrs, List.foldl_nil, List.length_nil]
  · rintro s es n _ hsw rfl
    refine congrArg Host.Outcome.next ?_
    simp only [hsw]

end Sys2Proof.Machine
end

section
/-! PROOFS. Flash modules, their ports and zones (O21). -/

namespace Sys2Proof.Machine

/-! What the link-up of a flash port leaves of the registers. A hallmark writes HLM alone, and a port's own writes leave the page of PLN
and LANE_CFG. -/

/-- A port's link-up leaves LANE_CFG, which says how many lanes a port has (R406, R461). -/
theorem rd_laneCfg_linkUp {p code inst : Nat} {payload : List W32} {v : W32} {x : Pln} {s : State} :
    rd (hallmark code inst payload { wr (pgFLX + p) 0x108 v s with pln := x }) pgFLX 0x100 = rd s pgFLX 0x100 := by
  rw [rd_hallmark_of_page _ _ _ _ (by decide) (by decide)]
  exact rd_wr_of_ne v s (by unfold rk; omega)

theorem pgState_hallmark_of_page {q code inst : Nat} {payload : List W32} {s : State} (hq : q ≠ pgHLM) :
    pgState (hallmark code inst payload s) q = pgState s q :=
  congrArg (bits · 2 0) (rd_hallmark_of_page code inst payload s hq (by decide))

theorem pgState_wr_of_page {p q off : Nat} {v : W32} {s : State} (h : q ≠ p) (hoff : off < 0x1000) :
    pgState (wr p off v s) q = pgState s q :=
  congrArg (bits · 2 0) (rd_wr_of_page h hoff (by decide) v s)

/-- A port's link-up leaves Planish in its state. -/
theorem pgState_pln_linkUp {p a n hi lo w code inst : Nat} {payload : List W32} {v : W32} {x : Pln} {s : State} :
    pgState (lanesLocked a n (wrF (pgFLX + p) 0x10C hi lo w
      (hallmark code inst payload { wr (pgFLX + p) 0x108 v s with pln := x }))) pgPLN = pgState s pgPLN := by
  have hport : pgPLN ≠ pgFLX + p := (Nat.lt_of_lt_of_le (by decide) (Nat.le_add_right _ _)).ne
  calc
    _ = pgState (hallmark code inst payload { wr (pgFLX + p) 0x108 v s with pln := x }) pgPLN :=
      pgState_wr_of_page hport (by decide)
    _ = pgState (wr (pgFLX + p) 0x108 v s) pgPLN := pgState_hallmark_of_page (by decide)
    _ = pgState s pgPLN := pgState_wr_of_page hport (by decide)

/-- Settles O21, command by command. That what a module says of itself waits while Planish is OFF is the model's reading (log entry 236). -/
theorem modulesAndZonesComplete : Obligations.ModulesAndZonesComplete := by
  unfold Obligations.ModulesAndZonesComplete
  refine ⟨?_, ?_, ?_, ?_, ?_, ?_, ?_, ?_, ?_, ?_, ?_, ?_, ?_, ?_, ?_, ?_, ?_⟩
  · rintro p rate width l i s _ _ hon hpat hoff rfl rfl
    refine congrArg Host.Outcome.next ((if_neg (by simp [hon, hpat])).trans ?_)
    simp only [rd_laneCfg_linkUp]
    exact if_pos (.inl (pgState_pln_linkUp.trans hoff))
  · rintro v s _ rfl hb hnew ha hnames
    refine congrArg Host.Outcome.next ((if_neg (by simp [hb])).trans ?_)
    exact if_pos ⟨.inl hnew, ha, by simp [hnames]⟩
  · rintro v s _ rfl hb
    exact congrArg Host.Outcome.next (if_pos hb)
  · intro p s hon
    exact congrArg Host.Outcome.next (if_pos hon)
  · intro p s hon hdown
    exact congrArg Host.Outcome.next (if_pos (by simp only [hon, hdown, Bool.and_self]))
  · rintro p a b temp s _ hon hl rfl
    exact congrArg Host.Outcome.next (if_neg (by simp [hon, hl]))
  · rintro m off worn s _ _ ha hpoll hwear rfl rfl hcap
    refine congrArg Host.Outcome.next ((if_neg (by simp [ha, hpoll])).trans ?_)
    exact (if_neg (by simp [hwear])).trans (if_neg (Nat.not_lt.mpr hcap))
  · intro m z s hst
    exact congrArg Host.Outcome.next (if_neg (not_not.mpr hst))
  · intro m z s hst
    exact congrArg Host.Outcome.next (if_neg (not_not.mpr hst))
  · rintro z s _ rfl hhalf
    exact congrArg Host.Outcome.next (if_pos hhalf)
  · rintro wps s _ _ hrep hres rfl rfl
    exact congrArg Host.Outcome.next (if_neg (by simp [hrep, hres]))
  · intro m op z s hon hej hop
    exact congrArg Host.Outcome.next ((if_neg (by simp [hon])).trans ((if_neg hej).trans (if_neg hop)))
  · intro m z s hon hej
    exact congrArg Host.Outcome.next ((if_neg (by simp [hon])).trans (if_neg hej))
  · intro p s hon hlink
    exact congrArg Host.Outcome.next (if_pos (by simp [hon, hlink]))
  · intro p s hon
    exact congrArg Host.Outcome.next (if_pos hon)
  · intro p s hon
    exact congrArg Host.Outcome.next (if_pos hon)
  · intro p s hon hl
    exact congrArg Host.Outcome.next (if_pos (by simp [hon, hl]))

end Sys2Proof.Machine
end

section
/-! PROOFS. What the commands of the read path, the network and the transport leave (O54). -/

namespace Sys2Proof.Machine

/-- Settles O54, from what each command's meaning may change. -/
theorem readAndNetworkCommandsLeaveTheRest : Obligations.ReadAndNetworkCommandsLeaveTheRest :=
  ⟨fun _ _ _ => Ends.leaves (fun _ => execReservationRegister_moves) rfl,
    fun _ _ _ _ => Ends.leaves (fun _ => execHostRead_moves) rfl,
    fun _ _ _ _ => Ends.leaves (fun _ => execHostVerify_moves) rfl,
    fun _ _ _ _ => Ends.leaves (fun _ => execHostCompare_moves) rfl,
    fun _ _ _ => Ends.leaves (fun _ => execFill_moves) rfl,
    fun _ _ => Ends.leaves (fun _ => execVerifyHit_moves) rfl,
    fun _ _ _ _ _ _ => Ends.leaves (fun _ => execPage_moves) rfl,
    fun _ _ _ => Ends.leaves (fun _ => execReseal_moves) rfl,
    fun _ _ _ _ _ => Ends.leaves (fun _ => execMemberReadDone_moves) rfl,
    fun _ _ _ _ _ => Ends.leaves (fun _ => execReconstructReadsDone_moves) rfl,
    fun _ _ _ => Ends.leaves (fun _ => execReadLimitExpiry_moves) rfl,
    Ends.leaves (fun _ => execRcFilterClear_moves) rfl,
    fun _ => Ends.leaves (fun _ => execRcClear_moves) rfl,
    fun _ => Ends.leaves (fun _ => execNetModeWrite_moves) rfl,
    fun _ _ => Ends.leaves (fun _ => execFrameReceive_moves) rfl,
    fun _ => Ends.leaves (fun _ => execExcTxSend_moves) rfl,
    fun _ _ => Ends.leaves (fun _ => execPfcXoffRefresh_moves) rfl,
    fun _ _ _ => Ends.leaves (fun _ => execPauseReceive_moves) rfl,
    fun _ _ => Ends.leaves (fun _ => execPauseExpiry_moves) rfl,
    fun _ _ => Ends.leaves (fun _ => execPfcStormEntry_moves) rfl,
    fun _ _ => Ends.leaves (fun _ => execPfcStormExit_moves) rfl,
    fun _ => Ends.leaves (fun _ => execTemperRise_moves) rfl,
    fun _ _ => Ends.leaves (fun _ => execCnp_moves) rfl,
    fun _ _ => Ends.leaves (fun _ => execRoceSend_moves) rfl,
    fun _ _ => Ends.leaves (fun _ => execRdmaWrite_moves) rfl,
    fun _ _ => Ends.leaves (fun _ => execRdmaReadRequest_moves) rfl,
    fun _ _ => Ends.leaves (fun _ => execRdmaReadResponse_moves) rfl,
    fun _ _ => Ends.leaves (fun _ => execRoceAck_moves) rfl,
    fun _ _ => Ends.leaves (fun _ => execRnrNak_moves) rfl,
    fun _ _ => Ends.leaves (fun _ => execCompareAndSwap_moves) rfl,
    fun _ _ => Ends.leaves (fun _ => execFetchAndAdd_moves) rfl,
    fun _ _ => Ends.leaves (fun _ => execSpWrite_moves) rfl,
    fun _ _ => Ends.leaves (fun _ => execSpSend_moves) rfl,
    fun _ _ => Ends.leaves (fun _ => execSpReadResp_moves) rfl,
    fun _ _ => Ends.leaves (fun _ => execSpNak_moves) rfl,
    fun _ _ => Ends.leaves (fun _ => execSpGapExpiry_moves) rfl,
    fun _ => Ends.leaves (fun _ => execRetransmitTimeout_moves) rfl,
    fun _ _ => Ends.leaves (fun _ => execCtxFetchDone_moves) rfl,
    fun _ => Ends.leaves (fun _ => execQpInit_moves) rfl,
    fun _ => Ends.leaves (fun _ => execQpRtr_moves) rfl,
    fun _ => Ends.leaves (fun _ => execQpRts_moves) rfl,
    fun _ _ => Ends.leaves (fun _ => execQpError_moves) rfl,
    fun _ => Ends.leaves (fun _ => execQpReset_moves) rfl,
    fun _ => Ends.leaves (fun _ => execQpQuery_moves) rfl,
    fun _ => Ends.leaves (fun _ => execQpTest_moves) rfl,
    fun _ => Ends.leaves (fun _ => execWinOpen_moves) rfl,
    fun _ => Ends.leaves (fun _ => execWinRevoke_moves) rfl,
    fun _ => Ends.leaves (fun _ => execRevokeDrained_moves) rfl⟩

end Sys2Proof.Machine
end

section
/-! PROOFS. What the commands of replication, of the Wadun link and of takeover leave (O55). -/

namespace Sys2Proof.Machine

/-- Settles O55, from what each command's meaning may change. -/
theorem replicationAndLinkCommandsLeaveTheRest : Obligations.ReplicationAndLinkCommandsLeaveTheRest :=
  ⟨fun _ => Ends.leaves (fun _ => execGrpStart_moves) rfl,
    fun _ => Ends.leaves (fun _ => execGrpShipNow_moves) rfl,
    fun _ => Ends.leaves (fun _ => execGrpResume_moves) rfl,
    fun _ => Ends.leaves (fun _ => execGrpStop_moves) rfl,
    fun _ => Ends.leaves (fun _ => execGrpFull_moves) rfl,
    fun _ => Ends.leaves (fun _ => execGrpNsAdd_moves) rfl,
    fun _ => Ends.leaves (fun _ => execGrpNsRemove_moves) rfl,
    fun _ => Ends.leaves (fun _ => execDeltaStart_moves) rfl,
    fun _ => Ends.leaves (fun _ => execShipTimer_moves) rfl,
    fun _ => Ends.leaves (fun _ => execSegmentSealed_moves) rfl,
    fun _ => Ends.leaves (fun _ => execSegmentWriteAck_moves) rfl,
    fun _ => Ends.leaves (fun _ => execPublishResult_moves) rfl,
    fun _ => Ends.leaves (fun _ => execControlPoll_moves) rfl,
    fun _ => Ends.leaves (fun _ => execSegmentApply_moves) rfl,
    fun _ => Ends.leaves (fun _ => execSegmentApplied_moves) rfl,
    fun _ => Ends.leaves (fun _ => execLeaseRenew_moves) rfl,
    fun _ => Ends.leaves (fun _ => execLeaseCheck_moves) rfl,
    fun _ _ _ => Ends.leaves (fun _ => execFlitReceive_moves) rfl,
    Ends.leaves (fun _ => execAlignFlit_moves) rfl,
    fun _ => Ends.leaves (fun _ => execNak_moves) rfl,
    Ends.leaves (fun _ => execAckTimer_moves) rfl,
    Ends.leaves (fun _ => execRetryTimeout_moves) rfl,
    fun _ => Ends.leaves (fun _ => execLaneLock_moves) rfl,
    Ends.leaves (fun _ => execHelloTimer_moves) rfl,
    fun _ => Ends.leaves (fun _ => execHello_moves) rfl,
    fun _ => Ends.leaves (fun _ => execRetrain_moves) rfl,
    fun _ => Ends.leaves (fun _ => execLaneFail_moves) rfl,
    fun _ _ => Ends.leaves (fun _ => execNarrow_moves) rfl,
    fun _ => Ends.leaves (fun _ => execLinkWiden_moves) rfl,
    fun n => Ends.leaves (fun _ => execDropMsg_moves (x0 := n)) rfl,
    Ends.leaves (fun _ => execNoFlitTimeout_moves) rfl,
    fun _ _ => Ends.leaves (fun _ => execFetchSlot_moves) rfl,
    fun _ h _ => Ends.leaves (fun _ => execSlotData_moves (x1 := h)) rfl,
    fun _ _ => Ends.leaves (fun _ => execFetchLj_moves) rfl,
    fun _ _ => Ends.leaves (fun _ => execLjData_moves) rfl,
    fun _ => Ends.leaves (fun _ => execFetchSj_moves) rfl,
    fun _ _ => Ends.leaves (fun _ => execSjData_moves) rfl,
    fun _ _ => Ends.leaves (fun _ => execFetchNak_moves) rfl,
    fun _ => Ends.leaves (fun _ => execHandoverOffer_moves) rfl,
    fun _ => Ends.leaves (fun _ => execHandoverAccept_moves) rfl,
    fun _ => Ends.leaves (fun _ => execHandover_moves) rfl,
    fun _ _ => Ends.leaves (fun _ => execHandoverAck_moves) rfl,
    fun _ => Ends.leaves (fun _ => execHandoverNak_moves) rfl,
    Ends.leaves (fun _ => execStepDownMessage_moves) rfl,
    Ends.leaves (fun _ => execHeartbeatTimer_moves) rfl,
    fun _ => Ends.leaves (fun _ => execHeartbeat_moves) rfl,
    Ends.leaves (fun _ => execHbMissed_moves) rfl,
    fun _ => Ends.leaves (fun _ => execHbKick_moves) rfl,
    Ends.leaves (fun _ => execHbKickTimeout_moves) rfl,
    Ends.leaves (fun _ => execFenceDelayExpiry_moves) rfl,
    fun _ => Ends.leaves (fun _ => execArbiterPreemptDone_moves) rfl,
    Ends.leaves (fun _ => execFencePreemptsDone_moves) rfl,
    fun _ => Ends.leaves (fun _ => execTake_moves) rfl,
    fun _ => Ends.leaves (fun _ => execForce_moves) rfl,
    fun _ => Ends.leaves (fun _ => execTakeCmdStepDown_moves) rfl⟩

end Sys2Proof.Machine
end

section
/-! PROOFS. Ethernet ports, frames and pauses (O24). -/

namespace Sys2Proof.Machine

/-- A write of NET_MODE takes its word while every port page is OFF and the octets that FLX leaves are enough for the mode (R490). -/
theorem exec_netModeWrite {v : W32} {s : State} {r : RegDef} (hoff : ((List.range 16).all fun n => pgState s (pgNET + n) == stOFF) = true)
    (hoct : modeOctets (bits v 2 0) ≤ 32 - rdF s pgFLX 0x100 4 0) (hr : regAt pgNET 0x100 = some r) (hl : locked s pgNET 3 = false) :
    exec (.netModeWrite v) s = .next (noteRsvd pgNET 0x100 r v (wr pgNET 0x100 (r.apply (rd s pgNET 0x100) v) s)) := by
  have hnet : pgState s pgNET = stOFF := beq_iff_eq.mp (List.all_eq_true.mp hoff 0 (by decide))
  refine congrArg Host.Outcome.next ?_
  simp only [gatedWrite, hr, hl, hoff, decide_eq_true hoct, hnet, Bool.and_false, Bool.and_self, Bool.not_true, Bool.false_eq_true,
    if_false, ne_eq, not_true_eq_false, false_and, and_false, or_self]

section Frames

variable {n : Nat} {f : Frame} {s t : State} (hrun : running s (portPage s n) = true) (hport : n < netPorts s) (hfcs : f.fcsOk = true)
  (ht : t = bump64 (portPage s n) 0x180 f.bytes.length s) (hmin : 64 ≤ f.bytes.length)
  (hmax : f.bytes.length ≤ rdF t (portPage s n) 0x104 13 0) (hmac : macOk t n f = true) (hvlan : vlanOk t n f = true)
  (hip : ipOk t n f = true) (hll : lossless t n (framePrio f) = false)
include hrun hport hfcs ht hmin hmax hmac hvlan hip hll

/-- A whole RoCEv2 frame that the port's filters pass, and that is neither marked nor for QP 1, reaches XPT (R491, R492). -/
theorem exec_frameReceive_roce {k : RPkt} (hk : f.kind = .roce k) (hce : k.ce = false) (hqp : k.qpn ≠ 1) :
    exec (.frameReceive n f) s = .next (xoffCheck n (framePrio f) (arrive n (framePrio f) f.bytes.length k t)) := by
  refine congrArg Host.Outcome.next ((if_neg (by simp [hrun, hport])).trans ?_)
  simp only [← ht]
  refine (if_neg (by simp [hfcs, hmin, hmax])).trans ((if_neg (by simp [hmac, hvlan, hip])).trans ?_)
  simp [hk, hce, hll, excClass, hqp]

/-- One of ARP goes to the exception ring (R493). -/
theorem exec_frameReceive_arp (hk : f.kind = .arp) : exec (.frameReceive n f) s = .next (exception n 1 f t) := by
  refine congrArg Host.Outcome.next ((if_neg (by simp [hrun, hport])).trans ?_)
  simp only [← ht]
  refine (if_neg (by simp [hfcs, hmin, hmax])).trans ((if_neg (by simp [hmac, hvlan, hip])).trans ?_)
  simp [hk, hll, excClass]

end Frames

/-- Settles O24, command by command. -/
theorem portsAndFramesComplete : Obligations.PortsAndFramesComplete := by
  unfold Obligations.PortsAndFramesComplete
  refine ⟨?_, ?_, ?_, ?_, ?_, ?_, ?_, ?_, ?_, ?_, ?_, ?_⟩
  · intro v s r hoff hoct hr hl
    exact exec_netModeWrite hoff hoct hr hl
  · rintro n f k s t _ hrun hport hk hce hqp hfcs ht hmin hmax hmac hvlan hip rfl hll
    exact exec_frameReceive_roce hrun hport hfcs ht hmin hmax hmac hvlan hip hll hk hce hqp
  · intro n f s t hrun hport hk hfcs ht hmin hmax hmac hvlan hip hll
    exact exec_frameReceive_arp hrun hport hfcs ht hmin hmax hmac hvlan hip hll hk
  · rintro v s _ rfl ha hq
    exact congrArg Host.Outcome.next (if_pos (by simp [ha, hq]))
  · intro n q s hx ha
    exact congrArg Host.Outcome.next (if_pos (by simp only [hx, ha, Bool.and_self]))
  · rintro n q k s _ _ hrun rfl hll hst hk rfl hat
    refine congrArg Host.Outcome.next ((if_neg (by simp [hrun])).trans ?_)
    exact (if_neg (by simp [hll, hst])).trans ((if_neg hk).trans (if_neg (by simp [hat])))
  · rintro n q s _ hrun rfl hll hst
    exact congrArg Host.Outcome.next ((if_neg (by simp [hrun])).trans ((if_neg (by simp [hll, hst])).trans (if_pos rfl)))
  · intro n q s hp
    exact congrArg Host.Outcome.next (if_pos hp)
  · rintro n q s _ hp hl hw rfl
    exact congrArg Host.Outcome.next (if_pos (by simp only [hp, hl, hw, Bool.and_self]))
  · rintro n q s _ hst hw rfl
    exact congrArg Host.Outcome.next (if_pos (by simp only [hst, hw, Bool.and_self]))
  · intro n s ha hn hpat
    exact congrArg Host.Outcome.next (if_pos (by simp [ha, hn, hpat]))
  · rintro n k s _ hup rfl
    exact congrArg Host.Outcome.next (if_pos hup)

end Sys2Proof.Machine
end

section
/-! PROOFS. Packets of the RDMA transport (O25). -/

namespace Sys2Proof.Machine

section Packets

variable {n i : Nat} {p : RPkt} {s t : State} (hl : leftWaiting s p = false) (ht : t = takeArrival n p s) (hq : inQ t = false)
  (ha : alive t pgXPT = true) (hi : p.icrcOk = true) (hk : p.pkey = 0xFFFF) (hx : qpIndex p.qpn = some i)
  (hr : resident t i = true) (ho : opcodeKnown (qpOf t i) p.opcode = true) (hst : (qpOf t i).st = .rts)
include hl ht hq ha hi hk hx hr ho hst

/-- Nothing that XPT looks at stops the packet of a resident queue pair in RTS (R510, R521). -/
theorem xptTake_rts (act : State → State) : xptTake n p s act = act t := by
  subst ht
  have hopen : ¬ (inQ (takeArrival n p s) || !alive (takeArrival n p s) pgXPT) = true := by simp [hq, ha]
  refine (if_neg (by simp [hl])).trans ((if_neg hopen).trans ?_)
  simp [screen, hi, hk, hx, hst, hr, ho]

end Packets

/-- The context of a queue pair stands as it was when it has been used. -/
@[simp] theorem qpOf_touch (i j : Nat) (s : State) : qpOf (touch i s) j = qpOf s j := rfl

section Requests

variable {n i : Nat} {p : RPkt} {t : State} (hx : qpIndex p.qpn = some i) (hst : (qpOf t i).st = .rts)
  (hc : psnCase (qpOf t i) p.psn = .expected) (hrx : (qpOf t i).rx = none)
include hx hst hc

/-- A request in sequence is carried out (R506). -/
theorem request_expected (dup fresh : Nat → State → State) : request n p t dup fresh = fresh i (touch i t) := by
  simp [request, hx, hst, hc]

include hrx

/-- A SEND of one packet takes a receive buffer and is delivered (R501). -/
theorem handleSend_only {v : State} (ho : p.opcode = 4) (hb : (qpOf t i).rxBufs ≠ 0) (hlen : p.payload.length ≤ rxBufBytes (touch i t))
    (hv : v = advance i 1 (touch i t)) :
    handleSend n p t =
      ackReq i p (deliver i p.payload (qpPut i { qpOf v i with rx := none, rxBufs := (qpOf v i).rxBufs - 1 } v)) := by
  subst hv
  rw [handleSend, request_expected hx hst hc]
  simp [sendFresh, seqOk, hrx, ho, isFirst, isLast, isInval, hb, Nat.not_lt.mpr hlen]

/-- An RDMA WRITE of one packet is placed in the window it may write (R514, R516). -/
theorem handleWrite_only {v : State} (ho : p.opcode = 10) (hlen : p.payload.length = p.len)
    (hacc : accessOk (touch i t) (qpOf t i) accWRITE p.rkey p.va p.len = true)
    (hv : v = advance i 1 (memWrite p.va p.payload (touch i t))) :
    handleWrite n p t = ackReq i p (qpPut i { qpOf v i with rx := none } v) := by
  subst hv
  rw [← hlen] at hacc
  rw [handleWrite, request_expected hx hst hc]
  simp [writeFresh, seqOk, hrx, ho, isFirst, isLast, ← hlen, hacc]

/-- A READ request is answered from the memory that it may read (R514). -/
theorem handleRead_expected (hroom : (qpOf t i).respQ.length < (qpOf t i).attrF 0x2C 1)
    (hacc : accessOk (touch i t) (qpOf t i) accREAD p.rkey p.va p.len = true) :
    handleRead n p t = readAnswer p i (advance i (pktsFor p.len (qpOf t i).pmtu) (touch i t)) := by
  rw [handleRead, request_expected hx hst hc]
  simp [readFresh, hrx, Nat.not_le.mpr hroom, hacc]

/-- An atomic on eight aligned bytes of DDR-5 stores its new value and answers with the old one, which it keeps for a duplicate (R518,
R519). -/
theorem handleAtomic_expected {o w : W64} {v : State} (hroom : (qpOf t i).respQ.length < (qpOf t i).attrF 0x2C 1)
    (hacc : accessOk (touch i t) (qpOf t i) accATOMIC p.rkey p.va 8 = true) (halign : p.va % 8 = 0)
    (hddr : region (touch i t) p.va = some .ddr) (hold : o = BitVec.ofNat 64 (ofLe (memRead (touch i t) p.va 8)))
    (hnew : w = if p.opcode = 0x14 then o + p.swap else if o = p.cmp then p.swap else o)
    (hv : v = advance i 1 (memWrite p.va (le 8 w.toNat) (touch i t))) :
    handleAtomic n p t = atomicAck i p.psn o (qpPut i { qpOf v i with
      atomics := ((qpOf v i).atomics ++ [(p.psn, o)]).drop ((qpOf v i).atomics.length + 1 - (qpOf v i).attrF 0x2C 1) } v) := by
  subst hv hnew hold
  rw [handleAtomic, request_expected hx hst hc]
  simp [atomicFresh, hrx, Nat.not_le.mpr hroom, hacc, halign, hddr]

end Requests

section Answers

variable {n i : Nat} {p : RPkt} {t : State} (hx : qpIndex p.qpn = some i) (hst : (qpOf t i).st = .rts)
include hx hst

/-- The only response of a READ, with every byte asked for, completes it (R520). -/
theorem handleReadResp_only {x : XTx} {v : State}
    (hfound : ((qpOf t i).unacked.find? fun t => t.msg.kind == .read && t.has p.psn) = some x) (hgot : x.got = 0) (htaken : x.taken = 0)
    (hpsn : psnDiff p.psn x.psn = 0) (hlen : p.payload.length = x.msg.len) (ho : p.opcode = 16)
    (hv : v = readData i x 0 p.payload (touch i t)) :
    handleReadResp n p t =
      pumpAll i (qpPut i (proven v { qpOf v i with unacked := (qpOf v i).unacked.erase x } [x]) v) := by
  subst hv
  simp [handleReadResp, hx, hst, hfound, hgot, htaken, hpsn, ← hlen, ho]

section Acks

variable (hout : ((qpOf t i).unacked.any fun t => t.has p.psn) = true)
include hout

theorem handleAck_ack (ho : p.opcode = 17) (hsyn : p.syndrome = 0x1F) : handleAck n p t = ackUpTo i p.psn (touch i t) := by
  simp [handleAck, hx, hst, hout, ho, hsyn]

/-- A PSN sequence NAK acknowledges what precedes its PSN and has the rest sent again, one retransmission more (R506; log entry 210). -/
theorem handleAck_seqNak {u : State} (ho : p.opcode = 17) (hsyn : p.syndrome = 0x60)
    (hu : u = ackMark i (psnAdd p.psn (2 ^ 24 - 1)) (touch i t)) (htries : (qpOf u i).timeouts < retryLimit u (qpOf u i)) :
    handleAck n p t = resendFrom i p.psn (qpPut i { qpOf u i with timeouts := (qpOf u i).timeouts + 1 } u) := by
  subst hu
  have hnak : handleAck n p t = seqNakked i p.psn (touch i t) := by simp [handleAck, hx, hst, hout, ho, hsyn]
  exact hnak.trans (if_neg (Nat.not_le.mpr htries))

/-- An RNR NAK does so under the RNR retry (R508; log entry 210). -/
theorem handleRnr_retries {u : State} (htries : (qpOf t i).rnrTries < (qpOf t i).rnrRetry)
    (hu : u = ackMark i (psnAdd p.psn (2 ^ 24 - 1)) (touch i t)) :
    handleRnr n p t = resendFrom i p.psn (qpPut i { qpOf u i with rnrTries := (qpOf u i).rnrTries + 1 } u) := by
  subst hu
  simp [handleRnr, hx, hst, hout, Nat.not_le.mpr htries]

end Acks

/-- A packet of a scatter message under way, of which it is not yet held, is placed at once and its bit set (R527, R528). -/
theorem handleSp_known {b : Nat} {m m' : SpRx} (hlive : (qpOf t i).scatterLive b = true) (hself : spSelfOk (qpOf t i) p = true)
    (hfound : ((qpOf t i).sp.find? fun m => m.msgId == p.msgId) = some m) (hagree : spAgrees (qpOf t i) m p = true)
    (hgot : m.got.contains p.idx = false)
    (hacc : p.opcode = 0xC1 → accessOk (touch i t) (qpOf t i) accWRITE p.rkey p.va p.payload.length = true)
    (hm : m' = { m with got := m.got ++ [p.idx], data := if p.opcode = 0xC1 then [] else Tab.put m.data p.idx p.payload }) :
    handleSp n b p t = spComplete ((qpOf t i).sp.length + 1) i
      (qpPut i { qpOf t i with sp := (qpOf t i).sp.map fun x => if x.msgId = m.msgId then m' else x }
        (if p.opcode = 0xC1 then memWrite p.va p.payload (touch i t) else touch i t)) := by
  subst hm
  have hplaced : ¬ (p.opcode = 0xC1 ∧ (!accessOk (touch i t) (qpOf t i) accWRITE p.rkey p.va p.payload.length) = true) :=
    fun h => by simp [hacc h.1] at h
  simp only [handleSp, hx, hst, hlive, hself, hfound, hagree, hgot, if_neg hplaced, List.length_map, Option.getD_some,
    Option.isNone_some, Option.isSome_some, Bool.not_true, Bool.false_eq_true, false_and, and_false, if_false, if_true, ne_eq,
    not_true_eq_false]

/-- What an SP_NAK names is sent again, and the message counts as one sent again (R530, R531). -/
theorem handleSpNak_resends {x : XTx} {l : List Nat} {u : State} (hany : (qpOf t i).scatterAny = true)
    (hfound : ((qpOf t i).unacked.find? fun t => (t.msg.kind == .spWrite || t.msg.kind == .spSend) &&
      t.msgId == field p.payload 0 3) = some x)
    (hlist : l = (List.range 64).filterMap fun b =>
      if (field p.payload 8 8).testBit b ∧ field p.payload 4 2 + b < x.pkts then some (field p.payload 4 2 + b) else none)
    (hu : u = l.foldl (fun s k => putPkt i (txPkt (qpOf t i) x k) s) t) :
    handleSpNak p t = bump pgXPT 0x214 l.length (qpPut i { qpOf t i with
      unacked := (qpOf t i).unacked.map fun u => if u = x then { x with resent := true } else u
      cautious := (qpOf t i).cautious || live u pgXPT 4
      rtoUs := if (qpOf t i).cautious then (qpOf t i).rtoUs else rdF u pgXPT 0x110 6 0
      proved := 0 } u) := by
  simp only [handleSpNak, hx, hst, hany, hfound, ← hlist, ← hu]
  rfl

/-- A CNP cuts the rate where none has within RISE_US (R500). -/
theorem handleCnp_cuts (hlive : live t pgXPT 3 = true) (hcut : cutRecently t (qpOf t i) = false) :
    handleCnp p t = qpPut i { qpOf t i with
      target := (qpOf t i).rate
      rate := clampRate t ((qpOf t i).rate - (qpOf t i).rate * rdF t pgXPT 0x118 31 24 / 256)
      stage := 0
      cutAt := some t.time } t := by
  simp [handleCnp, hx, hst, hlive, hcut]

end Answers

/-- Settles O25, packet by packet. That a resend on a NAK counts toward the retries, and that a NAK and an RNR NAK acknowledge what precedes
them, is the model's reading (log entry 210). -/
theorem packetsComplete : Obligations.PacketsComplete := by
  unfold Obligations.PacketsComplete
  refine ⟨?_, ?_, ?_, ?_, ?_, ?_, ?_, ?_, ?_, ?_, ?_, ?_, ?_, ?_⟩
  · rintro n i p s t _ v _ hl ht hq ha hi hk hx hr ho rfl rfl hst hc hrx hop hbufs hlen hv
    exact congrArg Host.Outcome.next ((xptTake_rts hl ht hq ha hi hk hx hr ho hst _).trans
      (handleSend_only hx hst hc hrx hop hbufs hlen hv))
  · rintro n i p s t _ v _ hl ht hq ha hi hk hx hr ho rfl rfl hst hc hrx hop hlen hacc hv
    exact congrArg Host.Outcome.next ((xptTake_rts hl ht hq ha hi hk hx hr ho hst _).trans
      (handleWrite_only hx hst hc hrx hop hlen hacc hv))
  · rintro n i p s t _ _ hl ht hq ha hi hk hx hr ho rfl rfl hst hc hrx hroom hacc
    exact congrArg Host.Outcome.next ((xptTake_rts hl ht hq ha hi hk hx hr ho hst _).trans
      (handleRead_expected hx hst hc hrx hroom hacc))
  · rintro n i p s t _ _ x v hl ht hq ha hi hk hx hr ho rfl rfl hst hfound hgot htaken hpsn hlen hop hv
    exact congrArg Host.Outcome.next ((xptTake_rts hl ht hq ha hi hk hx hr ho hst _).trans
      (handleReadResp_only hx hst hfound hgot htaken hpsn hlen hop hv))
  · rintro n i p s t _ hl ht hq ha hi hk hx hr ho rfl hst hout hop hsyn
    exact congrArg Host.Outcome.next ((xptTake_rts hl ht hq ha hi hk hx hr ho hst _).trans (handleAck_ack hx hst hout hop hsyn))
  · rintro n i p s t u _ hl ht hq ha hi hk hx hr ho rfl hst hout hop hsyn hu htries
    exact congrArg Host.Outcome.next ((xptTake_rts hl ht hq ha hi hk hx hr ho hst _).trans
      (handleAck_seqNak hx hst hout hop hsyn hu htries))
  · rintro n i p s t u _ hl ht hq ha hi hk hx hr ho rfl hst hout htries hu
    exact congrArg Host.Outcome.next ((xptTake_rts hl ht hq ha hi hk hx hr ho hst _).trans (handleRnr_retries hx hst hout htries hu))
  · rintro n i p s t _ _ o v hl ht hq ha hi hk hx hr ho rfl rfl hst hc hrx hroom hacc halign hddr hold hop hv
    exact congrArg Host.Outcome.next ((xptTake_rts hl ht hq ha hi hk hx hr ho hst _).trans
      (handleAtomic_expected hx hst hc hrx hroom hacc halign hddr hold (by simp [hop]) hv))
  · rintro n i p s t _ _ o v hl ht hq ha hi hk hx hr ho rfl rfl hst hc hrx hroom hacc halign hddr hold hop hv
    exact congrArg Host.Outcome.next ((xptTake_rts hl ht hq ha hi hk hx hr ho hst _).trans
      (handleAtomic_expected hx hst hc hrx hroom hacc halign hddr hold (by simp [hop]) hv))
  · rintro n i p s t _ _ m hl ht hq ha hi hk hx hr ho rfl rfl hst hlive hself hfound hagree hgot hop hacc
    refine congrArg Host.Outcome.next ((xptTake_rts hl ht hq ha hi hk hx hr ho hst _).trans ?_)
    rw [handleSp_known hx hst hlive hself hfound hagree hgot (fun _ => hacc) rfl, if_pos hop, if_pos hop]
  · rintro n i p s t _ _ m hl ht hq ha hi hk hx hr ho rfl rfl hst hlive hself hfound hagree hgot hop
    refine congrArg Host.Outcome.next ((xptTake_rts hl ht hq ha hi hk hx hr ho hst _).trans ?_)
    rw [handleSp_known hx hst hlive hself hfound hagree hgot (by simp [hop]) rfl, if_neg (by simp [hop]), if_neg (by simp [hop])]
  · rintro n i p s t _ _ m hl ht hq ha hi hk hx hr ho rfl rfl hst hlive hself hfound hagree hgot hop
    refine congrArg Host.Outcome.next ((xptTake_rts hl ht hq ha hi hk hx hr ho hst _).trans ?_)
    rw [handleSp_known hx hst hlive hself hfound hagree hgot (by simp [hop]) rfl, if_neg (by simp [hop]), if_neg (by simp [hop])]
  · rintro n i p s t _ x l u hl ht hq ha hi hk hx hr ho rfl hst hany hfound hlist hu
    exact congrArg Host.Outcome.next ((xptTake_rts hl ht hq ha hi hk hx hr ho hst _).trans
      (handleSpNak_resends hx hst hany hfound hlist hu))
  · rintro n i p s t _ hl ht hq ha hi hk hx hr ho rfl hst hlive hcut
    exact congrArg Host.Outcome.next ((xptTake_rts hl ht hq ha hi hk hx hr ho hst _).trans (handleCnp_cuts hx hst hlive hcut))

end Sys2Proof.Machine
end

section
/-! PROOFS. Queue pairs and windows (O26). -/

namespace Sys2Proof.Machine

/-- A gap of a scatter message that may ask again names the packets missing from its first one on (R530). -/
theorem exec_spGapExpiry {n k a x : Nat} {s : State} {m : SpRx}
    (hm : ((qpOf s n).sp.find? fun m => m.msgId == k && m.got.length != m.cnt) = some m) (hnaks : m.naks < rdF s pgXPT 0x114 18 16)
    (hq : inQ s = false) (ha : a = ((List.range m.cnt).find? fun k => !m.got.contains k).getD 0)
    (hx : x = (List.range 64).foldl (fun v b => if a + b < m.cnt ∧ !m.got.contains (a + b) then v + 2 ^ b else v) 0) :
    exec (.spGapExpiry n k) s = .next (putPkt n
      { qpn := (qpOf s n).destQpn, opcode := 0xC3, psn := m.psn
        payload := le 3 m.msgId ++ le 1 0 ++ le 2 a ++ le 2 0 ++ le 8 x }
      (bump pgXPT 0x234 1 (qpPut n { qpOf s n with
        sp := (qpOf s n).sp.map fun x => if x.msgId = k then { m with naks := m.naks + 1 } else x } s))) := by
  refine congrArg Host.Outcome.next ?_
  simp only [hm, ← ha, ← hx]
  exact if_neg (by simp [hnaks, hq])

/-- In service mode a timeout below RETRY has every packet from the first unacknowledged one sent again (R506). -/
theorem exec_retransmitTimeout_service {n : Nat} {s : State} (hst : (qpOf s n).st = .rts) (hun : (qpOf s n).unacked ≠ [])
    (hp : paused s (qpOf s n).port (qpOf s n).prio = false) (hq : inQ s = false) (hc : (qpOf s n).cautious = false)
    (htries : (qpOf s n).timeouts < (qpOf s n).retry) :
    exec (.retransmitTimeout n) s = .next (resendFrom n
      (((qpOf s n).unacked.head?.map fun t => psnAdd t.psn t.acked).getD 0)
      (qpPut n { qpOf s n with timeouts := (qpOf s n).timeouts + 1 } s)) := by
  refine congrArg Host.Outcome.next ((if_neg (by simp [hst, hun, hp, hq])).trans ?_)
  refine (if_neg (by simp [retryLimit, hc, htries])).trans ?_
  simp [hc]

/-- A command of QP_CMD acts while XPT is in RUN. -/
theorem qpCmd_runs {v : W32} {act : Nat → Qp → State → State} {s t : State} (ht : t = commandWrite pgXPT 0x148 v s)
    (hr : running t pgXPT = true) : qpCmd v s act = .next (act (qpSel t) (qpOf t (qpSel t)) t) := by
  subst ht
  exact congrArg Host.Outcome.next (if_neg (by simp [hr]))

/-- Settles O26, command by command. That the contexts are typed records, no bytes of memory, is the model's reading (log entry 157). -/
theorem queuePairsAndWindowsComplete : Obligations.QueuePairsAndWindowsComplete := by
  unfold Obligations.QueuePairsAndWindowsComplete
  refine ⟨?_, ?_, ?_, ?_, ?_, ?_, ?_, ?_, ?_, ?_, ?_, ?_, ?_, ?_, ?_, ?_⟩
  · rintro n k s _ m a x _ rfl hm hnaks hq ha hx rfl
    exact exec_spGapExpiry hm hnaks hq ha hx
  · rintro n s _ rfl hst hun hp hq hc htries
    exact exec_retransmitTimeout_service hst hun hp hq hc htries
  · rintro n s _ _ rfl hst hl hcut rfl
    exact congrArg Host.Outcome.next (if_neg (by simp [hst, hl, hcut]))
  · intro n s t ha hr ht
    refine congrArg Host.Outcome.next ((if_neg (by simp [ha, hr])).trans ?_)
    simp [ht]
  · intro n s ha hr
    exact congrArg Host.Outcome.next ((if_neg (by simp [ha, hr])).trans (if_pos rfl))
  · rintro v s t _ ht hr rfl hst
    change execQpInit v s = _
    rw [execQpInit, qpCmd_runs ht hr, if_pos hst]
  · rintro v s t _ _ ht hr rfl hst hattr rfl
    change execQpRtr v s = _
    rw [execQpRtr, qpCmd_runs ht hr, if_neg (not_not.mpr hst), if_neg (by simp [hattr])]
  · rintro v s t _ _ ht hr rfl hst hattr rfl
    change execQpRts v s = _
    rw [execQpRts, qpCmd_runs ht hr, if_neg (not_not.mpr hst), if_neg (by simp [hattr])]
  · intro n s hr hst
    refine congrArg Host.Outcome.next ((if_pos rfl).trans ?_)
    exact (if_neg (by simp [hr])).trans (if_pos (.inr (.inr hst)))
  · intro n k s hk
    exact congrArg Host.Outcome.next (if_neg hk)
  · rintro v s t _ ht hr rfl hu
    change execQpReset v s = _
    rw [execQpReset, qpCmd_runs ht hr, if_neg (by simp [hu]), if_neg (by simp [hu])]
  · rintro v s t _ ht hr rfl
    change execQpQuery v s = _
    rw [execQpQuery, qpCmd_runs ht hr]
  · rintro v s t _ ht hr rfl hst
    change execQpTest v s = _
    rw [execQpTest, qpCmd_runs ht hr, if_pos hst]
  · rintro v s _ _ rfl hr rfl hb
    exact congrArg Host.Outcome.next ((if_neg (by simp [hr])).trans (if_neg (by simp [hb])))
  · rintro v s _ _ rfl hr rfl hb
    exact congrArg Host.Outcome.next ((if_neg (by simp [hr])).trans (if_neg (by simp [hb])))
  · intro n s hb
    exact congrArg Host.Outcome.next (if_pos hb)

end Sys2Proof.Machine
end

section
/-! PROOFS. A step burns fuses one way (O40), and on an empty queue lets time pass (O36). -/

namespace Sys2Proof.Machine

/-- Whatever a step answers, its state comes by changes that keep what is stored and unburn no fuse. -/
theorem step_burns {s t : State} (h : step s = .next t) : s.fuses.burnsTo t.fuses := by
  cases hq : s.pending with
  | nil =>
    rw [step_of_empty hq] at h
    exact (Ends.next idleTick_moves t h).burns
  | cons c q =>
    rw [stepRunsTheFrontCommand c q s hq] at h
    exact (exec_ends c _ t h).burns

/-- Settles O40, from what every command keeps (R709 to R711, R745). -/
theorem everyStepBurnsFusesOneWay : Obligations.EveryStepBurnsFusesOneWay := fun _ _ => step_burns

/-- Settles O36: an empty queue is the one in which `step` runs no command. That it lets one microsecond pass is the model's choice (log
entry 1). -/
theorem emptyQueueCountsOneMicrosecond : Obligations.EmptyQueueCountsOneMicrosecond := fun _ => step_of_empty

end Sys2Proof.Machine
end

section
/-! PROOFS. What the check-value, memory, event, hallmark and clock commands leave (O56). -/

namespace Sys2Proof.Machine

/-- Settles O56, from what each command's meaning may change. -/
theorem infrastructureCommandsLeaveTheRest : Obligations.InfrastructureCommandsLeaveTheRest :=
  ⟨fun _ _ => Ends.leaves (fun _ => execCvuMessage_moves) rfl,
    fun _ _ => Ends.leaves (fun _ => execCvuArm_moves) rfl,
    fun _ _ => Ends.leaves (fun _ => execCvuDisarm_moves) rfl,
    fun _ _ => Ends.leaves (fun _ => execCvuResSeqRead_moves) rfl,
    fun _ => Ends.leaves (fun _ => execMemoryAccess_moves) rfl,
    fun _ => Ends.leaves (fun _ => execScRetire_moves) rfl,
    fun _ => Ends.leaves (fun _ => execSpRemap_moves) rfl,
    Ends.leaves (fun _ => execScCommandDone_moves) rfl,
    fun _ => Ends.leaves (fun _ => execMaintClean_moves) rfl,
    fun _ => Ends.leaves (fun _ => execMaintInval_moves) rfl,
    fun _ => Ends.leaves (fun _ => execMaintCleanInval_moves) rfl,
    fun _ => Ends.leaves (fun _ => execMaintCleanAll_moves) rfl,
    fun _ => Ends.leaves (fun _ => execMaintDone_moves) rfl,
    fun _ _ _ => Ends.leaves (fun _ => execPatrolScrub_moves) rfl,
    fun _ _ => Ends.leaves (fun _ => execDimmThermal_moves) rfl,
    fun _ _ _ _ _ _ => Ends.leaves (fun _ => execMemoryTrainingDone_moves) rfl,
    fun _ => Ends.leaves (fun _ => execDimmLost_moves) rfl,
    fun _ _ _ => Ends.leaves (fun _ => execEventOccurrence_moves) rfl,
    fun _ => Ends.leaves (fun _ => execEventRingWrite_moves) rfl,
    fun _ _ => Ends.leaves (fun _ => execSignal_moves) rfl,
    fun _ => Ends.leaves (fun _ => execEvqDone_moves) rfl,
    fun _ _ => Ends.leaves (fun _ => execSrcMaskWrite_moves) rfl,
    fun _ _ => Ends.leaves (fun _ => execRingConsWrite_moves) rfl,
    fun _ _ => Ends.leaves (fun _ => execEventRingEnable_moves) rfl,
    fun _ _ _ => Ends.leaves (fun _ => execHallmarkOccurrence_moves) rfl,
    Ends.leaves (fun _ => execHallmarkWrite_moves) rfl,
    Ends.leaves (fun _ => execRateWindowTick_moves) rfl,
    Ends.leaves (fun _ => execHlmScan_moves) rfl,
    fun _ => Ends.leaves (fun _ => execExportCmd_moves) rfl,
    Ends.leaves (fun _ => execExportDone_moves) rfl,
    fun _ => Ends.leaves (fun _ => execFwPost_moves) rfl,
    fun _ => Ends.leaves (fun _ => execTmkLoad_moves) rfl,
    fun _ => Ends.leaves (fun _ => execTmkCommit_moves) rfl,
    fun _ => Ends.leaves (fun _ => execTmkCommitDone_moves) rfl,
    fun _ => Ends.leaves (fun _ => execTmkConfirm_moves) rfl,
    fun _ => Ends.leaves (fun _ => execTmkRevert_moves) rfl,
    fun _ => Ends.leaves (fun _ => execPllLockLoss_moves) rfl,
    fun _ _ => Ends.leaves (fun _ => execPllRelockDone_moves) rfl,
    fun _ => Ends.leaves (fun _ => execPllRelockTimeout_moves) rfl,
    fun _ _ _ _ => Ends.leaves (fun _ => execRefMeasure_moves) rfl,
    fun _ => Ends.leaves (fun _ => execCoreClockLoss_moves) rfl,
    Ends.leaves (fun _ => execXtalLost_moves) rfl,
    fun _ => Ends.leaves (fun _ => execCtlFreqSwitch_moves) rfl⟩

end Sys2Proof.Machine
end

section
/-! PROOFS. What the lifecycle, debug, power, firmware, boot and pin commands leave (O57). -/

namespace Sys2Proof.Machine

/-- Settles O57, from what each command's meaning may change. -/
theorem securityAndPowerCommandsLeaveTheRest : Obligations.SecurityAndPowerCommandsLeaveTheRest :=
  ⟨Ends.leaves (fun _ => execDebugAccessResume_moves) rfl,
    fun _ => Ends.leaves (fun _ => execLcArm_moves) rfl,
    fun _ _ _ => Ends.leaves (fun _ => execLcMint_moves) rfl,
    fun _ _ => Ends.leaves (fun _ => execLcOwn_moves) rfl,
    fun _ _ => Ends.leaves (fun _ => execLcRetire_moves) rfl,
    fun _ => Ends.leaves (fun _ => execOwnerLockSet_moves) rfl,
    fun _ => Ends.leaves (fun _ => execD1Grant_moves) rfl,
    fun _ => Ends.leaves (fun _ => execD0Return_moves) rfl,
    Ends.leaves (fun _ => execDbgChallenge_moves) rfl,
    fun _ => Ends.leaves (fun _ => execDbgResponse_moves) rfl,
    fun _ => Ends.leaves (fun _ => execDbgAccessRead_moves) rfl,
    fun _ _ => Ends.leaves (fun _ => execDbgAccessWrite_moves) rfl,
    Ends.leaves (fun _ => execExtest_moves) rfl,
    fun _ _ => Ends.leaves (fun _ => execSamplePreload_moves) rfl,
    Ends.leaves (fun _ => execIdcode_moves) rfl,
    Ends.leaves (fun _ => execClamp_moves) rfl,
    Ends.leaves (fun _ => execHighz_moves) rfl,
    Ends.leaves (fun _ => execBypass_moves) rfl,
    Ends.leaves (fun _ => execTrstNAssert_moves) rfl,
    fun _ => Ends.leaves (fun _ => execPwrP0_moves) rfl,
    fun _ => Ends.leaves (fun _ => execPwrP1_moves) rfl,
    fun _ => Ends.leaves (fun _ => execPwrP2_moves) rfl,
    fun _ => Ends.leaves (fun _ => execPwrQuench_moves) rfl,
    Ends.leaves (fun _ => execPowerEntryDone_moves) rfl,
    fun _ _ => Ends.leaves (fun _ => execAvsUpdate_moves) rfl,
    Ends.leaves (fun _ => execPohTick_moves) rfl,
    fun _ => Ends.leaves (fun _ => execThermalSample_moves) rfl,
    Ends.leaves (fun _ => execThrottleStep_moves) rfl,
    fun _ => Ends.leaves (fun _ => execPowerSample_moves) rfl,
    fun _ => Ends.leaves (fun _ => execFwuStage_moves) rfl,
    fun _ => Ends.leaves (fun _ => execFwuVerify_moves) rfl,
    fun _ => Ends.leaves (fun _ => execFwuActivate_moves) rfl,
    fun _ => Ends.leaves (fun _ => execFwuConfirm_moves) rfl,
    fun _ => Ends.leaves (fun _ => execFwuCommandDone_moves) rfl,
    Ends.leaves (fun _ => execConfirmTimeout_moves) rfl,
    Ends.leaves (fun _ => execPowerOnReset_moves) rfl,
    Ends.leaves (fun _ => execAonPllLock_moves) rfl,
    Ends.leaves (fun _ => execResetNAssert_moves) rfl,
    fun _ => Ends.leaves (fun _ => execChipReset_moves) rfl,
    fun _ _ _ _ _ _ _ _ => Ends.leaves (fun _ => execBootRomRun_moves) rfl,
    fun _ => Ends.leaves (fun _ => execBootRetry_moves) rfl,
    fun _ => Ends.leaves (fun _ => execPortTrainTimeout_moves) rfl,
    Ends.leaves (fun _ => execEarlyCloseDue_moves) rfl,
    fun _ => Ends.leaves (fun _ => execPortLinkUp_moves) rfl,
    fun _ _ => Ends.leaves (fun _ => execPortLinkDown_moves) rfl,
    fun _ => Ends.leaves (fun _ => execFlashLinkDrop_moves) rfl,
    fun _ => Ends.leaves (fun _ => execCompletionTimeout_moves) rfl,
    fun _ => Ends.leaves (fun _ => execFatalAer_moves) rfl,
    fun _ => Ends.leaves (fun _ => execDpcContainment_moves) rfl,
    fun _ => Ends.leaves (fun _ => execControllerFatalStatus_moves) rfl,
    Ends.leaves (fun _ => execMramStackLost_moves) rfl,
    Ends.leaves (fun _ => execNorLost_moves) rfl,
    fun _ _ => Ends.leaves (fun _ => execSerdesLaneLockLoss_moves) rfl,
    fun _ => Ends.leaves (fun _ => execSerdesLanePllLost_moves) rfl,
    fun _ => Ends.leaves (fun _ => execVinAonLow_moves) rfl,
    Ends.leaves (fun _ => execVinAonLoss_moves) rfl⟩

end Sys2Proof.Machine
end

section
/-! PROOFS. Replication groups (O27). -/

namespace Sys2Proof.Machine

/-! Writes of GRP_CMD and GRP_NSCMD that take effect (R565). -/

theorem grpCmd_runs {op : Nat} {v : W32} {act : Nat → State → State} {s t : State} (ht : t = commandWrite pgRPL 0x148 v s)
    (hop : bits v 2 0 = op) (hr : running t pgRPL = true) : grpCmd op v s act = act (grpSel t) t := by
  subst ht
  exact if_pos ⟨hop, hr⟩

theorem nsCmd_runs {op : Nat} {v : W32} {act : Nat → Nat → Nat → State → State} {s t : State}
    (ht : t = commandWrite pgRPL 0x144 v s) (ha : (grpOf s (grpSel s)).active = false) (hop : bits v 31 30 = op)
    (hr : running t pgRPL = true) : nsCmd op v s act = updateTargets (act (grpSel t) (bits v 13 0) (bits v 29 16) t) := by
  subst ht
  exact (if_neg (by simp [ha])).trans (if_pos ⟨hop, hr⟩)

/-! What a source does once the answer of its last atomic on the lease is taken in (R549 to R553, R557). -/

section Source

variable {g : Nat} {s t u : State} {x : Grp} {k : Seg} (hs : sourceOn s g = true) (ht : t = settle g s)
include hs ht

theorem settled_of_source : (if sourceOn s g then settle g s else s) = t := by rw [if_pos hs, ht]

variable (hx : x = grpOf t g) (hon : sourceOn t g = true)
include hx hon

/-- A full segment for which the target has a slot is sealed and written; what is left goes into the next (R549, R551, R552). -/
theorem exec_segmentSealed_full (hst : x.st = .shipping) (hrun : x.running = true) (hcur : x.cur = none) (hres : x.resume = none)
    (hfull : segFull t g = true) (hroom : x.seq + 1 ≤ nseg t g + x.consumed)
    (hk : k = { seq := x.seq + 1, delta := x.delta, base := x.base, top := x.top, nrec := x.nrec, area := x.area,
                flags := b2n x.first + 2 * b2n x.work.isEmpty + 4 * b2n x.full + 8 * b2n x.restart })
    (hu : u = shipSeg g k t) :
    exec (.segmentSealed g) s = .next (if (grpOf u g).cur.isNone then u else
      absorb g (grpOf u g).work.length (grpPut g { grpOf u g with area := [], nrec := 0, first := false, restart := false } u)) := by
  have hslot : ¬ nseg t g < x.seq + 1 - x.consumed := by omega
  change execSegmentSealed g s = _
  simp only [execSegmentSealed, settled_of_source hs ht, ← hx, ← hk, ← hu]
  rw [if_neg (by simp [hon, hst, hrun, hcur, hres, hfull, hslot])]

/-- A segment whose write is acknowledged is announced by an atomic on PUBLISHED while the lease is held (R552, R557). -/
theorem exec_segmentWriteAck_written (hcur : x.cur = some k) (hstage : k.stage = .written) (hst : x.st = .shipping)
    (hl : holdsLease t x = true) :
    exec (.segmentWriteAck g) s = .next (postCas g 2 0 (BitVec.ofNat 64 (k.seq - 1)) (BitVec.ofNat 64 k.seq)
      (grpPut g { x with cur := some { k with stage := .publishing }, pubGot := none } t)) := by
  change execSegmentWriteAck g s = _
  simp only [execSegmentWriteAck, settled_of_source hs ht, ← hx, hcur]
  rw [if_pos (by simp [hon, hstage, hst, hl])]

/-- The publish of a segment that found the one before it moves the group on (R552). -/
theorem exec_publishResult_next {v : W64} (hcur : x.cur = some k) (hgot : x.pubGot = some v) (hstage : k.stage = .publishing)
    (hv : v.toNat = k.seq - 1) :
    exec (.publishResult g) s = .next (grpPut g { x with
      cur := none, pubGot := none, seq := k.seq, out := x.out ++ [k], st := if k.flags.testBit 1 then .waitApply else x.st } t) := by
  change execPublishResult g s = _
  simp only [execPublishResult, settled_of_source hs ht, ← hx, hcur, hgot]
  rw [if_neg (by simp [hon, hstage]), if_pos hv]

end Source

/-- Settles O27, command by command. -/
theorem replicationCompletes : Obligations.ReplicationCompletes := by
  unfold Obligations.ReplicationCompletes
  refine ⟨?_, ?_, ?_, ?_, ?_, ?_, ?_, ?_, ?_, ?_, ?_, ?_, ?_, ?_, ?_, ?_, ?_, ?_, ?_, ?_⟩
  · rintro v s t _ ht hop hr rfl hidle hmay hrole
    refine congrArg Host.Outcome.next ((grpCmd_runs ht hop hr).trans ?_)
    exact (if_neg (by simp [hidle, hmay])).trans (if_neg (by simp [hrole]))
  · rintro v s t _ ht hop hr rfl hon hrun hpin
    refine congrArg Host.Outcome.next ((grpCmd_runs ht hop hr).trans ?_)
    exact (if_neg (by simp [hon])).trans (if_neg (by simp [hrun, hpin]))
  · rintro v s t _ ht hop hr rfl hmay hrole hst
    refine congrArg Host.Outcome.next ((grpCmd_runs ht hop hr).trans ?_)
    simp [hmay, hrole, hst]
  · rintro v s t _ ht hop hr rfl
    exact congrArg Host.Outcome.next (grpCmd_runs ht hop hr)
  · rintro v s t _ ht hop hr rfl hrun
    refine congrArg Host.Outcome.next ((grpCmd_runs ht hop hr).trans ?_)
    simp [hrun]
  · rintro v s t _ _ ht hidle hop hr rfl rfl hlen hserves hfree
    refine congrArg Host.Outcome.next ((nsCmd_runs ht hidle hop hr).trans (congrArg updateTargets ?_))
    exact if_neg (by simp [Nat.not_le.mpr hlen, hserves, hfree])
  · rintro v s t _ _ ht hidle hop hr rfl rfl
    exact congrArg Host.Outcome.next (nsCmd_runs ht hidle hop hr)
  · intro g s hon
    exact congrArg Host.Outcome.next (if_pos hon)
  · rintro g s _ rfl hon hrun hpin
    exact congrArg Host.Outcome.next ((if_neg (by simp [hon])).trans (if_neg (by simp [hrun, hpin])))
  · rintro g s _ rfl hon hrun
    exact congrArg Host.Outcome.next ((if_neg (by simp [hon])).trans (if_pos (.inl hrun)))
  · intro g s t x k u hs ht hx hon hst hrun hcur hres hfull hroom hk hu
    exact exec_segmentSealed_full hs ht hx hon hst hrun hcur hres hfull hroom hk hu
  · intro g s t x k hs ht hx hon hcur hstage hst hl
    exact exec_segmentWriteAck_written hs ht hx hon hcur hstage hst hl
  · intro g s t x k v hs ht hx hon hcur hgot hstage hv
    exact exec_publishResult_next hs ht hx hon hcur hgot hstage hv
  · rintro g s t _ hs ht rfl hblock hact hrun
    refine congrArg Host.Outcome.next ((if_neg (by simp [hs])).trans ?_)
    simp [← ht, hblock, hact, hrun]
  · rintro g s t x b u hs ht hx hblock hu
    refine congrArg Host.Outcome.next ((if_neg (by simp [hs])).trans ?_)
    simp only [← ht, ← hx, hblock, ← hu]
  · rintro g s t hs ht hst
    refine congrArg Host.Outcome.next ((if_neg (by simp [hs])).trans ?_)
    simp [← ht, hst]
  · intro g s a hon ha
    refine congrArg Host.Outcome.next ((if_neg (by simp [hon])).trans ?_)
    simp [ha]
  · intro g s a hon ha htodo hready
    refine congrArg Host.Outcome.next ((if_neg (by simp [hon])).trans ?_)
    simp [ha, htodo, hready]
  · intro g s x v hon hl hx hv hnew
    refine congrArg Host.Outcome.next ((if_neg (by simp [hon, hl])).trans ?_)
    simp only [← hx, ← hv, if_pos hnew]
  · intro g s x v hon hl hx hv h0 hbeat hmiss
    refine congrArg Host.Outcome.next ((if_neg (by simp [hon, hl])).trans ?_)
    simp only [← hx, ← hv]
    exact (if_neg (not_or.mpr ⟨h0, not_not.mpr hbeat⟩)).trans (if_pos hmiss)

end Sys2Proof.Machine
end

section
/-! PROOFS. The Wadun link (O28). -/

namespace Sys2Proof.Machine

@[simp] theorem creditBack_zero (c : Nat) (s : State) : creditBack c 0 s = s := if_pos rfl

/-- A good MSG flit that is the next expected, brings no credit and acknowledges nothing is accepted (R571, R576). -/
theorem exec_flitReceive_expected {f : List Byte} {s t : State} (hup : linkUp s = true) (hok : flitOk f = true)
    (hack : flitF f 37 37 = 0) (hcred : flitF f 20 9 = 0) (htype : flitF f 63 62 = 1) (ht : t = pump s.wdl.txq.length s)
    (hup' : linkUp t = true) (hseq : flitF f 61 50 = t.wdl.rxExp) : exec (.flitReceive f 0 false) s = .next (acceptFlit f t) := by
  refine congrArg Host.Outcome.next ((if_neg (by simp [hup])).trans ((if_neg (by simp [hok])).trans ?_))
  simp [hack, hcred, htype, ← ht, hup', hseq]

/-- Lanes clean for 1 s widen the link to x32, and none of its failed lanes is left (R584). -/
theorem exec_linkWiden_all {s : State} (hst : lstate s = 3) (hl : live s pgWDL 0 = true) (hw : linkWidth s < 4) :
    ∃ t, exec (.linkWiden 0xFFFFFFFF) s = .next t ∧ linkWidth t = 4 ∧ rd t pgWDL 0x10C = 0 ∧ t.wdl.peerLanes = 0 := by
  have hnone : ∀ v : W32, v &&& ~~~(0xFFFFFFFF#32) = 0 := fun v => by simp
  refine ⟨_, congrArg Host.Outcome.next (if_pos ⟨hst, hl, hw⟩), rdF_wrF_self (by decide) (by decide) (by decide), ?_, hnone _⟩
  refine (rd_wr_same_page _ _).trans ((if_neg (by decide)).trans ((rd_wr_self ..).trans (hnone _)))

/-- Settles O28, command by command. -/
theorem linkCommandsComplete : Obligations.LinkCommandsComplete := by
  unfold Obligations.LinkCommandsComplete
  refine ⟨?_, ?_, ?_, ?_, ?_, ?_, ?_, ?_, ?_, ?_, ?_, ?_, ?_, ?_, ?_, ?_⟩
  · intro f s t hup hok hack hcred htype ht hup' hseq
    exact exec_flitReceive_expected hup hok hack hcred htype ht hup' hseq
  · intro f n s hup
    exact congrArg Host.Outcome.next ((if_neg (by simp [hup])).trans (if_pos rfl))
  · intro n k s hup hk
    refine congrArg Host.Outcome.next ((if_neg (by simp [hup])).trans ?_)
    simp only [hk]
  · intro s hup
    exact congrArg Host.Outcome.next (if_pos hup)
  · intro s hup how
    exact congrArg Host.Outcome.next (if_pos (by simp [hup, how]))
  · rintro l s _ hst hr hw rfl
    refine congrArg Host.Outcome.next ((if_neg (by simp [hst, hr])).trans ?_)
    simp [hw]
  · intro s hst hw
    exact congrArg Host.Outcome.next (if_pos ⟨hst, hw⟩)
  · rintro v s _ hc rfl hb hr hbar hst
    refine congrArg Host.Outcome.next ((atRegister_runs (by decide) hc).trans ?_)
    simp [hb, hr, hbar, hst]
  · rintro l s _ rfl hup hl hlive hw hlt
    refine congrArg Host.Outcome.next ((if_neg (not_or.mpr ⟨by simp [hup], hl⟩)).trans ?_)
    exact (if_neg (by simp [hlive, hw])).trans (if_neg (Nat.not_le.mpr hlt))
  · intro n l s t hup hst ht hlive hw
    refine congrArg Host.Outcome.next ((if_neg (by simp [hup])).trans ?_)
    simp only [← ht, hst]
    exact (if_neg (by simp [hlive, hw])).trans ((if_neg (by simp)).trans (congrArg (setWidth _) (if_pos rfl)))
  · intro n l s t hst ht hlive hw hlt
    refine congrArg Host.Outcome.next ((if_neg (by simp [linkUp, hst])).trans ?_)
    simp only [← ht, hst]
    refine (if_neg (by simp [hlive, hw])).trans ((if_neg fun h => Nat.not_le.mpr hlt h.2).trans ?_)
    exact congrArg (setWidth _) (if_neg (by decide))
  · intro s hst hl hw
    exact exec_linkWiden_all hst hl hw
  · intro s hst
    exact congrArg Host.Outcome.next (if_neg (not_not.mpr hst))
  · intro b s hst hclean href
    refine congrArg Host.Outcome.next ((if_neg (by simp [linkUp, hst, hclean])).trans ?_)
    exact (if_neg (not_not.mpr hst)).trans (if_pos href)
  · intro k s hst
    exact congrArg Host.Outcome.next (if_neg hst)
  · intro s hst
    exact congrArg Host.Outcome.next (if_pos (.inl hst))

end Sys2Proof.Machine
end

section
/-! PROOFS. Check units and the memory system (O30). -/

namespace Sys2Proof.Machine

/-! An access to memory that is served where it decodes (R619, R623, R625). -/

section Access

variable {x : MemAcc} {s : State} (hst : pgState s pgSC ≠ stFAULT)
include hst

/-- What is served and changes no register puts the SC in no fault. -/
theorem exec_memoryAccess_served {t : State} (hcsr : region s x.addr ≠ some .csr) (hm : memAccess x s = t) (hr : t.regs = s.regs)
    (ha : t.a0 = s.a0) : exec (.memoryAccess x) s = .next t := by
  have hkeep : pgState t pgSC = pgState s pgSC := rdF_congr hr ha ..
  subst hm
  exact congrArg Host.Outcome.next ((if_neg hcsr).trans (if_neg fun h => hst (hkeep.symm.trans h.2)))

theorem memAccess_scratch (hr : region s x.addr = some .scratch) (he : region s (x.addr + (x.size - 1)) = some .scratch) :
    memAccess x s = scratchAccess x s := by
  refine (if_neg hst).trans ((if_neg (by simp [hr, he])).trans ?_)
  simp only [hr]

theorem memAccess_ddr (hr : region s x.addr = some .ddr) (he : region s (x.addr + (x.size - 1)) = some .ddr)
    (hl : spanLost s .ddr x.addr x.size = false) (hs : regionServes s .ddr = true) (herr : x.err = .none) :
    memAccess x s = cachedAccess x s := by
  refine (if_neg hst).trans ((if_neg (by simp [hr, he])).trans ?_)
  simp [hr, hl, hs, erringAccess, herr]

end Access

/-! Maintenance over a range within 2^48 bytes (R627, R630). -/

theorem maintStart_starts {h op a n : Nat} {s t : State} (hb : bit (rd s pgSC (maintReg h 0x14)) 31 = false)
    (ha : a = (rd64 s pgSC (maintReg h 0)).toNat) (hn : n = (rd64 s pgSC (maintReg h 8)).toNat) (h0 : n ≠ 0) (hle : a + n ≤ 2 ^ 48)
    (ht : t = wr pgSC (maintReg h 0x14) 0x80000000 s) :
    maintStart h op s = { t with msys := { t.msys with maint := Tab.put t.msys.maint h ⟨op, a, n⟩ } } := by
  subst ha hn ht
  exact (if_neg (by simp [hb])).trans (if_neg (by omega))

/-- Settles O30, command by command. The number of the cause FIRMWARE in hallmark 0x0501 and that of a scrub in hallmarks 0x0601 and 0x0701
are the model's choice (log entry 222), and so is how a cached access allocates and dirties lines (log entry 69). -/
theorem checksAndMemoryComplete : Obligations.ChecksAndMemoryComplete := by
  unfold Obligations.ChecksAndMemoryComplete
  refine ⟨?_, ?_, ?_, ?_, ?_, ?_, ?_, ?_, ?_, ?_, ?_, ?_, ?_, ?_, ?_, ?_, ?_⟩
  · intro n b s hcov hlong hgate
    exact congrArg Host.Outcome.next
      ((if_neg (by simp [hcov])).trans ((if_neg (by simp [hlong])).trans (if_neg (by simp [hgate]))))
  · intro n v s
    exact ⟨rfl, rfl⟩
  · rintro m n s _ rfl
    rfl
  · intro x s w b hst hr he hw herr hb
    refine exec_memoryAccess_served hst (by simp [hr]) ((memAccess_scratch hst hr he).trans ?_) rfl rfl
    simp [scratchAccess, hw, herr, hb]
  · intro x s w hst hr he hw herr hb hp
    refine exec_memoryAccess_served hst (by simp [hr]) ((memAccess_scratch hst hr he).trans ?_) rfl rfl
    simp [scratchAccess, hw, herr, hb, hp]
  · intro x s hr he hl hs herr
    have hst : pgState s pgSC ≠ stFAULT := by
      intro h
      simp [regionServes, h] at hs
    exact exec_memoryAccess_served hst (by simp [hr]) (memAccess_ddr hst hr he hl hs herr)
      (cachedAccess_moves.within .regs rfl) (cachedAccess_moves.within .a0 rfl)
  · intro n s hb hway hn hfloor
    exact congrArg Host.Outcome.next
      ((if_neg (by simp [hb])).trans ((if_neg (by simp [hway, hn])).trans (if_neg (by simp [hfloor]))))
  · intro n k s hb hway hn hfloor hk
    refine congrArg Host.Outcome.next ((if_neg (by simp [hb])).trans ((if_neg (by simp [hway, hn])).trans ?_))
    simp [hk, hfloor]
  · intro n k s hq hop hway
    refine congrArg Host.Outcome.next ?_
    simp only [hop, hq, Bool.false_eq_true, if_false]
    exact congrArg (scEnd 0) (if_neg hway)
  · rintro n k s t u hq hop hway ht hu
    have hway' : wayState t k = wayCACHE := by
      subst ht
      exact hway
    refine congrArg Host.Outcome.next ?_
    simp only [hop, hq, Bool.false_eq_true, if_false, ← ht, if_pos hway', ← hu]
  · intro h s t a n hb ha hn h0 hle ht
    have hstart (op : Nat) := maintStart_starts (op := op) hb ha hn h0 hle ht
    exact ⟨_, fun _ => rfl, congrArg Host.Outcome.next (hstart 1), congrArg Host.Outcome.next (hstart 2),
      congrArg Host.Outcome.next (hstart 3), congrArg Host.Outcome.next (hstart 4)⟩
  · rintro h s t m hm hop hq ht
    refine congrArg Host.Outcome.next ?_
    simp [hm, hop, hq, ← ht]
  · intro p n u s hl hr
    exact congrArg Host.Outcome.next (if_pos (by simp [hl, hr]))
  · rintro p n s t ht hp hl hhot hcold
    refine congrArg Host.Outcome.next ?_
    simp only [← ht]
    exact (if_pos ⟨hp, hl⟩).trans ((if_pos hhot).trans (if_neg (by rw [hcold]; decide)))
  · intro p s
    rfl
  · intro p g d r l s hst htr
    exact congrArg Host.Outcome.next ((if_neg (by simp [hst, htr])).trans (if_pos rfl))
  · intro s
    rfl

end Sys2Proof.Machine
end

section
/-! PROOFS. Event queues, the hallmark log and Touchmark (O31). -/

namespace Sys2Proof.Machine

/-- A write of TMK_CMD acts where TMK serves, is not BUSY, no quench has begun, and LEN is in range (R682, R684). -/
theorem tmkGuard_runs {v : W32} {act : State → State} {s t : State} (ht : t = commandWrite pgTMK 0x110 v s)
    (hb : bit (rd t pgTMK 0x114) 31 = false) (ha : alive t pgTMK = true) (hq : inQ t = false)
    (hlen : rdF t pgTMK 0x108 17 0 ≤ tmkMaxLen) : tmkGuard v s act = act t := by
  subst ht
  exact (if_neg (by simp [hb])).trans ((if_neg (by simp [ha])).trans ((if_neg (by simp [hq])).trans (if_neg (Nat.not_lt.mpr hlen))))

/-- The scan of a store that serves, in START, finds the next SEQ and the slots that fail the check (R669). -/
theorem exec_hlmScan_scans {s t : State} {l : List (List Byte)} {n k : Nat} (hsc : s.hlm.scanned = false) (hq : alive s pgQST = true)
    (hl : l = (hlmTouched s).map (hlmSlotBytes s))
    (hn : n = (l.filter hlmValid).foldl (fun n bs => Nat.max n (field bs 0 8 + 1)) 0)
    (hk : k = (l.filter fun bs => !hlmValid bs && field bs 0x3C 4 != 0).length) (hst : pgState s pgHLM = stSTART)
    (ht : t = bump pgHLM 0x1C8 k (wr64 pgHLM 0x140 (BitVec.ofNat 64 n) s)) :
    exec .hlmScan s = .next (hallmark 0x0902 0 (pw2 n ++ [pw k]) { t with hlm := { t.hlm with scanned := true } }) := by
  change execHlmScan s = _
  rw [execHlmScan, if_neg (by simp [hsc, hq, hst])]
  simp only [← hl, ← hn, ← hk, ← ht]

/-- Settles O31, command by command. That a check of a block and a unit's failure come with the record that reports them, and the code 3
with which hallmark 0x0A03 reports a CONFIRM, are the model's choice (log entries 204 and 228); that a hallmark's write and an EXPORT_CMD
are one step each is its reading (log entry 227). -/
theorem eventsAndLogsComplete : Obligations.EventsAndLogsComplete := by
  unfold Obligations.EventsAndLogsComplete
  refine ⟨?_, ?_, ?_, ?_, ?_, ?_, ?_, ?_, ?_, ?_, ?_, ?_, ?_, ?_, ?_, ?_, ?_, ?_, ?_⟩
  · intro p l i s hl
    exact congrArg Host.Outcome.next (if_neg (by simp [hl]))
  · intro k x s hr he hq hx hf
    refine congrArg Host.Outcome.next ((if_pos (by simp [hr, he, hq])).trans ?_)
    simp [hx, hf]
  · rintro m v s _ rfl hm hl
    exact congrArg Host.Outcome.next ((if_neg (Nat.not_le.mpr hm)).trans (if_pos hl))
  · intro v k s hk
    exact congrArg Host.Outcome.next (by simp only [hk])
  · intro k v s
    exact ⟨rfl, rfl⟩
  · intro k v s
    rfl
  · rintro k v s _ hoff rfl hon
    exact congrArg Host.Outcome.next ((if_neg (by simp [hoff])).trans (if_pos (by simp [hoff, hon])))
  · intro h n p s hpath hword
    have hnot : ¬ (h = 0x1203 ∧ n < 16) := by omega
    refine congrArg Host.Outcome.next ?_
    simp only [if_neg hnot, if_neg hword]
  · intro s r l q t hbuf hqst hhlm hsc hq ht
    refine congrArg Host.Outcome.next ?_
    simp only [hbuf, ← hq, ← ht]
    exact if_pos (by simp [hqst, hhlm, hsc])
  · intro s
    rfl
  · intro s l n k t hsc hq hl hn hk hst ht
    exact exec_hlmScan_scans hsc hq hl hn hk hst ht
  · rintro v s _ hb hl rfl
    exact if_neg (by simp [hb, hl])
  · intro s
    rfl
  · rintro v s _ rfl hb hl hcode
    exact congrArg Host.Outcome.next ((if_pos hb).trans (if_pos (by simp [hl, hcode])))
  · intro v s t b ht hb ha hq hlen hcur
    refine congrArg Host.Outcome.next ((tmkGuard_runs ht hb ha hq hlen).trans ?_)
    simp only [hcur]
  · rintro v s t _ ht hb ha hq hlen hmig hcur rfl
    refine congrArg Host.Outcome.next ((tmkGuard_runs ht hb ha hq hlen).trans ((if_neg (by simp [hmig])).trans ?_))
    simp [hcur]
  · rintro b s t u hb hu ht hv hfrom
    have hfresh : u.tmk.fromCurrent = false := by
      subst ht
      exact hfrom
    refine congrArg Host.Outcome.next ?_
    simp only [hb, List.foldl_nil, ← hu, ← ht, hv, if_true]
    simp only [hfresh, Bool.and_false, Bool.false_and, Bool.false_eq_true, if_false]
  · intro v s t b ht hb ha hq hlen hmig hcur
    refine congrArg Host.Outcome.next ((tmkGuard_runs ht hb ha hq hlen).trans ((if_pos hmig).trans ?_))
    simp only [hcur]
  · intro v s t ht hb ha hq hlen hmig
    exact congrArg Host.Outcome.next ((tmkGuard_runs ht hb ha hq hlen).trans (if_pos hmig))

end Sys2Proof.Machine
end

section
/-! PROOFS. Clocks and power states (O32). -/

namespace Sys2Proof.Machine

/-- A PLL that CLK relocks is neither that of CORE nor that of QST. -/
theorem relocks_not_core {d : Nat} (h : relocks d = true) : ¬ (d = dmCORE ∨ d = dmQST) := by
  rintro (rfl | rfl)
  · exact absurd h (by decide)
  · exact absurd h (by decide)

@[simp] theorem hallmark_cells (code inst : Nat) (payload : List W32) (s : State) : (hallmark code inst payload s).cells = s.cells :=
  hallmark_moves.within .cells rfl

/-- A tick counts one unit of POH and adds its weight, whatever mark of the budget is reached (R728, R729). -/
theorem exec_pohTick_cells (s : State) : ∃ t, exec .pohTick s = .next t ∧ t.cells.poh = s.cells.poh + 1 ∧
    t.cells.wear = s.cells.wear + BitVec.ofNat 64 (wearWeight (rdF s pgPWR 0x120 7 0) (rdF s pgPWR 0x110 9 0)) := by
  refine ⟨_, rfl, ?_⟩
  simp only [apply_ite State.cells, hallmark_cells, ite_self, and_self]

/-- An entry into P1 ends with the SC's ways, the sleeping octets and the idle lanes down (R719). -/
theorem exec_powerEntryDone_p1 {s t : State} (hst : pwrState s = psENTERING) (hex : exiting s = false)
    (hto : rdF s pgPWR 0x104 10 8 = 1) (hfrom : s.pwr.fromState = 0)
    (ht : t = (sleepy s).foldl (fun s n => laneSet n false s) (scPowerDown s)) :
    exec .powerEntryDone s = .next (hallmark 0x3201 0 [pw 0, pw 1, 0]
      (wrF pgPWR 0x104 31 31 0 (wrF pgPWR 0x104 2 0 1 (setAsleep (idleLanes t) t)))) := by
  refine congrArg Host.Outcome.next ((if_neg (by simp [hst, hex])).trans ?_)
  simp [hto, hfrom, ← ht]

/-- Settles O32, command by command. That the tick clears DBG's bit of DOM_STAT until TCK toggles again is the model's reading (log entry
230), and so is which octets P1 puts to sleep (log entry 65). -/
theorem clocksAndPowerComplete : Obligations.ClocksAndPowerComplete := by
  unfold Obligations.ClocksAndPowerComplete
  refine ⟨?_, ?_, ?_, ?_, ?_, ?_, ?_, ?_, ?_, ?_, ?_, ?_, ?_, ?_, ?_, ?_, ?_, ?_, ?_, ?_, ?_, ?_⟩
  · rintro d s _ hrel hlock rfl hl
    exact congrArg Host.Outcome.next
      ((if_neg (relocks_not_core hrel)).trans ((if_pos (by simp [hrel, hlock])).trans (if_pos hl)))
  · intro s
    exact ⟨congrArg Host.Outcome.next (if_pos (.inl rfl)), congrArg Host.Outcome.next (if_pos (.inr rfl))⟩
  · rintro d n s _ hheld hc rfl
    exact congrArg Host.Outcome.next ((if_neg (by simp [hheld])).trans (if_pos hc))
  · intro d s hc
    exact congrArg Host.Outcome.next (if_pos hc)
  · intro s hosc
    exact congrArg Host.Outcome.next (if_neg (by simp [hosc]))
  · rintro x a b k s t ha hx href ht hl
    have hboth : 2 * b2n true = 2 := rfl
    refine congrArg Host.Outcome.next ((if_neg (by simp [ha])).trans ?_)
    simp only [hx, href, Bool.true_and, hboth, ← ht, hl, if_true]
  · intro d s hd
    exact congrArg Host.Outcome.next (if_pos hd)
  · intro v s
    rfl
  · rintro v s _ rfl hex hst
    exact congrArg Host.Outcome.next ((if_neg (by simp [hex])).trans (if_pos (.inl hst)))
  · rintro v s _ rfl hst href
    refine congrArg Host.Outcome.next ((if_neg (not_not.mpr hst)).trans ?_)
    simp only [href]
  · rintro v s _ rfl hst hex href
    refine congrArg Host.Outcome.next ((if_neg ?_).trans ?_)
    · rintro (⟨h0, h1⟩ | h)
      · exact hst.elim h0 h1
      · simp [hex] at h
    · simp only [href]
  · intro v s
    rfl
  · intro n s ha hq
    exact congrArg Host.Outcome.next ((if_neg (by simp [ha, hq])).trans (if_neg (by simp)))
  · intro s t hst hex hto hfrom ht
    exact exec_powerEntryDone_p1 hst hex hto hfrom ht
  · exact exec_pohTick_cells
  · rintro n s _ ha rfl hn hlim
    refine congrArg Host.Outcome.next ((if_neg (by simp [ha])).trans ((if_neg (Nat.not_le.mpr hn)).trans ?_))
    exact (if_neg (by omega)).trans (if_pos hlim)
  · intro s hq ha hhot hf
    exact congrArg Host.Outcome.next ((if_neg (by simp [hq, ha])).trans ((if_pos (by simp [hhot])).trans (if_pos hf)))
  · intro s hq ha hhot hcap hg
    refine congrArg Host.Outcome.next ((if_neg (by simp [hq, ha])).trans ?_)
    exact (if_neg (by simp [hhot, hcap])).trans (if_pos (by simp [hg]))
  · intro n s ha
    exact ⟨_, _, congrArg Host.Outcome.next (if_neg (by simp [ha])), rfl, rfl, rfl⟩
  · intro o l s huse hl hlost
    exact congrArg Host.Outcome.next (if_pos ⟨huse, hl, by rw [hlost]; rfl⟩)
  · intro o s hoff hfault
    exact congrArg Host.Outcome.next (if_neg (by simp [hoff, hfault]))
  · intro n s ha
    exact congrArg Host.Outcome.next (if_neg (by simp [ha]))

end Sys2Proof.Machine
end

section
/-! PROOFS. The TAP's reset by TRST_N (O33). -/

namespace Sys2Proof.Machine

/-- A scan toggles TCK, which DOM_STAT's bit of DBG shows (R706). -/
theorem bit_domStat_tapScan (i : TapIr) (p : Pins) (s : State) : bit (rd (tapScan i p s) pgCLK 0x100) dmDBG = true := by
  change bit (rd (wrF pgCLK 0x100 dmDBG dmDBG 1 s) pgCLK 0x100) dmDBG = true
  rw [wrF, rd_wr_self, bit_putBits (by decide) (by decide), if_pos (by decide)]
  rfl

/-- TRST_N resets the TAP without a tick of TCK: with no debug access waiting, every register stays (R699). -/
theorem exec_trstNAssert_regs {s : State} (h : s.dbg.waiting = []) :
    ∃ t, exec .trstNAssert s = .next t ∧ ∀ p off, rd t p off = rd s p off := by
  have habandon : (dbgAbandon { s with dbg := { s.dbg with bsr := [] } }).regs = s.regs := by simp [dbgAbandon, h]
  have hstep : (dbgAbandon { s with dbg := { s.dbg with bsr := [] } }).a0 = s.a0 := by simp [dbgAbandon, h]
  exact ⟨_, rfl, fun p off => rd_congr habandon hstep p off⟩

/-- Refutes O33: the statement has TRST_N scan the TAP, and so toggle TCK, which sets DOM_STAT's bit of DBG (R706, log entry 230).
TRST_N_ASSERT resets the TAP without TCK (R699, R762): from the reset state, where DOM_STAT is 0x0A1 (log entry 11), the bit stays 0. -/
theorem not_lifecycleAndDebugComplete : ¬ Obligations.LifecycleAndDebugComplete := by
  unfold Obligations.LifecycleAndDebugComplete
  rintro ⟨-, -, -, -, -, -, -, -, -, -, -, -, htrst, -⟩
  obtain ⟨t, ht, hregs⟩ := exec_trstNAssert_regs (s := State.reset) rfl
  have hscan := Host.Outcome.next.inj (ht.symm.trans (htrst State.reset))
  have hreset : bit (rd State.reset pgCLK 0x100) dmDBG = false := by decide
  rw [← hregs, hscan, bit_domStat_tapScan] at hreset
  exact absurd hreset (by decide)

end Sys2Proof.Machine
end

section
/-! PROOFS. Firmware update, resets and boot (O34). -/

namespace Sys2Proof.Machine

/-- A write of FWU_CMD acts while FWU is in RUN and no command is under way (R748). -/
theorem fwuCmd_runs {v : W32} {act : State → State} {s t : State} (ht : t = commandWrite pgFWU 0x128 v s) (hb : fwuBusy s = false)
    (hr : running s pgFWU = true) : fwuCmd v s act = .next (act t) := by
  subst ht
  exact congrArg Host.Outcome.next ((if_neg (by simp [hb])).trans (if_neg (by simp [hr])))

/-- A trial that is not confirmed in time has its slot emptied and the other preferred, and the chip reset (R746). -/
theorem exec_confirmTimeout_reverts {s t u : State} {n : Nat} (htrial : onTrial s = true) (hq : inQ s = false)
    (hl : live s pgFWU 0 = true) (hmig : bit (rd s pgTMK 0x114) 30 = false) (hn : n = runSlot s)
    (ht : t = { s with cells := { setSlot n .empty s.cells with pref := 1 - n } })
    (hu : u = (draw (hallmark 0x3105 0 [pw n, Config.free32 t.free] (bump pgFWU 0x168 1 t))).2) :
    exec .confirmTimeout s = .next (chipReset rsFWU_REVERT (flushHallmarks u.hlm.buf.length u)) := by
  have hfree : t.free = s.free := by rw [ht]
  rw [hfree] at hu
  refine congrArg Host.Outcome.next ((if_neg (by simp [htrial, hq, hl])).trans ?_)
  simp only [hmig, Bool.false_eq_true, if_false, ← hn, ← ht, ← hu]

/-- The boot ROM runs through where every fuse word passes its check, 6, 8 or 12 channels answer from the first on, and none of them fails
training (R754, R755). -/
theorem exec_bootRomRun_boots {k g d r n : Nat} {b e : List Nat} {s t u : State} (hdue : s.boot.due ≠ 0)
    (hpll : s.aon.pllLocked = true) (hheld : s.clk.resetHeld = false) (hq : inQ s = false)
    (ht : t = { s with
      aon := { s.aon with rails := true, resetN := true }, boot := { s.boot with due := 0, cause := s.boot.due, untold := true } })
    (hu : u = romControl (romLifecycle (bump pgTOP 0x158 k (setIr t.dbg.ir .normal t)))) (hok : dimmsOk b = true)
    (hgood : (b.any e.contains) = false) :
    exec (.bootRomRun true k b e g d r n) s = .next (romBoot n (romRun pgFWU 0 (romMemory b.length g d r u))) := by
  subst ht hu
  refine congrArg Host.Outcome.next ((if_neg (by simp [hdue, hpll, hheld, hq])).trans ((if_neg (by decide)).trans ?_))
  exact (if_neg (by simp [hok])).trans (if_neg (by simp [hgood]))

/-- Settles O34, command by command. That the second word of a revert's hallmark is free is the model's choice (log entry 49); that a revert
and RESET_N low reset the chip at once (log entries 32 and 33), and what the loss of VIN_AON leaves (log entry 34), are its reading. -/
theorem firmwareAndBootComplete : Obligations.FirmwareAndBootComplete := by
  unfold Obligations.FirmwareAndBootComplete
  refine ⟨?_, ?_, ?_, ?_, ?_, ?_, ?_, ?_, ?_, ?_, ?_, ?_, ?_, ?_, ?_, ?_⟩
  · rintro v s t n _ ht hb hr href hslot rfl
    change execFwuStage v s = _
    rw [execFwuStage, fwuCmd_runs ht hb hr]
    simp only [href, hslot]
    rfl
  · intro v s t ht hb hr
    change execFwuVerify v s = _
    rw [execFwuVerify, fwuCmd_runs ht hb hr]
  · intro v s t ht hb hr hhold href
    change execFwuActivate v s = _
    rw [execFwuActivate, fwuCmd_runs ht hb hr, if_neg (by simp [hhold])]
    simp only [href]
  · intro v s t ht hb hr htrial hmig
    change execFwuConfirm v s = _
    rw [execFwuConfirm, fwuCmd_runs ht hb hr]
    exact congrArg Host.Outcome.next ((if_neg (by simp [htrial])).trans (if_neg (by simp [hmig])))
  · rintro s _ _ hq hop rfl rfl
    refine congrArg Host.Outcome.next ((if_neg (by simp [hq])).trans ?_)
    simp only [hop]
    exact if_neg (by simp)
  · intro s n t u htrial hq hl hmig hn ht hu
    exact exec_confirmTimeout_reverts htrial hq hl hmig hn ht hu
  · intro s
    rfl
  · intro s
    rfl
  · rintro s _ rfl
    rfl
  · rintro s _ hvin rfl hst hb
    exact congrArg Host.Outcome.next ((if_neg (by simp [hvin])).trans (if_pos ⟨hst, by simp [hb]⟩))
  · rintro s _ hn rfl hq hr hd
    refine congrArg Host.Outcome.next ((if_neg (by simp [hn])).trans ((if_neg (by simp [hq])).trans ?_))
    exact if_pos (by simp [hr, hd])
  · rintro s _ hn rfl hq hr
    refine congrArg Host.Outcome.next ((if_neg (by simp [hn])).trans ((if_neg (by simp [hq])).trans ?_))
    exact if_neg (by simp [hr])
  · intro n s hq
    exact congrArg Host.Outcome.next (if_neg (by simp [hq]))
  · intro k g d r n b e s t u hdue hpll hheld hq ht hu hok hgood
    exact exec_bootRomRun_boots hdue hpll hheld hq ht hu hok hgood
  · intro n s hw
    exact congrArg Host.Outcome.next (if_pos hw)
  · intro p s hp hst htr hing
    exact congrArg Host.Outcome.next ((if_neg (by simp [hp, hst, htr])).trans (if_neg (by simp [hing])))

end Sys2Proof.Machine
end
